-- ==== Sys2Proof/Word.lean ====
section
/-! DEFINITION. The widths the spec gives its words (00 R7, R10). -/

namespace Sys2Proof

/-- A byte. -/
abbrev Byte := BitVec 8

/-- A set-up register's word (00 R10). -/
abbrev Word := BitVec 32

end Sys2Proof
end

