-- ==== Sys2Proof/Syntax.lean ====
section
/-! DEFINITION. The commands of the DX-3208 and what they carry. A command is one row of spec/opcode_table.json. -/

namespace Sys2Proof

/-- A line port, LP0 to LP7 (00 R3). -/
abbrev Port := Fin 8
/-- A host lane, HL0 to HL15 (00 R3). -/
abbrev Lane := Fin 16
/-- A bias control loop, BL0 to BL15 (00 R3). -/
abbrev LoopNo := Fin 16
/-- An auxiliary DAC channel, AX0 to AX23 (00 R3). -/
abbrev AuxCh := Fin 24
/-- A monitor converter input, MI0 to MI31 (00 R3). -/
abbrev InputNo := Fin 32
/-- A memory identifier (15 Table 15.1). -/
abbrev MemId := Fin 20
/-- A check engine channel, CK0 to CK3 (00 R3). -/
abbrev Chan := Fin 4
/-- A boundary that the slack governor watches (02 Table 2.1). -/
abbrev Bound := Fin 64
/-- A ring context number (13 R448). -/
abbrev RingNo := Fin 16384

/-- A pair of a line port (00 R4). -/
inductive Pair where
  | a | b
  deriving DecidableEq, Repr

/-- A management transport (01 Table 1.5). -/
inductive Transport where
  | pcie | spi | mdio
  deriving DecidableEq, Repr

/-- Where a register access goes: a set-up register by its BAR0 offset, a double word of the MSI-X table or of the pending-bit
array by its offset from the table's start (13 R441), or an MDIO register by port address, device and number (13 R445, R446). -/
inductive RegTarget where
  | setup (off : BitVec 16)
  | msix (off : BitVec 16)
  | mdio (prtad mmd reg : Nat)
  deriving DecidableEq, Repr

/-- A transmitter: a port's line transmitters or a host lane's (01 R23). -/
inductive TxSel where
  | line (p : Port)
  | host (l : Lane)
  deriving DecidableEq, Repr

/-- A direction of a port's stream: receive (line to host) or transmit (host to line). -/
inductive Dir where
  | rx | tx
  deriving DecidableEq, Repr

/-- How an operation that is tried at most twice went (13 R469). -/
inductive Attempt where
  | first | second | failed
  deriving DecidableEq, Repr

/-- A descriptor as fetched (13 Table 13.7): its submission ring, its entry index, its 32 bytes with byte 0 lowest, and how
the reads of its data from outside the block go (13 R469). Whether its fetch took a second attempt, and the fetch time, are
the block's own. glitch names a word of the memory that the command reads and what the first of the word's reads sees flipped
in it (15 R507). -/
structure Desc where
  ring : RingNo
  index : BitVec 16 := 0
  body : BitVec 256
  data : Attempt := .first
  again : Bool := false
  fetched : Nat := 0
  glitch : Option (Nat × BitVec 72) := none
  deriving DecidableEq, Repr

/-- The header of an accepted link message frame (08 Table 8.10). -/
structure Frame where
  seq : Byte
  ackReq : Bool := false
  deriving DecidableEq, Repr

/-- One block of 256 samples of a pair: the ADC codes, the transmit symbols of the pair's own in the block that the block's
state does not hold itself (05 R173), and what the free slice at the tail of the queue samples in the block, at the places of
the position that an eye-margin scan has it sample (04 R160). -/
structure Blk where
  samples : List Int
  sent : List Int := []
  tail : List Int := []
  deriving DecidableEq, Repr

/-- The sums of one calibration window (03 R98): of the head's sample codes and their squares, of the codes of all 64 slices
in service and their squares, of the head's codes times the difference between its two neighbours' positions, and of that
difference's squares. -/
structure CalSums where
  head : Int
  headSq : Nat
  ens : Int
  ensSq : Nat
  corr : Int
  diffSq : Nat
  deriving DecidableEq, Repr

/-- One measurement of a calibration window (03 R98): offset in LSB, gain in %, skew in fs. -/
structure CalMeas where
  off : Rat
  gain : Rat
  skew : Rat
  deriving DecidableEq, Repr

/-- What start-up calibration sums on one slice: the two windows of each attempt, for each pass (03 R116). -/
structure SliceRun where
  pair : Pair
  slice : Nat
  pass1 : List (CalSums × CalSums)
  pass2 : List (CalSums × CalSums)
  deriving DecidableEq, Repr

/-- A health window of the in-service slice at one position (03 R106): its lowest and highest code, and the sums of its 4,096
codes and of their squares. -/
structure HealthStat where
  pos : Nat
  lo : Int
  hi : Int
  sum : Int
  square : Nat
  deriving DecidableEq, Repr

/-- A local extremum of a reflection response (05 R206): its point k, the response summed over its width relative to the
incident amplitude, in 0.0001, and the width in UI. -/
structure Peak where
  k : Nat
  rho : Int
  width : Nat
  deriving DecidableEq, Repr

/-- What a probe found on one pair (05 R206–R208, Table 5.10): its extrema, clipping and the noise floor in 0.0001. -/
structure ProbeRes where
  pair : Pair
  peaks : List Peak
  clip : Bool := false
  noise : Nat := 0
  deriving DecidableEq, Repr

/-- A marker that confirmed a candidate (08 R278): of Clause 73, of a Skellia segment, of an IEEE training frame, or of
data. -/
inductive Marker where
  | clause73 | skellia | ieee | data
  deriving DecidableEq, Repr

/-- A Clause 73 base page (08 R286): the technology ability bit of each rate class 1 to 5, the nonce, NP, FEC bits F3 to F0, and
pause bits C2 to C0. -/
structure BasePage where
  tech : List Bool
  nonce : Nat
  np : Bool
  fec : Nat := 0
  pause : Nat := 0
  deriving DecidableEq, Repr

/-- A page of Clause 73 (08 R286, R287): the base page, a message page with its code and unformatted field, an unformatted
next page of 48 bits, or the exchange's end with no more pages. -/
inductive AnPage where
  | base (p : BasePage)
  | message (code : Nat) (u : BitVec 32)
  | unformatted (d : BitVec 48)
  | done
  deriving DecidableEq, Repr

/-- LINK_PARAM's payload (08 Table 8.11). -/
structure LinkParamMsg where
  mode : Nat
  precode : Bool
  inner : Bool
  subch : Bool
  lullSk : Bool
  nonce : Nat
  deriving DecidableEq, Repr

/-- Why a link message frame is discarded (08 R303, R307). -/
inductive Discard where
  | length | crc | unknownType
  deriving DecidableEq, Repr

/-- Low-power idle signalling of CU-10N (09 R345): from the host's stream or from the partner. -/
inductive LpiSig where
  | hostLpi | hostWake | partnerQuiet | partnerRefresh | partnerWake
  deriving DecidableEq, Repr

/-- One calibration measurement of a monitor slice: what 1,024 of its conversions add up to, each corrected by its trims (in
1/16 LSB). Against the reference (12 R429) it converts MI26 and MI27; in a shadow window (R432) the sums and the sums of squares
are the slice's and the free slice's over the same conversions. -/
inductive MonSums where
  | reference (ref gnd : Int)
  | shadow (own ownSq spare spareSq : Int)
  deriving DecidableEq, Repr

/-- What start-up calibration measured on one monitor slice: the two measurements of each attempt (12 R429). -/
structure MonSliceRun where
  slice : Nat
  attempts : List (MonSums × MonSums)
  deriving DecidableEq, Repr

/-- Bits of a stored word (data in bits 63:0, check bits in 71:64) that have flipped (15 R503). -/
structure Upset where
  mem : MemId
  word : Nat
  flip : BitVec 72
  deriving DecidableEq, Repr

/-- What a zone's current monitor gives over 100 µs (17 R555, R556): at each of its samples the current in mA and the measured
voltage in mV of every rail that feeds the zone; or that it is out of range, or gives nothing. -/
inductive ZoneReading where
  | rails (samples : List (List (Nat × Nat)))
  | outOfRange
  | none
  deriving DecidableEq, Repr

/-- Outcomes of the cryptographic checks of an image slot (19 R608): the key hash, the signature, the image hash. -/
structure SlotCheck where
  key : Bool := false
  sig : Bool := false
  hash : Bool := false
  deriving DecidableEq, Repr

/-- A supply rail that brown-out watches (20 R618). -/
inductive Rail where
  | core | ana | hv | aux
  deriving DecidableEq, Repr

/-- A reference clock (20 R620). -/
inductive RefClk where
  | line | host
  deriving DecidableEq, Repr

/-- A PCIe reset (19 R597, 20 R629). -/
inductive PcieReset where
  | hot | flr | perst
  deriving DecidableEq, Repr

/-- A PCIe memory request: the BAR, the offset, the value of a write, and whether it is one aligned 32-bit access
(13 R441). -/
structure PcieReq where
  bar2 : Bool
  off : BitVec 16
  write : Option (BitVec 32)
  aligned : Bool := true
  deriving DecidableEq, Repr

/-- What an evaluation interval shows of a boundary's elastic buffer (01 R22, 02 R47): its occupancy in samples at the moment
of least slack, and at the interval's end. -/
structure FillObs where
  bound : Bound
  worst : Nat
  now : Nat
  deriving DecidableEq, Repr

/-- The commands of the block, one for each row of spec/opcode_table.json, in the table's order. A row's operands are
what the world brings with it: who writes, where, which value, and the measurement or message that has arrived. -/
inductive Instr where
  /-- REGISTER_WRITE (R11): A write to a set-up register field that has no row of its own takes effect according to the field's access code, including W1C and W1S bits -/
  | registerWrite (t : Transport) (tgt : RegTarget) (v : BitVec 32)
  /-- LATCHED_LO_READ (R641): A read of a _LO register returns the low half of a 64-bit value and latches the _HI half for the transport that made the read -/
  | latchedLoRead (t : Transport) (tgt : RegTarget)
  /-- TIMING_SOURCE_LOCK (R24): A transmitter's timing source locks again, and within 10 µs the transmitter begins its return from the reference clock to the recovered clock -/
  | timingSourceLock (x : TxSel)
  /-- TX_CLOCK_RETURN_DONE (R24): A transmitter completes its frequency return to the recovered clock, and the path re-centres -/
  | txClockReturnDone (x : TxSel)
  /-- GOV_INTERVAL_END (R58): At the end of an evaluation interval the governor takes W as the minimum reported slack and steps up, holds or steps down as Table 2.4 states -/
  | govIntervalEnd (seen : List FillObs)
  /-- AVS_TRANSACTION_DONE (R66): An AVSBus transaction ends; a success updates VCMD, and a failure is retried once or sets AVS_FAULT -/
  | avsTransactionDone (ok : Bool)
  /-- AVS_FAULT_RETRY (R66): While AVS_FAULT is set, the 1 ms timer expires and the governor issues its next transaction -/
  | avsFaultRetry
  /-- GOV_DOWN_HOLD_END (R61): The 1 ms ban on steps down that follows SLACK_LOW or a SLIP expires -/
  | govDownHoldEnd
  /-- AT_CEILING (R62): After the governor has been at code 50 for 1 ms with W below 8 ns, it sets AT_CEILING, logs an event and lowers the governor ceilings of the ports concerned -/
  | atCeiling
  /-- GOV_CEILING_LOWER (R62): While AT_CEILING holds, the once-per-millisecond timer lowers by one the ceiling of each port that owns a boundary below the low watermark -/
  | govCeilingLower
  /-- AT_CEILING_CLEAR (R62): AT_CEILING clears after W has stayed at 8 ns or more for 1 s -/
  | atCeilingClear
  /-- GOV_CEILING_RAISE (R62): Once per second after the clear, the device raises by one the most recently lowered governor ceiling -/
  | govCeilingRaise
  /-- SLIP (R67): A watched boundary overflows or underruns; substitution and codeword marking begin, and the path is flushed and re-centred -/
  | slip (b : Bound) (n : Nat)
  /-- SLIP_COMPLETE (R71): The first real block reaches the output boundary; marking ends at the next codeword boundary and the SLIP is counted and logged -/
  | slipComplete (p : Port) (rx : Bool)
  /-- POWER_CAP (R76): The POWER_CAP descriptor sets or removes a power cap and starts its evaluation under the shed order -/
  | powerCap (d : Desc)
  /-- CAP_EVAL_WINDOW_END (R76): A 10 ms power averaging window of a cap evaluation ends; the cap is met or the next shed sub-step is applied -/
  | capEvalWindowEnd
  /-- CAP_WITHDRAW_TIMER (R80): The once-per-second timer withdraws the most recently applied sub-step that only the cap holds -/
  | capWithdrawTimer
  /-- RSSI_UPDATE (R84): Every 64 symbols the power detector updates RSSI, which drives SIG_DET, RSSI_REF and the rise comparator -/
  | rssiUpdate (p : Port) (x : Pair) (code : Nat)
  /-- GAIN_LOOP_UPDATE (R88): At each FAST or TRACK update interval the gain loop computes its error, steps the gain and applies the clip guard -/
  | gainLoopUpdate (p : Port) (x : Pair) (sumSq n clipped : Nat)
  /-- GAIN_MODE_WRITE (R92): A write that changes GAIN_MODE from 0 to 1 enters MANUAL, and a write to 0 returns the gain loop to automatic control -/
  | gainModeWrite (t : Transport) (p : Port) (v : BitVec 32)
  /-- CAL_STEP_START (R105): When STEP_PERIOD elapses, a background calibration step places the free-queue head at position p's instant, in parallel with the slice in service there -/
  | calStepStart (p : Port) (x : Pair)
  /-- CAL_WINDOW_END (R98): A calibration measurement window ends; the window is discarded, or the attempt is judged and then retried, accepted or marked suspect -/
  | calWindowEnd (p : Port) (x : Pair) (m : CalSums)
  /-- TEMPER_TICK (R103): Each TEMPER_INTERVAL the temper ramp moves the trims of the slice under ramp by at most 1 LSB toward their targets -/
  | temperTick (p : Port) (x : Pair)
  /-- HEALTH_WINDOW_END (R106): A 4,096-sample health window of an in-service slice ends and the health check is evaluated -/
  | healthWindowEnd (p : Port) (x : Pair) (h : List HealthStat)
  /-- STARTUP_CAL_DONE (R117): Start-up calibration at PORT_START ends, and the port moves from STARTING to ACQUIRING -/
  | startupCalDone (p : Port) (runs : List SliceRun)
  /-- ADC_HOLD_EXPIRE (R119): A calibration hold reaches the end of its duration; HOLD is cleared, HOLD_EXPIRED is set and background steps resume -/
  | adcHoldExpire (p : Port)
  /-- ADC_CAL_HOLD_WRITE (R119): A write of HOLD in LPn_ADC_CAL_CTRL starts a 10 s hold or releases it, subject to the refusal of R120 -/
  | adcCalHoldWrite (t : Transport) (p : Port) (v : BitVec 32)
  /-- ADC_CAL_STATUS (R124): The ADC_CAL STATUS action returns LPn_ADC_CAL_STATUS -/
  | adcCalStatus (d : Desc)
  /-- ADC_CAL_CYCLE (R124): The ADC_CAL CYCLE action runs one full rotation of steps back to back, or start-up calibration on a stopped port -/
  | adcCalCycle (d : Desc)
  /-- ADC_CAL_HOLD (R124): The ADC_CAL HOLD action starts a hold of the given duration, or completes REFUSED under R120 -/
  | adcCalHold (d : Desc)
  /-- ADC_CAL_RELEASE (R124): The ADC_CAL RELEASE action ends any hold -/
  | adcCalRelease (d : Desc)
  /-- ADC_CAL_REQUALIFY (R124): The ADC_CAL REQUALIFY action measures a retired slice of a stopped port and, if it passes, returns it to the free queue -/
  | adcCalRequalify (d : Desc)
  /-- ADC_CAL_TRIM_DUMP (R124): The ADC_CAL TRIM_DUMP action writes the trim records of the selected pairs to memory -/
  | adcCalTrimDump (d : Desc)
  /-- CONVERGENCE_WINDOW_END (R143): A 65,536-symbol convergence window ends; CONVERGED is evaluated and divergence, snapshot restore and the freeze override are applied -/
  | convergenceWindowEnd (p : Port) (x : Pair)
  /-- EQ_SNAPSHOT_TIMER (R144): Every 1 ms while CONVERGED stays set, the device copies the taps and canceller state to the snapshot -/
  | eqSnapshotTimer (p : Port) (x : Pair)
  /-- RECOVER_TIMEOUT (R146): 700 µs in RECOVER elapse without CONVERGED; this sets DIVERGED or EQ_SLOW and returns the pair to FINE -/
  | recoverTimeout (p : Port) (x : Pair)
  /-- SW_FREEZE_WRITE (R148): A write that changes SW_FREEZE from 0 to 1 freezes the taps in FINE, and a write of 0 releases the freeze -/
  | swFreezeWrite (t : Transport) (p : Port) (v : BitVec 32)
  /-- CDR_UPDATE (R152): Once per block the phase loop steps the sampling phase, updates its frequency estimate and evaluates lock acquisition and lock loss -/
  | cdrUpdate (p : Port) (a b : Option Blk)
  /-- METRIC_WINDOW_END (R156): A metric window ends, and the SNR, BER_EST and BER_MEAS registers are updated -/
  | metricWindowEnd (p : Port)
  /-- EYE_SCAN (R159): The EYE_SCAN descriptor starts a margin scan on the tail free slice of a pair in data mode -/
  | eyeScan (d : Desc)
  /-- EYE_SCAN_POINT_END (R160): An eye-scan point's dwell ends; its count is recorded and the scan moves to the next point or writes its results -/
  | eyeScanPointEnd (p : Port) (x : Pair)
  /-- CAPTURE_ADC (R163): The CAPTURE_ADC descriptor arms the port's capture into a circular buffer with a trigger -/
  | captureAdc (d : Desc)
  /-- CAPTURE_TRIGGER (R164): The armed trigger occurs, and the capture stores its post-trigger part -/
  | captureTrigger (p : Port)
  /-- CAPTURE_STOP (R165): The capture has stored its post-trigger part and stops, and CAPTURE_ADC completes OK -/
  | captureStop (p : Port)
  /-- CAPTURE_TIMEOUT (R165): The capture timeout expires; CAPTURE_ADC completes TIMEOUT and the capture state becomes PARTIAL -/
  | captureTimeout (p : Port)
  /-- CAPTURE_READ (R166): The CAPTURE_READ descriptor copies bytes of the stored capture image to memory -/
  | captureRead (d : Desc)
  /-- HYBRID_TRIAL_END (R175): A 4 µs hybrid-search trial ends, and the search moves to the next code or keeps the best codes -/
  | hybridTrialEnd (p : Port) (x : Pair) (meanSq : Nat)
  /-- SPARSE_SEARCH_SEGMENT_END (R180): A 1,024-block dwell of the far-echo search ends, and the windows move on or are placed -/
  | sparseSearchSegmentEnd (p : Port) (x : Pair)
  /-- ERLE_WINDOW_END (R186): A raw-training ERLE window ends, and echo convergence is evaluated -/
  | erleWindowEnd (p : Port) (x : Pair)
  /-- FD_READY (R195): An FD_READY message from the partner is received, completing the BASE condition when the own side is also ready -/
  | fdReady (p : Port) (f : Frame) (quietLen erleA snrB hybA : Nat)
  /-- FD_QUIET (R189): An FD_QUIET message is received or sent, which fixes the start of the leader window 20 µs after the frame -/
  | fdQuiet (p : Port) (got : Option Frame) (len : Nat)
  /-- FD_WINDOW_START (R189): A quiet window starts, and the transmitters switch as Table 5.5 states -/
  | fdWindowStart (p : Port)
  /-- FD_WINDOW_END (R191): A quiet window ends; echo convergence or pair A acquisition is checked, and the gap follows -/
  | fdWindowEnd (p : Port)
  /-- FD_GAP_END (R189): A 50 µs gap ends, and the next window or JOIN begins -/
  | fdGapEnd (p : Port) (skew : Int)
  /-- FD_CONFIRM (R195): An FD_CONFIRM message is received, and the port enters data mode once both sides have confirmed -/
  | fdConfirm (p : Port) (f : Frame) (snrA snrB erleB : Nat) (skew : Int)
  /-- FD_ABANDON (R197): An FD_ABANDON message is received, and the port abandons start-up with reason PARTNER_ABANDON -/
  | fdAbandon (p : Port) (f : Frame) (reason attempt : Nat)
  /-- FD_STEP_TIMEOUT (R195): The 20 ms BASE, 10 ms JOIN or 2 ms LMC_LOST timer expires, and start-up is abandoned -/
  | fdStepTimeout (p : Port) (lmc : Bool)
  /-- CABLE_DIAG (R209): The CABLE_DIAG descriptor reads reflectometry from the echo taps, or starts a probe on a stopped port -/
  | cableDiag (d : Desc)
  /-- CABLE_DIAG_PROBE_DONE (R211): A probe completes on its selected pairs, and the results are written -/
  | cableDiagProbeDone (p : Port) (res : List ProbeRes)
  /-- COEF_REQ (R222): A coefficient request is received in training or data, is applied, answered with limit status or refused, and answered with COEF_RESP -/
  | coefReq (p : Port) (f : Frame) (op tap pair : Nat)
  /-- TX_DRIVER_SETTLED (R233): The driver bias settles at PORT_START, and DRV_EN is driven high -/
  | txDriverSettled (p : Port)
  /-- TX_DRV_DELAY_END (R221): The DRV_EN delay elapses, and the transmitter enters TRAIN at a block boundary -/
  | txDrvDelayEnd (p : Port)
  /-- TX_SQUELCH_END (R233): The 1 µs SQUELCH at PORT_STOP ends, and the pair goes to OFF -/
  | txSquelchEnd (p : Port)
  /-- HOST_LOSS (R229): A loss of alignment in data mode lasts 2 µs, and the transmitter state changes to LF or SQUELCH -/
  | hostLoss (p : Port)
  /-- LF_NOTICE_REPEAT (R231): Every 1 ms in LF, the port repeats its local-fault EVENT_NOTICE -/
  | lfNoticeRepeat (p : Port)
  /-- INNER_WINDOW_STEP (R252): The detector has delivered the newest block, and the decoder runs its turbo iterations and releases the target block -/
  | innerWindowStep (p : Port) (newest : List Int)
  /-- AM_GROUP_CHECK (R251): An alignment-marker group position is reached, and FRAME_LOCK or FRAME_LOST is evaluated -/
  | amGroupCheck (p : Port) (errs : List Nat)
  /-- CODEWORD_DECODE (R241): An RS codeword in one direction is decoded, corrected or marked, and entered in the counters and histogram -/
  | codewordDecode (p : Port) (dir : Dir) (cw : List Nat)
  /-- POST_BER_INTERVAL (R268): The 1 s POST_BER interval ends, and POST_BER is updated -/
  | postBerInterval (p : Port)
  /-- FEC_COUNTER_CLEAR (R267): A write of 1 to CLEAR in LPn_FEC_SEL sets every FEC counter of the port to 0 at one instant -/
  | fecCounterClear (t : Transport) (p : Port) (v : BitVec 32)
  /-- CORRELATOR_HIT (R278): A correlator's metric reaches HIT_THR, and its class becomes the candidate or pre-empts the current one -/
  | correlatorHit (p : Port) (cls peak mean at_ : Nat)
  /-- CONFIRM_MARKER_FOUND (R278): A confirmation marker is found at its predicted position, and the third find confirms the candidate -/
  | confirmMarkerFound (p : Port) (m : Marker) (after : Nat) (got : List Int)
  /-- CONFIRM_TIMEOUT (R280): A candidate is not confirmed within 2,048 symbols; FALSE_LOCK is counted and the port returns to SEARCH -/
  | confirmTimeout (p : Port)
  /-- RETUNE_DONE (R282): After confirmation of a rate class in Wide, the line PLL and ADC reach the class's rate -/
  | retuneDone (p : Port)
  /-- AN_PAGE_RX (R286): A Clause 73 base page or next page is received, and negotiation advances toward resolution -/
  | anPageRx (p : Port) (pg : AnPage)
  /-- IEEE_TRAINING_END (R293): IEEE training completes, or fails by the standard's timers, per the PHY type's PMD control function -/
  | ieeeTrainingEnd (p : Port) (ok precode : Bool)
  /-- TRAIN_TIMEOUT (R299): Skellia training does not reach DATA within TRAIN_TIMEOUT; the failure is counted and the port returns to SEARCH -/
  | trainTimeout (p : Port)
  /-- SIGDET_LOSS_TIMEOUT (R285): SIG_DET stays clear for 100 µs, which is a loss of lock in training or a link loss in data -/
  | sigdetLossTimeout (p : Port) (x : Pair)
  /-- LINK_PARAM (R297): A LINK_PARAM message is received; settings compatibility and the NONCE roles are decided -/
  | linkParam (p : Port) (f : Frame) (m : LinkParamMsg)
  /-- TX_TUNE_WINDOW_END (R294): A 65,536-symbol tuning window ends, and the port keeps or reverses its last coefficient request -/
  | txTuneWindowEnd (p : Port)
  /-- COEF_RESP (R307): A COEF_RESP message to this port's request is received -/
  | coefResp (p : Port) (f : Frame) (status tap pair value : Nat)
  /-- READY (R296): A READY message is received, and the port sends DATA_AT once both sides are ready -/
  | ready (p : Port) (f : Frame) (snr : Nat)
  /-- DATA_AT (R300): A DATA_AT message is received, naming the LMC bit period at which the partner switches to data -/
  | dataAt (p : Port) (f : Frame) (delay : Nat)
  /-- DATA_SWITCH (R300): The announced LMC bit period arrives; the transmitter or receiver switches to data and the inner chain starts -/
  | dataSwitch (p : Port) (dir : Dir)
  /-- REMOTE_SNR (R309): A REMOTE_SNR message is received and loads LPn_LMC_REMOTE -/
  | remoteSnr (p : Port) (f : Frame) (snrA snrB ber : Nat)
  /-- EVENT_NOTICE (R309): An EVENT_NOTICE is received; it sets NOTICE, is logged, and for codes 3 and 4 retrains or returns the port to SEARCH -/
  | eventNotice (p : Port) (f : Frame) (code sev : Nat)
  /-- ACK (R308): An ACK message is received for a frame sent with ACK_REQ -/
  | ack (p : Port) (typ seq : Nat)
  /-- LMC_USER_MESSAGE (R313): A user-type message is received; it fills the oldest posted LMC_RECEIVE, or is queued or dropped -/
  | lmcUserMessage (p : Port) (f : Frame) (typ : Nat) (data : List Byte)
  /-- LMC_FRAME_DISCARD (R303): An LMC frame with a bad CRC, an oversize Length or a reserved type is discarded and counted -/
  | lmcFrameDiscard (p : Port) (why : Discard)
  /-- LMC_KEEPALIVE (R304): 500 µs pass in training or FD start-up with no frame sent, and the port sends REMOTE_SNR -/
  | lmcKeepalive (p : Port)
  /-- REMOTE_SNR_PERIOD (R309): Every 100 ms in data mode with SNR_SHARE set, the port sends REMOTE_SNR -/
  | remoteSnrPeriod (p : Port)
  /-- LMC_FRAME_SENT (R311): A queued LMC frame has been sent, completing LMC_SEND or starting its ACK wait -/
  | lmcFrameSent (p : Port)
  /-- LMC_SEND (R310): The LMC_SEND descriptor queues one user message for the partner -/
  | lmcSend (d : Desc)
  /-- LMC_ACK_TIMEOUT (R311): No ACK arrives within 10 ms; the frame is sent once more or LMC_SEND completes TIMEOUT -/
  | lmcAckTimeout (p : Port)
  /-- LMC_RECEIVE (R312): The LMC_RECEIVE descriptor posts a buffer for one user message -/
  | lmcReceive (d : Desc)
  /-- LMC_RECEIVE_TIMEOUT (R313): A posted LMC_RECEIVE reaches its timeout and completes TIMEOUT -/
  | lmcReceiveTimeout (p : Port)
  /-- PORT_CONFIG (R323): The PORT_CONFIG descriptor stores the port's mode, lane count, inner code and termination -/
  | portConfig (d : Desc)
  /-- PORT_START (R325): The PORT_START descriptor starts a port from STOPPED or FAULT into STARTING -/
  | portStart (d : Desc)
  /-- PORT_WAIT_TIMEOUT (R325): A PORT_START or PORT_RETRAIN waiting with WAIT_UP reaches its timeout and completes TIMEOUT -/
  | portWaitTimeout (p : Port)
  /-- PORT_STOP (R326): The PORT_STOP descriptor sends a notice, stops the transmitters, saves state and enters STOPPED -/
  | portStop (d : Desc)
  /-- PORT_STOP_NOTICE_DONE (R326): The stopping notice frame is sent, or 1 ms passes, and the stop or retrain sequence continues -/
  | portStopNoticeDone (p : Port)
  /-- PORT_RETRAIN (R327): The PORT_RETRAIN descriptor sends a notice and returns the port to SEARCH, re-reading its settings -/
  | portRetrain (d : Desc)
  /-- PORT_RESET (R328): The PORT_RESET descriptor performs PORT_STOP with NO_NOTICE and a port reset, then enters STOPPED -/
  | portReset (d : Desc)
  /-- PORT_STATUS (R331): The PORT_STATUS descriptor writes the 32-byte port status record -/
  | portStatus (d : Desc)
  /-- REMOTE_FAULT_EXPIRE (R317): 3 ms pass with no EVENT_NOTICE code 1 or 2, and REMOTE_FAULT clears -/
  | remoteFaultExpire (p : Port)
  /-- HOST_IDLE_DETECT (R332): The host stream becomes LPI-idle or plain-idle, and an eligible port sends LULL_REQ -/
  | hostIdleDetect (p : Port) (kind : Nat)
  /-- LULL_REQ (R336): A LULL_REQ is received and answered with LULL_RESP: accept, decline or crossed request -/
  | lullReq (p : Port) (f : Frame) (kind : Nat)
  /-- LULL_RESP (R336): A LULL_RESP is received; on accept the port schedules Lull entry, otherwise it counts a refusal -/
  | lullResp (p : Port) (f : Frame) (code enterAt kind : Nat)
  /-- LULL_BACKOFF_END (R336): The 10 ms ban on a new Lull request after a refusal expires -/
  | lullBackoffEnd (p : Port)
  /-- LULL_ENTER_AT (R337): The ENTER_AT-th alignment-marker period arrives; the transmitter sends the sleep word, or the wake word if a wake is pending, then idles -/
  | lullEnterAt (p : Port)
  /-- SLEEP_WORD_RX (R337): A receiver detects the sleep word and enters LULL with its loops in HOLD -/
  | sleepWordRx (p : Port) (got : List Int)
  /-- LULL_REFRESH (R339): The 1 ms refresh timer sends a refresh burst of eight training segments -/
  | lullRefresh (p : Port)
  /-- LULL_LOST (R318): No refresh is received for 3 ms in LULL, which is a link loss with reason 6 -/
  | lullLost (p : Port)
  /-- LULL_WAKE_CAUSE (R340): A wake cause arrives in Skellia Lull, and the port sends the wake word, wake segments and then data -/
  | lullWakeCause (p : Port)
  /-- LULL_EN_CLEAR (R340): A write of 0 to LULL_EN wakes a port in Skellia Lull -/
  | lullEnClear (t : Transport) (p : Port) (v : BitVec 32)
  /-- WAKE_WORD_RX (R341): A port in Lull detects the partner's wake word, its loops leave HOLD, and it runs the wake steps -/
  | wakeWordRx (p : Port) (got : List Int)
  /-- WAKE_WORD_TIMEOUT (R341): No wake word answers within 50 µs; the word is sent once more, and a second failure is a link loss with reason 7 -/
  | wakeWordTimeout (p : Port)
  /-- LPI_SIGNAL (R345): In CU-10N with LPI_EN set, host LPI signalling or the partner's quiet period moves the port into or out of IEEE low-power idle -/
  | lpiSignal (p : Port) (sig : LpiSig)
  /-- HOST_TX_EI_HOLD_END (R352): A host transmitter has been in EI for 2 µs and may exit with a training burst -/
  | hostTxEiHoldEnd (l : Lane)
  /-- HOST_BURST_END (R353): A host training burst ends, and the transmitter sends its state's stream from the next block boundary -/
  | hostBurstEnd (l : Lane)
  /-- HOST_RX_EI_ENTER (R351): A host receiver's input stays below 50 mVppd for 128 UI, and it enters EI -/
  | hostRxEiEnter (l : Lane)
  /-- HOST_RX_EI_EXIT (R351): A host receiver's input exceeds 120 mVppd, and it leaves EI for ACQ -/
  | hostRxEiExit (l : Lane)
  /-- HOST_RX_LOCK (R354): A host receiver's clock locks, and it enters LOCKED -/
  | hostRxLock (l : Lane)
  /-- HOST_CTLE_TRIAL_END (R360): A 4,096-UI CTLE trial of a cold acquisition ends, and the next code is tried or the best is kept -/
  | hostCtleTrialEnd (l : Lane) (snr : Nat)
  /-- HOST_GROUP_ALIGNED (R358): Every PCS lane of a group has marker lock and the group is deskewed, so the group is aligned -/
  | hostGroupAligned (p : Port) (pcs0 : Lane)
  /-- HOST_ALIGNMENT_LOSS (R358): A group loses alignment; this is counted on every lane and starts the host-loss filter -/
  | hostAlignmentLoss (p : Port)
  /-- HOST_RX_SNR_WINDOW_END (R361): A 65,536-UI RX_SNR window ends, and the freeze override of R362 is evaluated -/
  | hostRxSnrWindowEnd (l : Lane) (snr : Nat) (rx : List Nat)
  /-- HOST_PLL_RETUNE_DONE (R355): The SerDes PLLs lock at the new rate, and the transmitters send the burst at that rate -/
  | hostPllRetuneDone (p : Port)
  /-- RX_FREEZE_WRITE (R362): A write that changes RX_FREEZE from 0 to 1 holds the host receiver taps, and a write of 0 releases them -/
  | rxFreezeWrite (t : Transport) (l : Lane) (v : BitVec 32)
  /-- HOST_TX_TAP_WRITE (R363): A write to HLn_TX_FFE or HLn_TX_POST is checked as a whole and takes effect at the next block boundary, or sets TAP_BAD -/
  | hostTxTapWrite (t : Transport) (l : Lane) (post : Bool) (v : BitVec 32)
  /-- HOST_LANE_CONFIG (R372): The HOST_LANE_CONFIG descriptor writes transmitter taps, receiver settings and lane modes -/
  | hostLaneConfig (d : Desc)
  /-- HOST_LANE_LOOPBACK (R364): The HOST_LANE_LOOPBACK descriptor sets a loop mode on each selected lane -/
  | hostLaneLoopback (d : Desc)
  /-- HOST_LANE_PRBS_SET (R365): The HOST_LANE_PRBS SET action configures the pattern generator and checker of the selected lanes -/
  | hostLanePrbsSet (d : Desc)
  /-- HOST_LANE_PRBS_READ (R372): The HOST_LANE_PRBS READ action writes the checker records of the selected lanes -/
  | hostLanePrbsRead (d : Desc)
  /-- HOST_LANE_PRBS_CLEAR (R372): The HOST_LANE_PRBS CLEAR action clears the checker counts of the selected lanes at one instant -/
  | hostLanePrbsClear (d : Desc)
  /-- HOST_LANE_PRBS_READ_CLEAR (R372): The HOST_LANE_PRBS READ_CLEAR action writes the checker records and clears the counts at the instant they are read -/
  | hostLanePrbsReadClear (d : Desc)
  /-- HOST_LANE_BITSLIP (R370): The HOST_LANE_BITSLIP descriptor moves one lane's block boundary one UI later -/
  | hostLaneBitslip (d : Desc)
  /-- LANE_MAP (R373): The LANE_MAP descriptor sets lane groups and positions, keeping the lanes marked KEEP -/
  | laneMap (d : Desc)
  /-- AUX_UPDATE_TICK (R377): At an update tick each unowned channel takes its oldest queued code as its target, or counts an underrun -/
  | auxUpdateTick (c : AuxCh)
  /-- AUX_SLEW_TICK (R378): At a slew tick each channel's output moves toward its target by at most SLEW_STEP codes, and RAMP loops step by QSTEP -/
  | auxSlewTick (c : AuxCh)
  /-- AUX_CLR_ASSERT (R380): AUX_CLR_N is asserted; every channel is driven to its clear code and the loops enter HALTED -/
  | auxClrAssert
  /-- AUX_CLR_DEASSERT (R382): AUX_CLR_N is deasserted; channels keep their clear codes until new codes are queued or the loops restart -/
  | auxClrDeassert
  /-- AUX_POWER_CLEAR (R381): VDD_IO and VDD_AUX are both in range, and every channel drives its clear code within 50 µs -/
  | auxPowerClear
  /-- AUX_CLEAR_WRITE (R379): A write of a channel's clear code takes effect for the next clear, or moves the output within 2 µs if a clear is in force -/
  | auxClearWrite (t : Transport) (c : AuxCh) (v : BitVec 32)
  /-- LOOP_SAMPLE (R392): At phase 0 a loop samples its feedback, applies any pending swap or table, tests for faults and computes its output -/
  | loopSample (l : LoopNo)
  /-- LOOP_OUTPUT (R393): At the half period the output register takes the loop's result as the target, or counts a late period -/
  | loopOutput (l : LoopNo) (late : Bool)
  /-- LOOP_ARM_TIMEOUT (R394): A loop in ARMING finds no valid sample for 10 ms and enters its fault state with cause 6 -/
  | loopArmTimeout (l : LoopNo)
  /-- LOOP_RAMP_END (R405): The orderly-Quench ramp ends when every output reaches its clear code, or is cut at 1 ms -/
  | loopRampEnd
  /-- LOOP_CONFIG (R411): The LOOP_CONFIG descriptor writes, starts or stops a bias control loop -/
  | loopConfig (d : Desc)
  /-- LOOP_COEFF_SWAP (R401): The LOOP_COEFF_SWAP descriptor schedules an atomic swap of a loop's coefficient bank -/
  | loopCoeffSwap (d : Desc)
  /-- LOOP_TABLE_LOAD (R404): The LOOP_TABLE_LOAD descriptor loads the position-to-code table of a class H loop -/
  | loopTableLoad (d : Desc)
  /-- LOOP_INJECT (R408): The LOOP_INJECT descriptor adds a test waveform at a loop's input or output -/
  | loopInject (d : Desc)
  /-- LOOP_CAPTURE_ARM (R409): The LOOP_CAPTURE ARM action starts a capture of records from the selected loop -/
  | loopCaptureArm (d : Desc)
  /-- LOOP_CAPTURE_READ (R411): The LOOP_CAPTURE READ action copies stored capture records to memory -/
  | loopCaptureRead (d : Desc)
  /-- AUX_DAC_QUEUE (R377): The AUX_DAC_QUEUE descriptor appends codes to an unowned channel's queue -/
  | auxDacQueue (d : Desc)
  /-- AUX_DAC_CONFIG (R411): The AUX_DAC_CONFIG descriptor writes a channel's clear code, update divider, slew and depth -/
  | auxDacConfig (d : Desc)
  /-- LOOP_RESTART (R411): The LOOP_RESTART descriptor returns a stopped or faulted loop to ARMING -/
  | loopRestart (d : Desc)
  /-- MON_CONVERSION (R414): A sequencer slot converts its input and updates the accumulators, coarse path and CIC channels -/
  | monConversion (raw : Int)
  /-- MON_HEALTH_WINDOW_END (R430): A monitor health window ends; a slice that fails two windows is replaced by the spare and retired -/
  | monHealthWindowEnd (codes : List (Nat × Nat))
  /-- MON_CAL_MEASURE_END (R432): A monitor calibration measurement ends within start-up calibration or a calibration cycle -/
  | monCalMeasureEnd (m : MonSums)
  /-- MON_STARTUP_CAL_DONE (R429): Monitor start-up calibration completes, and the sequencer begins converting -/
  | monStartupCalDone (runs : List MonSliceRun)
  /-- MON_CONFIG_INPUT (R439): The MON_CONFIG INPUT action configures one monitor input -/
  | monConfigInput (d : Desc)
  /-- MON_CONFIG_SLOTS (R439): The MON_CONFIG SLOTS action loads a new slot table, effective at the next table start -/
  | monConfigSlots (d : Desc)
  /-- MON_CONFIG_POWER (R427): The MON_CONFIG POWER action sets LP_SW and LP_GUARD -/
  | monConfigPower (d : Desc)
  /-- MON_CONFIG_CAL_CYCLE (R432): The MON_CONFIG CAL_CYCLE action starts a monitor calibration cycle -/
  | monConfigCalCycle (d : Desc)
  /-- MON_READ (R419): The MON_READ descriptor writes input or CIC records, optionally clearing the accumulators -/
  | monRead (d : Desc)
  /-- MON_SYSCAL_ZERO (R434): The MON_SYSCAL ZERO step starts measuring an input's zero level -/
  | monSyscalZero (d : Desc)
  /-- MON_SYSCAL_FULL (R434): The MON_SYSCAL FULL step starts measuring full scale, to set OFFSET and GAIN -/
  | monSyscalFull (d : Desc)
  /-- MON_SYSCAL_DEFAULT (R434): The MON_SYSCAL DEFAULT step restores OFFSET 0 and GAIN 0x4000 -/
  | monSyscalDefault (d : Desc)
  /-- MON_SYSCAL_MEASURE_END (R434): A system-calibration measurement ends and is judged under the agreement rule -/
  | monSyscalMeasureEnd (i : InputNo)
  /-- CIC_CONFIG (R439): The CIC_CONFIG descriptor writes or synchronises a decimation channel -/
  | cicConfig (d : Desc)
  /-- SPI_WRITE (R443): An SPI frame with command 0x02 writes data on IO0 from its address upward -/
  | spiWrite (addr : BitVec 32) (data : List Byte)
  /-- SPI_QUAD_WRITE (R443): An SPI frame with command 0x38 writes data on IO0–IO3 from its address upward -/
  | spiQuadWrite (addr : BitVec 32) (data : List Byte)
  /-- SPI_READ (R443): An SPI frame with command 0x0B reads data on IO0 after 8 dummy clocks -/
  | spiRead (addr : BitVec 32) (len : Nat)
  /-- SPI_QUAD_READ (R443): An SPI frame with command 0xEB reads data on IO0–IO3 after 8 dummy clocks -/
  | spiQuadRead (addr : BitVec 32) (len : Nat)
  /-- SPI_IGNORED_COMMAND (R443): An SPI frame with any other command reads and writes nothing, but still votes and is a wake source -/
  | spiIgnoredCommand (cmd : Byte)
  /-- MDIO_DATA_LO_READ (R445): A read of 30.2 performs the 32-bit window read, returns bits 15:0 and latches bits 31:16 -/
  | mdioDataLoRead
  /-- MDIO_DATA_HI_READ (R445): A read of 30.3 returns the latched bits 31:16 and auto-increments the window -/
  | mdioDataHiRead
  /-- MDIO_DATA_LO_WRITE (R445): A write of 30.2 holds bits 15:0 for the next commit -/
  | mdioDataLoWrite (v : BitVec 16)
  /-- MDIO_DATA_HI_WRITE (R445): A write of 30.3 commits a 32-bit write at the window address and auto-increments it -/
  | mdioDataHiWrite (v : BitVec 16)
  /-- MDIO_WIN_STATUS_READ (R445): A read of 30.5 returns UE and clears it -/
  | mdioWinStatusRead
  /-- MDIO_DB_VALUE_WRITE (R445): A write of 31.1 rings the doorbell of DB_RING with the written value -/
  | mdioDbValueWrite (v : BitVec 16)
  /-- MDIO_PORT_RESET (R446): A write of 1 to MMD 1 register 1.0 bit 15 performs PORT_RESET for the port -/
  | mdioPortReset (p : Port)
  /-- MDIO_LINK_STATUS_READ (R446): A read of MMD 1 register 1.1 returns link status, latching low as Clause 45 defines -/
  | mdioLinkStatusRead (p : Port)
  /-- DOORBELL (R454): A doorbell write advances a ring's TAIL or HEAD, or is ignored or refused -/
  | doorbell (t : Transport) (ring : RingNo) (v : BitVec 32)
  /-- DOORBELL_READ (R458): A doorbell read returns the device-side index of the ring -/
  | doorbellRead (t : Transport) (ring : RingNo)
  /-- DESCRIPTOR_FETCH (R462): The device fetches a descriptor from a submission ring and runs its action phase -/
  | descriptorFetch (a : Attempt) (rd : Attempt)
  /-- UNKNOWN_OPCODE (R461): A descriptor with an opcode not in Table 13.10 completes NOT_SUPPORTED -/
  | unknownOpcode (d : Desc)
  /-- COMPLETION_RELEASE (R467): The host frees a completion-ring entry, and a held completion or event notice is written -/
  | completionRelease (ring : RingNo)
  /-- NOP (R470): The NOP descriptor completes OK and acts on nothing -/
  | nop (d : Desc)
  /-- RING_CREATE (R471): The RING_CREATE descriptor enables a ring context -/
  | ringCreate (d : Desc)
  /-- RING_DESTROY (R472): The RING_DESTROY descriptor stops and disables a ring -/
  | ringDestroy (d : Desc)
  /-- RING_QUERY (R473): The RING_QUERY descriptor writes a ring's context image -/
  | ringQuery (d : Desc)
  /-- EVENT_ENABLE (R475): The EVENT_ENABLE descriptor sets or clears a transport's target ring for event notices -/
  | eventEnable (d : Desc)
  /-- IDENTIFY (R474): The IDENTIFY descriptor writes the identity record -/
  | identify (d : Desc)
  /-- COAL_TIMER_EXPIRE (R476): COAL_TIME passes since the first unsignalled entry, and the ring signals its vector -/
  | coalTimerExpire (ring : RingNo)
  /-- TELEMETRY_STREAM (R478): The TELEMETRY_STREAM descriptor binds or stops a stream on a telemetry ring -/
  | telemetryStream (d : Desc)
  /-- TELEMETRY_PERIOD (R479): A stream's PERIOD elapses, and a sample set is written or dropped -/
  | telemetryPeriod (ring : RingNo)
  /-- ADMIN_ENABLE (R452): A write of ENABLE = 1 checks the admin settings and creates rings 0 and 1, or sets FAULT -/
  | adminEnable (t : Transport) (v : BitVec 32)
  /-- ADMIN_DISABLE (R453): A write of ENABLE = 0 destroys rings 0 and 1 and clears READY -/
  | adminDisable (t : Transport) (v : BitVec 32)
  /-- CTR_CONFIG_WRITE (R495): The CTR_CONFIG WRITE action configures a counter and zeroes it -/
  | ctrConfigWrite (d : Desc)
  /-- CTR_CONFIG_CLEAR (R495): The CTR_CONFIG CLEAR action zeroes a counter's VALUE, OVF_COUNT and SAT -/
  | ctrConfigClear (d : Desc)
  /-- CTR_SNAPSHOT (R493): The CTR_SNAPSHOT SNAPSHOT action copies all counters to the snapshot bank at one nanosecond -/
  | ctrSnapshot (d : Desc)
  /-- CTR_SNAPSHOT_CLEAR (R493): The SNAPSHOT with CLEAR action snapshots all counters and zeroes them in the same nanosecond -/
  | ctrSnapshotClear (d : Desc)
  /-- CTR_FREEZE (R492): The CTR_SNAPSHOT FREEZE action stops every counter at one nanosecond -/
  | ctrFreeze (d : Desc)
  /-- CTR_UNFREEZE (R496): The CTR_SNAPSHOT UNFREEZE action restarts every counter and clears FREEZE_CAUSE -/
  | ctrUnfreeze (d : Desc)
  /-- CTR_READ_COUNTERS (R497): CTR_READ with source 0 or 1 writes the live or snapshot records of the selected counters -/
  | ctrReadCounters (d : Desc)
  /-- CTR_READ_SAMPLES (R497): CTR_READ with source 2 moves the oldest sample records out of the buffer -/
  | ctrReadSamples (d : Desc)
  /-- SCRUB_TICK (R511): Every INTERVAL µs a memory's scrubber reads the next word, correcting or counting errors -/
  | scrubTick (m : MemId) (upset glitch : BitVec 72)
  /-- BUCKET_LEAK (R513): Every leak period the bucket level falls by 1 -/
  | bucketLeak (m : MemId)
  /-- MEM_SCRUB_CONFIG (R517): The MEM_SCRUB_CONFIG descriptor sets scrubber and bucket settings -/
  | memScrubConfig (d : Desc)
  /-- MEM_TEST_WRITE (R515): The MEM_TEST_WRITE descriptor writes a word's data and check bits verbatim -/
  | memTestWrite (d : Desc)
  /-- MEM_READ (R517): The MEM_READ descriptor copies memory words, corrected or raw, to a destination -/
  | memRead (d : Desc)
  /-- MEM_WRITE (R509): The MEM_WRITE descriptor writes bytes to a memory, with narrow writes through the merge buffer -/
  | memWrite (d : Desc)
  /-- CHECK_RUN_COMPUTE (R519): The CHECK_RUN COMPUTE action computes a check value over data -/
  | checkRunCompute (d : Desc)
  /-- CHECK_RUN_VERIFY_MEM (R522): The CHECK_RUN VERIFY_MEM action verifies data against the check value that follows it -/
  | checkRunVerifyMem (d : Desc)
  /-- CHECK_RUN_VERIFY_PARAM (R524): The CHECK_RUN VERIFY_PARAM action verifies data against the expected value in the descriptor -/
  | checkRunVerifyParam (d : Desc)
  /-- CHECK_RUN_APPEND (R522): The CHECK_RUN APPEND action writes the check value after the data -/
  | checkRunAppend (d : Desc)
  /-- CHECK_RUN_END (R524): A check run finishes reading its data and completes with its result -/
  | checkRunEnd (ck : Chan) (reread : Option (BitVec 64))
  /-- CHECK_CONTEXT_SAVE (R526): The CHECK_CONTEXT_SAVE descriptor saves a channel image to a slot or to memory -/
  | checkContextSave (d : Desc)
  /-- CHECK_CONTEXT_LOAD (R527): The CHECK_CONTEXT_LOAD descriptor loads a channel from a slot or from memory -/
  | checkContextLoad (d : Desc)
  /-- CHK_VALUE_COMMIT (R528): A write to CHK_CKn_VALUE_HI commits both halves and sets STARTED, or sets WR_BUSY -/
  | chkValueCommit (t : Transport) (ck : Chan) (v : BitVec 32)
  /-- RETAIN_ENTRY_BEGIN (R536): The last CORE vote is withdrawn; the device enters ENTERING, stops fetching and saves settings -/
  | retainEntryBegin
  /-- RETAIN_SAVE_DONE (R537): All saves are written, and the bank signatures are computed -/
  | retainSaveDone
  /-- RETAIN_SIGNATURES_DONE (R531): All 48 signatures are stored; entry commits, a waiting ENTER completes OK, and STATE becomes RETAIN -/
  | retainSignaturesDone
  /-- RETAIN_POWER_DOWN_DONE (R539): The AVSBus Write to code 0 is acknowledged, and a held wake source starts the wake sequence -/
  | retainPowerDownDone
  /-- LINK_WAKE_DETECT (R540): Signal or the wake tone on an enabled port is detected in RETAIN or DOZE, which is a LINK wake source -/
  | linkWakeDetect (p : Port)
  /-- WAKE_REQ_WRITE (R535): A write of 1 to WAKE_REQ in PWR_STATE is a SERIAL wake source -/
  | wakeReqWrite (t : Transport) (v : BitVec 32)
  /-- VDD_CORE_READY (R540): VDD_CORE reaches VSTART in wake step 1, and the reference PLLs relock -/
  | vddCoreReady
  /-- PLL_READY (R540): The reference PLLs relock in wake step 2, and memory periphery and the retention check follow -/
  | pllReady
  /-- MEM_READY (R531): The retention check completes, and failed banks are handled by their owners -/
  | memReady (upsets : List Upset)
  /-- LOGIC_READY (R540): Settings are restored and the timebase advanced; the device is ACTIVE, held accesses act and the wake is logged -/
  | logicReady (periods : Nat)
  /-- WAKE_STEP_TIMEOUT (R541): Wake step 1 or 2 misses its bound; it is repeated once, then WAKE_FAULT returns the device to RETAIN -/
  | wakeStepTimeout
  /-- SPI_LINGER_EXPIRE (R536): LINGER × 10 µs after a serial frame, the SPI client withdraws its CORE vote -/
  | spiLingerExpire
  /-- POWER_VOTE_HOLD (R550): The POWER_VOTE HOLD action sets the HOST vote for CORE -/
  | powerVoteHold (d : Desc)
  /-- POWER_VOTE_RELEASE (R550): The POWER_VOTE RELEASE action withdraws the HOST vote -/
  | powerVoteRelease (d : Desc)
  /-- POWER_VOTE_ENTER (R550): The POWER_VOTE ENTER action withdraws the HOST vote, flushes EVR and waits for RETAIN -/
  | powerVoteEnter (d : Desc)
  /-- POWER_VOTE_ENTER_TIMEOUT (R550): ENTER's Timeout expires with votes remaining, and ENTER completes REFUSED -/
  | powerVoteEnterTimeout
  /-- POWER_VOTE_DOZE (R547): The POWER_VOTE DOZE action requests DOZE on the named ports -/
  | powerVoteDoze (d : Desc)
  /-- POWER_VOTE_DOZE_TIMEOUT (R551): DOZE's Timeout expires, and DOZE completes TIMEOUT -/
  | powerVoteDozeTimeout (ring : RingNo) (tag : Nat)
  /-- POWER_VOTE_WAKE (R548): The POWER_VOTE WAKE action wakes the named ports from DOZE, or aborts their DOZE entry -/
  | powerVoteWake (d : Desc)
  /-- DOZE_ENTRY_DONE (R547): A port's save and signature are done, it withdraws its PORTn vote and enters DOZE -/
  | dozeEntryDone (p : Port)
  /-- DOZE_WAKE_DONE (R548): A port leaving DOZE is powered and checked, and enters STARTING or STOPPED -/
  | dozeWakeDone (p : Port) (upsets : List Upset)
  /-- POWER_STATS (R553): The POWER_STATS descriptor writes the power statistics record -/
  | powerStats (d : Desc)
  /-- ZONE_POWER_SAMPLE (R555): Each 100 µs each zone's power is averaged, or substituted when its reading is invalid -/
  | zonePowerSample (r : List ZoneReading)
  /-- THERMAL_MODEL_UPDATE (R559): The thermal model updates zone temperatures and evaluates thresholds and the Quench prediction -/
  | thermalModelUpdate
  /-- REPORT_STALE (R558): A host case report becomes older than REPORT_AGE, and the reference is substituted -/
  | reportStale
  /-- THERMAL_GUARD_TICK (R561): While no firmware runs, the hardware guard evaluates steady-state temperatures every 100 µs and may start a hard Quench -/
  | thermalGuardTick
  /-- THROTTLE_SUBSTEP_TIMER (R563): 10 ms after a throttle sub-step, the next one is applied while a zone and its steady state are at or above 108 °C -/
  | throttleSubstepTimer
  /-- THROTTLE_WITHDRAW_TIMER (R564): After THROTTLE clears, at intervals of at least 1 s, the most recent throttle-only sub-step is withdrawn -/
  | throttleWithdrawTimer
  /-- QUENCH_LF_TIME_END (R233): The 200 µs LF time of an orderly Quench ends, and the laser bias ramp begins -/
  | quenchLfTimeEnd
  /-- QUENCH_FLUSH_DONE (R567): The orderly-Quench event flush ends, or 500 µs pass; transmitters go OFF and ports to FAULT -/
  | quenchFlushDone
  /-- QUENCH_HOLD_END (R570): Every zone's quench estimate has been at or below 95 °C for 1 s, and the Quench ends -/
  | quenchHoldEnd
  /-- CASE_WAKE_CONVERSION (R571): In RETAIN the hearth converts WAKE_INPUT every 10 ms, and two low readings raise the THERMAL wake source -/
  | caseWakeConversion (code : Nat)
  /-- THERMAL_STATUS (R572): The THERMAL_STATUS descriptor writes the thermal status record -/
  | thermalStatus (d : Desc)
  /-- CASE_TEMP_REPORT (R573): The CASE_TEMP_REPORT descriptor supplies a case temperature and optionally selects it as the reference -/
  | caseTempReport (d : Desc)
  /-- EVR_FLUSH_TIMER (R580): 10 s after the previous flush, the buffer is flushed -/
  | evrFlushTimer
  /-- FLASH_OPERATION_DONE (R643): A status poll finds a page program or sector erase ended, and the next queued flash operation starts -/
  | flashOperationDone (ok : Bool) (c : SlotCheck)
  /-- POWER_FAIL (R582): POWER_FAIL_N asserts or VDD_IO falls below 1.62 V; erase is suspended and the lifetime block and records are written -/
  | powerFail
  /-- POWER_FAIL_END (R584): Power fail ends with supplies in range; the erase resumes and 0xF5 is logged -/
  | powerFailEnd
  /-- HOURS_TICK (R576): Every 225 s with VDD_IO present, HOURS advances by 1 -/
  | hoursTick
  /-- LIFETIME_WRITE_TIMER (R576): At least once per hour the lifetime block is written to flash -/
  | lifetimeWriteTimer
  /-- EVR_READ (R595): The EVR_READ descriptor writes stored records from a given SEQ onward -/
  | evrRead (d : Desc)
  /-- EVR_FREEZE (R587): The EVR_FREEZE freeze action stops flushes and erases except the exempt ones, for up to 60 s -/
  | evrFreeze (d : Desc)
  /-- EVR_RELEASE (R587): The EVR_FREEZE release action ends a freeze, and held flushes run -/
  | evrRelease (d : Desc)
  /-- EVR_FREEZE_EXPIRE (R587): A freeze reaches 60 s and ends, setting FREEZE_EXPIRED -/
  | evrFreezeExpire
  /-- EVR_CLEAR (R588): The EVR_CLEAR descriptor erases every sector of the store and logs 0xF2 -/
  | evrClear (d : Desc)
  /-- TRACE_READ (R595): The TRACE_READ descriptor writes trace entries from the newest backward -/
  | traceRead (d : Desc)
  /-- EVR_CURSOR_WRITE (R586): A write of EVR_CURSOR sets the record window to a SEQ, or to the oldest record for 0xFFFF_FFFF -/
  | evrCursorWrite (t : Transport) (v : BitVec 32)
  /-- EVR_WIN15_READ (R586): A read of EVR_WIN15 returns the last dword and advances the shared cursor by 1 -/
  | evrWin15Read (t : Transport)
  /-- RTC_SECOND (R590): The RTC counts a second, and an ALARM match fires the alarm -/
  | rtcSecond
  /-- RTC_CORRECTION (R591): Every 2^20 crystal periods the RTC adds or skips CORR periods -/
  | rtcCorrection
  /-- RTC_SET (R594): The RTC_SET descriptor sets the calendar, CORR or alarm as its apply bits select -/
  | rtcSet (d : Desc)
  /-- RTC_GET (R595): The RTC_GET descriptor writes the calendar time and returns RTC_SEC -/
  | rtcGet (d : Desc)
  /-- XTAL_STOPPED (R622): The crystal stops for 1 ms; XTAL_STOPPED is set, the RTC stops and RTC_VALID clears -/
  | xtalStopped
  /-- POWER_ON_RESET (R596): VDD_IO rises through 1.62 V from OFF, returning classes H, S, C and P and starting boot -/
  | powerOnReset (vbatKept : Bool)
  /-- SUPPLY_GOOD (R596): Every rail has been in range for 1 ms with RESET_N high, and boot step 1 begins -/
  | supplyGood (strap : BitVec 4)
  /-- RESET_N (R596): RESET_N low for 1 µs resets classes H, S, C and P, turns transmitters OFF and boots at release -/
  | resetN (strap : BitVec 4)
  /-- HOST_HARD_RESET (R597): A PCIe hot reset, FLR or PERST_N is a host hard reset when PCIe boots or is enabled, else resets only configuration space -/
  | hostHardReset (k : PcieReset)
  /-- SOFT_RESET (R601): The SOFT_RESET descriptor stops every port, returns classes S, C and P and restarts the core -/
  | softReset (d : Desc)
  /-- CORE_RESTART (R599): The core finishes restarting after a core reset, watchdog or soft reset; firmware resumes and the reset is logged -/
  | coreRestart
  /-- WATCHDOG_EXPIRE (R614): Firmware has not restarted the watchdog in time; a watchdog reset is counted and logged -/
  | watchdogExpire (pc : BitVec 32)
  /-- BOOT_IMAGE_LOADED (R609): Boot verifies and loads the selected or fallback image, or enters recovery -/
  | bootImageLoaded (a b : SlotCheck)
  /-- CFG_AUTO_WRITE (R606): Within 10 s of a change of a class N setting, the device writes its configuration block to flash -/
  | cfgAutoWrite (typ : Nat)
  /-- CFG_WRITE (R607): The CFG_WRITE descriptor writes a configuration block to flash and applies it -/
  | cfgWrite (d : Desc)
  /-- CFG_READ (R607): The CFG_READ descriptor writes the content in force, or the stored flash copy -/
  | cfgRead (d : Desc)
  /-- FW_LOAD (R611): The FW_LOAD descriptor writes a chunk into the free image slot, verifying the slot with LAST -/
  | fwLoad (d : Desc)
  /-- FW_ACTIVATE_SWITCH (R612): The FW_ACTIVATE SWITCH action switches to the other slot and writes boot control -/
  | fwActivateSwitch (d : Desc)
  /-- FW_ACTIVATE_TRIAL (R612): The FW_ACTIVATE TRIAL action switches to the other slot without writing boot control -/
  | fwActivateTrial (d : Desc)
  /-- FW_ACTIVATE_COMMIT (R612): The FW_ACTIVATE COMMIT action writes boot control for the running slot and ends the trial -/
  | fwActivateCommit (d : Desc)
  /-- FW_ACTIVATE_RAISE_ROLLBACK (R612): The FW_ACTIVATE RAISE_ROLLBACK action blows fuses up to the running image's ROLLBACK -/
  | fwActivateRaiseRollback (d : Desc)
  /-- FW_SWITCH_VERIFY_DONE (R613): The target slot's verification ends; the core stops and outstanding descriptors abort, or the switch fails -/
  | fwSwitchVerifyDone (c : SlotCheck)
  /-- FW_SWITCH_LOAD_DONE (R613): The ROM finishes loading and hashing the new image, and the new firmware starts, or a reload or core reset follows -/
  | fwSwitchLoadDone (hashOk : Bool)
  /-- FW_SWITCH_RESUME (R613): The new firmware resumes adaptation and FW_ACTIVATE completes OK -/
  | fwSwitchResume
  /-- BROWNOUT (R618): A rail stays below its brown-out threshold for 10 µs; power fail begins and every transmitter goes OFF -/
  | brownout (rail : Rail)
  /-- BROWNOUT_RECOVERY (R618): Every rail has been back in range for 1 ms, and the device resets as RESET_N would -/
  | brownoutRecovery (strap : BitVec 4)
  /-- REFCLK_LOST (R621): A reference clock shows no edge for 1 µs; its PLLs hold, an event is logged and acquisition is blocked -/
  | refclkLost (c : RefClk)
  /-- REFCLK_HOLD_AGED (R621): After 10 ms of hold, the held PLL frequency guarantee widens to ±100 ppm -/
  | refclkHoldAged (c : RefClk)
  /-- REFCLK_RETURN (R621): A lost reference clock returns; the PLLs relock and the transmitters return under R24 -/
  | refclkReturn (c : RefClk)
  /-- JTAG_RESET (R635): TRST_N low or power-on resets the test access port and selects IDCODE -/
  | jtagReset
  /-- EXTEST (R637): The EXTEST instruction drives boundary register values, including DRV_EN -/
  | extest (cells : BitVec 208)
  /-- SAMPLE_PRELOAD (R635): The SAMPLE/PRELOAD instruction samples or preloads the boundary register -/
  | samplePreload (pins cells : BitVec 208)
  /-- IDCODE (R635): The IDCODE instruction selects the 0x1320_8B47 identification register -/
  | idcode
  /-- HIGHZ (R637): The HIGHZ instruction floats outputs, with the DRV_EN pull-downs holding them low -/
  | highz
  /-- CLAMP (R637): The CLAMP instruction holds outputs at boundary values with BYPASS selected -/
  | clamp
  /-- EXTEST_PULSE (R635): The IEEE 1149.6 EXTEST_PULSE instruction tests the AC-coupled pairs -/
  | extestPulse (cells : BitVec 208)
  /-- EXTEST_TRAIN (R635): The IEEE 1149.6 EXTEST_TRAIN instruction tests the AC-coupled pairs with a pulse train -/
  | extestTrain (cells : BitVec 208)
  /-- BYPASS (R635): The BYPASS instruction, or any unlisted opcode, selects the bypass register -/
  | bypass (opcode : Byte)
  /-- LANE_CDR_LOST (R358): A host receiver's clock recovery loses lock and the lane leaves LOCKED or ALIGNED other than by EI, which breaks group alignment and takes the port's line transmitters off their recovered clock -/
  | laneCdrLost (l : Lane)
  /-- CHECKER_LOCK (R367): A host-lane pattern checker finds 256 consecutive bits matching its prediction and becomes locked, starting its BITS and ERRORS counts -/
  | checkerLock (l : Lane)
  /-- CHECKER_LOCK_LOSS (R367): A locked pattern checker sees 64 errors in 256 consecutive bits, counts LOCK_LOSSES and seeds itself again -/
  | checkerLockLoss (l : Lane) (bits errors : Nat)
  /-- SYNC_HEADER_LOSS (R318): In CU-10N or CU-25N data, 16 invalid 64b/66b sync headers among 64 consecutive are a link loss with down reason SYNC -/
  | syncHeaderLoss (p : Port)
  /-- TRAINING_MARKERS_MISSED (R285): In TRAIN or FD, eight consecutive predicted markers of the training signal are missed; LOCK_LOSSES is counted and the port returns to SEARCH -/
  | trainingMarkersMissed (p : Port)
  /-- AN_TIMER_EXPIRY (R291): A Clause 73 timer expires and negotiation fails by its own rules, counting AN_FAILS and returning the port to SEARCH or restarting Clause 73 -/
  | anTimerExpiry (p : Port) (restart : Bool)
  /-- REFRESH_BURST_RX (R339): A port in LULL receives the partner's refresh burst, which restarts the 3 ms LULL_LOST test and lets the phase loop update -/
  | refreshBurstRx (p : Port)
  /-- PCIE_MEMORY_REQUEST (R543): A PCIe memory request to BAR0 outside the hearth registers arrives, voting as client 14, and in RETAIN or WAKING it is held by withheld credit and acts as a DOORBELL wake source -/
  | pcieMemoryRequest (r : PcieReq)
  /-- PCIE_RESET_END (R596): The PCIe hot reset, FLR or PERST_N that caused a host hard reset ends, and the device samples its straps and boots -/
  | pcieResetEnd (strap : BitVec 4)
  /-- XTAL_RESTART (R622): The 32.768 kHz crystal oscillates again after a stop, XTAL_OK sets and the RTC resumes counting -/
  | xtalRestart
  /-- CORE_HALT (R21): The management core halts; adaptation freezes, the FW client votes for CORE, the watchdog pauses and the thermal guard takes over -/
  | coreHalt
  /-- CORE_RUN (R614): A halted core runs again; the watchdog count starts afresh, frozen adaptation resumes and the thermal model resumes from its last state -/
  | coreRun
  deriving DecidableEq, Repr

end Sys2Proof
end

