-- ==== Sys2Proof/Config.lean ====
section
/-! DEFINITION. What an implementation or the world fixes and the spec leaves open: free values, each without a body, so
that nothing can be proved of a particular value, and the factory's thermistor table, which the spec determines. A free
value is applied to a count of the values drawn so far, or to the operands it depends on (log entry 5). -/

namespace Sys2Proof.Config

/-- The management core's program counter where a sample record catches it (14 R491). -/
opaque corePc : Nat → BitVec 32

/-- A random 16-bit NONCE of LINK_PARAM (08 R298). -/
opaque nonce16 : Nat → BitVec 16

/-- A random transmitted nonce of a Clause 73 base page (08 R286). -/
opaque nonce5 : Nat → BitVec 5

/-- The default CASE_TABLE, in 0.1 °C (19, under Table 19.8): a 10 kΩ NTC (at 25 °C) with B = 3,435 K on the 100 µA source;
point i is at 1.5 V × 4,096 i / 65,536, that is 937.5 i Ω; clamped to −40.0 and +125.0 °C, rounded to 0.1 °C (DEDUCED,
log entry 8). -/
def caseTable : List Int :=
  [1250, 1021, 757, 619, 527, 460, 407, 363, 326, 295, 267, 242, 220, 200, 181, 164, 149]

/-- The substitute samples of a SLIP, by their place in the block (02 R68). -/
opaque substSample : Nat → Nat → BitVec 8

/-- The places of the link message channel's carrier bits in a group of codewords that bears alignment markers, by mode, in
transmission order: the last 16 bits of every marker. IEEE 802.3 places the markers (08 R305). -/
opaque carriers : Nat → List Nat

/-- The value that IEEE 802.3 gives a marker's bit, by mode and place (08 R305). -/
opaque carrierValue : Nat → Nat → Bool

/-- Whether a group of codewords bears alignment markers, by mode, draw and number: the host's PCS places them (08 R305). -/
opaque markerGroup : Nat → Nat → Nat → Bool

/-- The alignment markers that stand first in a group of codewords which the device forms itself, by mode and number
(06 R230). -/
opaque fillMarkers : Nat → Nat → List Bool

/-- The scrambler's register where the device begins to form a stream (06 R230). -/
opaque scrSeed : Nat → BitVec 58

/-- The bits of SSPRBS13, which IEEE 802.3 defines (10 Table 10.9). -/
opaque ssprbs : Nat → Bool

/-- A host receiver's FFE or DFE tap after a window in which it adapted; the spec gives no step (10 R360). -/
opaque hostTap : Nat → Nat → Int

/-- The length of a Clause 73 page in its bit cells (08 Table 8.1). -/
opaque pageCells : Nat

/-- Whether a received page delimiter is valid as Clause 73 defines (08 R278). -/
opaque delimiterValid : List Int → Bool

/-- The training pattern of a class's IEEE PHY type, by class and position (08 R270). -/
opaque ieeePattern : Nat → Nat → Int

/-- What the rest of a block's place in a capture memory holds where the block is shorter than its place (04 R164), by byte. -/
opaque capPad : Nat → Nat → Byte

/-- The 8 × 64 coefficients of the cancellers' polyphase interpolator, in units of 2^−15: phase, tap (05 R173). -/
opaque interp : Nat → Nat → Int

/-- σ² of a level for which a window holds no symbol, in 1/64 square output units (04 R155, R157). -/
opaque noLevel : Nat → Nat

/-- The quotient of a calibration window's sum by a power that is 0, of which the spec states no value (03 R98), by the sum. -/
opaque noRatio : Int → Int

/-- The hybrid and package response stored at manufacture, by HYB_R, HYB_C and delay, in units of the taps (05 R206). -/
opaque hybridTap : Nat → Nat → Nat → Int

/-- The incident amplitude stored at manufacture, in units of the taps (05 R206). -/
opaque incident : Nat

/-- The noise floor of link-up reflectometry in 0.0001, by the corrected response (05 Table 5.10). -/
opaque linkNoise : List Int → Nat

/-- What a 16-bit field holds for a result that it has no room for (05 Tables 5.10, 5.11; 12 R434). -/
opaque over16 : Int → BitVec 16

/-- BIT of the record of a frame that stayed without its ACK, for which no table gives one (08 R311, 18 Table 18.2). -/
opaque ackBit : BitVec 8

/-- BIT of the record of a lasting flash write failure, for which no table gives one (19 R604, 18 Table 18.2). -/
opaque writeFailBit : BitVec 8

/-- BIT of the record of a configuration block of which flash holds no committed copy (19 R605, 18 Table 18.2). -/
opaque absentBit : BitVec 8

/-- What EVR_CLEAR's record names as the last record erased where the store held none (18 Table 18.2). -/
opaque noneErased : BitVec 32

/-- The calendar's YEAR after 2199-12-31, where the calendar of the spec ends (18 R590). -/
opaque yearAfter : BitVec 8

/-- The boundary cell that drives DRV_ENn; the balls of DRV_EN0–DRV_EN7 have no positions given (20 R634, R636). -/
opaque drvCell : Fin 8 → Fin 208

/-- What a read over SPI gives for a word of ring memory with a lasting error; the spec gives a value over MDIO alone
(13 R445, 15 R507). -/
opaque spiLost : Nat → BitVec 64

/-- What a read gives where PCIe, not the spec, says how a request that reaches no register is answered (19 R642). -/
opaque pcieUnserved : Nat → BitVec 32

/-- How many instructions the management core, which is self-timed, retires in a nanosecond (14 Table 14.1, source 0x08). -/
opaque coreRetired : Nat → Nat

/-- The unique die identifier (13 Table 13.12). -/
opaque dieId : BitVec 64

end Sys2Proof.Config
end

