-- ==== Sys2Proof/Machine/State.lean ====
section
/-! DEFINITION. The state of the block, as plain data: everything the spec gives it, and the queue of commands that wait.
Each field's comment gives its width and the chapter and rule of spec/ that name it; its default is its reset value. -/

namespace Sys2Proof.Machine

/-- Access codes of register fields (00 Table 0.5); reserved bits have no field. -/
inductive Acc where
  | rw | ro | wo | w1c | w1s
  deriving DecidableEq, Repr

/-- Retention classes (00 Table 0.6). -/
inductive Cls where
  | k | n | h | s | c | p
  deriving DecidableEq, Repr

/-- One field of a set-up register: the register's offset, the field's lowest bit and width, its access code, class and
reset value, and whether it is a read-only field that reports live state (19 R599). -/
structure Fld where
  off : Nat
  lsb : Nat
  width : Nat
  acc : Acc
  cls : Cls
  reset : Nat
  live : Bool
  deriving DecidableEq, Repr

/-- The faults that stop the block. None is: every error the spec describes is a state, an event bit, a status code or an
interrupt, so no command raises a fault, and the type has no constructor. -/
inductive Fault where
  deriving DecidableEq, Repr

/-- The refusals. -/
inductive Refusal where
  /-- Raised by Dispatch alone, for a command that has no meaning yet; safe, since nothing is claimed to happen. -/
  | notModelled (mnemonic : String)
  deriving DecidableEq, Repr

/-- A sparse table in one canonical form: keys strictly rising, no entry equal to what an unlisted key reads as. -/
abbrev Sparse (α : Type) := List (Nat × α)

/-- A completion (13 Table 13.8). -/
structure Cpl where
  /-- 8 bits | 13 Table 13.8 Status, Table 13.9 -/
  status : Nat
  /-- 1 bit | 13 Table 13.8 ASYNC -/
  async : Bool := false
  /-- 1 bit | 13 Table 13.8 FETCH_FAIL -/
  fetchFail : Bool := false
  /-- 1 bit | 13 Table 13.8 EVT_LOST -/
  evtLost : Bool := false
  /-- 2 bits | 13 Table 13.8 SEV -/
  sev : Nat := 0
  /-- 16 bits | 13 Table 13.8 Tag -/
  tag : Nat
  /-- 32 bits | 13 Table 13.8 Result -/
  result : Nat
  /-- 64 bits | 13 Table 13.8 Timestamp -/
  time : Nat
  deriving DecidableEq, Repr

/-- Where a submission ring stands in a chain of linked descriptors (13 R465). -/
inductive ChainState where
  /-- no chain -/
  | none
  /-- a linked descriptor has not completed -/
  | waiting
  /-- a linked descriptor has failed: the rest completes ABORTED -/
  | failed
  deriving DecidableEq, Repr

/-- What follows the notice and the SQUELCH of a port's stop sequence (09 R326–R328, 16 R547, 19 R601). -/
inductive StopKind where
  | stop | retrain | reset | mdioReset | doze | softReset
  deriving DecidableEq, Repr

/-- What a descriptor in its wait phase waits for (13 R463). -/
inductive WaitKind where
  | portUp (p : Port) | portStop (p : Port) | portRetrain (p : Port) | portReset (p : Port) | startProbe (p : Port)
  | eyeScan (p : Port) (x : Pair) | capture (p : Port) | cableDiag (p : Port)
  | adcCycle (p : Port) | adcRequal (p : Port)
  | monCycle | monSlots | syscal (i : InputNo)
  | loopStart (l : LoopNo) | loopStop (l : LoopNo) | loopSwap (l : LoopNo) | loopTable (l : LoopNo)
  | loopInject (l : LoopNo) | bceCapture | auxQueue (c : AuxCh)
  | check (k : Chan) | powerCap | enter | doze (mask : Nat) | wake (mask : Nat)
  | lmcSend (p : Port) (typ seq : Nat) | lmcReceive (p : Port)
  | evrClear | fwLoad | fwActivate | cfgWrite | softReset
  deriving DecidableEq, Repr

/-- Calendar fields (18 R590). -/
structure Cal where
  /-- 6 bits | 18 Table 18.1 SEC -/
  sec : Nat := 0
  /-- 6 bits | 18 Table 18.1 MIN -/
  min : Nat := 0
  /-- 5 bits | 18 Table 18.1 HOUR -/
  hour : Nat := 0
  /-- 5 bits | 18 Table 18.1 DAY -/
  day : Nat := 1
  /-- 4 bits | 18 Table 18.1 MONTH -/
  month : Nat := 1
  /-- 8 bits | 18 Table 18.1 YEAR, from 2000 -/
  year : Nat := 0
  deriving DecidableEq, Repr

/-- One ring context, Table 13.5 (13 R448–R451), with the model's own book-keeping of the ring engine. -/
structure RingCtx where
  /-- 64 bits | 13 R449, Table 13.5 BASE -/
  base : Nat := 0
  /-- 16 bits | 13 R450 HEAD -/
  head : Nat := 0
  /-- 16 bits | 13 R450 TAIL -/
  tail : Nat := 0
  /-- 5 bits | 13 R448 SIZE_LOG2, 0 is a disabled context -/
  sizeLog2 : Nat := 0
  /-- 2 bits | 13 R448, Table 13.4 TYPE -/
  typ : Nat := 0
  /-- 1 bit | 13 R451 PHASE -/
  phase : Bool := false
  /-- 2 bits | 13 R38, Table 13.5 OWNER -/
  owner : Nat := 0
  /-- 1 bit | 13 R476 IRQ_EN -/
  irqEn : Bool := false
  /-- 6 bits | 13 R476 VECTOR -/
  vector : Nat := 0
  /-- 8 bits | 13 R462, R476 WEIGHT or COAL_COUNT -/
  weight : Nat := 0
  /-- 14 bits | 13 R467 CQ -/
  cq : Nat := 0
  /-- 8 bits | 13 R476 COAL_TIME -/
  coalTime : Nat := 0
  /-- 7 bits | 13 R462 OUTSTANDING -/
  outstanding : Nat := 0
  /-- 32 bits | 13 Table 13.5 ENTRIES -/
  entries : Nat := 0
  /-- 16 bits | 13 R467, R479 HELD_OR_DROPS -/
  heldOrDrops : Nat := 0
  /-- 16 bits | 13 R456 DB_BAD -/
  dbBad : Nat := 0
  /-- count | 13 R476 entries (or sample sets) written since the last signal -/
  sinceSignal : Nat := 0
  /-- 3 values | 13 R465 where the ring stands in a chain of linked descriptors -/
  chain : ChainState := .none
  deriving DecidableEq, Repr

/-- A telemetry stream bound to a ring (13 R478, R479). -/
structure Stream where
  /-- 14 bits | 13 R478 the telemetry ring -/
  ring : Nat := 0
  /-- 3 bits | 13 R478, Table 13.14 Kind -/
  kind : Nat := 0
  /-- 1 bit | 13 R478 CLEAR -/
  clear : Bool := false
  /-- 16 bits | 13 R478 PERIOD, ms -/
  period : Nat := 0
  /-- 64 bits | 13 R478 SELECT -/
  select : Nat := 0
  /-- 32 bits | 13 Table 13.13 SET -/
  set : Nat := 0
  /-- 1 bit | 13 R479 sets were dropped since the last one written -/
  dropped : Bool := false
  /-- a replacing stream's kind, CLEAR, PERIOD and SELECT | 13 R478 takes over at the old stream's next period -/
  repl : Option (Nat × Bool × Nat × Nat) := none
  deriving DecidableEq, Repr

/-- An event-notice target of one transport (13 R475). -/
structure EvTarget where
  /-- 14 bits | 13 R475 the target completion ring -/
  ring : Nat := 0
  /-- 2 bits | 13 R475 MIN_SEV -/
  minSev : Nat := 0
  /-- up to 64 notices | 13 R475 notices held while the target ring is full -/
  held : List Cpl := []
  /-- 1 bit | 13 R475 notices were dropped before the next one -/
  lost : Bool := false
  deriving DecidableEq, Repr

/-- The MDIO vendor registers of MMD 30 and 31 that are not windows on other state (13 R445, Table 13.3). -/
structure Mdio where
  /-- 32 bits | 13 R445 window address, 30.1 and 30.0 | no reset value in the spec -/
  addr : BitVec 32 := 0
  /-- 16 bits | 13 R445 bits 31:16 latched by a 30.2 read -/
  hiLatch : BitVec 16 := 0
  /-- 16 bits | 13 R445 bits 15:0 held by a 30.2 write -/
  loHold : BitVec 16 := 0
  /-- 1 bit | 13 R445 30.4 AUTOINC, reset 1 -/
  autoInc : Bool := true
  /-- 1 bit | 13 R445 30.5 UE -/
  ue : Bool := false
  /-- 16 bits | 13 R445 31.0 DB_RING -/
  dbRing : BitVec 16 := 0
  /-- 8 × 1 bit | 13 R446 1.1 bit 2, a link loss not yet read (latching low) -/
  linkLow : Vector Bool 8 := Vector.replicate 8 false
  deriving DecidableEq, Repr

/-- One MSI-X table entry (13 R441), as PCIe defines it. -/
structure MsixEntry where
  /-- 64 bits | 13 R441 message address -/
  addr : BitVec 64 := 0
  /-- 32 bits | 13 R441 message data -/
  data : BitVec 32 := 0
  /-- 1 bit | 13 R441 vector control, mask -/
  masked : Bool := true
  deriving DecidableEq, Repr

/-- One sample record of the sample buffer, Table 14.3 (14 R490). -/
structure Sample where
  /-- 6 bits | 14 Table 14.3 Counter -/
  ctr : Nat
  /-- tag and ring | 14 R491 the descriptor whose action phase was in progress, if any -/
  desc : Option (Nat × Nat)
  /-- 32 bits | 14 R491 Core PC, none while the core does not run -/
  pc : Option (BitVec 32)
  /-- 8 bits | 14 Table 14.3 Event -/
  event : Nat
  /-- 8 bits | 14 Table 14.3 Instance -/
  inst : Nat
  /-- 1 bit | 14 Table 14.3 FROZE -/
  froze : Bool
  /-- 32 bits | 14 Table 14.3 OVF_COUNT -/
  ovf : Nat
  /-- 64 bits | 14 Table 14.3 Time -/
  time : Nat
  deriving DecidableEq, Repr

/-- The general counters' state that no register shows directly (14). -/
structure Ctrs where
  /-- 64 × (48 + 32 bits) | 14 R493 snapshot bank: VALUE and OVF_COUNT -/
  snap : Vector (Nat × Nat) 64 := Vector.replicate 64 (0, 0)
  /-- up to 64 records | 14 R490 sample buffer, oldest first -/
  samples : List Sample := []
  /-- 64 × 1 bit | 14 R488 a counter with RELOAD = 0 has overflowed since its last CTR_CONFIG -/
  done : Vector Bool 64 := Vector.replicate 64 false
  deriving DecidableEq, Repr

/-- One stored word of an on-die memory (15 R501–R504). -/
structure MWord where
  /-- 64 bits | 15 R502 data -/
  data : BitVec 64 := 0
  /-- 8 bits | 15 R502 check bits -/
  check : BitVec 8 := 0
  /-- 1 bit | 15 R504 valid bit -/
  valid : Bool := false
  deriving DecidableEq, Repr

/-- A check channel's image, Table 15.8 (15 R518, R526). -/
structure CkImage where
  /-- 64 bits | 15 R518 POLY -/
  poly : BitVec 64 := 0
  /-- 64 bits | 15 R518 INIT -/
  init : BitVec 64 := 0
  /-- 64 bits | 15 R518 XOROUT -/
  xorout : BitVec 64 := 0
  /-- 64 bits | 15 R518 VALUE -/
  value : BitVec 64 := 0
  /-- 64 bits | 15 R518 COUNT -/
  count : Nat := 0
  /-- 1 to 64 | 15 R518 WIDTH W -/
  width : Nat := 1
  /-- 1 bit | 15 R519 REFIN -/
  refin : Bool := false
  /-- 1 bit | 15 R519 REFOUT -/
  refout : Bool := false
  /-- 1 bit | 15 R520 CV_ORDER -/
  cvOrder : Bool := false
  /-- 1 bit | 15 R519 STARTED -/
  started : Bool := false
  /-- 1 bit | 15 Table 15.8 CONFIGURED -/
  configured : Bool := false
  deriving DecidableEq, Repr

/-- The check engine's state (15 R518–R531). -/
structure Chk where
  /-- 4 channels × 48 bytes | 15 R518 CK0 to CK3 -/
  ch : Vector CkImage 4 := Vector.replicate 4 {}
  /-- 4 × 32 bits | 15 R528 VALUE_LO write held -/
  loHeld : Vector (BitVec 32) 4 := Vector.replicate 4 0
  /-- 16 × 48 bytes | 15 R526 context slots, none is empty -/
  slots : Vector (Option CkImage) 16 := Vector.replicate 16 none
  /-- 48 × 32 bits | 15 R531 stored retention signatures, none is stored as failed -/
  sigs : Vector (Option (BitVec 32)) 48 := Vector.replicate 48 (some 0)
  /-- 1 bit | 15 R530 the signature unit works -/
  sigBusy : Bool := false
  deriving DecidableEq, Repr

/-- An AVSBus Write of the Voltage data type (02 R65). -/
structure AvsWrite where
  /-- 6 bits | 02 R57, R66 the code that the Write commands -/
  code : Nat
  /-- 1 bit | 02 R66 the Write is the retry of a failed one -/
  retry : Bool := false
  /-- 4 bits | 02 R65, Table 2.13 RAIL as the Write was issued -/
  rail : Nat := 0
  /-- millivolts | 02 R65, R57 the value on the bus: 550 + 5 × code -/
  mv : Nat := 0
  deriving DecidableEq, Repr

/-- The slack governor's state beside its registers (02 R57–R66). -/
structure Gov where
  /-- 6 bits | 02 R60, R66 code of the last step issued, moving toward the target -/
  cmd : Nat := 40
  /-- count | 02 R58 consecutive intervals with W at 20 ns or more -/
  dwell : Nat := 0
  /-- 1 bit | 02 R58, R61 the 1 ms ban on steps down is in force -/
  noDown : Bool := false
  /-- count | 02 R61 steps up that SLIPs owe, each due at the earliest moment R59 allows -/
  slipStep : Nat := 0
  /-- 64 bits | 02 R59 timebase at which the last step was issued, none since the governor started -/
  stepAt : Option Nat := none
  /-- a Write | 02 R65, R66 the AVSBus Write in flight -/
  avs : Option AvsWrite := none
  /-- 64 × 14 bits, samples | 01 R22, 02 R47 occupancy of each boundary's elastic buffer as last observed -/
  fill : Vector Nat 64 := Vector.ofFn fun b =>
    if (b.val < 32 ∧ b.val % 4 < 2) ∨ (32 ≤ b.val ∧ b.val % 2 = 0) then 0 else 8192
  /-- 1 bit | 02 R66 the failing Write may be issued again (AVS_FAULT, once per 1 ms) -/
  avsWait : Bool := false
  /-- 8 × 3 bits | 02 R62 iteration limit from which each port's ceiling lowering started, 0 none -/
  ceilFrom : Vector Nat 8 := Vector.replicate 8 0
  /-- list of ports | 02 R62 the lowerings still in force, most recent first -/
  ceilOrder : List Port := []
  /-- 1 bit | 02 R62 lowering goes on once per millisecond until W reaches 8 ns -/
  lowering : Bool := false
  /-- list of ports | 02 R62 ports that own a boundary below the low watermark in the last interval -/
  lowPorts : List Port := []
  deriving DecidableEq, Repr

/-- The shed order's state (02 R75–R80, 17 R563–R564). -/
structure Shed where
  /-- list, newest first | 02 R75 sub-steps in force: 1 to 6 are 1a, 1b, 1c, 2, 3, 4; from 7 on, those of step 5 -/
  applied : List Nat := []
  /-- 0 to 6 | 02 R79 deepest sub-step that the cap holds -/
  cap : Nat := 0
  /-- 0 to 14 | 02 R79 deepest sub-step that THROTTLE holds -/
  thr : Nat := 0
  /-- watts × 1000 | 02 R76, 16 R552 the cap in force -/
  capMw : Option Nat := none
  /-- 1 bit | 02 R76, R78 a cap is being evaluated (its POWER_CAP waits, or none after R645) -/
  eval : Bool := false
  /-- ports | 02 R75 step 5, 16 R549 ports that the throttle put into DOZE, last first -/
  dozed : List Port := []
  /-- ports | 02 R75 step 4 ports that the shed put into Lull -/
  lulled : List Port := []
  /-- up to 100 × mW | 02 R76 device power of the last 100 µs periods, newest first -/
  power : List Nat := []
  deriving DecidableEq, Repr

/-- A SLIP in progress on one path of a port (02 R67–R73). -/
structure SlipRun where
  /-- 3 bits | 02 Table 2.16 LAST_SRC code of the boundary -/
  src : Nat
  /-- 1 bit | 02 R72, R73 the SLIP arose in data mode -/
  data : Bool
  /-- count | 02 R72 codewords marked so far -/
  marked : Nat
  /-- count | 02 R68 substitute samples that the SLIP puts in the stream -/
  subst : Nat := 0
  deriving DecidableEq, Repr

/-- One physical ADC slice (03 R96–R101, Table 3.9). -/
structure Slice where
  /-- 8 bits, signed | 03 Table 3.3 offset trim -/
  off : Int := 0
  /-- 8 bits, signed | 03 Table 3.3 gain trim -/
  gain : Int := 0
  /-- 10 bits, signed | 03 Table 3.3 skew trim -/
  skew : Int := 0
  /-- 2 bits | 03 Table 3.9 Attempts at the last calibration -/
  attempts : Nat := 0
  /-- 1 bit | 03 R118 kept in service as suspect -/
  suspect : Bool := false
  /-- 8 bits | 03 Table 3.9 Age, steps since the last calibration -/
  age : Nat := 0
  /-- count | 03 R107 consecutive failing health windows -/
  bad : Nat := 0
  /-- 1 bit | 03 R107, R115 failed: its samples are substituted -/
  failed : Bool := false
  deriving DecidableEq, Repr

/-- A calibration step or requalification in progress on an ADC (03 R98–R105, R124). -/
structure CalStep where
  /-- 6 bits | 03 R98 position p -/
  pos : Nat
  /-- 7 bits | 03 R98 the physical slice being measured -/
  slice : Nat
  /-- measurements | 03 R99 windows of the running attempt -/
  got : List CalMeas
  /-- 1 to 3 | 03 R101 attempt number -/
  attempt : Nat
  /-- 1 bit | 03 R102 the running window is disturbed -/
  disturbed : Bool
  /-- three trims | 03 R100, R103 targets, once an attempt has succeeded: the temper ramp runs -/
  target : Option (Int × Int × Int)
  deriving DecidableEq, Repr

/-- One line ADC and its amplifier, of one pair (03). -/
structure Adc where
  /-- 66 slices | 03 R94, R97 trims, class H -/
  slices : Vector Slice 66 := Vector.replicate 66 {}
  /-- 64 × 7 bits | 03 R94 the slice in service at each position -/
  place : Vector Nat 64 := Vector.ofFn (fun i => i.val)
  /-- at most two slices | 03 R95 free queue, head first -/
  free : List Nat := [64, 65]
  /-- a step | 03 Table 3.4 the calibration step in progress -/
  step : Option CalStep := none
  /-- 6 bits | 03 Table 3.6 position of a step that Lull abandoned, taken first on wake -/
  abandoned : Option Nat := none
  /-- 3 counts | 03 R124 CYCLE: steps left, steps that needed a retry, slices retired -/
  cycle : Option (Nat × Nat × Nat) := none
  /-- count | 03 R120 steps completed since a hold expired -/
  sinceExpiry : Nat := 0
  /-- count | 03 R86 consecutive updates with RSSI above RSSI_REF + 12 -/
  rise : Nat := 0
  /-- 32 fraction bits | 03 R87 RSSI_REF of the TRACK filter -/
  refFine : Int := 0
  /-- 1 bit | 03 R92 MANUAL has been overridden until GAIN_MODE is written 0 to 1 -/
  manualOff : Bool := false
  deriving DecidableEq, Repr

/-- The coefficients a pair keeps: FFE and target taps as accumulators with 22 fraction bits (04 R129, R150). -/
structure Taps where
  /-- 128 × 24 bits, signed | 04 R129 FFE tap accumulators -/
  ffe : Vector Int 128 := Vector.replicate 128 0
  /-- 4 × 24 bits, signed | 04 R130 target taps h1 to h4, accumulators -/
  tgt : Vector Int 4 := Vector.replicate 4 0
  deriving DecidableEq, Repr

/-- The reduced-state detector's running state (04 R131). -/
structure Rssd where
  /-- 16 path metrics | 04 R131 -/
  metric : List Nat := List.replicate 16 0
  /-- 16 survivor paths, newest symbol first | 04 R131 -/
  path : List (List Int) := List.replicate 16 []
  /-- 32 outputs | 04 R131 y_n whose decision is still due, newest first -/
  y : List Int := []
  deriving DecidableEq, Repr

/-- A running eye-margin scan (04 R159–R162). -/
structure EyeRun where
  /-- descriptor | 04 R159 the scan's fields -/
  desc : Desc
  /-- counts in scan order | 04 R161 points completed -/
  pts : List Nat
  /-- count | 04 R160 samples on the other side of the offset threshold at the point in progress -/
  hits : Nat := 0
  /-- count | 04 R160 samples that the tail slice has taken at the point in progress -/
  taken : Nat := 0
  deriving DecidableEq, Repr

/-- Equaliser, detector and phase loop of one pair (04). -/
structure Eq where
  /-- taps | 04 R129 in use -/
  taps : Taps := {}
  /-- taps | 04 R144, R150 snapshot, class H, none if never taken -/
  snap : Option Taps := none
  /-- 1 bit | 04 R145 a snapshot has been taken since the last PRESET -/
  snapNew : Bool := false
  /-- mode, TAPS, MAIN_POS and taps | 04 R149, R150 taps saved in the coefficient store, class H -/
  stored : Option (Nat × Nat × Nat × Taps) := none
  /-- 3 bits | 04 R141 the state a FROZEN pair left -/
  frozeFrom : Nat := 0
  /-- 2 values | 04 R145, R146 why the pair is in RECOVER: 0 none, 1 takeover, 2 snapshot restore -/
  recover : Nat := 0
  /-- 2 values | 04 R147 a takeover (1) or snapshot restore (2) that waits in FROZEN or HOLD -/
  recoverWait : Nat := 0
  /-- count | 04 R145 consecutive convergence windows in FINE below SNR_MIN -/
  low : Nat := 0
  /-- ratio | 04 R143 mean σ² of the previous convergence window of FINE or RECOVER, as a ratio -/
  prevSnr : Option (Nat × Nat) := none
  /-- 0.1 dB | 04 R148 overall SNR at the moment of freezing -/
  freezeSnr : Nat := 0
  /-- count | 04 R148 consecutive windows more than 3 dB below freezeSnr -/
  freezeLow : Nat := 0
  /-- 4 × (symbols, Σe²) | 04 R143, R155 the running convergence window, by level -/
  conv : Vector (Nat × Nat) 4 := Vector.replicate 4 (0, 0)
  /-- 4 × (symbols, Σe²) | 04 R155, R156 the running metric window, by level -/
  met : Vector (Nat × Nat) 4 := Vector.replicate 4 (0, 0)
  /-- 4 × (symbols, Σe²) | 08 R294 the running tuning window, by level -/
  tun : Vector (Nat × Nat) 4 := Vector.replicate 4 (0, 0)
  /-- 8 bits | 04 R128 active FFE taps -/
  active : Nat := 0
  /-- 8 bits | 04 R128 MAIN_POS in use -/
  main : Nat := 0
  /-- 1 bit | 04 R148 SW_FREEZE has been overridden until it is written 0 to 1 -/
  freezeOff : Bool := false
  /-- 4 × (symbols, Σe²) | 04 R156 the last completed metric window, by level -/
  metDone : Vector (Nat × Nat) 4 := Vector.replicate 4 (0, 0)
  /-- up to 512 values in 0.25 LSB, newest first | 04 R127 input samples of the FFE -/
  hist : List Int := []
  /-- detector | 04 R131 -/
  rssd : Rssd := {}
  /-- part of a code | 04 R152 what the frequency term has not yet moved -/
  carry : Int := 0
  /-- last four decisions, newest first | 04 R130, R132 -/
  past : List Int := []
  /-- 3 × 1 bit | 04 R142 a gain change took effect, substitutes or a rise in the running block -/
  skip : Bool := false
  /-- count | 04 R153 consecutive blocks in which the step clamp acted -/
  clamps : Nat := 0
  /-- up to 65 × (13 + 16) bits | 04 R153 frequency estimates of the last 64 blocks and the one before them, newest first -/
  freqs : List Int := []
  /-- error in 1/8 output unit | 04 R151 error of the last decided symbol -/
  lastErr : Option Int := none
  /-- 8 bits, signed | 03 R107 last sample of the block before -/
  lastCode : Int := 0
  /-- up to 512 bits, newest first | 07 R257 which of the samples in hist are substitutes -/
  marks : List Bool := []
  /-- up to 512 differences, newest first | 04 R160 what the tail slice sampled beyond the slice in service, by sample in hist -/
  tail : List (Option Int) := []
  /-- LLRs, 6 bits each | 04 R135 the detector's LLRs of the last block, two for a PAM4 symbol and one for an NRZ symbol -/
  llr : List Int := []
  /-- count | 07 R249 outputs that still belong to symbols before the first of data mode -/
  lead : Nat := 0
  /-- count | 07 R249, 04 R131 decisions that still belong to symbols before the first of data mode -/
  decLead : Nat := 0
  /-- 2 bits | 06 R214, 04 R136 last precoded symbol received -/
  prev : Nat := 0
  /-- bits | 05 R171 received bits of the pair that do not yet make a whole RS symbol, oldest first -/
  bits : List Bool := []
  /-- RS symbols | 05 R171 received symbols of the pair that wait for the other pair's, oldest first -/
  syms : List Nat := []
  /-- count | 02 R68 substitute samples that have still to pass through the equaliser -/
  subst : Nat := 0
  /-- a scan | 04 R162 eye scan of the pair -/
  eye : Option EyeRun := none
  deriving DecidableEq, Repr

/-- A port's capture (04 R163–R168). -/
structure Capture where
  /-- 3 bits | 04 Table 4.4 Source -/
  source : Nat := 0
  /-- 3 bits | 04 Table 4.4 Trigger -/
  trigger : Nat := 0
  /-- 3 bits | 04 Table 4.4 Pre-trigger -/
  pre : Nat := 0
  /-- 4 bits | 04 Table 4.4 Decimation -/
  decim : Nat := 0
  /-- 6 bits | 04 Table 4.4 PC index -/
  pc : Nat := 0
  /-- 1 bit | 04 R164 the armed trigger's event has occurred -/
  fired : Bool := false
  /-- count | 04 Table 4.4 blocks seen since the last stored one, for decimation -/
  skip : Nat := 0
  /-- count | 04 R164 blocks stored since arming; block k lies at slot k modulo the capacity -/
  wr : Nat := 0
  /-- count | 04 R164 blocks stored when the trigger came -/
  trig : Nat := 0
  /-- count | 04 R164 blocks still to be stored after the trigger -/
  left : Nat := 0
  /-- 16 bits | 04 Table 4.4 Timeout in ms, 0 none -/
  timeout : Nat := 0
  deriving DecidableEq, Repr

/-- The taps of one pair's cancellers, accumulators of 24 bits (05 R177). -/
structure EchoTaps where
  /-- 768 × 24 bits, signed | 05 R177 dense echo taps -/
  dense : Vector Int 768 := Vector.replicate 768 0
  /-- 128 × 24 bits, signed | 05 R177 window taps, 32 per window -/
  win : Vector Int 128 := Vector.replicate 128 0
  /-- 256 × 24 bits, signed | 05 R177 NEXT taps -/
  xtalk : Vector Int 256 := Vector.replicate 256 0
  deriving DecidableEq, Repr

/-- What the coefficient store keeps of a pair's cancellers (05 R203, R204). -/
structure EchoStored where
  /-- 4 bits | 05 R204 mode under which they were stored -/
  mode : Nat
  /-- 1 bit | 05 R204 HYB_AUTO when they were stored -/
  hybAuto : Bool
  /-- taps | 05 R203 -/
  taps : EchoTaps
  /-- 4 × (EN, START) | 05 R203 window positions -/
  wins : List (Bool × Nat)
  /-- 2 × 3 bits | 05 R203 hybrid codes R and C -/
  hyb : Nat × Nat
  /-- taps and windows | 05 R185, R203 snapshot -/
  snap : Option (EchoTaps × List (Bool × Nat)) := none
  deriving DecidableEq, Repr

/-- Echo and NEXT cancellers and hybrid of one pair (05). -/
structure Echo where
  /-- taps | 05 R177 in use -/
  taps : EchoTaps := {}
  /-- taps and windows | 05 R185 snapshot -/
  snap : Option (EchoTaps × List (Bool × Nat)) := none
  /-- stored | 05 R203 coefficient store, class H -/
  stored : Option EchoStored := none
  /-- delay line, newest first | 05 R173, R184 own pair's transmit symbols -/
  line : List Int := []
  /-- delay line, newest first | 05 R174, R177, R184 the other pair's transmit symbols in this pair's time -/
  next : List Int := []
  /-- 1/128 UI | 05 R173 DAC-to-ADC phase difference -/
  phase : Int := 0
  /-- (samples, Σx², Σx̃²) | 05 R186 running ERLE window -/
  erle : Nat × Nat × Nat := (0, 0, 0)
  /-- ERLE as a ratio | 05 R186 previous ERLE window: Σx² and Σx̃² -/
  prevErle : Option (Nat × Nat) := none
  /-- 1 bit | 05 R186 the pair's echo has converged -/
  conv : Bool := false
  /-- 5 bits | 05 R175 hybrid search: trial under way, best code and its mean square -/
  hyb : Option (Nat × Nat × Nat) := none
  /-- segment and peaks (segment, delay, magnitude) | 05 R180 far-echo search -/
  search : Option (Nat × List (Nat × Nat × Nat)) := none
  /-- 1 bit | 05 R180 the search of this start-up has been done -/
  searched : Bool := false
  /-- 3 bits | 05 Table 5.4 the state a FROZEN canceller left -/
  frozeFrom : Nat := 0
  deriving DecidableEq, Repr

/-- Full-duplex start-up of a port (05 R187–R200). -/
structure Fd where
  /-- 4 bits | 05 R198 the simplex mode of a fallback in force -/
  fallMode : Nat := 0
  /-- 4 bits | 05 R189, Table 5.7 QUIET_LEN as sent in FD_READY -/
  quietSent : Nat := 0
  /-- 1 bit | 05 R193 pair A's lock has been validated, at the end of the partner's window -/
  aValid : Bool := false
  /-- count | 05 R197 consecutive abandoned attempts -/
  attempts : Nat := 0
  /-- 1 bit | 05 R195 FD_READY sent -/
  readySent : Bool := false
  /-- QUIET_LEN code | 05 R189 partner's FD_READY received -/
  partner : Option Nat := none
  /-- µs | 05 R189 window length in use -/
  winLen : Nat := 0
  /-- 1 bit | 05 Table 5.6 a quiet window is running -/
  inWin : Bool := false
  /-- 1 bit | 05 Table 5.6 step 3, FD_QUIET fixed the leader window's start -/
  quiet : Bool := false
  /-- 1 bit | 05 Table 5.6 step 8 FD_CONFIRM sent -/
  confSent : Bool := false
  /-- 1 bit | 05 Table 5.6 step 8 FD_CONFIRM received -/
  confGot : Bool := false
  /-- 2 × (windows, 1 bit) | 05 R190 pair A then B: last window at or above SNR_MIN, and acquired -/
  acq : Vector (Bool × Bool) 2 := Vector.replicate 2 (false, false)
  /-- 1 bit | 05 R211 a CABLE_DIAG probe runs -/
  diag : Bool := false
  /-- 1 bit | 05 R198 the fallback is in force: the port announces no full-duplex capability -/
  fallback : Bool := false
  deriving DecidableEq, Repr

/-- A kind of control block that fills a stream (06 R230, 09 R339). -/
inductive Ctl where
  | fault | lpi | idle
  deriving DecidableEq, Repr

/-- A stream of control blocks that the device forms (06 R230, 09 R339). -/
structure Filler where
  /-- 58 bits | 06 R230 register of the scrambler -/
  scr : Nat := 0
  /-- count | 06 R230 codeword groups or blocks formed -/
  groups : Nat := 0
  /-- RS symbols | 07 R239 message of the second codeword of a group whose first has been sent -/
  half : List Nat := []
  deriving DecidableEq, Repr

/-- The transmit FFE of one pair (06 R218–R226). -/
structure TxPair where
  /-- 8 × 8 bits, signed | 06 R218 taps in use, T0 to T7 -/
  taps : Vector Int 8 := Vector.replicate 8 0
  /-- 2 bits | 06 R218, R221 main tap index in use -/
  main : Nat := 2
  /-- taps and MAIN | 06 R226 coefficient store, class H -/
  stored : Option (Vector Int 8 × Nat) := none
  /-- 2 bits | 06 R214, R215 last precoded symbol sent -/
  prev : Nat := 0
  /-- symbol values, oldest first | 06 R213, R224 symbols formed that do not yet fill a block -/
  wait : List Int := []
  /-- symbol values, oldest first | 05 R177 symbols sent that have not yet entered the cancellers' lines -/
  ref : List Int := []
  /-- count | 08 R295 blocks of training sent since the frames began -/
  blk : Nat := 0
  /-- 13 bits | 08 Table 8.7 register of the training pattern -/
  prbs : Nat := 0x1FFF
  /-- 1 bit | 08 R301 LMC bit of the period in progress -/
  bit : Bool := true
  /-- count | 09 R339 blocks left of the own refresh burst -/
  burst : Nat := 0
  /-- up to 8 symbol values, newest first | 06 R218 last symbols sent -/
  hist : List Int := []
  /-- 8-bit codes, oldest first | 06 R220 DAC codes of the symbols sent last -/
  dac : List Int := []
  /-- 1 bit | 06 Table 6.2, 05 Table 5.5 the DAC of the pair is off in full-duplex start-up -/
  dacOff : Bool := false
  deriving DecidableEq, Repr

/-- The transmit side of a port (06 R227–R235). -/
structure Tx where
  /-- two pairs | 06 R218 -/
  pair : Vector TxPair 2 := Vector.replicate 2 {}
  /-- RS symbols | 07 R239 the first codeword of a group, which waits for its second -/
  first : List Nat := []
  /-- bits, oldest first | 07 R248 bits of the stream that do not yet fill an inner block -/
  info : List Bool := []
  /-- 2 × 2,048 bits | 07 R248, R249 the last two inner blocks sent, newest first -/
  sent : BitVec 2048 × BitVec 2048 := (0, 0)
  /-- count | 07 R250 inner blocks sent since the chain's start -/
  pos : Nat := 0
  /-- stream | 06 R230 the local fault stream toward the line -/
  fill : Filler := {}
  /-- count | 07 R250, 08 R305 codeword groups sent since the chain's start -/
  groups : Nat := 0
  /-- count | 08 R305 the draw that stands for where the marker groups fall in the stream | MODEL -/
  start : Nat := 0
  /-- 1 bit | 06 R229 a host loss in force has lasted 2 µs -/
  hostOut : Bool := false
  /-- 1 bit | 06 Table 6.3 step 1 the driver is powered -/
  driver : Bool := false
  /-- 1 bit | 06 Table 6.3 step 3 the DRV_EN delay runs -/
  delay : Bool := false
  /-- 1 bit | 06 R233 the 1 µs SQUELCH of a stop runs -/
  stopping : Bool := false
  /-- 1 bit | 06 R222 precoding requested by the partner in training -/
  precodeReq : Bool := false
  /-- 1 bit | 06 R227 rank 3, 17 R567 local fault of an orderly Quench -/
  quenchLf : Bool := false
  /-- 1 bit | 06 R227 rank 7 the transmitter sends data -/
  data : Bool := false
  /-- 1 bit | 06 R227 rank 4 the transmitter idles in Lull -/
  idle : Bool := false
  /-- 1 bit | 01 R24 the line transmitters run from the reference clock -/
  onRef : Bool := true
  /-- 1 bit | 01 R24 the return to the recovered clock has begun -/
  returning : Bool := false
  deriving DecidableEq, Repr

/-- An inner block received and not yet released (07 R252). -/
structure InnerBlk where
  /-- 1,024 × (10 bits, 1 bit) | 04 R127, 07 R257 the detector's input for each symbol, and whether it is formed from a substitute -/
  ys : List (Int × Bool)
  /-- 2,048 bits | 04 R158, 07 Table 7.6 first-pass hard decisions -/
  hard : BitVec 2048 := 0
  deriving DecidableEq, Repr

/-- The codes of one port (07). -/
structure Fec where
  /-- RS symbols | 07 R239 the first codeword of a group toward the host, which waits for its second -/
  first : List Nat := []
  /-- count | 07 R250, 08 R305 codeword groups taken since the chain's start -/
  taken : Nat := 0
  /-- count | 08 R305 the draw that stands for where the marker groups fall in the stream | MODEL -/
  start : Nat := 0
  /-- 64 × 64 bits | 07 R267, Table 7.6 counters -/
  ctr : Vector Nat 64 := Vector.replicate 64 0
  /-- 1 bit | 07 R249 the receive chain runs -/
  chain : Bool := false
  /-- count | 07 R250 inner blocks released since the chain's start -/
  pos : Nat := 0
  /-- outputs | 07 R252 the detector's inputs of the block that is being received, oldest first -/
  fresh : List (Int × Bool) := []
  /-- up to 32 outputs, oldest first | 07 R253 the detector's inputs just before the target block -/
  pre : List (Int × Bool) := []
  /-- up to 4 blocks, oldest first | 07 R252 the target and the look-ahead -/
  win : List InnerBlk := []
  /-- two blocks' 2,048 LLRs, newest first | 07 R253 posteriors at release -/
  rel : List (List Int) := []
  /-- check messages, 6 bits each, by check time from the target's on | 07 R253 -/
  msg : List (List Int) := []
  /-- count | 07 R259 consecutive uncorrectable released blocks -/
  bad : Nat := 0
  /-- 0 to 2 | 07 R259 window steps in which released blocks enter with LLR 0 -/
  guard : Nat := 0
  /-- 0 to 2 | 07 R258 released blocks of before a flush still in the window -/
  flushed : Nat := 0
  /-- 2 counts | 04 R158 bits that the inner decoder changed, and bits released, in the running metric window -/
  ber : Nat × Nat := (0, 0)
  /-- RS symbols with their erasure flags, oldest first | 07 R261 received and not yet decoded -/
  rxSyms : List (Nat × Bool) := []
  /-- a codeword with its flags | 07 R239 the second codeword of a group whose first has been decoded -/
  half : List (Nat × Bool) := []
  /-- count | 07 R251 consecutive alignment-marker groups not found -/
  missed : Nat := 0
  /-- 1 bit | 07 R251 a group has been found since the chain started -/
  found : Bool := false
  /-- count | 07 R251 groups checked since the chain started -/
  groups : Nat := 0
  /-- count | 07 R268 RX_BITS of the running POST_BER interval -/
  pbBits : Nat := 0
  /-- count | 07 R268 codewords decoded in the running POST_BER interval -/
  pbWords : Nat := 0
  /-- 1 bit | 07 R268 a codeword has been decoded in the running POST_BER interval -/
  pbAny : Bool := false
  /-- 544 symbols | 07 R241, R243 last codeword passed toward the host -/
  rxOut : List Nat := []
  /-- 544 symbols | 07 R241, R243 last codeword passed toward the line -/
  txOut : List Nat := []
  deriving DecidableEq, Repr

/-- A frame queued for the link message channel (08 R302). -/
structure TxFrame where
  /-- 8 bits | 08 R302 Type -/
  typ : Nat
  /-- 8 bits | 08 R302 Seq -/
  seq : Nat
  /-- up to 64 bytes | 08 R302 Payload -/
  data : List Byte
  /-- 1 bit | 08 R302 ACK_REQ -/
  ackReq : Bool := false
  /-- 1 bit | 08 R311 an LMC_SEND queued it -/
  user : Bool := false
  /-- 1 bit | 08 R311 the frame has been sent a second time -/
  again : Bool := false
  deriving DecidableEq, Repr

/-- The link message channel of a port (08 R301–R313). -/
structure Lmc where
  /-- frames, oldest first | 08 R311 frames not yet sent -/
  out : List TxFrame := []
  /-- count | 08 R301, R305 bits sent of the oldest frame -/
  outPos : Nat := 0
  /-- up to 584 bits, newest first | 08 R301, R305 bits read from the channel -/
  rxBits : List Bool := []
  /-- 2 counts | 08 R301 LMC fields of the period in progress that say 1, and all of them -/
  votes : Nat × Nat := (0, 0)
  /-- symbols, oldest first | 08 R295 decided training symbols of a segment that is not yet whole -/
  syms : List Int := []
  /-- a frame | 08 R302 the last frame sent on the channel -/
  sent : Option TxFrame := none
  /-- frames | 08 R311 sent user frames that wait for their ACK -/
  wait : List TxFrame := []
  /-- (type, next Seq) | 08 R302 sender's count for each type -/
  seqs : List (Nat × Nat) := []
  /-- (type, Seq, time) | 08 R308 last accepted frame of each type -/
  last : List (Nat × Nat × Nat) := []
  /-- up to 4 messages, oldest first | 08 R313 (Type, Seq, payload) with nothing posted -/
  inq : List (Nat × Nat × List Byte) := []
  deriving DecidableEq, Repr

/-- Acquisition, negotiation and training of a port (08). -/
structure Acq where
  /-- 9 × 8 bits | 08 R281 last metric of each class -/
  metric : Vector Nat 9 := Vector.replicate 9 0
  /-- count | 08 R281 FAST updates since a preemption, none outside it -/
  preempt : Option Nat := none
  /-- count | 08 R270 position in the training pattern that the hit fixed -/
  hitPos : Nat := 0
  /-- up to 3 pages | 08 R286–R288 own pages of the exchange: base page, OUI message page, capability page -/
  pages : List AnPage := []
  /-- count | 08 R286, R287 the page that is being sent, after the last one null pages -/
  page : Nat := 0
  /-- 2 × 1 bit | 08 R288, R305, 09 R333 SUBCH and LULL_SK as announced -/
  said : Bool × Bool := (false, false)
  /-- 1 bit | 08 R282 the line PLL and ADC move to the confirmed class's rate -/
  retuning : Bool := false
  /-- 32 bits | 08 R286 own Clause 73 nonce -/
  nonce : Nat := 0
  /-- base page | 08 R286 partner's technology abilities, nonce and NP -/
  base : Option BasePage := none
  /-- 1 bit | 08 R287 the Skellia message page has been received -/
  oui : Bool := false
  /-- 1 bit | 08 R298 leader (R188 or R298), none before the roles are decided -/
  leader : Option Bool := none
  /-- 16 bits | 08 R298 own NONCE of LINK_PARAM -/
  lpNonce : Nat := 0
  /-- message | 08 R296 step 2 partner's LINK_PARAM -/
  param : Option LinkParamMsg := none
  /-- 1 bit | 08 R296 step 2 settings compatible -/
  compat : Bool := false
  /-- 1 bit | 08 R296 step 1 the receiving pair has acquired -/
  acquired : Bool := false
  /-- 1 bit | 08 R190 last convergence window at or above SNR_MIN -/
  acqOne : Bool := false
  /-- 1 bit | 08 R296 step 3 tuning has ended -/
  tuned : Bool := false
  /-- count | 08 R294 coefficient requests made -/
  tuneCount : Nat := 0
  /-- (op, tap) and SNR | 08 R294 request under trial and the SNR before it -/
  tuneReq : Option (Nat × Nat × Nat) := none
  /-- count | 08 R294 single steps tried since the last improvement -/
  tuneTried : Nat := 0
  /-- 1 bit | 08 R294 a request's response is awaited -/
  tuneWait : Bool := false
  /-- 1 bit | 08 R296 step 4 READY sent -/
  readySent : Bool := false
  /-- 1 bit | 08 R296 step 4 READY received -/
  readyGot : Bool := false
  /-- periods | 08 R300 own DATA_AT sent -/
  atSent : Option Nat := none
  /-- periods | 08 R300 partner's DATA_AT received -/
  atGot : Option Nat := none
  /-- 1 bit | 08 R296 step 6 the transmitter has switched -/
  txSwitched : Bool := false
  /-- 1 bit | 08 R296 step 6 the receiver has switched -/
  rxSwitched : Bool := false
  /-- 1 bit | 04 R136 this port asked its partner for precoding -/
  askedPrecode : Bool := false
  deriving DecidableEq, Repr

/-- Link state, waiting and Lull of a port (09). -/
structure Link where
  /-- times, ns | 09 R321 link losses of the last 60 s, newest first -/
  flaps : List Nat := []
  /-- 64 bits | 09 Table 9.4 UP_SINCE -/
  upSince : Nat := 0
  /-- 64 bits | 09 Table 9.4 LULL_NS of the Lull periods that have ended -/
  lullNs : Nat := 0
  /-- 64 bits | 09 Table 9.4 timebase at the entry to LULL -/
  lullAt : Nat := 0
  /-- what follows | 09 R326–R328 a stop, retrain, reset, DOZE entry or soft reset that waits for its notice or SQUELCH -/
  stopping : Option StopKind := none
  /-- 1 bit | 13 R446 MMD 1 register 1.0 bit 15 -/
  mdioReset : Bool := false
  /-- 4 bits | 09 R324 mode read at PORT_START -/
  cfgMode : Nat := 0
  /-- (TAPS, MAIN_POS, DET_SEL) | 04 R134 as read at PORT_START or PORT_RETRAIN -/
  eqSet : Nat × Nat × Bool := (0, 0, false)
  /-- 2 × 1 bit | 07 R237, R238, 01 R27 TERM_RX and TERM_TX as read at PORT_START or PORT_RETRAIN -/
  term : Bool × Bool := (false, false)
  /-- 4 bits | 08 R275, 09 Table 9.4 mode in force: the one read at PORT_START until another is resolved -/
  mode : Nat := 0
  /-- 3 bits | 09 R324, Table 9.4 lanes in force -/
  lanes : Nat := 0
  /-- 1 bit | 09 R324 INNER as read at PORT_START or PORT_RETRAIN -/
  inner : Bool := false
  /-- 2 bits | 09 R336 kind of an own LULL_REQ that awaits its response, 0 none -/
  reqKind : Nat := 0
  /-- 1 bit | 09 R336 the 10 ms ban on requests is in force -/
  backoff : Bool := false
  /-- (ENTER_AT, own kind, partner's kind) | 09 R337 Lull entry agreed -/
  enter : Option (Nat × Nat × Nat) := none
  /-- 1 bit | 09 R342 a wake cause has arrived before ENTER_AT -/
  wakePending : Bool := false
  /-- 2 bits | 09 R339 own kind and partner's kind of the Lull in force -/
  kinds : Nat × Nat := (0, 0)
  /-- 0 to 2 | 09 R341 wake words sent and not yet answered -/
  wakeSent : Nat := 0
  /-- 1 bit | 09 R343 codewords toward the host are marked until data arrives -/
  markWake : Bool := false
  /-- count | 09 R339 refresh bursts sent in this Lull -/
  refreshes : Nat := 0
  /-- count | 04 R154, 09 R339 blocks left of the partner's refresh burst, by pair -/
  burst : Vector Nat 2 := Vector.replicate 2 0
  deriving DecidableEq, Repr

/-- A host lane's state that no register shows (10). -/
structure HLane where
  /-- settings | 10 R348 (POL_TX, POL_RX, PRECODE_TX, PRECODE_RX) in use, changed at the exit from electrical idle -/
  inUse : Bool × Bool × Bool × Bool := (false, false, false, false)
  /-- 5 × 8 bits, signed | 10 R363 taps in use: PRE3, PRE2, PRE1, MAIN, POST1 -/
  taps : Vector Int 5 := #v[0, 0, -4, 56, -4]
  /-- 1 bit | 10 R352, R353 the exit from EI or OFF is due: 2 µs of EI, then the burst -/
  exitDue : Bool := false
  /-- 1 bit | 10 R354 equaliser state retained, with the rate it locked at -/
  warm : Option Nat := none
  /-- code and (code, RX_SNR) | 10 R360 CTLE sweep: code on trial and the best so far -/
  sweep : Option (Nat × Nat × Nat) := none
  /-- 1 bit | 10 R355 the rate change of the lane's group is between step 2 and the end of step 3 -/
  rateChange : Bool := false
  /-- 1 bit | 10 R362 the freeze holds the taps -/
  frozen : Bool := false
  /-- 0.1 dB | 10 R362 RX_SNR at the moment of freezing -/
  freezeSnr : Nat := 0
  /-- count | 10 R362 consecutive windows more than 3 dB below freezeSnr -/
  freezeLow : Nat := 0
  /-- 1 bit | 10 R365 INV_GEN -/
  invGen : Bool := false
  /-- 1 bit | 10 R365 INV_CHK -/
  invChk : Bool := false
  /-- 8 bits | 10 R368 INJECT as set -/
  inject : Nat := 0
  /-- up to 31 bits | 10 R365 register of the generator -/
  gen : Nat := 0
  /-- count | 10 R368 bits that the generator has sent since it was set -/
  genCount : Nat := 0
  /-- up to 31 bits, 2 counts | 10 R367 register of the checker, bits seen since it began to seed, and matches in a row -/
  chk : Nat × Nat × Nat := (0, 0, 0)
  /-- up to 256 bits, newest first | 10 R367 which of the last bits compared were in error -/
  chkErrs : List Bool := []
  /-- 2 bits | 10 R347, R348 last precoded symbol sent -/
  prev : Nat := 0
  /-- 2 bits | 10 R347, R348 last precoded symbol received -/
  rxPrev : Nat := 0
  /-- up to 5 symbols, newest first | 10 R363 last symbols sent -/
  hist : List Int := []
  /-- outputs in 1/64, oldest first | 10 R359, R363 what the transmitter has sent last -/
  out : List Int := []
  /-- levels, oldest first | 10 R364 what the receiver has decided last -/
  rxLevels : List Nat := []
  /-- bits, oldest first | 10 R347 the lane's share of the host-in stream received last -/
  rxBits : List Bool := []
  /-- 13 values | 10 R360 taps of the receiver's FFE and DFE -/
  rxTaps : List Int := List.replicate 13 0
  /-- 64 bits | 10 R367 BITS -/
  bits : Nat := 0
  /-- 64 bits | 10 R367 ERRORS -/
  errors : Nat := 0
  /-- 1 bit | 01 R24 the host transmitter runs from REFCLK_HOST -/
  onRef : Bool := true
  /-- 1 bit | 01 R24 the return to the recovered clock has begun -/
  returning : Bool := false
  deriving DecidableEq, Repr

/-- Host-lane state that belongs to no single lane (10). -/
structure HostSt where
  /-- 1 bit | 10 R646 the map is the default map, no LANE_MAP has completed OK -/
  defaultMap : Bool := true
  /-- 8 × time | 06 R229, 10 R358 timebase at which the port's group lost alignment, none while aligned -/
  lostAt : Vector (Option Nat) 8 := Vector.replicate 8 none
  deriving DecidableEq, Repr

/-- A coefficient bank, Table 11.3 (11 R385, R400). -/
structure Bank where
  /-- 32 bits | 11 Table 11.3 SP -/
  sp : Int := 0
  /-- 32 bits, signed | 11 Table 11.3 BIAS -/
  bias : Int := 0
  /-- 3 × (32 bits, shift) | 11 R385, R386 Kp -/
  kp : Int × Int := (0, 0)
  /-- 32 bits, shift | 11 R386 Ki -/
  ki : Int × Int := (0, 0)
  /-- 32 bits, shift | 11 R386 Kd -/
  kd : Int × Int := (0, 0)
  /-- 32 bits, signed | 11 Table 11.3 I_MIN -/
  iMin : Int := 0
  /-- 32 bits, signed | 11 Table 11.3 I_MAX -/
  iMax : Int := 0
  /-- 32 bits, signed | 11 Table 11.3 OUT_MIN -/
  outMin : Int := 0
  /-- 32 bits, signed | 11 Table 11.3 OUT_MAX -/
  outMax : Int := 0
  /-- 32 bits, signed | 11 Table 11.3 INIT -/
  init : Int := 0
  /-- 5 × (32 bits, shift) | 11 R389 B0, B1, B2, A1, A2 -/
  biq : List (Int × Int) := [(0, 0), (0, 0), (0, 0), (0, 0), (0, 0)]
  deriving DecidableEq, Repr

/-- A test injection (11 R408). -/
structure Inject where
  /-- 1 bit | 11 R408 point, true is the output -/
  out : Bool
  /-- 3 bits | 11 Table 11.4 Wave -/
  wave : Nat
  /-- 16 bits | 11 Table 11.4 AMP -/
  amp : Nat
  /-- 13 bits | 11 Table 11.4 WPER -/
  wper : Nat
  /-- 8 bits | 11 Table 11.4 CHIP -/
  chip : Nat
  /-- 32 bits | 11 Table 11.4 COUNT -/
  count : Nat
  /-- count | 11 R408 samples injected so far -/
  k : Nat
  deriving DecidableEq, Repr

/-- One bias control loop (11). Its STATE, CAUSE, flags, FB, TARGET, integrator and u stand in its registers. -/
structure Loop where
  /-- 1 bit | 11 Table 11.4 NOTCH_EN -/
  notch : Bool := false
  /-- 1 bit | 11 Table 11.4 POL -/
  pol : Bool := false
  /-- 1 bit | 11 Table 11.4 FAULT_ACT -/
  faultAct : Bool := false
  /-- 1 bit | 11 Table 11.4 QRAMP -/
  qramp : Bool := false
  /-- 5 bits | 11 R383 Source -/
  src : Nat := 0
  /-- 1 bit | 11 R383 SRC_TYPE, true is the coarse path -/
  coarse : Bool := false
  /-- 4 bits | 11 R397 INV_COUNT -/
  invCount : Nat := 0
  /-- 8 bits | 11 R398 FRZ_N -/
  frzN : Nat := 0
  /-- 14 bits | 11 R398 FRZ_M -/
  frzM : Nat := 0
  /-- 4 bits | 11 R406 PORT -/
  port : Nat := 15
  /-- 10 bits | 11 R405 QSTEP -/
  qstep : Nat := 0
  /-- 1 bit | 11 Table 11.4, R376 the loop has been configured and owns its channel -/
  owns : Bool := false
  /-- bank | 11 R400 active bank -/
  bank : Bank := {}
  /-- bank | 11 R401 pending swap -/
  pend : Option Bank := none
  /-- 65 × 14 bits | 11 R391 table T -/
  table : Vector Nat 65 := Vector.replicate 65 0
  /-- table | 11 R404 pending table -/
  pendTable : Option (Vector Nat 65) := none
  /-- value | 11 R386 FB_(n−1), none in the first period -/
  fb1 : Option Int := none
  /-- 4 values | 11 R389 u_(n−1), u_(n−2), y_(n−1), y_(n−2) -/
  biq : Int × Int × Int × Int := (0, 0, 0, 0)
  /-- 1 bit | 11 R390 first period after a start or restart with integrator mode 0 -/
  fresh : Bool := false
  /-- code | 11 R392 result computed at phase 0, taken at the half period -/
  result : Option Nat := none
  /-- count | 11 R397 consecutive invalid samples -/
  invalid : Nat := 0
  /-- newest first | 11 R398 (FB, target) of the last 16 × FRZ_N samples -/
  hist : List (Int × Nat) := []
  /-- injection | 11 R408 -/
  inj : Option Inject := none
  deriving DecidableEq, Repr

/-- The engine's capture (11 R409). -/
structure BceCap where
  /-- 1 bit | 11 R409 a capture is armed or running -/
  on : Bool := false
  /-- 4 bits | 11 R409 selected loop -/
  loop : Nat := 0
  /-- 3 bits | 11 Table 11.4 SIG_A -/
  sigA : Nat := 0
  /-- 3 bits | 11 Table 11.4 SIG_B -/
  sigB : Nat := 0
  /-- 8 bits | 11 Table 11.4 DECIM -/
  decim : Nat := 0
  /-- 1 bit | 11 Table 11.4 START, waiting for the loop's next injection -/
  waitInj : Bool := false
  /-- count | 11 R409 periods until the next record -/
  skip : Nat := 0
  /-- up to 4,096 | 11 R409 records stored, kept in the top 32 KiB of memory 1 -/
  count : Nat := 0
  deriving DecidableEq, Repr

/-- One auxiliary DAC channel (11 R375–R382). Its CODE and TARGET stand in its registers. -/
structure Aux where
  /-- up to 16 codes, oldest first | 11 R377 queue -/
  queue : List Nat := []
  /-- 1 bit | 11 R377 the queue has held an entry since the last FLUSH -/
  held : Bool := false
  /-- 1 bit | 11 R381, R379 the channel drives: VDD_IO and VDD_AUX have been in range -/
  driven : Bool := false
  deriving DecidableEq, Repr

/-- A step of system calibration under way (12 R434). -/
structure Syscal where
  /-- 16 bits | 12 R434 FULL's TARGET; none for ZERO -/
  target : Option Nat
  /-- 3 bits | 12 R434 AVG -/
  avg : Nat
  /-- sum | 12 R434 c16 of the conversions of the measurement under way -/
  sum : Int := 0
  /-- count | 12 R434 conversions of the measurement under way -/
  taken : Nat := 0
  /-- 1 bit | 12 Table 12.3 a conversion of it was out of range -/
  oor : Bool := false
  /-- up to 1 value | 12 R434 mean that the attempt's first measurement gave -/
  got : List Rat := []
  /-- 1–3 | 12 R434 attempt -/
  attempt : Nat := 1
  deriving DecidableEq, Repr

/-- What a calibration measurement of a monitor slice found (12 R429): offset in LSB and gain in %. -/
structure MonMeas where
  off : Rat
  gain : Rat
  deriving DecidableEq, Repr

/-- One monitor input's results (12 R418–R421). -/
structure MonIn where
  /-- 64 bits | 12 R418 SUM -/
  sum : Nat := 0
  /-- 32 bits | 12 R418 COUNT -/
  count : Nat := 0
  /-- 16 bits | 12 R418 MIN -/
  min : Nat := 0xFFFF
  /-- 16 bits | 12 R418 MAX -/
  max : Nat := 0
  /-- 64 bits | 12 R418 timebase of MIN -/
  minAt : Nat := 0
  /-- 64 bits | 12 R418 timebase of MAX -/
  maxAt : Nat := 0
  /-- 16 bits | 12 R418 OOR_COUNT -/
  oorCount : Nat := 0
  /-- 1 bit | 12 R421 coarse output flagged out of range -/
  oor : Bool := false
  /-- 1 bit | 12 R420 the coarse path is valid -/
  valid : Bool := false
  /-- 64 bits | 12 Table 12.4 timebase of the last conversion -/
  time : Nat := 0
  /-- 16 bits | 12 R434 pending zero of a system calibration -/
  zero : Option Int := none
  /-- calibration | 12 R434 system calibration under way -/
  syscal : Option Syscal := none
  deriving DecidableEq, Repr

/-- One decimation channel (12 R422–R426). Its output, VALID, OOR and armed bits stand in its registers. -/
structure CicSt where
  /-- up to N × DEC inputs, newest first | 12 R422 samples in the filter, with R423's out-of-range flags -/
  win : List (Nat × Bool) := []
  /-- count | 12 R424 input samples since synchronisation -/
  entered : Nat := 0
  /-- 32 bits | 12 Table 12.5 OUTPUTS -/
  outputs : Nat := 0
  /-- 64 bits | 12 Table 12.5 timebase of the last output -/
  time : Nat := 0
  deriving DecidableEq, Repr

/-- One slice of the monitor converter (12 R429–R433). -/
structure MonSlice where
  /-- 8 bits, signed | 12 R429 offset trim, 1/16 LSB -/
  off : Int := 0
  /-- 8 bits, signed | 12 R429 gain trim, 0.01 % -/
  gain : Int := 0
  /-- 1 bit | 12 R431 its conversions are flagged out of range -/
  flagged : Bool := false
  /-- count | 12 R430 consecutive failing windows -/
  bad : Nat := 0
  deriving DecidableEq, Repr

/-- The monitor converter (12). -/
structure Mon where
  /-- 32 inputs | 12 R418 -/
  inp : Vector MonIn 32 := Vector.replicate 32 {}
  /-- 8 channels | 12 R422 -/
  cic : Vector CicSt 8 := Vector.replicate 8 {}
  /-- 5 slices | 12 R429 -/
  slice : Vector MonSlice 5 := Vector.replicate 5 {}
  /-- list of slices | 12 R415 slices in service, in order -/
  inServ : List Nat := [0, 1, 2, 3]
  /-- list of slices | 12 R430 free slices -/
  free : List Nat := [4]
  /-- 1–64 entries | 12 R414 slot table -/
  slots : List Nat := List.range 32
  /-- table | 12 R439 slot table that takes effect at the next table start -/
  nextSlots : Option (List Nat) := none
  /-- slot index | 12 R414 next slot -/
  pos : Nat := 0
  /-- index | 12 R430 the in-service slice under the health check -/
  health : Nat := 0
  /-- cycle | 12 R432 calibration cycle: slices still to measure, measurements, attempt, slices retired -/
  cycle : Option (List Nat × List MonMeas × Nat × Nat) := none
  deriving DecidableEq, Repr

/-- One early write held until LOGIC_READY (16 R544): the transport, the address of Table 13.1 and the bytes. -/
structure EarlyWrite where
  /-- transport | 16 R544 SPI or MDIO -/
  t : Transport
  /-- 20 bits | 13 Table 13.1 address -/
  addr : Nat
  /-- bytes | 16 R544 data -/
  data : List Byte
  deriving DecidableEq, Repr

/-- Bellows and the wake sequencer beside their registers (16). -/
structure Pwr where
  /-- 1 bit | 16 Table 16.2 the HOST vote, set at reset -/
  hold : Bool := true
  /-- 1 bit | 16 Table 16.2 client 15, a serial frame's LINGER runs -/
  linger : Bool := false
  /-- 1 bit | 16 R550 the serial vote present at a waiting ENTER's action phase is treated as withdrawn -/
  serialWaived : Bool := false
  /-- 0 to 4 | 16 Table 16.3 step of the entry to RETAIN in progress, 0 none -/
  entry : Nat := 0
  /-- code and port | 16 R539 wake source held until step 5 of the entry is over -/
  heldWake : Option (Nat × Nat) := none
  /-- 1 bit | 16 R541 the wake step in progress is a repeat -/
  again : Bool := false
  /-- list of writes, oldest first, 512 bytes | 16 R544 early-write buffer -/
  early : List EarlyWrite := []
  /-- 1 bit | 16 R544 a write has been discarded, so doorbells are discarded too -/
  earlyFull : Bool := false
  /-- requests, oldest first | 16 R543 held PCIe requests -/
  held : List PcieReq := []
  /-- 64 bits | 16 Table 16.8 RETAIN_NS -/
  retainNs : Nat := 0
  /-- 64 bits | 16 R540 timebase at the commit of the running stay in RETAIN -/
  retainAt : Nat := 0
  /-- 48 × 1 bit | 16 R531, R546 banks that failed at this wake -/
  failed : List Nat := []
  /-- 8 × 1 bit | 16 R546 bank 40 + n failed while the port was in DOZE -/
  dozeLost : Vector Bool 8 := Vector.replicate 8 false
  /-- 8 × 1 bit | 16 R547 a DOZE entry runs on the port -/
  dozing : Vector Bool 8 := Vector.replicate 8 false
  /-- 8 × 1 bit | 16 R548 the port is being woken from DOZE -/
  waking : Vector Bool 8 := Vector.replicate 8 false
  /-- 8 × 1 bit | 16 R546, R569 PORTn is powered down after a Quench -/
  gated : Vector Bool 8 := Vector.replicate 8 false
  /-- 32 bits | 16 Table 16.8 ENTRIES -/
  entries : Nat := 0
  /-- 16 bits | 16 Table 16.8 REFUSED -/
  refused : Nat := 0
  /-- 16 bits | 16 Table 16.8 ABORTED -/
  aborted : Nat := 0
  /-- 8 × 16 bits | 16 Table 16.8 DOZE_ENTRIES -/
  dozeN : Vector Nat 8 := Vector.replicate 8 0
  /-- 8 × 4 bits | 16 Table 16.8 DOZE_REFUSED -/
  dozeRef : Vector Nat 8 := Vector.replicate 8 0
  /-- 8 × 4 bits | 16 Table 16.8 DOZE_ABORTED -/
  dozeAb : Vector Nat 8 := Vector.replicate 8 0
  /-- 8 × 5 bits | 16 Table 16.8 DOZE_LAST | none since reset is code 31 (R537) -/
  dozeLast : Vector Nat 8 := Vector.replicate 8 31
  /-- 2 bits | 16 R541 failed step of the last WAKE_FAULT not yet logged, 0 none -/
  faultLog : Nat := 0
  /-- (SOURCE, BIT, SEV, PAYLOAD), oldest first | 16 R532 events of RETAIN and WAKING, logged at LOGIC_READY | MODEL -/
  late : List (Nat × Nat × Nat × List Byte) := []
  deriving DecidableEq, Repr

/-- One thermal zone (17 R555–R566). -/
structure Zone where
  /-- 1 bit | 17 R556 the reading is invalid: the rated maximum power is used -/
  subst : Bool := false
  /-- mW | 17 R555, R566 last valid reading, 0 if none since power-on -/
  valid : Nat := 0
  /-- count of 100 µs | 17 R556 periods without a reading -/
  stale : Nat := 0
  /-- pK, signed | 17 R559 x1 -/
  x1 : Int := 0
  /-- pK, signed | 17 R559 x2 -/
  x2 : Int := 0
  /-- pK, signed | 17 R566 x1 of the quench estimate -/
  q1 : Int := 0
  /-- pK, signed | 17 R566 x2 of the quench estimate -/
  q2 : Int := 0
  /-- pK, signed | 17 R559 ΔT_ss of the last update -/
  dss : Int := 0
  /-- 1 bit | 17 R562 the zone has reached WARN and not cleared -/
  warn : Bool := false
  /-- 1 bit | 17 R562 the zone has reached THROTTLE and not cleared -/
  throttle : Bool := false
  /-- 64 bits | 17 Table 17.2 timebase since which the zone has been at or below 104 °C -/
  coolAt : Option Nat := none
  /-- 0.1 ms | 17 R567, R574 the zone's t_p at the last update, none unbounded -/
  tp : Option Nat := none
  deriving DecidableEq, Repr

/-- Thermal parameters in force, class N (17 Table 17.1, 19 Table 19.8). -/
structure ThmPar where
  /-- 12 × 16 bits | 19 Table 19.8 PMAX, mW -/
  pmax : List Nat := [3200, 3200, 3200, 3200, 3200, 3200, 3200, 3200, 2600, 2600, 2000, 2200]
  /-- 12 × 16 bits | 19 Table 19.8 THETA_SELF, 0.001 K/W -/
  thetaSelf : List Nat := [3000, 3000, 3000, 3000, 3000, 3000, 3000, 3000, 3000, 3000, 4000, 2000]
  /-- 16 bits | 19 Table 19.8 THETA_COMMON, 0.001 K/W -/
  thetaCommon : Nat := 600
  /-- 16 bits | 19 Table 19.8 ALPHA, 0.001 -/
  alpha : Nat := 400
  /-- 16 bits | 19 Table 19.8 TAU1, 0.1 ms -/
  tau1 : Nat := 50
  /-- 16 bits | 19 Table 19.8 TAU2, ms -/
  tau2 : Nat := 2000
  /-- 17 × 16 bits, signed | 19 Table 19.8 CASE_TABLE, 0.1 °C -/
  caseTable : List Int := Config.caseTable
  deriving DecidableEq, Repr

/-- The quench record, Table 17.4 (17 R569), class K. -/
structure QRec where
  /-- 32 bits | 17 Table 17.4 RTC_SEC -/
  sec : Nat := 0
  /-- 32 bits | 17 Table 17.4 CYCLES -/
  cycles : Nat := 0
  /-- 4 bits | 17 Table 17.4 ZONE -/
  zone : Nat := 0
  /-- 1 bit | 17 Table 17.4 CAUSE, t_p -/
  predicted : Bool := false
  /-- 1 bit | 17 Table 17.4 GUARD -/
  guard : Bool := false
  /-- 16 bits, signed | 17 Table 17.4 T_EST, 0.1 °C -/
  est : Int := 0
  /-- 16 bits, signed | 17 Table 17.4 T_REF, 0.1 °C -/
  tref : Int := 0
  /-- 12 × 16 bits | 17 Table 17.4 P_ZONE, mW -/
  power : List Nat := []
  deriving DecidableEq, Repr

/-- The thermal model beside its registers (17). -/
structure Thm where
  /-- 12 zones | 17 R555 -/
  zone : Vector Zone 12 := Vector.replicate 12 {}
  /-- parameters | 17 Table 17.1 in force -/
  par : ThmPar := {}
  /-- parameters | 19 R607 a written thermal block, taken at the next update -/
  nextPar : Option ThmPar := none
  /-- value, time | 17 R557 last CASE_TEMP_REPORT since REF_SRC became 1 -/
  report : Option (Int × Nat) := none
  /-- pK above 0 °C | 17 R566 last valid reference, 70 °C if none -/
  refValid : Int := 70000000000000
  /-- pK above 0 °C | 17 R558 reference in use at the last update -/
  ref : Int := 85000000000000
  /-- 1 bit | 17 R565 an episode of substitution of the reference runs -/
  refSubst : Bool := false
  /-- 1 bit | 17 R559 the next update is the first -/
  first : Bool := true
  /-- 64 bits | 17 R559 timebase of the last update -/
  lastAt : Nat := 0
  /-- 64 bits | 17 R564 timebase since which every zone has been at or below 104 °C -/
  coolAt : Option Nat := none
  /-- 64 bits | 17 R570 timebase since which every quench estimate has been at or below 95 °C -/
  below95 : Option Nat := none
  /-- 0 to 4 | 17 Table 17.3 step of an orderly Quench in progress, 0 none -/
  orderly : Nat := 0
  /-- 1 bit | 17 R569, R570, 11 R380 a hard Quench is in force -/
  hard : Bool := false
  /-- 0.1 ms | 17 Table 17.5 T_P of the hottest zone, none unbounded -/
  tp : Option Nat := none
  /-- record | 17 R569 quench record, class K -/
  qrec : QRec := {}
  /-- count | 17 R571 consecutive wake conversions at or below WAKE_CODE -/
  caseLow : Nat := 0
  deriving DecidableEq, Repr

/-- An event record, Table 18.1 (18 R575). -/
structure EvRec where
  /-- 32 bits | 18 Table 18.1 SEQ -/
  seq : Nat
  /-- 32 bits | 18 Table 18.1 HOURS -/
  hours : Nat
  /-- 32 bits | 18 Table 18.1 CYCLES -/
  cycles : Nat
  /-- 6 fields | 18 Table 18.1 SEC, MIN, HOUR, DAY, MONTH, YEAR -/
  cal : Cal
  /-- 15 bits | 18 Table 18.1 SUBSEC -/
  sub : Nat
  /-- 2 bits | 18 Table 18.1 SEV -/
  sev : Nat
  /-- 1 bit | 18 Table 18.1 RTC_VALID -/
  rtcValid : Bool
  /-- 1 bit | 18 Table 18.1 DEFERRED -/
  deferred : Bool
  /-- 8 bits | 18 Table 18.1 BIT -/
  bit : Nat
  /-- 16 bits | 18 Table 18.1 SOURCE -/
  source : Nat
  /-- 32 bytes | 18 Table 18.1 PAYLOAD -/
  payload : List Byte
  deriving DecidableEq, Repr

/-- What the recorder's flush waits for (18 R580, R587). -/
structure Evr where
  /-- up to 64 records, oldest first | 18 R580 volatile buffer -/
  buf : List EvRec := []
  /-- slot index 0 to 16,383 | 18 R577 next slot of the store to be written -/
  slot : Nat := 0
  /-- 32 bits | 18 R586 SEQ of the newest record logged to the store, none if empty -/
  newest : Option Nat := none
  /-- 1 bit | 18 R580, R587 a flush is due -/
  due : Bool := false
  /-- 1 bit | 18 R587 the due flush runs in spite of a freeze -/
  force : Bool := false
  /-- 1 bit | 18 R582 power fail is in force -/
  powerFail : Bool := false
  /-- 64 bits | 18 Table 18.2 timebase at which power fail began | MODEL -/
  failAt : Nat := 0
  /-- count and SEQ | 18 R582, R583 buffered records named by the lifetime block of a power fail -/
  pendBlock : Nat × Nat := (0, 0)
  /-- 1 bit | 18 R576 the lifetime block is due -/
  lifeDue : Bool := false
  /-- count, its slot modulo 256 | 19 Table 19.5 next entry of the lifetime log -/
  lifeSlot : Nat := 0
  /-- 0 to 256 | 18 R588 sectors that a running EVR_CLEAR has still to erase, 0 none -/
  clear : Nat := 0
  deriving DecidableEq, Repr

/-- The calendar clock's fields that no register shows (18 R590), class K. -/
structure Rtc where
  /-- calendar | 18 R590 SEC, MIN, HOUR, DAY, MONTH, YEAR -/
  cal : Cal := {}
  /-- 15 bits and what a correction adds | 18 R590, R591 crystal periods into the second -/
  sub : Nat := 0
  /-- count | 18 R591 periods still to be skipped -/
  skip : Nat := 0
  /-- 1 bit | 18 R592 a loss that no boot has logged yet -/
  lostDue : Bool := true
  deriving DecidableEq, Repr

/-- What a queued flash operation is for (19 R604, R643). -/
inductive FlashUse where
  /-- 18 R582 the lifetime block or a page of a power-fail flush -/
  | life
  /-- 18 R580 event records of a flush -/
  | events
  /-- 18 R588 an erase of EVR_CLEAR -/
  | clear
  /-- 19 R607 a configuration block that CFG_WRITE writes -/
  | cfg
  /-- 19 R606 a configuration block that the device writes by itself -/
  | cfgAuto
  /-- 19 R612 a boot-control entry -/
  | boot
  /-- 19 R611 FW_LOAD -/
  | image
  deriving DecidableEq, Repr

/-- One flash operation (19 R603, R643). -/
structure FlashOp where
  /-- use | 19 R604 -/
  use : FlashUse
  /-- 24 bits | 19 Table 19.5 flash address -/
  addr : Nat
  /-- up to 256 bytes, none for an erase | 19 R603 page program data -/
  data : Option (List Byte)
  /-- 1 bit | 19 R604 the page is being written once more -/
  again : Bool := false
  deriving DecidableEq, Repr

/-- Where the core stands (19 R596–R601, R614). -/
inductive CoreState where
  /-- no supply, or supplies not yet good -/
  | off
  /-- boot of Table 19.4 -/
  | booting
  /-- firmware runs -/
  | running
  /-- CORE_HALT -/
  | halted
  /-- a core reset, watchdog or soft reset restarts the core -/
  | resetting
  /-- steps 2 to 4 of a firmware switch -/
  | switching
  deriving DecidableEq, Repr

/-- Why the core restarts (19 Table 19.1). -/
inductive Restart where
  | core (cause : Nat)
  | watchdog
  | soft
  deriving DecidableEq, Repr

/-- A firmware switch in progress (19 R612, Table 19.13). -/
structure Switch where
  /-- 1 bit | 19 R612 SWITCH, which writes boot control -/
  commit : Bool
  /-- 1 to 4 | 19 Table 19.13 step -/
  step : Nat
  /-- 1 bit | 19 R613 the load is the second one -/
  again : Bool
  /-- 32 bits | 19 Table 19.11 FW_VERSION of the target image -/
  version : Nat
  deriving DecidableEq, Repr

/-- Reset, boot, configuration and firmware beside their registers (19). -/
structure Sys where
  /-- core | 19 Table 19.1 -/
  core : CoreState := .off
  /-- 1 bit | 20 Table 20.3 VDD_IO present -/
  powered : Bool := true
  /-- 1 bit | 19 Table 19.1 RESET_N held, host reset held or supply-good awaited -/
  inReset : Bool := true
  /-- restart | 19 R600 core restart in progress -/
  restart : Option Restart := none
  /-- ports | 19 R600 ports whose port reset waits for the end of a core reset -/
  portWait : List Port := []
  /-- 32 bits | 19 Table 19.11 ROLLBACK of the running image -/
  rollback : Nat := 0
  /-- 0 to 64 | 19 R608 OTP rollback counter -/
  otp : Nat := 0
  /-- operations, in arrival order | 19 R643 waiting and in progress (head) -/
  ops : List FlashOp := []
  /-- 1 bit | 18 R582 the sector erase at the head is suspended -/
  suspended : Bool := false
  /-- 1 bit | 19 R611 an FW_LOAD is in progress -/
  load : Bool := false
  /-- up to 512 bytes | 19 R610, R611 header of an image that the host loads with no flash fitted -/
  header : List Byte := []
  /-- 16 × SEQ | 19 R605 SEQ of the block of each type, none absent -/
  cfgSeq : Vector (Option Nat) 16 := Vector.replicate 16 none
  /-- 8 × bytes | 19 Table 19.7 user block contents in force -/
  user : Vector (List Byte) 8 := Vector.replicate 8 []
  /-- list of types | 19 R606 changed class N blocks not yet written -/
  cfgDirty : List Nat := []
  /-- switch | 19 R612 in progress -/
  switch : Option Switch := none
  /-- SEQ | 19 R604 SEQ of the newest boot-control entry -/
  bootSeq : Nat := 0
  /-- 1 bit | 20 R618 a brown-out is in force -/
  brownout : Bool := false
  deriving DecidableEq, Repr

/-- Test access port instructions that hold state (20 R635, R637). -/
inductive JtagInstr where
  | idcode | extest | sample | highz | clamp | extestPulse | extestTrain | bypass
  deriving DecidableEq, Repr

/-- The test access port (20 R635–R637). -/
structure Jtag where
  /-- 8-bit instruction register | 20 R635 instruction in force, IDCODE after a reset of the port -/
  ir : JtagInstr := .idcode
  /-- 208 bits | 20 R636 boundary register | no reset value in the spec -/
  cells : BitVec 208 := 0
  /-- 208 bits | 20 R636 what the last SAMPLE captured | no reset value in the spec -/
  sampled : BitVec 208 := 0
  /-- 208 bits | 20 R637 what the outputs under test drive | no reset value in the spec -/
  drive : BitVec 208 := 0
  deriving DecidableEq, Repr

/-- One line port (03–09). -/
structure PortSt where
  /-- 13 + 16 bits | 04 R152 frequency estimate, 0.05 ppm × 2^−16, class H; FREQ shows its whole part -/
  freq : Int := 0
  /-- two pairs | 03 R94 -/
  adc : Vector Adc 2 := Vector.replicate 2 {}
  /-- two pairs | 04 R129 -/
  eq : Vector Eq 2 := Vector.replicate 2 {}
  /-- capture | 04 R163 -/
  cap : Capture := {}
  /-- two pairs | 05 R171 -/
  echo : Vector Echo 2 := Vector.replicate 2 {}
  /-- full duplex | 05 R187 -/
  fd : Fd := {}
  /-- transmitter | 06 R218 -/
  tx : Tx := {}
  /-- codes | 07 R240 -/
  fec : Fec := {}
  /-- acquisition | 08 R284 -/
  acq : Acq := {}
  /-- link message channel | 08 R302 -/
  lmc : Lmc := {}
  /-- link | 09 R315 -/
  link : Link := {}
  /-- times, ns | 02 R72 SLIPs in data mode within the last 1 s, since the last storm was logged -/
  slips : List Nat := []
  /-- SLIPs in progress on the receive path, oldest first | 02 R67 -/
  slipRx : List SlipRun := []
  /-- SLIPs in progress on the transmit path, oldest first | 02 R67 -/
  slipTx : List SlipRun := []
  /-- bits, in order | 02 R69 what the last SLIP put in the stream of an NRZ mode -/
  slipBits : List Bool := []
  /-- bits, oldest first | 01 R27, 10 R359 received bits of an NRZ mode that wait for the host's lane -/
  hostBits : List Bool := []
  /-- stream | 06 R230, 09 R339, 10 Table 10.2 the stream of control blocks toward the host -/
  fill : Filler := {}
  /-- bits, in order | 02 R69 what the last SLIP put in the transmit stream of an NRZ mode -/
  slipBitsTx : List Bool := []
  deriving DecidableEq, Repr

/-- The addressed memories: on die, in the host, and in the external flash. -/
structure Mem where
  /-- 20 memories of 64-bit words | 15 Table 15.1; unlisted words are zero and not valid (R504) -/
  die : Vector (Sparse MWord) 20 := Vector.replicate 20 []
  /-- bytes | 13 R442 host memory, outside the block; unlisted bytes read 0 | MODEL -/
  host : List Host.Cell := []
  /-- bytes | 19 R603 external flash; unlisted bytes read 0xFF, erased -/
  flash : List Host.Cell := []
  deriving DecidableEq, Repr

/-- One write to a memory that the command in progress has made; its writes act in order when it is complete. -/
inductive MemWrite where
  /-- a word of an on-die memory -/
  | word (m : MemId) (w : Nat) (x : MWord)
  /-- every valid bit of an on-die memory from one word up to another cleared -/
  | invalidate (m : MemId) (first last : Nat)
  /-- a byte of host memory -/
  | host (a : Nat) (b : Byte)
  /-- a byte of the flash programmed: bits can only fall -/
  | program (a : Nat) (b : Byte)
  /-- a 4 KiB sector of the flash erased -/
  | erase (sector : Nat)
  deriving DecidableEq, Repr

/-- The device. -/
structure Dev where
  /-- 64 bits | 18 R589, 16 R542 the 1 ns timebase; no reset value in the spec -/
  timebase : Nat := 0
  /-- sparse, by 32 × offset + lowest bit | 00 R10, R14 fields of the set-up registers that differ from their reset value -/
  regs : Sparse Nat := []
  /-- memories | 15 Table 15.1 as they stood when the command began -/
  mem : Mem := {}
  /-- writes, newest first | 15 R505 what the command in progress has written; empty between commands | MODEL -/
  writes : List MemWrite := []
  /-- 64 × 1 bit | 13 R441 MSI-X pending bits -/
  msixPend : BitVec 64 := 0
  /-- 64 entries | 13 R441 MSI-X table -/
  msix : Vector MsixEntry 64 := Vector.replicate 64 {}
  /-- address and data | 13 R477 last MSI-X message sent | MODEL -/
  msg : Option (BitVec 64 × BitVec 32) := none
  /-- 3 transports × (offset, value) | 21 R641 what each transport's last _LO read latched for its _HI register -/
  hiLatch : Vector (Sparse Nat) 3 := Vector.replicate 3 []
  /-- bytes | 13 R447 data the last read command returned | MODEL -/
  readData : List Byte := []
  /-- MDIO | 13 R445 -/
  mdio : Mdio := {}
  /-- 16,384 contexts, sparse | 13 R448 -/
  ctx : Sparse RingCtx := []
  /-- (ring, completion), oldest first | 13 R467 completions held for space, and due RESTORE_LOST entries -/
  heldCpl : List (Nat × Cpl) := []
  /-- streams | 13 R478 -/
  streams : List Stream := []
  /-- 3 transports | 13 R475 event-notice targets -/
  target : Vector (Option EvTarget) 3 := Vector.replicate 3 none
  /-- ring and count | 13 R462 ring whose turn it is and descriptors it may still give -/
  turn : Nat × Nat := (0, 0)
  /-- settings | 13 R453 admin settings read at the last ENABLE: bases, size logs, IRQ_EN and VECTOR -/
  admin : Option (Nat × Nat × Nat × Nat × Bool × Nat) := none
  /-- tag and ring | 14 R491 descriptor whose action phase is in progress; none between commands -/
  cur : Option (Nat × Nat) := none
  /-- descriptors, oldest first | 13 R463 descriptors in their wait phase -/
  waits : List (WaitKind × Desc) := []
  /-- ring and completion | 13 R466 how the last descriptor completed, written or not | MODEL -/
  lastCpl : Option (Nat × Cpl) := none
  /-- count | free values drawn so far (Config); MODEL, no reset value in the spec -/
  draws : Nat := 0
  /-- counters | 14 R484 -/
  ctr : Ctrs := {}
  /-- check engine | 15 R518 -/
  chk : Chk := {}
  /-- governor | 02 R57 -/
  gov : Gov := {}
  /-- shed order | 02 R75 -/
  shed : Shed := {}
  /-- eight ports | 00 R3 -/
  port : Vector PortSt 8 := Vector.replicate 8 {}
  /-- sixteen lanes | 00 R3 -/
  lane : Vector HLane 16 := Vector.replicate 16 {}
  /-- host side | 10 R646 -/
  host : HostSt := {}
  /-- sixteen loops | 11 R383 -/
  loop : Vector Loop 16 := Vector.replicate 16 {}
  /-- capture of the control engine | 11 R409 -/
  bceCap : BceCap := {}
  /-- 24 channels | 11 R375 -/
  aux : Vector Aux 24 := Vector.replicate 24 {}
  /-- monitor converter | 12 R414 -/
  mon : Mon := {}
  /-- power | 16 R536 -/
  pwr : Pwr := {}
  /-- thermal model | 17 R559 -/
  thm : Thm := {}
  /-- event recorder | 18 R575 -/
  evr : Evr := {}
  /-- calendar clock | 18 R590 -/
  rtc : Rtc := {}
  /-- reset, boot, firmware | 19 R596 -/
  sys : Sys := {}
  /-- test access port | 20 R635 -/
  jtag : Jtag := {}
  /-- REFCLK_LINE, REFCLK_HOST | 20 R621 its PLLs hold their frequency, to ±20 ppm (false) or to ±100 ppm (true) -/
  hold : Vector (Option Bool) 2 := Vector.replicate 2 none
  deriving DecidableEq, Repr

/-- The state: the device, and the commands that wait, first in, first out. -/
structure State where
  /-- device | 01 Table 1.1 -/
  dev : Dev := {}
  /-- commands, next first | the queue that every model of a block has | MODEL -/
  pending : List Instr := []
  deriving DecidableEq, Repr

/-- The machine at power-on, before any event: every field at its reset value, nothing booted, no command waiting. -/
def State.reset : State := {}

end Sys2Proof.Machine
end

