-- ==== Sys2Proof/Machine/Fields.lean ====
section
/-! DEFINITION. The fields of every set-up register, from the register tables of the chapters (21 gives the map): one
constant for each field (a function of the instance where there are several), and the table that finds a register's
fields at an offset. A name is the register's and the field's in the spec's own letters. A pair of fields that differ in
A and B has a third constant that takes the pair. -/

namespace Sys2Proof.Machine

/-- One register of the map: where its first instance lies, how far apart the instances are, how many there are, and its
fields (01 R10, 21 Table 21.1, R640). -/
structure RegRow where
  base : Nat
  stride : Nat
  count : Nat
  fields : List (Nat → Fld)

namespace Reg

/-! PWR_GOV_CTRL: 02_clockless_fabric.md Table 2.9 -/
/-- Start code under R63; 0x28 is 0.750 V -/
def PWR_GOV_CTRL_VSTART : Fld := ⟨0x1100, 24, 6, .rw, .h, 40, false⟩
/-- Alarm code under R60 -/
def PWR_GOV_CTRL_VMAX_SW : Fld := ⟨0x1100, 18, 6, .rw, .h, 50, false⟩
/-- Lowest code the governor commands -/
def PWR_GOV_CTRL_VMIN_SW : Fld := ⟨0x1100, 12, 6, .rw, .h, 0, false⟩
/-- Intervals before a step down: 4 × (value + 1) -/
def PWR_GOV_CTRL_DOWN_DWELL : Fld := ⟨0x1100, 8, 4, .rw, .h, 3, false⟩
/-- Evaluation interval: 2 µs × (value + 1) -/
def PWR_GOV_CTRL_INTERVAL : Fld := ⟨0x1100, 4, 4, .rw, .h, 0, false⟩
/-- 0b00 AUTO; 0b01 HOLD (no steps down); 0b1x taken as AUTO -/
def PWR_GOV_CTRL_MODE : Fld := ⟨0x1100, 0, 2, .rw, .h, 0, false⟩
/-! PWR_GOV_STATUS: 02_clockless_fabric.md Table 2.10 -/
/-- Code of the last AVSBus Write that succeeded, R66 -/
def PWR_GOV_STATUS_VCMD : Fld := ⟨0x1104, 26, 6, .ro, .s, 40, true⟩
/-- Governor's own demand -/
def PWR_GOV_STATUS_VDEMAND : Fld := ⟨0x1104, 20, 6, .ro, .s, 40, true⟩
/-- W of the last interval, ns -/
def PWR_GOV_STATUS_WORST_SLACK : Fld := ⟨0x1104, 14, 6, .ro, .s, 63, true⟩
/-- Boundary of W, Table 2.1 -/
def PWR_GOV_STATUS_WORST_ID : Fld := ⟨0x1104, 8, 6, .ro, .s, 0, true⟩
/-- R62 condition present -/
def PWR_GOV_STATUS_AT_CEILING : Fld := ⟨0x1104, 7, 1, .ro, .s, 0, true⟩
/-- VDEMAND above VMAX_SW -/
def PWR_GOV_STATUS_OVER_SWMAX : Fld := ⟨0x1104, 6, 1, .ro, .s, 0, true⟩
/-- Steps down suppressed by Lull -/
def PWR_GOV_STATUS_LULL_HOLD : Fld := ⟨0x1104, 5, 1, .ro, .s, 0, true⟩
/-- Live AVSBus fault, R66 -/
def PWR_GOV_STATUS_AVS_FAULT : Fld := ⟨0x1104, 4, 1, .ro, .s, 0, true⟩
/-! PWR_GOV_EVENTS: 02_clockless_fabric.md Table 2.11 -/
/-- AT_CEILING has been set -/
def PWR_GOV_EVENTS_CEILING : Fld := ⟨0x1108, 4, 1, .w1c, .s, 0, false⟩
/-- Lasting AVSBus fault has occurred -/
def PWR_GOV_EVENTS_AVS_FAULT : Fld := ⟨0x1108, 3, 1, .w1c, .s, 0, false⟩
/-- The governor's demand has exceeded VMAX_SW, R60 -/
def PWR_GOV_EVENTS_SW_MAX_EXCEEDED : Fld := ⟨0x1108, 2, 1, .w1c, .s, 0, false⟩
/-- A POWER_CAP has completed CAP_UNMET -/
def PWR_GOV_EVENTS_CAP_UNMET : Fld := ⟨0x1108, 1, 1, .w1c, .s, 0, false⟩
/-- W has been below 8 ns -/
def PWR_GOV_EVENTS_SLACK_LOW : Fld := ⟨0x1108, 0, 1, .w1c, .s, 0, false⟩
/-! PWR_GOV_COUNT: 02_clockless_fabric.md Table 2.12 -/
/-- Intervals with W below 8 ns, saturating -/
def PWR_GOV_COUNT_SLACK_LOW_COUNT : Fld := ⟨0x110C, 16, 16, .ro, .s, 0, false⟩
/-- AVSBus transactions that succeeded on retry, saturating -/
def PWR_GOV_COUNT_AVS_RETRY_COUNT : Fld := ⟨0x110C, 0, 16, .ro, .s, 0, false⟩
/-! PWR_GOV_AVS: 02_clockless_fabric.md Table 2.13 -/
/-- AVSBus rail select for VDD_CORE -/
def PWR_GOV_AVS_RAIL : Fld := ⟨0x1110, 12, 4, .rw, .h, 0, false⟩
/-- AVS_CLK = 156.25 MHz ÷ (2 × (value + 1)); 0x3 gives 19.53 MHz -/
def PWR_GOV_AVS_CLK_DIV : Fld := ⟨0x1110, 8, 4, .rw, .h, 3, false⟩
/-! PWR_SHED_STATUS: 02_clockless_fabric.md Table 2.14 -/
/-- Iteration ceiling in force: 0 none, 1, 2 or 3 -/
def PWR_SHED_STATUS_ITER_CEIL : Fld := ⟨0x1114, 6, 2, .ro, .s, 0, true⟩
/-- Sub-step 2 applied -/
def PWR_SHED_STATUS_SPARSE_OFF : Fld := ⟨0x1114, 5, 1, .ro, .s, 0, true⟩
/-- Sub-step 3 applied -/
def PWR_SHED_STATUS_MON_LP : Fld := ⟨0x1114, 4, 1, .ro, .s, 0, true⟩
/-- Sub-step 4 applied -/
def PWR_SHED_STATUS_LULL_SHED : Fld := ⟨0x1114, 3, 1, .ro, .s, 0, true⟩
/-- At least one step 5 sub-step applied -/
def PWR_SHED_STATUS_DOZE_SHED : Fld := ⟨0x1114, 2, 1, .ro, .s, 0, true⟩
/-- A cap holds sub-steps -/
def PWR_SHED_STATUS_CAUSE_CAP : Fld := ⟨0x1114, 1, 1, .ro, .s, 0, true⟩
/-- THROTTLE holds sub-steps -/
def PWR_SHED_STATUS_CAUSE_THROTTLE : Fld := ⟨0x1114, 0, 1, .ro, .s, 0, true⟩
/-! LPn_SLACK: 02_clockless_fabric.md Table 2.15 -/
/-- Current slack, ns -/
def LPn_SLACK_ADC_A (i : Nat) : Fld := ⟨0x4700 + 0x800 * i, 24, 6, .ro, .p, 63, true⟩
/-- Current slack, ns -/
def LPn_SLACK_ADC_B (i : Nat) : Fld := ⟨0x4700 + 0x800 * i, 18, 6, .ro, .p, 63, true⟩
/-- Current slack, ns -/
def LPn_SLACK_DAC_A (i : Nat) : Fld := ⟨0x4700 + 0x800 * i, 12, 6, .ro, .p, 63, true⟩
/-- Current slack, ns -/
def LPn_SLACK_DAC_B (i : Nat) : Fld := ⟨0x4700 + 0x800 * i, 6, 6, .ro, .p, 63, true⟩
/-- Iteration count of the set latency; 0 when the inner code is off -/
def LPn_SLACK_ITER_SET (i : Nat) : Fld := ⟨0x4700 + 0x800 * i, 3, 3, .ro, .p, 0, true⟩
/-- R56 hold in force -/
def LPn_SLACK_ITER_HELD (i : Nat) : Fld := ⟨0x4700 + 0x800 * i, 2, 1, .ro, .p, 0, true⟩
/-- Governor ceiling of R62: 0 none, 1, 2 or 3 -/
def LPn_SLACK_GOV_CEIL (i : Nat) : Fld := ⟨0x4700 + 0x800 * i, 0, 2, .ro, .p, 0, true⟩
/-- ADC of a pair -/
def LPn_SLACK_ADC (i : Nat) : Pair → Fld
  | .a => LPn_SLACK_ADC_A i
  | .b => LPn_SLACK_ADC_B i
/-- DAC of a pair -/
def LPn_SLACK_DAC (i : Nat) : Pair → Fld
  | .a => LPn_SLACK_DAC_A i
  | .b => LPn_SLACK_DAC_B i
/-! LPn_SLIP: 02_clockless_fabric.md Table 2.16 -/
/-- SLIPs on this port, saturating -/
def LPn_SLIP_SLIP_COUNT (i : Nat) : Fld := ⟨0x4704 + 0x800 * i, 16, 16, .ro, .p, 0, false⟩
/-- Codewords marked by the last SLIP -/
def LPn_SLIP_LAST_MARKED (i : Nat) : Fld := ⟨0x4704 + 0x800 * i, 4, 12, .ro, .p, 0, false⟩
/-- 0 ADC A, 1 ADC B, 2 DAC A, 3 DAC B, 4 host receive, 5 host transmit, 6–7 unused -/
def LPn_SLIP_LAST_SRC (i : Nat) : Fld := ⟨0x4704 + 0x800 * i, 1, 3, .ro, .p, 0, false⟩
/-- A SLIP in data mode has occurred -/
def LPn_SLIP_SLIP (i : Nat) : Fld := ⟨0x4704 + 0x800 * i, 0, 1, .w1c, .p, 0, false⟩
/-! HLn_SLACK: 02_clockless_fabric.md Table 2.17 -/
/-- Current receive slack, ns -/
def HLn_SLACK_RX (i : Nat) : Fld := ⟨0x80F0 + 0x100 * i, 6, 6, .ro, .c, 63, true⟩
/-- Current transmit slack, ns -/
def HLn_SLACK_TX (i : Nat) : Fld := ⟨0x80F0 + 0x100 * i, 0, 6, .ro, .c, 63, true⟩
/-! LPn_RXFE_CTRL: 03_line_receiver.md Table 3.10 -/
/-- 0 loop (AUTO); 1 MANUAL under R92 -/
def LPn_RXFE_CTRL_GAIN_MODE (i : Nat) : Fld := ⟨0x4100 + 0x800 * i, 31, 1, .rw, .c, 0, false⟩
/-- MANUAL gain code -/
def LPn_RXFE_CTRL_GAIN_SW (i : Nat) : Fld := ⟨0x4100 + 0x800 * i, 24, 7, .rw, .c, 48, false⟩
/-- Lowest loop gain code, R93 -/
def LPn_RXFE_CTRL_GAIN_MIN (i : Nat) : Fld := ⟨0x4100 + 0x800 * i, 17, 7, .rw, .c, 0, false⟩
/-- Highest loop gain code, R93 -/
def LPn_RXFE_CTRL_GAIN_MAX (i : Nat) : Fld := ⟨0x4100 + 0x800 * i, 10, 7, .rw, .c, 96, false⟩
/-- Target, LSB rms; values below 16 taken as 16 -/
def LPn_RXFE_CTRL_AGC_TARGET (i : Nat) : Fld := ⟨0x4100 + 0x800 * i, 4, 6, .rw, .c, 44, false⟩
/-- 0b00 50 µs, 0b01 100 µs, 0b10 200 µs, 0b11 400 µs -/
def LPn_RXFE_CTRL_TRACK_INTERVAL (i : Nat) : Fld := ⟨0x4100 + 0x800 * i, 2, 2, .rw, .c, 1, false⟩
/-! LPn_RXFE_STATUS: 03_line_receiver.md Table 3.11 -/
/-- Pair A gain code -/
def LPn_RXFE_STATUS_GAIN_A (i : Nat) : Fld := ⟨0x4104 + 0x800 * i, 25, 7, .ro, .p, 0, true⟩
/-- Pair B gain code -/
def LPn_RXFE_STATUS_GAIN_B (i : Nat) : Fld := ⟨0x4104 + 0x800 * i, 18, 7, .ro, .p, 0, true⟩
/-- Pair A state: 0 OFF, 1 FAST, 2 FROZEN, 3 TRACK, 4 HOLD, 5 MANUAL -/
def LPn_RXFE_STATUS_AGC_A (i : Nat) : Fld := ⟨0x4104 + 0x800 * i, 15, 3, .ro, .p, 0, true⟩
/-- Pair B state, same encoding -/
def LPn_RXFE_STATUS_AGC_B (i : Nat) : Fld := ⟨0x4104 + 0x800 * i, 12, 3, .ro, .p, 0, true⟩
/-- R85, pair A -/
def LPn_RXFE_STATUS_SIG_DET_A (i : Nat) : Fld := ⟨0x4104 + 0x800 * i, 11, 1, .ro, .p, 0, true⟩
/-- R85, pair B -/
def LPn_RXFE_STATUS_SIG_DET_B (i : Nat) : Fld := ⟨0x4104 + 0x800 * i, 10, 1, .ro, .p, 0, true⟩
/-- Loop gain is below GAIN_MIN, or MANUAL has been overridden -/
def LPn_RXFE_STATUS_OVERRIDE_LIVE (i : Nat) : Fld := ⟨0x4104 + 0x800 * i, 9, 1, .ro, .p, 0, true⟩
/-- GAIN of a pair -/
def LPn_RXFE_STATUS_GAIN (i : Nat) : Pair → Fld
  | .a => LPn_RXFE_STATUS_GAIN_A i
  | .b => LPn_RXFE_STATUS_GAIN_B i
/-- AGC of a pair -/
def LPn_RXFE_STATUS_AGC (i : Nat) : Pair → Fld
  | .a => LPn_RXFE_STATUS_AGC_A i
  | .b => LPn_RXFE_STATUS_AGC_B i
/-- SIG_DET of a pair -/
def LPn_RXFE_STATUS_SIG_DET (i : Nat) : Pair → Fld
  | .a => LPn_RXFE_STATUS_SIG_DET_A i
  | .b => LPn_RXFE_STATUS_SIG_DET_B i
/-! LPn_RSSI: 03_line_receiver.md Table 3.12 -/
/-- Pair A, R84 code -/
def LPn_RSSI_RSSI_A (i : Nat) : Fld := ⟨0x4108 + 0x800 * i, 25, 7, .ro, .p, 0, true⟩
/-- Pair B, R84 code -/
def LPn_RSSI_RSSI_B (i : Nat) : Fld := ⟨0x4108 + 0x800 * i, 18, 7, .ro, .p, 0, true⟩
/-- Pair A RSSI_REF -/
def LPn_RSSI_REF_A (i : Nat) : Fld := ⟨0x4108 + 0x800 * i, 11, 7, .ro, .p, 0, true⟩
/-- Pair B RSSI_REF -/
def LPn_RSSI_REF_B (i : Nat) : Fld := ⟨0x4108 + 0x800 * i, 4, 7, .ro, .p, 0, true⟩
/-- RSSI of a pair -/
def LPn_RSSI_RSSI (i : Nat) : Pair → Fld
  | .a => LPn_RSSI_RSSI_A i
  | .b => LPn_RSSI_RSSI_B i
/-- REF of a pair -/
def LPn_RSSI_REF (i : Nat) : Pair → Fld
  | .a => LPn_RSSI_REF_A i
  | .b => LPn_RSSI_REF_B i
/-! LPn_SIGDET: 03_line_receiver.md Table 3.13 -/
/-- SIG_DET threshold, R84 code; 0x14 is 3.16 mV rms -/
def LPn_SIGDET_SD_THRESH (i : Nat) : Fld := ⟨0x410C + 0x800 * i, 3, 7, .rw, .c, 20, false⟩
/-- Hysteresis in codes of 0.5 dB -/
def LPn_SIGDET_SD_HYST (i : Nat) : Fld := ⟨0x410C + 0x800 * i, 0, 3, .rw, .c, 2, false⟩
/-! LPn_ADC_CAL_CTRL: 03_line_receiver.md Table 3.14 -/
/-- Background steps enabled -/
def LPn_ADC_CAL_CTRL_CAL_EN (i : Nat) : Fld := ⟨0x4110 + 0x800 * i, 31, 1, .rw, .c, 1, false⟩
/-- Write 1 to start a 10 s hold and 0 to release; the device clears it at expiry -/
def LPn_ADC_CAL_CTRL_HOLD (i : Nat) : Fld := ⟨0x4110 + 0x800 * i, 30, 1, .rw, .c, 0, false⟩
/-- Step period 1 ms × (value + 1) -/
def LPn_ADC_CAL_CTRL_STEP_PERIOD (i : Nat) : Fld := ⟨0x4110 + 0x800 * i, 24, 6, .rw, .c, 9, false⟩
/-- 0.25 µs × 2^value; 0b011 is 2 µs -/
def LPn_ADC_CAL_CTRL_TEMPER_INTERVAL (i : Nat) : Fld := ⟨0x4110 + 0x800 * i, 21, 3, .rw, .c, 3, false⟩
/-- Measurement window 2^(14 + value) slice samples -/
def LPn_ADC_CAL_CTRL_WINDOW (i : Nat) : Fld := ⟨0x4110 + 0x800 * i, 19, 2, .rw, .c, 2, false⟩
/-! LPn_ADC_CAL_STATUS: 03_line_receiver.md Table 3.15 -/
/-- 0 OFF, 1 STARTUP, 2 IDLE, 3 MEASURE, 4 RAMP, 5 HANDOVER, 6 HELD, 7 STOPPED -/
def LPn_ADC_CAL_STATUS_STATE_A (i : Nat) : Fld := ⟨0x4114 + 0x800 * i, 29, 3, .ro, .p, 0, true⟩
/-- Same encoding -/
def LPn_ADC_CAL_STATUS_STATE_B (i : Nat) : Fld := ⟨0x4114 + 0x800 * i, 26, 3, .ro, .p, 0, true⟩
/-- Next position to calibrate -/
def LPn_ADC_CAL_STATUS_POS_A (i : Nat) : Fld := ⟨0x4114 + 0x800 * i, 20, 6, .ro, .p, 0, true⟩
/-- Next position to calibrate -/
def LPn_ADC_CAL_STATUS_POS_B (i : Nat) : Fld := ⟨0x4114 + 0x800 * i, 14, 6, .ro, .p, 0, true⟩
/-- Free slices, 0–2 -/
def LPn_ADC_CAL_STATUS_FREE_A (i : Nat) : Fld := ⟨0x4114 + 0x800 * i, 12, 2, .ro, .p, 2, true⟩
/-- Free slices, 0–2 -/
def LPn_ADC_CAL_STATUS_FREE_B (i : Nat) : Fld := ⟨0x4114 + 0x800 * i, 10, 2, .ro, .p, 2, true⟩
/-- No free slice, R114 -/
def LPn_ADC_CAL_STATUS_DEGRADED_A (i : Nat) : Fld := ⟨0x4114 + 0x800 * i, 9, 1, .ro, .p, 0, true⟩
/-- No free slice, R114 -/
def LPn_ADC_CAL_STATUS_DEGRADED_B (i : Nat) : Fld := ⟨0x4114 + 0x800 * i, 8, 1, .ro, .p, 0, true⟩
/-- Hold in force -/
def LPn_ADC_CAL_STATUS_HOLD_ACTIVE (i : Nat) : Fld := ⟨0x4114 + 0x800 * i, 7, 1, .ro, .p, 0, true⟩
/-- R120 refusal in force -/
def LPn_ADC_CAL_STATUS_REHOLD_BLOCK (i : Nat) : Fld := ⟨0x4114 + 0x800 * i, 6, 1, .ro, .p, 0, true⟩
/-- STATE of a pair -/
def LPn_ADC_CAL_STATUS_STATE (i : Nat) : Pair → Fld
  | .a => LPn_ADC_CAL_STATUS_STATE_A i
  | .b => LPn_ADC_CAL_STATUS_STATE_B i
/-- POS of a pair -/
def LPn_ADC_CAL_STATUS_POS (i : Nat) : Pair → Fld
  | .a => LPn_ADC_CAL_STATUS_POS_A i
  | .b => LPn_ADC_CAL_STATUS_POS_B i
/-- FREE of a pair -/
def LPn_ADC_CAL_STATUS_FREE (i : Nat) : Pair → Fld
  | .a => LPn_ADC_CAL_STATUS_FREE_A i
  | .b => LPn_ADC_CAL_STATUS_FREE_B i
/-- DEGRADED of a pair -/
def LPn_ADC_CAL_STATUS_DEGRADED (i : Nat) : Pair → Fld
  | .a => LPn_ADC_CAL_STATUS_DEGRADED_A i
  | .b => LPn_ADC_CAL_STATUS_DEGRADED_B i
/-! LPn_ADC_RETIRE: 03_line_receiver.md Table 3.16 -/
/-- First retired slice, pair A; 0x7F none -/
def LPn_ADC_RETIRE_RET0_A (i : Nat) : Fld := ⟨0x4118 + 0x800 * i, 21, 7, .ro, .n, 127, true⟩
/-- Second retired slice, pair A; 0x7F none -/
def LPn_ADC_RETIRE_RET1_A (i : Nat) : Fld := ⟨0x4118 + 0x800 * i, 14, 7, .ro, .n, 127, true⟩
/-- First retired slice, pair B; 0x7F none -/
def LPn_ADC_RETIRE_RET0_B (i : Nat) : Fld := ⟨0x4118 + 0x800 * i, 7, 7, .ro, .n, 127, true⟩
/-- Second retired slice, pair B; 0x7F none -/
def LPn_ADC_RETIRE_RET1_B (i : Nat) : Fld := ⟨0x4118 + 0x800 * i, 0, 7, .ro, .n, 127, true⟩
/-- RET0 of a pair -/
def LPn_ADC_RETIRE_RET0 (i : Nat) : Pair → Fld
  | .a => LPn_ADC_RETIRE_RET0_A i
  | .b => LPn_ADC_RETIRE_RET0_B i
/-- RET1 of a pair -/
def LPn_ADC_RETIRE_RET1 (i : Nat) : Pair → Fld
  | .a => LPn_ADC_RETIRE_RET1_A i
  | .b => LPn_ADC_RETIRE_RET1_B i
/-! LPn_RX_EVENTS: 03_line_receiver.md Table 3.17 -/
/-- Trim restoration failed after DOZE -/
def LPn_RX_EVENTS_TRIM_RESTORE_LOST (i : Nat) : Fld := ⟨0x411C + 0x800 * i, 8, 1, .w1c, .p, 0, false⟩
/-- R92 or R93 override has occurred -/
def LPn_RX_EVENTS_OVERRIDE (i : Nat) : Fld := ⟨0x411C + 0x800 * i, 7, 1, .w1c, .p, 0, false⟩
/-- Rise comparator has fired -/
def LPn_RX_EVENTS_RISE (i : Nat) : Fld := ⟨0x411C + 0x800 * i, 6, 1, .w1c, .p, 0, false⟩
/-- A slice has been retired -/
def LPn_RX_EVENTS_RETIRED (i : Nat) : Fld := ⟨0x411C + 0x800 * i, 5, 1, .w1c, .p, 0, false⟩
/-- A health-check failure has occurred -/
def LPn_RX_EVENTS_SLICE_FAIL (i : Nat) : Fld := ⟨0x411C + 0x800 * i, 4, 1, .w1c, .p, 0, false⟩
/-- R114 has applied -/
def LPn_RX_EVENTS_CAL_STOPPED (i : Nat) : Fld := ⟨0x411C + 0x800 * i, 3, 1, .w1c, .p, 0, false⟩
/-- A hold has ended by expiry -/
def LPn_RX_EVENTS_HOLD_EXPIRED (i : Nat) : Fld := ⟨0x411C + 0x800 * i, 2, 1, .w1c, .p, 0, false⟩
/-- An attempt has been retried -/
def LPn_RX_EVENTS_CAL_RETRY (i : Nat) : Fld := ⟨0x411C + 0x800 * i, 1, 1, .w1c, .p, 0, false⟩
/-- The clip guard has acted -/
def LPn_RX_EVENTS_CLIP (i : Nat) : Fld := ⟨0x411C + 0x800 * i, 0, 1, .w1c, .p, 0, false⟩
/-! LPn_ADC_CAL_COUNT: 03_line_receiver.md Table 3.18 -/
/-- Completed steps, both pairs, saturating -/
def LPn_ADC_CAL_COUNT_STEPS (i : Nat) : Fld := ⟨0x4120 + 0x800 * i, 16, 16, .ro, .p, 0, false⟩
/-- Retried attempts, saturating -/
def LPn_ADC_CAL_COUNT_RETRIES (i : Nat) : Fld := ⟨0x4120 + 0x800 * i, 8, 8, .ro, .p, 0, false⟩
/-- Windows discarded under R102, saturating -/
def LPn_ADC_CAL_COUNT_DISCARDS (i : Nat) : Fld := ⟨0x4120 + 0x800 * i, 0, 8, .ro, .p, 0, false⟩
/-! LPn_ADC_TRIM_SEL: 03_line_receiver.md Table 3.19 -/
/-- Position of the selected slice when in service; otherwise 0 -/
def LPn_ADC_TRIM_SEL_POSITION (i : Nat) : Fld := ⟨0x4124 + 0x800 * i, 8, 6, .ro, .p, 0, true⟩
/-- 0 A, 1 B -/
def LPn_ADC_TRIM_SEL_PAIR (i : Nat) : Fld := ⟨0x4124 + 0x800 * i, 7, 1, .rw, .p, 0, false⟩
/-- Physical slice; above 65, LPn_ADC_TRIM_DATA reads 0 -/
def LPn_ADC_TRIM_SEL_SLICE (i : Nat) : Fld := ⟨0x4124 + 0x800 * i, 0, 7, .rw, .p, 0, false⟩
/-! LPn_ADC_TRIM_DATA: 03_line_receiver.md Table 3.20 -/
/-- 0 in service, 1 free head, 2 free tail, 3 retired -/
def LPn_ADC_TRIM_DATA_ROLE (i : Nat) : Fld := ⟨0x4128 + 0x800 * i, 30, 2, .ro, .h, 0, true⟩
/-- Offset trim -/
def LPn_ADC_TRIM_DATA_OFFSET (i : Nat) : Fld := ⟨0x4128 + 0x800 * i, 22, 8, .ro, .h, 0, true⟩
/-- Gain trim -/
def LPn_ADC_TRIM_DATA_GAIN (i : Nat) : Fld := ⟨0x4128 + 0x800 * i, 14, 8, .ro, .h, 0, true⟩
/-- Skew trim -/
def LPn_ADC_TRIM_DATA_SKEW (i : Nat) : Fld := ⟨0x4128 + 0x800 * i, 4, 10, .ro, .h, 0, true⟩
/-! LPn_EQ_CTRL: 04_line_equalisation.md Table 4.6 -/
/-- Freeze taps in FINE, R148 -/
def LPn_EQ_CTRL_SW_FREEZE (i : Nat) : Fld := ⟨0x4200 + 0x800 * i, 31, 1, .rw, .c, 0, false⟩
/-- 0 RSSD; 1 DFE where R133 allows -/
def LPn_EQ_CTRL_DET_SEL (i : Nat) : Fld := ⟨0x4200 + 0x800 * i, 30, 1, .rw, .c, 0, false⟩
/-- Use stored taps at PRESET, R149 -/
def LPn_EQ_CTRL_WARM_START (i : Nat) : Fld := ⟨0x4200 + 0x800 * i, 29, 1, .rw, .c, 1, false⟩
/-- Metric window 2^(16 + value) symbols -/
def LPn_EQ_CTRL_METRIC_WIN (i : Nat) : Fld := ⟨0x4200 + 0x800 * i, 24, 4, .rw, .c, 4, false⟩
/-- Main tap index; 0 mode default, R128 -/
def LPn_EQ_CTRL_MAIN_POS (i : Nat) : Fld := ⟨0x4200 + 0x800 * i, 16, 8, .rw, .c, 0, false⟩
/-- Active taps 16 × value; 0 mode maximum -/
def LPn_EQ_CTRL_TAPS (i : Nat) : Fld := ⟨0x4200 + 0x800 * i, 12, 4, .rw, .c, 0, false⟩
/-- Convergence and divergence floor, 0.1 dB; 0x82 is 13.0 dB -/
def LPn_EQ_CTRL_SNR_MIN (i : Nat) : Fld := ⟨0x4200 + 0x800 * i, 0, 8, .rw, .c, 130, false⟩
/-! LPn_EQ_ADAPT: 04_line_equalisation.md Table 4.7 -/
/-- FFE step in COARSE and RECOVER, R138 -/
def LPn_EQ_ADAPT_MU_FFE_C (i : Nat) : Fld := ⟨0x4204 + 0x800 * i, 12, 3, .rw, .c, 2, false⟩
/-- FFE step in FINE -/
def LPn_EQ_ADAPT_MU_FFE_F (i : Nat) : Fld := ⟨0x4204 + 0x800 * i, 9, 3, .rw, .c, 6, false⟩
/-- Target step in COARSE and RECOVER -/
def LPn_EQ_ADAPT_MU_TGT_C (i : Nat) : Fld := ⟨0x4204 + 0x800 * i, 6, 3, .rw, .c, 2, false⟩
/-- Target step in FINE -/
def LPn_EQ_ADAPT_MU_TGT_F (i : Nat) : Fld := ⟨0x4204 + 0x800 * i, 3, 3, .rw, .c, 5, false⟩
/-! LPn_CDR_CTRL: 04_line_equalisation.md Table 4.8 -/
/-- Proportional shift in ACQ, R152 -/
def LPn_CDR_CTRL_KP_ACQ (i : Nat) : Fld := ⟨0x4208 + 0x800 * i, 28, 4, .rw, .c, 2, false⟩
/-- Proportional shift in TRACK -/
def LPn_CDR_CTRL_KP_TRACK (i : Nat) : Fld := ⟨0x4208 + 0x800 * i, 24, 4, .rw, .c, 5, false⟩
/-- Integral shift in ACQ -/
def LPn_CDR_CTRL_KI_ACQ (i : Nat) : Fld := ⟨0x4208 + 0x800 * i, 20, 4, .rw, .c, 8, false⟩
/-- Integral shift in TRACK -/
def LPn_CDR_CTRL_KI_TRACK (i : Nat) : Fld := ⟨0x4208 + 0x800 * i, 16, 4, .rw, .c, 12, false⟩
/-- First pre-cursor target, output units, two's complement -/
def LPn_CDR_CTRL_CDR_OFFSET (i : Nat) : Fld := ⟨0x4208 + 0x800 * i, 8, 8, .rw, .c, 0, false⟩
/-! LPn_EQ_STATUS: 04_line_equalisation.md Table 4.9 -/
/-- 0 OFF, 1 PRESET, 2 COARSE, 3 FINE, 4 RECOVER, 5 FROZEN, 6 HOLD -/
def LPn_EQ_STATUS_ADAPT_A (i : Nat) : Fld := ⟨0x420C + 0x800 * i, 29, 3, .ro, .p, 0, true⟩
/-- Same encoding -/
def LPn_EQ_STATUS_ADAPT_B (i : Nat) : Fld := ⟨0x420C + 0x800 * i, 26, 3, .ro, .p, 0, true⟩
/-- Pair A CONVERGED -/
def LPn_EQ_STATUS_CONV_A (i : Nat) : Fld := ⟨0x420C + 0x800 * i, 25, 1, .ro, .p, 0, true⟩
/-- Pair B CONVERGED -/
def LPn_EQ_STATUS_CONV_B (i : Nat) : Fld := ⟨0x420C + 0x800 * i, 24, 1, .ro, .p, 0, true⟩
/-- 0 RSSD, 1 DFE -/
def LPn_EQ_STATUS_DET_ACTIVE (i : Nat) : Fld := ⟨0x420C + 0x800 * i, 23, 1, .ro, .p, 0, true⟩
/-- Receive precoding on -/
def LPn_EQ_STATUS_PRECODE (i : Nat) : Fld := ⟨0x420C + 0x800 * i, 22, 1, .ro, .p, 0, true⟩
/-- Last PRESET used stored taps -/
def LPn_EQ_STATUS_WARM_USED (i : Nat) : Fld := ⟨0x420C + 0x800 * i, 21, 1, .ro, .p, 0, true⟩
/-- R148 freeze in force -/
def LPn_EQ_STATUS_FREEZE_LIVE (i : Nat) : Fld := ⟨0x420C + 0x800 * i, 20, 1, .ro, .p, 0, true⟩
/-- Pair A overall SNR, 0.1 dB -/
def LPn_EQ_STATUS_SNR_ALL_A (i : Nat) : Fld := ⟨0x420C + 0x800 * i, 12, 8, .ro, .p, 0, true⟩
/-- Pair B overall SNR, 0.1 dB -/
def LPn_EQ_STATUS_SNR_ALL_B (i : Nat) : Fld := ⟨0x420C + 0x800 * i, 4, 8, .ro, .p, 0, true⟩
/-- ADAPT of a pair -/
def LPn_EQ_STATUS_ADAPT (i : Nat) : Pair → Fld
  | .a => LPn_EQ_STATUS_ADAPT_A i
  | .b => LPn_EQ_STATUS_ADAPT_B i
/-- CONV of a pair -/
def LPn_EQ_STATUS_CONV (i : Nat) : Pair → Fld
  | .a => LPn_EQ_STATUS_CONV_A i
  | .b => LPn_EQ_STATUS_CONV_B i
/-- SNR_ALL of a pair -/
def LPn_EQ_STATUS_SNR_ALL (i : Nat) : Pair → Fld
  | .a => LPn_EQ_STATUS_SNR_ALL_A i
  | .b => LPn_EQ_STATUS_SNR_ALL_B i
/-! LPn_CDR_STATUS: 04_line_equalisation.md Table 4.10 -/
/-- Pair A in TRACK -/
def LPn_CDR_STATUS_LOCK_A (i : Nat) : Fld := ⟨0x4210 + 0x800 * i, 31, 1, .ro, .p, 0, true⟩
/-- Pair B in TRACK -/
def LPn_CDR_STATUS_LOCK_B (i : Nat) : Fld := ⟨0x4210 + 0x800 * i, 30, 1, .ro, .p, 0, true⟩
/-- Pair A phase, 1/128 UI -/
def LPn_CDR_STATUS_PHASE_A (i : Nat) : Fld := ⟨0x4210 + 0x800 * i, 23, 7, .ro, .p, 0, true⟩
/-- Pair B phase, 1/128 UI -/
def LPn_CDR_STATUS_PHASE_B (i : Nat) : Fld := ⟨0x4210 + 0x800 * i, 16, 7, .ro, .p, 0, true⟩
/-- Frequency estimate, 0.05 ppm, two's complement -/
def LPn_CDR_STATUS_FREQ (i : Nat) : Fld := ⟨0x4210 + 0x800 * i, 0, 13, .ro, .p, 0, true⟩
/-- LOCK of a pair -/
def LPn_CDR_STATUS_LOCK (i : Nat) : Pair → Fld
  | .a => LPn_CDR_STATUS_LOCK_A i
  | .b => LPn_CDR_STATUS_LOCK_B i
/-- PHASE of a pair -/
def LPn_CDR_STATUS_PHASE (i : Nat) : Pair → Fld
  | .a => LPn_CDR_STATUS_PHASE_A i
  | .b => LPn_CDR_STATUS_PHASE_B i
/-! LPn_SNR_A: 04_line_equalisation.md Table 4.11 -/
/-- Level +384 (NRZ +256), 0.1 dB -/
def LPn_SNR_A_L3 (i : Nat) : Fld := ⟨0x4214 + 0x800 * i, 24, 8, .ro, .p, 0, true⟩
/-- Level +128, 0.1 dB -/
def LPn_SNR_A_L2 (i : Nat) : Fld := ⟨0x4214 + 0x800 * i, 16, 8, .ro, .p, 0, true⟩
/-- Level −128, 0.1 dB -/
def LPn_SNR_A_L1 (i : Nat) : Fld := ⟨0x4214 + 0x800 * i, 8, 8, .ro, .p, 0, true⟩
/-- Level −384 (NRZ −256), 0.1 dB -/
def LPn_SNR_A_L0 (i : Nat) : Fld := ⟨0x4214 + 0x800 * i, 0, 8, .ro, .p, 0, true⟩
/-! LPn_SNR_B: 04_line_equalisation.md Table 4.11 -/
/-- Level +384 (NRZ +256), 0.1 dB -/
def LPn_SNR_B_L3 (i : Nat) : Fld := ⟨0x4218 + 0x800 * i, 24, 8, .ro, .p, 0, true⟩
/-- Level +128, 0.1 dB -/
def LPn_SNR_B_L2 (i : Nat) : Fld := ⟨0x4218 + 0x800 * i, 16, 8, .ro, .p, 0, true⟩
/-- Level −128, 0.1 dB -/
def LPn_SNR_B_L1 (i : Nat) : Fld := ⟨0x4218 + 0x800 * i, 8, 8, .ro, .p, 0, true⟩
/-- Level −384 (NRZ −256), 0.1 dB -/
def LPn_SNR_B_L0 (i : Nat) : Fld := ⟨0x4218 + 0x800 * i, 0, 8, .ro, .p, 0, true⟩
/-! LPn_BER: 04_line_equalisation.md Table 4.12 -/
/-- R157 -/
def LPn_BER_BER_EST (i : Nat) : Fld := ⟨0x421C + 0x800 * i, 16, 16, .ro, .p, 0, true⟩
/-- R158 -/
def LPn_BER_BER_MEAS (i : Nat) : Fld := ⟨0x421C + 0x800 * i, 0, 16, .ro, .p, 0, true⟩
/-! LPn_EQ_EVENTS: 04_line_equalisation.md Table 4.13 -/
/-- Tap restoration failed, R150 -/
def LPn_EQ_EVENTS_TAP_RESTORE_LOST (i : Nat) : Fld := ⟨0x4220 + 0x800 * i, 9, 1, .w1c, .p, 0, false⟩
/-- DFE refused, R133 -/
def LPn_EQ_EVENTS_DET_FORCED (i : Nat) : Fld := ⟨0x4220 + 0x800 * i, 8, 1, .w1c, .p, 0, false⟩
/-- Software freeze overridden, R148 -/
def LPn_EQ_EVENTS_OVERRIDE (i : Nat) : Fld := ⟨0x4220 + 0x800 * i, 7, 1, .w1c, .p, 0, false⟩
/-- R146 bound missed -/
def LPn_EQ_EVENTS_EQ_SLOW (i : Nat) : Fld := ⟨0x4220 + 0x800 * i, 6, 1, .w1c, .p, 0, false⟩
/-- Snapshot restore failed, R145 -/
def LPn_EQ_EVENTS_DIVERGED (i : Nat) : Fld := ⟨0x4220 + 0x800 * i, 5, 1, .w1c, .p, 0, false⟩
/-- Snapshot restore succeeded -/
def LPn_EQ_EVENTS_RESTORED (i : Nat) : Fld := ⟨0x4220 + 0x800 * i, 4, 1, .w1c, .p, 0, false⟩
/-- CONVERGED cleared in FINE -/
def LPn_EQ_EVENTS_CONV_LOST (i : Nat) : Fld := ⟨0x4220 + 0x800 * i, 3, 1, .w1c, .p, 0, false⟩
/-- R153 -/
def LPn_EQ_EVENTS_CDR_LOCK_LOST (i : Nat) : Fld := ⟨0x4220 + 0x800 * i, 2, 1, .w1c, .p, 0, false⟩
/-- A tap reached a limit -/
def LPn_EQ_EVENTS_TAP_SAT (i : Nat) : Fld := ⟨0x4220 + 0x800 * i, 1, 1, .w1c, .p, 0, false⟩
/-- Capture stopped -/
def LPn_EQ_EVENTS_CAP_DONE (i : Nat) : Fld := ⟨0x4220 + 0x800 * i, 0, 1, .w1c, .p, 0, false⟩
/-! LPn_EQ_COUNT: 04_line_equalisation.md Table 4.14 -/
/-- Successful restores, saturating -/
def LPn_EQ_COUNT_RESTORED_COUNT (i : Nat) : Fld := ⟨0x4224 + 0x800 * i, 24, 8, .ro, .p, 0, false⟩
/-- Divergences, saturating -/
def LPn_EQ_COUNT_DIVERGED_COUNT (i : Nat) : Fld := ⟨0x4224 + 0x800 * i, 16, 8, .ro, .p, 0, false⟩
/-- Blocks skipped under R142, saturating -/
def LPn_EQ_COUNT_SKIPPED (i : Nat) : Fld := ⟨0x4224 + 0x800 * i, 0, 16, .ro, .p, 0, false⟩
/-! LPn_EQ_TAP_SEL: 04_line_equalisation.md Table 4.15 -/
/-- 0 A, 1 B -/
def LPn_EQ_TAP_SEL_PAIR (i : Nat) : Fld := ⟨0x4228 + 0x800 * i, 9, 1, .rw, .p, 0, false⟩
/-- 0 FFE taps, 1 target h1–h4 (index 1–4), 2 snapshot FFE, 3 snapshot target -/
def LPn_EQ_TAP_SEL_SET (i : Nat) : Fld := ⟨0x4228 + 0x800 * i, 7, 2, .rw, .p, 0, false⟩
/-- Tap index; out of range, LPn_EQ_TAP_DATA reads 0 -/
def LPn_EQ_TAP_SEL_INDEX (i : Nat) : Fld := ⟨0x4228 + 0x800 * i, 0, 7, .rw, .p, 0, false⟩
/-! LPn_EQ_TAP_DATA: 04_line_equalisation.md Table 4.16 -/
/-- Selected tap, R129 format -/
def LPn_EQ_TAP_DATA_VALUE (i : Nat) : Fld := ⟨0x422C + 0x800 * i, 0, 12, .ro, .h, 0, true⟩
/-! LPn_CAP_STATUS: 04_line_equalisation.md Table 4.17 -/
/-- 0 EMPTY, 1 ARMED, 2 FILLING, 3 DONE, 4 PARTIAL -/
def LPn_CAP_STATUS_STATE (i : Nat) : Fld := ⟨0x4230 + 0x800 * i, 29, 3, .ro, .p, 0, true⟩
/-- Blocks stored, 0–8,192 -/
def LPn_CAP_STATUS_BLOCKS (i : Nat) : Fld := ⟨0x4230 + 0x800 * i, 14, 14, .ro, .p, 0, true⟩
/-- Trigger block, counted from the oldest stored block -/
def LPn_CAP_STATUS_TRIG_BLOCK (i : Nat) : Fld := ⟨0x4230 + 0x800 * i, 0, 14, .ro, .p, 0, true⟩
/-! LPn_CAP_TIME_LO: 04_line_equalisation.md Table 4.18 -/
/-- Trigger time, 1 ns timebase, bits 31:0 -/
def LPn_CAP_TIME_LO_TIME_LO (i : Nat) : Fld := ⟨0x4234 + 0x800 * i, 0, 32, .ro, .p, 0, true⟩
/-! LPn_CAP_TIME_HI: 04_line_equalisation.md Table 4.19 -/
/-- Trigger time, bits 63:32 -/
def LPn_CAP_TIME_HI_TIME_HI (i : Nat) : Fld := ⟨0x4238 + 0x800 * i, 0, 32, .ro, .p, 0, true⟩
/-! LPn_FD_CTRL: 05_full_duplex_copper.md Table 5.12 -/
/-- Fall back under R198 -/
def LPn_FD_CTRL_FALLBACK (i : Nat) : Fld := ⟨0x4300 + 0x800 * i, 31, 1, .rw, .c, 1, false⟩
/-- Warm start, R204 -/
def LPn_FD_CTRL_ECHO_WARM (i : Nat) : Fld := ⟨0x4300 + 0x800 * i, 30, 1, .rw, .c, 1, false⟩
/-- Hybrid search, R175 -/
def LPn_FD_CTRL_HYB_AUTO (i : Nat) : Fld := ⟨0x4300 + 0x800 * i, 29, 1, .rw, .c, 1, false⟩
/-- Window placement, R180 -/
def LPn_FD_CTRL_SPARSE_AUTO (i : Nat) : Fld := ⟨0x4300 + 0x800 * i, 28, 1, .rw, .c, 1, false⟩
/-- Attempts before fallback -/
def LPn_FD_CTRL_FD_ATTEMPTS (i : Nat) : Fld := ⟨0x4300 + 0x800 * i, 24, 4, .rw, .c, 3, false⟩
/-- Window length 250 µs × (value + 1) -/
def LPn_FD_CTRL_QUIET_LEN (i : Nat) : Fld := ⟨0x4300 + 0x800 * i, 20, 4, .rw, .c, 1, false⟩
/-- Echo convergence floor, 0.25 dB; 0x90 is 36 dB -/
def LPn_FD_CTRL_ERLE_MIN (i : Nat) : Fld := ⟨0x4300 + 0x800 * i, 12, 8, .rw, .c, 144, false⟩
/-! LPn_FD_ADAPT: 05_full_duplex_copper.md Table 5.13 -/
/-- Echo and window step in RAW, DD_COARSE and RECOVER, R181 -/
def LPn_FD_ADAPT_MU_ECHO_C (i : Nat) : Fld := ⟨0x4304 + 0x800 * i, 28, 4, .rw, .c, 2, false⟩
/-- Echo and window step in DD_FINE -/
def LPn_FD_ADAPT_MU_ECHO_F (i : Nat) : Fld := ⟨0x4304 + 0x800 * i, 24, 4, .rw, .c, 6, false⟩
/-- NEXT step in RAW, DD_COARSE and RECOVER -/
def LPn_FD_ADAPT_MU_NEXT_C (i : Nat) : Fld := ⟨0x4304 + 0x800 * i, 20, 4, .rw, .c, 3, false⟩
/-- NEXT step in DD_FINE -/
def LPn_FD_ADAPT_MU_NEXT_F (i : Nat) : Fld := ⟨0x4304 + 0x800 * i, 16, 4, .rw, .c, 7, false⟩
/-! LPn_HYB_CTRL: 05_full_duplex_copper.md Table 5.14 -/
/-- Pair A resistance code when HYB_AUTO = 0 -/
def LPn_HYB_CTRL_HYB_R_A (i : Nat) : Fld := ⟨0x4308 + 0x800 * i, 29, 3, .rw, .c, 5, false⟩
/-- Pair A capacitance code when HYB_AUTO = 0 -/
def LPn_HYB_CTRL_HYB_C_A (i : Nat) : Fld := ⟨0x4308 + 0x800 * i, 26, 3, .rw, .c, 3, false⟩
/-- Pair B resistance code -/
def LPn_HYB_CTRL_HYB_R_B (i : Nat) : Fld := ⟨0x4308 + 0x800 * i, 23, 3, .rw, .c, 5, false⟩
/-- Pair B capacitance code -/
def LPn_HYB_CTRL_HYB_C_B (i : Nat) : Fld := ⟨0x4308 + 0x800 * i, 20, 3, .rw, .c, 3, false⟩
/-- Pair A code in use -/
def LPn_HYB_CTRL_HYB_R_A_USED (i : Nat) : Fld := ⟨0x4308 + 0x800 * i, 17, 3, .ro, .h, 5, true⟩
/-- Pair A code in use -/
def LPn_HYB_CTRL_HYB_C_A_USED (i : Nat) : Fld := ⟨0x4308 + 0x800 * i, 14, 3, .ro, .h, 3, true⟩
/-- Pair B code in use -/
def LPn_HYB_CTRL_HYB_R_B_USED (i : Nat) : Fld := ⟨0x4308 + 0x800 * i, 11, 3, .ro, .h, 5, true⟩
/-- Pair B code in use -/
def LPn_HYB_CTRL_HYB_C_B_USED (i : Nat) : Fld := ⟨0x4308 + 0x800 * i, 8, 3, .ro, .h, 3, true⟩
/-- HYB_R of a pair -/
def LPn_HYB_CTRL_HYB_R (i : Nat) : Pair → Fld
  | .a => LPn_HYB_CTRL_HYB_R_A i
  | .b => LPn_HYB_CTRL_HYB_R_B i
/-- HYB_C of a pair -/
def LPn_HYB_CTRL_HYB_C (i : Nat) : Pair → Fld
  | .a => LPn_HYB_CTRL_HYB_C_A i
  | .b => LPn_HYB_CTRL_HYB_C_B i
/-! LPn_FD_STATUS: 05_full_duplex_copper.md Table 5.15 -/
/-- 0 IDLE, 1 BASE, 2 LEADER_WIN, 3 FOLLOWER_WIN, 4 JOIN, 5 DATA, 6 ABANDONED, 7 FALLBACK; 8–15 unused -/
def LPn_FD_STATUS_FDS (i : Nat) : Fld := ⟨0x430C + 0x800 * i, 28, 4, .ro, .p, 0, true⟩
/-- 0 follower, 1 leader -/
def LPn_FD_STATUS_ROLE (i : Nat) : Fld := ⟨0x430C + 0x800 * i, 27, 1, .ro, .p, 0, true⟩
/-- Pair A canceller state: 0 OFF, 1 RAW, 2 DD_COARSE, 3 DD_FINE, 4 RECOVER, 5 HOLD, 6 FROZEN -/
def LPn_FD_STATUS_ECHO_A (i : Nat) : Fld := ⟨0x430C + 0x800 * i, 24, 3, .ro, .p, 0, true⟩
/-- Pair B canceller state, same encoding -/
def LPn_FD_STATUS_ECHO_B (i : Nat) : Fld := ⟨0x430C + 0x800 * i, 21, 3, .ro, .p, 0, true⟩
/-- Windows applied; 0 under sub-step 2 -/
def LPn_FD_STATUS_SPARSE_ON (i : Nat) : Fld := ⟨0x430C + 0x800 * i, 20, 1, .ro, .p, 0, true⟩
/-- Pair A ERLE, 0.25 dB -/
def LPn_FD_STATUS_ERLE_A (i : Nat) : Fld := ⟨0x430C + 0x800 * i, 12, 8, .ro, .p, 0, true⟩
/-- Pair B ERLE, 0.25 dB -/
def LPn_FD_STATUS_ERLE_B (i : Nat) : Fld := ⟨0x430C + 0x800 * i, 4, 8, .ro, .p, 0, true⟩
/-- Table 5.8 -/
def LPn_FD_STATUS_LAST_REASON (i : Nat) : Fld := ⟨0x430C + 0x800 * i, 0, 4, .ro, .p, 0, false⟩
/-- ECHO of a pair -/
def LPn_FD_STATUS_ECHO (i : Nat) : Pair → Fld
  | .a => LPn_FD_STATUS_ECHO_A i
  | .b => LPn_FD_STATUS_ECHO_B i
/-- ERLE of a pair -/
def LPn_FD_STATUS_ERLE (i : Nat) : Pair → Fld
  | .a => LPn_FD_STATUS_ERLE_A i
  | .b => LPn_FD_STATUS_ERLE_B i
/-! LPn_FD_SKEW: 05_full_duplex_copper.md Table 5.16 -/
/-- Pair B against pair A, UI, two's complement -/
def LPn_FD_SKEW_SKEW (i : Nat) : Fld := ⟨0x4310 + 0x800 * i, 0, 10, .ro, .p, 0, true⟩
/-! LPn_ECHO_WIN_A01: 05_full_duplex_copper.md Table 5.17 -/
/-- Window 1 (or 3) enabled -/
def LPn_ECHO_WIN_A01_EN_HI (i : Nat) : Fld := ⟨0x4314 + 0x800 * i, 31, 1, .rw, .h, 0, false⟩
/-- Window not applied, R179 -/
def LPn_ECHO_WIN_A01_BAD_HI (i : Nat) : Fld := ⟨0x4314 + 0x800 * i, 30, 1, .ro, .h, 0, true⟩
/-- Window 1 (or 3) first delay, UI -/
def LPn_ECHO_WIN_A01_START_HI (i : Nat) : Fld := ⟨0x4314 + 0x800 * i, 16, 12, .rw, .h, 0, false⟩
/-- Window 0 (or 2) enabled -/
def LPn_ECHO_WIN_A01_EN_LO (i : Nat) : Fld := ⟨0x4314 + 0x800 * i, 15, 1, .rw, .h, 0, false⟩
/-- Window not applied, R179 -/
def LPn_ECHO_WIN_A01_BAD_LO (i : Nat) : Fld := ⟨0x4314 + 0x800 * i, 14, 1, .ro, .h, 0, true⟩
/-- Window 0 (or 2) first delay, UI -/
def LPn_ECHO_WIN_A01_START_LO (i : Nat) : Fld := ⟨0x4314 + 0x800 * i, 0, 12, .rw, .h, 0, false⟩
/-! LPn_ECHO_WIN_A23: 05_full_duplex_copper.md Table 5.17 -/
/-- Window 1 (or 3) enabled -/
def LPn_ECHO_WIN_A23_EN_HI (i : Nat) : Fld := ⟨0x4318 + 0x800 * i, 31, 1, .rw, .h, 0, false⟩
/-- Window not applied, R179 -/
def LPn_ECHO_WIN_A23_BAD_HI (i : Nat) : Fld := ⟨0x4318 + 0x800 * i, 30, 1, .ro, .h, 0, true⟩
/-- Window 1 (or 3) first delay, UI -/
def LPn_ECHO_WIN_A23_START_HI (i : Nat) : Fld := ⟨0x4318 + 0x800 * i, 16, 12, .rw, .h, 0, false⟩
/-- Window 0 (or 2) enabled -/
def LPn_ECHO_WIN_A23_EN_LO (i : Nat) : Fld := ⟨0x4318 + 0x800 * i, 15, 1, .rw, .h, 0, false⟩
/-- Window not applied, R179 -/
def LPn_ECHO_WIN_A23_BAD_LO (i : Nat) : Fld := ⟨0x4318 + 0x800 * i, 14, 1, .ro, .h, 0, true⟩
/-- Window 0 (or 2) first delay, UI -/
def LPn_ECHO_WIN_A23_START_LO (i : Nat) : Fld := ⟨0x4318 + 0x800 * i, 0, 12, .rw, .h, 0, false⟩
/-! LPn_ECHO_WIN_B01: 05_full_duplex_copper.md Table 5.17 -/
/-- Window 1 (or 3) enabled -/
def LPn_ECHO_WIN_B01_EN_HI (i : Nat) : Fld := ⟨0x431C + 0x800 * i, 31, 1, .rw, .h, 0, false⟩
/-- Window not applied, R179 -/
def LPn_ECHO_WIN_B01_BAD_HI (i : Nat) : Fld := ⟨0x431C + 0x800 * i, 30, 1, .ro, .h, 0, true⟩
/-- Window 1 (or 3) first delay, UI -/
def LPn_ECHO_WIN_B01_START_HI (i : Nat) : Fld := ⟨0x431C + 0x800 * i, 16, 12, .rw, .h, 0, false⟩
/-- Window 0 (or 2) enabled -/
def LPn_ECHO_WIN_B01_EN_LO (i : Nat) : Fld := ⟨0x431C + 0x800 * i, 15, 1, .rw, .h, 0, false⟩
/-- Window not applied, R179 -/
def LPn_ECHO_WIN_B01_BAD_LO (i : Nat) : Fld := ⟨0x431C + 0x800 * i, 14, 1, .ro, .h, 0, true⟩
/-- Window 0 (or 2) first delay, UI -/
def LPn_ECHO_WIN_B01_START_LO (i : Nat) : Fld := ⟨0x431C + 0x800 * i, 0, 12, .rw, .h, 0, false⟩
/-! LPn_ECHO_WIN_B23: 05_full_duplex_copper.md Table 5.17 -/
/-- Window 1 (or 3) enabled -/
def LPn_ECHO_WIN_B23_EN_HI (i : Nat) : Fld := ⟨0x4320 + 0x800 * i, 31, 1, .rw, .h, 0, false⟩
/-- Window not applied, R179 -/
def LPn_ECHO_WIN_B23_BAD_HI (i : Nat) : Fld := ⟨0x4320 + 0x800 * i, 30, 1, .ro, .h, 0, true⟩
/-- Window 1 (or 3) first delay, UI -/
def LPn_ECHO_WIN_B23_START_HI (i : Nat) : Fld := ⟨0x4320 + 0x800 * i, 16, 12, .rw, .h, 0, false⟩
/-- Window 0 (or 2) enabled -/
def LPn_ECHO_WIN_B23_EN_LO (i : Nat) : Fld := ⟨0x4320 + 0x800 * i, 15, 1, .rw, .h, 0, false⟩
/-- Window not applied, R179 -/
def LPn_ECHO_WIN_B23_BAD_LO (i : Nat) : Fld := ⟨0x4320 + 0x800 * i, 14, 1, .ro, .h, 0, true⟩
/-- Window 0 (or 2) first delay, UI -/
def LPn_ECHO_WIN_B23_START_LO (i : Nat) : Fld := ⟨0x4320 + 0x800 * i, 0, 12, .rw, .h, 0, false⟩
/-! LPn_FD_EVENTS: 05_full_duplex_copper.md Table 5.18 -/
/-- Data mode reached in a full-duplex mode -/
def LPn_FD_EVENTS_FD_UP (i : Nat) : Fld := ⟨0x4324 + 0x800 * i, 7, 1, .w1c, .p, 0, false⟩
/-- Start-up abandoned, R197 -/
def LPn_FD_EVENTS_ABANDON (i : Nat) : Fld := ⟨0x4324 + 0x800 * i, 6, 1, .w1c, .p, 0, false⟩
/-- Fallback taken, R198 -/
def LPn_FD_EVENTS_FALLBACK (i : Nat) : Fld := ⟨0x4324 + 0x800 * i, 5, 1, .w1c, .p, 0, false⟩
/-- Cancellers entered RECOVER -/
def LPn_FD_EVENTS_ECHO_RECOVER (i : Nat) : Fld := ⟨0x4324 + 0x800 * i, 4, 1, .w1c, .p, 0, false⟩
/-- Canceller restoration failed, R205 -/
def LPn_FD_EVENTS_ECHO_RESTORE_LOST (i : Nat) : Fld := ⟨0x4324 + 0x800 * i, 3, 1, .w1c, .p, 0, false⟩
/-- A window failed R179 -/
def LPn_FD_EVENTS_WIN_BAD (i : Nat) : Fld := ⟨0x4324 + 0x800 * i, 2, 1, .w1c, .p, 0, false⟩
/-- Partner announced no full-duplex capability, R199 -/
def LPn_FD_EVENTS_NO_FD_PARTNER (i : Nat) : Fld := ⟨0x4324 + 0x800 * i, 1, 1, .w1c, .p, 0, false⟩
/-- A CABLE_DIAG has completed -/
def LPn_FD_EVENTS_DIAG_DONE (i : Nat) : Fld := ⟨0x4324 + 0x800 * i, 0, 1, .w1c, .p, 0, false⟩
/-! LPn_FD_COUNT: 05_full_duplex_copper.md Table 5.19 -/
/-- Abandoned start-ups, saturating -/
def LPn_FD_COUNT_ABANDONS (i : Nat) : Fld := ⟨0x4328 + 0x800 * i, 24, 8, .ro, .p, 0, false⟩
/-- Entries to full-duplex data mode, saturating -/
def LPn_FD_COUNT_FD_UPS (i : Nat) : Fld := ⟨0x4328 + 0x800 * i, 16, 8, .ro, .p, 0, false⟩
/-- Interpolator wraps, R174, saturating -/
def LPn_FD_COUNT_WRAPS (i : Nat) : Fld := ⟨0x4328 + 0x800 * i, 0, 16, .ro, .p, 0, false⟩
/-! LPn_ECHO_TAP_SEL: 05_full_duplex_copper.md Table 5.20 -/
/-- 0 A, 1 B -/
def LPn_ECHO_TAP_SEL_PAIR (i : Nat) : Fld := ⟨0x432C + 0x800 * i, 13, 1, .rw, .p, 0, false⟩
/-- 0 dense echo (0–767), 1 windows (32 × window + tap), 2 NEXT (0–255), 3 snapshot dense echo -/
def LPn_ECHO_TAP_SEL_SET (i : Nat) : Fld := ⟨0x432C + 0x800 * i, 11, 2, .rw, .p, 0, false⟩
/-- Tap index; out of range, LPn_ECHO_TAP_DATA reads 0 -/
def LPn_ECHO_TAP_SEL_INDEX (i : Nat) : Fld := ⟨0x432C + 0x800 * i, 0, 11, .rw, .p, 0, false⟩
/-! LPn_ECHO_TAP_DATA: 05_full_duplex_copper.md Table 5.21 -/
/-- Selected tap, R177 format -/
def LPn_ECHO_TAP_DATA_VALUE (i : Nat) : Fld := ⟨0x4330 + 0x800 * i, 0, 16, .ro, .h, 0, true⟩
/-! LPn_TX_CTRL: 06_line_transmitter.md Table 6.6 -/
/-- Squelch both pairs, rank 2 of Table 6.2 -/
def LPn_TX_CTRL_SW_SQUELCH (i : Nat) : Fld := ⟨0x4400 + 0x800 * i, 31, 1, .rw, .c, 0, false⟩
/-- On host loss: 0 local fault stream, 1 squelch -/
def LPn_TX_CTRL_SQ_HOST (i : Nat) : Fld := ⟨0x4400 + 0x800 * i, 30, 1, .rw, .c, 0, false⟩
/-- R216 -/
def LPn_TX_CTRL_PRECODE (i : Nat) : Fld := ⟨0x4400 + 0x800 * i, 28, 2, .rw, .c, 0, false⟩
/-- R220; 0x3C is 800 mVppd -/
def LPn_TX_CTRL_SWING (i : Nat) : Fld := ⟨0x4400 + 0x800 * i, 21, 7, .rw, .c, 60, false⟩
/-- R221 -/
def LPn_TX_CTRL_PRESET (i : Nat) : Fld := ⟨0x4400 + 0x800 * i, 18, 3, .rw, .c, 2, false⟩
/-- USER main tap index -/
def LPn_TX_CTRL_MAIN (i : Nat) : Fld := ⟨0x4400 + 0x800 * i, 16, 2, .rw, .c, 2, false⟩
/-- Accept training requests, R222 -/
def LPn_TX_CTRL_TRAIN_ADAPT (i : Nat) : Fld := ⟨0x4400 + 0x800 * i, 15, 1, .rw, .c, 1, false⟩
/-- Accept data-mode requests, R223 -/
def LPn_TX_CTRL_DATA_ADAPT (i : Nat) : Fld := ⟨0x4400 + 0x800 * i, 14, 1, .rw, .c, 1, false⟩
/-- DRV_EN delay 1 µs × 2^value -/
def LPn_TX_CTRL_DRV_DELAY (i : Nat) : Fld := ⟨0x4400 + 0x800 * i, 11, 3, .rw, .c, 3, false⟩
/-! LPn_TX_USER_A: 06_line_transmitter.md Table 6.7 -/
/-- USER T3, T2, T1, T0 from the top byte down; reset is 64 at T2 -/
def LPn_TX_USER_A_TAPS_LO (i : Nat) : Fld := ⟨0x4404 + 0x800 * i, 0, 32, .rw, .c, 4194304, false⟩
/-! LPn_TX_USER_B: 06_line_transmitter.md Table 6.7 -/
/-- USER T3, T2, T1, T0 from the top byte down; reset is 64 at T2 -/
def LPn_TX_USER_B_TAPS_LO (i : Nat) : Fld := ⟨0x4408 + 0x800 * i, 0, 32, .rw, .c, 4194304, false⟩
/-! LPn_TX_USER_A_HI: 06_line_transmitter.md Table 6.8 -/
/-- USER T7, T6, T5, T4 from the top byte down -/
def LPn_TX_USER_A_HI_TAPS_HI (i : Nat) : Fld := ⟨0x440C + 0x800 * i, 0, 32, .rw, .c, 0, false⟩
/-! LPn_TX_USER_B_HI: 06_line_transmitter.md Table 6.8 -/
/-- USER T7, T6, T5, T4 from the top byte down -/
def LPn_TX_USER_B_HI_TAPS_HI (i : Nat) : Fld := ⟨0x4410 + 0x800 * i, 0, 32, .rw, .c, 0, false⟩
/-! LPn_TX_STATUS: 06_line_transmitter.md Table 6.9 -/
/-- 0 OFF, 1 SQUELCH, 2 LF, 3 IDLE, 4 TRAIN, 5 DATA -/
def LPn_TX_STATUS_TXS_A (i : Nat) : Fld := ⟨0x4414 + 0x800 * i, 29, 3, .ro, .p, 0, true⟩
/-- Same encoding -/
def LPn_TX_STATUS_TXS_B (i : Nat) : Fld := ⟨0x4414 + 0x800 * i, 26, 3, .ro, .p, 0, true⟩
/-- Transmit precoding in force -/
def LPn_TX_STATUS_PRECODE_ACT (i : Nat) : Fld := ⟨0x4414 + 0x800 * i, 25, 1, .ro, .p, 0, true⟩
/-- Level of the port's DRV_EN output -/
def LPn_TX_STATUS_DRV_EN (i : Nat) : Fld := ⟨0x4414 + 0x800 * i, 24, 1, .ro, .p, 0, true⟩
/-- R229 host loss in force -/
def LPn_TX_STATUS_HOST_LOST (i : Nat) : Fld := ⟨0x4414 + 0x800 * i, 23, 1, .ro, .p, 0, true⟩
/-- SWING code in force -/
def LPn_TX_STATUS_SWING_USED (i : Nat) : Fld := ⟨0x4414 + 0x800 * i, 16, 7, .ro, .p, 0, true⟩
/-- Requests answered with limit status, saturating -/
def LPn_TX_STATUS_LIMITS (i : Nat) : Fld := ⟨0x4414 + 0x800 * i, 8, 8, .ro, .p, 0, false⟩
/-- TXS of a pair -/
def LPn_TX_STATUS_TXS (i : Nat) : Pair → Fld
  | .a => LPn_TX_STATUS_TXS_A i
  | .b => LPn_TX_STATUS_TXS_B i
/-! LPn_TX_TAP_SEL: 06_line_transmitter.md Table 6.10 -/
/-- 0 A, 1 B -/
def LPn_TX_TAP_SEL_PAIR (i : Nat) : Fld := ⟨0x4418 + 0x800 * i, 4, 1, .rw, .p, 0, false⟩
/-- Tap T0–T7 in use -/
def LPn_TX_TAP_SEL_INDEX (i : Nat) : Fld := ⟨0x4418 + 0x800 * i, 0, 3, .rw, .p, 0, false⟩
/-! LPn_TX_TAP_DATA: 06_line_transmitter.md Table 6.11 -/
/-- Main tap index in use -/
def LPn_TX_TAP_DATA_MAIN_USED (i : Nat) : Fld := ⟨0x441C + 0x800 * i, 8, 2, .ro, .h, 2, true⟩
/-- Selected tap in use, R218 format -/
def LPn_TX_TAP_DATA_VALUE (i : Nat) : Fld := ⟨0x441C + 0x800 * i, 0, 8, .ro, .h, 0, true⟩
/-! LPn_TX_EVENTS: 06_line_transmitter.md Table 6.12 -/
/-- A Quench has acted on the transmitter -/
def LPn_TX_EVENTS_QUENCH (i : Nat) : Fld := ⟨0x4420 + 0x800 * i, 5, 1, .w1c, .p, 0, false⟩
/-- A host loss has occurred -/
def LPn_TX_EVENTS_HOST_LOSS (i : Nat) : Fld := ⟨0x4420 + 0x800 * i, 4, 1, .w1c, .p, 0, false⟩
/-- R226 -/
def LPn_TX_EVENTS_TX_RESTORE_LOST (i : Nat) : Fld := ⟨0x4420 + 0x800 * i, 3, 1, .w1c, .p, 0, false⟩
/-- R223 refusal -/
def LPn_TX_EVENTS_COEF_REFUSED (i : Nat) : Fld := ⟨0x4420 + 0x800 * i, 2, 1, .w1c, .p, 0, false⟩
/-- R221 -/
def LPn_TX_EVENTS_USER_BAD (i : Nat) : Fld := ⟨0x4420 + 0x800 * i, 1, 1, .w1c, .p, 0, false⟩
/-- A request was answered with limit status -/
def LPn_TX_EVENTS_LIMIT (i : Nat) : Fld := ⟨0x4420 + 0x800 * i, 0, 1, .w1c, .p, 0, false⟩
/-! LPn_FEC_CTRL: 07_concatenated_code.md Table 7.7 -/
/-- Iteration limit 1–4; 0 taken as 3; 5–7 taken as 4 -/
def LPn_FEC_CTRL_ITER_MAX (i : Nat) : Fld := ⟨0x4500 + 0x800 * i, 29, 3, .rw, .c, 3, false⟩
/-- R256 -/
def LPn_FEC_CTRL_EARLY_STOP (i : Nat) : Fld := ⟨0x4500 + 0x800 * i, 28, 1, .rw, .c, 1, false⟩
/-- Receive monitor decoder, R240 -/
def LPn_FEC_CTRL_RS_MON_RX (i : Nat) : Fld := ⟨0x4500 + 0x800 * i, 27, 1, .rw, .c, 1, false⟩
/-- Transmit monitor decoder, R240 -/
def LPn_FEC_CTRL_RS_MON_TX (i : Nat) : Fld := ⟨0x4500 + 0x800 * i, 26, 1, .rw, .c, 1, false⟩
/-- Erasure decoding, R262 -/
def LPn_FEC_CTRL_ERASE_EN (i : Nat) : Fld := ⟨0x4500 + 0x800 * i, 25, 1, .rw, .c, 1, false⟩
/-- Flag threshold, units of 0.5 LLR, R261 -/
def LPn_FEC_CTRL_ERASE_THR (i : Nat) : Fld := ⟨0x4500 + 0x800 * i, 21, 4, .rw, .c, 4, false⟩
/-- Most flags used; 0 as ERASE_EN = 0; above 30 taken as 30 -/
def LPn_FEC_CTRL_ERASE_MAX (i : Nat) : Fld := ⟨0x4500 + 0x800 * i, 16, 5, .rw, .c, 16, false⟩
/-- R259 -/
def LPn_FEC_CTRL_PROP_GUARD (i : Nat) : Fld := ⟨0x4500 + 0x800 * i, 15, 1, .rw, .c, 1, false⟩
/-! LPn_FEC_STATUS: 07_concatenated_code.md Table 7.8 -/
/-- Inner code in use -/
def LPn_FEC_STATUS_INNER_ON (i : Nat) : Fld := ⟨0x4504 + 0x800 * i, 31, 1, .ro, .p, 0, true⟩
/-- Receive direction terminates -/
def LPn_FEC_STATUS_TERM_RX (i : Nat) : Fld := ⟨0x4504 + 0x800 * i, 30, 1, .ro, .p, 0, true⟩
/-- Transmit direction terminates -/
def LPn_FEC_STATUS_TERM_TX (i : Nat) : Fld := ⟨0x4504 + 0x800 * i, 29, 1, .ro, .p, 0, true⟩
/-- Iteration limit in force, R255; 0 when the inner code is off -/
def LPn_FEC_STATUS_ITER_LIMIT (i : Nat) : Fld := ⟨0x4504 + 0x800 * i, 26, 3, .ro, .p, 0, true⟩
/-- R251 -/
def LPn_FEC_STATUS_FRAME_LOCK (i : Nat) : Fld := ⟨0x4504 + 0x800 * i, 25, 1, .ro, .p, 0, true⟩
/-- R268 -/
def LPn_FEC_STATUS_POST_BER (i : Nat) : Fld := ⟨0x4504 + 0x800 * i, 0, 16, .ro, .p, 0, true⟩
/-! LPn_FEC_EVENTS: 07_concatenated_code.md Table 7.9 -/
/-- R251 -/
def LPn_FEC_EVENTS_FRAME_LOST (i : Nat) : Fld := ⟨0x4508 + 0x800 * i, 7, 1, .w1c, .p, 0, false⟩
/-- R259 -/
def LPn_FEC_EVENTS_PROP_RESET (i : Nat) : Fld := ⟨0x4508 + 0x800 * i, 6, 1, .w1c, .p, 0, false⟩
/-- An inner block was uncorrectable -/
def LPn_FEC_EVENTS_INNER_UNCORR (i : Nat) : Fld := ⟨0x4508 + 0x800 * i, 5, 1, .w1c, .p, 0, false⟩
/-- A marked codeword arrived from the host -/
def LPn_FEC_EVENTS_MARKED_TX_IN (i : Nat) : Fld := ⟨0x4508 + 0x800 * i, 4, 1, .w1c, .p, 0, false⟩
/-- A marked codeword arrived from the line -/
def LPn_FEC_EVENTS_MARKED_RX_IN (i : Nat) : Fld := ⟨0x4508 + 0x800 * i, 3, 1, .w1c, .p, 0, false⟩
/-- A transmit codeword was uncorrectable -/
def LPn_FEC_EVENTS_UNCORR_TX (i : Nat) : Fld := ⟨0x4508 + 0x800 * i, 2, 1, .w1c, .p, 0, false⟩
/-- A receive codeword was uncorrectable -/
def LPn_FEC_EVENTS_UNCORR_RX (i : Nat) : Fld := ⟨0x4508 + 0x800 * i, 1, 1, .w1c, .p, 0, false⟩
/-- A codeword entered bin 15 -/
def LPn_FEC_EVENTS_BIN15 (i : Nat) : Fld := ⟨0x4508 + 0x800 * i, 0, 1, .w1c, .p, 0, false⟩
/-! LPn_FEC_SEL: 07_concatenated_code.md Table 7.10 -/
/-- 1 clears all FEC counters of the port, R267 -/
def LPn_FEC_SEL_CLEAR (i : Nat) : Fld := ⟨0x450C + 0x800 * i, 31, 1, .wo, .p, 0, false⟩
/-- Counter index, Table 7.6 -/
def LPn_FEC_SEL_INDEX (i : Nat) : Fld := ⟨0x450C + 0x800 * i, 0, 6, .rw, .p, 0, false⟩
/-! LPn_FEC_DATA_LO: 07_concatenated_code.md Table 7.11 -/
/-- Selected counter, bits 31:0; reading latches COUNT_HI -/
def LPn_FEC_DATA_LO_COUNT_LO (i : Nat) : Fld := ⟨0x4510 + 0x800 * i, 0, 32, .ro, .p, 0, false⟩
/-! LPn_FEC_DATA_HI: 07_concatenated_code.md Table 7.12 -/
/-- Selected counter, bits 63:32, as latched -/
def LPn_FEC_DATA_HI_COUNT_HI (i : Nat) : Fld := ⟨0x4514 + 0x800 * i, 0, 32, .ro, .p, 0, false⟩
/-! LPn_ACQ_CTRL: 08_acquisition_and_negotiation.md Table 8.15 -/
/-- 0 Narrow, 1 Wide; 2–3 taken as 0 -/
def LPn_ACQ_CTRL_PROFILE (i : Nat) : Fld := ⟨0x4600 + 0x800 * i, 30, 2, .rw, .c, 0, false⟩
/-- Class ID, R273 -/
def LPn_ACQ_CTRL_NARROW_CLASS (i : Nat) : Fld := ⟨0x4600 + 0x800 * i, 26, 4, .rw, .c, 0, false⟩
/-- Narrow classes 3–5 send Skellia frames, Table 8.2 -/
def LPn_ACQ_CTRL_NARROW_SK (i : Nat) : Fld := ⟨0x4600 + 0x800 * i, 25, 1, .rw, .c, 0, false⟩
/-- Send the Skellia next pages, R287 -/
def LPn_ACQ_CTRL_EXT_EN (i : Nat) : Fld := ⟨0x4600 + 0x800 * i, 24, 1, .rw, .c, 1, false⟩
/-- Capability page FD_PREF -/
def LPn_ACQ_CTRL_FD_PREF (i : Nat) : Fld := ⟨0x4600 + 0x800 * i, 23, 1, .rw, .c, 1, false⟩
/-- Announce and use the data sub-channel -/
def LPn_ACQ_CTRL_SUBCH_EN (i : Nat) : Fld := ⟨0x4600 + 0x800 * i, 22, 1, .rw, .c, 1, false⟩
/-- Wide classes 0–5, R274 -/
def LPn_ACQ_CTRL_CLASS_EN (i : Nat) : Fld := ⟨0x4600 + 0x800 * i, 16, 6, .rw, .c, 63, false⟩
/-- Hit threshold, 0.25 dB, R277 -/
def LPn_ACQ_CTRL_HIT_THR (i : Nat) : Fld := ⟨0x4600 + 0x800 * i, 8, 8, .rw, .c, 48, false⟩
/-- R293; 3 taken as 0 -/
def LPn_ACQ_CTRL_PRECODE_REQ (i : Nat) : Fld := ⟨0x4600 + 0x800 * i, 6, 2, .rw, .c, 0, false⟩
/-- R294 -/
def LPn_ACQ_CTRL_TX_TUNE (i : Nat) : Fld := ⟨0x4600 + 0x800 * i, 5, 1, .rw, .c, 1, false⟩
/-- R309 -/
def LPn_ACQ_CTRL_SNR_SHARE (i : Nat) : Fld := ⟨0x4600 + 0x800 * i, 4, 1, .rw, .c, 1, false⟩
/-- Announce full-duplex capability, R288 -/
def LPn_ACQ_CTRL_FD_EN (i : Nat) : Fld := ⟨0x4600 + 0x800 * i, 3, 1, .rw, .c, 1, false⟩
/-- 100 ms × (value + 1), R299 -/
def LPn_ACQ_CTRL_TRAIN_TIMEOUT (i : Nat) : Fld := ⟨0x4600 + 0x800 * i, 0, 3, .rw, .c, 4, false⟩
/-! LPn_ACQ_STATUS: 08_acquisition_and_negotiation.md Table 8.16 -/
/-- Table 8.3 code -/
def LPn_ACQ_STATUS_ACQ_STATE (i : Nat) : Fld := ⟨0x4604 + 0x800 * i, 28, 4, .ro, .p, 0, true⟩
/-- Candidate or confirmed class -/
def LPn_ACQ_STATUS_CAND_CLASS (i : Nat) : Fld := ⟨0x4604 + 0x800 * i, 24, 4, .ro, .p, 0, true⟩
/-- Mode code, Table 8.12 -/
def LPn_ACQ_STATUS_RESOLVED (i : Nat) : Fld := ⟨0x4604 + 0x800 * i, 20, 4, .ro, .p, 0, true⟩
/-- Partner is a DX-3208 -/
def LPn_ACQ_STATUS_PARTNER_SK (i : Nat) : Fld := ⟨0x4604 + 0x800 * i, 19, 1, .ro, .p, 0, true⟩
/-- Sub-channel running, R305 -/
def LPn_ACQ_STATUS_SUBCH_ON (i : Nat) : Fld := ⟨0x4604 + 0x800 * i, 18, 1, .ro, .p, 0, true⟩
/-- Resolved by parallel detection -/
def LPn_ACQ_STATUS_PARALLEL (i : Nat) : Fld := ⟨0x4604 + 0x800 * i, 17, 1, .ro, .p, 0, true⟩
/-- 0 IEEE training, 1 Skellia training -/
def LPn_ACQ_STATUS_TRAIN_SK (i : Nat) : Fld := ⟨0x4604 + 0x800 * i, 16, 1, .ro, .p, 0, true⟩
/-- Candidate metric, 0.25 dB -/
def LPn_ACQ_STATUS_CAND_METRIC (i : Nat) : Fld := ⟨0x4604 + 0x800 * i, 8, 8, .ro, .p, 0, true⟩
/-- Markers found in the current confirmation -/
def LPn_ACQ_STATUS_MARKERS (i : Nat) : Fld := ⟨0x4604 + 0x800 * i, 0, 2, .ro, .p, 0, true⟩
/-! LPn_AN_CTRL: 08_acquisition_and_negotiation.md Table 8.17 -/
/-- Base page bits F3–F0 -/
def LPn_AN_CTRL_FEC_NRZ (i : Nat) : Fld := ⟨0x4608 + 0x800 * i, 28, 4, .rw, .c, 0, false⟩
/-- Base page bits C2–C0 -/
def LPn_AN_CTRL_PAUSE (i : Nat) : Fld := ⟨0x4608 + 0x800 * i, 25, 3, .rw, .c, 0, false⟩
/-! LPn_AN_PARTNER: 08_acquisition_and_negotiation.md Table 8.18 -/
/-- Partner's PART -/
def LPn_AN_PARTNER_PART (i : Nat) : Fld := ⟨0x460C + 0x800 * i, 16, 16, .ro, .p, 0, true⟩
/-- Partner's major revision -/
def LPn_AN_PARTNER_REV_MAJ (i : Nat) : Fld := ⟨0x460C + 0x800 * i, 12, 4, .ro, .p, 0, true⟩
/-- Partner's minor revision -/
def LPn_AN_PARTNER_REV_MIN (i : Nat) : Fld := ⟨0x460C + 0x800 * i, 8, 4, .ro, .p, 0, true⟩
/-- Capability page received -/
def LPn_AN_PARTNER_PAGE (i : Nat) : Fld := ⟨0x460C + 0x800 * i, 7, 1, .ro, .p, 0, true⟩
/-- Partner's D0 -/
def LPn_AN_PARTNER_FD200 (i : Nat) : Fld := ⟨0x460C + 0x800 * i, 6, 1, .ro, .p, 0, true⟩
/-- Partner's D1 -/
def LPn_AN_PARTNER_FD100 (i : Nat) : Fld := ⟨0x460C + 0x800 * i, 5, 1, .ro, .p, 0, true⟩
/-- Partner's D2 -/
def LPn_AN_PARTNER_FD_PREF (i : Nat) : Fld := ⟨0x460C + 0x800 * i, 4, 1, .ro, .p, 0, true⟩
/-- Partner's D3 -/
def LPn_AN_PARTNER_EXT (i : Nat) : Fld := ⟨0x460C + 0x800 * i, 3, 1, .ro, .p, 0, true⟩
/-- Partner's D4 -/
def LPn_AN_PARTNER_SUBCH (i : Nat) : Fld := ⟨0x460C + 0x800 * i, 2, 1, .ro, .p, 0, true⟩
/-- Partner's D5 -/
def LPn_AN_PARTNER_LULL_SK (i : Nat) : Fld := ⟨0x460C + 0x800 * i, 1, 1, .ro, .p, 0, true⟩
/-! LPn_LMC_REMOTE: 08_acquisition_and_negotiation.md Table 8.19 -/
/-- Last REMOTE_SNR byte 0 -/
def LPn_LMC_REMOTE_REM_SNR_A (i : Nat) : Fld := ⟨0x4610 + 0x800 * i, 24, 8, .ro, .p, 0, true⟩
/-- Last REMOTE_SNR byte 1 -/
def LPn_LMC_REMOTE_REM_SNR_B (i : Nat) : Fld := ⟨0x4610 + 0x800 * i, 16, 8, .ro, .p, 0, true⟩
/-- Last REMOTE_SNR bytes 2–3 -/
def LPn_LMC_REMOTE_REM_BER (i : Nat) : Fld := ⟨0x4610 + 0x800 * i, 0, 16, .ro, .p, 0, true⟩
/-- REM_SNR of a pair -/
def LPn_LMC_REMOTE_REM_SNR (i : Nat) : Pair → Fld
  | .a => LPn_LMC_REMOTE_REM_SNR_A i
  | .b => LPn_LMC_REMOTE_REM_SNR_B i
/-! LPn_ACQ_EVENTS: 08_acquisition_and_negotiation.md Table 8.20 -/
/-- EVENT_NOTICE received, R309 -/
def LPn_ACQ_EVENTS_NOTICE (i : Nat) : Fld := ⟨0x4614 + 0x800 * i, 10, 1, .w1c, .p, 0, false⟩
/-- Reserved type received, R307 -/
def LPn_ACQ_EVENTS_LMC_UNKNOWN (i : Nat) : Fld := ⟨0x4614 + 0x800 * i, 9, 1, .w1c, .p, 0, false⟩
/-- User message discarded, R313 -/
def LPn_ACQ_EVENTS_LMC_DROP (i : Nat) : Fld := ⟨0x4614 + 0x800 * i, 8, 1, .w1c, .p, 0, false⟩
/-- Frame discarded, R303 -/
def LPn_ACQ_EVENTS_LMC_CRC (i : Nat) : Fld := ⟨0x4614 + 0x800 * i, 7, 1, .w1c, .p, 0, false⟩
/-- R297 -/
def LPn_ACQ_EVENTS_INNER_MISMATCH (i : Nat) : Fld := ⟨0x4614 + 0x800 * i, 6, 1, .w1c, .p, 0, false⟩
/-- R285 -/
def LPn_ACQ_EVENTS_LOCK_LOSS (i : Nat) : Fld := ⟨0x4614 + 0x800 * i, 5, 1, .w1c, .p, 0, false⟩
/-- Training failed or timed out -/
def LPn_ACQ_EVENTS_TRAIN_FAIL (i : Nat) : Fld := ⟨0x4614 + 0x800 * i, 4, 1, .w1c, .p, 0, false⟩
/-- R291 -/
def LPn_ACQ_EVENTS_AN_FAIL (i : Nat) : Fld := ⟨0x4614 + 0x800 * i, 3, 1, .w1c, .p, 0, false⟩
/-- R281 -/
def LPn_ACQ_EVENTS_PREEMPTED (i : Nat) : Fld := ⟨0x4614 + 0x800 * i, 2, 1, .w1c, .p, 0, false⟩
/-- R279 -/
def LPn_ACQ_EVENTS_PREEMPT_HIT (i : Nat) : Fld := ⟨0x4614 + 0x800 * i, 1, 1, .w1c, .p, 0, false⟩
/-- R280 -/
def LPn_ACQ_EVENTS_FALSE_LOCK (i : Nat) : Fld := ⟨0x4614 + 0x800 * i, 0, 1, .w1c, .p, 0, false⟩
/-! LPn_ACQ_COUNT: 08_acquisition_and_negotiation.md Table 8.21 -/
/-- Saturating -/
def LPn_ACQ_COUNT_FALSE_LOCKS (i : Nat) : Fld := ⟨0x4618 + 0x800 * i, 24, 8, .ro, .p, 0, false⟩
/-- Saturating -/
def LPn_ACQ_COUNT_PREEMPT_HITS (i : Nat) : Fld := ⟨0x4618 + 0x800 * i, 16, 8, .ro, .p, 0, false⟩
/-- Saturating -/
def LPn_ACQ_COUNT_PREEMPTS (i : Nat) : Fld := ⟨0x4618 + 0x800 * i, 12, 4, .ro, .p, 0, false⟩
/-- Saturating -/
def LPn_ACQ_COUNT_AN_FAILS (i : Nat) : Fld := ⟨0x4618 + 0x800 * i, 8, 4, .ro, .p, 0, false⟩
/-- Saturating -/
def LPn_ACQ_COUNT_TRAIN_FAILS (i : Nat) : Fld := ⟨0x4618 + 0x800 * i, 4, 4, .ro, .p, 0, false⟩
/-- Saturating -/
def LPn_ACQ_COUNT_LOCK_LOSSES (i : Nat) : Fld := ⟨0x4618 + 0x800 * i, 0, 4, .ro, .p, 0, false⟩
/-! LPn_LMC_COUNT: 08_acquisition_and_negotiation.md Table 8.22 -/
/-- Saturating -/
def LPn_LMC_COUNT_CRC_ERRS (i : Nat) : Fld := ⟨0x461C + 0x800 * i, 16, 16, .ro, .p, 0, false⟩
/-- Saturating -/
def LPn_LMC_COUNT_UNKNOWN (i : Nat) : Fld := ⟨0x461C + 0x800 * i, 8, 8, .ro, .p, 0, false⟩
/-- Saturating -/
def LPn_LMC_COUNT_RX_DROPS (i : Nat) : Fld := ⟨0x461C + 0x800 * i, 0, 8, .ro, .p, 0, false⟩
/-! LPn_REMOTE_EVENT: 08_acquisition_and_negotiation.md Table 8.23 -/
/-- Last EVENT_NOTICE byte 0 -/
def LPn_REMOTE_EVENT_CODE (i : Nat) : Fld := ⟨0x4620 + 0x800 * i, 24, 8, .ro, .p, 0, false⟩
/-- Last EVENT_NOTICE byte 1 -/
def LPn_REMOTE_EVENT_SEVERITY (i : Nat) : Fld := ⟨0x4620 + 0x800 * i, 22, 2, .ro, .p, 0, false⟩
/-! LPn_LINK_CTRL: 09_link_states_and_lull.md Table 9.8 -/
/-- Skellia Lull allowed; also capability LULL_SK -/
def LPn_LINK_CTRL_LULL_EN (i : Nat) : Fld := ⟨0x4000 + 0x800 * i, 31, 1, .rw, .c, 1, false⟩
/-- R345 -/
def LPn_LINK_CTRL_LPI_EN (i : Nat) : Fld := ⟨0x4000 + 0x800 * i, 30, 1, .rw, .c, 0, false⟩
/-- R321 -/
def LPn_LINK_CTRL_FLAP_HOLD (i : Nat) : Fld := ⟨0x4000 + 0x800 * i, 29, 1, .rw, .c, 0, false⟩
/-- Losses in 60 s -/
def LPn_LINK_CTRL_FLAP_LIMIT (i : Nat) : Fld := ⟨0x4000 + 0x800 * i, 24, 5, .rw, .c, 10, false⟩
/-- 100 µs × value; 0 taken as 1 -/
def LPn_LINK_CTRL_IDLE_TIME (i : Nat) : Fld := ⟨0x4000 + 0x800 * i, 16, 8, .rw, .c, 10, false⟩
/-- Offered in LULL_RESP; below 2 taken as 2 -/
def LPn_LINK_CTRL_ENTER_AT (i : Nat) : Fld := ⟨0x4000 + 0x800 * i, 12, 4, .rw, .c, 4, false⟩
/-! LPn_LINK_STATUS: 09_link_states_and_lull.md Table 9.9 -/
/-- Table 9.1 -/
def LPn_LINK_STATUS_LINK_STATE (i : Nat) : Fld := ⟨0x4004 + 0x800 * i, 29, 3, .ro, .p, 0, true⟩
/-- R317 -/
def LPn_LINK_STATUS_LOCAL_FAULT (i : Nat) : Fld := ⟨0x4004 + 0x800 * i, 28, 1, .ro, .p, 0, true⟩
/-- R317 -/
def LPn_LINK_STATUS_REMOTE_FAULT (i : Nat) : Fld := ⟨0x4004 + 0x800 * i, 27, 1, .ro, .p, 0, true⟩
/-- 0 Skellia, 1 IEEE -/
def LPn_LINK_STATUS_LULL_KIND (i : Nat) : Fld := ⟨0x4004 + 0x800 * i, 26, 1, .ro, .p, 0, true⟩
/-- Host stream now: 0 busy, 1 LPI-idle, 2 plain-idle -/
def LPn_LINK_STATUS_IDLE_KIND (i : Nat) : Fld := ⟨0x4004 + 0x800 * i, 24, 2, .ro, .p, 0, true⟩
/-- Table 9.2 -/
def LPn_LINK_STATUS_LAST_DOWN (i : Nat) : Fld := ⟨0x4004 + 0x800 * i, 20, 4, .ro, .p, 0, false⟩
/-- 0 none, 1 Quench, 2 flap -/
def LPn_LINK_STATUS_FAULT_CAUSE (i : Nat) : Fld := ⟨0x4004 + 0x800 * i, 18, 2, .ro, .p, 0, true⟩
/-- R333 -/
def LPn_LINK_STATUS_ELIGIBLE (i : Nat) : Fld := ⟨0x4004 + 0x800 * i, 17, 1, .ro, .p, 0, true⟩
/-! LPn_LINK_EVENTS: 09_link_states_and_lull.md Table 9.10 -/
/-- FAULT entered -/
def LPn_LINK_EVENTS_FAULT (i : Nat) : Fld := ⟨0x4008 + 0x800 * i, 7, 1, .w1c, .p, 0, false⟩
/-- R341 -/
def LPn_LINK_EVENTS_WAKE_FAIL (i : Nat) : Fld := ⟨0x4008 + 0x800 * i, 6, 1, .w1c, .p, 0, false⟩
/-- Down reason 6 -/
def LPn_LINK_EVENTS_LULL_LOST (i : Nat) : Fld := ⟨0x4008 + 0x800 * i, 5, 1, .w1c, .p, 0, false⟩
/-- R336 -/
def LPn_LINK_EVENTS_LULL_REFUSED (i : Nat) : Fld := ⟨0x4008 + 0x800 * i, 4, 1, .w1c, .p, 0, false⟩
/-- R320 -/
def LPn_LINK_EVENTS_CHANNEL_CHANGE (i : Nat) : Fld := ⟨0x4008 + 0x800 * i, 3, 1, .w1c, .p, 0, false⟩
/-- REMOTE_FAULT has been set -/
def LPn_LINK_EVENTS_REMOTE_FAULT (i : Nat) : Fld := ⟨0x4008 + 0x800 * i, 2, 1, .w1c, .p, 0, false⟩
/-- R318 -/
def LPn_LINK_EVENTS_LINK_DOWN (i : Nat) : Fld := ⟨0x4008 + 0x800 * i, 1, 1, .w1c, .p, 0, false⟩
/-- UP entered from outside LULL -/
def LPn_LINK_EVENTS_LINK_UP (i : Nat) : Fld := ⟨0x4008 + 0x800 * i, 0, 1, .w1c, .p, 0, false⟩
/-! LPn_LINK_COUNT: 09_link_states_and_lull.md Table 9.11 -/
/-- Saturating -/
def LPn_LINK_COUNT_LINK_DOWNS (i : Nat) : Fld := ⟨0x400C + 0x800 * i, 16, 16, .ro, .p, 0, false⟩
/-- Saturating -/
def LPn_LINK_COUNT_CHANNEL_CHANGES (i : Nat) : Fld := ⟨0x400C + 0x800 * i, 8, 8, .ro, .p, 0, false⟩
/-- Saturating -/
def LPn_LINK_COUNT_LULL_REFUSALS (i : Nat) : Fld := ⟨0x400C + 0x800 * i, 0, 8, .ro, .p, 0, false⟩
/-! LPn_LULL_COUNT: 09_link_states_and_lull.md Table 9.12 -/
/-- Saturating -/
def LPn_LULL_COUNT_LULL_ENTRIES (i : Nat) : Fld := ⟨0x4010 + 0x800 * i, 16, 16, .ro, .p, 0, false⟩
/-- Saturating -/
def LPn_LULL_COUNT_WAKE_RETRIES (i : Nat) : Fld := ⟨0x4010 + 0x800 * i, 8, 8, .ro, .p, 0, false⟩
/-- Saturating -/
def LPn_LULL_COUNT_WAKE_FAILS (i : Nat) : Fld := ⟨0x4010 + 0x800 * i, 0, 8, .ro, .p, 0, false⟩
/-! LPn_PORT_CFG: 09_link_states_and_lull.md Table 9.13 -/
/-- Stored by PORT_CONFIG -/
def LPn_PORT_CFG_MODE (i : Nat) : Fld := ⟨0x4014 + 0x800 * i, 28, 4, .ro, .c, 0, false⟩
/-- Stored lane count -/
def LPn_PORT_CFG_LANES (i : Nat) : Fld := ⟨0x4014 + 0x800 * i, 25, 3, .ro, .c, 0, false⟩
/-- Stored OPT-200 inner code setting -/
def LPn_PORT_CFG_INNER (i : Nat) : Fld := ⟨0x4014 + 0x800 * i, 24, 1, .ro, .c, 0, false⟩
/-- Stored receive termination -/
def LPn_PORT_CFG_TERM_RX (i : Nat) : Fld := ⟨0x4014 + 0x800 * i, 23, 1, .ro, .c, 0, false⟩
/-- Stored transmit termination -/
def LPn_PORT_CFG_TERM_TX (i : Nat) : Fld := ⟨0x4014 + 0x800 * i, 22, 1, .ro, .c, 0, false⟩
/-! HLn_CTRL: 10_host_lanes.md Table 10.12 -/
/-- R348 -/
def HLn_CTRL_POL_TX (i : Nat) : Fld := ⟨0x8000 + 0x100 * i, 31, 1, .rw, .s, 0, false⟩
/-- R348 -/
def HLn_CTRL_POL_RX (i : Nat) : Fld := ⟨0x8000 + 0x100 * i, 30, 1, .rw, .s, 0, false⟩
/-- R348 -/
def HLn_CTRL_PRECODE_TX (i : Nat) : Fld := ⟨0x8000 + 0x100 * i, 29, 1, .rw, .s, 0, false⟩
/-- R348 -/
def HLn_CTRL_PRECODE_RX (i : Nat) : Fld := ⟨0x8000 + 0x100 * i, 28, 1, .rw, .s, 0, false⟩
/-- Table 10.2 -/
def HLn_CTRL_FAULT_TX (i : Nat) : Fld := ⟨0x8000 + 0x100 * i, 27, 1, .rw, .s, 0, false⟩
/-- R360 -/
def HLn_CTRL_CTLE_MAN (i : Nat) : Fld := ⟨0x8000 + 0x100 * i, 26, 1, .rw, .s, 0, false⟩
/-- R360 -/
def HLn_CTRL_CTLE_CODE (i : Nat) : Fld := ⟨0x8000 + 0x100 * i, 22, 4, .rw, .s, 8, false⟩
/-- R362 -/
def HLn_CTRL_RX_FREEZE (i : Nat) : Fld := ⟨0x8000 + 0x100 * i, 21, 1, .rw, .s, 0, false⟩
/-- R363; 0x10 is 800 mVppd -/
def HLn_CTRL_SWING (i : Nat) : Fld := ⟨0x8000 + 0x100 * i, 16, 5, .rw, .s, 16, false⟩
/-! HLn_TX_FFE: 10_host_lanes.md Table 10.13 -/
/-- R363 -/
def HLn_TX_FFE_PRE3 (i : Nat) : Fld := ⟨0x8004 + 0x100 * i, 24, 8, .rw, .s, 0, false⟩
/-- R363 -/
def HLn_TX_FFE_PRE2 (i : Nat) : Fld := ⟨0x8004 + 0x100 * i, 16, 8, .rw, .s, 0, false⟩
/-- R363; −4 -/
def HLn_TX_FFE_PRE1 (i : Nat) : Fld := ⟨0x8004 + 0x100 * i, 8, 8, .rw, .s, 252, false⟩
/-- R363; 56 -/
def HLn_TX_FFE_MAIN (i : Nat) : Fld := ⟨0x8004 + 0x100 * i, 0, 8, .rw, .s, 56, false⟩
/-! HLn_TX_POST: 10_host_lanes.md Table 10.14 -/
/-- Last register write gave an invalid set; set in use unchanged -/
def HLn_TX_POST_TAP_BAD (i : Nat) : Fld := ⟨0x8008 + 0x100 * i, 8, 1, .ro, .s, 0, true⟩
/-- R363; −4 -/
def HLn_TX_POST_POST1 (i : Nat) : Fld := ⟨0x8008 + 0x100 * i, 0, 8, .rw, .s, 252, false⟩
/-! HLn_STATUS: 10_host_lanes.md Table 10.15 -/
/-- Table 10.2 -/
def HLn_STATUS_TXS (i : Nat) : Fld := ⟨0x800C + 0x100 * i, 29, 3, .ro, .c, 0, true⟩
/-- Table 10.3 -/
def HLn_STATUS_RXS (i : Nat) : Fld := ⟨0x800C + 0x100 * i, 26, 3, .ro, .c, 0, true⟩
/-- Table 10.1 -/
def HLn_STATUS_RATE (i : Nat) : Fld := ⟨0x800C + 0x100 * i, 23, 3, .ro, .c, 0, true⟩
/-- Group aligned, R358 -/
def HLn_STATUS_ALIGNED (i : Nat) : Fld := ⟨0x800C + 0x100 * i, 22, 1, .ro, .c, 0, true⟩
/-- Lane carrying PCS lane 0, R357 -/
def HLn_STATUS_PCS0_LANE (i : Nat) : Fld := ⟨0x800C + 0x100 * i, 18, 4, .ro, .c, 0, true⟩
/-- CTLE code in use -/
def HLn_STATUS_CTLE_USED (i : Nat) : Fld := ⟨0x800C + 0x100 * i, 14, 4, .ro, .c, 0, true⟩
/-- R361 -/
def HLn_STATUS_RX_SNR (i : Nat) : Fld := ⟨0x800C + 0x100 * i, 6, 8, .ro, .c, 0, true⟩
/-! HLn_MAP: 10_host_lanes.md Table 10.16 -/
/-- In a group; reset as R32 -/
def HLn_MAP_VALID (i : Nat) : Fld := ⟨0x8010 + 0x100 * i, 31, 1, .ro, .s, 1, true⟩
/-- Owning port; reset as R32 -/
def HLn_MAP_PORT (i : Nat) : Fld := ⟨0x8010 + 0x100 * i, 28, 3, .ro, .s, i / 2, true⟩
/-- Logical position; reset as R32 -/
def HLn_MAP_POS (i : Nat) : Fld := ⟨0x8010 + 0x100 * i, 26, 2, .ro, .s, i % 2, true⟩
/-- R370 -/
def HLn_MAP_SLIP_RX (i : Nat) : Fld := ⟨0x8010 + 0x100 * i, 8, 8, .ro, .s, 0, true⟩
/-- R370 -/
def HLn_MAP_SLIP_TX (i : Nat) : Fld := ⟨0x8010 + 0x100 * i, 0, 8, .ro, .s, 0, true⟩
/-! HLn_EVENTS: 10_host_lanes.md Table 10.17 -/
/-- R356 -/
def HLn_EVENTS_TEST_ENDED (i : Nat) : Fld := ⟨0x8014 + 0x100 * i, 6, 1, .w1c, .c, 0, false⟩
/-- R369 -/
def HLn_EVENTS_TEST_ACTIVE (i : Nat) : Fld := ⟨0x8014 + 0x100 * i, 5, 1, .w1c, .c, 0, false⟩
/-- R362 -/
def HLn_EVENTS_RX_OVERRIDE (i : Nat) : Fld := ⟨0x8014 + 0x100 * i, 4, 1, .w1c, .c, 0, false⟩
/-- R355 -/
def HLn_EVENTS_RATE_CHANGE (i : Nat) : Fld := ⟨0x8014 + 0x100 * i, 3, 1, .w1c, .c, 0, false⟩
/-- R358 -/
def HLn_EVENTS_AM_LOST (i : Nat) : Fld := ⟨0x8014 + 0x100 * i, 2, 1, .w1c, .c, 0, false⟩
/-- Receiver left LOCKED or ALIGNED other than by EI -/
def HLn_EVENTS_CDR_LOST (i : Nat) : Fld := ⟨0x8014 + 0x100 * i, 1, 1, .w1c, .c, 0, false⟩
/-- Receiver left EI -/
def HLn_EVENTS_EI_EXIT (i : Nat) : Fld := ⟨0x8014 + 0x100 * i, 0, 1, .w1c, .c, 0, false⟩
/-! HLn_COUNT: 10_host_lanes.md Table 10.18 -/
/-- Saturating -/
def HLn_COUNT_EI_EXITS (i : Nat) : Fld := ⟨0x8018 + 0x100 * i, 16, 16, .ro, .c, 0, false⟩
/-- Saturating -/
def HLn_COUNT_CDR_LOSSES (i : Nat) : Fld := ⟨0x8018 + 0x100 * i, 8, 8, .ro, .c, 0, false⟩
/-- Saturating -/
def HLn_COUNT_AM_LOSSES (i : Nat) : Fld := ⟨0x8018 + 0x100 * i, 0, 8, .ro, .c, 0, false⟩
/-! HLn_TEST_STATUS: 10_host_lanes.md Table 10.19 -/
/-- Generator active -/
def HLn_TEST_STATUS_GEN_ON (i : Nat) : Fld := ⟨0x801C + 0x100 * i, 31, 1, .ro, .c, 0, true⟩
/-- Checker active -/
def HLn_TEST_STATUS_CHK_ON (i : Nat) : Fld := ⟨0x801C + 0x100 * i, 30, 1, .ro, .c, 0, true⟩
/-- Checker locked, R367 -/
def HLn_TEST_STATUS_LOCK (i : Nat) : Fld := ⟨0x801C + 0x100 * i, 29, 1, .ro, .c, 0, true⟩
/-- Table 10.9 -/
def HLn_TEST_STATUS_PATTERN (i : Nat) : Fld := ⟨0x801C + 0x100 * i, 26, 3, .ro, .c, 0, true⟩
/-- Table 10.8 -/
def HLn_TEST_STATUS_LOOP (i : Nat) : Fld := ⟨0x801C + 0x100 * i, 24, 2, .ro, .c, 0, true⟩
/-- Table 10.8 -/
def HLn_TEST_STATUS_TX_QUIET (i : Nat) : Fld := ⟨0x801C + 0x100 * i, 23, 1, .ro, .c, 0, true⟩
/-- Saturating -/
def HLn_TEST_STATUS_LOCK_LOSSES (i : Nat) : Fld := ⟨0x801C + 0x100 * i, 0, 16, .ro, .c, 0, false⟩
/-! HLn_PRBS_ERR_LO: 10_host_lanes.md Table 10.20 -/
/-- ERRORS bits 31:0 (LO, latches HI) or 63:32 (HI, as latched) -/
def HLn_PRBS_ERR_LO_ERRORS (i : Nat) : Fld := ⟨0x8020 + 0x100 * i, 0, 32, .ro, .c, 0, false⟩
/-! HLn_PRBS_ERR_HI: 10_host_lanes.md Table 10.20 -/
/-- ERRORS bits 31:0 (LO, latches HI) or 63:32 (HI, as latched) -/
def HLn_PRBS_ERR_HI_ERRORS (i : Nat) : Fld := ⟨0x8024 + 0x100 * i, 0, 32, .ro, .c, 0, false⟩
/-! HLn_PRBS_BITS_LO: 10_host_lanes.md Table 10.21 -/
/-- BITS bits 31:0 (LO, latches HI) or 63:32 (HI, as latched) -/
def HLn_PRBS_BITS_LO_BITS (i : Nat) : Fld := ⟨0x8028 + 0x100 * i, 0, 32, .ro, .c, 0, false⟩
/-! HLn_PRBS_BITS_HI: 10_host_lanes.md Table 10.21 -/
/-- BITS bits 31:0 (LO, latches HI) or 63:32 (HI, as latched) -/
def HLn_PRBS_BITS_HI_BITS (i : Nat) : Fld := ⟨0x802C + 0x100 * i, 0, 32, .ro, .c, 0, false⟩
/-! BCE_STATUS: 11_bias_control_engine.md Table 11.6 -/
/-- Bit n: BLn in RUN -/
def BCE_STATUS_RUN_MASK : Fld := ⟨0x9000, 16, 16, .ro, .h, 0, true⟩
/-- Bit n: BLn in FAULT_HOLD, FAULT_CLEAR or HALTED -/
def BCE_STATUS_FAULT_MASK : Fld := ⟨0x9000, 0, 16, .ro, .h, 0, true⟩
/-! BCE_EVENTS: 11_bias_control_engine.md Table 11.7 -/
/-- A capture has ended -/
def BCE_EVENTS_CAP_DONE : Fld := ⟨0x9004, 7, 1, .w1c, .s, 0, false⟩
/-- A loop has entered HALTED -/
def BCE_EVENTS_HALTED : Fld := ⟨0x9004, 6, 1, .w1c, .s, 0, false⟩
/-- R405 cut -/
def BCE_EVENTS_RAMP_CUT : Fld := ⟨0x9004, 5, 1, .w1c, .s, 0, false⟩
/-- A swap has taken effect -/
def BCE_EVENTS_SWAP_DONE : Fld := ⟨0x9004, 4, 1, .w1c, .s, 0, false⟩
/-- A loop has saturated, R387 -/
def BCE_EVENTS_SAT : Fld := ⟨0x9004, 3, 1, .w1c, .s, 0, false⟩
/-- R398 -/
def BCE_EVENTS_FB_FROZEN : Fld := ⟨0x9004, 2, 1, .w1c, .s, 0, false⟩
/-- R397 -/
def BCE_EVENTS_FB_INVALID : Fld := ⟨0x9004, 1, 1, .w1c, .s, 0, false⟩
/-- R393 -/
def BCE_EVENTS_LATE : Fld := ⟨0x9004, 0, 1, .w1c, .s, 0, false⟩
/-! BCE_COUNT: 11_bias_control_engine.md Table 11.8 -/
/-- Late periods, all loops, saturating -/
def BCE_COUNT_LATE_COUNT : Fld := ⟨0x9008, 16, 16, .ro, .s, 0, false⟩
/-- Saturating -/
def BCE_COUNT_RAMP_CUTS : Fld := ⟨0x9008, 8, 8, .ro, .s, 0, false⟩
/-- Feedback faults, saturating -/
def BCE_COUNT_FAULTS : Fld := ⟨0x9008, 0, 8, .ro, .s, 0, false⟩
/-! BCE_LOOPn_STATE: 11_bias_control_engine.md Table 11.9 -/
/-- Table 11.2 -/
def BCE_LOOPn_STATE_STATE (i : Nat) : Fld := ⟨0x9100 + 0x10 * i, 29, 3, .ro, .h, 0, true⟩
/-- 0 M, 1 H -/
def BCE_LOOPn_STATE_CLASS (i : Nat) : Fld := ⟨0x9100 + 0x10 * i, 28, 1, .ro, .h, 0, true⟩
/-- 0 none, 1 lost, 2 frozen, 3 AUX_CLR_N, 4 hard Quench, 5 orderly Quench, 6 arming timeout -/
def BCE_LOOPn_STATE_CAUSE (i : Nat) : Fld := ⟨0x9100 + 0x10 * i, 25, 3, .ro, .h, 0, true⟩
/-- Last period saturated high -/
def BCE_LOOPn_STATE_SAT_HI (i : Nat) : Fld := ⟨0x9100 + 0x10 * i, 24, 1, .ro, .h, 0, true⟩
/-- Last period saturated low -/
def BCE_LOOPn_STATE_SAT_LO (i : Nat) : Fld := ⟨0x9100 + 0x10 * i, 23, 1, .ro, .h, 0, true⟩
/-- Injection active -/
def BCE_LOOPn_STATE_INJ (i : Nat) : Fld := ⟨0x9100 + 0x10 * i, 22, 1, .ro, .h, 0, true⟩
/-- Swap pending -/
def BCE_LOOPn_STATE_SWAP_PEND (i : Nat) : Fld := ⟨0x9100 + 0x10 * i, 21, 1, .ro, .h, 0, true⟩
/-- Owned channel -/
def BCE_LOOPn_STATE_CHANNEL (i : Nat) : Fld := ⟨0x9100 + 0x10 * i, 16, 5, .ro, .h, 0, true⟩
/-- µs; 0 never configured -/
def BCE_LOOPn_STATE_PERIOD (i : Nat) : Fld := ⟨0x9100 + 0x10 * i, 6, 10, .ro, .h, 0, true⟩
/-! BCE_LOOPn_FB: 11_bias_control_engine.md Table 11.10 -/
/-- Last feedback sample -/
def BCE_LOOPn_FB_FB (i : Nat) : Fld := ⟨0x9104 + 0x10 * i, 16, 16, .ro, .h, 0, true⟩
/-- Last code written to the channel -/
def BCE_LOOPn_FB_TARGET (i : Nat) : Fld := ⟨0x9104 + 0x10 * i, 2, 14, .ro, .h, 0, true⟩
/-! BCE_LOOPn_INTEG: 11_bias_control_engine.md Table 11.11 -/
/-- Integrator I_n (INTEG) or u_n (U), signed -/
def BCE_LOOPn_INTEG_VALUE (i : Nat) : Fld := ⟨0x9108 + 0x10 * i, 0, 32, .ro, .h, 0, true⟩
/-! BCE_LOOPn_U: 11_bias_control_engine.md Table 11.11 -/
/-- Integrator I_n (INTEG) or u_n (U), signed -/
def BCE_LOOPn_U_VALUE (i : Nat) : Fld := ⟨0x910C + 0x10 * i, 0, 32, .ro, .h, 0, true⟩
/-! AUX_STATUS: 11_bias_control_engine.md Table 11.12 -/
/-- AUX_CLR_N asserted -/
def AUX_STATUS_CLR_PIN : Fld := ⟨0xA000, 31, 1, .ro, .h, 0, true⟩
/-- A clear under R380 in force -/
def AUX_STATUS_CLEAR_ACTIVE : Fld := ⟨0xA000, 30, 1, .ro, .h, 0, true⟩
/-- Bit m: AXm owned by a loop -/
def AUX_STATUS_OWNED : Fld := ⟨0xA000, 0, 24, .ro, .h, 0, true⟩
/-! AUX_EVENTS: 11_bias_control_engine.md Table 11.13 -/
/-- A channel has underrun, R377 -/
def AUX_EVENTS_UNDERRUN : Fld := ⟨0xA004, 1, 1, .w1c, .s, 0, false⟩
/-- AUX_CLR_N has been asserted -/
def AUX_EVENTS_CLR_ASSERTED : Fld := ⟨0xA004, 0, 1, .w1c, .s, 0, false⟩
/-! AUX_CHm_CLEAR: 11_bias_control_engine.md Table 11.14 -/
/-- Clear code, R379 -/
def AUX_CHm_CLEAR_CLEAR (i : Nat) : Fld := ⟨0xA100 + 0x10 * i, 0, 14, .rw, .k, 0, false⟩
/-! AUX_CHm_CFG: 11_bias_control_engine.md Table 11.15 -/
/-- R377 -/
def AUX_CHm_CFG_UPD_DIV (i : Nat) : Fld := ⟨0xA104 + 0x10 * i, 22, 10, .rw, .h, 0, false⟩
/-- R378 -/
def AUX_CHm_CFG_SLEW_TICK (i : Nat) : Fld := ⟨0xA104 + 0x10 * i, 12, 10, .rw, .h, 0, false⟩
/-- R378; 0 no limit -/
def AUX_CHm_CFG_SLEW_STEP (i : Nat) : Fld := ⟨0xA104 + 0x10 * i, 2, 10, .rw, .h, 0, false⟩
/-! AUX_CHm_STATUS: 11_bias_control_engine.md Table 11.16 -/
/-- Output now -/
def AUX_CHm_STATUS_CODE (i : Nat) : Fld := ⟨0xA108 + 0x10 * i, 18, 14, .ro, .h, 0, false⟩
/-- Target now -/
def AUX_CHm_STATUS_TARGET (i : Nat) : Fld := ⟨0xA108 + 0x10 * i, 4, 14, .ro, .h, 0, true⟩
/-- Owned by a loop -/
def AUX_CHm_STATUS_OWNED (i : Nat) : Fld := ⟨0xA108 + 0x10 * i, 3, 1, .ro, .h, 0, true⟩
/-- Held at the clear code under R380 -/
def AUX_CHm_STATUS_CLEARED (i : Nat) : Fld := ⟨0xA108 + 0x10 * i, 2, 1, .ro, .h, 0, true⟩
/-- Output differs from the target -/
def AUX_CHm_STATUS_SLEWING (i : Nat) : Fld := ⟨0xA108 + 0x10 * i, 1, 1, .ro, .h, 0, true⟩
/-! AUX_CHm_QUEUE: 11_bias_control_engine.md Table 11.17 -/
/-- Queue depth, value + 1 -/
def AUX_CHm_QUEUE_DEPTH (i : Nat) : Fld := ⟨0xA10C + 0x10 * i, 28, 4, .rw, .h, 15, false⟩
/-- Entries queued, 0–16 -/
def AUX_CHm_QUEUE_FILL (i : Nat) : Fld := ⟨0xA10C + 0x10 * i, 23, 5, .ro, .h, 0, true⟩
/-- Saturating -/
def AUX_CHm_QUEUE_UNDERRUNS (i : Nat) : Fld := ⟨0xA10C + 0x10 * i, 0, 16, .ro, .h, 0, true⟩
/-! MON_CTRL: 12_monitor_converter.md Table 12.6 -/
/-- Software low-power request, R427 -/
def MON_CTRL_LP_SW : Fld := ⟨0xB000, 31, 1, .rw, .h, 0, false⟩
/-- R428 -/
def MON_CTRL_LP_GUARD : Fld := ⟨0xB000, 30, 1, .rw, .h, 1, false⟩
/-- Health check enabled, R430 -/
def MON_CTRL_HLTH_EN : Fld := ⟨0xB000, 29, 1, .rw, .h, 1, false⟩
/-- Slot-table length -/
def MON_CTRL_SLOTS : Fld := ⟨0xB000, 22, 7, .ro, .h, 32, true⟩
/-! MON_STATUS: 12_monitor_converter.md Table 12.7 -/
/-- 0 OFF, 1 STARTUP, 2 RUN, 3 CYCLE, 4 LOW_POWER -/
def MON_STATUS_STATE : Fld := ⟨0xB004, 29, 3, .ro, .h, 0, true⟩
/-- Sub-step 3 in force -/
def MON_STATUS_LP_SHED : Fld := ⟨0xB004, 28, 1, .ro, .h, 0, true⟩
/-- Slices in service, 0–4 -/
def MON_STATUS_IN_SERVICE : Fld := ⟨0xB004, 25, 3, .ro, .h, 0, true⟩
/-- A free slice exists -/
def MON_STATUS_SPARE_FREE : Fld := ⟨0xB004, 24, 1, .ro, .h, 0, true⟩
/-- Slice under health check or cycle -/
def MON_STATUS_SHADOW : Fld := ⟨0xB004, 21, 3, .ro, .h, 0, true⟩
/-! MON_EVENTS: 12_monitor_converter.md Table 12.8 -/
/-- R435 -/
def MON_EVENTS_SYSCAL_LOST : Fld := ⟨0xB008, 8, 1, .w1c, .s, 0, false⟩
/-- A FULL or DEFAULT step completed -/
def MON_EVENTS_SYSCAL_DONE : Fld := ⟨0xB008, 7, 1, .w1c, .s, 0, false⟩
/-- An attempt was retried -/
def MON_EVENTS_CAL_RETRY : Fld := ⟨0xB008, 6, 1, .w1c, .s, 0, false⟩
/-- R433 -/
def MON_EVENTS_DEGRADED : Fld := ⟨0xB008, 5, 1, .w1c, .s, 0, false⟩
/-- A slice was retired -/
def MON_EVENTS_RETIRED : Fld := ⟨0xB008, 4, 1, .w1c, .s, 0, false⟩
/-- R431 -/
def MON_EVENTS_SLICE_FAIL : Fld := ⟨0xB008, 3, 1, .w1c, .s, 0, false⟩
/-- R426 -/
def MON_EVENTS_OOR : Fld := ⟨0xB008, 2, 1, .w1c, .s, 0, false⟩
/-- R425 -/
def MON_EVENTS_CIC_LOWER : Fld := ⟨0xB008, 1, 1, .w1c, .s, 0, false⟩
/-- R425 -/
def MON_EVENTS_CIC_UPPER : Fld := ⟨0xB008, 0, 1, .w1c, .s, 0, false⟩
/-! MON_SLICE: 12_monitor_converter.md Table 12.9 -/
/-- First retired slice; 7 none -/
def MON_SLICE_RET0 : Fld := ⟨0xB00C, 29, 3, .ro, .n, 7, true⟩
/-- Second retired slice; 7 none -/
def MON_SLICE_RET1 : Fld := ⟨0xB00C, 26, 3, .ro, .n, 7, true⟩
/-- Failing windows, saturating -/
def MON_SLICE_HLTH_FAILS : Fld := ⟨0xB00C, 8, 8, .ro, .s, 0, true⟩
/-- Saturating -/
def MON_SLICE_CAL_RETRIES : Fld := ⟨0xB00C, 0, 8, .ro, .s, 0, false⟩
/-! MON_INm_CFG: 12_monitor_converter.md Table 12.10 -/
/-- Input enabled -/
def MON_INm_CFG_EN (i : Nat) : Fld := ⟨0xB100 + 0x10 * i, 31, 1, .ro, .h, 1, true⟩
/-- Bias source -/
def MON_INm_CFG_BIAS (i : Nat) : Fld := ⟨0xB100 + 0x10 * i, 29, 2, .ro, .h, 0, true⟩
/-- R420 -/
def MON_INm_CFG_COARSE_K (i : Nat) : Fld := ⟨0xB100 + 0x10 * i, 26, 3, .ro, .h, 0, true⟩
/-- Readback channel, MI28–MI31 -/
def MON_INm_CFG_RB_SEL (i : Nat) : Fld := ⟨0xB100 + 0x10 * i, 21, 5, .ro, .h, 0, true⟩
/-! MON_INm_LIM: 12_monitor_converter.md Table 12.11 -/
/-- R413 -/
def MON_INm_LIM_VHI (i : Nat) : Fld := ⟨0xB104 + 0x10 * i, 16, 12, .ro, .h, 4094, true⟩
/-- R413 -/
def MON_INm_LIM_VLO (i : Nat) : Fld := ⟨0xB104 + 0x10 * i, 0, 12, .ro, .h, 1, true⟩
/-! MON_INm_CAL: 12_monitor_converter.md Table 12.12 -/
/-- R416 -/
def MON_INm_CAL_GAIN (i : Nat) : Fld := ⟨0xB108 + 0x10 * i, 16, 16, .ro, .n, 16384, true⟩
/-- R416, two's complement -/
def MON_INm_CAL_OFFSET (i : Nat) : Fld := ⟨0xB108 + 0x10 * i, 0, 16, .ro, .n, 0, true⟩
/-! MON_INm_VAL: 12_monitor_converter.md Table 12.13 -/
/-- Coarse output -/
def MON_INm_VAL_COARSE (i : Nat) : Fld := ⟨0xB10C + 0x10 * i, 16, 16, .ro, .h, 0, true⟩
/-- Last v -/
def MON_INm_VAL_LAST (i : Nat) : Fld := ⟨0xB10C + 0x10 * i, 0, 16, .ro, .h, 0, true⟩
/-! MON_CICk_CFG: 12_monitor_converter.md Table 12.14 -/
/-- Input -/
def MON_CICk_CFG_INPUT (i : Nat) : Fld := ⟨0xB400 + 0x10 * i, 27, 5, .ro, .h, 0, true⟩
/-- N -/
def MON_CICk_CFG_ORDER (i : Nat) : Fld := ⟨0xB400 + 0x10 * i, 24, 3, .ro, .h, 3, true⟩
/-- Decimation -/
def MON_CICk_CFG_DEC (i : Nat) : Fld := ⟨0xB400 + 0x10 * i, 11, 13, .ro, .h, 4, true⟩
/-- R425 -/
def MON_CICk_CFG_UP_EN (i : Nat) : Fld := ⟨0xB400 + 0x10 * i, 10, 1, .ro, .h, 0, true⟩
/-- R425 -/
def MON_CICk_CFG_LO_EN (i : Nat) : Fld := ⟨0xB400 + 0x10 * i, 9, 1, .ro, .h, 0, true⟩
/-- R425 -/
def MON_CICk_CFG_LOG (i : Nat) : Fld := ⟨0xB400 + 0x10 * i, 8, 1, .ro, .h, 0, true⟩
/-- Channel running -/
def MON_CICk_CFG_EN (i : Nat) : Fld := ⟨0xB400 + 0x10 * i, 7, 1, .ro, .h, 0, true⟩
/-! MON_CICk_TH: 12_monitor_converter.md Table 12.15 -/
/-- Upper threshold -/
def MON_CICk_TH_UTH (i : Nat) : Fld := ⟨0xB404 + 0x10 * i, 16, 16, .ro, .h, 65535, true⟩
/-- Lower threshold -/
def MON_CICk_TH_LTH (i : Nat) : Fld := ⟨0xB404 + 0x10 * i, 0, 16, .ro, .h, 0, true⟩
/-! MON_CICk_HYS: 12_monitor_converter.md Table 12.16 -/
/-- Hysteresis -/
def MON_CICk_HYS_HYS (i : Nat) : Fld := ⟨0xB408 + 0x10 * i, 0, 16, .ro, .h, 0, true⟩
/-! MON_CICk_OUT: 12_monitor_converter.md Table 12.17 -/
/-- Last output -/
def MON_CICk_OUT_OUT (i : Nat) : Fld := ⟨0xB40C + 0x10 * i, 16, 16, .ro, .h, 0, true⟩
/-- R424 -/
def MON_CICk_OUT_VALID (i : Nat) : Fld := ⟨0xB40C + 0x10 * i, 15, 1, .ro, .h, 0, true⟩
/-- R423 -/
def MON_CICk_OUT_OOR (i : Nat) : Fld := ⟨0xB40C + 0x10 * i, 14, 1, .ro, .h, 0, true⟩
/-- Upper comparison armed -/
def MON_CICk_OUT_UP_ARMED (i : Nat) : Fld := ⟨0xB40C + 0x10 * i, 13, 1, .ro, .h, 1, true⟩
/-- Lower comparison armed -/
def MON_CICk_OUT_LO_ARMED (i : Nat) : Fld := ⟨0xB40C + 0x10 * i, 12, 1, .ro, .h, 1, true⟩
/-! GLB_ID: 13_host_control_rings.md Table 13.15 -/
/-- Part number -/
def GLB_ID_PART : Fld := ⟨0x0000, 16, 16, .ro, .k, 12808, true⟩
/-- Major revision -/
def GLB_ID_REV_MAJ : Fld := ⟨0x0000, 12, 4, .ro, .k, 1, true⟩
/-- Minor revision -/
def GLB_ID_REV_MIN : Fld := ⟨0x0000, 8, 4, .ro, .k, 0, true⟩
/-! GLB_CAPS: 13_host_control_rings.md Table 13.16 -/
/-- Line ports -/
def GLB_CAPS_PORTS : Fld := ⟨0x0004, 24, 8, .ro, .k, 8, true⟩
/-- Host lanes -/
def GLB_CAPS_LANES : Fld := ⟨0x0004, 16, 8, .ro, .k, 16, true⟩
/-- Interrupt vectors -/
def GLB_CAPS_VECTORS : Fld := ⟨0x0004, 8, 8, .ro, .k, 64, true⟩
/-- log2 of ring contexts -/
def GLB_CAPS_CTX_LOG2 : Fld := ⟨0x0004, 4, 4, .ro, .k, 14, true⟩
/-! GLB_TRANSPORT: 13_host_control_rings.md Table 13.17 -/
/-- Boot transport: 0 PCIe, 1 SPI, 2 MDIO -/
def GLB_TRANSPORT_BOOT : Fld := ⟨0x0008, 30, 2, .ro, .h, 0, true⟩
/-- PCIe enabled; reads 1 when it is the boot transport -/
def GLB_TRANSPORT_PCIE_EN : Fld := ⟨0x0008, 29, 1, .rw, .h, 0, false⟩
/-- SPI enabled; as PCIE_EN -/
def GLB_TRANSPORT_SPI_EN : Fld := ⟨0x0008, 28, 1, .rw, .h, 0, false⟩
/-- MDIO enabled; as PCIE_EN -/
def GLB_TRANSPORT_MDIO_EN : Fld := ⟨0x0008, 27, 1, .rw, .h, 0, false⟩
/-- MDIO port address, R445 -/
def GLB_TRANSPORT_PRTAD_BASE : Fld := ⟨0x0008, 22, 5, .rw, .n, 0, false⟩
/-! GLB_ADMIN_CTRL: 13_host_control_rings.md Table 13.18 -/
/-- R452, R453 -/
def GLB_ADMIN_CTRL_ENABLE : Fld := ⟨0x0010, 31, 1, .rw, .h, 0, false⟩
/-- Admin rings signal VECTOR -/
def GLB_ADMIN_CTRL_IRQ_EN : Fld := ⟨0x0010, 30, 1, .rw, .h, 1, false⟩
/-- Ring 0 size, 4–16 -/
def GLB_ADMIN_CTRL_SQ_LOG2 : Fld := ⟨0x0010, 25, 5, .rw, .h, 4, false⟩
/-- Ring 1 size, 4–16 -/
def GLB_ADMIN_CTRL_CQ_LOG2 : Fld := ⟨0x0010, 20, 5, .rw, .h, 4, false⟩
/-- Admin vector -/
def GLB_ADMIN_CTRL_VECTOR : Fld := ⟨0x0010, 14, 6, .rw, .h, 0, false⟩
/-! GLB_ADMIN_SQ_LO: 13_host_control_rings.md Table 13.19 -/
/-- BASE bits 31:0 (LO) or 63:32 (HI), R449 -/
def GLB_ADMIN_SQ_LO_BASE : Fld := ⟨0x0014, 0, 32, .rw, .h, 0, false⟩
/-! GLB_ADMIN_SQ_HI: 13_host_control_rings.md Table 13.19 -/
/-- BASE bits 31:0 (LO) or 63:32 (HI), R449 -/
def GLB_ADMIN_SQ_HI_BASE : Fld := ⟨0x0018, 0, 32, .rw, .h, 0, false⟩
/-! GLB_ADMIN_CQ_LO: 13_host_control_rings.md Table 13.19 -/
/-- BASE bits 31:0 (LO) or 63:32 (HI), R449 -/
def GLB_ADMIN_CQ_LO_BASE : Fld := ⟨0x001C, 0, 32, .rw, .h, 0, false⟩
/-! GLB_ADMIN_CQ_HI: 13_host_control_rings.md Table 13.19 -/
/-- BASE bits 31:0 (LO) or 63:32 (HI), R449 -/
def GLB_ADMIN_CQ_HI_BASE : Fld := ⟨0x0020, 0, 32, .rw, .h, 0, false⟩
/-! GLB_ADMIN_STATUS: 13_host_control_rings.md Table 13.20 -/
/-- Admin rings created -/
def GLB_ADMIN_STATUS_READY : Fld := ⟨0x0024, 31, 1, .ro, .h, 0, true⟩
/-- 0 none, 1 size, 2 alignment, 3 ring-memory placement, 4 restoration lost -/
def GLB_ADMIN_STATUS_FAULT : Fld := ⟨0x0024, 28, 3, .ro, .h, 0, true⟩
/-! GLB_INT_CTRL: 13_host_control_rings.md Table 13.21 -/
/-- IRQ_N driven, R477 -/
def GLB_INT_CTRL_PIN_EN : Fld := ⟨0x0030, 31, 1, .rw, .h, 0, false⟩
/-- MSI-X enabled in PCIe configuration space -/
def GLB_INT_CTRL_MSIX_ON : Fld := ⟨0x0030, 30, 1, .ro, .h, 0, true⟩
/-! GLB_INT_PEND_LO: 13_host_control_rings.md Table 13.22 -/
/-- Vectors 31:0 (LO) or 63:32 (HI) pending -/
def GLB_INT_PEND_LO_PEND : Fld := ⟨0x0034, 0, 32, .w1c, .s, 0, false⟩
/-! GLB_INT_PEND_HI: 13_host_control_rings.md Table 13.22 -/
/-- Vectors 31:0 (LO) or 63:32 (HI) pending -/
def GLB_INT_PEND_HI_PEND : Fld := ⟨0x0038, 0, 32, .w1c, .s, 0, false⟩
/-! GLB_INT_MASK_LO: 13_host_control_rings.md Table 13.23 -/
/-- 1 masks the vector from IRQ_N -/
def GLB_INT_MASK_LO_MASK : Fld := ⟨0x003C, 0, 32, .rw, .h, 0, false⟩
/-! GLB_INT_MASK_HI: 13_host_control_rings.md Table 13.23 -/
/-- 1 masks the vector from IRQ_N -/
def GLB_INT_MASK_HI_MASK : Fld := ⟨0x0040, 0, 32, .rw, .h, 0, false⟩
/-! GLB_RING_EVENTS: 13_host_control_rings.md Table 13.24 -/
/-- R483 -/
def GLB_RING_EVENTS_RESTORE_LOST : Fld := ⟨0x0044, 5, 1, .w1c, .s, 0, false⟩
/-- R475 -/
def GLB_RING_EVENTS_EVT_LOST : Fld := ⟨0x0044, 4, 1, .w1c, .s, 0, false⟩
/-- R479 -/
def GLB_RING_EVENTS_TEL_DROP : Fld := ⟨0x0044, 3, 1, .w1c, .s, 0, false⟩
/-- R469 -/
def GLB_RING_EVENTS_FETCH_FAIL : Fld := ⟨0x0044, 2, 1, .w1c, .s, 0, false⟩
/-- R456 -/
def GLB_RING_EVENTS_DB_BAD : Fld := ⟨0x0044, 1, 1, .w1c, .s, 0, false⟩
/-- R455 -/
def GLB_RING_EVENTS_DB_IGNORED : Fld := ⟨0x0044, 0, 1, .w1c, .s, 0, false⟩
/-! GLB_RING_COUNT: 13_host_control_rings.md Table 13.25 -/
/-- Doorbells ignored, saturating -/
def GLB_RING_COUNT_DB_IGNORED : Fld := ⟨0x0048, 16, 16, .ro, .s, 0, false⟩
/-- Operations that succeeded on retry, saturating -/
def GLB_RING_COUNT_RETRIED : Fld := ⟨0x0048, 0, 16, .ro, .s, 0, false⟩
/-! RING_SEL: 13_host_control_rings.md Table 13.26 -/
/-- Context shown in RING_CTX0–RING_CTX7 -/
def RING_SEL_RING : Fld := ⟨0xE000, 0, 14, .rw, .s, 0, false⟩
/-! RING_CTXk: 13_host_control_rings.md Table 13.27 -/
/-- Bytes 4k to 4k + 3 of the selected context, Table 13.5, little-endian -/
def RING_CTXk_CTX (i : Nat) : Fld := ⟨0xE010 + 0x4 * i, 0, 32, .ro, .h, 0, true⟩
/-! CTR_STATUS: 14_counters_and_telemetry.md Table 14.6 -/
/-- Counters frozen -/
def CTR_STATUS_FROZEN : Fld := ⟨0xC000, 31, 1, .ro, .s, 0, true⟩
/-- 0 none, 1 CTR_SNAPSHOT, 2 overflow -/
def CTR_STATUS_FREEZE_CAUSE : Fld := ⟨0xC000, 29, 2, .ro, .s, 0, true⟩
/-- Records in the sample buffer, 0–64 -/
def CTR_STATUS_SAMPLES : Fld := ⟨0xC000, 22, 7, .ro, .s, 0, true⟩
/-- Snapshots taken, wrapping -/
def CTR_STATUS_SNAP_SEQ : Fld := ⟨0xC000, 0, 16, .ro, .s, 0, true⟩
/-! CTR_EVENTS: 14_counters_and_telemetry.md Table 14.7 -/
/-- Records not written, R490, saturating -/
def CTR_EVENTS_SAMPLES_LOST : Fld := ⟨0xC004, 4, 16, .ro, .s, 0, true⟩
/-- R500 -/
def CTR_EVENTS_RESTORE_LOST : Fld := ⟨0xC004, 3, 1, .w1c, .s, 0, false⟩
/-- An overflow froze the counters -/
def CTR_EVENTS_FREEZE_OVF : Fld := ⟨0xC004, 2, 1, .w1c, .s, 0, false⟩
/-- A counter saturated -/
def CTR_EVENTS_SAT : Fld := ⟨0xC004, 1, 1, .w1c, .s, 0, false⟩
/-- R490 -/
def CTR_EVENTS_SAMPLE_LOST : Fld := ⟨0xC004, 0, 1, .w1c, .s, 0, false⟩
/-! CTR_INT: 14_counters_and_telemetry.md Table 14.8 -/
/-- Overflows signal VECTOR, R489 -/
def CTR_INT_IRQ_EN : Fld := ⟨0xC008, 31, 1, .rw, .s, 0, false⟩
/-- Counter vector, 0–63 -/
def CTR_INT_VECTOR : Fld := ⟨0xC008, 25, 6, .rw, .s, 0, false⟩
/-! CTR_OVF_LO: 14_counters_and_telemetry.md Table 14.9 -/
/-- PC31–PC0 (LO) or PC63–PC32 (HI) has overflowed -/
def CTR_OVF_LO_OVF : Fld := ⟨0xC00C, 0, 32, .w1c, .s, 0, false⟩
/-! CTR_OVF_HI: 14_counters_and_telemetry.md Table 14.9 -/
/-- PC31–PC0 (LO) or PC63–PC32 (HI) has overflowed -/
def CTR_OVF_HI_OVF : Fld := ⟨0xC010, 0, 32, .w1c, .s, 0, false⟩
/-! CTR_SNAP_TIME_LO: 14_counters_and_telemetry.md Table 14.10 -/
/-- Last snapshot's nanosecond, bits 31:0 (LO) or 63:32 (HI) -/
def CTR_SNAP_TIME_LO_TIME : Fld := ⟨0xC014, 0, 32, .ro, .s, 0, true⟩
/-! CTR_SNAP_TIME_HI: 14_counters_and_telemetry.md Table 14.10 -/
/-- Last snapshot's nanosecond, bits 31:0 (LO) or 63:32 (HI) -/
def CTR_SNAP_TIME_HI_TIME : Fld := ⟨0xC018, 0, 32, .ro, .s, 0, true⟩
/-! CTR_m_CFG: 14_counters_and_telemetry.md Table 14.11 -/
/-- Table 14.1 -/
def CTR_m_CFG_EVENT (i : Nat) : Fld := ⟨0xC100 + 0x20 * i, 24, 8, .ro, .s, 0, true⟩
/-- Table 14.1 -/
def CTR_m_CFG_INSTANCE (i : Nat) : Fld := ⟨0xC100 + 0x20 * i, 16, 8, .ro, .s, 0, true⟩
/-- Table 14.2 -/
def CTR_m_CFG_MODE (i : Nat) : Fld := ⟨0xC100 + 0x20 * i, 13, 3, .ro, .s, 0, true⟩
/-- R489 -/
def CTR_m_CFG_OVF_IRQ (i : Nat) : Fld := ⟨0xC100 + 0x20 * i, 12, 1, .ro, .s, 0, true⟩
/-- R488 -/
def CTR_m_CFG_RELOAD (i : Nat) : Fld := ⟨0xC100 + 0x20 * i, 11, 1, .ro, .s, 0, true⟩
/-- R490 -/
def CTR_m_CFG_SAMPLE_EN (i : Nat) : Fld := ⟨0xC100 + 0x20 * i, 10, 1, .ro, .s, 0, true⟩
/-- R489 -/
def CTR_m_CFG_FREEZE_ON_OVF (i : Nat) : Fld := ⟨0xC100 + 0x20 * i, 9, 1, .ro, .s, 0, true⟩
/-- R486 -/
def CTR_m_CFG_SAT (i : Nat) : Fld := ⟨0xC100 + 0x20 * i, 8, 1, .ro, .s, 0, true⟩
/-! CTR_m_N: 14_counters_and_telemetry.md Table 14.12 -/
/-- N (CTR_m_N) or LIMIT (CTR_m_LIMIT) -/
def CTR_m_N_VALUE (i : Nat) : Fld := ⟨0xC104 + 0x20 * i, 0, 32, .ro, .s, 0, true⟩
/-! CTR_m_LIMIT: 14_counters_and_telemetry.md Table 14.12 -/
/-- N (CTR_m_N) or LIMIT (CTR_m_LIMIT) -/
def CTR_m_LIMIT_VALUE (i : Nat) : Fld := ⟨0xC108 + 0x20 * i, 0, 32, .ro, .s, 0, true⟩
/-! CTR_m_VAL_LO: 14_counters_and_telemetry.md Table 14.13 -/
/-- VALUE bits 31:0 (LO, latches HI) or 47:32 in bits 15:0 (HI, as latched; bits 31:16 read 0) -/
def CTR_m_VAL_LO_VALUE (i : Nat) : Fld := ⟨0xC10C + 0x20 * i, 0, 32, .ro, .s, 0, true⟩
/-! CTR_m_VAL_HI: 14_counters_and_telemetry.md Table 14.13 -/
/-- VALUE bits 31:0 (LO, latches HI) or 47:32 in bits 15:0 (HI, as latched; bits 31:16 read 0) -/
def CTR_m_VAL_HI_VALUE (i : Nat) : Fld := ⟨0xC110 + 0x20 * i, 0, 32, .ro, .s, 0, true⟩
/-! CTR_m_OVF_COUNT: 14_counters_and_telemetry.md Table 14.14 -/
/-- Overflows since the last WRITE, CLEAR or snapshot with CLEAR, saturating -/
def CTR_m_OVF_COUNT_OVF_COUNT (i : Nat) : Fld := ⟨0xC114 + 0x20 * i, 0, 32, .ro, .s, 0, false⟩
/-! MEM_CTRL: 15_memories_and_check_engine.md Table 15.9 -/
/-- Allows MEM_TEST_WRITE, R515 -/
def MEM_CTRL_TEST_EN : Fld := ⟨0x2000, 31, 1, .rw, .s, 0, false⟩
/-! MEM_BUCKET_OVF: 15_memories_and_check_engine.md Table 15.10 -/
/-- Bit m: memory m has overflowed its bucket (R513), or has had a lasting error (R507) -/
def MEM_BUCKET_OVF_MASK : Fld := ⟨0x2004, 0, 20, .w1c, .s, 0, false⟩
/-! MEM_UE_SEEN: 15_memories_and_check_engine.md Table 15.10 -/
/-- Bit m: memory m has overflowed its bucket (R513), or has had a lasting error (R507) -/
def MEM_UE_SEEN_MASK : Fld := ⟨0x2008, 0, 20, .w1c, .s, 0, false⟩
/-! MEM_EVENTS: 15_memories_and_check_engine.md Table 15.11 -/
/-- A merge was refused, R509 -/
def MEM_EVENTS_POISONED : Fld := ⟨0x200C, 1, 1, .w1c, .s, 0, false⟩
/-- A MEM_TEST_WRITE has acted -/
def MEM_EVENTS_TEST_WRITE : Fld := ⟨0x200C, 0, 1, .w1c, .s, 0, false⟩
/-! MEM_INT: 15_memories_and_check_engine.md Table 15.12 -/
/-- Bucket overflows signal VECTOR, R513 -/
def MEM_INT_IRQ_EN : Fld := ⟨0x2010, 31, 1, .rw, .s, 0, false⟩
/-- MEM vector, 0–63 -/
def MEM_INT_VECTOR : Fld := ⟨0x2010, 25, 6, .rw, .s, 0, false⟩
/-! MEM_m_SCRUB: 15_memories_and_check_engine.md Table 15.13 -/
/-- R511 -/
def MEM_m_SCRUB_SCRUB_EN (i : Nat) : Fld := ⟨0x2100 + 0x20 * i, 31, 1, .rw, .s, 1, false⟩
/-- µs per word, R511 -/
def MEM_m_SCRUB_INTERVAL (i : Nat) : Fld := ⟨0x2100 + 0x20 * i, 0, 20, .rw, .s, 10, false⟩
/-! MEM_m_BUCKET: 15_memories_and_check_engine.md Table 15.14 -/
/-- R513 -/
def MEM_m_BUCKET_CAPACITY (i : Nat) : Fld := ⟨0x2104 + 0x20 * i, 24, 8, .rw, .s, 16, false⟩
/-- Leak period 1 ms × 2^value; 0xA is 1.024 s -/
def MEM_m_BUCKET_LEAK (i : Nat) : Fld := ⟨0x2104 + 0x20 * i, 20, 4, .rw, .s, 10, false⟩
/-- Bucket level -/
def MEM_m_BUCKET_LEVEL (i : Nat) : Fld := ⟨0x2104 + 0x20 * i, 12, 8, .ro, .s, 0, true⟩
/-! MEM_m_COUNT: 15_memories_and_check_engine.md Table 15.15 -/
/-- Correctable errors, saturating -/
def MEM_m_COUNT_CE_COUNT (i : Nat) : Fld := ⟨0x2108 + 0x20 * i, 16, 16, .ro, .s, 0, false⟩
/-- Lasting uncorrectable errors, saturating -/
def MEM_m_COUNT_UE_COUNT (i : Nat) : Fld := ⟨0x2108 + 0x20 * i, 8, 8, .ro, .s, 0, false⟩
/-- Bucket overflows, saturating -/
def MEM_m_COUNT_OVERFLOWS (i : Nat) : Fld := ⟨0x2108 + 0x20 * i, 0, 8, .ro, .s, 0, false⟩
/-! MEM_m_LAST: 15_memories_and_check_engine.md Table 15.16 -/
/-- Word of the last counted error -/
def MEM_m_LAST_ADDR (i : Nat) : Fld := ⟨0x210C + 0x20 * i, 8, 24, .ro, .s, 0, true⟩
/-- Its syndrome, R503 -/
def MEM_m_LAST_SYNDROME (i : Nat) : Fld := ⟨0x210C + 0x20 * i, 0, 8, .ro, .s, 0, true⟩
/-! MEM_m_POS: 15_memories_and_check_engine.md Table 15.17 -/
/-- Last counted error was uncorrectable -/
def MEM_m_POS_LAST_UE (i : Nat) : Fld := ⟨0x2110 + 0x20 * i, 31, 1, .ro, .s, 0, true⟩
/-- Scrubber's next word, R511 -/
def MEM_m_POS_POS (i : Nat) : Fld := ⟨0x2110 + 0x20 * i, 0, 24, .ro, .s, 0, true⟩
/-! CHK_STATUS: 15_memories_and_check_engine.md Table 15.18 -/
/-- Bit n: CKn running -/
def CHK_STATUS_BUSY : Fld := ⟨0x3000, 28, 4, .ro, .s, 0, true⟩
/-- Bit 12 + s: slot s holds an image -/
def CHK_STATUS_SLOT_VALID : Fld := ⟨0x3000, 12, 16, .ro, .s, 0, true⟩
/-- Signature unit working -/
def CHK_STATUS_SIG_BUSY : Fld := ⟨0x3000, 11, 1, .ro, .s, 0, true⟩
/-! CHK_EVENTS: 15_memories_and_check_engine.md Table 15.19 -/
/-- A bank failed, R531 -/
def CHK_EVENTS_SIG_FAIL : Fld := ⟨0x3004, 2, 1, .w1c, .s, 0, false⟩
/-- R522 -/
def CHK_EVENTS_CHECK_FAIL : Fld := ⟨0x3004, 1, 1, .w1c, .s, 0, false⟩
/-- R528 -/
def CHK_EVENTS_WR_BUSY : Fld := ⟨0x3004, 0, 1, .w1c, .s, 0, false⟩
/-! CHK_COUNT: 15_memories_and_check_engine.md Table 15.20 -/
/-- Saturating -/
def CHK_COUNT_CHECK_FAILS : Fld := ⟨0x3008, 16, 16, .ro, .s, 0, false⟩
/-- Verifies that matched on the second read, saturating -/
def CHK_COUNT_CHECK_RETRIES : Fld := ⟨0x3008, 0, 16, .ro, .s, 0, false⟩
/-! CHK_SIG_FAIL_LO: 15_memories_and_check_engine.md Table 15.21 -/
/-- Banks 31–0 (LO), or 47–32 in bits 15:0 (HI, bits 31:16 read 0), failed at the last wake -/
def CHK_SIG_FAIL_LO_BANKS : Fld := ⟨0x300C, 0, 32, .ro, .s, 0, true⟩
/-! CHK_SIG_FAIL_HI: 15_memories_and_check_engine.md Table 15.21 -/
/-- Banks 31–0 (LO), or 47–32 in bits 15:0 (HI, bits 31:16 read 0), failed at the last wake -/
def CHK_SIG_FAIL_HI_BANKS : Fld := ⟨0x3010, 0, 32, .ro, .s, 0, true⟩
/-! CHK_CKn_CFG: 15_memories_and_check_engine.md Table 15.22 -/
/-- W − 1 -/
def CHK_CKn_CFG_WIDTH (i : Nat) : Fld := ⟨0x3100 + 0x40 * i, 26, 6, .ro, .s, 0, true⟩
/-- R519 -/
def CHK_CKn_CFG_REFIN (i : Nat) : Fld := ⟨0x3100 + 0x40 * i, 25, 1, .ro, .s, 0, true⟩
/-- R519 -/
def CHK_CKn_CFG_REFOUT (i : Nat) : Fld := ⟨0x3100 + 0x40 * i, 24, 1, .ro, .s, 0, true⟩
/-- R520 -/
def CHK_CKn_CFG_CV_ORDER (i : Nat) : Fld := ⟨0x3100 + 0x40 * i, 23, 1, .ro, .s, 0, true⟩
/-- R519 -/
def CHK_CKn_CFG_STARTED (i : Nat) : Fld := ⟨0x3100 + 0x40 * i, 22, 1, .ro, .s, 0, true⟩
/-- Channel holds a configuration -/
def CHK_CKn_CFG_CONFIGURED (i : Nat) : Fld := ⟨0x3100 + 0x40 * i, 21, 1, .ro, .s, 0, true⟩
/-! CHK_CKn_POLY_LO: 15_memories_and_check_engine.md Table 15.23 -/
/-- Bits 31:0 (LO, latches HI) or 63:32 (HI, as latched) -/
def CHK_CKn_POLY_LO_VALUE (i : Nat) : Fld := ⟨0x3104 + 0x40 * i, 0, 32, .ro, .s, 0, true⟩
/-! CHK_CKn_POLY_HI: 15_memories_and_check_engine.md Table 15.23 -/
/-- Bits 31:0 (LO, latches HI) or 63:32 (HI, as latched) -/
def CHK_CKn_POLY_HI_VALUE (i : Nat) : Fld := ⟨0x3108 + 0x40 * i, 0, 32, .ro, .s, 0, true⟩
/-! CHK_CKn_INIT_LO: 15_memories_and_check_engine.md Table 15.23 -/
/-- Bits 31:0 (LO, latches HI) or 63:32 (HI, as latched) -/
def CHK_CKn_INIT_LO_VALUE (i : Nat) : Fld := ⟨0x310C + 0x40 * i, 0, 32, .ro, .s, 0, true⟩
/-! CHK_CKn_INIT_HI: 15_memories_and_check_engine.md Table 15.23 -/
/-- Bits 31:0 (LO, latches HI) or 63:32 (HI, as latched) -/
def CHK_CKn_INIT_HI_VALUE (i : Nat) : Fld := ⟨0x3110 + 0x40 * i, 0, 32, .ro, .s, 0, true⟩
/-! CHK_CKn_XOROUT_LO: 15_memories_and_check_engine.md Table 15.23 -/
/-- Bits 31:0 (LO, latches HI) or 63:32 (HI, as latched) -/
def CHK_CKn_XOROUT_LO_VALUE (i : Nat) : Fld := ⟨0x3114 + 0x40 * i, 0, 32, .ro, .s, 0, true⟩
/-! CHK_CKn_XOROUT_HI: 15_memories_and_check_engine.md Table 15.23 -/
/-- Bits 31:0 (LO, latches HI) or 63:32 (HI, as latched) -/
def CHK_CKn_XOROUT_HI_VALUE (i : Nat) : Fld := ⟨0x3118 + 0x40 * i, 0, 32, .ro, .s, 0, true⟩
/-! CHK_CKn_COUNT_LO: 15_memories_and_check_engine.md Table 15.23 -/
/-- Bits 31:0 (LO, latches HI) or 63:32 (HI, as latched) -/
def CHK_CKn_COUNT_LO_VALUE (i : Nat) : Fld := ⟨0x3124 + 0x40 * i, 0, 32, .ro, .s, 0, true⟩
/-! CHK_CKn_COUNT_HI: 15_memories_and_check_engine.md Table 15.23 -/
/-- Bits 31:0 (LO, latches HI) or 63:32 (HI, as latched) -/
def CHK_CKn_COUNT_HI_VALUE (i : Nat) : Fld := ⟨0x3128 + 0x40 * i, 0, 32, .ro, .s, 0, true⟩
/-! CHK_CKn_VALUE_LO: 15_memories_and_check_engine.md Table 15.24 -/
/-- VALUE bits 31:0 (LO) or 63:32 (HI); reads as Table 15.23, writes as R528 -/
def CHK_CKn_VALUE_LO_VALUE (i : Nat) : Fld := ⟨0x311C + 0x40 * i, 0, 32, .rw, .s, 0, false⟩
/-! CHK_CKn_VALUE_HI: 15_memories_and_check_engine.md Table 15.24 -/
/-- VALUE bits 31:0 (LO) or 63:32 (HI); reads as Table 15.23, writes as R528 -/
def CHK_CKn_VALUE_HI_VALUE (i : Nat) : Fld := ⟨0x3120 + 0x40 * i, 0, 32, .rw, .s, 0, false⟩
/-! PWR_STATE: 16_power_states.md Table 16.11 -/
/-- 0 ACTIVE, 1 ENTERING, 2 RETAIN, 3 WAKING -/
def PWR_STATE_STATE : Fld := ⟨0x1000, 29, 3, .ro, .h, 0, true⟩
/-- Step of Table 16.5 in progress; 0 none -/
def PWR_STATE_WAKE_STEP : Fld := ⟨0x1000, 26, 3, .ro, .h, 0, true⟩
/-- Table 16.4 code -/
def PWR_STATE_LAST_WAKE : Fld := ⟨0x1000, 23, 3, .ro, .h, 0, true⟩
/-- Port of a LINK wake -/
def PWR_STATE_LAST_PORT : Fld := ⟨0x1000, 20, 3, .ro, .h, 0, true⟩
/-- 0 none, 1 regulator, 2 oscillator; R541 -/
def PWR_STATE_WAKE_FAULT : Fld := ⟨0x1000, 17, 3, .ro, .h, 0, true⟩
/-- 1 is a SERIAL wake source -/
def PWR_STATE_WAKE_REQ : Fld := ⟨0x1000, 16, 1, .wo, .h, 0, false⟩
/-! PWR_WAKE_EN: 16_power_states.md Table 16.12 -/
/-- Bit n: LINK wake on LPn -/
def PWR_WAKE_EN_LINK_EN : Fld := ⟨0x1004, 24, 8, .rw, .h, 255, false⟩
/-- DOORBELL -/
def PWR_WAKE_EN_DB_EN : Fld := ⟨0x1004, 23, 1, .rw, .h, 1, false⟩
/-- SERIAL -/
def PWR_WAKE_EN_SER_EN : Fld := ⟨0x1004, 22, 1, .rw, .h, 1, false⟩
/-- RTC -/
def PWR_WAKE_EN_RTC_EN : Fld := ⟨0x1004, 21, 1, .rw, .h, 1, false⟩
/-- SPI vote linger, 10 µs × value; 0 taken as 1 -/
def PWR_WAKE_EN_LINGER : Fld := ⟨0x1004, 13, 8, .rw, .h, 10, false⟩
/-! PWR_EVENTS: 16_power_states.md Table 16.13 -/
/-- LINK wake on a STOPPED port -/
def PWR_EVENTS_LINK_WAKE : Fld := ⟨0x1008, 8, 1, .w1c, .h, 0, false⟩
/-- R544 -/
def PWR_EVENTS_EARLY_DROP : Fld := ⟨0x1008, 7, 1, .w1c, .h, 0, false⟩
/-- A port entered DOZE -/
def PWR_EVENTS_DOZE : Fld := ⟨0x1008, 6, 1, .w1c, .h, 0, false⟩
/-- A bank failed, R546 -/
def PWR_EVENTS_RESTORE_LOST : Fld := ⟨0x1008, 5, 1, .w1c, .h, 0, false⟩
/-- R541 -/
def PWR_EVENTS_WAKE_FAULT : Fld := ⟨0x1008, 4, 1, .w1c, .h, 0, false⟩
/-- R538 -/
def PWR_EVENTS_ABORTED : Fld := ⟨0x1008, 3, 1, .w1c, .h, 0, false⟩
/-- R550 -/
def PWR_EVENTS_REFUSED : Fld := ⟨0x1008, 2, 1, .w1c, .h, 0, false⟩
/-- A wake reached ACTIVE -/
def PWR_EVENTS_WOKE : Fld := ⟨0x1008, 1, 1, .w1c, .h, 0, false⟩
/-- RETAIN reached -/
def PWR_EVENTS_ENTERED : Fld := ⟨0x1008, 0, 1, .w1c, .h, 0, false⟩
/-! PWR_CORE_COUNT: 16_power_states.md Table 16.14 -/
/-- RETAIN entries, saturating -/
def PWR_CORE_COUNT_ENTRIES : Fld := ⟨0x100C, 16, 16, .ro, .h, 0, false⟩
/-- Saturating -/
def PWR_CORE_COUNT_REFUSED : Fld := ⟨0x100C, 8, 8, .ro, .h, 0, false⟩
/-- Saturating -/
def PWR_CORE_COUNT_ABORTED : Fld := ⟨0x100C, 0, 8, .ro, .h, 0, false⟩
/-! PWR_CORE_LAST: 16_power_states.md Table 16.15 -/
/-- R537 -/
def PWR_CORE_LAST_LAST_REFUSER : Fld := ⟨0x1010, 27, 5, .ro, .h, 31, true⟩
/-- R537 -/
def PWR_CORE_LAST_LAST_ABORTER : Fld := ⟨0x1010, 22, 5, .ro, .h, 31, true⟩
/-- R541, saturating -/
def PWR_CORE_LAST_WAKE_RETRIES : Fld := ⟨0x1010, 14, 8, .ro, .h, 0, false⟩
/-- R541, saturating -/
def PWR_CORE_LAST_WAKE_FAULTS : Fld := ⟨0x1010, 6, 8, .ro, .h, 0, true⟩
/-- R544, saturating -/
def PWR_CORE_LAST_EARLY_DROPS : Fld := ⟨0x1010, 0, 6, .ro, .h, 0, true⟩
/-! PWR_RESTORE_LOST: 16_power_states.md Table 16.16 -/
/-- Table 16.6 -/
def PWR_RESTORE_LOST_CTX : Fld := ⟨0x1014, 11, 1, .w1c, .h, 0, false⟩
/-- Table 16.6 -/
def PWR_RESTORE_LOST_RING : Fld := ⟨0x1014, 10, 1, .w1c, .h, 0, false⟩
/-- Table 16.6 -/
def PWR_RESTORE_LOST_CORE : Fld := ⟨0x1014, 9, 1, .w1c, .h, 0, false⟩
/-- Table 16.6 -/
def PWR_RESTORE_LOST_SAVE : Fld := ⟨0x1014, 8, 1, .w1c, .h, 0, false⟩
/-- Bit n: bank 40 + n failed -/
def PWR_RESTORE_LOST_PORT : Fld := ⟨0x1014, 0, 8, .w1c, .h, 0, false⟩
/-! PWR_VOTES: 16_power_states.md Table 16.17 -/
/-- Bit k: client k votes for CORE -/
def PWR_VOTES_CORE : Fld := ⟨0x1020, 16, 16, .ro, .h, 1, true⟩
/-- Bit n: LPn votes for PORTn -/
def PWR_VOTES_PORT : Fld := ⟨0x1020, 8, 8, .ro, .h, 255, true⟩
/-! PWR_DOZE: 16_power_states.md Table 16.18 -/
/-- Bit n: LPn in DOZE -/
def PWR_DOZE_IN_DOZE : Fld := ⟨0x1024, 24, 8, .ro, .h, 0, true⟩
/-- Bit n: doze request in force -/
def PWR_DOZE_REQ : Fld := ⟨0x1024, 16, 8, .ro, .h, 0, true⟩
/-- Bit n: request made by step 5, R549 -/
def PWR_DOZE_SHED : Fld := ⟨0x1024, 8, 8, .ro, .h, 0, true⟩
/-- Bit n: LPn was started when it dozed -/
def PWR_DOZE_STARTED : Fld := ⟨0x1024, 0, 8, .ro, .h, 0, true⟩
/-! PWR_CAP: 16_power_states.md Table 16.19 -/
/-- Cap in force, 10 mW; 0 none -/
def PWR_CAP_CAP : Fld := ⟨0x1028, 16, 16, .ro, .h, 0, true⟩
/-- Average device power over the last 10 ms, 10 mW -/
def PWR_CAP_DEV_POWER : Fld := ⟨0x1028, 0, 16, .ro, .s, 0, true⟩
/-! THM_WAKE: 17_thermal.md Table 17.6 -/
/-- Monitor input converted in RETAIN, R571 -/
def THM_WAKE_WAKE_INPUT : Fld := ⟨0x1018, 27, 5, .rw, .h, 0, false⟩
/-- Wake at or below this code; 0 never -/
def THM_WAKE_WAKE_CODE : Fld := ⟨0x1018, 15, 12, .rw, .h, 396, false⟩
/-! THM_QREC: 17_thermal.md Table 17.7 -/
/-- Quench record awaiting commit -/
def THM_QREC_VALID : Fld := ⟨0x101C, 31, 1, .ro, .k, 0, true⟩
/-- Record ZONE -/
def THM_QREC_ZONE : Fld := ⟨0x101C, 27, 4, .ro, .k, 0, true⟩
/-- Record T_EST bits 11:0 -/
def THM_QREC_T_EST : Fld := ⟨0x101C, 15, 12, .ro, .k, 0, true⟩
/-! THM_CTRL: 17_thermal.md Table 17.8 -/
/-- Case thermistor input, R557 -/
def THM_CTRL_CASE_INPUT : Fld := ⟨0x1200, 27, 5, .rw, .n, 0, false⟩
/-- 0 thermistor, 1 host report -/
def THM_CTRL_REF_SRC : Fld := ⟨0x1200, 26, 1, .rw, .n, 0, false⟩
/-- ms, R567; below 2 taken as 2, above 50 as 50 -/
def THM_CTRL_HORIZON : Fld := ⟨0x1200, 20, 6, .rw, .n, 10, false⟩
/-- s, R558; 0 taken as 1 -/
def THM_CTRL_REPORT_AGE : Fld := ⟨0x1200, 12, 8, .rw, .n, 10, false⟩
/-- Thermal events signal VECTOR -/
def THM_CTRL_IRQ_EN : Fld := ⟨0x1200, 11, 1, .rw, .n, 0, false⟩
/-- THM vector, 0–63 -/
def THM_CTRL_VECTOR : Fld := ⟨0x1200, 5, 6, .rw, .n, 0, false⟩
/-! THM_STATUS: 17_thermal.md Table 17.9 -/
/-- 0 NORMAL, 1 WARN, 2 THROTTLE, 3 ORDERLY, 4 HARD, 5 HOLD -/
def THM_STATUS_STATE : Fld := ⟨0x1204, 29, 3, .ro, .s, 0, true⟩
/-- Zone -/
def THM_STATUS_HOTTEST : Fld := ⟨0x1204, 25, 4, .ro, .s, 0, true⟩
/-- 0.1 °C, two's complement -/
def THM_STATUS_T_MAX : Fld := ⟨0x1204, 13, 12, .ro, .s, 0, true⟩
/-- As Table 17.5 -/
def THM_STATUS_RATE : Fld := ⟨0x1204, 11, 2, .ro, .s, 0, true⟩
/-- R561 -/
def THM_STATUS_GUARD : Fld := ⟨0x1204, 10, 1, .ro, .s, 0, true⟩
/-- R558 -/
def THM_STATUS_REF_SUBST : Fld := ⟨0x1204, 9, 1, .ro, .s, 0, true⟩
/-! THM_REF: 17_thermal.md Table 17.10 -/
/-- Reference in use, 0.1 °C; 0x0352 is 85.0 °C -/
def THM_REF_REF : Fld := ⟨0x1208, 16, 16, .ro, .s, 850, true⟩
/-- Thermistor reading, 0.1 °C; 0x8000 invalid -/
def THM_REF_CASE_MEAS : Fld := ⟨0x1208, 0, 16, .ro, .s, 32768, true⟩
/-! THM_SUBST: 17_thermal.md Table 17.11 -/
/-- Bit j: Zj on rated power, R556 -/
def THM_SUBST_ZONES : Fld := ⟨0x120C, 0, 12, .ro, .s, 0, true⟩
/-! THM_EVENTS: 17_thermal.md Table 17.12 -/
/-- R569 -/
def THM_EVENTS_RECORD_COMMITTED : Fld := ⟨0x1210, 7, 1, .w1c, .s, 0, false⟩
/-- A report expired, R558 -/
def THM_EVENTS_REPORT_STALE : Fld := ⟨0x1210, 6, 1, .w1c, .s, 0, false⟩
/-- The guard has acted -/
def THM_EVENTS_GUARD : Fld := ⟨0x1210, 5, 1, .w1c, .s, 0, false⟩
/-- R565 -/
def THM_EVENTS_SENSOR_FAULT : Fld := ⟨0x1210, 4, 1, .w1c, .s, 0, false⟩
/-- R569 -/
def THM_EVENTS_QUENCH_HARD : Fld := ⟨0x1210, 3, 1, .w1c, .s, 0, false⟩
/-- Table 17.3 -/
def THM_EVENTS_QUENCH_ORDERLY : Fld := ⟨0x1210, 2, 1, .w1c, .s, 0, false⟩
/-- THROTTLE reached -/
def THM_EVENTS_THROTTLE : Fld := ⟨0x1210, 1, 1, .w1c, .s, 0, false⟩
/-- WARN reached -/
def THM_EVENTS_WARN : Fld := ⟨0x1210, 0, 1, .w1c, .s, 0, false⟩
/-! THM_COUNT: 17_thermal.md Table 17.13 -/
/-- Saturating -/
def THM_COUNT_THROTTLES : Fld := ⟨0x1214, 16, 16, .ro, .s, 0, false⟩
/-- Saturating -/
def THM_COUNT_ORDERLY : Fld := ⟨0x1214, 8, 8, .ro, .s, 0, false⟩
/-- Saturating -/
def THM_COUNT_HARD : Fld := ⟨0x1214, 0, 8, .ro, .s, 0, false⟩
/-! THM_ZONEj: 17_thermal.md Table 17.14 -/
/-- T_j, 0.1 °C, two's complement -/
def THM_ZONEj_TEMP (i : Nat) : Fld := ⟨0x1240 + 0x4 * i, 16, 16, .ro, .s, 0, true⟩
/-- Zone power in use, mW -/
def THM_ZONEj_POWER (i : Nat) : Fld := ⟨0x1240 + 0x4 * i, 0, 16, .ro, .s, 0, true⟩
/-! EVR_CTRL: 18_event_records_and_time.md Table 18.6 -/
/-- R579 -/
def EVR_CTRL_STOP_FULL : Fld := ⟨0xD000, 31, 1, .rw, .n, 0, false⟩
/-- Page-program time, 10 µs; 0 taken as 1 -/
def EVR_CTRL_FLASH_TPP : Fld := ⟨0xD000, 23, 8, .rw, .n, 40, false⟩
/-- Bit c − 1 enables trace category c, 1–23 -/
def EVR_CTRL_TRACE_MASK : Fld := ⟨0xD000, 0, 23, .rw, .n, 0, false⟩
/-! EVR_STATUS: 18_event_records_and_time.md Table 18.7 -/
/-- R587 -/
def EVR_STATUS_FROZEN : Fld := ⟨0xD004, 31, 1, .ro, .s, 0, true⟩
/-- Flush in progress -/
def EVR_STATUS_FLUSHING : Fld := ⟨0xD004, 30, 1, .ro, .s, 0, true⟩
/-- R586 -/
def EVR_STATUS_END : Fld := ⟨0xD004, 29, 1, .ro, .s, 0, true⟩
/-- R586 -/
def EVR_STATUS_GONE : Fld := ⟨0xD004, 28, 1, .ro, .s, 0, true⟩
/-- Records awaiting flash, 0–64 -/
def EVR_STATUS_BUFFERED : Fld := ⟨0xD004, 21, 7, .ro, .s, 0, true⟩
/-- Sector being written -/
def EVR_STATUS_WR_SECTOR : Fld := ⟨0xD004, 13, 8, .ro, .s, 0, true⟩
/-- Next trace entry index -/
def EVR_STATUS_TRACE_NEXT : Fld := ⟨0xD004, 0, 13, .ro, .s, 0, true⟩
/-! EVR_EVENTS: 18_event_records_and_time.md Table 18.8 -/
/-- R587 -/
def EVR_EVENTS_FREEZE_EXPIRED : Fld := ⟨0xD008, 3, 1, .w1c, .s, 0, false⟩
/-- R579 -/
def EVR_EVENTS_STORE_FULL : Fld := ⟨0xD008, 2, 1, .w1c, .s, 0, false⟩
/-- R581 -/
def EVR_EVENTS_BUF_FULL : Fld := ⟨0xD008, 1, 1, .w1c, .s, 0, false⟩
/-- A power-fail flush ran and supplies stayed -/
def EVR_EVENTS_POWER_FAIL : Fld := ⟨0xD008, 0, 1, .w1c, .s, 0, false⟩
/-! EVR_COUNT: 18_event_records_and_time.md Table 18.9 -/
/-- Saturating -/
def EVR_COUNT_BUF_DROPS : Fld := ⟨0xD00C, 16, 16, .ro, .s, 0, false⟩
/-- Saturating -/
def EVR_COUNT_STORE_DROPS : Fld := ⟨0xD00C, 0, 16, .ro, .s, 0, false⟩
/-! EVR_SEQ: 18_event_records_and_time.md Table 18.10 -/
/-- Next SEQ, HOURS or CYCLES -/
def EVR_SEQ_VALUE : Fld := ⟨0xD010, 0, 32, .ro, .n, 0, true⟩
/-! EVR_HOURS: 18_event_records_and_time.md Table 18.10 -/
/-- Next SEQ, HOURS or CYCLES -/
def EVR_HOURS_VALUE : Fld := ⟨0xD014, 0, 32, .ro, .n, 0, true⟩
/-! EVR_CYCLES: 18_event_records_and_time.md Table 18.10 -/
/-- Next SEQ, HOURS or CYCLES -/
def EVR_CYCLES_VALUE : Fld := ⟨0xD018, 0, 32, .ro, .n, 0, true⟩
/-! EVR_CURSOR: 18_event_records_and_time.md Table 18.11 -/
/-- SEQ in the window, R586 -/
def EVR_CURSOR_CURSOR : Fld := ⟨0xD01C, 0, 32, .rw, .s, 4294967295, false⟩
/-! EVR_WINk: 18_event_records_and_time.md Table 18.12 -/
/-- Record bytes 4k to 4k + 3, little-endian -/
def EVR_WINk_DATA (i : Nat) : Fld := ⟨0xD040 + 0x4 * i, 0, 32, .ro, .s, 0, true⟩
/-! RTC_CTRL: 18_event_records_and_time.md Table 18.13 -/
/-- R591, two's complement -/
def RTC_CTRL_CORR : Fld := ⟨0xD100, 22, 10, .ro, .k, 0, true⟩
/-- R593 -/
def RTC_CTRL_ALARM_EN : Fld := ⟨0xD100, 21, 1, .ro, .k, 0, true⟩
/-! RTC_STATUS: 18_event_records_and_time.md Table 18.14 -/
/-- R594 -/
def RTC_STATUS_RTC_VALID : Fld := ⟨0xD104, 31, 1, .ro, .k, 0, true⟩
/-- R592 -/
def RTC_STATUS_RTC_LOST : Fld := ⟨0xD104, 30, 1, .w1c, .k, 1, false⟩
/-- R593 -/
def RTC_STATUS_ALARM : Fld := ⟨0xD104, 29, 1, .w1c, .k, 0, false⟩
/-! RTC_SEC: 18_event_records_and_time.md Table 18.15 -/
/-- RTC_SEC now, or ALARM -/
def RTC_SEC_VALUE : Fld := ⟨0xD108, 0, 32, .ro, .k, 0, true⟩
/-! RTC_ALARM: 18_event_records_and_time.md Table 18.15 -/
/-- RTC_SEC now, or ALARM -/
def RTC_ALARM_VALUE : Fld := ⟨0xD10C, 0, 32, .ro, .k, 0, true⟩
/-! GLB_BOOT_STATUS: 19_reset_boot_and_configuration.md Table 19.14 -/
/-- Table 19.4, step 7 -/
def GLB_BOOT_STATUS_BOOT_DONE : Fld := ⟨0x0100, 31, 1, .ro, .h, 0, true⟩
/-- R610 -/
def GLB_BOOT_STATUS_RECOVERY : Fld := ⟨0x0100, 30, 1, .ro, .h, 0, true⟩
/-- Running slot: 0 A, 1 B -/
def GLB_BOOT_STATUS_IMAGE : Fld := ⟨0x0100, 29, 1, .ro, .h, 0, true⟩
/-- Trial in force -/
def GLB_BOOT_STATUS_TRIAL : Fld := ⟨0x0100, 28, 1, .ro, .h, 0, true⟩
/-- Slot selected by boot control -/
def GLB_BOOT_STATUS_COMMITTED_IMAGE : Fld := ⟨0x0100, 27, 1, .ro, .h, 0, true⟩
/-- A block is defaulted, R605 -/
def GLB_BOOT_STATUS_CFG_DEFAULTED : Fld := ⟨0x0100, 26, 1, .ro, .h, 0, true⟩
/-- STRAP[3:0] -/
def GLB_BOOT_STATUS_STRAP : Fld := ⟨0x0100, 22, 4, .ro, .h, 0, true⟩
/-- OTP rollback counter, 0–64 -/
def GLB_BOOT_STATUS_ROLLBACK : Fld := ⟨0x0100, 15, 7, .ro, .h, 0, true⟩
/-! GLB_CFG_STATUS: 19_reset_boot_and_configuration.md Table 19.15 -/
/-- Bit t: type t had no committed copy -/
def GLB_CFG_STATUS_ABSENT : Fld := ⟨0x0104, 16, 16, .ro, .h, 0, true⟩
/-- Bit t: type t failed its check -/
def GLB_CFG_STATUS_DEFAULTED : Fld := ⟨0x0104, 0, 16, .ro, .h, 0, true⟩
/-! GLB_RESET_CAUSE: 19_reset_boot_and_configuration.md Table 19.16 -/
/-- 0 power-on, 1 RESET_N, 2 host hard, 3 soft, 4 core, 5 watchdog -/
def GLB_RESET_CAUSE_LAST : Fld := ⟨0x0108, 29, 3, .ro, .k, 0, true⟩
/-- 0 none, 1 memory error, 2 retention bank, 3 load failure, 4 watchdog -/
def GLB_RESET_CAUSE_CORE_CAUSE : Fld := ⟨0x0108, 26, 3, .ro, .k, 0, true⟩
/-! GLB_RESET_COUNT: 19_reset_boot_and_configuration.md Table 19.17 -/
/-- Saturating -/
def GLB_RESET_COUNT_WATCHDOGS : Fld := ⟨0x010C, 24, 8, .ro, .h, 0, false⟩
/-- Saturating -/
def GLB_RESET_COUNT_CORE_RESETS : Fld := ⟨0x010C, 16, 8, .ro, .h, 0, false⟩
/-- Saturating -/
def GLB_RESET_COUNT_SOFT_RESETS : Fld := ⟨0x010C, 8, 8, .ro, .h, 0, false⟩
/-- Firmware switches, saturating -/
def GLB_RESET_COUNT_SWITCHES : Fld := ⟨0x010C, 0, 8, .ro, .h, 0, false⟩
/-! GLB_WDT: 19_reset_boot_and_configuration.md Table 19.18 -/
/-- R614 -/
def GLB_WDT_WDT_EN : Fld := ⟨0x0110, 31, 1, .rw, .h, 1, false⟩
/-- 100 ms × value; 0 taken as 1 -/
def GLB_WDT_WDT_TIMEOUT : Fld := ⟨0x0110, 24, 7, .rw, .h, 10, false⟩
/-! GLB_BOOT_EVENTS: 19_reset_boot_and_configuration.md Table 19.19 -/
/-- R609 -/
def GLB_BOOT_EVENTS_TRIAL_ENDED : Fld := ⟨0x0114, 6, 1, .w1c, .h, 0, false⟩
/-- R612 -/
def GLB_BOOT_EVENTS_ROLLBACK_RAISED : Fld := ⟨0x0114, 5, 1, .w1c, .h, 0, false⟩
/-- R609 -/
def GLB_BOOT_EVENTS_IMAGE_FALLBACK : Fld := ⟨0x0114, 4, 1, .w1c, .h, 0, false⟩
/-- R605 -/
def GLB_BOOT_EVENTS_CFG_DEFAULTED : Fld := ⟨0x0114, 3, 1, .w1c, .h, 0, false⟩
/-- A soft reset occurred -/
def GLB_BOOT_EVENTS_SOFT_RESET : Fld := ⟨0x0114, 2, 1, .w1c, .h, 0, false⟩
/-- A core reset occurred -/
def GLB_BOOT_EVENTS_CORE_RESET : Fld := ⟨0x0114, 1, 1, .w1c, .h, 0, false⟩
/-- R614 -/
def GLB_BOOT_EVENTS_WATCHDOG : Fld := ⟨0x0114, 0, 1, .w1c, .h, 0, false⟩
/-! GLB_FW_VERSION: 19_reset_boot_and_configuration.md Table 19.20 -/
/-- Running image's FW_VERSION; 0 in recovery -/
def GLB_FW_VERSION_FW_VERSION : Fld := ⟨0x0118, 0, 32, .ro, .h, 0, true⟩
/-! GLB_HW_STATUS: 20_electrical_and_package.md Table 20.15 -/
/-- REFCLK_LINE toggling -/
def GLB_HW_STATUS_REFCLK_LINE_OK : Fld := ⟨0x0120, 31, 1, .ro, .h, 0, true⟩
/-- REFCLK_HOST toggling -/
def GLB_HW_STATUS_REFCLK_HOST_OK : Fld := ⟨0x0120, 30, 1, .ro, .h, 0, true⟩
/-- Crystal oscillating -/
def GLB_HW_STATUS_XTAL_OK : Fld := ⟨0x0120, 29, 1, .ro, .h, 0, true⟩
/-- Line PLLs locked to REFCLK_LINE -/
def GLB_HW_STATUS_PLL_LINE_LOCK : Fld := ⟨0x0120, 28, 1, .ro, .h, 0, true⟩
/-- Host PLLs locked to REFCLK_HOST -/
def GLB_HW_STATUS_PLL_HOST_LOCK : Fld := ⟨0x0120, 27, 1, .ro, .h, 0, true⟩
/-- A PLL in hold under R621 -/
def GLB_HW_STATUS_PLL_HOLD : Fld := ⟨0x0120, 26, 1, .ro, .h, 0, true⟩
/-! GLB_HW_EVENTS: 20_electrical_and_package.md Table 20.16 -/
/-- Last brown-out: 0 none, 1 VDD_CORE, 2 VDD_ANA, 3 VDD_HV, 4 VDD_AUX -/
def GLB_HW_EVENTS_BROWNOUT_RAIL : Fld := ⟨0x0124, 4, 4, .ro, .k, 0, true⟩
/-- R618 -/
def GLB_HW_EVENTS_BROWNOUT : Fld := ⟨0x0124, 3, 1, .w1c, .k, 0, false⟩
/-- R622 -/
def GLB_HW_EVENTS_XTAL_STOPPED : Fld := ⟨0x0124, 2, 1, .w1c, .h, 0, false⟩
/-- R621 -/
def GLB_HW_EVENTS_REFCLK_HOST_LOST : Fld := ⟨0x0124, 1, 1, .w1c, .s, 0, false⟩
/-- R621 -/
def GLB_HW_EVENTS_REFCLK_LINE_LOST : Fld := ⟨0x0124, 0, 1, .w1c, .s, 0, false⟩
/-- LPn_SNR_A and LPn_SNR_B by level 0 to 3 and pair -/
def LPn_SNR (i : Nat) (x : Pair) (l : Nat) : Fld :=
  match x, l with
  | .a, 0 => LPn_SNR_A_L0 i | .a, 1 => LPn_SNR_A_L1 i | .a, 2 => LPn_SNR_A_L2 i | .a, _ => LPn_SNR_A_L3 i
  | .b, 0 => LPn_SNR_B_L0 i | .b, 1 => LPn_SNR_B_L1 i | .b, 2 => LPn_SNR_B_L2 i | .b, _ => LPn_SNR_B_L3 i
/-- HYB_R_x_USED of a pair -/
def LPn_HYB_CTRL_HYB_R_USED (i : Nat) : Pair → Fld
  | .a => LPn_HYB_CTRL_HYB_R_A_USED i
  | .b => LPn_HYB_CTRL_HYB_R_B_USED i
/-- HYB_C_x_USED of a pair -/
def LPn_HYB_CTRL_HYB_C_USED (i : Nat) : Pair → Fld
  | .a => LPn_HYB_CTRL_HYB_C_A_USED i
  | .b => LPn_HYB_CTRL_HYB_C_B_USED i
/-- EN of canceller window w of a pair -/
def LPn_ECHO_WIN_EN (i : Nat) (x : Pair) (w : Nat) : Fld :=
  match x, w with
  | .a, 0 => LPn_ECHO_WIN_A01_EN_LO i | .a, 1 => LPn_ECHO_WIN_A01_EN_HI i
  | .a, 2 => LPn_ECHO_WIN_A23_EN_LO i | .a, _ => LPn_ECHO_WIN_A23_EN_HI i
  | .b, 0 => LPn_ECHO_WIN_B01_EN_LO i | .b, 1 => LPn_ECHO_WIN_B01_EN_HI i
  | .b, 2 => LPn_ECHO_WIN_B23_EN_LO i | .b, _ => LPn_ECHO_WIN_B23_EN_HI i
/-- BAD of canceller window w of a pair -/
def LPn_ECHO_WIN_BAD (i : Nat) (x : Pair) (w : Nat) : Fld :=
  match x, w with
  | .a, 0 => LPn_ECHO_WIN_A01_BAD_LO i | .a, 1 => LPn_ECHO_WIN_A01_BAD_HI i
  | .a, 2 => LPn_ECHO_WIN_A23_BAD_LO i | .a, _ => LPn_ECHO_WIN_A23_BAD_HI i
  | .b, 0 => LPn_ECHO_WIN_B01_BAD_LO i | .b, 1 => LPn_ECHO_WIN_B01_BAD_HI i
  | .b, 2 => LPn_ECHO_WIN_B23_BAD_LO i | .b, _ => LPn_ECHO_WIN_B23_BAD_HI i
/-- START of canceller window w of a pair -/
def LPn_ECHO_WIN_START (i : Nat) (x : Pair) (w : Nat) : Fld :=
  match x, w with
  | .a, 0 => LPn_ECHO_WIN_A01_START_LO i | .a, 1 => LPn_ECHO_WIN_A01_START_HI i
  | .a, 2 => LPn_ECHO_WIN_A23_START_LO i | .a, _ => LPn_ECHO_WIN_A23_START_HI i
  | .b, 0 => LPn_ECHO_WIN_B01_START_LO i | .b, 1 => LPn_ECHO_WIN_B01_START_HI i
  | .b, 2 => LPn_ECHO_WIN_B23_START_LO i | .b, _ => LPn_ECHO_WIN_B23_START_HI i
/-- TAPS_LO of a pair -/
def LPn_TX_USER (i : Nat) : Pair → Fld
  | .a => LPn_TX_USER_A_TAPS_LO i
  | .b => LPn_TX_USER_B_TAPS_LO i
/-- TAPS_HI of a pair -/
def LPn_TX_USER_HI (i : Nat) : Pair → Fld
  | .a => LPn_TX_USER_A_HI_TAPS_HI i
  | .b => LPn_TX_USER_B_HI_TAPS_HI i

/-- The registers of the block at 0x0000 -/
def rows0 : List RegRow :=
  [ ⟨0x0000, 0x1, 1,
      [fun _ => GLB_ID_PART, fun _ => GLB_ID_REV_MAJ, fun _ => GLB_ID_REV_MIN]⟩,
    ⟨0x0004, 0x1, 1,
      [fun _ => GLB_CAPS_PORTS, fun _ => GLB_CAPS_LANES, fun _ => GLB_CAPS_VECTORS, fun _ => GLB_CAPS_CTX_LOG2]⟩,
    ⟨0x0008, 0x1, 1,
      [fun _ => GLB_TRANSPORT_BOOT, fun _ => GLB_TRANSPORT_PCIE_EN, fun _ => GLB_TRANSPORT_SPI_EN, fun _ => GLB_TRANSPORT_MDIO_EN, fun _ => GLB_TRANSPORT_PRTAD_BASE]⟩,
    ⟨0x0010, 0x1, 1,
      [fun _ => GLB_ADMIN_CTRL_ENABLE, fun _ => GLB_ADMIN_CTRL_IRQ_EN, fun _ => GLB_ADMIN_CTRL_SQ_LOG2, fun _ => GLB_ADMIN_CTRL_CQ_LOG2, fun _ => GLB_ADMIN_CTRL_VECTOR]⟩,
    ⟨0x0014, 0x1, 1,
      [fun _ => GLB_ADMIN_SQ_LO_BASE]⟩,
    ⟨0x0018, 0x1, 1,
      [fun _ => GLB_ADMIN_SQ_HI_BASE]⟩,
    ⟨0x001C, 0x1, 1,
      [fun _ => GLB_ADMIN_CQ_LO_BASE]⟩,
    ⟨0x0020, 0x1, 1,
      [fun _ => GLB_ADMIN_CQ_HI_BASE]⟩,
    ⟨0x0024, 0x1, 1,
      [fun _ => GLB_ADMIN_STATUS_READY, fun _ => GLB_ADMIN_STATUS_FAULT]⟩,
    ⟨0x0030, 0x1, 1,
      [fun _ => GLB_INT_CTRL_PIN_EN, fun _ => GLB_INT_CTRL_MSIX_ON]⟩,
    ⟨0x0034, 0x1, 1,
      [fun _ => GLB_INT_PEND_LO_PEND]⟩,
    ⟨0x0038, 0x1, 1,
      [fun _ => GLB_INT_PEND_HI_PEND]⟩ ] ++
  [ ⟨0x003C, 0x1, 1,
      [fun _ => GLB_INT_MASK_LO_MASK]⟩,
    ⟨0x0040, 0x1, 1,
      [fun _ => GLB_INT_MASK_HI_MASK]⟩,
    ⟨0x0044, 0x1, 1,
      [fun _ => GLB_RING_EVENTS_RESTORE_LOST, fun _ => GLB_RING_EVENTS_EVT_LOST, fun _ => GLB_RING_EVENTS_TEL_DROP, fun _ => GLB_RING_EVENTS_FETCH_FAIL, fun _ => GLB_RING_EVENTS_DB_BAD, fun _ => GLB_RING_EVENTS_DB_IGNORED]⟩,
    ⟨0x0048, 0x1, 1,
      [fun _ => GLB_RING_COUNT_DB_IGNORED, fun _ => GLB_RING_COUNT_RETRIED]⟩,
    ⟨0x0100, 0x1, 1,
      [fun _ => GLB_BOOT_STATUS_BOOT_DONE, fun _ => GLB_BOOT_STATUS_RECOVERY, fun _ => GLB_BOOT_STATUS_IMAGE, fun _ => GLB_BOOT_STATUS_TRIAL, fun _ => GLB_BOOT_STATUS_COMMITTED_IMAGE, fun _ => GLB_BOOT_STATUS_CFG_DEFAULTED, fun _ => GLB_BOOT_STATUS_STRAP, fun _ => GLB_BOOT_STATUS_ROLLBACK]⟩,
    ⟨0x0104, 0x1, 1,
      [fun _ => GLB_CFG_STATUS_ABSENT, fun _ => GLB_CFG_STATUS_DEFAULTED]⟩,
    ⟨0x0108, 0x1, 1,
      [fun _ => GLB_RESET_CAUSE_LAST, fun _ => GLB_RESET_CAUSE_CORE_CAUSE]⟩,
    ⟨0x010C, 0x1, 1,
      [fun _ => GLB_RESET_COUNT_WATCHDOGS, fun _ => GLB_RESET_COUNT_CORE_RESETS, fun _ => GLB_RESET_COUNT_SOFT_RESETS, fun _ => GLB_RESET_COUNT_SWITCHES]⟩,
    ⟨0x0110, 0x1, 1,
      [fun _ => GLB_WDT_WDT_EN, fun _ => GLB_WDT_WDT_TIMEOUT]⟩,
    ⟨0x0114, 0x1, 1,
      [fun _ => GLB_BOOT_EVENTS_TRIAL_ENDED, fun _ => GLB_BOOT_EVENTS_ROLLBACK_RAISED, fun _ => GLB_BOOT_EVENTS_IMAGE_FALLBACK, fun _ => GLB_BOOT_EVENTS_CFG_DEFAULTED, fun _ => GLB_BOOT_EVENTS_SOFT_RESET, fun _ => GLB_BOOT_EVENTS_CORE_RESET, fun _ => GLB_BOOT_EVENTS_WATCHDOG]⟩,
    ⟨0x0118, 0x1, 1,
      [fun _ => GLB_FW_VERSION_FW_VERSION]⟩,
    ⟨0x0120, 0x1, 1,
      [fun _ => GLB_HW_STATUS_REFCLK_LINE_OK, fun _ => GLB_HW_STATUS_REFCLK_HOST_OK, fun _ => GLB_HW_STATUS_XTAL_OK, fun _ => GLB_HW_STATUS_PLL_LINE_LOCK, fun _ => GLB_HW_STATUS_PLL_HOST_LOCK, fun _ => GLB_HW_STATUS_PLL_HOLD]⟩ ] ++
  [ ⟨0x0124, 0x1, 1,
      [fun _ => GLB_HW_EVENTS_BROWNOUT_RAIL, fun _ => GLB_HW_EVENTS_BROWNOUT, fun _ => GLB_HW_EVENTS_XTAL_STOPPED, fun _ => GLB_HW_EVENTS_REFCLK_HOST_LOST, fun _ => GLB_HW_EVENTS_REFCLK_LINE_LOST]⟩ ]
/-- The registers of the block at 0x1000 -/
def rows1 : List RegRow :=
  [ ⟨0x1100, 0x1, 1,
      [fun _ => PWR_GOV_CTRL_VSTART, fun _ => PWR_GOV_CTRL_VMAX_SW, fun _ => PWR_GOV_CTRL_VMIN_SW, fun _ => PWR_GOV_CTRL_DOWN_DWELL, fun _ => PWR_GOV_CTRL_INTERVAL, fun _ => PWR_GOV_CTRL_MODE]⟩,
    ⟨0x1104, 0x1, 1,
      [fun _ => PWR_GOV_STATUS_VCMD, fun _ => PWR_GOV_STATUS_VDEMAND, fun _ => PWR_GOV_STATUS_WORST_SLACK, fun _ => PWR_GOV_STATUS_WORST_ID, fun _ => PWR_GOV_STATUS_AT_CEILING, fun _ => PWR_GOV_STATUS_OVER_SWMAX, fun _ => PWR_GOV_STATUS_LULL_HOLD, fun _ => PWR_GOV_STATUS_AVS_FAULT]⟩,
    ⟨0x1108, 0x1, 1,
      [fun _ => PWR_GOV_EVENTS_CEILING, fun _ => PWR_GOV_EVENTS_AVS_FAULT, fun _ => PWR_GOV_EVENTS_SW_MAX_EXCEEDED, fun _ => PWR_GOV_EVENTS_CAP_UNMET, fun _ => PWR_GOV_EVENTS_SLACK_LOW]⟩,
    ⟨0x110C, 0x1, 1,
      [fun _ => PWR_GOV_COUNT_SLACK_LOW_COUNT, fun _ => PWR_GOV_COUNT_AVS_RETRY_COUNT]⟩,
    ⟨0x1110, 0x1, 1,
      [fun _ => PWR_GOV_AVS_RAIL, fun _ => PWR_GOV_AVS_CLK_DIV]⟩,
    ⟨0x1114, 0x1, 1,
      [fun _ => PWR_SHED_STATUS_ITER_CEIL, fun _ => PWR_SHED_STATUS_SPARSE_OFF, fun _ => PWR_SHED_STATUS_MON_LP, fun _ => PWR_SHED_STATUS_LULL_SHED, fun _ => PWR_SHED_STATUS_DOZE_SHED, fun _ => PWR_SHED_STATUS_CAUSE_CAP, fun _ => PWR_SHED_STATUS_CAUSE_THROTTLE]⟩,
    ⟨0x1000, 0x1, 1,
      [fun _ => PWR_STATE_STATE, fun _ => PWR_STATE_WAKE_STEP, fun _ => PWR_STATE_LAST_WAKE, fun _ => PWR_STATE_LAST_PORT, fun _ => PWR_STATE_WAKE_FAULT, fun _ => PWR_STATE_WAKE_REQ]⟩,
    ⟨0x1004, 0x1, 1,
      [fun _ => PWR_WAKE_EN_LINK_EN, fun _ => PWR_WAKE_EN_DB_EN, fun _ => PWR_WAKE_EN_SER_EN, fun _ => PWR_WAKE_EN_RTC_EN, fun _ => PWR_WAKE_EN_LINGER]⟩,
    ⟨0x1008, 0x1, 1,
      [fun _ => PWR_EVENTS_LINK_WAKE, fun _ => PWR_EVENTS_EARLY_DROP, fun _ => PWR_EVENTS_DOZE, fun _ => PWR_EVENTS_RESTORE_LOST, fun _ => PWR_EVENTS_WAKE_FAULT, fun _ => PWR_EVENTS_ABORTED, fun _ => PWR_EVENTS_REFUSED, fun _ => PWR_EVENTS_WOKE, fun _ => PWR_EVENTS_ENTERED]⟩,
    ⟨0x100C, 0x1, 1,
      [fun _ => PWR_CORE_COUNT_ENTRIES, fun _ => PWR_CORE_COUNT_REFUSED, fun _ => PWR_CORE_COUNT_ABORTED]⟩,
    ⟨0x1010, 0x1, 1,
      [fun _ => PWR_CORE_LAST_LAST_REFUSER, fun _ => PWR_CORE_LAST_LAST_ABORTER, fun _ => PWR_CORE_LAST_WAKE_RETRIES, fun _ => PWR_CORE_LAST_WAKE_FAULTS, fun _ => PWR_CORE_LAST_EARLY_DROPS]⟩,
    ⟨0x1014, 0x1, 1,
      [fun _ => PWR_RESTORE_LOST_CTX, fun _ => PWR_RESTORE_LOST_RING, fun _ => PWR_RESTORE_LOST_CORE, fun _ => PWR_RESTORE_LOST_SAVE, fun _ => PWR_RESTORE_LOST_PORT]⟩ ] ++
  [ ⟨0x1020, 0x1, 1,
      [fun _ => PWR_VOTES_CORE, fun _ => PWR_VOTES_PORT]⟩,
    ⟨0x1024, 0x1, 1,
      [fun _ => PWR_DOZE_IN_DOZE, fun _ => PWR_DOZE_REQ, fun _ => PWR_DOZE_SHED, fun _ => PWR_DOZE_STARTED]⟩,
    ⟨0x1028, 0x1, 1,
      [fun _ => PWR_CAP_CAP, fun _ => PWR_CAP_DEV_POWER]⟩,
    ⟨0x1018, 0x1, 1,
      [fun _ => THM_WAKE_WAKE_INPUT, fun _ => THM_WAKE_WAKE_CODE]⟩,
    ⟨0x101C, 0x1, 1,
      [fun _ => THM_QREC_VALID, fun _ => THM_QREC_ZONE, fun _ => THM_QREC_T_EST]⟩,
    ⟨0x1200, 0x1, 1,
      [fun _ => THM_CTRL_CASE_INPUT, fun _ => THM_CTRL_REF_SRC, fun _ => THM_CTRL_HORIZON, fun _ => THM_CTRL_REPORT_AGE, fun _ => THM_CTRL_IRQ_EN, fun _ => THM_CTRL_VECTOR]⟩,
    ⟨0x1204, 0x1, 1,
      [fun _ => THM_STATUS_STATE, fun _ => THM_STATUS_HOTTEST, fun _ => THM_STATUS_T_MAX, fun _ => THM_STATUS_RATE, fun _ => THM_STATUS_GUARD, fun _ => THM_STATUS_REF_SUBST]⟩,
    ⟨0x1208, 0x1, 1,
      [fun _ => THM_REF_REF, fun _ => THM_REF_CASE_MEAS]⟩,
    ⟨0x120C, 0x1, 1,
      [fun _ => THM_SUBST_ZONES]⟩,
    ⟨0x1210, 0x1, 1,
      [fun _ => THM_EVENTS_RECORD_COMMITTED, fun _ => THM_EVENTS_REPORT_STALE, fun _ => THM_EVENTS_GUARD, fun _ => THM_EVENTS_SENSOR_FAULT, fun _ => THM_EVENTS_QUENCH_HARD, fun _ => THM_EVENTS_QUENCH_ORDERLY, fun _ => THM_EVENTS_THROTTLE, fun _ => THM_EVENTS_WARN]⟩,
    ⟨0x1214, 0x1, 1,
      [fun _ => THM_COUNT_THROTTLES, fun _ => THM_COUNT_ORDERLY, fun _ => THM_COUNT_HARD]⟩,
    ⟨0x1240, 0x4, 12,
      [THM_ZONEj_TEMP, THM_ZONEj_POWER]⟩ ]
/-- The registers of the block at 0x2000 -/
def rows2 : List RegRow :=
  [ ⟨0x2000, 0x1, 1,
      [fun _ => MEM_CTRL_TEST_EN]⟩,
    ⟨0x2004, 0x1, 1,
      [fun _ => MEM_BUCKET_OVF_MASK]⟩,
    ⟨0x2008, 0x1, 1,
      [fun _ => MEM_UE_SEEN_MASK]⟩,
    ⟨0x200C, 0x1, 1,
      [fun _ => MEM_EVENTS_POISONED, fun _ => MEM_EVENTS_TEST_WRITE]⟩,
    ⟨0x2010, 0x1, 1,
      [fun _ => MEM_INT_IRQ_EN, fun _ => MEM_INT_VECTOR]⟩,
    ⟨0x2100, 0x20, 20,
      [MEM_m_SCRUB_SCRUB_EN, MEM_m_SCRUB_INTERVAL]⟩,
    ⟨0x2104, 0x20, 20,
      [MEM_m_BUCKET_CAPACITY, MEM_m_BUCKET_LEAK, MEM_m_BUCKET_LEVEL]⟩,
    ⟨0x2108, 0x20, 20,
      [MEM_m_COUNT_CE_COUNT, MEM_m_COUNT_UE_COUNT, MEM_m_COUNT_OVERFLOWS]⟩,
    ⟨0x210C, 0x20, 20,
      [MEM_m_LAST_ADDR, MEM_m_LAST_SYNDROME]⟩,
    ⟨0x2110, 0x20, 20,
      [MEM_m_POS_LAST_UE, MEM_m_POS_POS]⟩ ]
/-- The registers of the block at 0x3000 -/
def rows3 : List RegRow :=
  [ ⟨0x3000, 0x1, 1,
      [fun _ => CHK_STATUS_BUSY, fun _ => CHK_STATUS_SLOT_VALID, fun _ => CHK_STATUS_SIG_BUSY]⟩,
    ⟨0x3004, 0x1, 1,
      [fun _ => CHK_EVENTS_SIG_FAIL, fun _ => CHK_EVENTS_CHECK_FAIL, fun _ => CHK_EVENTS_WR_BUSY]⟩,
    ⟨0x3008, 0x1, 1,
      [fun _ => CHK_COUNT_CHECK_FAILS, fun _ => CHK_COUNT_CHECK_RETRIES]⟩,
    ⟨0x300C, 0x1, 1,
      [fun _ => CHK_SIG_FAIL_LO_BANKS]⟩,
    ⟨0x3010, 0x1, 1,
      [fun _ => CHK_SIG_FAIL_HI_BANKS]⟩,
    ⟨0x3100, 0x40, 4,
      [CHK_CKn_CFG_WIDTH, CHK_CKn_CFG_REFIN, CHK_CKn_CFG_REFOUT, CHK_CKn_CFG_CV_ORDER, CHK_CKn_CFG_STARTED, CHK_CKn_CFG_CONFIGURED]⟩,
    ⟨0x3104, 0x40, 4,
      [CHK_CKn_POLY_LO_VALUE]⟩,
    ⟨0x3108, 0x40, 4,
      [CHK_CKn_POLY_HI_VALUE]⟩,
    ⟨0x310C, 0x40, 4,
      [CHK_CKn_INIT_LO_VALUE]⟩,
    ⟨0x3110, 0x40, 4,
      [CHK_CKn_INIT_HI_VALUE]⟩,
    ⟨0x3114, 0x40, 4,
      [CHK_CKn_XOROUT_LO_VALUE]⟩,
    ⟨0x3118, 0x40, 4,
      [CHK_CKn_XOROUT_HI_VALUE]⟩ ] ++
  [ ⟨0x3124, 0x40, 4,
      [CHK_CKn_COUNT_LO_VALUE]⟩,
    ⟨0x3128, 0x40, 4,
      [CHK_CKn_COUNT_HI_VALUE]⟩,
    ⟨0x311C, 0x40, 4,
      [CHK_CKn_VALUE_LO_VALUE]⟩,
    ⟨0x3120, 0x40, 4,
      [CHK_CKn_VALUE_HI_VALUE]⟩ ]
/-- The registers of the block at 0x4000 -/
def rows4 : List RegRow :=
  [ ⟨0x4700, 0x800, 8,
      [LPn_SLACK_ADC_A, LPn_SLACK_ADC_B, LPn_SLACK_DAC_A, LPn_SLACK_DAC_B, LPn_SLACK_ITER_SET, LPn_SLACK_ITER_HELD, LPn_SLACK_GOV_CEIL]⟩,
    ⟨0x4704, 0x800, 8,
      [LPn_SLIP_SLIP_COUNT, LPn_SLIP_LAST_MARKED, LPn_SLIP_LAST_SRC, LPn_SLIP_SLIP]⟩,
    ⟨0x4100, 0x800, 8,
      [LPn_RXFE_CTRL_GAIN_MODE, LPn_RXFE_CTRL_GAIN_SW, LPn_RXFE_CTRL_GAIN_MIN, LPn_RXFE_CTRL_GAIN_MAX, LPn_RXFE_CTRL_AGC_TARGET, LPn_RXFE_CTRL_TRACK_INTERVAL]⟩,
    ⟨0x4104, 0x800, 8,
      [LPn_RXFE_STATUS_GAIN_A, LPn_RXFE_STATUS_GAIN_B, LPn_RXFE_STATUS_AGC_A, LPn_RXFE_STATUS_AGC_B, LPn_RXFE_STATUS_SIG_DET_A, LPn_RXFE_STATUS_SIG_DET_B, LPn_RXFE_STATUS_OVERRIDE_LIVE]⟩,
    ⟨0x4108, 0x800, 8,
      [LPn_RSSI_RSSI_A, LPn_RSSI_RSSI_B, LPn_RSSI_REF_A, LPn_RSSI_REF_B]⟩,
    ⟨0x410C, 0x800, 8,
      [LPn_SIGDET_SD_THRESH, LPn_SIGDET_SD_HYST]⟩,
    ⟨0x4110, 0x800, 8,
      [LPn_ADC_CAL_CTRL_CAL_EN, LPn_ADC_CAL_CTRL_HOLD, LPn_ADC_CAL_CTRL_STEP_PERIOD, LPn_ADC_CAL_CTRL_TEMPER_INTERVAL, LPn_ADC_CAL_CTRL_WINDOW]⟩,
    ⟨0x4114, 0x800, 8,
      [LPn_ADC_CAL_STATUS_STATE_A, LPn_ADC_CAL_STATUS_STATE_B, LPn_ADC_CAL_STATUS_POS_A, LPn_ADC_CAL_STATUS_POS_B, LPn_ADC_CAL_STATUS_FREE_A, LPn_ADC_CAL_STATUS_FREE_B, LPn_ADC_CAL_STATUS_DEGRADED_A, LPn_ADC_CAL_STATUS_DEGRADED_B, LPn_ADC_CAL_STATUS_HOLD_ACTIVE, LPn_ADC_CAL_STATUS_REHOLD_BLOCK]⟩,
    ⟨0x4118, 0x800, 8,
      [LPn_ADC_RETIRE_RET0_A, LPn_ADC_RETIRE_RET1_A, LPn_ADC_RETIRE_RET0_B, LPn_ADC_RETIRE_RET1_B]⟩,
    ⟨0x411C, 0x800, 8,
      [LPn_RX_EVENTS_TRIM_RESTORE_LOST, LPn_RX_EVENTS_OVERRIDE, LPn_RX_EVENTS_RISE, LPn_RX_EVENTS_RETIRED, LPn_RX_EVENTS_SLICE_FAIL, LPn_RX_EVENTS_CAL_STOPPED, LPn_RX_EVENTS_HOLD_EXPIRED, LPn_RX_EVENTS_CAL_RETRY, LPn_RX_EVENTS_CLIP]⟩,
    ⟨0x4120, 0x800, 8,
      [LPn_ADC_CAL_COUNT_STEPS, LPn_ADC_CAL_COUNT_RETRIES, LPn_ADC_CAL_COUNT_DISCARDS]⟩,
    ⟨0x4124, 0x800, 8,
      [LPn_ADC_TRIM_SEL_POSITION, LPn_ADC_TRIM_SEL_PAIR, LPn_ADC_TRIM_SEL_SLICE]⟩ ] ++
  [ ⟨0x4128, 0x800, 8,
      [LPn_ADC_TRIM_DATA_ROLE, LPn_ADC_TRIM_DATA_OFFSET, LPn_ADC_TRIM_DATA_GAIN, LPn_ADC_TRIM_DATA_SKEW]⟩,
    ⟨0x4200, 0x800, 8,
      [LPn_EQ_CTRL_SW_FREEZE, LPn_EQ_CTRL_DET_SEL, LPn_EQ_CTRL_WARM_START, LPn_EQ_CTRL_METRIC_WIN, LPn_EQ_CTRL_MAIN_POS, LPn_EQ_CTRL_TAPS, LPn_EQ_CTRL_SNR_MIN]⟩,
    ⟨0x4204, 0x800, 8,
      [LPn_EQ_ADAPT_MU_FFE_C, LPn_EQ_ADAPT_MU_FFE_F, LPn_EQ_ADAPT_MU_TGT_C, LPn_EQ_ADAPT_MU_TGT_F]⟩,
    ⟨0x4208, 0x800, 8,
      [LPn_CDR_CTRL_KP_ACQ, LPn_CDR_CTRL_KP_TRACK, LPn_CDR_CTRL_KI_ACQ, LPn_CDR_CTRL_KI_TRACK, LPn_CDR_CTRL_CDR_OFFSET]⟩,
    ⟨0x420C, 0x800, 8,
      [LPn_EQ_STATUS_ADAPT_A, LPn_EQ_STATUS_ADAPT_B, LPn_EQ_STATUS_CONV_A, LPn_EQ_STATUS_CONV_B, LPn_EQ_STATUS_DET_ACTIVE, LPn_EQ_STATUS_PRECODE, LPn_EQ_STATUS_WARM_USED, LPn_EQ_STATUS_FREEZE_LIVE, LPn_EQ_STATUS_SNR_ALL_A, LPn_EQ_STATUS_SNR_ALL_B]⟩,
    ⟨0x4210, 0x800, 8,
      [LPn_CDR_STATUS_LOCK_A, LPn_CDR_STATUS_LOCK_B, LPn_CDR_STATUS_PHASE_A, LPn_CDR_STATUS_PHASE_B, LPn_CDR_STATUS_FREQ]⟩,
    ⟨0x4214, 0x800, 8,
      [LPn_SNR_A_L3, LPn_SNR_A_L2, LPn_SNR_A_L1, LPn_SNR_A_L0]⟩,
    ⟨0x4218, 0x800, 8,
      [LPn_SNR_B_L3, LPn_SNR_B_L2, LPn_SNR_B_L1, LPn_SNR_B_L0]⟩,
    ⟨0x421C, 0x800, 8,
      [LPn_BER_BER_EST, LPn_BER_BER_MEAS]⟩,
    ⟨0x4220, 0x800, 8,
      [LPn_EQ_EVENTS_TAP_RESTORE_LOST, LPn_EQ_EVENTS_DET_FORCED, LPn_EQ_EVENTS_OVERRIDE, LPn_EQ_EVENTS_EQ_SLOW, LPn_EQ_EVENTS_DIVERGED, LPn_EQ_EVENTS_RESTORED, LPn_EQ_EVENTS_CONV_LOST, LPn_EQ_EVENTS_CDR_LOCK_LOST, LPn_EQ_EVENTS_TAP_SAT, LPn_EQ_EVENTS_CAP_DONE]⟩,
    ⟨0x4224, 0x800, 8,
      [LPn_EQ_COUNT_RESTORED_COUNT, LPn_EQ_COUNT_DIVERGED_COUNT, LPn_EQ_COUNT_SKIPPED]⟩,
    ⟨0x4228, 0x800, 8,
      [LPn_EQ_TAP_SEL_PAIR, LPn_EQ_TAP_SEL_SET, LPn_EQ_TAP_SEL_INDEX]⟩ ] ++
  [ ⟨0x422C, 0x800, 8,
      [LPn_EQ_TAP_DATA_VALUE]⟩,
    ⟨0x4230, 0x800, 8,
      [LPn_CAP_STATUS_STATE, LPn_CAP_STATUS_BLOCKS, LPn_CAP_STATUS_TRIG_BLOCK]⟩,
    ⟨0x4234, 0x800, 8,
      [LPn_CAP_TIME_LO_TIME_LO]⟩,
    ⟨0x4238, 0x800, 8,
      [LPn_CAP_TIME_HI_TIME_HI]⟩,
    ⟨0x4300, 0x800, 8,
      [LPn_FD_CTRL_FALLBACK, LPn_FD_CTRL_ECHO_WARM, LPn_FD_CTRL_HYB_AUTO, LPn_FD_CTRL_SPARSE_AUTO, LPn_FD_CTRL_FD_ATTEMPTS, LPn_FD_CTRL_QUIET_LEN, LPn_FD_CTRL_ERLE_MIN]⟩,
    ⟨0x4304, 0x800, 8,
      [LPn_FD_ADAPT_MU_ECHO_C, LPn_FD_ADAPT_MU_ECHO_F, LPn_FD_ADAPT_MU_NEXT_C, LPn_FD_ADAPT_MU_NEXT_F]⟩,
    ⟨0x4308, 0x800, 8,
      [LPn_HYB_CTRL_HYB_R_A, LPn_HYB_CTRL_HYB_C_A, LPn_HYB_CTRL_HYB_R_B, LPn_HYB_CTRL_HYB_C_B, LPn_HYB_CTRL_HYB_R_A_USED, LPn_HYB_CTRL_HYB_C_A_USED, LPn_HYB_CTRL_HYB_R_B_USED, LPn_HYB_CTRL_HYB_C_B_USED]⟩,
    ⟨0x430C, 0x800, 8,
      [LPn_FD_STATUS_FDS, LPn_FD_STATUS_ROLE, LPn_FD_STATUS_ECHO_A, LPn_FD_STATUS_ECHO_B, LPn_FD_STATUS_SPARSE_ON, LPn_FD_STATUS_ERLE_A, LPn_FD_STATUS_ERLE_B, LPn_FD_STATUS_LAST_REASON]⟩,
    ⟨0x4310, 0x800, 8,
      [LPn_FD_SKEW_SKEW]⟩,
    ⟨0x4314, 0x800, 8,
      [LPn_ECHO_WIN_A01_EN_HI, LPn_ECHO_WIN_A01_BAD_HI, LPn_ECHO_WIN_A01_START_HI, LPn_ECHO_WIN_A01_EN_LO, LPn_ECHO_WIN_A01_BAD_LO, LPn_ECHO_WIN_A01_START_LO]⟩,
    ⟨0x4318, 0x800, 8,
      [LPn_ECHO_WIN_A23_EN_HI, LPn_ECHO_WIN_A23_BAD_HI, LPn_ECHO_WIN_A23_START_HI, LPn_ECHO_WIN_A23_EN_LO, LPn_ECHO_WIN_A23_BAD_LO, LPn_ECHO_WIN_A23_START_LO]⟩,
    ⟨0x431C, 0x800, 8,
      [LPn_ECHO_WIN_B01_EN_HI, LPn_ECHO_WIN_B01_BAD_HI, LPn_ECHO_WIN_B01_START_HI, LPn_ECHO_WIN_B01_EN_LO, LPn_ECHO_WIN_B01_BAD_LO, LPn_ECHO_WIN_B01_START_LO]⟩ ] ++
  [ ⟨0x4320, 0x800, 8,
      [LPn_ECHO_WIN_B23_EN_HI, LPn_ECHO_WIN_B23_BAD_HI, LPn_ECHO_WIN_B23_START_HI, LPn_ECHO_WIN_B23_EN_LO, LPn_ECHO_WIN_B23_BAD_LO, LPn_ECHO_WIN_B23_START_LO]⟩,
    ⟨0x4324, 0x800, 8,
      [LPn_FD_EVENTS_FD_UP, LPn_FD_EVENTS_ABANDON, LPn_FD_EVENTS_FALLBACK, LPn_FD_EVENTS_ECHO_RECOVER, LPn_FD_EVENTS_ECHO_RESTORE_LOST, LPn_FD_EVENTS_WIN_BAD, LPn_FD_EVENTS_NO_FD_PARTNER, LPn_FD_EVENTS_DIAG_DONE]⟩,
    ⟨0x4328, 0x800, 8,
      [LPn_FD_COUNT_ABANDONS, LPn_FD_COUNT_FD_UPS, LPn_FD_COUNT_WRAPS]⟩,
    ⟨0x432C, 0x800, 8,
      [LPn_ECHO_TAP_SEL_PAIR, LPn_ECHO_TAP_SEL_SET, LPn_ECHO_TAP_SEL_INDEX]⟩,
    ⟨0x4330, 0x800, 8,
      [LPn_ECHO_TAP_DATA_VALUE]⟩,
    ⟨0x4400, 0x800, 8,
      [LPn_TX_CTRL_SW_SQUELCH, LPn_TX_CTRL_SQ_HOST, LPn_TX_CTRL_PRECODE, LPn_TX_CTRL_SWING, LPn_TX_CTRL_PRESET, LPn_TX_CTRL_MAIN, LPn_TX_CTRL_TRAIN_ADAPT, LPn_TX_CTRL_DATA_ADAPT, LPn_TX_CTRL_DRV_DELAY]⟩,
    ⟨0x4404, 0x800, 8,
      [LPn_TX_USER_A_TAPS_LO]⟩,
    ⟨0x4408, 0x800, 8,
      [LPn_TX_USER_B_TAPS_LO]⟩,
    ⟨0x440C, 0x800, 8,
      [LPn_TX_USER_A_HI_TAPS_HI]⟩,
    ⟨0x4410, 0x800, 8,
      [LPn_TX_USER_B_HI_TAPS_HI]⟩,
    ⟨0x4414, 0x800, 8,
      [LPn_TX_STATUS_TXS_A, LPn_TX_STATUS_TXS_B, LPn_TX_STATUS_PRECODE_ACT, LPn_TX_STATUS_DRV_EN, LPn_TX_STATUS_HOST_LOST, LPn_TX_STATUS_SWING_USED, LPn_TX_STATUS_LIMITS]⟩,
    ⟨0x4418, 0x800, 8,
      [LPn_TX_TAP_SEL_PAIR, LPn_TX_TAP_SEL_INDEX]⟩ ] ++
  [ ⟨0x441C, 0x800, 8,
      [LPn_TX_TAP_DATA_MAIN_USED, LPn_TX_TAP_DATA_VALUE]⟩,
    ⟨0x4420, 0x800, 8,
      [LPn_TX_EVENTS_QUENCH, LPn_TX_EVENTS_HOST_LOSS, LPn_TX_EVENTS_TX_RESTORE_LOST, LPn_TX_EVENTS_COEF_REFUSED, LPn_TX_EVENTS_USER_BAD, LPn_TX_EVENTS_LIMIT]⟩,
    ⟨0x4500, 0x800, 8,
      [LPn_FEC_CTRL_ITER_MAX, LPn_FEC_CTRL_EARLY_STOP, LPn_FEC_CTRL_RS_MON_RX, LPn_FEC_CTRL_RS_MON_TX, LPn_FEC_CTRL_ERASE_EN, LPn_FEC_CTRL_ERASE_THR, LPn_FEC_CTRL_ERASE_MAX, LPn_FEC_CTRL_PROP_GUARD]⟩,
    ⟨0x4504, 0x800, 8,
      [LPn_FEC_STATUS_INNER_ON, LPn_FEC_STATUS_TERM_RX, LPn_FEC_STATUS_TERM_TX, LPn_FEC_STATUS_ITER_LIMIT, LPn_FEC_STATUS_FRAME_LOCK, LPn_FEC_STATUS_POST_BER]⟩,
    ⟨0x4508, 0x800, 8,
      [LPn_FEC_EVENTS_FRAME_LOST, LPn_FEC_EVENTS_PROP_RESET, LPn_FEC_EVENTS_INNER_UNCORR, LPn_FEC_EVENTS_MARKED_TX_IN, LPn_FEC_EVENTS_MARKED_RX_IN, LPn_FEC_EVENTS_UNCORR_TX, LPn_FEC_EVENTS_UNCORR_RX, LPn_FEC_EVENTS_BIN15]⟩,
    ⟨0x450C, 0x800, 8,
      [LPn_FEC_SEL_CLEAR, LPn_FEC_SEL_INDEX]⟩,
    ⟨0x4510, 0x800, 8,
      [LPn_FEC_DATA_LO_COUNT_LO]⟩,
    ⟨0x4514, 0x800, 8,
      [LPn_FEC_DATA_HI_COUNT_HI]⟩,
    ⟨0x4600, 0x800, 8,
      [LPn_ACQ_CTRL_PROFILE, LPn_ACQ_CTRL_NARROW_CLASS, LPn_ACQ_CTRL_NARROW_SK, LPn_ACQ_CTRL_EXT_EN, LPn_ACQ_CTRL_FD_PREF, LPn_ACQ_CTRL_SUBCH_EN, LPn_ACQ_CTRL_CLASS_EN, LPn_ACQ_CTRL_HIT_THR, LPn_ACQ_CTRL_PRECODE_REQ, LPn_ACQ_CTRL_TX_TUNE, LPn_ACQ_CTRL_SNR_SHARE, LPn_ACQ_CTRL_FD_EN, LPn_ACQ_CTRL_TRAIN_TIMEOUT]⟩,
    ⟨0x4604, 0x800, 8,
      [LPn_ACQ_STATUS_ACQ_STATE, LPn_ACQ_STATUS_CAND_CLASS, LPn_ACQ_STATUS_RESOLVED, LPn_ACQ_STATUS_PARTNER_SK, LPn_ACQ_STATUS_SUBCH_ON, LPn_ACQ_STATUS_PARALLEL, LPn_ACQ_STATUS_TRAIN_SK, LPn_ACQ_STATUS_CAND_METRIC, LPn_ACQ_STATUS_MARKERS]⟩,
    ⟨0x4608, 0x800, 8,
      [LPn_AN_CTRL_FEC_NRZ, LPn_AN_CTRL_PAUSE]⟩,
    ⟨0x460C, 0x800, 8,
      [LPn_AN_PARTNER_PART, LPn_AN_PARTNER_REV_MAJ, LPn_AN_PARTNER_REV_MIN, LPn_AN_PARTNER_PAGE, LPn_AN_PARTNER_FD200, LPn_AN_PARTNER_FD100, LPn_AN_PARTNER_FD_PREF, LPn_AN_PARTNER_EXT, LPn_AN_PARTNER_SUBCH, LPn_AN_PARTNER_LULL_SK]⟩ ] ++
  [ ⟨0x4610, 0x800, 8,
      [LPn_LMC_REMOTE_REM_SNR_A, LPn_LMC_REMOTE_REM_SNR_B, LPn_LMC_REMOTE_REM_BER]⟩,
    ⟨0x4614, 0x800, 8,
      [LPn_ACQ_EVENTS_NOTICE, LPn_ACQ_EVENTS_LMC_UNKNOWN, LPn_ACQ_EVENTS_LMC_DROP, LPn_ACQ_EVENTS_LMC_CRC, LPn_ACQ_EVENTS_INNER_MISMATCH, LPn_ACQ_EVENTS_LOCK_LOSS, LPn_ACQ_EVENTS_TRAIN_FAIL, LPn_ACQ_EVENTS_AN_FAIL, LPn_ACQ_EVENTS_PREEMPTED, LPn_ACQ_EVENTS_PREEMPT_HIT, LPn_ACQ_EVENTS_FALSE_LOCK]⟩,
    ⟨0x4618, 0x800, 8,
      [LPn_ACQ_COUNT_FALSE_LOCKS, LPn_ACQ_COUNT_PREEMPT_HITS, LPn_ACQ_COUNT_PREEMPTS, LPn_ACQ_COUNT_AN_FAILS, LPn_ACQ_COUNT_TRAIN_FAILS, LPn_ACQ_COUNT_LOCK_LOSSES]⟩,
    ⟨0x461C, 0x800, 8,
      [LPn_LMC_COUNT_CRC_ERRS, LPn_LMC_COUNT_UNKNOWN, LPn_LMC_COUNT_RX_DROPS]⟩,
    ⟨0x4620, 0x800, 8,
      [LPn_REMOTE_EVENT_CODE, LPn_REMOTE_EVENT_SEVERITY]⟩,
    ⟨0x4000, 0x800, 8,
      [LPn_LINK_CTRL_LULL_EN, LPn_LINK_CTRL_LPI_EN, LPn_LINK_CTRL_FLAP_HOLD, LPn_LINK_CTRL_FLAP_LIMIT, LPn_LINK_CTRL_IDLE_TIME, LPn_LINK_CTRL_ENTER_AT]⟩,
    ⟨0x4004, 0x800, 8,
      [LPn_LINK_STATUS_LINK_STATE, LPn_LINK_STATUS_LOCAL_FAULT, LPn_LINK_STATUS_REMOTE_FAULT, LPn_LINK_STATUS_LULL_KIND, LPn_LINK_STATUS_IDLE_KIND, LPn_LINK_STATUS_LAST_DOWN, LPn_LINK_STATUS_FAULT_CAUSE, LPn_LINK_STATUS_ELIGIBLE]⟩,
    ⟨0x4008, 0x800, 8,
      [LPn_LINK_EVENTS_FAULT, LPn_LINK_EVENTS_WAKE_FAIL, LPn_LINK_EVENTS_LULL_LOST, LPn_LINK_EVENTS_LULL_REFUSED, LPn_LINK_EVENTS_CHANNEL_CHANGE, LPn_LINK_EVENTS_REMOTE_FAULT, LPn_LINK_EVENTS_LINK_DOWN, LPn_LINK_EVENTS_LINK_UP]⟩,
    ⟨0x400C, 0x800, 8,
      [LPn_LINK_COUNT_LINK_DOWNS, LPn_LINK_COUNT_CHANNEL_CHANGES, LPn_LINK_COUNT_LULL_REFUSALS]⟩,
    ⟨0x4010, 0x800, 8,
      [LPn_LULL_COUNT_LULL_ENTRIES, LPn_LULL_COUNT_WAKE_RETRIES, LPn_LULL_COUNT_WAKE_FAILS]⟩,
    ⟨0x4014, 0x800, 8,
      [LPn_PORT_CFG_MODE, LPn_PORT_CFG_LANES, LPn_PORT_CFG_INNER, LPn_PORT_CFG_TERM_RX, LPn_PORT_CFG_TERM_TX]⟩ ]
/-- The registers of the block at 0x8000 -/
def rows8 : List RegRow :=
  [ ⟨0x80F0, 0x100, 16,
      [HLn_SLACK_RX, HLn_SLACK_TX]⟩,
    ⟨0x8000, 0x100, 16,
      [HLn_CTRL_POL_TX, HLn_CTRL_POL_RX, HLn_CTRL_PRECODE_TX, HLn_CTRL_PRECODE_RX, HLn_CTRL_FAULT_TX, HLn_CTRL_CTLE_MAN, HLn_CTRL_CTLE_CODE, HLn_CTRL_RX_FREEZE, HLn_CTRL_SWING]⟩,
    ⟨0x8004, 0x100, 16,
      [HLn_TX_FFE_PRE3, HLn_TX_FFE_PRE2, HLn_TX_FFE_PRE1, HLn_TX_FFE_MAIN]⟩,
    ⟨0x8008, 0x100, 16,
      [HLn_TX_POST_TAP_BAD, HLn_TX_POST_POST1]⟩,
    ⟨0x800C, 0x100, 16,
      [HLn_STATUS_TXS, HLn_STATUS_RXS, HLn_STATUS_RATE, HLn_STATUS_ALIGNED, HLn_STATUS_PCS0_LANE, HLn_STATUS_CTLE_USED, HLn_STATUS_RX_SNR]⟩,
    ⟨0x8010, 0x100, 16,
      [HLn_MAP_VALID, HLn_MAP_PORT, HLn_MAP_POS, HLn_MAP_SLIP_RX, HLn_MAP_SLIP_TX]⟩,
    ⟨0x8014, 0x100, 16,
      [HLn_EVENTS_TEST_ENDED, HLn_EVENTS_TEST_ACTIVE, HLn_EVENTS_RX_OVERRIDE, HLn_EVENTS_RATE_CHANGE, HLn_EVENTS_AM_LOST, HLn_EVENTS_CDR_LOST, HLn_EVENTS_EI_EXIT]⟩,
    ⟨0x8018, 0x100, 16,
      [HLn_COUNT_EI_EXITS, HLn_COUNT_CDR_LOSSES, HLn_COUNT_AM_LOSSES]⟩,
    ⟨0x801C, 0x100, 16,
      [HLn_TEST_STATUS_GEN_ON, HLn_TEST_STATUS_CHK_ON, HLn_TEST_STATUS_LOCK, HLn_TEST_STATUS_PATTERN, HLn_TEST_STATUS_LOOP, HLn_TEST_STATUS_TX_QUIET, HLn_TEST_STATUS_LOCK_LOSSES]⟩,
    ⟨0x8020, 0x100, 16,
      [HLn_PRBS_ERR_LO_ERRORS]⟩,
    ⟨0x8024, 0x100, 16,
      [HLn_PRBS_ERR_HI_ERRORS]⟩,
    ⟨0x8028, 0x100, 16,
      [HLn_PRBS_BITS_LO_BITS]⟩ ] ++
  [ ⟨0x802C, 0x100, 16,
      [HLn_PRBS_BITS_HI_BITS]⟩ ]
/-- The registers of the block at 0x9000 -/
def rows9 : List RegRow :=
  [ ⟨0x9000, 0x1, 1,
      [fun _ => BCE_STATUS_RUN_MASK, fun _ => BCE_STATUS_FAULT_MASK]⟩,
    ⟨0x9004, 0x1, 1,
      [fun _ => BCE_EVENTS_CAP_DONE, fun _ => BCE_EVENTS_HALTED, fun _ => BCE_EVENTS_RAMP_CUT, fun _ => BCE_EVENTS_SWAP_DONE, fun _ => BCE_EVENTS_SAT, fun _ => BCE_EVENTS_FB_FROZEN, fun _ => BCE_EVENTS_FB_INVALID, fun _ => BCE_EVENTS_LATE]⟩,
    ⟨0x9008, 0x1, 1,
      [fun _ => BCE_COUNT_LATE_COUNT, fun _ => BCE_COUNT_RAMP_CUTS, fun _ => BCE_COUNT_FAULTS]⟩,
    ⟨0x9100, 0x10, 16,
      [BCE_LOOPn_STATE_STATE, BCE_LOOPn_STATE_CLASS, BCE_LOOPn_STATE_CAUSE, BCE_LOOPn_STATE_SAT_HI, BCE_LOOPn_STATE_SAT_LO, BCE_LOOPn_STATE_INJ, BCE_LOOPn_STATE_SWAP_PEND, BCE_LOOPn_STATE_CHANNEL, BCE_LOOPn_STATE_PERIOD]⟩,
    ⟨0x9104, 0x10, 16,
      [BCE_LOOPn_FB_FB, BCE_LOOPn_FB_TARGET]⟩,
    ⟨0x9108, 0x10, 16,
      [BCE_LOOPn_INTEG_VALUE]⟩,
    ⟨0x910C, 0x10, 16,
      [BCE_LOOPn_U_VALUE]⟩ ]
/-- The registers of the block at 0xA000 -/
def rowsA : List RegRow :=
  [ ⟨0xA000, 0x1, 1,
      [fun _ => AUX_STATUS_CLR_PIN, fun _ => AUX_STATUS_CLEAR_ACTIVE, fun _ => AUX_STATUS_OWNED]⟩,
    ⟨0xA004, 0x1, 1,
      [fun _ => AUX_EVENTS_UNDERRUN, fun _ => AUX_EVENTS_CLR_ASSERTED]⟩,
    ⟨0xA100, 0x10, 24,
      [AUX_CHm_CLEAR_CLEAR]⟩,
    ⟨0xA104, 0x10, 24,
      [AUX_CHm_CFG_UPD_DIV, AUX_CHm_CFG_SLEW_TICK, AUX_CHm_CFG_SLEW_STEP]⟩,
    ⟨0xA108, 0x10, 24,
      [AUX_CHm_STATUS_CODE, AUX_CHm_STATUS_TARGET, AUX_CHm_STATUS_OWNED, AUX_CHm_STATUS_CLEARED, AUX_CHm_STATUS_SLEWING]⟩,
    ⟨0xA10C, 0x10, 24,
      [AUX_CHm_QUEUE_DEPTH, AUX_CHm_QUEUE_FILL, AUX_CHm_QUEUE_UNDERRUNS]⟩ ]
/-- The registers of the block at 0xB000 -/
def rowsB : List RegRow :=
  [ ⟨0xB000, 0x1, 1,
      [fun _ => MON_CTRL_LP_SW, fun _ => MON_CTRL_LP_GUARD, fun _ => MON_CTRL_HLTH_EN, fun _ => MON_CTRL_SLOTS]⟩,
    ⟨0xB004, 0x1, 1,
      [fun _ => MON_STATUS_STATE, fun _ => MON_STATUS_LP_SHED, fun _ => MON_STATUS_IN_SERVICE, fun _ => MON_STATUS_SPARE_FREE, fun _ => MON_STATUS_SHADOW]⟩,
    ⟨0xB008, 0x1, 1,
      [fun _ => MON_EVENTS_SYSCAL_LOST, fun _ => MON_EVENTS_SYSCAL_DONE, fun _ => MON_EVENTS_CAL_RETRY, fun _ => MON_EVENTS_DEGRADED, fun _ => MON_EVENTS_RETIRED, fun _ => MON_EVENTS_SLICE_FAIL, fun _ => MON_EVENTS_OOR, fun _ => MON_EVENTS_CIC_LOWER, fun _ => MON_EVENTS_CIC_UPPER]⟩,
    ⟨0xB00C, 0x1, 1,
      [fun _ => MON_SLICE_RET0, fun _ => MON_SLICE_RET1, fun _ => MON_SLICE_HLTH_FAILS, fun _ => MON_SLICE_CAL_RETRIES]⟩,
    ⟨0xB100, 0x10, 32,
      [MON_INm_CFG_EN, MON_INm_CFG_BIAS, MON_INm_CFG_COARSE_K, MON_INm_CFG_RB_SEL]⟩,
    ⟨0xB104, 0x10, 32,
      [MON_INm_LIM_VHI, MON_INm_LIM_VLO]⟩,
    ⟨0xB108, 0x10, 32,
      [MON_INm_CAL_GAIN, MON_INm_CAL_OFFSET]⟩,
    ⟨0xB10C, 0x10, 32,
      [MON_INm_VAL_COARSE, MON_INm_VAL_LAST]⟩,
    ⟨0xB400, 0x10, 8,
      [MON_CICk_CFG_INPUT, MON_CICk_CFG_ORDER, MON_CICk_CFG_DEC, MON_CICk_CFG_UP_EN, MON_CICk_CFG_LO_EN, MON_CICk_CFG_LOG, MON_CICk_CFG_EN]⟩,
    ⟨0xB404, 0x10, 8,
      [MON_CICk_TH_UTH, MON_CICk_TH_LTH]⟩,
    ⟨0xB408, 0x10, 8,
      [MON_CICk_HYS_HYS]⟩,
    ⟨0xB40C, 0x10, 8,
      [MON_CICk_OUT_OUT, MON_CICk_OUT_VALID, MON_CICk_OUT_OOR, MON_CICk_OUT_UP_ARMED, MON_CICk_OUT_LO_ARMED]⟩ ]
/-- The registers of the block at 0xC000 -/
def rowsC : List RegRow :=
  [ ⟨0xC000, 0x1, 1,
      [fun _ => CTR_STATUS_FROZEN, fun _ => CTR_STATUS_FREEZE_CAUSE, fun _ => CTR_STATUS_SAMPLES, fun _ => CTR_STATUS_SNAP_SEQ]⟩,
    ⟨0xC004, 0x1, 1,
      [fun _ => CTR_EVENTS_SAMPLES_LOST, fun _ => CTR_EVENTS_RESTORE_LOST, fun _ => CTR_EVENTS_FREEZE_OVF, fun _ => CTR_EVENTS_SAT, fun _ => CTR_EVENTS_SAMPLE_LOST]⟩,
    ⟨0xC008, 0x1, 1,
      [fun _ => CTR_INT_IRQ_EN, fun _ => CTR_INT_VECTOR]⟩,
    ⟨0xC00C, 0x1, 1,
      [fun _ => CTR_OVF_LO_OVF]⟩,
    ⟨0xC010, 0x1, 1,
      [fun _ => CTR_OVF_HI_OVF]⟩,
    ⟨0xC014, 0x1, 1,
      [fun _ => CTR_SNAP_TIME_LO_TIME]⟩,
    ⟨0xC018, 0x1, 1,
      [fun _ => CTR_SNAP_TIME_HI_TIME]⟩,
    ⟨0xC100, 0x20, 64,
      [CTR_m_CFG_EVENT, CTR_m_CFG_INSTANCE, CTR_m_CFG_MODE, CTR_m_CFG_OVF_IRQ, CTR_m_CFG_RELOAD, CTR_m_CFG_SAMPLE_EN, CTR_m_CFG_FREEZE_ON_OVF, CTR_m_CFG_SAT]⟩,
    ⟨0xC104, 0x20, 64,
      [CTR_m_N_VALUE]⟩,
    ⟨0xC108, 0x20, 64,
      [CTR_m_LIMIT_VALUE]⟩,
    ⟨0xC10C, 0x20, 64,
      [CTR_m_VAL_LO_VALUE]⟩,
    ⟨0xC110, 0x20, 64,
      [CTR_m_VAL_HI_VALUE]⟩ ] ++
  [ ⟨0xC114, 0x20, 64,
      [CTR_m_OVF_COUNT_OVF_COUNT]⟩ ]
/-- The registers of the block at 0xD000 -/
def rowsD : List RegRow :=
  [ ⟨0xD000, 0x1, 1,
      [fun _ => EVR_CTRL_STOP_FULL, fun _ => EVR_CTRL_FLASH_TPP, fun _ => EVR_CTRL_TRACE_MASK]⟩,
    ⟨0xD004, 0x1, 1,
      [fun _ => EVR_STATUS_FROZEN, fun _ => EVR_STATUS_FLUSHING, fun _ => EVR_STATUS_END, fun _ => EVR_STATUS_GONE, fun _ => EVR_STATUS_BUFFERED, fun _ => EVR_STATUS_WR_SECTOR, fun _ => EVR_STATUS_TRACE_NEXT]⟩,
    ⟨0xD008, 0x1, 1,
      [fun _ => EVR_EVENTS_FREEZE_EXPIRED, fun _ => EVR_EVENTS_STORE_FULL, fun _ => EVR_EVENTS_BUF_FULL, fun _ => EVR_EVENTS_POWER_FAIL]⟩,
    ⟨0xD00C, 0x1, 1,
      [fun _ => EVR_COUNT_BUF_DROPS, fun _ => EVR_COUNT_STORE_DROPS]⟩,
    ⟨0xD010, 0x1, 1,
      [fun _ => EVR_SEQ_VALUE]⟩,
    ⟨0xD014, 0x1, 1,
      [fun _ => EVR_HOURS_VALUE]⟩,
    ⟨0xD018, 0x1, 1,
      [fun _ => EVR_CYCLES_VALUE]⟩,
    ⟨0xD01C, 0x1, 1,
      [fun _ => EVR_CURSOR_CURSOR]⟩,
    ⟨0xD040, 0x4, 16,
      [EVR_WINk_DATA]⟩,
    ⟨0xD100, 0x1, 1,
      [fun _ => RTC_CTRL_CORR, fun _ => RTC_CTRL_ALARM_EN]⟩,
    ⟨0xD104, 0x1, 1,
      [fun _ => RTC_STATUS_RTC_VALID, fun _ => RTC_STATUS_RTC_LOST, fun _ => RTC_STATUS_ALARM]⟩,
    ⟨0xD108, 0x1, 1,
      [fun _ => RTC_SEC_VALUE]⟩ ] ++
  [ ⟨0xD10C, 0x1, 1,
      [fun _ => RTC_ALARM_VALUE]⟩ ]
/-- The registers of the block at 0xE000 -/
def rowsE : List RegRow :=
  [ ⟨0xE000, 0x1, 1,
      [fun _ => RING_SEL_RING]⟩,
    ⟨0xE010, 0x4, 8,
      [RING_CTXk_CTX]⟩ ]

end Reg

/-- The registers of the block that an offset lies in (21 Table 21.1). -/
def blockRows (off : Nat) : List RegRow :=
  match off / 0x1000 with
  | 0 => Reg.rows0
  | 1 => Reg.rows1
  | 2 => Reg.rows2
  | 3 => Reg.rows3
  | 4 | 5 | 6 | 7 => Reg.rows4
  | 8 => Reg.rows8
  | 9 => Reg.rows9
  | 10 => Reg.rowsA
  | 11 => Reg.rowsB
  | 12 => Reg.rowsC
  | 13 => Reg.rowsD
  | 14 => Reg.rowsE
  | _ => []

/-- The instance of a row at an offset, if the row has one there. -/
def RegRow.instAt (r : RegRow) (off : Nat) : Option Nat :=
  if r.base ≤ off then
    let d := off - r.base
    if d % r.stride = 0 ∧ d / r.stride < r.count then some (d / r.stride) else none
  else none

/-- The fields of the register at an offset; none where the offset is unassigned (01 R10, 21 R640). -/
def fieldsAt (off : Nat) : List Fld :=
  ((blockRows off).findSome? fun r => (r.instAt off).map fun i => r.fields.map fun f => f i).getD []

/-- The field that a key of the register store names. -/
def fieldOfKey (k : Nat) : Option Fld :=
  (fieldsAt (k / 32)).find? fun f => f.lsb == k % 32

end Sys2Proof.Machine
end

