-- ==== Sys2Proof/Machine/Operands.lean ====
section
/-! DEFINITION. Operand forms: little-endian bytes and bit fields of descriptors (00 R7, 13 Table 13.7), two's complement,
rounding and clamping, check values (15 R519), ratios in dB compared exactly, and the exponential in fixed point. -/

namespace Sys2Proof.Machine

/-! ## Numbers -/

/-- The two's complement value of the low w bits of n (00 R7). -/
def signedOf (w n : Nat) : Int :=
  let m := n % 2 ^ w
  if 2 * m < 2 ^ w then (m : Int) else (m : Int) - 2 ^ w

/-- The w-bit two's complement code of an integer. -/
def codeOf (w : Nat) (i : Int) : Nat := (i % (2 ^ w : Nat)).toNat

/-- An integer held within bounds. -/
def clampInt (lo hi i : Int) : Int := if i < lo then lo else if hi < i then hi else i

/-- The w-bit two's complement code of an integer that saturates. -/
def satCode (w : Nat) (i : Int) : Nat := codeOf w (clampInt (-(2 ^ (w - 1) : Nat)) ((2 ^ (w - 1) : Nat) - 1) i)

/-- a ÷ b rounded to the nearest integer, halves away from zero (log entry 6); b is positive. -/
def roundDiv (a : Int) (b : Nat) : Int :=
  if a < 0 then -((2 * a.natAbs + b) / (2 * b) : Nat) else ((2 * a.natAbs + b) / (2 * b) : Nat)

/-- The sum of a list of naturals. -/
def sumNat (l : List Nat) : Nat := l.foldl (· + ·) 0

/-- The sum of a list of integers. -/
def sumInt (l : List Int) : Int := l.foldl (· + ·) 0

/-- The largest of a list of naturals, 0 of none. -/
def maxNat (l : List Nat) : Nat := l.foldl max 0

/-- The least of a non-empty list of naturals, or the value given. -/
def minNat (d : Nat) (l : List Nat) : Nat := l.foldl min d

/-- A value put into a list that rises by a key, after its equals. -/
def insertOn {α : Type} (key : α → Nat) (v : α) : List α → List α
  | [] => [v]
  | x :: r => if key v < key x then v :: x :: r else x :: insertOn key v r

/-- A list put in rising order of a key, equals in their order. -/
def sortOn {α : Type} (key : α → Nat) (l : List α) : List α := l.foldl (fun r v => insertOn key v r) []

/-- Whether bit i of n is set. -/
def bitOf (n i : Nat) : Bool := n / 2 ^ i % 2 == 1

/-- n with bit i set or cleared. -/
def putBit (n i : Nat) (b : Bool) : Nat :=
  if bitOf n i == b then n else if b then n + 2 ^ i else n - 2 ^ i

/-- 1 for true. -/
def bnat (b : Bool) : Nat := if b then 1 else 0

/-- The numbers below n whose bit is set in a mask. -/
def maskList (n mask : Nat) : List Nat := (List.range n).filter (bitOf mask)

/-- The bits of a word, counted. -/
def popCount (w n : Nat) : Nat := (maskList w n).length

/-- Rising bits of a list of Booleans, the first lowest. -/
def ofBools (l : List Bool) : Nat := l.foldr (fun b n => bnat b + 2 * n) 0

/-- The low w bits of n in the reverse order. -/
def reverseBits (w n : Nat) : Nat := (List.range w).foldl (fun r i => 2 * r + n / 2 ^ i % 2) 0

/-! ## Bytes -/

/-- The low k bytes of n, lowest first (00 R7). -/
def bytesOf : Nat → Nat → List Byte
  | 0, _ => []
  | k + 1, n => BitVec.ofNat 8 n :: bytesOf k (n / 256)

/-- The number that bytes spell, lowest first (00 R7). -/
def ofBytes : List Byte → Nat
  | [] => 0
  | b :: r => b.toNat + 256 * ofBytes r

/-- A list of the length given, cut or filled up with zero bytes. -/
def padBytes (k : Nat) (l : List Byte) : List Byte := l.take k ++ List.replicate (k - l.length) 0

/-- A list of bytes cut into groups of k from its start. -/
def chunks {α : Type} (k : Nat) : Nat → List α → List (List α)
  | 0, _ => []
  | n + 1, l => if l.isEmpty then [] else l.take k :: chunks k n (l.drop k)

/-- The bit field [hi:lo] of a number. -/
def bitsOf (n hi lo : Nat) : Nat := n / 2 ^ lo % 2 ^ (hi + 1 - lo)

end Sys2Proof.Machine

namespace Sys2Proof

open Machine

/-! ## Descriptors (13 Table 13.7) -/

/-- Byte i of a descriptor. -/
def Desc.byte (d : Desc) (i : Nat) : Nat := d.body.toNat / 256 ^ i % 256
/-- k bytes from byte i, little-endian. -/
def Desc.bytes (d : Desc) (i k : Nat) : Nat := d.body.toNat / 256 ^ i % 256 ^ k
/-- Bits [hi:lo] of byte i. -/
def Desc.bits (d : Desc) (i hi lo : Nat) : Nat := bitsOf (d.byte i) hi lo
/-- Bit b of byte i. -/
def Desc.flag (d : Desc) (i b : Nat) : Bool := bitOf (d.byte i) b
/-- Opcode. -/
def Desc.opcode (d : Desc) : Nat := d.byte 0
/-- CR: a completion is required. -/
def Desc.cr (d : Desc) : Bool := d.flag 1 0
/-- FENCE. -/
def Desc.fence (d : Desc) : Bool := d.flag 1 1
/-- CHAIN. -/
def Desc.chain (d : Desc) : Bool := d.flag 1 2
/-- Tag. -/
def Desc.tag (d : Desc) : Nat := d.bytes 2 2
/-- Length. -/
def Desc.length (d : Desc) : Nat := d.bytes 4 4
/-- Address. -/
def Desc.address (d : Desc) : Nat := d.bytes 8 8

/-! ## Small types -/

/-- A pair's place among two. -/
def Pair.idx : Pair → Fin 2
  | .a => 0
  | .b => 1
/-- Both pairs' other. -/
def Pair.other : Pair → Pair
  | .a => .b
  | .b => .a
/-- A transport's code in a ring context (13 Table 13.5). -/
def Transport.code : Transport → Nat
  | .pcie => 0
  | .spi => 1
  | .mdio => 2
/-- A transport's place among three. -/
def Transport.idx : Transport → Fin 3
  | .pcie => 0
  | .spi => 1
  | .mdio => 2
/-- The worse of two attempts. -/
def Attempt.worse : Attempt → Attempt → Attempt
  | .failed, _ => .failed
  | _, .failed => .failed
  | .second, _ => .second
  | _, .second => .second
  | .first, .first => .first


end Sys2Proof

namespace Sys2Proof.Machine

/-! ## Check values (15 R519–R521) -/

/-- A check configuration: width, polynomial, initial value, final XOR, reflections (15 R518). -/
structure CrcCfg where
  width : Nat
  poly : Nat
  init : Nat
  xorout : Nat
  refin : Bool
  refout : Bool
  cvOrder : Bool
  deriving DecidableEq, Repr

/-- One bit into a check value (15 R519). -/
def crcBit (c : CrcCfg) (v : Nat) (x : Bool) : Nat :=
  let t := bitOf v (c.width - 1) != x
  let s := 2 * v % 2 ^ c.width
  if t then s ^^^ c.poly else s

/-- One byte into a check value: bit 0 first with REFIN, bit 7 first otherwise (15 R519). -/
def crcByte (c : CrcCfg) (v : Nat) (b : Byte) : Nat :=
  let order := if c.refin then [0, 1, 2, 3, 4, 5, 6, 7] else [7, 6, 5, 4, 3, 2, 1, 0]
  order.foldl (fun v i => crcBit c v (bitOf b.toNat i)) v

/-- Bytes into a check value. -/
def crcRun (c : CrcCfg) (v : Nat) (l : List Byte) : Nat := l.foldl (crcByte c) v

/-- The finalised check value (15 R519). -/
def crcFinal (c : CrcCfg) (v : Nat) : Nat := (if c.refout then reverseBits c.width v else v) ^^^ c.xorout

/-- The presets of Table 15.6. -/
def crcPreset : Nat → CrcCfg
  | 1 => ⟨32, 0x04C11DB7, 0xFFFFFFFF, 0xFFFFFFFF, true, true, false⟩
  | 2 => ⟨32, 0x1EDC6F41, 0xFFFFFFFF, 0xFFFFFFFF, true, true, false⟩
  | _ => ⟨16, 0x1021, 0xFFFF, 0, false, false, true⟩

/-- The CRC-32C of bytes (15 Table 15.6). -/
def crc32c (l : List Byte) : Nat :=
  let c := crcPreset 2
  crcFinal c (crcRun c c.init l)

/-- The CRC-32 of bytes (08 R303, 15 Table 15.6). -/
def crc32 (l : List Byte) : Nat :=
  let c := crcPreset 1
  crcFinal c (crcRun c c.init l)

/-! ## Ratios in dB, compared exactly -/

/-- Whether num ÷ den is at least 10^(m ÷ k): the ratio is m ÷ k decades or more. -/
def ratioAtLeast (num den : Nat) (m : Int) (k : Nat) : Bool :=
  if 0 ≤ m then decide (den ^ k * 10 ^ m.toNat ≤ num ^ k) else decide (den ^ k ≤ num ^ k * 10 ^ (-m).toNat)

/-- k · log10(num ÷ den) rounded to the nearest integer, from 0 to a largest code below 2^16; that code where den is 0. -/
def logCode (k top num den : Nat) : Nat :=
  if den = 0 then top
  else (List.range 16).foldr (fun b c =>
    if c + 2 ^ b ≤ top ∧ ratioAtLeast num den (2 * (c + 2 ^ b) - 1 : Nat) (2 * k) then c + 2 ^ b else c) 0

/-! ## Fixed point -/

/-- The scale of the fixed-point exponential, 2^128. -/
def fixOne : Nat := 2 ^ 128

/-- e^(−num ÷ den) × 2^128 for num ≤ den, by its series; the error is below 2^−120. -/
def expSmall (num den : Nat) : Nat :=
  let step := fun (a : Int × Int) (i : Nat) =>
    let t := -(a.2 * num) / ((i + 1) * den : Nat)
    (a.1 + t, t)
  ((List.range 40).foldl step ((fixOne : Int), (fixOne : Int))).1.toNat

/-- e^(−num ÷ den) × 2^128 (17 R559), 0 where the exponent passes 120. -/
def expNeg (num den : Nat) : Nat :=
  if den = 0 then 0
  else
    let k := num / den
    if 120 < k then 0
    else
      let inv := expSmall 1 1
      (List.range k).foldl (fun v _ => v * inv / fixOne) (expSmall (num % den) den)

/-- ln 10 × 10^60. -/
def lnTen : Nat := 2302585092994045684017991454684364207601101488628772976033327

/-- 10^(num ÷ den) × 2^128, its error far below 2^−64, for exponents below 2: 1 ÷ e^(−x) with x = num · ln 10 ÷ den. -/
def tenTo (num den : Nat) : Nat := fixOne * fixOne / max 1 (expNeg (num * lnTen) (den * 10 ^ 60))

/-- π × 10^60. -/
def piSixty : Nat := 3141592653589793238462643383279502884197169399375105820974944

/-- amp · sin(2π · k ÷ w) rounded to the nearest integer (11 R408), by the sine's series with 160 fraction bits; what lies
within 2^−41 of a half is taken as the half. -/
def sineOf (k w amp : Nat) : Int :=
  let one : Nat := 2 ^ 160
  let x : Nat := 2 * piSixty * (k % w) * one / (w * 10 ^ 60)
  let step := fun (a : Int × Int) (i : Nat) =>
    let t := -(a.2 * x / one * x / one) / ((2 * i + 2) * (2 * i + 3) : Nat)
    (a.1 + t, t)
  let sine := ((List.range 60).foldl step ((x : Int), (x : Int))).1
  let v : Int := (amp : Int) * sine
  let n : Nat := (2 * v.natAbs + one + one / 2 ^ 40) / (2 * one)
  if v < 0 then -(n : Int) else n

/-- The largest natural whose square is at most n, for n below 2^(2 · bits). -/
def isqrt (bits n : Nat) : Nat :=
  (List.range bits).foldr (fun b r => if (r + 2 ^ b) ^ 2 ≤ n then r + 2 ^ b else r) 0

/-- The scale of the Gaussian tail, 2^2304. -/
def tailOne : Nat := 2 ^ 2304

/-- e^(−num ÷ den) × 2^2304. -/
def tailExp (num den : Nat) : Nat :=
  let small := fun (n d : Nat) =>
    ((List.range 400).foldl (fun (a : Int × Int) (i : Nat) =>
      let t := -(a.2 * n) / ((i + 1) * d : Nat)
      (a.1 + t, t)) ((tailOne : Int), (tailOne : Int))).1.toNat
  let inv := small 1 1
  (List.range (num / den)).foldl (fun v _ => v * inv / tailOne) (small (num % den) den)

/-- Q(√(2z)) × 2^2304 for z = num ÷ den (04 R157): below z = 8 by its series, above by its continued fraction; 0 from
z = 1,520 on, which is below 10^−660. -/
def gaussTail (num den : Nat) : Nat :=
  if den = 0 ∨ 1520 * den ≤ num then 0
  else
    let one := 2 ^ 64
    let x := isqrt 80 (2 * num * 2 ^ 128 / den)
    -- e^(−z) ÷ √(2π), with 1 ÷ √(2π) = 0.3989422804014326779399460599343818684758586311649…
    let phi := tailExp num den * 39894228040143267793994605993438186847585863116 / 10 ^ 47
    if num < 8 * den then
      let sum := ((List.range 120).foldl (fun (a : Nat × Nat) k =>
        let t := a.2 * x / one * x / ((2 * k + 3) * one)
        (a.1 + t, t)) (x, x)).1
      tailOne / 2 - phi * sum / one
    else
      let f := (List.range 100).foldr (fun k f => x + (k + 1) * one * one / f) x
      phi * one / f

end Sys2Proof.Machine
end

