-- ==== Sys2Proof/Machine/Ops.lean ====
section
/-! DEFINITION. The named operations that every meaning is built from: sparse tables, register fields, the parts of the
device, the memories with their check bits, interrupts, counters, rings and completions, logged events, and the beginning
and end of a descriptor. -/

namespace Sys2Proof.Machine

open Reg

/-! ## Sparse tables -/

/-- What a sparse table holds at a key; d where it lists nothing. -/
def sget {α : Type} (d : α) : Sparse α → Nat → α
  | [], _ => d
  | (k, v) :: r, i => if k = i then v else sget d r i

/-- A sparse table with an entry at a key, in the keys' order. -/
def sins {α : Type} : Sparse α → Nat → α → Sparse α
  | [], i, v => [(i, v)]
  | (k, x) :: r, i, v =>
    if i < k then (i, v) :: (k, x) :: r else if i = k then (i, v) :: r else (k, x) :: sins r i v

/-- A sparse table with a value at a key, in canonical form: the value d removes the entry. -/
def sput {α : Type} [DecidableEq α] (d : α) (l : Sparse α) (i : Nat) (v : α) : Sparse α :=
  if v = d then l.filter (fun e => e.1 != i) else sins l i v

/-- The canonical form of a sparse table whose unlisted keys read d: keys strictly rising, no entry equal to d. -/
abbrev Sparse.wf {α : Type} (d : α) (l : Sparse α) : Prop :=
  l.Pairwise (fun a b => a.1 < b.1) ∧ ∀ e ∈ l, e.2 ≠ d

/-! ## Register fields (00 R10–R13) -/

/-- Where the register store keeps a field. -/
def Fld.key (f : Fld) : Nat := 32 * f.off + f.lsb
/-- A field's value. -/
def Dev.get (s : Dev) (f : Fld) : Nat := sget f.reset s.regs f.key
/-- A field given a value, cut to its width. -/
def Dev.set (s : Dev) (f : Fld) (v : Nat) : Dev := { s with regs := sput f.reset s.regs f.key (v % 2 ^ f.width) }
/-- Whether a field is not 0. -/
def Dev.on (s : Dev) (f : Fld) : Bool := s.get f != 0
/-- A one-bit field set or cleared. -/
def Dev.flag (s : Dev) (f : Fld) (b : Bool) : Dev := s.set f (bnat b)
/-- A field read as two's complement. -/
def Dev.geti (s : Dev) (f : Fld) : Int := signedOf f.width (s.get f)
/-- A field given a two's complement value. -/
def Dev.seti (s : Dev) (f : Fld) (i : Int) : Dev := s.set f (codeOf f.width i)
/-- A count raised by n, saturating. -/
def Dev.add (s : Dev) (f : Fld) (n : Nat) : Dev := s.set f (min (s.get f + n) (2 ^ f.width - 1))
/-- A count raised by 1, saturating. -/
def Dev.inc (s : Dev) (f : Fld) : Dev := s.add f 1
/-- Bit i of a mask field. -/
def Dev.getBit (s : Dev) (f : Fld) (i : Nat) : Bool := bitOf (s.get f) i
/-- A mask field with bit i set or cleared. -/
def Dev.putBit (s : Dev) (f : Fld) (i : Nat) (b : Bool) : Dev := s.set f (Machine.putBit (s.get f) i b)
/-- The fields that a test picks out at their reset values; what a _LO read latched for a register with such a field is
forgotten (00 R14, 21 R641). -/
def Dev.regsReset (s : Dev) (goes : Fld → Bool) : Dev :=
  { s with regs := s.regs.filter fun e => !((fieldOfKey e.1).any goes)
           hiLatch := s.hiLatch.map fun l => l.filter fun e => !((fieldsAt e.1).any goes) }
/-- A step done for each of a list. -/
def Dev.each {α : Type} (s : Dev) (l : List α) (g : Dev → α → Dev) : Dev := l.foldl g s
/-- A step done if a condition holds. -/
def Dev.iff (s : Dev) (b : Bool) (g : Dev → Dev) : Dev := if b then g s else s

/-! ## Parts of the device -/

/-- Both pairs, A first. -/
def bothPairs : List Pair := [.a, .b]
/-- All ports. -/
def allPorts : List Port := List.finRange 8
/-- All lanes. -/
def allLanes : List Lane := List.finRange 16
/-- All loops. -/
def allLoops : List LoopNo := List.finRange 16
/-- All auxiliary channels. -/
def allAux : List AuxCh := List.finRange 24
/-- All memories. -/
def allMems : List MemId := List.finRange 20

/-- Element i of a vector replaced by what g makes of it. -/
def vmod {α : Type} {n : Nat} (v : Vector α n) (i : Fin n) (g : α → α) : Vector α n := v.set i (g (v.get i))

def Dev.modPort (s : Dev) (p : Port) (g : PortSt → PortSt) : Dev := { s with port := vmod s.port p g }
def Dev.modAdc (s : Dev) (p : Port) (x : Pair) (g : Adc → Adc) : Dev :=
  s.modPort p fun q => { q with adc := vmod q.adc x.idx g }
def Dev.modEq (s : Dev) (p : Port) (x : Pair) (g : Eq → Eq) : Dev :=
  s.modPort p fun q => { q with eq := vmod q.eq x.idx g }
def Dev.modEcho (s : Dev) (p : Port) (x : Pair) (g : Echo → Echo) : Dev :=
  s.modPort p fun q => { q with echo := vmod q.echo x.idx g }
def Dev.modCap (s : Dev) (p : Port) (g : Capture → Capture) : Dev := s.modPort p fun q => { q with cap := g q.cap }
def Dev.modFd (s : Dev) (p : Port) (g : Fd → Fd) : Dev := s.modPort p fun q => { q with fd := g q.fd }
def Dev.modTx (s : Dev) (p : Port) (g : Tx → Tx) : Dev := s.modPort p fun q => { q with tx := g q.tx }
def Dev.modTxPair (s : Dev) (p : Port) (x : Pair) (g : TxPair → TxPair) : Dev :=
  s.modTx p fun t => { t with pair := vmod t.pair x.idx g }
def Dev.modFec (s : Dev) (p : Port) (g : Fec → Fec) : Dev := s.modPort p fun q => { q with fec := g q.fec }
def Dev.modAcq (s : Dev) (p : Port) (g : Acq → Acq) : Dev := s.modPort p fun q => { q with acq := g q.acq }
def Dev.modLmc (s : Dev) (p : Port) (g : Lmc → Lmc) : Dev := s.modPort p fun q => { q with lmc := g q.lmc }
def Dev.modLink (s : Dev) (p : Port) (g : Link → Link) : Dev := s.modPort p fun q => { q with link := g q.link }
def Dev.modLane (s : Dev) (l : Lane) (g : HLane → HLane) : Dev := { s with lane := vmod s.lane l g }
def Dev.modLoop (s : Dev) (l : LoopNo) (g : Loop → Loop) : Dev := { s with loop := vmod s.loop l g }
def Dev.modAux (s : Dev) (c : AuxCh) (g : Aux → Aux) : Dev := { s with aux := vmod s.aux c g }
def Dev.modMon (s : Dev) (g : Mon → Mon) : Dev := { s with mon := g s.mon }
def Dev.modIn (s : Dev) (i : InputNo) (g : MonIn → MonIn) : Dev := s.modMon fun m => { m with inp := vmod m.inp i g }
def Dev.modPwr (s : Dev) (g : Pwr → Pwr) : Dev := { s with pwr := g s.pwr }
def Dev.modThm (s : Dev) (g : Thm → Thm) : Dev := { s with thm := g s.thm }
def Dev.modEvr (s : Dev) (g : Evr → Evr) : Dev := { s with evr := g s.evr }
def Dev.modSys (s : Dev) (g : Sys → Sys) : Dev := { s with sys := g s.sys }
def Dev.modGov (s : Dev) (g : Gov → Gov) : Dev := { s with gov := g s.gov }
def Dev.modShed (s : Dev) (g : Shed → Shed) : Dev := { s with shed := g s.shed }
def Dev.modChk (s : Dev) (g : Chk → Chk) : Dev := { s with chk := g s.chk }
def Dev.modCtr (s : Dev) (g : Ctrs → Ctrs) : Dev := { s with ctr := g s.ctr }

def Dev.prt (s : Dev) (p : Port) : PortSt := s.port.get p
def Dev.adcOf (s : Dev) (p : Port) (x : Pair) : Adc := (s.prt p).adc.get x.idx
def Dev.eqOf (s : Dev) (p : Port) (x : Pair) : Eq := (s.prt p).eq.get x.idx
def Dev.echoOf (s : Dev) (p : Port) (x : Pair) : Echo := (s.prt p).echo.get x.idx
def Dev.txPairOf (s : Dev) (p : Port) (x : Pair) : TxPair := (s.prt p).tx.pair.get x.idx

/-- A free value's number: the next of a sequence that only counts (log entry 5). -/
def Dev.draw (s : Dev) : Dev := { s with draws := s.draws + 1 }

/-! ## Memories (15 R501–R504) -/

/-- Words of each memory (15 Table 15.1). -/
def memWords (m : MemId) : Nat :=
  if m.val = 0 then 131072 else if m.val < 4 then 65536 else if m.val < 12 then 8192 else 262144

/-- The columns code(0) to code(63): the 8-bit values of weight 3, then the first eight of weight 5, ascending (15 R502). -/
def eccColumns : List Nat :=
  [0x07, 0x0B, 0x0D, 0x0E, 0x13, 0x15, 0x16, 0x19, 0x1A, 0x1C, 0x23, 0x25, 0x26, 0x29, 0x2A, 0x2C,
   0x31, 0x32, 0x34, 0x38, 0x43, 0x45, 0x46, 0x49, 0x4A, 0x4C, 0x51, 0x52, 0x54, 0x58, 0x61, 0x62,
   0x64, 0x68, 0x70, 0x83, 0x85, 0x86, 0x89, 0x8A, 0x8C, 0x91, 0x92, 0x94, 0x98, 0xA1, 0xA2, 0xA4,
   0xA8, 0xB0, 0xC1, 0xC2, 0xC4, 0xC8, 0xD0, 0xE0] ++
  [0x1F, 0x2F, 0x37, 0x3B, 0x3D, 0x3E, 0x4F, 0x57]

/-- The check bits of a word (15 R502). -/
def checkBits (d : BitVec 64) : BitVec 8 :=
  (eccColumns.foldl (fun (a : Nat × Nat) c => (if a.2 % 2 = 1 then a.1 ^^^ c else a.1, a.2 / 2)) (0, d.toNat)).1

/-- The syndrome of a stored word (15 R503); a word that is not valid reads clean (R504). -/
def MWord.syndrome (x : MWord) : BitVec 8 := if x.valid then x.check ^^^ checkBits x.data else 0

/-- The classes of a syndrome (15 R503). -/
inductive EccClass where
  | clean | correctable | uncorrectable
  deriving DecidableEq, Repr

/-- The class of a syndrome (15 R503). -/
def eccClass (y : BitVec 8) : EccClass :=
  if y = 0 then .clean
  else if y.toNat ∈ [1, 2, 4, 8, 16, 32, 64, 128] ∨ y.toNat ∈ eccColumns then .correctable
  else .uncorrectable

/-- The data of a word as read: zero if not valid, corrected where one data bit is wrong (15 R503, R504). -/
def MWord.value (x : MWord) : BitVec 64 :=
  if x.valid then
    match eccColumns.findIdx? (· == x.syndrome.toNat) with
    | some i => x.data ^^^ BitVec.ofNat 64 (2 ^ i)
    | none => x.data
  else 0

/-- A word written whole: data, its check bits, valid (15 R508). -/
def MWord.full (d : BitVec 64) : MWord := ⟨d, checkBits d, true⟩

/-- The poison pattern (15 R510). -/
def MWord.poison : MWord := ⟨0, 0x03, true⟩

/-- A word of an on-die memory as the writes so far leave it; the newest write comes first (15 R505). -/
def lookWord (base : Mem) : List MemWrite → MemId → Nat → MWord
  | [], i, w => sget {} (base.die.get i) w
  | .word j v x :: r, i, w => if j = i ∧ v = w then x else lookWord base r i w
  | .invalidate j lo hi :: r, i, w =>
    let x := lookWord base r i w
    if j = i ∧ lo ≤ w ∧ w < hi then { x with valid := false } else x
  | _ :: r, i, w => lookWord base r i w

/-- A byte of host memory as the writes so far leave it. -/
def lookHost (base : Mem) : List MemWrite → Nat → Byte
  | [], a => sget 0 base.host a
  | .host b x :: r, a => if b = a then x else lookHost base r a
  | _ :: r, a => lookHost base r a

/-- A byte of the flash as the writes so far leave it (19 R603). -/
def lookFlash (base : Mem) : List MemWrite → Nat → Byte
  | [], a => sget 0xFF base.flash a
  | .program b x :: r, a => if b = a then x &&& lookFlash base r a else lookFlash base r a
  | .erase n :: r, a => if a / 4096 = n then 0xFF else lookFlash base r a
  | _ :: r, a => lookFlash base r a

/-- One write done to the memories. Words beyond a memory's end and flash addresses of 16 MiB and more do not exist. -/
def Mem.apply (m : Mem) : MemWrite → Mem
  | .word i w x => if w < memWords i then { m with die := vmod m.die i (fun l => sput {} l w x) } else m
  | .invalidate i lo hi =>
    let drop := fun (e : Nat × MWord) => if lo ≤ e.1 ∧ e.1 < hi then (e.1, { e.2 with valid := false }) else e
    { m with die := vmod m.die i (fun l => (l.map drop).filter (fun e => e.2 != {})) }
  | .host a b => { m with host := sput 0 m.host a b }
  | .program a b => if a < 0x1000000 then { m with flash := sput 0xFF m.flash a (b &&& sget 0xFF m.flash a) } else m
  | .erase n => { m with flash := m.flash.filter fun e => e.1 / 4096 != n }

/-- Writes done in order, the newest first in the list. -/
def Mem.commit (m : Mem) (ws : List MemWrite) : Mem := ws.foldr (fun w m => m.apply w) m

/-- The canonical form of the memories: every table in canonical form, every word and flash byte within its memory. -/
abbrev Mem.wf (m : Mem) : Prop :=
  (∀ i : MemId, Sparse.wf ({} : MWord) (m.die.get i) ∧ ∀ e ∈ m.die.get i, e.1 < memWords i) ∧
  Sparse.wf (0 : Byte) m.host ∧ Sparse.wf (0xFF : Byte) m.flash ∧ ∀ e ∈ m.flash, e.1 < 0x1000000

/-- A write noted for the end of the command. -/
def Dev.write (s : Dev) (w : MemWrite) : Dev := { s with writes := w :: s.writes }
/-- A byte of host memory. -/
def Dev.hostByte (s : Dev) (a : Nat) : Byte := lookHost s.mem s.writes a
/-- A byte of the flash. -/
def Dev.flashByte (s : Dev) (a : Nat) : Byte := lookFlash s.mem s.writes a
/-- Bytes of the flash from an address. -/
def Dev.flashBytes (s : Dev) (a n : Nat) : List Byte := (List.range n).map fun i => s.flashByte (a + i)
/-- Bytes written to host memory. -/
def Dev.hostWrite (s : Dev) (a : Nat) (l : List Byte) : Dev :=
  (s.each l.zipIdx fun s x => s.write (.host ((a + x.2) % 2 ^ 64) x.1))

/-! ## Interrupts (13 R476, R477) -/

/-- Whether a transport is enabled: by its enable bit, or as the boot transport (13 R440, Table 13.17). -/
def Dev.enabled (s : Dev) : Transport → Bool
  | .pcie => s.on GLB_TRANSPORT_PCIE_EN || s.get GLB_TRANSPORT_BOOT == 0
  | .spi => s.on GLB_TRANSPORT_SPI_EN || s.get GLB_TRANSPORT_BOOT == 1
  | .mdio => s.on GLB_TRANSPORT_MDIO_EN || s.get GLB_TRANSPORT_BOOT == 2

/-- The transport of a code (13 Table 13.5). -/
def transportOf (n : Nat) : Transport := if n = 0 then .pcie else if n = 1 then .spi else .mdio

/-- An MSI-X message for a vector: sent if MSI-X is on and the entry is not masked, kept pending if it is masked, nothing
if MSI-X is off (13 R477, as PCIe defines). -/
def Dev.signalMsix (s : Dev) (v : Nat) : Dev :=
  if s.on GLB_INT_CTRL_MSIX_ON then
    let e := s.msix.get (Fin.ofNat 64 v)
    if e.masked then { s with msixPend := s.msixPend ||| BitVec.ofNat 64 (2 ^ v) }
    else { s with msg := some (e.addr, e.data) }
  else s

/-- The pending bit of a vector set (13 R477). -/
def Dev.signalPin (s : Dev) (v : Nat) : Dev :=
  if v < 32 then s.putBit GLB_INT_PEND_LO_PEND v true else s.putBit GLB_INT_PEND_HI_PEND (v - 32) true

/-- A ring's vector signalled as its owner's transport does (13 R477). -/
def Dev.signalRing (s : Dev) (owner v : Nat) : Dev := if owner = 0 then s.signalMsix v else s.signalPin v

/-- A device vector signalled: a message where PCIe is enabled, the pending bit where SPI or MDIO is (log entry 12). -/
def Dev.signal (s : Dev) (v : Nat) : Dev :=
  (s.iff (s.enabled .pcie) (·.signalMsix v)).iff (s.enabled .spi || s.enabled .mdio) (·.signalPin v)

/-! ## Counters (14 R484–R491) -/

/-- A counter's VALUE. -/
def Dev.ctrValue (s : Dev) (m : Nat) : Nat := s.get (CTR_m_VAL_LO_VALUE m) + 2 ^ 32 * s.get (CTR_m_VAL_HI_VALUE m)
/-- A counter's VALUE set. -/
def Dev.setCtrValue (s : Dev) (m v : Nat) : Dev :=
  (s.set (CTR_m_VAL_LO_VALUE m) (v % 2 ^ 32)).set (CTR_m_VAL_HI_VALUE m) (v / 2 ^ 32)

/-- The trigger event of code k has occurred on a port: an armed capture that waits for it may now trigger (04 R164). -/
def Dev.fireCapture (s : Dev) (p : Port) (k : Nat) : Dev :=
  if s.get (LPn_CAP_STATUS_STATE p) = 1 ∧ (s.prt p).cap.trigger = k then s.modCap p fun c => { c with fired := true } else s

/-- The sample record of an overflow (14 R490, R491). -/
def Dev.ctrSample (s : Dev) (m : Nat) (froze : Bool) : Dev :=
  let running := s.sys.core == .running
  let r : Sample :=
    { ctr := m, desc := s.cur, pc := if running then some (Config.corePc s.draws) else none
      event := s.get (CTR_m_CFG_EVENT m), inst := s.get (CTR_m_CFG_INSTANCE m), froze := froze
      ovf := s.get (CTR_m_OVF_COUNT_OVF_COUNT m), time := s.timebase }
  let s := s.draw
  if s.ctr.samples.length < 64 then
    (s.modCtr fun c => { c with samples := c.samples ++ [r] }).set CTR_STATUS_SAMPLES (s.ctr.samples.length + 1)
  else (s.flag CTR_EVENTS_SAMPLE_LOST true).inc CTR_EVENTS_SAMPLES_LOST

/-- A counter's overflow (14 R488–R491): its bit, its count, freeze, sample, signal, and capture trigger 6. -/
def Dev.ctrOverflow (s : Dev) (m : Nat) : Dev :=
  let s := if m < 32 then s.putBit CTR_OVF_LO_OVF m true else s.putBit CTR_OVF_HI_OVF (m - 32) true
  let s := s.inc (CTR_m_OVF_COUNT_OVF_COUNT m)
  let froze := s.on (CTR_m_CFG_FREEZE_ON_OVF m)
  let s := s.iff froze fun s =>
    ((s.flag CTR_STATUS_FROZEN true).set CTR_STATUS_FREEZE_CAUSE 2).flag CTR_EVENTS_FREEZE_OVF true
  let s := s.iff (s.on (CTR_m_CFG_SAMPLE_EN m)) (·.ctrSample m froze)
  let s := s.iff (s.on (CTR_m_CFG_OVF_IRQ m) && s.on CTR_INT_IRQ_EN) fun s => s.signal (s.get CTR_INT_VECTOR)
  s.each allPorts fun s p => s.iff ((s.prt p).cap.pc == m) (·.fireCapture p 6)

/-- A counter's VALUE raised (14 R485, R486, R488); nothing while frozen (R492). -/
def Dev.ctrAdd (s : Dev) (m n : Nat) : Dev :=
  if n = 0 ∨ s.on CTR_STATUS_FROZEN then s
  else
    let v := s.ctrValue m + n
    let top := 2 ^ 48 - 1
    let s := s.iff (decide (top < v)) fun s => (s.flag (CTR_m_CFG_SAT m) true).flag CTR_EVENTS_SAT true
    let v := min v top
    let limit := s.get (CTR_m_LIMIT_VALUE m)
    let reload := s.on (CTR_m_CFG_RELOAD m)
    let done := s.ctr.done.get (Fin.ofNat 64 m)
    if limit ≠ 0 ∧ limit ≤ v ∧ (reload ∨ ¬ done) then
      let s := s.setCtrValue m (if reload then v - limit else v)
      let s := s.iff (!reload) fun s => s.modCtr fun c => { c with done := c.done.set (Fin.ofNat 64 m) true }
      s.ctrOverflow m
    else s.setCtrValue m v

/-- Whether a source's instance counts: codes below 0x20 ignore it (14 Table 14.1). -/
def Dev.ctrMatches (s : Dev) (m code inst : Nat) : Bool :=
  s.get (CTR_m_CFG_EVENT m) == code && (code < 0x20 || s.get (CTR_m_CFG_INSTANCE m) == inst)

/-- An event of a source, n times: every counter that watches it counts (14 R485, R486). A condition's entry to true is
counted in the same way, but not by a counter in mode TIME. -/
def Dev.count (s : Dev) (code inst : Nat) (n : Nat := 1) : Dev :=
  s.each (List.range 64) fun s m =>
    if s.ctrMatches m code inst ∧ s.get (CTR_m_CFG_MODE m) = 0 then s.ctrAdd m n else s

/-- A sample of a quantity (14 Table 14.2). -/
def Dev.sample (s : Dev) (code inst q : Nat) : Dev :=
  s.each (List.range 64) fun s m =>
    if s.ctrMatches m code inst then
      let n := s.get (CTR_m_N_VALUE m)
      match s.get (CTR_m_CFG_MODE m) with
      | 0 => s.ctrAdd m 1
      | 1 => if n < q then s.ctrAdd m 1 else s
      | 2 => if q < n then s.ctrAdd m 1 else s
      | 3 => s.ctrAdd m q
      | _ => s
    else s

/-- An operation that succeeded on its second attempt (13 R469). -/
def Dev.retried (s : Dev) : Dev := (s.inc GLB_RING_COUNT_RETRIED).count 0x06 0

/-! ## Rings and completions (13 R448–R451, R466, R467) -/

/-- Status codes (13 Table 13.9). -/
def stOk : Nat := 0x00
def stRetriedOk : Nat := 0x01
def stInvalid : Nat := 0x02
def stBusy : Nat := 0x03
def stRefused : Nat := 0x04
def stCheckFail : Nat := 0x05
def stMemUe : Nat := 0x06
def stTimeout : Nat := 0x07
def stAborted : Nat := 0x08
def stNotSupported : Nat := 0x09
def stCapUnmet : Nat := 0x0A
def stRestoreLost : Nat := 0x0B
def stPreempted : Nat := 0x0C

/-- A ring's context. -/
def Dev.ring (s : Dev) (r : Nat) : RingCtx := sget {} s.ctx r
/-- Whether a ring is enabled (13 R448). -/
def RingCtx.live (c : RingCtx) : Bool := c.sizeLog2 != 0
/-- A ring's size in entries (13 R448); 0 where the context is disabled. -/
def RingCtx.size (c : RingCtx) : Nat := if c.sizeLog2 = 0 then 0 else 2 ^ c.sizeLog2
/-- Whether a ring is full (13 R450). -/
def RingCtx.full (c : RingCtx) : Bool := (c.tail + 1) % c.size == c.head
/-- Entries that wait on a ring (13 R450). -/
def RingCtx.waiting (c : RingCtx) : Nat := (c.tail + c.size - c.head) % c.size

/-- A word of an on-die memory written. The context store's home is the table of contexts; the memory itself keeps only
the bits in which a stored word differs from it, and a write of the word leaves none (log entry 10). -/
def Dev.putWord (s : Dev) (i : MemId) (w : Nat) (x : MWord) : Dev :=
  s.write (.word i w (if i = 3 then {} else x))

/-- A ring's context set; its words are written afresh. -/
def Dev.setRing (s : Dev) (r : Nat) (c : RingCtx) : Dev :=
  let s := { s with ctx := sput {} s.ctx r c }
  s.each [0, 1, 2, 3] fun s k =>
    if lookWord s.mem s.writes 3 (4 * r + k) = ({} : MWord) then s else s.putWord 3 (4 * r + k) {}

/-- A context's image (13 Table 13.5); held is the number of completions held for it. -/
def RingCtx.image (c : RingCtx) (held : Nat) : List Byte :=
  bytesOf 8 c.base ++ bytesOf 2 c.head ++ bytesOf 2 c.tail ++
  [BitVec.ofNat 8 (c.sizeLog2 + 32 * c.typ + 128 * bnat c.phase),
   BitVec.ofNat 8 (c.owner + 4 * bnat c.irqEn), BitVec.ofNat 8 c.vector, BitVec.ofNat 8 c.weight] ++
  bytesOf 2 c.cq ++ [BitVec.ofNat 8 c.coalTime, BitVec.ofNat 8 c.outstanding] ++
  bytesOf 4 c.entries ++ bytesOf 2 (if c.typ = 1 then min held 0xFFFF else c.heldOrDrops) ++ bytesOf 2 c.dbBad ++
  bytesOf 4 0

/-- A ring's context image with what is held for it now (13 Table 13.5, HELD_OR_DROPS). -/
def Dev.ctxImage (s : Dev) (r : Nat) : List Byte :=
  let notices := sumNat (s.target.toList.map fun t =>
    match t with
    | some t => if t.ring = r then t.held.length else 0
    | none => 0)
  (s.ring r).image ((s.heldCpl.filter fun h => h.1 == r).length + notices)

/-- A completion's bytes (13 Table 13.8). -/
def Cpl.image (c : Cpl) (phase : Bool) : List Byte :=
  [BitVec.ofNat 8 c.status,
   BitVec.ofNat 8 (bnat phase + 2 * bnat c.async + 4 * bnat c.fetchFail + 8 * bnat c.evtLost + 16 * c.sev)] ++
  bytesOf 2 c.tag ++ bytesOf 4 c.result ++ bytesOf 8 c.time

/-- Whole words written to ring memory from a byte offset that is a multiple of 8. -/
def Dev.ramWords (s : Dev) (off : Nat) (l : List Byte) : Dev :=
  s.each (chunks 8 l.length l).zipIdx fun s x => s.putWord 2 (off / 8 + x.2) (.full (BitVec.ofNat 64 (ofBytes x.1)))

/-- An entry written to a ring that the device produces, at its tail (13 R449–R451). -/
def Dev.putEntry (s : Dev) (r : Nat) (entry : Bool → List Byte) : Dev :=
  let c := s.ring r
  let l := entry c.phase
  let a := c.base + l.length * c.tail
  let s := if c.owner = 0 then s.hostWrite a l else s.ramWords a l
  let tail := (c.tail + 1) % c.size
  s.setRing r { c with tail := tail, phase := if tail = 0 then !c.phase else c.phase,
                       entries := (c.entries + 1) % 2 ^ 32 }

/-- An entry (or sample set) counted toward a ring's signal (13 R476). -/
def Dev.coalesce (s : Dev) (r : Nat) : Dev :=
  let c := s.ring r
  let n := c.sinceSignal + 1
  if c.irqEn ∧ (c.weight ≤ 1 ∨ c.weight ≤ n) then
    (s.setRing r { c with sinceSignal := 0 }).signalRing c.owner c.vector
  else s.setRing r { c with sinceSignal := n }

/-- A completion written to a completion ring with room (13 R467). -/
def Dev.writeCpl (s : Dev) (r : Nat) (c : Cpl) : Dev := (s.putEntry r c.image).coalesce r

/-- A completion due on a completion ring: written, or held while the ring is full or others wait before it (13 R467);
nothing on a ring that is not enabled. -/
def Dev.postCpl (s : Dev) (r : Nat) (c : Cpl) : Dev :=
  let q := s.ring r
  if !q.live then s
  else if q.full || s.heldCpl.any (fun h => h.1 == r) then { s with heldCpl := s.heldCpl ++ [(r, c)] }
  else s.writeCpl r c

/-! ## Logged events (18 R575, R580, R581, R589; 13 R475) -/

/-- A record's first 60 bytes and its check value (18 Table 18.1); BUFFERED and CRC_BAD are added where it is read. -/
def EvRec.bytes (r : EvRec) : List Byte :=
  let l := bytesOf 4 r.seq ++ bytesOf 4 r.hours ++ bytesOf 4 r.cycles ++
    [BitVec.ofNat 8 r.cal.sec, BitVec.ofNat 8 r.cal.min, BitVec.ofNat 8 r.cal.hour, BitVec.ofNat 8 r.cal.day,
     BitVec.ofNat 8 r.cal.month, BitVec.ofNat 8 r.cal.year] ++ bytesOf 2 r.sub ++
    [BitVec.ofNat 8 (r.sev + 4 * bnat r.rtcValid + 8 * bnat r.deferred), BitVec.ofNat 8 r.bit] ++
    bytesOf 2 r.source ++ padBytes 32 r.payload ++ bytesOf 4 0
  l ++ bytesOf 4 (crc32c l)

/-- An event notice (13 R475): written on its target ring, or held there, or dropped. -/
def Dev.notice (s : Dev) (t : Transport) (sev source seq : Nat) : Dev :=
  match s.target.get t.idx with
  | none => s
  | some g =>
    if sev < g.minSev then s
    else
      let q := s.ring g.ring
      let c : Cpl := { status := stOk, async := true, evtLost := g.lost, sev := sev, tag := source, result := seq
                       time := s.timebase }
      let put := fun (s : Dev) (g : EvTarget) => { s with target := s.target.set t.idx (some g) }
      if q.live ∧ ¬ q.full ∧ g.held = [] ∧ ¬ s.heldCpl.any (fun h => h.1 == g.ring) then
        (put s { g with lost := false }).writeCpl g.ring c
      else if g.held.length < 64 then put s { g with held := g.held ++ [c], lost := false }
      else (put s { g with lost := true }).flag GLB_RING_EVENTS_EVT_LOST true

/-- An entry of the trace log (18 R589, Table 18.3). -/
def Dev.trace (s : Dev) (source bit sev category : Nat) (isEvent : Bool) (data : List Byte) : Dev :=
  let i := s.get EVR_STATUS_TRACE_NEXT % 4096
  let l := bytesOf 8 s.timebase ++ bytesOf 4 (s.get RTC_SEC_VALUE) ++ bytesOf 2 source ++
    [BitVec.ofNat 8 bit, BitVec.ofNat 8 (sev + 4 * category + 128 * bnat isEvent)] ++ padBytes 16 data
  let s := s.each (chunks 8 4 l).zipIdx fun s x =>
    s.putWord 1 (0x4000 + 4 * i + x.2) (.full (BitVec.ofNat 64 (ofBytes x.1)))
  s.set EVR_STATUS_TRACE_NEXT ((i + 1) % 4096)

/-- A record discarded from the volatile buffer (18 R581). -/
def Dev.bufDrop (s : Dev) : Dev := (s.inc EVR_COUNT_BUF_DROPS).flag EVR_EVENTS_BUF_FULL true

/-- A record into the volatile buffer (18 R580, R581). -/
def Dev.buffer (s : Dev) (r : EvRec) : Dev :=
  let put := fun (s : Dev) (l : List EvRec) => (s.modEvr fun e => { e with buf := l }).set EVR_STATUS_BUFFERED l.length
  if s.evr.buf.length < 64 then put s (s.evr.buf ++ [r])
  else if r.sev < 2 then s.bufDrop
  else
    match s.evr.buf.findIdx? (fun e => e.sev < 2) with
    | some i => (put s (s.evr.buf.eraseIdx i ++ [r])).bufDrop
    | none => s.bufDrop

/-- An event logged (18 R575): the next SEQ, a record in the buffer, a trace entry, a notice on every target that its
severity reaches, and a flush for severity 2 and 3. -/
def Dev.logRec (s : Dev) (r : EvRec) : Dev :=
  let r := { r with seq := s.get EVR_SEQ_VALUE }
  let s := s.set EVR_SEQ_VALUE (r.seq + 1)
  let s := s.buffer r
  let s := s.trace r.source r.bit r.sev 0 true (padBytes 16 r.payload)
  let s := s.each [Transport.pcie, .spi, .mdio] fun s t => s.notice t r.sev r.source r.seq
  s.iff (2 ≤ r.sev) fun s => s.modEvr fun e => { e with due := true }

/-- An event of a source and bit logged with the time as it stands. In RETAIN and WAKING, while CORE is off, it is kept and
logged at LOGIC_READY (16 R532; DEDUCED, log entry 41). -/
def Dev.logRaw (s : Dev) (source bit sev : Nat) (payload : List Byte) : Dev :=
  if 2 ≤ s.get PWR_STATE_STATE then { s with pwr := { s.pwr with late := s.pwr.late ++ [(source, bit, sev, payload)] } }
  else
    s.logRec { seq := 0, hours := s.get EVR_HOURS_VALUE, cycles := s.get EVR_CYCLES_VALUE, cal := s.rtc.cal
               sub := min s.rtc.sub 32767, sev := sev, rtcValid := s.on RTC_STATUS_RTC_VALID, deferred := false
               bit := bit, source := source, payload := payload }

/-- An event that a bit of a W1C register reports: SOURCE is the register's offset ÷ 4, BIT the bit (18 Table 18.1). -/
def Dev.log (s : Dev) (f : Fld) (sev : Nat) (payload : List Byte := []) : Dev :=
  s.logRaw (f.off / 4) f.lsb sev payload

/-- A bit set and its event logged. -/
def Dev.raise (s : Dev) (f : Fld) (sev : Nat) (payload : List Byte := []) : Dev := (s.flag f true).log f sev payload

/-- An event that no register bit reports (18 Table 18.2). -/
def Dev.logPlain (s : Dev) (bit sev : Nat) (payload : List Byte := []) : Dev := s.logRaw 0x3402 bit sev payload

/-- One byte of a payload. -/
def pay (n : Nat) : List Byte := [BitVec.ofNat 8 n]

/-! ## Reads and narrow writes (15 R506–R510) -/

/-- A stored word as the block would read it, the context store's from its contexts (log entry 10). -/
def Dev.rawWord (s : Dev) (i : MemId) (w : Nat) : MWord :=
  let x := lookWord s.mem s.writes i w
  if i = 3 then
    let r := w / 4
    let l := s.ctxImage r
    let d := BitVec.ofNat 64 (ofBytes ((l.drop (8 * (w % 4))).take 8))
    ⟨d ^^^ x.data, checkBits d ^^^ x.check, s.ring r != {}⟩
  else x

/-- A correctable error counted and the bucket raised (15 R506, R513). -/
def Dev.correctable (s : Dev) (i : MemId) (w : Nat) (y : BitVec 8) : Dev :=
  let s := (s.inc (MEM_m_COUNT_CE_COUNT i)).count 0x09 0
  let s := ((s.set (MEM_m_LAST_ADDR i) w).set (MEM_m_LAST_SYNDROME i) y.toNat).set (MEM_m_POS_LAST_UE i) 0
  let level := s.get (MEM_m_BUCKET_LEVEL i)
  if max (s.get (MEM_m_BUCKET_CAPACITY i)) 1 < level + 1 then
    let s := ((s.set (MEM_m_BUCKET_LEVEL i) 0).inc (MEM_m_COUNT_OVERFLOWS i)).putBit MEM_BUCKET_OVF_MASK i true
    let s := s.iff (s.on MEM_INT_IRQ_EN) fun s => s.signal (s.get MEM_INT_VECTOR)
    s.logRaw (MEM_BUCKET_OVF_MASK.off / 4) i 1 (pay i)
  else s.set (MEM_m_BUCKET_LEVEL i) (level + 1)

/-- A lasting uncorrectable error counted and logged (15 R507). -/
def Dev.lasting (s : Dev) (i : MemId) (w : Nat) (y : BitVec 8) : Dev :=
  let s := (s.inc (MEM_m_COUNT_UE_COUNT i)).count 0x0A 0
  let s := ((s.set (MEM_m_LAST_ADDR i) w).set (MEM_m_LAST_SYNDROME i) y.toNat).set (MEM_m_POS_LAST_UE i) 1
  (s.putBit MEM_UE_SEEN_MASK i true).logRaw (MEM_UE_SEEN_MASK.off / 4) i 2 (pay i ++ bytesOf 3 w)

/-- A read of one word (15 R506, R507): what it gives and how it went. glitch is what the first of its reads sees flipped
beside the stored bits. A lasting error leaves the word as it is. -/
def Dev.readWord (s : Dev) (i : MemId) (w : Nat) (glitch : BitVec 72 := 0) : Dev × BitVec 64 × Attempt :=
  let x := s.rawWord i w
  let seen : MWord := if x.valid then ⟨x.data ^^^ glitch.setWidth 64, x.check ^^^ (glitch >>> 64).setWidth 8, true⟩ else x
  let fix := fun (s : Dev) (x : MWord) => (s.putWord i w (.full x.value)).correctable i w x.syndrome
  match eccClass seen.syndrome with
  | .clean => (s, seen.value, .first)
  | .correctable => (fix s seen, seen.value, .first)
  | .uncorrectable =>
    match eccClass x.syndrome with
    | .clean => (s.retried, x.value, .second)
    | .correctable => ((fix s x).retried, x.value, .second)
    | .uncorrectable => (s.lasting i w x.syndrome, 0, .failed)

/-- Bytes of an on-die memory, word by word (15 R506, R507). The count of good bytes stops at a lasting error. glitch names a
word and what the first of its reads sees flipped. -/
def Dev.readMem (s : Dev) (i : MemId) (off n : Nat) (glitch : Option (Nat × BitVec 72) := none) : Dev × List Byte × Attempt :=
  if n = 0 then (s, [], .first)
  else
    let first := off / 8
    let words := (off + n - 1) / 8 + 1 - first
    let step := fun (a : Dev × List Byte × Attempt) (k : Nat) =>
      match a.2.2 with
      | .failed => a
      | t =>
        let flips := match glitch with
          | some g => if g.1 = first + k then g.2 else 0
          | none => 0
        let r := a.1.readWord i (first + k) flips
        match r.2.2 with
        | .failed => (r.1, a.2.1, .failed)
        | u => (r.1, a.2.1 ++ bytesOf 8 r.2.1.toNat, Attempt.worse t u)
    let r := (List.range words).foldl step (s, [], .first)
    (r.1, (r.2.1.drop (off % 8)).take n, r.2.2)

/-- Fewer than eight bytes merged into a word from byte k of it (15 R509). -/
def Dev.mergeWord (s : Dev) (i : MemId) (w k : Nat) (l : List Byte) : Dev × Attempt :=
  let x := s.rawWord i w
  let merged := fun (d : BitVec 64) =>
    let old := bytesOf 8 d.toNat
    MWord.full (BitVec.ofNat 64 (ofBytes (old.take k ++ l ++ old.drop (k + l.length))))
  let fix := fun (s : Dev) => s.correctable i w x.syndrome
  match eccClass x.syndrome with
  | .clean => (s.putWord i w (merged x.value), .first)
  | .correctable => ((fix s).putWord i w (merged x.value), .first)
  | .uncorrectable => (((s.lasting i w x.syndrome).putWord i w .poison).flag MEM_EVENTS_POISONED true, .failed)

/-- Bytes written to an on-die memory from a byte offset: whole words whole (15 R508), parts through the merge buffer (R509).
Gives how it went and how many bytes were written before a refused merge. -/
def Dev.writeMem (s : Dev) (i : MemId) (off : Nat) (l : List Byte) : Dev × Attempt × Nat :=
  let lead := min l.length ((8 - off % 8) % 8)
  let w0 := off / 8
  let a : Dev × Attempt × Nat :=
    if lead = 0 then (s, .first, 0)
    else
      let r := s.mergeWord i w0 (off % 8) (l.take lead)
      (r.1, r.2, match r.2 with | .failed => 0 | _ => lead)
  let w1 := (off + lead) / 8
  (chunks 8 l.length (l.drop lead)).zipIdx.foldl (init := a) fun a x =>
    match a.2.1 with
    | .failed => a
    | _ =>
      if x.1.length = 8 then
        (a.1.putWord i (w1 + x.2) (.full (BitVec.ofNat 64 (ofBytes x.1))), a.2.1, a.2.2 + 8)
      else
        let r := a.1.mergeWord i (w1 + x.2) 0 x.1
        (r.1, r.2, match r.2 with | .failed => a.2.2 | _ => a.2.2 + x.1.length)

/-! ## Descriptors (13 R460–R469) -/

/-- The owner of a descriptor's ring (13 Table 13.5). -/
def Dev.ownerOf (s : Dev) (d : Desc) : Nat := (s.ring d.ring).owner

/-- Whether a span that a descriptor reads or writes at Address leaves ring memory (13 R449). -/
def Dev.spanBad (s : Dev) (d : Desc) (n : Nat) : Bool := s.ownerOf d != 0 && n != 0 && decide (0x80000 < d.address + n)

/-- Data written at a descriptor's Address (13 R442): to host memory, or to ring memory through the merge buffer. -/
def Dev.putData (s : Dev) (d : Desc) (off : Nat) (l : List Byte) : Dev × Attempt :=
  if l = [] then (s, .first)
  else if s.ownerOf d = 0 then (s.hostWrite (d.address + off) l, .first)
  else
    let r := s.writeMem 2 (d.address + off) l
    (r.1, r.2.1)

/-- Bytes written at a descriptor's Address, with how many were written (13 R442, 15 R509). -/
def Dev.putCounted (s : Dev) (c : Desc) (l : List Byte) : Dev × Attempt × Nat :=
  if s.ownerOf c = 0 then (s.hostWrite c.address l, .first, l.length) else s.writeMem 2 c.address l

/-- The event of descriptor data that could not be read (13 R469, 18 Table 18.2 code 0xF7). -/
def Dev.dataLost (s : Dev) (d : Desc) (status : Nat) : Dev :=
  s.logPlain 0xF7 2 (bytesOf 2 d.ring ++ bytesOf 2 d.index.toNat ++ bytesOf 2 d.tag ++ pay status)

/-- Data read from a descriptor's Address (13 R469): the bytes, and how the read went. -/
def Dev.getData (s : Dev) (d : Desc) (off n : Nat) (status : Nat := stMemUe) : Dev × List Byte × Attempt :=
  if n = 0 then (s, [], .first)
  else
    let r : Dev × List Byte × Attempt :=
      if s.ownerOf d = 0 then
        (s, (List.range n).map fun i => s.hostByte ((d.address + off + i) % 2 ^ 64), .first)
      else s.readMem 2 (d.address + off) n
    match r.2.2, d.data with
    | .failed, _ => (r.1.dataLost d status, [], .failed)
    | _, .failed => (r.1.dataLost d status, [], .failed)
    | t, .second => (r.1.retried, r.2.1, Attempt.worse t .second)
    | t, .first => (r.1, r.2.1, t)

/-- OK, RETRIED_OK, or the status of a failure (13 R461, R469). -/
def statusOf (a : Attempt) (failed : Nat := stMemUe) : Nat :=
  match a with
  | .first => stOk
  | .second => stRetriedOk
  | .failed => failed

/-- A descriptor completes (13 R465–R467, R469): OK after a second fetch is RETRIED_OK; its ring's count falls, its completion is written unless it is OK without CR, its
chain goes on or fails, and the counter sources of 14 Table 14.1 see it. -/
def Dev.finish (s : Dev) (d : Desc) (status result : Nat) : Dev :=
  let q := s.ring d.ring
  let status := if d.again && status == stOk then stRetriedOk else status
  let ok := status == stOk || status == stRetriedOk
  let c : Cpl := { status := status, tag := d.tag, result := result % 2 ^ 32, time := s.timebase }
  let s := s.iff q.live fun s =>
    let s := s.setRing d.ring
      { q with outstanding := q.outstanding - 1
               chain := if d.chain then (if ok then .none else .failed) else q.chain }
    s.iff (d.cr || status != stOk) (·.postCpl q.cq c)
  let s := { s with lastCpl := some (d.ring, c) }
  (s.count 0x05 0).sample 0x07 0 (min ((s.timebase - d.fetched) / 1000) (2 ^ 32 - 1))

/-- A descriptor writes its record at Address and completes; nothing is written where Length is 0. -/
def Dev.answer (s : Dev) (d : Desc) (l : List Byte) (result : Nat) : Dev :=
  let w := if d.length = 0 then (s, Attempt.first) else s.putData d 0 l
  w.1.finish d (statusOf w.2) result

/-- A descriptor goes into its wait phase (13 R463). -/
def Dev.park (s : Dev) (k : WaitKind) (d : Desc) : Dev := { s with waits := s.waits ++ [(k, d)] }

/-- The first descriptor that waits for something. -/
def Dev.waiting (s : Dev) (k : WaitKind) : Option Desc := (s.waits.find? fun w => w.1 == k).map (·.2)

/-- The first descriptor that waits for something completes. -/
def Dev.wakeOne (s : Dev) (k : WaitKind) (status result : Nat) : Dev :=
  match s.waiting k with
  | none => s
  | some d => { s with waits := s.waits.eraseP fun w => w.1 == k }.finish d status result

/-- The first descriptor that waits for something completes OK, or RETRIED_OK where its data took a second read. -/
def Dev.wakeOk (s : Dev) (k : WaitKind) (result : Nat) : Dev :=
  match s.waiting k with
  | none => s
  | some d => s.wakeOne k (statusOf d.data) result

/-- Every descriptor whose wait a test picks out completes, oldest first. -/
def Dev.wakeAll (s : Dev) (pick : WaitKind → Bool) (status : Nat) (result : WaitKind → Nat := fun _ => 0) : Dev :=
  let l := s.waits.filter fun w => pick w.1
  { s with waits := s.waits.filter fun w => !pick w.1 }.each l fun s w => s.finish w.2 status (result w.1)

/-- A descriptor stamped with the time of its fetch. -/
def Desc.stamp (d : Desc) (t : Nat) : Desc := { d with fetched := t }
/-- The descriptor in its action phase noted (14 R491). -/
def Dev.busyWith (s : Dev) (c : Option (Nat × Nat)) : Dev := { s with cur := c }

/-- The opcodes that recovery serves (19 R610): NOP, IDENTIFY, FW_LOAD, FW_ACTIVATE, SOFT_RESET, CFG_READ. -/
def recoveryOpcodes : List Nat := [0x00, 0x05, 0x90, 0x91, 0x93, 0x94]

/-- A descriptor's action phase (13 R463, R465, 19 R610): it counts as outstanding and as the one in progress; the rest of
a failed chain completes ABORTED without acting, and recovery knows few opcodes. -/
def Dev.descriptor (s : Dev) (d : Desc) (act : Dev → Desc → Dev) : Dev :=
  let d := Desc.stamp d s.timebase
  let q := s.ring d.ring
  let s := s.iff q.live fun s =>
    s.setRing d.ring { q with outstanding := q.outstanding + 1
                              chain := if q.chain = .none ∧ d.chain then .waiting else q.chain }
  let s := s.busyWith (some (d.tag, d.ring))
  let s : Dev :=
    if q.chain = .failed then
      let s := s.finish d stAborted 0
      s.iff (!d.chain) fun s => s.setRing d.ring { s.ring d.ring with chain := .none }
    else if s.on GLB_BOOT_STATUS_RECOVERY && !recoveryOpcodes.contains d.opcode then s.finish d stNotSupported 0
    else act s d
  s.busyWith none

/-- The device as a command finds it: nothing written yet. -/
def Dev.fresh (s : Dev) : Dev := { s with writes := [] }
/-- A command done: its memory writes act, in order, on the memories as they stood. -/
def Dev.settle (s : Dev) (before : Mem) : Dev := { s with mem := before.commit s.writes, writes := [] }

/-- A command's effect on the state: all of it on the device, none on the queue. -/
def run (s : State) (g : Dev → Dev) : Host.Outcome State Fault Refusal :=
  .next { s with dev := (g s.dev.fresh).settle s.dev.mem }

end Sys2Proof.Machine
end

