-- ==== Sys2Proof/Machine/Flags.lean ====
section
/-! DEFINITION. What follows from other state: the tables of modes, rates and classes, the pairs in use, lane groups, the
iteration limit, the flags that are a function of other state, and the level of the interrupt pin. -/

namespace Sys2Proof.Machine

open Reg

/-- A set-up register's fields as one number. -/
def Dev.regValue (s : Dev) (off : Nat) : Nat := sumNat ((fieldsAt off).map fun f => s.get f * 2 ^ f.lsb)

/-! ## Modes (01 Table 1.2, 08 Table 8.12) -/

/-- Optical modes. -/
def isOptical (m : Nat) : Bool := 1 ≤ m && m ≤ 3
/-- Full-duplex modes. -/
def isFd (m : Nat) : Bool := m == 6 || m == 7
/-- NRZ modes. -/
def isNrz (m : Nat) : Bool := m == 9 || m == 10

/-- The arrangements of a mode: (lanes, rate code of Table 10.1). -/
def arrangements : Nat → List (Nat × Nat)
  | 1 | 2 => [(2, 0), (4, 1)]
  | 3 | 4 | 6 => [(1, 0), (2, 1), (4, 2)]
  | 5 | 7 => [(1, 1), (2, 2)]
  | 8 => [(1, 2)]
  | 9 => [(1, 3)]
  | 10 => [(1, 4)]
  | _ => []

/-- The rate code of a mode's arrangement with the lane count given. -/
def rateOf (m lanes : Nat) : Option Nat := ((arrangements m).find? fun a => a.1 == lanes).map (·.2)

/-- Whether a mode uses the inner code (07 Table 7.1). -/
def innerUsed (m : Nat) (inner : Bool) : Bool := m == 1 || (m == 3 && inner)

/-- The mode that an acquisition class leads to (08 Table 8.1). -/
def classMode : Nat → Nat
  | 1 => 10
  | 2 => 9
  | 3 => 8
  | 4 => 5
  | 5 => 4
  | 6 => 1
  | 7 => 2
  | 8 => 3
  | _ => 0

/-- The class of a mode; 0 for a full-duplex mode (08 R273). -/
def modeClass (m : Nat) : Nat := ((List.range 9).find? fun c => c != 0 && classMode c == m).getD 0

/-- The simplex mode of a full-duplex mode's rate (05 R198). -/
def simplexOf (m : Nat) : Nat := if m = 6 then 4 else if m = 7 then 5 else m

/-- Pairs that receive in a mode (04 R125). -/
def rxPairs (m : Nat) : List Pair := if isFd m then [.a, .b] else [.b]
/-- Pairs that transmit in a mode (01 Table 1.2). -/
def txPairs (m : Nat) : List Pair := if isFd m then [.a, .b] else [.a]

/-- The most FFE taps of a mode (04 Table 4.1). -/
def maxTaps (m : Nat) : Nat := if isOptical m then 64 else 128
/-- The default MAIN_POS of a mode (04 Table 4.1). -/
def defaultMain (m : Nat) : Nat := if isOptical m then 12 else if m = 10 then 32 else 16
/-- Active taps of a setting (04 R128). -/
def activeTaps (m taps : Nat) : Nat := if taps = 0 then maxTaps m else min (16 * taps) (maxTaps m)
/-- MAIN_POS in use of a setting (04 R128). -/
def mainPos (m taps main : Nat) : Nat :=
  let n := activeTaps m taps
  let past := fun k => n ≤ k + 1
  if main = 0 ∨ past main then (if past (defaultMain m) then n / 4 else defaultMain m) else main

/-- A mode's symbol rate, in thirds of a kBd (01 Table 1.2, 03 Table 3.1). -/
def symbolRate (m : Nat) (inner : Bool) : Nat :=
  match m with
  | 1 => 680000000
  | 2 => 637500000
  | 3 => if inner then 340000000 else 318750000
  | 4 => 318750000
  | 5 | 6 => 159375000
  | 7 | 8 => 79687500
  | 9 => 77343750
  | _ => 30937500

/-- Samples per symbol (03 R82). -/
def perSymbol (m : Nat) : Nat := if m = 10 then 2 else 1

/-! ## A port's condition -/

/-- Link state (09 Table 9.1). -/
def Dev.linkState (s : Dev) (p : Port) : Nat := s.get (LPn_LINK_STATUS_LINK_STATE p)
/-- Acquisition state (08 Table 8.3). -/
def Dev.acqState (s : Dev) (p : Port) : Nat := s.get (LPn_ACQ_STATUS_ACQ_STATE p)
/-- Mode in force. -/
def Dev.mode (s : Dev) (p : Port) : Nat := (s.prt p).link.mode
/-- Pairs that receive in the mode in force. -/
def Dev.rx (s : Dev) (p : Port) : List Pair := rxPairs (s.mode p)
/-- Whether a port runs: STARTING, ACQUIRING, TRAINING, UP or LULL. -/
def Dev.running (s : Dev) (p : Port) : Bool := 1 ≤ s.linkState p && s.linkState p ≤ 5
/-- Whether a pair's front end is powered (03 R81). -/
def Dev.powered (s : Dev) (p : Port) (x : Pair) : Bool := s.running p && (s.rx p).contains x
/-- The pair whose receiver the acquisition machine uses is B; in full duplex pair A's validation comes later (05 R193). -/
def Dev.lockValid (s : Dev) (p : Port) : Pair → Bool
  | .a => (s.prt p).fd.aValid || s.acqState p == 7
  | .b => 4 ≤ s.acqState p
/-- Whether firmware runs on the core (19 Table 19.1). -/
def Dev.coreRuns (s : Dev) : Bool := s.sys.core == .running

/-- The lanes of a port's group in logical order (01 R30, 10 R373). -/
def Dev.group (s : Dev) (p : Port) : List Lane :=
  (List.range 4).flatMap fun k => allLanes.filter fun l =>
    s.on (HLn_MAP_VALID l) && s.get (HLn_MAP_PORT l) == p.val && s.get (HLn_MAP_POS l) == k
/-- The port whose group a lane belongs to. -/
def Dev.groupOf (s : Dev) (l : Lane) : Option Port :=
  if s.on (HLn_MAP_VALID l) then some (Fin.ofNat 8 (s.get (HLn_MAP_PORT l))) else none

/-- The mode that resolution is to be checked with: a class is enabled when its mode has an arrangement of the group's lane
count (08 R275). -/
def Dev.fits (s : Dev) (p : Port) (m : Nat) : Bool := (rateOf m (s.prt p).link.lanes).isSome

/-! ## Iteration limit (07 R255, 02 R62, R75) -/

/-- ITER_MAX as taken (07 Table 7.7). -/
def iterMax (n : Nat) : Nat := if n = 0 then 3 else min n 4
/-- A ceiling; 0 is none. -/
def ceil (c n : Nat) : Nat := if c = 0 then n else min c n
/-- The iteration limit in force of a port. -/
def Dev.iterLimit (s : Dev) (p : Port) : Nat :=
  ceil (s.get PWR_SHED_STATUS_ITER_CEIL) (ceil (s.get (LPn_SLACK_GOV_CEIL p)) (iterMax (s.get (LPn_FEC_CTRL_ITER_MAX p))))
/-- The limit and its hold reported (07 Table 7.8, 02 R56): ITER_HELD where the limit is above the set latency's count. -/
def Dev.iterRefresh (s : Dev) (p : Port) : Dev :=
  if s.on (LPn_FEC_STATUS_INNER_ON p) then
    let n := s.iterLimit p
    (s.set (LPn_FEC_STATUS_ITER_LIMIT p) n).flag (LPn_SLACK_ITER_HELD p)
      (decide (s.get (LPn_SLACK_ITER_SET p) < n) && s.get (LPn_SLACK_ITER_SET p) != 0)
  else (s.set (LPn_FEC_STATUS_ITER_LIMIT p) 0).flag (LPn_SLACK_ITER_HELD p) false

/-! ## Lull (09 R333, 08 R305) -/

/-- The partner's SUBCH: its LINK_PARAM where it has sent one, else its capability page. -/
def Dev.partnerSubch (s : Dev) (p : Port) : Bool :=
  match (s.prt p).acq.param with
  | some m => m.subch
  | none => s.on (LPn_AN_PARTNER_SUBCH p)
/-- The partner's LULL_SK, in the same way. -/
def Dev.partnerLull (s : Dev) (p : Port) : Bool :=
  match (s.prt p).acq.param with
  | some m => m.lullSk
  | none => s.on (LPn_AN_PARTNER_LULL_SK p)

/-- Transmitter states (06 Table 6.9). -/
def txOff : Nat := 0
def txSquelch : Nat := 1
def txLf : Nat := 2
def txIdle : Nat := 3
def txTrain : Nat := 4
def txData : Nat := 5

/-- Whether a port is eligible for Lull (09 R333). An LPI-idle stream counts as plain-idle, since LPI codes alone satisfy
both (09, worked example; DEDUCED, log entry 14). -/
def Dev.eligible (s : Dev) (p : Port) : Bool :=
  s.linkState p == 4 && s.on (LPn_LINK_CTRL_LULL_EN p) && (s.prt p).acq.said.2 && s.partnerLull p &&
  s.on (LPn_ACQ_STATUS_SUBCH_ON p) && (txPairs (s.mode p)).all (fun x => s.get (LPn_TX_STATUS_TXS p x) == txData) &&
  s.on (LPn_LINK_STATUS_IDLE_KIND p)
/-- ELIGIBLE reported (09 Table 9.9). -/
def Dev.eligRefresh (s : Dev) (p : Port) : Dev := s.flag (LPn_LINK_STATUS_ELIGIBLE p) (s.eligible p)

/-! ## Echo windows (05 R179) -/

/-- The window limit of a full-duplex mode (05 Table 5.1). -/
def windowLimit (m : Nat) : Nat := if m = 7 then 1593 else 3187
/-- Whether a window of a pair passes R179's check. -/
def Dev.windowGood (s : Dev) (p : Port) (x : Pair) (w : Nat) : Bool :=
  let st := s.get (LPn_ECHO_WIN_START p x w)
  s.on (LPn_ECHO_WIN_EN p x w) && 768 ≤ st && st + 31 ≤ windowLimit (s.mode p) &&
  (List.range 4).all fun v => v == w || !s.on (LPn_ECHO_WIN_EN p x v) ||
    decide (s.get (LPn_ECHO_WIN_START p x v) + 31 < st) || decide (st + 31 < s.get (LPn_ECHO_WIN_START p x v))
/-- BAD bits and WIN_BAD after a change of a window (05 R179). -/
def Dev.windowCheck (s : Dev) (p : Port) (x : Pair) : Dev :=
  s.each (List.range 4) fun s w =>
    let bad := s.on (LPn_ECHO_WIN_EN p x w) && !s.windowGood p x w
    (s.flag (LPn_ECHO_WIN_BAD p x w) bad).iff bad fun s => s.flag (LPn_FD_EVENTS_WIN_BAD p) true

/-- Whether a shed sub-step of Table 2.8 is in force, numbered 1a = 1 to 4 = 6 (02 R75). -/
def Dev.shedAt (s : Dev) (n : Nat) : Bool := s.shed.applied.contains n
/-- The windows that are applied: those that pass R179, none under sub-step 2 (05 R202). -/
def Dev.windowOn (s : Dev) (p : Port) (x : Pair) (w : Nat) : Bool := !s.shedAt 4 && s.windowGood p x w
/-- SPARSE_ON reported (05 Table 5.15). -/
def Dev.sparseRefresh (s : Dev) (p : Port) : Dev :=
  s.flag (LPn_FD_STATUS_SPARSE_ON p) (bothPairs.any fun x => s.get (LPn_FD_STATUS_ECHO p x) != 0 &&
    (List.range 4).any (s.windowOn p x))

/-! ## Severity levels of the interrupt pin (13 R477) -/

/-- Whether IRQ_N is driven low: after a wake that failed (16 R541), or by a pending bit whose mask bit is clear while
GLB_INT_CTRL enables the pin. -/
def Dev.irqLow (s : Dev) : Bool :=
  s.on PWR_STATE_WAKE_FAULT || s.on GLB_INT_CTRL_PIN_EN &&
  (s.get GLB_INT_PEND_LO_PEND &&& (2 ^ 32 - 1 - s.get GLB_INT_MASK_LO_MASK) != 0 ||
   s.get GLB_INT_PEND_HI_PEND &&& (2 ^ 32 - 1 - s.get GLB_INT_MASK_HI_MASK) != 0)

end Sys2Proof.Machine
end

