-- ==== Sys2Proof/Machine/Boundary.lean ====
section
/-! DEFINITION. The boundaries between clocked and self-timed logic: their elastic buffers, slack, and which of them the
governor watches (01 R22, 02 R46–R50, Table 2.1). -/

namespace Sys2Proof.Machine

open Reg

/-- An elastic buffer's depth in samples: 32 blocks of 256 (01 R22). -/
def bufferDepth : Nat := 8192

/-- Whether a boundary is an input boundary, clocked where it is written: a line ADC or a host receiver (02 R46). -/
def boundInput (b : Bound) : Bool := if b.val < 32 then b.val % 4 < 2 else b.val % 2 == 0

/-- Whether a boundary lies on the line-in to host-out path: an ADC or a host transmitter. -/
def boundRx (b : Bound) : Bool := if b.val < 32 then b.val % 4 < 2 else b.val % 2 == 1

/-- The pair of a converter's boundary: even numbers A. -/
def boundPair (b : Bound) : Pair := if b.val % 2 = 0 then .a else .b

/-- The lane of a host boundary. -/
def boundLane (b : Bound) : Lane := Fin.ofNat 16 ((b.val - 32) / 2)

/-- LAST_SRC's code of a boundary (02 Table 2.16). -/
def boundSrc (b : Bound) : Nat := if b.val < 32 then b.val % 4 else 4 + b.val % 2

/-- The port of a boundary: of a pair's converter, or of the lane's group. -/
def Dev.boundPort (s : Dev) (b : Bound) : Option Port :=
  if b.val < 32 then some (Fin.ofNat 8 (b.val / 4)) else s.groupOf (boundLane b)

/-- Whether the governor watches a boundary (02 R49): the pairs in use of a port in ACQUIRING, TRAINING or UP, and the lanes
of its group. -/
def Dev.watched (s : Dev) (b : Bound) : Bool :=
  match s.boundPort b with
  | none => false
  | some p =>
    let l := s.linkState p
    (2 ≤ l && l ≤ 4) &&
    (32 ≤ b.val ||
      (if b.val % 4 < 2 then (rxPairs (s.mode p)).contains (boundPair b) else (txPairs (s.mode p)).contains (boundPair b)))

/-- Symbols per second of a host lane's rate code, in units of 1,000/3 (10 Table 10.1). -/
def laneRate : Nat → Nat
  | 0 => 318750000
  | 1 => 159375000
  | 2 => 79687500
  | 3 => 77343750
  | _ => 30937500

/-- Samples per second of a boundary, in units of 1,000/3: its converter's or its lane's own rate (02 R47, 03 R82). -/
def Dev.boundRate (s : Dev) (b : Bound) : Nat :=
  if b.val < 32 then
    let p : Port := Fin.ofNat 8 (b.val / 4)
    symbolRate (s.mode p) (s.prt p).link.inner * (if b.val % 4 < 2 then perSymbol (s.mode p) else 1)
  else laneRate (s.get (HLn_STATUS_RATE (boundLane b)))

/-- Slack in whole nanoseconds at an occupancy in samples: the free space at an input boundary, the occupancy at an output
boundary, at the boundary's own rate, at most 63 (02 R47). -/
def Dev.slackAt (s : Dev) (b : Bound) (fill : Nat) : Nat :=
  let n := if boundInput b then bufferDepth - fill else min fill bufferDepth
  min 63 (n * 3000000 / s.boundRate b)

/-- The occupancy at which a boundary that carries no stream rests: an input buffer empty, an output buffer full, since a
writer that nothing drains fills it (02 R48; DESIGN CHOICE, log entry 80). -/
def restFill (b : Bound) : Nat := if boundInput b then 0 else bufferDepth

/-- The register field that reports a boundary's slack (02 Tables 2.15, 2.17). -/
def boundFld (b : Bound) : Fld :=
  if b.val < 32 then
    (if b.val % 4 < 2 then LPn_SLACK_ADC (b.val / 4) (boundPair b) else LPn_SLACK_DAC (b.val / 4) (boundPair b))
  else if b.val % 2 = 0 then HLn_SLACK_RX ((b.val - 32) / 2) else HLn_SLACK_TX ((b.val - 32) / 2)

/-- The boundaries of a port: its converters' and its group's lanes'. -/
def Dev.portBounds (s : Dev) (p : Port) : List Bound :=
  (List.range 4).map (fun k => Fin.ofNat 64 (4 * p.val + k)) ++
  (s.group p).flatMap fun (l : Lane) => [Fin.ofNat 64 (32 + 2 * l.val), Fin.ofNat 64 (33 + 2 * l.val)]

/-- A boundary's occupancy put on record. -/
def Dev.setFill (s : Dev) (b : Bound) (n : Nat) : Dev :=
  s.modGov fun g => { g with fill := g.fill.set b (min n bufferDepth) }

/-- A boundary's current slack reported: 63 ns where it is not watched, whose buffer then rests (02 R47, R49). -/
def Dev.slackRefreshOne (s : Dev) (b : Bound) : Dev :=
  if s.watched b then s.set (boundFld b) (s.slackAt b (s.gov.fill.get b))
  else (s.setFill b (restFill b)).set (boundFld b) 63

/-- The slack of a port's boundaries reported. -/
def Dev.slackRefresh (s : Dev) (p : Port) : Dev := s.each (s.portBounds p) (·.slackRefreshOne ·)

end Sys2Proof.Machine
end

