-- ==== Sys2Proof/Machine/PortOps.lean ====
section
/-! DEFINITION. The named operations on a line port and its host lanes that several commands share: the state machines of
the gain loop, the equaliser, the phase loop, the cancellers, the transmitter and the host lanes; link messages; entry to
search, to data and to rest; link loss; the stop sequence. -/

namespace Sys2Proof.Machine

open Reg

/-! ## Gain loop (03 Table 3.2) -/

/-- The running calibration window of a pair carries a disturbance (03 R102). -/
def Dev.disturbCal (s : Dev) (p : Port) (x : Pair) : Dev :=
  s.modAdc p x fun a => { a with step := a.step.map fun c => { c with disturbed := true } }

/-- The running block of a pair and its calibration window carry a disturbance (03 R102, 04 R142). -/
def Dev.disturb (s : Dev) (p : Port) (x : Pair) : Dev := (s.modEq p x fun e => { e with skip := true }).disturbCal p x

/-- A gain code put into effect (03 R83, R91): a change is counted and disturbs the running block. -/
def Dev.setGain (s : Dev) (p : Port) (x : Pair) (g : Int) : Dev :=
  let g := (clampInt 0 96 g).toNat
  if s.get (LPn_RXFE_STATUS_GAIN p x) = g then s
  else ((s.set (LPn_RXFE_STATUS_GAIN p x) g).count 0x22 p).disturb p x

/-- GAIN_MAX as taken (03 R83). -/
def Dev.gainMax (s : Dev) (p : Port) : Nat := min (s.get (LPn_RXFE_CTRL_GAIN_MAX p)) 96
/-- GAIN_MIN as taken: GAIN_MAX where it is above that (03 R83, R93). -/
def Dev.gainMin (s : Dev) (p : Port) : Nat := min (s.get (LPn_RXFE_CTRL_GAIN_MIN p)) (s.gainMax p)

/-- Gain loop states (03 Table 3.11). -/
def agcOff : Nat := 0
def agcFast : Nat := 1
def agcFrozen : Nat := 2
def agcTrack : Nat := 3
def agcHold : Nat := 4
def agcManual : Nat := 5

/-- OVERRIDE_LIVE (03 Table 3.11): a loop gain below GAIN_MIN, or MANUAL overridden, on a powered pair. -/
def Dev.overrideRefresh (s : Dev) (p : Port) : Dev :=
  s.flag (LPn_RXFE_STATUS_OVERRIDE_LIVE p) (bothPairs.any fun x =>
    let st := s.get (LPn_RXFE_STATUS_AGC p x)
    st != agcOff && ((st != agcManual && s.get (LPn_RXFE_STATUS_GAIN p x) < s.gainMin p) ||
      (s.on (LPn_RXFE_CTRL_GAIN_MODE p) && (s.adcOf p x).manualOff)))

/-- The gain loop of a pair enters a state (03 Table 3.2), its gain as it stands. MANUAL takes the place of every state but OFF
while it is written and not overridden, and holds GAIN_SW, which R92 states and GAIN_MAX does not limit (R93; DESIGN CHOICE,
log entry 87). FROZEN captures RSSI_REF (R86); TRACK starts its filter there (R87). -/
def Dev.agcEnter (s : Dev) (p : Port) (x : Pair) (st : Nat) : Dev :=
  let manual := st != agcOff && s.on (LPn_RXFE_CTRL_GAIN_MODE p) && !(s.adcOf p x).manualOff
  let st := if manual then agcManual else st
  let s := s.set (LPn_RXFE_STATUS_AGC p x) st
  let s := s.modAdc p x fun a => { a with rise := 0 }
  let s := s.iff manual fun s => s.setGain p x (min (s.get (LPn_RXFE_CTRL_GAIN_SW p)) 96)
  let s := s.iff (st == agcFrozen) fun s => s.set (LPn_RSSI_REF p x) (s.get (LPn_RSSI_RSSI p x))
  let s := s.iff (st == agcTrack || st == agcFrozen) fun s =>
    s.modAdc p x fun a => { a with refFine := (s.get (LPn_RSSI_REF p x) : Int) * 2 ^ 32 }
  s.overrideRefresh p

/-- The gain loop of a pair moves to a state; in FAST and TRACK its gain comes within GAIN_MIN to GAIN_MAX (03 R93). -/
def Dev.agcTo (s : Dev) (p : Port) (x : Pair) (st : Nat) : Dev :=
  let s := s.agcEnter p x st
  let st := s.get (LPn_RXFE_STATUS_AGC p x)
  let s := s.iff (st == agcFast || st == agcTrack) fun s =>
    s.setGain p x (clampInt (s.gainMin p) (s.gainMax p) (s.get (LPn_RXFE_STATUS_GAIN p x)))
  s.overrideRefresh p

/-! ## ADC calibration (03 Table 3.15) -/

/-- The state of background calibration reported: STARTUP in STARTING; in training and data STOPPED with no free slice,
RAMP or MEASURE during a step, HELD under a hold, else IDLE; OFF in a port that does not run. -/
def Dev.calRefresh (s : Dev) (p : Port) : Dev :=
  let s := s.each bothPairs fun s x =>
    let a := s.adcOf p x
    let st :=
      if !s.powered p x then 0
      else if s.linkState p = 1 then 1
      else if a.free = [] then 7
      else
        match a.step with
        | some c => if c.target.isSome then 4 else 3
        | none => if s.on (LPn_ADC_CAL_STATUS_HOLD_ACTIVE p) then 6 else 2
    ((s.set (LPn_ADC_CAL_STATUS_STATE p x) st).set (LPn_ADC_CAL_STATUS_FREE p x) a.free.length).flag
      (LPn_ADC_CAL_STATUS_DEGRADED p x) (a.free == [])
  s

/-- A calibration step abandoned where it stands, its ramp stopped; on Lull entry its position is kept to be taken first
(03 Table 3.6, R108). -/
def Dev.calAbandon (s : Dev) (p : Port) (x : Pair) (keep : Bool) : Dev :=
  (s.modAdc p x fun a =>
    { a with step := none, cycle := if keep then a.cycle else none
             abandoned := if keep then (a.step.map (·.pos)).orElse (fun _ => a.abandoned) else a.abandoned }).calRefresh p

/-! ## Equaliser (04 Table 4.2, R128, R143–R150) -/

/-- Adaptation states (04 Table 4.9). -/
def adOff : Nat := 0
def adPreset : Nat := 1
def adCoarse : Nat := 2
def adFine : Nat := 3
def adRecover : Nat := 4
def adFrozen : Nat := 5
def adHold : Nat := 6

/-- Canceller states (05 Table 5.15). -/
def ecOff : Nat := 0
def ecRaw : Nat := 1
def ecCoarse : Nat := 2
def ecFine : Nat := 3
def ecRecover : Nat := 4
def ecHold : Nat := 5
def ecFrozen : Nat := 6

/-- The preset taps of a mode (04 R149, Table 4.1), with 22 fraction bits (R129). -/
def presetTaps (m main : Nat) : Taps :=
  { ffe := (Vector.replicate 128 0).set! main (2 ^ 22)
    tgt := #v[if 4 ≤ m ∧ m ≤ 8 then 2 ^ 21 else 0, 0, 0, 0] }

/-- The structure of a pair's equaliser for the mode in force: active taps and MAIN_POS (04 R128). -/
def Dev.eqShape (s : Dev) (p : Port) (x : Pair) : Dev :=
  let m := s.mode p
  let c := (s.prt p).link.eqSet
  s.modEq p x fun e => { e with active := activeTaps m c.1, main := mainPos m c.1 c.2.1 }

/-- Taps put into use; with the detector in DFE, h2 to h4 are 0 (04 R132). -/
def Dev.putTaps (s : Dev) (p : Port) (x : Pair) (t : Taps) : Dev :=
  let dfe := s.on (LPn_EQ_STATUS_DET_ACTIVE p)
  s.modEq p x fun e => { e with taps := if dfe then { t with tgt := #v[t.tgt[0], 0, 0, 0] } else t }

/-- The taps' start values (04 R149): the stored ones where they were stored under the same mode, TAPS and MAIN_POS and
WARM_START is 1; else the preset. The snapshot is no longer one to restore (R145), and stays readable (R150). -/
def Dev.eqPreset (s : Dev) (p : Port) (x : Pair) : Dev :=
  let s := s.eqShape p x
  let m := s.mode p
  let c := (s.prt p).link.eqSet
  let warm : Option Taps :=
    match (s.eqOf p x).stored with
    | some (m', t', n', taps) =>
      if s.on (LPn_EQ_CTRL_WARM_START p) ∧ m' = m ∧ t' = c.1 ∧ n' = c.2.1 then some taps else none
    | none => none
  let s := s.modEq p x fun e =>
    { e with snapNew := false, rssd := {}, past := [], lastErr := none, low := 0, prevSnr := none
             recover := 0, recoverWait := 0, conv := Vector.replicate 4 (0, 0), met := Vector.replicate 4 (0, 0) }
  (s.putTaps p x (warm.getD (presetTaps m (s.eqOf p x).main))).flag (LPn_EQ_STATUS_WARM_USED p) warm.isSome

/-- Whether SW_FREEZE holds a pair (04 R148). -/
def Dev.frozen (s : Dev) (p : Port) (x : Pair) : Bool := s.on (LPn_EQ_CTRL_SW_FREEZE p) && !(s.eqOf p x).freezeOff

/-- FREEZE_LIVE (04 Table 4.9): a pair is held by SW_FREEZE. -/
def Dev.freezeRefresh (s : Dev) (p : Port) : Dev :=
  s.flag (LPn_EQ_STATUS_FREEZE_LIVE p)
    (bothPairs.any fun x => s.get (LPn_EQ_STATUS_ADAPT p x) == adFrozen && s.frozen p x)

/-- The cancellers follow their pair's equaliser (05 Table 5.4): into and out of RECOVER, FROZEN and HOLD, and OFF with the
link. -/
def Dev.echoFollow (s : Dev) (p : Port) (x : Pair) (st : Nat) : Dev :=
  let c := s.get (LPn_FD_STATUS_ECHO p x)
  let put := fun (s : Dev) (n : Nat) => s.set (LPn_FD_STATUS_ECHO p x) n
  if c = ecOff then s
  else if st = adOff ∨ st = adPreset then put s ecOff
  else if st = adFrozen then
    if c = ecFrozen then s else put (s.modEcho p x fun e => { e with frozeFrom := c }) ecFrozen
  else
    let c := if c = ecFrozen then (s.echoOf p x).frozeFrom else c
    if st = adRecover then
      if c = ecRecover then put s ecRecover
      else ((put s ecRecover).flag (LPn_FD_EVENTS_ECHO_RECOVER p) true).count 0x2A p
    else if st = adHold then put s ecHold
    else if st = adFine then put s (if c = ecRecover ∨ c = ecHold then ecFine else c)
    else put s c

/-- The equaliser of a pair moves to a state (04 Table 4.2). While the core is halted the adapting states are FROZEN (R21),
and so is FINE under SW_FREEZE (R148); a takeover or restore that waited in FROZEN or HOLD puts the pair in RECOVER as it
leaves (R147). CONVERGED clears outside FINE and RECOVER (R143). -/
def Dev.adaptTo (s : Dev) (p : Port) (x : Pair) (st : Nat) : Dev :=
  let e := s.eqOf p x
  let want := if st = adFine ∧ e.recoverWait ≠ 0 then adRecover else st
  let held := (!s.coreRuns && (want == adCoarse || want == adFine || want == adRecover)) ||
    (want == adFine && s.frozen p x)
  -- a restore or takeover that must wait for FROZEN to end keeps waiting
  let real := if held then adFrozen else want
  let s := s.set (LPn_EQ_STATUS_ADAPT p x) real
  let s := s.iff (!(real == adFine || real == adRecover)) fun s =>
    (s.flag (LPn_EQ_STATUS_CONV p x) false).modEq p x fun e => { e with prevSnr := none }
  let s := s.iff held fun s => s.modEq p x fun e =>
    { e with frozeFrom := st, freezeSnr := s.get (LPn_EQ_STATUS_SNR_ALL p x), freezeLow := 0 }
  let s := s.iff (real == adRecover) fun s => s.modEq p x fun e =>
    { e with recover := if e.recoverWait = 0 then e.recover else e.recoverWait, recoverWait := 0, low := 0 }
  let s := s.iff (real == adPreset) (·.eqPreset p x)
  (s.echoFollow p x real).freezeRefresh p

/-- A pair enters RECOVER (04 R145, R146), or waits for it in FROZEN and HOLD (R147). CONVERGED clears at its start. -/
def Dev.toRecover (s : Dev) (p : Port) (x : Pair) (why : Nat) : Dev :=
  let a := s.get (LPn_EQ_STATUS_ADAPT p x)
  if a = adFine ∨ a = adRecover then
    ((((s.flag (LPn_EQ_STATUS_CONV p x) false).modEq p x fun e =>
      { e with prevSnr := none, recover := why }).adaptTo p x adRecover).modEq p x fun e => { e with recover := why })
  else if a = adFrozen ∨ a = adHold then s.modEq p x fun e => { e with recoverWait := why }
  else s

/-- A pair's window positions and enables. -/
def Dev.windows (s : Dev) (p : Port) (x : Pair) : List (Bool × Nat) :=
  (List.range 4).map fun w => (s.on (LPn_ECHO_WIN_EN p x w), s.get (LPn_ECHO_WIN_START p x w))
/-- Window positions and enables loaded, and checked under R179. -/
def Dev.putWindows (s : Dev) (p : Port) (x : Pair) (l : List (Bool × Nat)) : Dev :=
  (s.each l.zipIdx fun s w =>
    (s.flag (LPn_ECHO_WIN_EN p x w.2) w.1.1).set (LPn_ECHO_WIN_START p x w.2) w.1.2).windowCheck p x

/-- Equaliser and canceller settings of a pair written to the coefficient store (04 R150, 05 R203). -/
def Dev.storePair (s : Dev) (p : Port) (x : Pair) : Dev :=
  let c := (s.prt p).link.eqSet
  let m := s.mode p
  let s := s.modEq p x fun e => { e with stored := some (m, c.1, c.2.1, e.taps) }
  if isFd m then
    s.modEcho p x fun e =>
      { e with stored := some { mode := m, hybAuto := s.on (LPn_FD_CTRL_HYB_AUTO p), taps := e.taps
                                wins := s.windows p x, snap := e.snap
                                hyb := (s.get (LPn_HYB_CTRL_HYB_R_USED p x), s.get (LPn_HYB_CTRL_HYB_C_USED p x)) } }
  else s

/-- A snapshot (04 R144, R150, 05 R185, R203). -/
def Dev.snapshot (s : Dev) (p : Port) (x : Pair) : Dev :=
  let s := s.modEq p x fun e => { e with snap := some e.taps, snapNew := true }
  let s := s.iff (isFd (s.mode p)) fun s =>
    s.modEcho p x fun e => { e with snap := some (e.taps, s.windows p x) }
  s.storePair p x

/-- A snapshot loaded into the taps (04 R145, 05 R185). -/
def Dev.loadSnapshot (s : Dev) (p : Port) (x : Pair) : Dev :=
  let s := s.putTaps p x ((s.eqOf p x).snap.getD (s.eqOf p x).taps)
  match (s.echoOf p x).snap with
  | some (t, w) => if isFd (s.mode p) then (s.modEcho p x fun e => { e with taps := t }).putWindows p x w else s
  | none => s

/-! ## Phase loop (04 R153) -/

/-- The line's recovered clock is lost: the port's host transmitters run from their reference (01 R23, R24). -/
def Dev.lineClockLost (s : Dev) (p : Port) : Dev :=
  s.each (s.group p) fun s l => s.modLane l fun h => { h with onRef := true, returning := false }

/-- The phase loop of a pair starts in ACQ (04 R153). -/
def Dev.cdrStart (s : Dev) (p : Port) (x : Pair) : Dev :=
  let s := s.iff (x == .b) (·.lineClockLost p)
  (s.flag (LPn_CDR_STATUS_LOCK p x) false).modEq p x fun e => { e with clamps := 0, freqs := [(s.prt p).freq] }

/-! ## Eye scan (04 R161, R162) -/

/-- A scan's records. -/
def eyeBytes (pts : List Nat) : List Byte :=
  pts.flatMap fun n => bytesOf 3 (min n 0xFFFFFF) ++ [if 0xFFFFFF ≤ n then (1 : Byte) else 0]

/-- A scan ends (04 R162): the records of the points completed are written in one pass, and their number is the result. -/
def Dev.eyeEnd (s : Dev) (p : Port) (x : Pair) (status : Nat) : Dev :=
  match (s.eqOf p x).eye with
  | none => s
  | some r =>
    let s := s.modEq p x fun e => { e with eye := none }
    let w := s.putData r.desc 0 (eyeBytes r.pts)
    w.1.wakeOne (.eyeScan p x) (statusOf w.2 |> fun st => if status = stOk then st else status) r.pts.length

/-! ## Link messages (08 R302, R308) -/

/-- Message types (08 Table 8.11). -/
def mtLinkParam : Nat := 0x01
def mtCoefReq : Nat := 0x02
def mtCoefResp : Nat := 0x03
def mtReady : Nat := 0x04
def mtDataAt : Nat := 0x05
def mtRemoteSnr : Nat := 0x06
def mtNotice : Nat := 0x07
def mtAck : Nat := 0x0F
def mtLullReq : Nat := 0x10
def mtLullResp : Nat := 0x11
def mtFdReady : Nat := 0x20
def mtFdQuiet : Nat := 0x21
def mtFdConfirm : Nat := 0x22
def mtFdAbandon : Nat := 0x23

/-- Whether the link message channel runs (08 R301, R305): Skellia training, full-duplex start-up, or the sub-channel. -/
def Dev.lmcUp (s : Dev) (p : Port) : Bool :=
  let a := s.acqState p
  (a == 5 && s.on (LPn_ACQ_STATUS_TRAIN_SK p)) || a == 6 || (a == 7 && s.on (LPn_ACQ_STATUS_SUBCH_ON p))

/-- A frame with the sender's next count for its type (08 R302). -/
def Dev.lmcFrame (s : Dev) (p : Port) (typ : Nat) (data : List Byte) (ackReq user : Bool) : Dev × TxFrame :=
  let q := (s.prt p).lmc
  let seq := ((q.seqs.find? fun e => e.1 == typ).map (·.2)).getD 0
  (s.modLmc p fun q => { q with seqs := (typ, (seq + 1) % 256) :: q.seqs.filter fun e => e.1 != typ },
   { typ := typ, seq := seq, data := data, ackReq := ackReq, user := user })

/-- A frame put in the queue of frames to be sent; gives its Seq. -/
def Dev.lmcQueue (s : Dev) (p : Port) (typ : Nat) (data : List Byte) (ackReq user : Bool := false) : Dev × Nat :=
  let r := s.lmcFrame p typ data ackReq user
  (r.1.modLmc p fun q => { q with out := q.out ++ [r.2] }, r.2.seq)

/-- The port's own message, where the channel runs. -/
def Dev.lmcTell (s : Dev) (p : Port) (typ : Nat) (data : List Byte) : Dev :=
  if s.lmcUp p then (s.lmcQueue p typ data).1 else s

/-- REMOTE_SNR's payload (08 Table 8.11). -/
def Dev.remoteSnrBytes (s : Dev) (p : Port) : List Byte :=
  pay (s.get (LPn_EQ_STATUS_SNR_ALL_A p)) ++ pay (s.get (LPn_EQ_STATUS_SNR_ALL_B p)) ++
  bytesOf 2 (s.get (LPn_BER_BER_EST p))

/-- A frame accepted (08 R308): an ACK is returned where it asks for one; it is delivered unless it repeats the last
accepted frame of its type within 20 ms. -/
def Dev.lmcAccept (s : Dev) (p : Port) (typ : Nat) (f : Frame) : Dev × Bool :=
  let q := (s.prt p).lmc
  let seq := f.seq.toNat
  let again := q.last.any fun e => e.1 == typ && e.2.1 == seq && decide (s.timebase - e.2.2 ≤ 20000000)
  let s := s.modLmc p fun q => { q with last := (typ, seq, s.timebase) :: q.last.filter fun e => e.1 != typ }
  let s := s.iff f.ackReq fun s => s.lmcTell p mtAck (pay typ ++ pay seq)
  (s, !again)

/-- Frames that a user sent and that wait to be sent or acknowledged end ABORTED when the port leaves TRAIN, FD and DATA
(08 R311); the channel starts afresh. -/
def Dev.lmcDrop (s : Dev) (p : Port) : Dev :=
  (s.modLmc p fun q => { q with out := [], outPos := 0, wait := [], votes := (0, 0), syms := [] }).wakeAll
    (fun w => match w with | .lmcSend q _ _ => q == p | _ => false) stAborted
    (fun w => match w with | .lmcSend _ _ n => n | _ => 0)

/-! ## Transmitter (06 Table 6.2) -/

/-- Whether a Quench is in progress or its hold lasts (17 Table 17.3): no other cause changes a transmitter (06 R235). -/
def Dev.quenching (s : Dev) : Bool := 3 ≤ s.get THM_STATUS_STATE && s.get THM_STATUS_STATE ≤ 5

/-- Rank 1 of Table 6.2 for a whole port, with the driver's power (06 Table 6.3, R233). -/
def Dev.txPortOff (s : Dev) (p : Port) : Bool :=
  let l := s.linkState p
  s.sys.brownout || !(s.prt p).tx.driver || ((l == 0 || l == 6) && !(s.prt p).tx.stopping) ||
  (l == 7 && s.get (LPn_LINK_STATUS_FAULT_CAUSE p) == 1)

/-- The state of a pair's transmitter by its highest-ranked cause (06 Table 6.2). -/
def Dev.txTarget (s : Dev) (p : Port) (x : Pair) : Nat :=
  let t := (s.prt p).tx
  let lost := s.on (LPn_TX_STATUS_HOST_LOST p) && t.hostOut
  if s.txPortOff p || !(txPairs (s.mode p)).contains x then txOff
  else if s.on (LPn_TX_CTRL_SW_SQUELCH p) || t.delay || t.stopping then txSquelch
  else if t.quenchLf || (lost && !s.on (LPn_TX_CTRL_SQ_HOST p)) || s.linkState p == 7 then txLf
  else if (t.pair.get x.idx).dacOff then txOff
  else if t.idle then txIdle
  else if lost then txSquelch
  else if t.data then txData
  else txTrain

/-- The transmitters of a port put into the states that their causes give (06 Table 6.2), with DRV_EN. Entering LF counts,
and sends the notice of R231; the local fault stream then begins. During a Quench nothing changes but by the Quench itself,
which is noted (R235, Table 6.12), and by a brown-out, which takes every transmitter OFF (R233). -/
def Dev.txRefresh (s : Dev) (p : Port) (byQuench : Bool := false) : Dev :=
  if s.quenching && !byQuench && !s.sys.brownout then s
  else
    let lf := fun (s : Dev) => bothPairs.any fun x => s.get (LPn_TX_STATUS_TXS p x) == txLf
    let before := lf s
    let moves := bothPairs.any fun x => s.get (LPn_TX_STATUS_TXS p x) != s.txTarget p x
    let s := s.each bothPairs fun s x =>
      let st := s.txTarget p x
      (s.set (LPn_TX_STATUS_TXS p x) st).modTxPair p x fun q =>
        { q with dac := if st = txOff then [] else if st = txSquelch ∨ st = txIdle then List.replicate 256 0 else q.dac }
    let s := s.iff (byQuench && moves) fun s => s.flag (LPn_TX_EVENTS_QUENCH p) true
    let s := s.flag (LPn_TX_STATUS_DRV_EN p) (!s.txPortOff p)
    let s := s.iff (lf s && !before) fun s =>
      ((s.count 0x2E p).modTx p fun t => { t with fill := {} }).lmcTell p mtNotice (if (s.prt p).tx.quenchLf then pay 2 ++ pay 3 else pay 1 ++ pay 1)
    s.eligRefresh p

/-- Presets P0 to P3 (06 Table 6.1). -/
def txPreset : Nat → Vector Int 8
  | 0 => #v[0, 0, 64, 0, 0, 0, 0, 0]
  | 1 => #v[0, -8, 56, 0, 0, 0, 0, 0]
  | 2 => #v[0, -8, 48, -8, 0, 0, 0, 0]
  | _ => #v[4, -12, 44, -4, 0, 0, 0, 0]

/-- Whether a tap set is valid (06 R219). -/
def txValid (t : Vector Int 8) (main : Nat) : Bool :=
  sumNat (t.toList.map Int.natAbs) ≤ 64 && 16 ≤ t.toList.getD main 0

/-- The USER taps of a pair (06 Tables 6.7, 6.8). -/
def Dev.txUser (s : Dev) (p : Port) (x : Pair) : Vector Int 8 :=
  let n := s.get (LPn_TX_USER p x) + 2 ^ 32 * s.get (LPn_TX_USER_HI p x)
  Vector.ofFn fun i => signedOf 8 (n / 256 ^ i.val)

/-- The start taps of a port's pairs, with SWING (06 R221, R225). -/
def Dev.txStartTaps (s : Dev) (p : Port) : Dev :=
  let preset := s.get (LPn_TX_CTRL_PRESET p)
  let main := s.get (LPn_TX_CTRL_MAIN p)
  let s := s.set (LPn_TX_STATUS_SWING_USED p) (min (s.get (LPn_TX_CTRL_SWING p)) 90)
  s.each bothPairs fun s x =>
    let user := s.txUser p x
    let good := preset == 4 && txValid user main
    let bad := preset == 4 && !good && (txPairs (s.prt p).link.cfgMode).contains x
    let t := if good then (user, main) else (txPreset (if preset < 4 then preset else 0), 2)
    (s.modTxPair p x fun q => { q with taps := t.1, main := t.2 }).iff bad fun s => s.flag (LPn_TX_EVENTS_USER_BAD p) true

/-! ## Host lanes (10 Tables 10.2, 10.3) -/

/-- Whether a test function is active on a lane (10 R369). -/
def Dev.testActive (s : Dev) (l : Lane) : Bool :=
  s.on (HLn_TEST_STATUS_GEN_ON l) || s.on (HLn_TEST_STATUS_CHK_ON l) || s.on (HLn_TEST_STATUS_LOOP l)

/-- Row OFF of Table 10.2. -/
def Dev.laneOff (s : Dev) (l : Lane) : Bool :=
  match s.groupOf l with
  | none => true
  | some p =>
    let ls := s.linkState p
    s.pwr.gated.get p || ls == 6 || (ls == 7 && s.get (LPn_LINK_STATUS_FAULT_CAUSE p) == 1) ||
    (ls == 0 && !s.testActive l)

/-- The state of a lane's transmitter by the first row of Table 10.2 that holds, BURST apart. A stopped port's lane whose only
test function is a checker or a near-end loop, which no row names, is in TEST (log entry 15). -/
def Dev.laneTarget (s : Dev) (l : Lane) : Nat :=
  match s.groupOf l with
  | none => 0
  | some p =>
    let ls := s.linkState p
    let fault := (1 ≤ ls && ls ≤ 3) || ls == 7
    if s.laneOff l then 0
    else if (s.lane.get l).rateChange || (fault && s.on (HLn_CTRL_FAULT_TX l)) then 1
    else if s.on (HLn_TEST_STATUS_GEN_ON l) || s.get (HLn_TEST_STATUS_LOOP l) == 3 then 3
    else if fault then 4
    else if ls = 5 then 5
    else if ls = 4 then 6
    else 3

/-- Host loss begins in data mode (06 R229): it is flagged and counted, and the line transmitter leaves its recovered clock
(01 R24). -/
def Dev.hostLossBegin (s : Dev) (p : Port) : Dev :=
  if s.acqState p = 7 ∧ ¬ s.on (LPn_TX_STATUS_HOST_LOST p) then
    (((s.flag (LPn_TX_STATUS_HOST_LOST p) true).flag (LPn_TX_EVENTS_HOST_LOSS p) true).count 0x2C p).modTx p fun t =>
      { t with hostOut := false, onRef := true, returning := false }
  else s

/-- Whether a port's group is aligned (10 R358). -/
def Dev.groupAligned (s : Dev) (p : Port) : Bool :=
  s.group p != [] && (s.group p).all fun l => s.on (HLn_STATUS_ALIGNED l)

/-- A group loses alignment (10 R358): counted on every lane; its loss is a host loss in data mode (06 R229). -/
def Dev.groupLost (s : Dev) (p : Port) : Dev :=
  if (s.group p).any fun l => s.on (HLn_STATUS_ALIGNED l) then
    let s := s.each (s.group p) fun s l =>
      let s := ((s.inc (HLn_COUNT_AM_LOSSES l)).flag (HLn_EVENTS_AM_LOST l) true).count 0x51 l
      let s := s.flag (HLn_STATUS_ALIGNED l) false
      s.iff (s.get (HLn_STATUS_RXS l) == 4) fun s => s.set (HLn_STATUS_RXS l) 3
    let s := { s with host := { s.host with lostAt := s.host.lostAt.set p (some s.timebase) } }
    s.hostLossBegin p
  else s

/-- A lane's recovered clock is lost: the line transmitters of its port run from their reference (01 R23, R24). -/
def Dev.laneClockLost (s : Dev) (l : Lane) : Dev :=
  match s.groupOf l with
  | none => s
  | some p => s.modTx p fun t => { t with onRef := true, returning := false }

/-- The lanes of a port put into the states that Tables 10.2 and 10.3 give: an exit from OFF or EI waits in EI for 2 µs and
then sends a burst (10 R352, R353); a receiver that leaves OFF starts in EI. -/
def Dev.laneRefresh (s : Dev) (l : Lane) : Dev :=
  let target := s.laneTarget l
  let now := s.get (HLn_STATUS_TXS l)
  let put := fun (s : Dev) (n : Nat) (due : Bool) => (s.set (HLn_STATUS_TXS l) n).modLane l fun h => { h with exitDue := due }
  let s := if target = 0 ∨ target = 1 then put s target false
    else if now = 0 ∨ now = 1 then put s 1 true
    else if now = 2 then s
    else put s target false
  let s := s.iff (s.get (HLn_STATUS_TXS l) == 4 || s.get (HLn_STATUS_TXS l) == 2) fun s =>
    s.modLane l fun h => { h with onRef := true, returning := false }
  if s.laneOff l then
    let lost := s.on (HLn_STATUS_ALIGNED l)
    let s := match s.groupOf l with
      | some p => s.iff lost (·.groupLost p)
      | none => s
    ((s.set (HLn_STATUS_RXS l) 0).flag (HLn_STATUS_ALIGNED l) false).laneClockLost l
  else s.iff (s.get (HLn_STATUS_RXS l) == 0) fun s => s.set (HLn_STATUS_RXS l) 1

/-- The lanes of a port's group refreshed. -/
def Dev.groupRefresh (s : Dev) (p : Port) : Dev := s.each (s.group p) (·.laneRefresh ·)

/-- A lane's test functions end (10 R356): the generator, the checker and the loop go off. -/
def Dev.testsEnd (s : Dev) (l : Lane) : Dev :=
  if s.testActive l then
    let s := ((s.flag (HLn_TEST_STATUS_GEN_ON l) false).flag (HLn_TEST_STATUS_CHK_ON l) false).set (HLn_TEST_STATUS_LOOP l) 0
    let s := (s.flag (HLn_TEST_STATUS_LOCK l) false).flag (HLn_TEST_STATUS_TX_QUIET l) false
    (s.flag (HLn_EVENTS_TEST_ENDED l) true).modLane l fun h => { h with inject := 0 }
  else s

/-- A group's rate change (10 R355, R356, Table 10.6 step 2); one event names the port, the old rate and the new rate. -/
def Dev.rateChange (s : Dev) (p : Port) (rate : Nat) : Dev :=
  let ls := (s.group p).filter fun (l : Lane) => s.get (HLn_STATUS_RATE l) != rate
  match ls with
  | [] => s
  | l0 :: _ =>
    let old := s.get (HLn_STATUS_RATE l0)
    let s := s.groupLost p
    let s := s.each ls fun s l =>
      let s := ((s.testsEnd l).set (HLn_STATUS_RATE l) rate).flag (HLn_EVENTS_RATE_CHANGE l) true
      let s := s.modLane l fun h => { h with rateChange := true, warm := none, sweep := none, exitDue := false }
      ((s.set (HLn_STATUS_RXS l) 1).set (HLn_STATUS_TXS l) 1).laneClockLost l
    s.log (HLn_EVENTS_RATE_CHANGE l0) 1 (pay p ++ pay old ++ pay rate)

/-! ## Re-centring (02 R51, R53–R56) -/

/-- The receive path re-centres: its set latency is the one of the iteration limit in force now. -/
def Dev.recentreRx (s : Dev) (p : Port) : Dev :=
  (s.set (LPn_SLACK_ITER_SET p) (if s.on (LPn_FEC_STATUS_INNER_ON p) then s.iterLimit p else 0)).iterRefresh p

/-! ## SLIP and governor ceilings (02 R62, R72) -/

/-- A SLIP in data mode counted and logged; the seventeenth within 1 s logs a storm (02 R72). -/
def Dev.slipDone (s : Dev) (p : Port) (r : SlipRun) : Dev :=
  let s := s.inc (LPn_SLIP_SLIP_COUNT p)
  let s := (s.set (LPn_SLIP_LAST_MARKED p) (min r.marked 4095)).set (LPn_SLIP_LAST_SRC p) r.src
  let s := s.raise (LPn_SLIP_SLIP p) 1 (pay r.src)
  let near := s.timebase :: (s.prt p).slips.filter fun t => s.timebase - t < 1000000000
  if near.length = 17 then
    (s.modPort p fun q => { q with slips := [] }).logPlain 0xF6 2 (pay p ++ bytesOf 2 (s.get (LPn_SLIP_SLIP_COUNT p)))
  else s.modPort p fun q => { q with slips := near }

/-- The SLIPs still in progress on a port that leaves data mode are over: each is counted and logged as it stands (02 R72). -/
def Dev.slipsEnd (s : Dev) (p : Port) : Dev :=
  let l := (s.prt p).slipRx ++ (s.prt p).slipTx
  (s.each l (·.slipDone p ·)).modPort p fun q => { q with slipRx := [], slipTx := [] }

/-- A port's governor ceiling gone (02 R62). -/
def Dev.ceilNone (s : Dev) (p : Port) : Dev :=
  ((s.set (LPn_SLACK_GOV_CEIL p) 0).modGov fun g =>
    { g with ceilFrom := g.ceilFrom.set p 0, ceilOrder := g.ceilOrder.filter fun q => q != p }).iterRefresh p

/-! ## Link states (09 Table 9.1) -/

/-- Link state codes. -/
def lsStopped : Nat := 0
def lsStarting : Nat := 1
def lsAcquiring : Nat := 2
def lsTraining : Nat := 3
def lsUp : Nat := 4
def lsLull : Nat := 5
def lsDoze : Nat := 6
def lsFault : Nat := 7

/-- A port enters a link state: LOCAL_FAULT (R317), the entry to UP from outside LULL (R316), time and entries of LULL
(Table 9.4), the counter conditions of 14 Table 14.1, and the states of transmitters and lanes that follow. -/
def Dev.linkTo (s : Dev) (p : Port) (st : Nat) : Dev :=
  let old := s.linkState p
  let s := s.set (LPn_LINK_STATUS_LINK_STATE p) st
  let s := s.flag (LPn_LINK_STATUS_LOCAL_FAULT p) (st == 1 || st == 2 || st == 3 || st == 6 || st == 7)
  let s := s.iff (old == lsFault && st != lsFault) fun s =>
    (s.set (LPn_LINK_STATUS_FAULT_CAUSE p) 0).modPwr fun w => { w with gated := w.gated.set p false }
  let s := s.iff (old == lsLull && st != lsLull) fun s => s.modLink p fun l =>
    { l with lullNs := l.lullNs + (s.timebase - l.lullAt), kinds := (0, 0), wakeSent := 0 }
  let s := s.iff (old != lsLull && st == lsLull) fun s =>
    ((s.modLink p fun l => { l with lullAt := s.timebase, refreshes := 0 }).inc (LPn_LULL_COUNT_LULL_ENTRIES p)).count 0x3A p
  let s := s.iff (old != lsUp && st == lsUp) fun s =>
    let s := s.count 0x3B p
    s.iff (old != lsLull) fun s =>
      (s.modLink p fun l => { l with upSince := s.timebase }).raise (LPn_LINK_EVENTS_LINK_UP p) 0
        (pay (s.get (LPn_ACQ_STATUS_RESOLVED p)))
  let s := (((s.txRefresh p).groupRefresh p).calRefresh p).slackRefresh p
  s.eligRefresh p

/-- What ends with a link, wherever the port goes: calibration steps (03 R105), scans, messages, Lull, codes, sub-channel,
roles, and the partner's announcements. A CYCLE goes on with the steps of the next training (DESIGN CHOICE, log entry 89). -/
def Dev.dropLink (s : Dev) (p : Port) : Dev :=
  let s := s.each bothPairs fun s x => (s.modAdc p x fun a => { a with step := none }).eyeEnd p x stAborted
  let s := s.lmcDrop p
  let s := s.modAcq p fun _ => {}
  let s := s.modFd p fun f => { attempts := f.attempts, diag := f.diag, fallback := f.fallback, fallMode := f.fallMode }
  let s := s.modFec p fun f =>
    { ctr := f.ctr, start := s.draws, rxOut := f.rxOut, txOut := f.txOut, ber := f.ber, pbBits := f.pbBits, pbWords := f.pbWords, pbAny := f.pbAny }
  let s := s.modTx p fun t =>
    { t with data := false, idle := false, precodeReq := false, hostOut := false
             pair := t.pair.map fun q => { q with dacOff := false, burst := 0, blk := 0, prbs := 0x1FFF, bit := true, ref := [] } }
  let s := s.modLink p fun l =>
    { l with burst := Vector.replicate 2 0, reqKind := 0, enter := none, wakePending := false, markWake := false, backoff := false }
  let s := s.each
    [LPn_ACQ_STATUS_RESOLVED p, LPn_ACQ_STATUS_PARTNER_SK p, LPn_ACQ_STATUS_SUBCH_ON p, LPn_ACQ_STATUS_PARALLEL p,
     LPn_ACQ_STATUS_TRAIN_SK p, LPn_ACQ_STATUS_CAND_CLASS p, LPn_ACQ_STATUS_CAND_METRIC p, LPn_ACQ_STATUS_MARKERS p,
     LPn_AN_PARTNER_PART p, LPn_AN_PARTNER_REV_MAJ p, LPn_AN_PARTNER_REV_MIN p, LPn_AN_PARTNER_PAGE p,
     LPn_AN_PARTNER_FD200 p, LPn_AN_PARTNER_FD100 p, LPn_AN_PARTNER_FD_PREF p, LPn_AN_PARTNER_EXT p,
     LPn_AN_PARTNER_SUBCH p, LPn_AN_PARTNER_LULL_SK p, LPn_EQ_STATUS_PRECODE p, LPn_EQ_STATUS_DET_ACTIVE p,
     LPn_TX_STATUS_PRECODE_ACT p,
     LPn_TX_STATUS_HOST_LOST p, LPn_FEC_STATUS_FRAME_LOCK p, LPn_FEC_STATUS_INNER_ON p, LPn_FD_STATUS_ROLE p,
     LPn_LINK_STATUS_LULL_KIND p]
    fun s f => s.set f 0
  (s.iterRefresh p).slipsEnd p

/-- The mode that a port searches with: the one read at PORT_START, or under a fallback the simplex mode of the full-duplex
mode that it replaces (05 R198). -/
def Dev.searchMode (s : Dev) (p : Port) : Nat :=
  let f := (s.prt p).fd
  if f.fallback then f.fallMode else (s.prt p).link.cfgMode

/-- Termination in force: as read at PORT_START or PORT_RETRAIN, and none in the modes that are bit-transparent (01 R27). -/
def Dev.termRefresh (s : Dev) (p : Port) : Dev :=
  let t := (s.prt p).link.term
  let may := !isNrz (s.mode p)
  (s.flag (LPn_FEC_STATUS_TERM_RX p) (t.1 && may)).flag (LPn_FEC_STATUS_TERM_TX p) (t.2 && may)

/-- The mode in force changes: pairs that fall out of use go OFF (03 R81, 04 R125), the equalisers take the mode's shape
(04 R128), and termination follows (01 R27). -/
def Dev.useMode (s : Dev) (p : Port) (m : Nat) : Dev :=
  let s := (s.modLink p fun l => { l with mode := m }).termRefresh p
  let s := s.each bothPairs fun s x =>
    if (rxPairs m).contains x then s.eqShape p x
    else ((s.agcTo p x agcOff).adaptTo p x adOff).flag (LPn_CDR_STATUS_LOCK p x) false
  s.calRefresh p

/-- The detector in use (04 R133): DFE in NRZ modes as DET_SEL says, in other PAM4 modes without the inner code only with
receive precoding; a refusal sets DET_FORCED. -/
def Dev.detRefresh (s : Dev) (p : Port) (atData : Bool) : Dev :=
  let m := s.mode p
  let sel := (s.prt p).link.eqSet.2.2
  let inner := innerUsed m (s.prt p).link.inner
  let dfe := sel && !inner && (isNrz m || s.on (LPn_EQ_STATUS_PRECODE p))
  let s := s.flag (LPn_EQ_STATUS_DET_ACTIVE p) dfe
  let s := s.iff dfe fun s => s.each bothPairs fun s x => s.putTaps p x (s.eqOf p x).taps
  s.iff (atData && sel && !inner && !dfe) fun s => s.flag (LPn_EQ_EVENTS_DET_FORCED p) true

/-- The acquisition machine enters SEARCH (08 Table 8.3): gain loops in FAST, equalisers in PRESET, phase loops in ACQ. -/
def Dev.toSearch (s : Dev) (p : Port) : Dev :=
  let s := s.dropLink p
  let s := (s.useMode p (s.searchMode p)).detRefresh p false
  let s := s.set (LPn_ACQ_STATUS_ACQ_STATE p) 2
  let s := s.iff (s.get (LPn_FD_STATUS_FDS p) != 7) fun s =>
    s.iff (s.get (LPn_FD_STATUS_FDS p) != 6) fun s => s.set (LPn_FD_STATUS_FDS p) 0
  let s := s.each (s.rx p) fun s x =>
    (((s.agcTo p x agcFast).adaptTo p x adPreset).cdrStart p x)
  s.linkTo p lsAcquiring

/-- A port comes to rest with the acquisition machine in IDLE: every loop OFF (03 Table 3.6, 04 Table 4.2, 05 Table 5.4). -/
def Dev.portIdle (s : Dev) (p : Port) : Dev :=
  let s := s.dropLink p
  let s := s.set (LPn_ACQ_STATUS_ACQ_STATE p) 0
  let s := s.set (LPn_FD_STATUS_FDS p) 0
  let s := s.lineClockLost p
  s.each bothPairs fun s x =>
    (((s.agcTo p x agcOff).adaptTo p x adOff).flag (LPn_CDR_STATUS_LOCK p x) false).calAbandon p x false

/-- A port enters FAULT (09 Table 9.1). -/
def Dev.toFault (s : Dev) (p : Port) (cause : Nat) : Dev :=
  let s := s.portIdle p
  let s := s.set (LPn_LINK_STATUS_FAULT_CAUSE p) cause
  (s.flag (LPn_LINK_EVENTS_FAULT p) true).linkTo p lsFault

/-- A link loss (09 R316, R318), with the flap limit of R321. -/
def Dev.linkLoss (s : Dev) (p : Port) (reason : Nat) : Dev :=
  if s.linkState p = lsUp ∨ s.linkState p = lsLull then
    let s := (s.inc (LPn_LINK_COUNT_LINK_DOWNS p)).set (LPn_LINK_STATUS_LAST_DOWN p) reason
    let s := (s.raise (LPn_LINK_EVENTS_LINK_DOWN p) 2 (pay reason)).count 0x39 p
    let s := s.iff (reason == 6) fun s => s.flag (LPn_LINK_EVENTS_LULL_LOST p) true
    let s := { s with mdio := { s.mdio with linkLow := s.mdio.linkLow.set p true } }
    let flaps : List Nat := s.timebase :: (s.prt p).link.flaps.filter fun t => s.timebase - t ≤ 60000000000
    let s := s.modLink p fun l => { l with flaps := flaps }
    let limit : Nat := max (s.get (LPn_LINK_CTRL_FLAP_LIMIT p)) 1
    if s.on (LPn_LINK_CTRL_FLAP_HOLD p) && decide (limit ≤ flaps.length) then
      (s.toFault p 2).log (LPn_LINK_EVENTS_FAULT p) 2 (pay 2)
    else s.toSearch p
  else s

/-- Full-duplex start-up is abandoned (05 R197): FD_ABANDON goes out if pair A transmits, the attempt is counted, and the
fallback of R198 may follow. -/
def Dev.fdAbandonment (s : Dev) (p : Port) (reason : Nat) : Dev :=
  let f := (s.prt p).fd
  let n := f.attempts + 1
  let sends := s.get (LPn_TX_STATUS_TXS_A p) != txOff
  let r := s.lmcFrame p mtFdAbandon (pay (reason + 16 * min n 15)) false false
  let s := if sends then r.1.modLmc p fun q => { q with sent := some r.2 } else s
  let s := (s.set (LPn_FD_STATUS_LAST_REASON p) reason).flag (LPn_FD_EVENTS_ABANDON p) true
  let s := (s.inc (LPn_FD_COUNT_ABANDONS p)).count 0x29 p
  let s := s.modFd p fun f => { f with attempts := n }
  let back := s.on (LPn_FD_CTRL_FALLBACK p) && decide (max (s.get (LPn_FD_CTRL_FD_ATTEMPTS p)) 1 ≤ n)
  let s := s.iff (back && !f.fallback) fun s =>
    (s.modFd p fun f => { f with fallback := true, fallMode := simplexOf (s.mode p) }).raise (LPn_FD_EVENTS_FALLBACK p) 1
  let s := s.set (LPn_FD_STATUS_FDS p) (if back then 7 else 6)
  s.toSearch p

/-- Loss of lock in training (08 R285); in full-duplex start-up it abandons the start-up with reason 8. -/
def Dev.lockLoss (s : Dev) (p : Port) : Dev :=
  let a := s.acqState p
  if a = 5 ∨ a = 6 then
    let s := (s.inc (LPn_ACQ_COUNT_LOCK_LOSSES p)).flag (LPn_ACQ_EVENTS_LOCK_LOSS p) true
    if a = 6 then s.fdAbandonment p 8 else s.toSearch p
  else s

/-- The phase loop of a pair loses lock (04 R153): a link loss in data (09 Table 9.2), a loss of lock in training (08 R285);
the port's host transmitters leave the line's clock (01 R24). -/
def Dev.cdrLost (s : Dev) (p : Port) (x : Pair) : Dev :=
  if s.on (LPn_CDR_STATUS_LOCK p x) then
    let s := (s.cdrStart p x).flag (LPn_EQ_EVENTS_CDR_LOCK_LOST p) true
    let s := (s.count 0x28 p).fireCapture p 5
    let s := s.lineClockLost p
    if s.linkState p = lsUp then s.linkLoss p 2
    else if x = .b ∨ s.get (LPn_FD_STATUS_FDS p) = 4 then s.lockLoss p else s
  else s

/-! ## Resolution and data (08 Table 8.3, 09 Table 9.1) -/

/-- Whether receive precoding is asked for (08 R293). -/
def Dev.asksPrecode (s : Dev) (p : Port) (m : Nat) : Bool :=
  let q := s.get (LPn_ACQ_CTRL_PRECODE_REQ p)
  !isNrz m && (q == 2 || (q != 1 && (s.prt p).link.eqSet.2.2))

/-- A mode is resolved (08 R275, R289, R290): it is in force, and the group's lanes take its arrangement's rate. -/
def Dev.resolve (s : Dev) (p : Port) (m : Nat) (skellia : Bool) : Dev :=
  let s := (s.useMode p m).set (LPn_ACQ_STATUS_RESOLVED p) m
  let s := s.flag (LPn_ACQ_STATUS_TRAIN_SK p) skellia
  let s := s.detRefresh p false
  let s := (s.flag (LPn_FEC_STATUS_INNER_ON p) (innerUsed m (s.prt p).link.inner)).iterRefresh p
  match rateOf m (s.prt p).link.lanes with
  | some r => s.rateChange p r
  | none => s

/-- A port enters TRAIN (08 Table 8.3): in Skellia training it sends LINK_PARAM once its pair has acquired (Table 8.8), so
only the random draws are made here. -/
def Dev.toTrain (s : Dev) (p : Port) : Dev :=
  let s := s.draw
  let s := s.modAcq p fun a =>
    { a with lpNonce := (Config.nonce16 s.draws).toNat, askedPrecode := s.asksPrecode p (s.mode p) }
  (s.set (LPn_ACQ_STATUS_ACQ_STATE p) 5).linkTo p lsTraining

/-- Transmit precoding in force (06 R216): never in NRZ modes. -/
def Dev.txPrecodes (s : Dev) (p : Port) : Bool :=
  let v := s.get (LPn_TX_CTRL_PRECODE p)
  !isNrz (s.mode p) && (v == 2 || (v != 1 && (s.prt p).tx.precodeReq))

/-- The transmit chain starts at the first symbol of data (06 R215, 07 R249): with a whole group of codewords, blocks of zeros
before block 0, and precoders at 0. -/
def Dev.txChainStart (s : Dev) (p : Port) : Dev :=
  s.modTx p fun t =>
    { t with first := [], info := [], sent := (0, 0), pos := 0, pair := t.pair.map fun q => { q with prev := 0 }, groups := 0, start := s.draws }

/-- The transmitter switches to data (06 R215, R227): precoding is decided, the host loss that already lasts takes effect
(R229), and the path re-centres (02 R53). -/
def Dev.txToData (s : Dev) (p : Port) : Dev :=
  let s := s.flag (LPn_TX_STATUS_PRECODE_ACT p) (s.txPrecodes p)
  (s.txChainStart p).modTx p fun t => { t with data := true, idle := false }

/-- The receive chain starts at the first symbol of data (07 R249): what the equaliser and the detector still hold of the
symbols before it is passed over, the receiver's precoder starts from 0 (06 R215), and the blocks before block 0 are zeros,
which their LLRs say with certainty. The first symbol of data is the first whose main cursor is sampled after the switch
(DESIGN CHOICE, log entry 96). -/
def Dev.chainStart (s : Dev) (p : Port) : Dev :=
  let per := perSymbol (s.mode p)
  let dfe := s.on (LPn_EQ_STATUS_DET_ACTIVE p)
  let s := s.each bothPairs fun s x => s.modEq p x fun e =>
    { e with lead := e.main / per, decLead := e.main / per + (if dfe then 0 else 32), prev := 0, bits := [], syms := [] }
  (s.modFec p fun f =>
    { ctr := f.ctr, rxOut := f.rxOut, txOut := f.txOut, ber := f.ber, pbBits := f.pbBits, pbWords := f.pbWords, pbAny := f.pbAny
      rel := List.replicate 2 (List.replicate 2048 31), chain := true }).flag (LPn_FEC_STATUS_FRAME_LOCK p) false

/-- The receiver switches to data (04 R136, 07 R249). -/
def Dev.rxToData (s : Dev) (p : Port) : Dev :=
  let s := s.flag (LPn_EQ_STATUS_PRECODE p) (s.prt p).acq.askedPrecode
  (s.detRefresh p true).chainStart p

/-- Data mode (08 Table 8.3, 09 Table 9.1): the sub-channel runs where both announced it and the mode carries alignment
markers (08 R305); equalisers go to FINE (04 Table 4.2), cancellers to DD_FINE (05 Table 5.4); the port is UP and the waits
for it are over (09 R325). -/
def Dev.enterData (s : Dev) (p : Port) : Dev :=
  let s := s.set (LPn_ACQ_STATUS_ACQ_STATE p) 7
  let s := s.flag (LPn_ACQ_STATUS_SUBCH_ON p)
    ((s.prt p).acq.said.1 && s.partnerSubch p && !isNrz (s.mode p))
  let fd := isFd (s.mode p)
  let s := s.each (s.rx p) fun s x =>
    let ec := s.get (LPn_FD_STATUS_ECHO p x)
    let s := s.iff (ec == ecCoarse) fun s => s.set (LPn_FD_STATUS_ECHO p x) ecFine
    let s := s.iff (ec == ecFrozen) fun s => s.modEcho p x fun e => { e with frozeFrom := ecFine }
    (s.modEq p x fun e => { e with low := 0, conv := Vector.replicate 4 (0, 0) }).adaptTo p x adFine
  let s := s.iff fd fun s =>
    ((s.set (LPn_FD_STATUS_FDS p) 5).inc (LPn_FD_COUNT_FD_UPS p)).flag (LPn_FD_EVENTS_FD_UP p) true
  let s := s.modFd p fun f => { f with attempts := 0 }
  let s := s.iff (!s.groupAligned p) fun s =>
    let old := match s.host.lostAt.get p with
      | none => true
      | some t => decide (2000 ≤ s.timebase - t)
    (s.hostLossBegin p).modTx p fun t => { t with hostOut := old }
  let s := (s.recentreRx p).linkTo p lsUp
  s.wakeAll (fun w => w == .portUp p || w == .startProbe p) stOk

/-- A CYCLE on a port's ADCs is over (03 R124). -/
def Dev.cycleDrop (s : Dev) (p : Port) : Dev := s.each bothPairs fun s x => s.modAdc p x fun a => { a with cycle := none }

/-! ## Stop sequence (09 R326–R329, 06 R233) -/

/-- A capture in progress ends PARTIAL (04 R165). -/
def Dev.captureAbort (s : Dev) (p : Port) : Dev :=
  let st := s.get (LPn_CAP_STATUS_STATE p)
  (s.iff (st == 1 || st == 2) fun s => s.set (LPn_CAP_STATUS_STATE p) 4).wakeAll (fun w => w == .capture p) stAborted

/-- The port of the link wait that a descriptor is in: those that R329 names. -/
def WaitKind.linkPort : WaitKind → Option Port
  | .portUp p | .startProbe p | .lmcReceive p | .cableDiag p | .adcCycle p | .adcRequal p => some p
  | .eyeScan p _ => some p
  | .lmcSend p _ _ => some p
  | _ => none

/-- Descriptors that wait on a port's link end ABORTED (09 R329); PORT_RETRAIN leaves a capture and a CABLE_DIAG. -/
def Dev.abortWaits (s : Dev) (p : Port) (retrain : Bool) : Dev :=
  let s := s.each bothPairs fun s x => s.eyeEnd p x stAborted
  let s := s.lmcDrop p
  let s := s.iff (!retrain) fun s => ((s.captureAbort p).cycleDrop p).modFd p fun f => { f with diag := false }
  s.wakeAll (fun w => w.linkPort == some p &&
    !(retrain && (w == .cableDiag p || w == .adcCycle p || w == .adcRequal p))) stAborted

/-- Taps in use and canceller state written to the coefficient store (04 R150, 05 R203, 06 R226). -/
def Dev.storePort (s : Dev) (p : Port) : Dev :=
  let s := s.each (s.rx p) fun s x => s.iff (s.get (LPn_EQ_STATUS_ADAPT p x) != adOff) (·.storePair p x)
  s.each (txPairs (s.mode p)) fun s x =>
    s.modTxPair p x fun q => { q with stored := some (q.taps, q.main) }

/-- Class P fields of a port at their reset values (00 R16): its block of registers, and what they stand for. -/
def Dev.portClassP (s : Dev) (p : Port) : Dev :=
  s.regsReset fun f =>
    f.cls == .p && decide (0x4000 + 0x800 * p.val ≤ f.off) && decide (f.off < 0x4800 + 0x800 * p.val)

/-! ## Candidates (08 R272–R281) -/

/-- Whether the correlators run in Wide (08 R272, R274). -/
def Dev.wide (s : Dev) (p : Port) : Bool := s.get (LPn_ACQ_CTRL_PROFILE p) == 1 && !isOptical (s.searchMode p)

/-- The classes whose correlators run in a port that searches (08 R272–R275). -/
def Dev.classes (s : Dev) (p : Port) : List Nat :=
  let m := s.searchMode p
  let fit := fun c => c == 0 || s.fits p (classMode c)
  if isOptical m then [modeClass m]
  else if s.get (LPn_ACQ_CTRL_PROFILE p) = 1 then
    let mask := s.get (LPn_ACQ_CTRL_CLASS_EN p)
    (List.range 6).filter fun c => (mask == 0 || bitOf mask c) && fit c
  else
    let c := s.get (LPn_ACQ_CTRL_NARROW_CLASS p)
    [if 6 ≤ c then modeClass (s.prt p).link.cfgMode else c].filter fit

/-- HIT_THR as taken (08 R277). -/
def Dev.hitThr (s : Dev) (p : Port) : Nat := max (s.get (LPn_ACQ_CTRL_HIT_THR p)) 24

/-- A class becomes the candidate and confirmation starts (08 R278): pair B's gain loop freezes and its equaliser
adapts in COARSE (05 R193 gives pair A its own hit). No port leaves SEARCH while REFCLK_LINE is lost (20 R621). -/
def Dev.toConfirm (s : Dev) (p : Port) (c metric : Nat) : Dev :=
  if !s.on GLB_HW_STATUS_REFCLK_LINE_OK then s else
  let s := ((s.set (LPn_ACQ_STATUS_CAND_CLASS p) c).set (LPn_ACQ_STATUS_CAND_METRIC p) metric).set
    (LPn_ACQ_STATUS_MARKERS p) 0
  let s := (s.set (LPn_ACQ_STATUS_ACQ_STATE p) 3).modAcq p fun a => { a with preempt := none }
  (s.agcTo p .b agcFrozen).adaptTo p .b adCoarse

/-- A preemption (08 R281): the candidate is dropped and the port searches with the gain loop in FAST. -/
def Dev.preempt (s : Dev) (p : Port) : Dev :=
  let s := ((s.inc (LPn_ACQ_COUNT_PREEMPTS p)).flag (LPn_ACQ_EVENTS_PREEMPTED p) true).count 0x32 p
  (s.toSearch p).modAcq p fun a => { a with preempt := some 0 }

/-- A FAST update of the gain loop after a preemption: at the second, the enabled class with the highest metric at or above
HIT_THR becomes the candidate (08 R281). -/
def Dev.preemptStep (s : Dev) (p : Port) : Dev :=
  match (s.prt p).acq.preempt with
  | none => s
  | some 0 => s.modAcq p fun a => { a with preempt := some 1 }
  | some _ =>
    let metric := fun (c : Nat) => (s.prt p).acq.metric.toList.getD c 0
    let s' := s.modAcq p fun a => { a with preempt := none }
    let good := (s.classes p).filter fun c => decide (s.hitThr p ≤ metric c)
    let top := maxNat (good.map metric)
    match good.find? fun c => metric c == top with
    | some c => s'.toConfirm p c top
    | none => s'

end Sys2Proof.Machine
end

