-- ==== Sys2Proof/Machine/AdcCal.lean ====
section
/-! DEFINITION. The interleaved ADC: background and start-up calibration, the health check, retirement, and ADC_CAL
(03 R94–R124). -/

namespace Sys2Proof.Machine

open Reg

/-! ## Slices -/

/-- A slice of an ADC. -/
def Adc.at (a : Adc) (n : Nat) : Slice := a.slices.toList.getD n {}
/-- A slice changed. -/
def Adc.mod (a : Adc) (n : Nat) (g : Slice → Slice) : Adc := { a with slices := a.slices.set! n (g (a.at n)) }
/-- The slice in service at a position. -/
def Adc.placed (a : Adc) (pos : Nat) : Nat := a.place.toList.getD pos 0
/-- The position of a slice in service. -/
def Adc.posOf (a : Adc) (n : Nat) : Option Nat := a.place.toList.findIdx? (· == n)

/-- The retirement list's two entries of a pair (03 Table 3.16). -/
def Dev.retired (s : Dev) (p : Port) (x : Pair) : List Nat :=
  [s.get (LPn_ADC_RETIRE_RET0 p x), s.get (LPn_ADC_RETIRE_RET1 p x)].filter (· != 0x7F)

/-- A class N setting of a block type has changed (19 R606). -/
def Dev.cfgChanged (s : Dev) (typ : Nat) : Dev :=
  s.modSys fun y => { y with cfgDirty := if y.cfgDirty.contains typ then y.cfgDirty else y.cfgDirty ++ [typ] }

/-- A slice taken onto the retirement list (03 R109, R111–R113). -/
def Dev.retire (s : Dev) (p : Port) (x : Pair) (n : Nat) : Dev :=
  let s := if s.get (LPn_ADC_RETIRE_RET0 p x) = 0x7F then s.set (LPn_ADC_RETIRE_RET0 p x) n
    else s.set (LPn_ADC_RETIRE_RET1 p x) n
  let s := s.modAdc p x fun a =>
    { a with free := a.free.filter (· != n), cycle := a.cycle.map fun c => (c.1, c.2.1, c.2.2 + 1) }
  ((s.flag (LPn_RX_EVENTS_RETIRED p) true).cfgChanged 2).calRefresh p

/-- Steps of one full rotation (03, Background calibration). -/
def Dev.rotation (s : Dev) (p : Port) (x : Pair) : Nat := 66 - (s.retired p x).length

/-- A CYCLE completes once every selected pair has done its steps (03 R124). -/
def Dev.cycleCheck (s : Dev) (p : Port) : Dev :=
  let l := bothPairs.filterMap fun x => (s.adcOf p x).cycle
  if l != [] && l.all fun c => c.1 == 0 then
    let steps := min (sumNat (l.map fun c => c.2.1)) 255
    let gone := sumNat (l.map fun c => c.2.2)
    let s := s.each bothPairs fun s x => s.modAdc p x fun a => { a with cycle := none }
    s.wakeAll (fun w => w == .adcCycle p) stOk (fun _ => 256 * gone + steps)
  else s

/-- R120's refusal ends: no powered ADC that still calibrates has a rotation to go. -/
def Dev.reholdCheck (s : Dev) (p : Port) : Dev :=
  let busy := bothPairs.any fun x =>
    s.powered p x && (s.adcOf p x).free != [] && decide ((s.adcOf p x).sinceExpiry < s.rotation p x)
  s.iff (!busy) fun s => s.flag (LPn_ADC_CAL_STATUS_REHOLD_BLOCK p) false

/-- An ADC with no free slice (03 R114): its calibration stops, and with it a CYCLE. -/
def Dev.calStopped (s : Dev) (p : Port) (x : Pair) : Dev :=
  if (s.adcOf p x).free = [] then
    let s := s.modAdc p x fun a => { a with step := none, cycle := a.cycle.map fun c => (0, c.2) }
    let s := (s.raise (LPn_RX_EVENTS_CAL_STOPPED p) 2 (pay x.idx.val)).calRefresh p
    (s.reholdCheck p).cycleCheck p
  else s

/-! ## Background steps (03 R98–R105, R113, R122) -/

/-- Whether a background step may begin (03 R105, R122). -/
def Dev.calMay (s : Dev) (p : Port) (x : Pair) : Bool :=
  (s.linkState p == 3 || s.linkState p == 4) && s.powered p x && s.on (LPn_RXFE_STATUS_SIG_DET p x) &&
  s.on (LPn_ADC_CAL_CTRL_CAL_EN p) && !s.on (LPn_ADC_CAL_STATUS_HOLD_ACTIVE p) && (s.adcOf p x).free != [] &&
  (s.adcOf p x).step.isNone && s.coreRuns

/-- A step begins on the head of the free queue, at the position that Lull left or the next one. -/
def Dev.calBegin (s : Dev) (p : Port) (x : Pair) : Dev :=
  if s.calMay p x then
    let pos := (s.adcOf p x).abandoned.getD (s.get (LPn_ADC_CAL_STATUS_POS p x))
    (s.modAdc p x fun a =>
      { a with abandoned := none
               step := some { pos := pos, slice := a.free.headD 0, got := [], attempt := 1, disturbed := false
                              target := none } }).calRefresh p
  else s

/-- A step has ended: a CYCLE counts it and goes on at once (03 R124). A step that was under way as the CYCLE came counts as one
of its steps (DESIGN CHOICE, log entry 89). -/
def Dev.stepEnded (s : Dev) (p : Port) (x : Pair) (retried : Bool) : Dev :=
  match (s.adcOf p x).cycle with
  | none => s
  | some c =>
    let s := s.modAdc p x fun a => { a with cycle := a.cycle.map fun c => (c.1 - 1, c.2.1 + bnat retried, c.2.2) }
    if c.1 ≤ 1 then s.cycleCheck p else s.calBegin p x

/-- A window's length in slice samples (03 R98, Table 3.14). -/
def Dev.calSamples (s : Dev) (p : Port) : Nat := 2 ^ (14 + s.get (LPn_ADC_CAL_CTRL_WINDOW p))

/-- The mode whose sample rate the ADC runs at: the configured one on a stopped port (03 R116), else the one in force. -/
def Dev.calMode (s : Dev) (p : Port) : Nat := if s.linkState p = 0 then s.get (LPn_PORT_CFG_MODE p) else s.mode p

/-- A ratio of a window's sums; where its denominator is 0 the spec states no value, and the quantity is free. -/
def calRatio (num : Int) (den : Nat) : Rat := if den = 0 then (Config.noRatio num : Rat) else (num : Rat) / den

/-- The three quantities of a window (03 R98). Offset is the head's mean less the mean of all 64 slices. Gain is the head's
mean square about that offset over the slices' mean square, less 1, halved, in %. Skew is the correlation normalised by the
difference's power, which is the time from the midpoint of two instants two sample periods apart as a fraction of their
distance (DEDUCED, log entry 88). -/
def Dev.calMeas (s : Dev) (p : Port) (m : CalSums) : CalMeas :=
  let n := s.calSamples p
  let off : Rat := (m.head : Rat) / n - (m.ens : Rat) / (64 * n)
  let own : Rat := (m.headSq : Rat) - 2 * off * m.head + n * off * off
  let rate := symbolRate (s.calMode p) (s.prt p).link.inner * perSymbol (s.calMode p)
  { off := off
    gain := 50 * (64 * own * calRatio 1 m.ensSq - 1)
    skew := calRatio m.corr m.diffSq * 2 * (3000000000000 : Nat) / rate }

/-- CAL_STEP_START (03 R105). -/
def execCalStepStart (p : Port) (x : Pair) (s : State) : Host.Outcome State Fault Refusal := run s fun d => d.calBegin p x

/-- Whether two values lie within a distance of each other. -/
def within (d a b : Rat) : Bool := decide (a - b ≤ d) && decide (b - a ≤ d)

/-- Two measurements agree (03 R99). -/
def calAgree (a b : CalMeas) : Bool :=
  within (1 / 2) a.off b.off && within (1 / 5) a.gain b.gain && within 50 a.skew b.skew

/-- The nearest integer. -/
def roundRat (q : Rat) : Int := roundDiv q.num q.den

/-- The target trims of an attempt that succeeded (03 R100, Table 3.3). -/
def calTarget (z : Slice) (a b : CalMeas) : Int × Int × Int :=
  (clampInt (-128) 127 (roundRat (z.off - (a.off + b.off) / 2 * 4)),
   clampInt (-128) 127 (roundRat (z.gain - (a.gain + b.gain) / 2 * 20)),
   clampInt (-512) 511 (roundRat (z.skew - (a.skew + b.skew) / 2 / 25)))

/-- CAL_WINDOW_END (03 R98–R102, R113): a disturbed window is discarded; the second of two decides the attempt. A step that
retires the head ends without a handover, and ages no slice (DESIGN CHOICE, log entry 91). -/
def execCalWindowEnd (p : Port) (x : Pair) (sums : CalSums) (s : State) : Host.Outcome State Fault Refusal :=
  run s fun d =>
    match (d.adcOf p x).step with
    | none => d
    | some c =>
      let put := fun (d : Dev) (c : CalStep) => (d.modAdc p x fun a => { a with step := some c }).calRefresh p
      if c.target.isSome then d
      else if c.disturbed ∨ ¬ d.on (LPn_RXFE_STATUS_SIG_DET p x) then
        ((put d { c with disturbed := false }).inc (LPn_ADC_CAL_COUNT_DISCARDS p)).count 0x23 p
      else
        let m := d.calMeas p sums
        match c.got with
        | [] => put d { c with got := [m] }
        | m0 :: _ =>
          if calAgree m0 m then
            let d := d.modAdc p x fun a => a.mod c.slice fun z => { z with attempts := c.attempt }
            put d { c with got := [], target := some (calTarget ((d.adcOf p x).at c.slice) m0 m) }
          else if c.attempt < 3 then
            ((put d { c with got := [], attempt := c.attempt + 1 }).flag (LPn_RX_EVENTS_CAL_RETRY p) true).inc
              (LPn_ADC_CAL_COUNT_RETRIES p)
          else
            let d := d.modAdc p x fun a => { (a.mod c.slice fun z => { z with attempts := 3 }) with step := none }
            let d := (d.retire p x c.slice).log (LPn_RX_EVENTS_RETIRED p) 2 (pay x.idx.val ++ pay c.slice)
            (d.stepEnded p x true).calStopped p x

/-- One step of a trim toward its target (03 R103). -/
def temper (now target : Int) : Int := if now < target then now + 1 else if target < now then now - 1 else now

/-- TEMPER_TICK (03 R103, Table 3.4): the trims of the slice under ramp move; at their targets the slice takes its position
and the displaced one joins the tail. -/
def execTemperTick (p : Port) (x : Pair) (s : State) : Host.Outcome State Fault Refusal :=
  run s fun d =>
    match (d.adcOf p x).step with
    | none => d
    | some c =>
      match c.target with
      | none => d
      | some (o, g, k) =>
        let d := d.modAdc p x fun a => a.mod c.slice fun z =>
          { z with off := temper z.off o, gain := temper z.gain g, skew := temper z.skew k }
        let z := (d.adcOf p x).at c.slice
        if z.off = o ∧ z.gain = g ∧ z.skew = k then
          let d := d.modAdc p x fun (a : Adc) =>
            let gone := a.placed c.pos
            let a : Adc := { a with place := a.place.set! c.pos c.slice, free := a.free.filter (· != c.slice) ++ [gone]
                                    step := none, sinceExpiry := a.sinceExpiry + 1 }
            let a : Adc := { a with slices := a.slices.map fun z => { z with age := min (z.age + 1) 255 } }
            a.mod c.slice fun z => { z with age := 0, bad := 0 }
          let d := (d.set (LPn_ADC_CAL_STATUS_POS p x) ((c.pos + 1) % 64)).inc (LPn_ADC_CAL_COUNT_STEPS p)
          ((d.calRefresh p).reholdCheck p).stepEnded p x (decide (1 < c.attempt))
        else d

/-! ## Health check (03 R106–R109, R114, R115) -/

/-- A slice fails (03 R107–R109): the tail takes its position, or the head alone, whose step is abandoned; it is retired,
and the pair recovers (04 R146). With no free slice it stays, substituted. -/
def Dev.sliceFail (s : Dev) (p : Port) (x : Pair) (pos : Nat) : Dev :=
  let a := s.adcOf p x
  let n := a.placed pos
  let what := pay x.idx.val ++ pay n ++ pay pos
  let s := ((s.flag (LPn_RX_EVENTS_SLICE_FAIL p) true).count 0x24 p).fireCapture p 4
  match a.free.getLast? with
  | none => (s.modAdc p x fun a => a.mod n fun z => { z with failed := true }).log (LPn_RX_EVENTS_SLICE_FAIL p) 3 what
  | some t =>
    let s := s.eyeEnd p x stAborted
    let s := s.iff (a.step.any fun c => c.slice == t) fun s => s.modAdc p x fun a => { a with step := none }
    let s := s.modAdc p x fun a =>
      { (a.mod t fun z => { z with bad := 0 }) with place := a.place.set! pos t, free := a.free.filter (· != t) }
    let s := (s.retire p x n).log (LPn_RX_EVENTS_SLICE_FAIL p) 2 what
    (s.calStopped p x).toRecover p x 1

/-- HEALTH_WINDOW_END (03 R106–R109): each slice in service, over 4,096 of its samples, against all of them; a second failing
window in a row fails the slice. -/
def execHealthWindowEnd (p : Port) (x : Pair) (h : List HealthStat) (s : State) : Host.Outcome State Fault Refusal :=
  run s fun d =>
    if d.powered p x && d.on (LPn_RXFE_STATUS_SIG_DET p x) && h != [] then
      let n := h.length
      let sum := sumInt (h.map (·.sum))
      let square := sumNat (h.map (·.square))
      d.each (h.filter fun e => decide (e.pos < 64)) fun d e =>
        let z := (d.adcOf p x).placed e.pos
        let bad := e.lo == e.hi || decide (8 * 4096 * n < (n * e.sum - sum).natAbs) ||
          decide (square < 4 * ((n * e.square : Int) - square).natAbs)
        let sl := (d.adcOf p x).at z
        if sl.failed then d
        else if bad && decide (1 ≤ sl.bad) then d.sliceFail p x e.pos
        else d.modAdc p x fun a => a.mod z fun z => { z with bad := if bad then 1 else 0 }
    else d

/-! ## Start-up calibration (03 R116–R118) -/

/-- One pass of start-up calibration on a slice (03 R99–R101): the trims after it, the attempts used, and whether it failed. -/
def calPass (z : Slice) (l : List (CalMeas × CalMeas)) : Slice × Bool :=
  match (l.take 3).findIdx? fun m => calAgree m.1 m.2 with
  | some i =>
    let m := l.getD i (⟨0, 0, 0⟩, ⟨0, 0, 0⟩)
    let t := calTarget z m.1 m.2
    ({ z with off := t.1, gain := t.2.1, skew := t.2.2, attempts := i + 1 }, false)
  | none => ({ z with attempts := 3 }, true)

/-- Attempts of a pass that were retried. -/
def calRetries (l : List (CalMeas × CalMeas)) : Nat :=
  ((l.take 3).findIdx? fun m => calAgree m.1 m.2).getD 2

/-- The measurements of a pass. -/
def Dev.calPassMeas (s : Dev) (p : Port) (l : List (CalSums × CalSums)) : List (CalMeas × CalMeas) :=
  l.map fun m => (s.calMeas p m.1, s.calMeas p m.2)

/-- Attempts that a slice's start-up calibration retried. -/
def Dev.startupRetries (s : Dev) (p : Port) (r : SliceRun) : Nat :=
  let one := s.calPassMeas p r.pass1
  calRetries one + (if (calPass ((s.adcOf p r.pair).at r.slice) one).2 then 0 else calRetries (s.calPassMeas p r.pass2))

/-- Start-up calibration of one slice: two passes. A slice that fails either is suspect. -/
def Dev.startupSlice (s : Dev) (p : Port) (r : SliceRun) : Dev :=
  let a := calPass ((s.adcOf p r.pair).at r.slice) (s.calPassMeas p r.pass1)
  let b := if a.2 then a else calPass a.1 (s.calPassMeas p r.pass2)
  let n := s.startupRetries p r
  let s := s.modAdc p r.pair fun q => q.mod r.slice fun _ => { b.1 with age := 0, bad := 0, suspect := b.2 }
  (s.add (LPn_ADC_CAL_COUNT_RETRIES p) n).iff (n != 0) fun s => s.flag (LPn_RX_EVENTS_CAL_RETRY p) true

/-- The suspects of a pair after start-up calibration (03 R113, R118): a free one is retired while the list has room; one in
service is retired where a good free slice can take its place; the others stay in service as suspect. -/
def Dev.startupSuspects (s : Dev) (p : Port) (x : Pair) : Dev :=
  let s := s.each (List.range 66) fun s n =>
    let a := s.adcOf p x
    if (a.at n).suspect ∧ (s.retired p x).length < 2 then
      let gone := fun (s : Dev) => (s.modAdc p x fun a => a.mod n fun z => { z with suspect := false }).log
        (LPn_RX_EVENTS_RETIRED p) 2 (pay x.idx.val ++ pay n)
      if a.free.contains n then gone (s.retire p x n)
      else
        match a.posOf n, a.free.find? fun m => !(a.at m).suspect with
        | some pos, some m =>
          gone ((s.modAdc p x fun a =>
            { a with place := a.place.set! pos m, free := a.free.filter (· != m) }).retire p x n)
        | _, _ => s
    else s
  s.calStopped p x

/-- Start-up calibration of the pairs given, with what was measured. -/
def Dev.startupCal (s : Dev) (p : Port) (pairs : List Pair) (runs : List SliceRun) : Dev :=
  let l := runs.filter fun r =>
    pairs.contains r.pair && decide (r.slice < 66) && !(s.retired p r.pair).contains r.slice
  let s := s.each l (·.startupSlice p ·)
  s.each pairs (·.startupSuspects p ·)

/-- The pairs that an ADC_CAL selects (03 Table 3.7). -/
def calPairs (d : Desc) : List Pair := bothPairs.filter fun x => d.flag 17 x.idx.val

/-- Start-up calibration of a CYCLE's pairs ends the CYCLE (03 Table 3.8): slices retired and steps that needed a retry. -/
def Dev.cycleStartup (s : Dev) (p : Port) (pairs : List Pair) (runs : List SliceRun) : Dev :=
  let asked := match s.waiting (.adcCycle p) with
    | some c => calPairs c
    | none => []
  let gone := fun (s : Dev) => sumNat (asked.map fun x => (s.retired p x).length)
  let steps := (runs.filter fun r => asked.contains r.pair && pairs.contains r.pair && s.startupRetries p r != 0).length
  let before := gone s
  let s := s.startupCal p pairs runs
  s.wakeOne (.adcCycle p) stOk (256 * (gone s - before) + min steps 255)

/-- STARTUP_CAL_DONE (03 R116–R118, 08 Table 8.3): at a start the port goes on to search, and a CYCLE that was asked of the
stopped port is over; on a stopped port it ends a CYCLE or a REQUALIFY (03 Table 3.8). -/
def execStartupCalDone (p : Port) (runs : List SliceRun) (s : State) : Host.Outcome State Fault Refusal :=
  run s fun d =>
    if d.linkState p = 1 then (d.cycleStartup p (d.rx p) runs).toSearch p
    else if d.linkState p = 0 then
      match d.waiting (.adcCycle p), d.waiting (.adcRequal p) with
      | some c, _ => d.cycleStartup p (calPairs c) runs
      | none, some c =>
        let x := if c.flag 17 0 then Pair.a else .b
        let n := c.bits 19 6 0
        match runs.find? fun r => r.pair == x && r.slice == n with
        | none => d
        | some r =>
          let d := d.startupSlice p r
          let bad := ((d.adcOf p x).at n).suspect
          let d := d.modAdc p x fun a => a.mod n fun z => { z with suspect := false, failed := false }
          if bad then d.wakeOne (.adcRequal p) stOk 1
          else
            let d := if d.get (LPn_ADC_RETIRE_RET0 p x) = n then
                (d.set (LPn_ADC_RETIRE_RET0 p x) (d.get (LPn_ADC_RETIRE_RET1 p x))).set (LPn_ADC_RETIRE_RET1 p x) 0x7F
              else d.set (LPn_ADC_RETIRE_RET1 p x) 0x7F
            let d := (d.modAdc p x fun a => { a with free := a.free ++ [n] }).cfgChanged 2
            (d.calRefresh p).wakeOne (.adcRequal p) stOk 0
      | none, none => d
    else d

/-! ## Holds (03 R119, R120) -/

/-- A hold starts. -/
def Dev.holdStart (s : Dev) (p : Port) : Dev := (s.flag (LPn_ADC_CAL_STATUS_HOLD_ACTIVE p) true).calRefresh p
/-- Any hold ends. -/
def Dev.holdEnd (s : Dev) (p : Port) : Dev :=
  ((s.flag (LPn_ADC_CAL_STATUS_HOLD_ACTIVE p) false).flag (LPn_ADC_CAL_CTRL_HOLD p) false).calRefresh p

/-- A write of LPn_ADC_CAL_CTRL acts (03 R119, R120): HOLD = 1 starts a hold, unless it is refused, when HOLD has no effect;
HOLD = 0 releases. -/
def Dev.calCtrlWritten (s : Dev) (p : Port) (old : Bool) : Dev :=
  if s.on (LPn_ADC_CAL_CTRL_HOLD p) then
    if s.on (LPn_ADC_CAL_STATUS_REHOLD_BLOCK p) then s.flag (LPn_ADC_CAL_CTRL_HOLD p) old else s.holdStart p
  else s.holdEnd p

/-- ADC_HOLD_EXPIRE (03 R119, R120): the hold ends by expiry; a new one is refused while an ADC of the port calibrates. -/
def execAdcHoldExpire (p : Port) (s : State) : Host.Outcome State Fault Refusal :=
  run s fun d =>
    if d.on (LPn_ADC_CAL_STATUS_HOLD_ACTIVE p) then
      let d := (d.holdEnd p).raise (LPn_RX_EVENTS_HOLD_EXPIRED p) 1
      let block := bothPairs.any fun x => (d.powered p x || d.linkState p == 0) && (d.adcOf p x).free != []
      let d := d.flag (LPn_ADC_CAL_STATUS_REHOLD_BLOCK p) block
      d.each bothPairs fun d x => d.modAdc p x fun a => { a with sinceExpiry := 0 }
    else d

/-! ## ADC_CAL (03 R123, R124) -/

/-- The port of a descriptor that names it in byte 16, bits 2:0. -/
def Desc.port (d : Desc) : Port := Fin.ofNat 8 (d.bits 16 2 0)

/-- ADC_CAL's fields checked, then an action on its port. -/
def Dev.adcCal (s : Dev) (c : Desc) (act : Dev → Desc → Port → Dev) : Dev :=
  s.descriptor c fun s c => if calPairs c = [] then s.finish c stInvalid 0 else act s c (Desc.port c)

/-- LPn_ADC_CAL_STATUS as a word (03 Table 3.15). -/
def Dev.calStatusWord (s : Dev) (p : Port) : Nat :=
  let part := fun (x : Pair) (st pos free deg : Nat) =>
    s.get (LPn_ADC_CAL_STATUS_STATE p x) * 2 ^ st + s.get (LPn_ADC_CAL_STATUS_POS p x) * 2 ^ pos +
    s.get (LPn_ADC_CAL_STATUS_FREE p x) * 2 ^ free + s.get (LPn_ADC_CAL_STATUS_DEGRADED p x) * 2 ^ deg
  part .a 29 20 12 9 + part .b 26 14 10 8 + s.get (LPn_ADC_CAL_STATUS_HOLD_ACTIVE p) * 2 ^ 7 +
  s.get (LPn_ADC_CAL_STATUS_REHOLD_BLOCK p) * 2 ^ 6

/-- ADC_CAL STATUS (03 Table 3.8). -/
def execAdcCalStatus (c : Desc) (s : State) : Host.Outcome State Fault Refusal :=
  run s fun d => d.adcCal c fun d c p => d.finish c stOk (d.calStatusWord p)

/-- ADC_CAL CYCLE (03 Table 3.8): in training or data one full rotation; on a stopped port start-up calibration. A port in FAULT
is REFUSED with the states that the table names (DESIGN CHOICE, log entry 89). -/
def execAdcCalCycle (c : Desc) (s : State) : Host.Outcome State Fault Refusal :=
  run s fun d => d.adcCal c fun d c p =>
    let ls := d.linkState p
    let held := d.on (LPn_ADC_CAL_STATUS_HOLD_ACTIVE p)
    if !(ls == 0 || ls == 3 || ls == 4) || held then d.finish c stRefused 0
    else if (d.waiting (.adcCycle p)).isSome then d.finish c stBusy 0
    else
      let d := d.park (.adcCycle p) c
      if ls = 0 then d
      else
        let d := d.each (calPairs c) fun d x =>
          let n := if d.powered p x && (d.adcOf p x).free != [] then d.rotation p x else 0
          (d.modAdc p x fun a => { a with cycle := some (n, 0, 0) }).iff (n != 0) (·.calBegin p x)
        d.cycleCheck p

/-- ADC_CAL HOLD (03 R119, R120, Table 3.8): Hold in ms, at most 10,000; 0 releases. -/
def execAdcCalHold (c : Desc) (s : State) : Host.Outcome State Fault Refusal :=
  run s fun d => d.adcCal c fun d c p =>
    let ms := min (c.bytes 20 2) 10000
    if d.on (LPn_ADC_CAL_STATUS_REHOLD_BLOCK p) && ms != 0 then d.finish c stRefused 0
    else (if ms = 0 then d.holdEnd p else d.holdStart p).finish c stOk ms

/-- ADC_CAL RELEASE (03 Table 3.8). -/
def execAdcCalRelease (c : Desc) (s : State) : Host.Outcome State Fault Refusal :=
  run s fun d => d.adcCal c fun d c p => (d.holdEnd p).finish c stOk 0

/-- ADC_CAL REQUALIFY (03 Table 3.8): a retired slice of a stopped port is measured as at a start. A second one waits behind the
first (DESIGN CHOICE, log entry 90). -/
def execAdcCalRequalify (c : Desc) (s : State) : Host.Outcome State Fault Refusal :=
  run s fun d => d.adcCal c fun d c p =>
    match calPairs c with
    | [x] =>
      if !(d.retired p x).contains (c.bits 19 6 0) then d.finish c stInvalid 0
      else if d.linkState p != 0 then d.finish c stRefused 0
      else d.park (.adcRequal p) c
    | _ => d.finish c stInvalid 0

/-- A trim record (03 Table 3.9). -/
def Dev.trimRecord (s : Dev) (p : Port) (x : Pair) (n : Nat) : List Byte :=
  let a := s.adcOf p x
  let z := a.at n
  let role := if (s.retired p x).contains n then 3
    else if a.free.head? = some n then 1 else if a.free.contains n then 2 else 0
  let pos := if role = 0 then (a.posOf n).getD 0 else 0
  pay (n + 128 * x.idx.val) ++ pay (role + 4 * pos) ++ pay (codeOf 8 z.off) ++ pay (codeOf 8 z.gain) ++
  bytesOf 2 (codeOf 10 z.skew) ++ pay (z.attempts + 4 * bnat z.suspect) ++ pay z.age

/-- ADC_CAL TRIM_DUMP (03 Table 3.8). -/
def execAdcCalTrimDump (c : Desc) (s : State) : Host.Outcome State Fault Refusal :=
  run s fun d => d.adcCal c fun d c p =>
    let pairs := calPairs c
    let n := 528 * pairs.length
    if (c.length != 0 && c.length != n) || d.spanBad c c.length then d.finish c stInvalid 0
    else if c.length = 0 then d.finish c stOk 0
    else
      let w := d.putData c 0 (pairs.flatMap fun x => (List.range 66).flatMap (d.trimRecord p x))
      w.1.finish c (statusOf w.2) n

end Sys2Proof.Machine
end

