-- ==== Sys2Proof/Machine/Stream.lean ====
section
/-! DEFINITION. The bit streams of a line: bits of RS symbols (07 R239), their mapping to symbol values and back (06 R213), the
1/(1+D) mod 4 precoder and its inverse (06 R214), and the interleave of codewords (07 R239). -/

namespace Sys2Proof.Machine

/-! ## Bits of RS symbols -/

/-- The ten bits of an RS symbol in the order they are sent, the least significant first (07 R239; the order is IEEE 802.3's,
PRESUMED, log entry 93). -/
def symbolBits (v : Nat) : List Bool := (List.range 10).map (bitOf v)

/-- The RS symbol of its ten bits. -/
def symbolOf (l : List Bool) : Nat := ofBools (l.take 10)

/-- The bits of a list of RS symbols. -/
def bitsOfSymbols (l : List Nat) : List Bool := l.flatMap symbolBits

/-- The whole RS symbols of a list of bits; what is left over is fewer than ten bits. -/
def symbolsOfBits (l : List Bool) : List Nat × List Bool :=
  let n := l.length / 10
  ((chunks 10 n l).map symbolOf, l.drop (10 * n))

/-! ## Gray mapping (06 R213) -/

/-- The Gray value of two bits, the first sent being the more significant (06 R213). -/
def grayOf : Bool → Bool → Nat
  | false, false => 0
  | false, true => 1
  | true, true => 2
  | true, false => 3

/-- The two bits of a Gray value, the more significant first. -/
def grayBits (g : Nat) : Bool × Bool :=
  match g with
  | 0 => (false, false)
  | 1 => (false, true)
  | 2 => (true, true)
  | _ => (true, false)

/-- The symbol value of a level, 2 G − 3 (06 R213). -/
def symbolValue (g : Nat) : Int := 2 * (g : Int) - 3

/-- The level of a PAM4 symbol value. -/
def levelValue (a : Int) : Nat := ((a + 3) / 2).toNat

/-- The Gray values of a bit stream, two bits at a time. -/
def graysOf : List Bool → List Nat
  | a :: b :: r => grayOf a b :: graysOf r
  | _ => []

/-! ## Precoding (06 R214, R215) -/

/-- The precoded symbols of a list of Gray values after a symbol P, newest last: P_n = (G_n − P_(n−1)) mod 4. -/
def precode (prev : Nat) : List Nat → List Nat
  | [] => []
  | g :: r => let p := (g + 4 - prev % 4) % 4; p :: precode p r

/-- The Gray values that precoded symbols carry after a symbol P: G_n = (P_n + P_(n−1)) mod 4. -/
def unprecode (prev : Nat) : List Nat → List Nat
  | [] => []
  | p :: r => (p + prev) % 4 :: unprecode p r

/-- The last of a list of symbols, or the one before it. -/
def lastSymbol (prev : Nat) (l : List Nat) : Nat := l.getLastD prev

/-! ## Codeword interleave (07 R239) -/

/-- Codewords of a group, whose symbols take turns on the line: two at 200 and 400 Gb/s, one at 50 and 100 Gb/s (07 R239 by
IEEE 802.3's PCS of the rate; PRESUMED, log entry 93). -/
def codewordGroup (m : Nat) : Nat := if m = 5 ∨ m = 7 ∨ m = 8 then 1 else 2

/-- Two lists whose elements take turns. -/
def interleave {α : Type} : List α → List α → List α
  | [], l => l
  | a :: r, l => a :: (match l with
    | [] => r
    | b :: t => b :: interleave r t)

/-- The elements at even places and those at odd places. -/
def deinterleave {α : Type} : List α → List α × List α
  | [] => ([], [])
  | [a] => ([a], [])
  | a :: b :: r => let q := deinterleave r; (a :: q.1, b :: q.2)

end Sys2Proof.Machine
end

