-- ==== Sys2Proof/Machine/Detector.lean ====
section
/-! DEFINITION. What a receiver computes on one block of samples: the substitutes (02 R68, 03 R107), the cancellers of full
duplex (05 R173–R184), the FFE and the detector with their adaptation and log-likelihood ratios (04 R127–R142), the receive
stream (04 R136, 05 R171), the eye-margin scan's samples (04 R160), and the phase loop (04 R151–R154). -/

namespace Sys2Proof.Machine

open Reg

/-! ## Sums of products -/

/-- The sum of products of two lists, as far as both go. -/
def dot (a b : List Int) : Int := (List.zipWith (· * ·) a b).foldl (· + ·) 0

/-- k times a list added to another, whose length stays. -/
def axpy (k : Int) : List Int → List Int → List Int
  | [], _ => []
  | g, [] => g
  | a :: g, b :: h => (a + k * b) :: axpy k g h

/-- The sign of an integer. -/
def sgn (i : Int) : Int := if i < 0 then -1 else if 0 < i then 1 else 0

/-- A tap in use: the upper bits of its accumulator (04 R129, 05 R177). -/
def tapVal (fraction : Nat) (acc : Int) : Int := acc / 2 ^ fraction

/-! ## Detector (04 R130–R132) -/

/-- The symbol values of a mode (04 R130). -/
def alphabet (nrz : Bool) : List Int := if nrz then [-2, 2] else [-3, -1, 1, 3]

/-- The slicer (04 R132), on eight times the output. An output at a threshold is decided as the upper level (DESIGN CHOICE,
log entry 94). -/
def slicer (nrz : Bool) (z : Int) : Int :=
  if nrz then (if z < 0 then -2 else 2)
  else if z < -2048 then -3 else if z < 0 then -1 else if z < 2048 then 1 else 3

/-- Eight times the target response to past symbols, newest first: 128 · h · a is tap · a ÷ 8 (04 R130). -/
def targetOf (nrz : Bool) (tgt past : List Int) : Int := dot (tgt.take (if nrz then 4 else 3)) past

/-- The past symbols of a state, newest first: two of PAM4 and the third from its survivor, or four of NRZ (04 R131). -/
def stateSymbols (nrz : Bool) (r : Rssd) (st : Nat) : List Int :=
  let b := if nrz then 2 else 4
  let depth := if nrz then 4 else 2
  let own := (List.range depth).map fun k => (alphabet nrz).getD (st / b ^ (depth - 1 - k) % b) 0
  if nrz then own else own ++ [(r.path.getD st []).getD 2 0]

/-- One output into the reduced-state detector: each state keeps its best predecessor by squared error, the first of equals;
metrics are kept relative to the least (04 R131; squared Euclidean distance is DEDUCED, log entry 17). -/
def rssdStep (nrz : Bool) (tgt : List Int) (r : Rssd) (y : Int) : Rssd :=
  let b := if nrz then 2 else 4
  let next := (List.range 16).map fun t =>
    let a := (alphabet nrz).getD (t / (16 / b)) 0
    let cands := (List.range b).map fun j =>
      let st := t % (16 / b) * b + j
      let e := 8 * y - 1024 * a - targetOf nrz tgt (stateSymbols nrz r st)
      (r.metric.getD st 0 + e.natAbs ^ 2, (a :: r.path.getD st []).take 33)
    cands.tail.foldl (fun m c => if c.1 < m.1 then c else m) (cands.headD (0, []))
  let least := minNat ((next.map (·.1)).headD 0) (next.map (·.1))
  { metric := next.map fun c => c.1 - least, path := next.map (·.2), y := (y :: r.y).take 33 }

/-- The decision that is due: the output of 32 symbols ago and its symbol on the best survivor. -/
def rssdDecide (r : Rssd) : Option (Int × Int) :=
  if r.y.length = 33 then
    let best := (r.metric.findIdx? (· == 0)).getD 0
    some (r.y.getD 32 0, (r.path.getD best []).getD 32 0)
  else none

/-! ## Log-likelihood ratios (04 R135, 07 R254, R257) -/

/-- What the soft detector is: the mode's symbols, whether its trellis includes the precoder (07 R254), the target taps, and
the noise that scales squared errors, σ² in 1/64 square output units as a ratio. -/
structure SoftCfg where
  nrz : Bool
  joint : Bool
  tgt : List Int
  noise : Nat × Nat
  deriving DecidableEq, Repr

/-- The soft detector before an output: for each state its path metric and past symbols, newest first. -/
structure SoftAt where
  metric : List Int := List.replicate 16 0
  past : List (List Int) := List.replicate 16 []
  deriving DecidableEq, Repr

/-- The code bits of the branch that leaves a state with a level: the Gray-mapped bits of 06 R213, with the precoder undone
where the trellis includes it (07 R254). -/
def branchBits (c : SoftCfg) (st j : Nat) : List Bool :=
  if c.nrz then [j == 1] else let g := grayBits (if c.joint then (j + st / 4) % 4 else j); [g.1, g.2]

/-- The past symbols of a state: its own, and for PAM4 the third from its survivor (04 R131). -/
def SoftAt.symbols (c : SoftCfg) (f : SoftAt) (st : Nat) : List Int :=
  stateSymbols c.nrz { path := f.past } st

/-- The cost of a branch: the squared error of the output, none for a symbol formed from a substitute (07 R257), and what the
a priori LLRs say of its bits; both in the scale in which an LLR's unit of 0.5 costs the noise's numerator. -/
def SoftAt.cost (c : SoftCfg) (f : SoftAt) (o : Int × Bool) (pri : List Int) (st j : Nat) : Int :=
  let e := 8 * o.1 - 1024 * (alphabet c.nrz).getD j 0 - targetOf c.nrz c.tgt (f.symbols c st)
  (if o.2 then 0 else (e.natAbs ^ 2 * c.noise.2 : Nat)) +
  sumInt ((branchBits c st j).zipIdx.map fun b => if b.1 then pri.getD b.2 0 * c.noise.1 else 0)

/-- The least of a list of integers. -/
def minInt (l : List Int) : Int := l.tail.foldl min (l.headD 0)

/-- The soft detector after an output: each state keeps its best predecessor. -/
def SoftAt.next (c : SoftCfg) (f : SoftAt) (o : Int × Bool) (pri : List Int) : SoftAt :=
  let b := if c.nrz then 2 else 4
  let l := (List.range 16).map fun t =>
    let j := t / (16 / b)
    let cands := (List.range b).map fun k =>
      let st := t % (16 / b) * b + k
      (f.metric.getD st 0 + f.cost c o pri st j, ((alphabet c.nrz).getD j 0 :: f.past.getD st []).take 3)
    cands.tail.foldl (fun m e => if e.1 < m.1 then e else m) (cands.headD (0, []))
  { metric := l.map (·.1), past := l.map (·.2) }

/-- An LLR in its format: 6-bit two's complement in units of 0.5 (04 R135). -/
def llrSat (i : Int) : Int := clampInt (-32) 31 i

/-- The detector's pass over outputs with their a priori LLRs, backwards from the last, from which every state is equal: the
cost from each state on, and the LLRs, two for each PAM4 symbol and one for each NRZ symbol, positive for a bit of 0. Each is
the max-log value over the trellis less the a priori value, which the decoder already has (04 R135, 07 R253; DEDUCED, log
entry 95); 0 for the bits of a symbol formed from a substitute (07 R257). -/
def softBack (c : SoftCfg) : SoftAt → List ((Int × Bool) × List Int) → List Int × List Int
  | _, [] => (List.replicate 16 0, [])
  | f, (o, pri) :: r =>
    let b := if c.nrz then 2 else 4
    let q := softBack c (f.next c o pri) r
    let after := fun st j => f.cost c o pri st j + q.1.getD (j * (16 / b) + st / b) 0
    let beta := (List.range 16).map fun st => minInt ((List.range b).map (after st))
    let branches := (List.range 16).flatMap fun st => (List.range b).map fun j => (st, j)
    let llr := (List.range (if c.nrz then 1 else 2)).map fun i =>
      let least := fun v => minInt ((branches.filter fun e => (branchBits c e.1 e.2).getD i false == v).map fun e =>
        f.metric.getD e.1 0 + after e.1 e.2)
      if o.2 then 0 else llrSat (roundDiv (least true - least false) (max 1 c.noise.1) - pri.getD i 0)
    (beta, llr ++ q.2)

/-- The LLRs of a run of outputs, given their a priori LLRs in the order of the bits (04 R135). -/
def softPass (c : SoftCfg) (outs : List (Int × Bool)) (prior : List Int) : List Int :=
  let k := if c.nrz then 1 else 2
  (softBack c {} (outs.zipIdx.map fun o => (o.1, (List.range k).map fun i => prior.getD (k * o.2 + i) 0))).2

/-! ## A pair's equaliser on a block (04 R127, R130, R137) -/

/-- What the equaliser of a pair is while it works on a block. -/
structure EqCfg where
  nrz : Bool
  dfe : Bool
  /-- samples per symbol -/
  per : Nat
  /-- main tap's index -/
  main : Nat
  /-- FFE taps in use -/
  ffe : List Int
  /-- target taps in use -/
  tgt : List Int
  deriving DecidableEq, Repr

/-- Samples between a symbol's output and its decision: the detector's 32 symbols (04 R131), none in DFE (04 R132). -/
def EqCfg.lag (c : EqCfg) : Nat := if c.dfe then 0 else 32 * c.per

/-- One decided symbol: the sample at which it was decided, whether it is formed from a substitute, its output, eight times its
error, the symbol, and the symbols before it. -/
structure Decided where
  pos : Nat
  mark : Bool
  y : Int
  err : Int
  sym : Int
  past : List Int
  deriving DecidableEq, Repr

/-- The equaliser's running state in a block; outs, with the substitute mark of the sample that carries the symbol's main
cursor, and done are newest first. -/
structure EqRun where
  hist : List Int
  marks : List Bool
  rssd : Rssd
  past : List Int
  outs : List (Int × Bool)
  done : List Decided
  deriving DecidableEq, Repr

/-- One sample, in 0.25 LSB, and whether it is a substitute, into the equaliser (04 R127). -/
def EqRun.step (c : EqCfg) (r : EqRun) (i : Nat) (x : Int × Bool) : EqRun :=
  let hist := (x.1 :: r.hist).take 512
  let marks := (x.2 :: r.marks).take 512
  if (i + 1) % c.per ≠ 0 then { r with hist := hist, marks := marks }
  else
    let y := clampInt (-512) 511 (roundDiv (dot c.ffe hist) 4096)
    let r := { r with hist := hist, marks := marks, outs := (y, marks.getD c.main false) :: r.outs }
    let tgt := if c.dfe then c.tgt.take 1 else c.tgt
    let decided := fun (r : EqRun) (y a : Int) =>
      { r with past := (a :: r.past).take 4
               done := { pos := i, mark := marks.getD (c.main + c.lag) false, y := y
                         err := 8 * y - 1024 * a - targetOf c.nrz tgt r.past, sym := a, past := r.past } :: r.done }
    if c.dfe then decided r y (slicer c.nrz (8 * y - targetOf c.nrz tgt r.past))
    else
      let d := rssdStep c.nrz c.tgt r.rssd y
      let r := { r with rssd := d }
      match rssdDecide d with
      | some (y, a) => decided r y a
      | none => r

/-- A level's number, L0 to L3 (04 R155). -/
def levelOf (sym : Int) : Nat := if sym ≤ -2 then 0 else if sym = -1 then 1 else if sym = 1 then 2 else 3

/-- Squared errors added to a window's sums, in 1/64 square output units (04 R155). -/
def addErrors (w : Vector (Nat × Nat) 4) (l : List Decided) : Vector (Nat × Nat) 4 :=
  l.foldl (fun w d => vmod w (Fin.ofNat 4 (levelOf d.sym)) fun e => (e.1 + 1, e.2 + d.err.natAbs ^ 2)) w

/-- The sum of gradients over a block: for each decided symbol the sign of its error times the samples around it. n is the
block's length, lag the samples between a symbol's output and its decision. -/
def ffeGradient (l : List Decided) (hist : List Int) (n lag taps : Nat) : List Int :=
  l.foldl (fun g d => axpy (sgn d.err) g (hist.drop (n - 1 - d.pos + lag))) (List.replicate taps 0)

/-- An accumulator moved and held within its limits (04 R140); whether it has come to a limit. -/
def moveTap (lo hi acc step : Int) : Int × Bool :=
  let v := clampInt lo hi (acc + step)
  (v, v != acc && (v == lo || v == hi))

/-- The adaptation of a pair's taps over a block (04 R137–R140), with the number of taps that came to a limit. -/
def adaptTaps (c : EqCfg) (t : Taps) (l : List Decided) (hist : List Int) (n main : Nat) (muF muT : Nat) : Taps × Nat :=
  let g := ffeGradient l hist n c.lag c.ffe.length
  let ffe := t.ffe.toList.zipIdx.map fun e =>
    if e.2 < c.ffe.length ∧ e.2 + 1 ≠ main then
      moveTap (-(2 ^ 23)) (2 ^ 23 - 1) e.1 (roundDiv (-(g.getD e.2 0) * 2 ^ (6 - min muF 6)) 4)
    else (e.1, false)
  let gt := l.foldl (fun g d => axpy (sgn d.err) g d.past) [0, 0, 0, 0]
  let used := if c.dfe then 1 else if c.nrz then 4 else 3
  let tgt := t.tgt.toList.zipIdx.map fun e =>
    if e.2 < used then
      let lim : Int × Int := if e.2 = 0 then (0, 2 ^ 22) else (-(2 ^ 20), 2 ^ 20)
      moveTap lim.1 lim.2 e.1 (gt.getD e.2 0 * 2 ^ (6 - min muT 6))
    else (e.1, false)
  ({ ffe := Vector.ofFn fun i => (ffe.getD i.val (0, false)).1, tgt := Vector.ofFn fun i => (tgt.getD i.val (0, false)).1 },
   ((ffe ++ tgt).filter (·.2)).length)

/-! ## Noise (04 R155) -/

/-- σ² of a level over a window, in 1/64 square output units; a free value where the window holds no symbol of it. -/
def levelNoise (free : Nat) (w : Vector (Nat × Nat) 4) (k : Nat) : Nat × Nat :=
  let e := w.toList.getD k (0, 0)
  if e.1 = 0 then (Config.noLevel (4 * free + k), 1) else (e.2, e.1)

/-- The levels of a mode. -/
def levelsOf (nrz : Bool) : List Nat := if nrz then [0, 3] else [0, 1, 2, 3]

/-- The mean σ² of a window's levels. -/
def meanNoise (free : Nat) (nrz : Bool) (w : Vector (Nat × Nat) 4) : Nat × Nat :=
  let l := (levelsOf nrz).map (levelNoise free w)
  let s := l.foldl (fun a e => (a.1 * e.2 + e.1 * a.2, a.2 * e.2)) (0, 1)
  (s.1, s.2 * l.length)

/-! ## A pair's cancellers on a block (05 R173–R184) -/

/-- The first delay of each window that the cancellers apply: under a far-echo search the segments it dwells on (05 R180),
else the windows that pass R179; none where the window is not applied, and none at all under sub-step 2 (05 R202). -/
def Dev.windowStarts (s : Dev) (p : Port) (x : Pair) : List (Option Nat) :=
  (List.range 4).map fun w =>
    match (s.echoOf p x).search with
    | some (seg, _) =>
      let st := 768 + 32 * (seg + w)
      if st + 31 ≤ windowLimit (s.mode p) ∧ ¬ s.shedAt 4 then some st else none
    | none => if s.windowOn p x w then some (s.get (LPn_ECHO_WIN_START p x w)) else none

/-- An estimate in transmit-symbol time, in 2^−8 LSB, with the newest symbol of each line dropped k times (05 R177). -/
def echoEstimate (t : EchoTaps) (starts : List (Option Nat)) (own sib : List Int) (k : Nat) : Int :=
  let v := fun (l : List Int) => l.map (tapVal 8)
  dot (v t.dense.toList) (own.drop k) + dot (v t.xtalk.toList) (sib.drop k) +
  sumInt (starts.zipIdx.map fun e =>
    match e.1 with
    | some st => dot (v ((t.win.toList.drop (32 * e.2)).take 32)) (own.drop (k + st))
    | none => 0)

/-- The canceller outputs of a block in 0.25 LSB, oldest first (05 R173, R178). A negative phase is a whole UI less than its
remainder: the lines then stand one symbol earlier, where the newest symbol stands for the one still to come (DESIGN CHOICE,
log entry 100). -/
def cancel (t : EchoTaps) (starts : List (Option Nat)) (own sib : List Int) (phase : Int) (samples : List Int) : List Int :=
  let n := samples.length
  let early := fun (l : List Int) => if phase < 0 then l.headD 0 :: l else l
  let own := early own
  let sib := early sib
  let phase := (phase % 128 / 2).toNat
  let est := (List.range (n + 7)).map (echoEstimate t starts own sib)
  samples.zipIdx.map fun e =>
    let k := n - 1 - e.2
    let sum := sumInt ((List.range 8).map fun j => Config.interp phase j * est.getD (k + j) 0)
    clampInt (-1024) 1023 (roundDiv (e.1 * 2 ^ 23 - sum) (2 ^ 21))

/-- The adaptation of a pair's cancellers over a block (05 R181): for each error its sign and the drop of the lines that
aligns them with it. Echo and windows move if their reference transmitter is on, NEXT if the sibling's is (R184). -/
def adaptEcho (t : EchoTaps) (starts : List (Option Nat)) (own sib : List Int) (errs : List (Int × Nat))
    (muE muN : Nat) (ownOn sibOn : Bool) : EchoTaps :=
  let sum := fun (size : Nat) (line : List Int) (shift : Nat) =>
    errs.foldl (fun g e => axpy e.1 g (line.drop (e.2 + shift))) (List.replicate size 0)
  let move := fun (mu : Nat) (acc g : Int) =>
    clampInt (-(2 ^ 23)) (2 ^ 23 - 1) (acc + roundDiv (-g * 16) (2 ^ min mu 10))
  let gd := if ownOn then sum 768 own 0 else []
  let gx := if sibOn then sum 256 sib 0 else []
  let gw := if ownOn then starts.map fun e => (e.map fun st => sum 32 own st).getD [] else []
  { dense := Vector.ofFn fun i => move muE (t.dense.get i) (gd.getD i.val 0)
    win := Vector.ofFn fun i => move muE (t.win.get i) ((gw.getD (i.val / 32) []).getD (i.val % 32) 0)
    xtalk := Vector.ofFn fun i => move muN (t.xtalk.get i) (gx.getD i.val 0) }

/-! ## Conditions of a block -/

/-- Whether a quiet window of this side's own runs (05 Table 5.5): the far transmitters are off. -/
def Dev.ownWindow (s : Dev) (p : Port) : Bool :=
  let f := s.get (LPn_FD_STATUS_FDS p)
  (s.prt p).fd.inWin && ((f == 2 && s.on (LPn_FD_STATUS_ROLE p)) || (f == 3 && !s.on (LPn_FD_STATUS_ROLE p)))

/-- Whether the slice in service at a position has failed, so that its samples are substituted (03 R107, R115). -/
def Dev.positionFailed (s : Dev) (p : Port) (x : Pair) (pos : Nat) : Bool :=
  let a := s.adcOf p x
  (a.slices.get (Fin.ofNat 66 (a.place.get (Fin.ofNat 64 pos)))).failed

/-- The samples of a block with each of a failed slice replaced by the mean of those at the neighbouring positions (03 R107).
The sample at place i is taken at position i modulo 64, since a handover falls on a block boundary and a block is four turns;
for the block's last sample, the sample of position 0 in the same turn stands for the one still to come (DESIGN CHOICE, log
entry 97). -/
def Dev.heal (s : Dev) (p : Port) (x : Pair) (l : List Int) : List Int :=
  l.zipIdx.map fun e =>
    if s.positionFailed p x (e.2 % 64) then
      let before := if e.2 = 0 then (s.eqOf p x).lastCode else l.getD (e.2 - 1) 0
      roundDiv (before + l.getD (e.2 + 1) (l.getD (e.2 - 63) 0)) 2
    else e.1

/-- The samples of a block as they pass downstream, each with whether it is a substitute of R68: those that a SLIP owes the
pair's path stand in the place of the next samples, with free values. -/
def Dev.blockSamples (s : Dev) (p : Port) (x : Pair) (l : List Int) : List (Int × Bool) :=
  let n := (s.eqOf p x).subst
  (s.heal p x l).zipIdx.map fun e =>
    if e.2 < n then ((Config.substSample s.draws e.2).toInt, true) else (e.1, false)

/-- Whether a block of a pair holds substitutes (04 R142). -/
def Dev.substituted (s : Dev) (p : Port) (x : Pair) : Bool :=
  (s.eqOf p x).subst != 0 || (List.range 64).any (s.positionFailed p x)

/-- Whether R142 skips the update of a pair's block. -/
def Dev.skipped (s : Dev) (p : Port) (x : Pair) : Bool :=
  (s.eqOf p x).skip || s.substituted p x || !s.on (LPn_RXFE_STATUS_SIG_DET p x)

/-- Whether a state adapts (04 Table 4.2). -/
def adapting (st : Nat) : Bool := st == adCoarse || st == adFine || st == adRecover

/-- A pair's equaliser settings for a block. -/
def Dev.eqCfg (s : Dev) (p : Port) (x : Pair) : EqCfg :=
  let e := s.eqOf p x
  { nrz := isNrz (s.mode p), dfe := s.on (LPn_EQ_STATUS_DET_ACTIVE p), per := perSymbol (s.mode p), main := e.main
    ffe := (e.taps.ffe.toList.take e.active).map (tapVal 12), tgt := e.taps.tgt.toList.map (tapVal 12) }

/-- A pair's soft detector (04 R135, 07 R254): the noise that scales its values is the mean σ² of the last metric window
(DESIGN CHOICE, log entry 95). -/
def Dev.softCfg (s : Dev) (p : Port) (x : Pair) : SoftCfg :=
  let e := s.eqOf p x
  { nrz := isNrz (s.mode p), joint := s.on (LPn_EQ_STATUS_PRECODE p) && s.on (LPn_FEC_STATUS_INNER_ON p)
    tgt := e.taps.tgt.toList.map (tapVal 12), noise := meanNoise s.draws (isNrz (s.mode p)) e.metDone }

/-! ## Capture (04 R163, R164) -/

/-- Blocks of a capture and bytes of one (04 R164). -/
def capShape (source : Nat) : Nat × Nat := if source < 3 then (8192, 256) else (4096, 512)

/-- A block of bytes stored into a port's capture memory (04 R164). Of a block shorter than its place, the rest of the place
holds free values. -/
def Dev.capStore (s : Dev) (p : Port) (l : List Byte) : Dev :=
  let c := (s.prt p).cap
  let sh := capShape c.source
  let st := s.get (LPn_CAP_STATUS_STATE p)
  if st = 1 ∨ (st = 2 ∧ c.left ≠ 0) then
    let base := c.wr % sh.1 * (sh.2 / 8)
    let m : MemId := Fin.ofNat 20 (12 + p.val)
    let rest := (List.range (sh.2 - l.length)).map (Config.capPad s.draws)
    let s := (s.iff (rest != []) (·.draw)).each (chunks 8 64 (l.take sh.2 ++ rest)).zipIdx fun s e =>
      s.putWord m (base + e.2) (.full (BitVec.ofNat 64 (ofBytes e.1)))
    let s := s.modCap p fun c => { c with wr := c.wr + 1, left := if st = 2 then c.left - 1 else c.left }
    s.set (LPn_CAP_STATUS_BLOCKS p) (min (c.wr + 1) sh.1)
  else s

/-- What a block of a pair leaves behind it: its samples as they pass downstream, the FFE's outputs, the symbols decided, and the
phase detector's sum. -/
structure BlkOut where
  pair : Pair
  samples : List Int
  outs : List Int
  syms : List Int
  sum : Int
  deriving DecidableEq, Repr

/-- What a block gives to a capture (04 R164): the samples or the FFE outputs of the source's pairs. -/
def Dev.capBlock (s : Dev) (p : Port) (l : List BlkOut) : Dev :=
  let c := (s.prt p).cap
  let st := s.get (LPn_CAP_STATUS_STATE p)
  if st = 1 ∨ st = 2 then
    let skip := c.skip
    let s := s.modCap p fun c => { c with skip := (skip + 1) % 2 ^ c.decim }
    if skip ≠ 0 then s
    else
      let pairs := if c.source % 3 = 0 then [Pair.a] else if c.source % 3 = 1 then [.b] else [.a, .b]
      s.each (l.filter fun e => pairs.contains e.pair) fun s e =>
        s.capStore p (if c.source < 3 then e.samples.map fun v => BitVec.ofNat 8 (codeOf 8 v)
          else e.outs.flatMap fun v => bytesOf 2 (codeOf 16 v))
  else s

/-! ## Receive stream (04 R136, 05 R171, 06 R213, R214, 07 R252) -/

/-- The received symbols of both pairs merged (05 R171): those of pair A are the stream's even ones. -/
def Dev.fdMerge (s : Dev) (p : Port) : Dev :=
  let a := (s.eqOf p .a).syms
  let b := (s.eqOf p .b).syms
  let n := min a.length b.length
  let s := s.each bothPairs fun s x => s.modEq p x fun e => { e with syms := e.syms.drop n }
  s.modFec p fun f => { f with rxSyms := f.rxSyms ++ (interleave (a.take n) (b.take n)).map fun v => (v, false) }

/-- The bits that a pair's decided symbols carry (06 R213): of NRZ one each, where a substitute's is the pattern's next
(02 R69); of PAM4 the Gray bits, with precoding undone (04 R136). -/
def Dev.decidedBits (s : Dev) (p : Port) (x : Pair) (l : List Decided) : List Bool :=
  if isNrz (s.mode p) then
    (l.foldl (fun (r : List Bool × List Bool) d =>
      if d.mark then (r.1 ++ [r.2.headD (0 < d.sym)], r.2.tail) else (r.1 ++ [decide (0 < d.sym)], r.2))
      ([], (s.prt p).slipBits)).1
  else
    let levels := l.map fun d => levelValue d.sym
    let g := if s.on (LPn_EQ_STATUS_PRECODE p) then unprecode (s.eqOf p x).prev levels else levels
    g.flatMap fun g => [(grayBits g).1, (grayBits g).2]

/-- What a pair has received in a block enters the receive stream, once the chain runs (07 R249): with the inner code the
detector's outputs enter the decoder; else decided symbols become RS symbols, or bits for the host where the mode carries no
codewords. -/
def Dev.rxFeed (s : Dev) (p : Port) (x : Pair) (outs : List (Int × Bool)) (done : List Decided) : Dev :=
  if (s.prt p).fec.chain then
    let e := s.eqOf p x
    let ys := outs.drop e.lead
    let dec := done.drop e.decLead
    let bits := s.decidedBits p x dec
    let s := s.modEq p x fun e =>
      { e with lead := e.lead - outs.length, decLead := e.decLead - done.length
               prev := lastSymbol e.prev (dec.map fun d => levelValue d.sym) }
    if s.on (LPn_FEC_STATUS_INNER_ON p) then s.modFec p fun f => { f with fresh := f.fresh ++ ys }
    else if isNrz (s.mode p) then
      s.modPort p fun q => { q with slipBits := q.slipBits.drop (dec.filter (·.mark)).length, hostBits := q.hostBits ++ bits }
    else
      let r := symbolsOfBits (e.bits ++ bits)
      let s := s.modEq p x fun e => { e with bits := r.2 }
      if isFd (s.mode p) then (s.modEq p x fun e => { e with syms := e.syms ++ r.1 }).fdMerge p
      else s.modFec p fun f => { f with rxSyms := f.rxSyms ++ r.1.map fun v => (v, false) }
  else s

/-! ## Eye-margin scan's samples (04 R160) -/

/-- Samples of the tail slice that a point takes (04 Table 4.3 DWELL). -/
def eyeDwell (c : Desc) : Nat := 2 ^ (10 + c.bits 21 3 0)

/-- The thresholds that a scan measures, in output units, lower first (04 Table 4.3): NRZ uses the centre only. -/
def eyeThresholds (c : Desc) (nrz : Bool) : List Int :=
  if nrz then (if c.flag 22 1 then [0] else [])
  else (if c.flag 22 0 then [-256] else []) ++ (if c.flag 22 1 then [0] else []) ++ if c.flag 22 2 then [256] else []

/-- Point n of a scan, in the order of R161: its threshold and its voltage offset in output units, and its phase offset in
1/128 UI, at which the tail slice samples. -/
def eyePoint (c : Desc) (nrz : Bool) (n : Nat) : Int × Int × Int :=
  let ph := c.bits 18 5 0
  let v := c.bits 20 6 0
  let nv := 2 * v + 1
  let np := 2 * ph + 1
  ((eyeThresholds c nrz).getD (n / (nv * np)) 0, ((n % nv : Nat) - (v : Int)) * (c.bits 19 6 0 : Nat),
   ((n / nv % np : Nat) - (ph : Int)) * (c.bits 17 4 0 : Nat))

/-- The position at which the tail slice samples: it moves on after each 1,024 of its samples. -/
def EyeRun.position (r : EyeRun) : Nat := r.taken / 1024 % 64

/-- Whether a decided symbol counts at a point (04 R160): its level is one of the two next to the threshold, and the shadow
output lies on the other side of the threshold moved by the voltage offset. dx is what the tail slice sampled beyond the slice
in service. The response to past symbols is taken from the shadow output as the detector takes it from the output (DEDUCED,
log entry 98). -/
def eyeHit (cfg : EqCfg) (thr off : Int) (d : Decided) (dx : Int) : Bool :=
  let gap := if cfg.nrz then 2 else 1
  let mid := thr / 128
  let y8 := 8 * d.y + roundDiv (cfg.ffe.getD cfg.main 0 * dx) 128 - targetOf cfg.nrz (if cfg.dfe then cfg.tgt.take 1 else cfg.tgt) d.past
  if d.sym = mid + gap then decide (y8 < 8 * (thr + off))
  else if d.sym = mid - gap then decide (8 * (thr + off) ≤ y8)
  else false

/-- A block's share of a running scan (04 R160): the tail slice's samples at its position, and the decided symbols whose main
cursor it sampled. A calibration step pauses the scan, and the point in progress is measured again (04 R162). samples are the
block's, oldest first; done is oldest first. -/
def Dev.eyeBlock (s : Dev) (p : Port) (x : Pair) (cfg : EqCfg) (samples tail : List Int) (done : List Decided) : Dev :=
  let old := (s.eqOf p x).tail
  let n := samples.length
  match (s.eqOf p x).eye with
  | none => s.modEq p x fun e => { e with tail := (List.replicate n none ++ old).take 512 }
  | some r =>
    if (s.adcOf p x).step.isSome then
      s.modEq p x fun e => { e with eye := some { r with hits := 0, taken := 0 }, tail := [] }
    else
      let due := (tail.take (n / 64)).take (eyeDwell r.desc - r.taken)
      let diffs := samples.zipIdx.map fun e =>
        if e.2 % 64 = r.position then (due[e.2 / 64]?).map fun t => t - e.1 else none
      let line := (diffs.reverse ++ old).take 512
      let pt := eyePoint r.desc cfg.nrz r.pts.length
      let hits := (done.filter fun d =>
        match line.getD (n - 1 - d.pos + cfg.lag + cfg.main) none with
        | some dx => eyeHit cfg pt.1 pt.2.1 d dx
        | none => false).length
      s.modEq p x fun e =>
        { e with eye := some { r with hits := r.hits + hits, taken := r.taken + due.length }, tail := line }

/-! ## A block of one pair -/

/-- The phase detector's sum over a block (04 R151, R152), given the error of the symbol before it: for each decided symbol the
sign of how far the first pre-cursor, which the error before it holds, falls short of CDR_OFFSET. The form of the
Mueller–Müller detector that settles where R151 says is DEDUCED (log entry 99). done is oldest first. -/
def phaseSum (offset : Int) (last : Option Int) (done : List Decided) : Int :=
  clampInt (-256) 256 (done.foldl (fun (a : Int × Option Int) d =>
    (a.1 + (match a.2 with
      | some e => sgn ((8 * offset * d.sym - e) * d.sym)
      | none => 0), some d.err)) (0, last)).1

/-- The errors that drive a pair's cancellers, with the drop of the delay lines that aligns them (05 R182): in raw training the
canceller's outputs, else the detector's errors up to 96. -/
def echoErrors (cfg : EqCfg) (raw : Bool) (xs : List Int) (done : List Decided) : List (Int × Nat) :=
  let n := xs.length
  if raw then xs.zipIdx.map fun v => (sgn v.1, n - 1 - v.2)
  else (done.filter fun d => decide (d.err.natAbs ≤ 768)).map fun d => (sgn d.err, n - 1 - d.pos + cfg.main + cfg.lag)

/-- The adaptation of a pair's taps on a block (04 R137–R142): blocks that R142 or 05 R192 skips count. -/
def Dev.adaptBlock (s : Dev) (p : Port) (x : Pair) (cfg : EqCfg) (skip : Bool) (hist : List Int) (n : Nat)
    (done : List Decided) : Dev :=
  let st := s.get (LPn_EQ_STATUS_ADAPT p x)
  if !adapting st then s
  else if skip || s.ownWindow p then (s.inc (LPn_EQ_COUNT_SKIPPED p)).count 0x25 p
  else
    let fine := st == adFine
    let strict := fine || st == adRecover
    let used := done.filter fun d => !strict || decide (d.err.natAbs ≤ 768)
    let muF := if fine then s.get (LPn_EQ_ADAPT_MU_FFE_F p) else s.get (LPn_EQ_ADAPT_MU_FFE_C p)
    let muT := if fine then s.get (LPn_EQ_ADAPT_MU_TGT_F p) else s.get (LPn_EQ_ADAPT_MU_TGT_C p)
    let t := adaptTaps cfg (s.eqOf p x).taps used hist n cfg.main muF muT
    (s.modEq p x fun e => { e with taps := t.1 }).iff (t.2 != 0) fun s =>
      (s.flag (LPn_EQ_EVENTS_TAP_SAT p) true).count 0x26 p t.2

/-- The cancellers' share of a block (05 R181–R186): the sums of the ERLE window in raw training, and the adaptation, which the
blocks of R142 skip and a hybrid search puts off (05 Table 5.6: it comes before the cancellers train). raws are the samples,
xs the canceller's outputs in 0.25 LSB. -/
def Dev.echoBlock (s : Dev) (p : Port) (x : Pair) (cfg : EqCfg) (skip : Bool) (starts : List (Option Nat))
    (raws xs : List Int) (done : List Decided) : Dev :=
  let ec := s.get (LPn_FD_STATUS_ECHO p x)
  let raw := ec == ecRaw
  let dd := ec == ecCoarse || ec == ecFine || ec == ecRecover
  let search := (s.echoOf p x).hyb.isSome
  if !isFd (s.mode p) || !(raw || dd) then s
  else
    let s := s.iff (raw && !search) fun s => s.modEcho p x fun h =>
      { h with erle := (h.erle.1 + xs.length, h.erle.2.1 + sumNat (raws.map fun v => (4 * v).natAbs ^ 2),
                        h.erle.2.2 + sumNat (xs.map fun v => v.natAbs ^ 2)) }
    if skip || search then s
    else
      let f := ec == ecFine
      let on := fun (x : Pair) => s.get (LPn_TX_STATUS_TXS p x) != txOff
      let h := s.echoOf p x
      let t := adaptEcho h.taps starts h.line h.next (echoErrors cfg raw xs done)
        (s.get (if f then LPn_FD_ADAPT_MU_ECHO_F p else LPn_FD_ADAPT_MU_ECHO_C p))
        (s.get (if f then LPn_FD_ADAPT_MU_NEXT_F p else LPn_FD_ADAPT_MU_NEXT_C p)) (on x) (on x.other)
      s.modEcho p x fun h => { h with taps := t }

/-- The canceller's outputs of a block, in 0.25 LSB (05 R173): the samples themselves where no canceller works. -/
def Dev.cancelled (s : Dev) (p : Port) (x : Pair) (starts : List (Option Nat)) (samples : List Int) : List Int :=
  let h := s.echoOf p x
  if isFd (s.mode p) && s.get (LPn_FD_STATUS_ECHO p x) != ecOff then
    cancel h.taps starts h.line h.next h.phase samples
  else samples.map (4 * ·)

/-- A block of a pair (04 R127–R142, 05 R173–R186): substitutes, cancellers, FFE and detector; error sums, adaptation, the
receive stream and the scan. A pair in HOLD hears its partner in a refresh burst alone (04 R154): its FFE and detector run,
and its sums and taps stay. -/
def Dev.eqBlock (s : Dev) (p : Port) (x : Pair) (b : Blk) : Dev × Option BlkOut :=
  let st := s.get (LPn_EQ_STATUS_ADAPT p x)
  if st = adOff then (s.modEq p x fun e => { e with skip := false }, none)
  else
    let e := s.eqOf p x
    let blk := s.blockSamples p x b.samples
    let raws := blk.map (·.1)
    let n := raws.length
    let skip := s.skipped p x
    let starts := s.windowStarts p x
    let xs := s.cancelled p x starts raws
    let cfg := s.eqCfg p x
    let r0 : EqRun := { hist := e.hist, marks := e.marks, rssd := e.rssd, past := e.past, outs := [], done := [] }
    let r := (xs.zip (blk.map (·.2))).zipIdx.foldl (fun r v => EqRun.step cfg r v.2 v.1) r0
    let done := r.done.reverse
    let outs := r.outs.reverse
    let llr := if cfg.dfe then [] else softPass (s.softCfg p x) outs []
    let u := phaseSum (signedOf 8 (s.get (LPn_CDR_CTRL_CDR_OFFSET p))) e.lastErr done
    let s := s.modEq p x fun e =>
      { e with hist := r.hist, marks := r.marks, rssd := r.rssd, past := r.past, skip := false, llr := llr
               subst := e.subst - n, lastCode := b.samples.getLastD e.lastCode
               lastErr := done.getLast?.elim e.lastErr fun d => some d.err }
    let s := s.draw.iff (st != adHold) fun s => s.modEq p x fun e =>
      { e with conv := addErrors e.conv done, met := addErrors e.met done, tun := addErrors e.tun done }
    let s := s.adaptBlock p x cfg skip r.hist n done
    let s := s.echoBlock p x cfg skip starts raws xs done
    let s := (s.eyeBlock p x cfg b.samples b.tail done).rxFeed p x outs done
    (s, some { pair := x, samples := raws, outs := outs.map (·.1), syms := done.map (·.sym), sum := u })

/-! ## Phase loop (04 R151–R154) -/

/-- Whether a pair's phase loop moves in this block: pair A not before its own hit (05 R193), no pair in a window of this
side's own (05 R192), and in Lull only during the partner's refresh bursts (04 R154). -/
def Dev.loopMoves (s : Dev) (p : Port) (x : Pair) : Bool :=
  let st := s.get (LPn_EQ_STATUS_ADAPT p x)
  st != adOff && !(x == .a && st == adPreset) && !s.ownWindow p &&
  (s.linkState p != 5 || (s.prt p).link.burst.get x.idx != 0)

/-- The phase step of a pair in a block (04 R152), with wrap of the cancellers' phase (05 R173, R174). -/
def Dev.phaseStep (s : Dev) (p : Port) (x : Pair) (u : Int) : Dev :=
  if s.loopMoves p x then
    let lock := s.on (LPn_CDR_STATUS_LOCK p x)
    let kp := if lock then s.get (LPn_CDR_CTRL_KP_TRACK p) else s.get (LPn_CDR_CTRL_KP_ACQ p)
    let e := s.eqOf p x
    let den := 40000000 * perSymbol (s.mode p)
    let tot := (s.prt p).freq + e.carry
    let f := tot / den
    let want := roundDiv u (2 ^ kp) + f
    let lim : Int := if lock then 4 else 16
    let step := clampInt (-lim) lim want
    let s := s.modEq p x fun e =>
      { e with carry := tot % den, clamps := if step = want then 0 else e.clamps + 1 }
    let s := s.set (LPn_CDR_STATUS_PHASE p x) (((s.get (LPn_CDR_STATUS_PHASE p x) : Int) + step) % 128).toNat
    let s := s.iff (4 < step.natAbs) fun s => s.modAdc p x fun a =>
      { a with step := a.step.map fun c => { c with disturbed := true } }
    if isFd (s.mode p) then
      let ph := (s.echoOf p x).phase + step
      let put := fun (s : Dev) (ph : Int) (g : List Int → List Int) =>
        ((s.modEcho p x fun h => { h with phase := ph, line := g h.line, next := g h.next }).inc
          (LPn_FD_COUNT_WRAPS p)).count 0x2B p
      if 128 ≤ ph then put s (ph - 128) (·.drop 1)
      else if ph ≤ -128 then put s (ph + 128) fun l => l.headD 0 :: l
      else s.modEcho p x fun h => { h with phase := ph }
    else s
  else s

/-- Whether the frequency estimates of 64 blocks and of the block before them lie within less than 2 ppm (04 R153). -/
def freqQuiet (l : List Int) : Bool :=
  l.length == 65 && decide (l.tail.foldl max (l.headD 0) - minInt l < 40 * 65536)

/-- The phase loop of a port in a block: steps, the shared frequency estimate, lock and its loss (04 R151–R153). In Lull the
estimate holds (R154). -/
def Dev.phaseBlock (s : Dev) (p : Port) (l : List BlkOut) : Dev :=
  let moved := l.filter fun e => s.loopMoves p e.pair
  let s := s.each moved fun s e => s.phaseStep p e.pair e.sum
  if s.linkState p = 5 then
    s.each l fun s e => s.modLink p fun k => { k with burst := vmod k.burst e.pair.idx (· - 1) }
  else
    let shared := moved.filter fun e => e.pair == .b || s.lockValid p .a
    let s := if shared = [] then s
      else
        let u := sumInt (shared.map (·.sum))
        let lock := s.on (LPn_CDR_STATUS_LOCK p .b)
        let ki := if lock then s.get (LPn_CDR_CTRL_KI_TRACK p) else s.get (LPn_CDR_CTRL_KI_ACQ p)
        let top : Int := 4000 * 65536
        let fr := clampInt (-top) top ((s.prt p).freq + roundDiv (u * 65536) (2 ^ ki))
        (s.modPort p fun q => { q with freq := fr }).seti (LPn_CDR_STATUS_FREQ p) (fr / 65536)
    s.each moved fun s e =>
      let x := e.pair
      if s.on (LPn_CDR_STATUS_LOCK p x) then (if 64 ≤ (s.eqOf p x).clamps then s.cdrLost p x else s)
      else
        let s := s.modEq p x fun e => { e with freqs := ((s.prt p).freq :: e.freqs).take 65 }
        if freqQuiet (s.eqOf p x).freqs ∧ s.on (LPn_RXFE_STATUS_SIG_DET p x) then
          (s.flag (LPn_CDR_STATUS_LOCK p x) true).modEq p x fun e => { e with clamps := 0 }
        else s

/-- The symbols that a pair transmits in a block, oldest first: zeros while its transmitter is off (05 R184), else those that
wait to be sent, and the command's for what the device's state does not hold. -/
def Dev.sentSymbols (s : Dev) (p : Port) (x : Pair) (n : Nat) (given : List Int) : List Int :=
  if s.get (LPn_TX_STATUS_TXS p x) = txOff then List.replicate n 0
  else ((s.txPairOf p x).ref ++ given ++ List.replicate n 0).take n

/-- The transmit symbols of a block enter the delay lines of both pairs' cancellers (05 R173, R177). -/
def Dev.linesIn (s : Dev) (p : Port) (a b : Option Blk) : Dev :=
  if isFd (s.mode p) then
    let n := ((a.orElse fun _ => b).map (·.samples.length)).getD 0
    let sent := fun x => (s.sentSymbols p x n (((if x = .a then a else b).map (·.sent)).getD [])).reverse
    s.each bothPairs fun s x =>
      (s.modEcho p x fun h =>
        { h with line := (sent x ++ h.line).take 3600, next := (sent x.other ++ h.next).take 3600 }).modTxPair p x fun q =>
        { q with ref := q.ref.drop n }
  else s

end Sys2Proof.Machine
end

