-- ==== Sys2Proof/Machine/Inner.lean ====
section
/-! DEFINITION. The inner code (07 R246–R261): its checks, the encoder, and the windowed turbo decoder, in which the detector
and layered offset min-sum passes exchange log-likelihood ratios in units of 0.5, positive for a bit of 0. -/

namespace Sys2Proof.Machine

open Reg

/-! ## Checks (07 R246, R247) -/

/-- The entry of Bk in a column: its row and shift (07 Table 7.3). -/
def innerEntry (k j : Nat) : Nat × Nat :=
  if j < 30 then ((j + k) % 2, ((2 * k + 1) * j ^ 2 + (4 * k + 3) * j + 21 * k) % 64)
  else if j = 30 then (if k = 0 then (0, 0) else if k = 1 then (1, 17) else (1, 41))
  else (if k = 0 then (1, 0) else if k = 1 then (0, 29) else (0, 53))

/-- Column j of a block turned by a shift: bit z is bit (z + s) mod 64 of the column. -/
def innerColumn (b : BitVec 2048) (j s : Nat) : Nat :=
  let c := b.toNat / 2 ^ (64 * j) % 2 ^ 64
  c / 2 ^ s + c % 2 ^ s * 2 ^ (64 - s)

/-- The checks of a row at one time over block t and the two before it; 0 where every check is satisfied (07 R246). -/
def innerChecks (row : Nat) (now before before2 : BitVec 2048) : Nat :=
  [(0, now), (1, before), (2, before2)].foldl (fun v e =>
    (List.range 32).foldl (fun v j =>
      let c := innerEntry e.1 j
      if c.1 = row then v ^^^ innerColumn e.2 j c.2 % 2 ^ 64 else v) v) 0

/-- Whether every check of a time is satisfied. -/
def innerSatisfied (now before before2 : BitVec 2048) : Bool :=
  [0, 1].all fun row => innerChecks row now before before2 == 0

/-- Whether a released block is uncorrectable (07 R260): of blocks t − 2 to t + 2, a check of time t, t + 1 or t + 2 fails. -/
def innerBad (l : List (BitVec 2048)) : Bool :=
  let b := fun i => l.getD i 0
  [2, 3, 4].any fun i => !innerSatisfied (b i) (b (i - 1)) (b (i - 2))

/-- The erasure flags of a block's 192 symbols, by the magnitudes of its information bits' posterior LLRs (07 R261). -/
def innerFlags (llr : List Nat) (thr : Nat) : List Bool :=
  (List.range 192).map fun i => ((llr.drop (10 * i)).take 10).any fun v => decide (v ≤ thr)

/-! ## Encoder (07 R248) -/

/-- An inner block of 1,920 information bits after the two blocks sent before it: B0 holds the parity columns as an identity,
so each parity bit is the XOR of all other bits of its check. -/
def innerEncode (info : List Bool) (before before2 : BitVec 2048) : BitVec 2048 :=
  let b := BitVec.ofNat 2048 (ofBools (info.take 1920))
  BitVec.ofNat 2048 (b.toNat + 2 ^ 1920 * innerChecks 0 b before before2 + 2 ^ 1984 * innerChecks 1 b before before2)

/-- The bits of a block in the order they are sent, by index. -/
def innerBits (b : BitVec 2048) : List Bool := (List.range 2048).map b.getLsbD

/-! ## Decoder (07 R253) -/

/-- The bits of a check: by how many blocks before the check's time (k) and by bit (07 R246). -/
def checkEdges (row z : Nat) : List (Nat × Nat) :=
  [0, 1, 2].flatMap fun k => (List.range 32).filterMap fun j =>
    let e := innerEntry k j
    if e.1 = row then some (k, 64 * j + (z + e.2) % 64) else none

/-- The messages of a check to its bits, by offset min-sum: the product of the other bits' signs, and the least of their
magnitudes less 0.5, in the format of R135. -/
def checkMessages (q : List Int) : List Int :=
  (List.range q.length).map fun i =>
    let others := q.eraseIdx i
    let mag := minNat ((others.headD 0).natAbs) (others.map Int.natAbs) - 1
    let neg := (others.filter fun v => decide (v < 0)).length % 2 == 1
    llrSat (if neg then -(mag : Int) else mag)

/-- A layered pass: the LLRs of the six blocks of the window, two released and four not, and the messages of the checks of
times t to t + 3, each check's 48 in a row. -/
structure InnerRun where
  llr : List (List Int)
  msg : List (List Int)
  deriving DecidableEq, Repr

/-- One check of a layered pass (07 R253): of unreleased bits the check's earlier messages leave the LLR and the new ones
enter it; released bits enter as they are and stay. time counts from the target's, which is block 2 of the window. -/
def InnerRun.check (r : InnerRun) (time row z : Nat) : InnerRun :=
  let at_ := 48 * (64 * row + z)
  let edges := checkEdges row z
  let old := ((r.msg.getD time []).drop at_).take 48
  let block := fun (e : Nat × Nat) => time + 2 - e.1
  let value := fun e => (r.llr.getD (block e) []).getD e.2 0
  let q := edges.zipIdx.map fun e => if block e.1 < 2 then value e.1 else value e.1 - old.getD e.2 0
  let new := checkMessages q
  let llr := (edges.zip (q.zip new)).foldl (fun (l : List (List Int)) e =>
    if block e.1 < 2 then l else l.modify (block e.1) fun b => b.set e.1.2 (e.2.1 + e.2.2)) r.llr
  { llr := llr, msg := r.msg.modify time fun m => m.take at_ ++ new ++ m.drop (at_ + 48) }

/-- One layered pass over the checks of times t to t + 3, oldest first. -/
def InnerRun.pass (r : InnerRun) : InnerRun :=
  (List.range 4).foldl (fun r time => (List.range 2).foldl (fun r row =>
    (List.range 64).foldl (fun r z => r.check time row z) r) r) r

/-- What the messages of the checks in use say of the bits of an unreleased block, numbered from the target: the decoder's
extrinsic LLRs. -/
def innerExtrinsic (msg : List (List Int)) (k : Nat) : List Int :=
  let terms : List (Nat × Int) := (List.range 4).flatMap fun time => (List.range 128).flatMap fun c =>
    (checkEdges (c / 64) (c % 64)).zipIdx.filterMap fun e =>
      if time = k + e.1.1 then some (e.1.2, ((msg.getD time []).getD (48 * c + e.2) 0)) else none
  terms.foldl (fun (l : List Int) e => l.modify e.1 (· + e.2)) (List.replicate 2048 0)

/-- The hard decisions of a block's LLRs. -/
def innerHard (l : List Int) : BitVec 2048 := BitVec.ofNat 2048 (ofBools (l.map fun v => decide (v < 0)))

/-- The window's decoder: the soft detector, the outputs just before the target, those of the target and the look-ahead
blocks, and the LLRs with which the two released blocks enter their checks, newest first. -/
structure InnerWindow where
  soft : SoftCfg
  pre : List (Int × Bool)
  ys : List (List (Int × Bool))
  rel : List (List Int)
  deriving DecidableEq, Repr

/-- The detector's pass over the target and look-ahead blocks: the LLRs of each block's bits. It runs in over the 32 outputs
before them (DESIGN CHOICE, log entry 95). -/
def InnerWindow.detect (w : InnerWindow) (prior : List (List Int)) : List (List Int) :=
  let run := w.pre.length
  let l := softPass w.soft (w.pre ++ w.ys.flatten) (List.replicate (2 * run) 0 ++ prior.flatten)
  chunks 2048 w.ys.length (l.drop (2 * run))

/-- One turbo iteration (07 R253): a detector pass with the decoder's extrinsic LLRs of the iteration before, and two layered
passes. -/
def InnerWindow.iterate (w : InnerWindow) (prior : List (List Int)) (msg : List (List Int)) : InnerRun :=
  let ch := w.detect prior
  let r : InnerRun :=
    { llr := [w.rel.getD 1 [], w.rel.getD 0 []] ++ ch.zipIdx.map fun c => List.zipWith (· + ·) c.1 (innerExtrinsic msg c.2)
      msg := msg }
  r.pass.pass

/-- Whether every check row that the window uses is satisfied (07 R256), with the released blocks' bits. -/
def InnerRun.done (r : InnerRun) (rel : List (BitVec 2048)) : Bool :=
  let b := fun i => if i < 2 then rel.getD (1 - i) 0 else innerHard (r.llr.getD i [])
  (List.range 4).all fun t => innerSatisfied (b (t + 2)) (b (t + 1)) (b t)

/-- The iterations of a window step (07 R252, R255, R256): as many as the limit in force, or with EARLY_STOP up to the first
after which every check is satisfied; with how many ran. -/
def InnerWindow.run (w : InnerWindow) (early : Bool) (relBits : List (BitVec 2048)) :
    Nat → List (List Int) → List (List Int) → Nat → InnerRun × Nat
  | 0, _, msg, n => ({ llr := [], msg := msg }, n)
  | k + 1, prior, msg, n =>
    let r := w.iterate prior msg
    if k = 0 ∨ (early && r.done relBits) then (r, n + 1)
    else w.run early relBits k ((List.range 4).map fun i => (innerExtrinsic r.msg i).map llrSat) r.msg (n + 1)

end Sys2Proof.Machine
end

