-- ==== Sys2Proof/Machine/Rs.lean ====
section
/-! DEFINITION. The outer code RS(544,514) over GF(2^10) (07 R239, R241–R243): its field, syndromes, check symbols, marking,
and decoding of errors and erasures. A codeword is a list of 544 symbols in transmission order, the symbol of degree 543
first. -/

namespace Sys2Proof.Machine

/-- The product in GF(2^10) with field polynomial x^10 + x^3 + 1 (07 R239). -/
def gfMul (a b : Nat) : Nat :=
  (List.range 10).foldl (fun r i =>
    let r := 2 * r
    let r := if 1024 ≤ r then r ^^^ 0x409 else r
    if bitOf b (9 - i) then r ^^^ a else r) 0

/-- A power in the field, by its exponent's ten bits. -/
def gfPow (a n : Nat) : Nat :=
  (List.range 10).foldr (fun i r => if bitOf n i then gfMul (gfMul r r) a else gfMul r r) 1

/-- α^n. -/
def gfAlpha (n : Nat) : Nat := gfPow 2 (n % 1023)
/-- The inverse of a symbol that is not 0. -/
def gfInv (a : Nat) : Nat := gfPow a 1022

/-- The value of a polynomial, coefficients lowest first. -/
def gfEval (f : List Nat) (x : Nat) : Nat := f.foldr (fun c v => gfMul v x ^^^ c) 0
/-- A polynomial times x. -/
def gfShift (f : List Nat) : List Nat := 0 :: f
/-- The sum of two polynomials. -/
def gfAdd : List Nat → List Nat → List Nat
  | [], g => g
  | f, [] => f
  | a :: f, b :: g => (a ^^^ b) :: gfAdd f g
/-- A polynomial times a symbol. -/
def gfScale (c : Nat) (f : List Nat) : List Nat := f.map (gfMul c)
/-- The product of two polynomials. -/
def gfProduct (f g : List Nat) : List Nat := f.foldr (fun c r => gfAdd (gfScale c g) (gfShift r)) []
/-- The degree of a polynomial, 0 of zero. -/
def gfDegree (f : List Nat) : Nat := (List.range f.length).foldl (fun d i => if f.getD i 0 ≠ 0 then i else d) 0

/-- The generator g(x) = (x − α^0) … (x − α^29) (07 R239), lowest coefficient first. -/
def rsGenerator : List Nat := (List.range 30).foldl (fun g i => gfProduct [gfAlpha i, 1] g) [1]

/-- The 30 syndromes of a word. -/
def rsSyndromes (cw : List Nat) : List Nat :=
  (List.range 30).map fun j =>
    let a := gfAlpha j
    cw.foldl (fun v c => gfMul v a ^^^ c) 0

/-- The remainder of m(x) · x^30 by g(x), highest coefficient first: the check symbols of a message. -/
def rsCheck (msg : List Nat) : List Nat :=
  let g := (rsGenerator.take 30).reverse
  msg.foldl (fun (r : List Nat) m =>
    let t := m ^^^ r.headD 0
    List.zipWith (fun c q => c ^^^ gfMul t q) (r.drop 1 ++ [0]) g) (List.replicate 30 0)

/-- The check symbols of the marking word D: the coefficients of x^544 mod g(x) (07 R243). -/
def rsMarkCheck : List Nat := rsCheck (1 :: List.replicate 514 0)

/-- A codeword marked (07 R243): its message as it is, its check symbols computed afresh and D added. -/
def rsMark (cw : List Nat) : List Nat :=
  let m := cw.take 514
  m ++ List.zipWith (· ^^^ ·) (rsCheck m) rsMarkCheck

/-- Whether a syndrome is that of D: a single error of value 1 at degree 544 (07 R243, R245). -/
def rsMarked (syn : List Nat) : Bool := syn == (List.range 30).map fun j => gfAlpha (544 * j)

/-- The error locator of the syndromes and the erasures (degrees), by Berlekamp's algorithm begun with the erasure locator;
with its length. -/
def rsLocator (syn : List Nat) (erased : List Nat) : List Nat × Nat :=
  let f := erased.length
  let start := erased.foldl (fun g i => gfProduct [1, gfAlpha i] g) [1]
  let r := (List.range (30 - f)).foldl (fun (a : List Nat × List Nat × Nat) k =>
    let r := f + k + 1
    let d := (List.range a.1.length).foldl (fun v j =>
      if j < r then v ^^^ gfMul (a.1.getD j 0) (syn.getD (r - 1 - j) 0) else v) 0
    if d = 0 then (a.1, gfShift a.2.1, a.2.2)
    else
      let next := gfAdd a.1 (gfScale d (gfShift a.2.1))
      if 2 * a.2.2 ≤ r + f - 1 then (next, gfScale (gfInv d) a.1, r + f - a.2.2)
      else (next, gfShift a.2.1, a.2.2)) (start, start, f)
  (r.1, r.2.2)

/-- A word decoded with erasures at the degrees given (07 R239, R242): the codeword and the values corrected, or none where it
is uncorrectable. -/
def rsDecode (cw : List Nat) (erased : List Nat) : Option (List Nat × List Nat) :=
  let syn := rsSyndromes cw
  if syn.all (· == 0) then some (cw, [])
  else
    let r := rsLocator syn erased
    let n := r.2
    let deg := gfDegree r.1
    let f := erased.length
    let roots := (List.range 1023).filter fun i => gfEval r.1 (gfAlpha (1023 - i)) == 0
    if deg ≠ n ∨ roots.length ≠ n ∨ roots.any (fun i => 544 ≤ i) ∨ 30 < f + 2 * (n - f) then none
    else
      let omega := (gfProduct syn r.1).take 30
      let deriv := (List.range r.1.length).filterMap fun i =>
        if i = 0 then none else some (if i % 2 = 1 then r.1.getD i 0 else 0)
      let vals := roots.map fun i =>
        let x := gfAlpha (1023 - i)
        (i, gfMul (gfAlpha i) (gfMul (gfEval omega x) (gfInv (gfEval deriv x))))
      let fixed := vals.foldl (fun (c : List Nat) e => c.set (543 - e.1) (c.getD (543 - e.1) 0 ^^^ e.2)) cw
      if (rsSyndromes fixed).all (· == 0) then some (fixed, (vals.map (·.2)).filter (· != 0)) else none

end Sys2Proof.Machine
end

