-- ==== Sys2Proof/Machine/Line.lean ====
section
/-! DEFINITION. The streams that leave the device: training segments and the words of Lull (08 R295, 09 R338), the link message
channel's bits (08 R301–R306), the streams of control blocks (06 R230, 09 R339), the line transmitter's symbols (06 R213–R220),
and the host lanes' (10 R347, R359, R363, R365). -/

namespace Sys2Proof.Machine

open Reg

/-! ## Pseudo-random bits (08 R295, 10 R365) -/

/-- n bits of a shift-register sequence and the register after them: each bit is the sum of those at the taps, counted back
from the newest, which is the register's bit 0 (which bit is the output is a DESIGN CHOICE, log entry 103). -/
def prbsBits (width : Nat) (taps : List Nat) : Nat → Nat → List Bool × Nat
  | 0, r => ([], r)
  | n + 1, r =>
    let b := taps.foldl (fun v k => v != bitOf r (k - 1)) false
    let q := prbsBits width taps n ((2 * r + bnat b) % 2 ^ width)
    (b :: q.1, q.2)

/-- PRBS13, x^13 + x^12 + x^2 + x + 1 (08 Table 8.7). -/
def prbs13 (n r : Nat) : List Bool × Nat := prbsBits 13 [13, 12, 2, 1] n r

/-! ## Training segments (08 R295, R301) -/

/-- The segment marker (08 Table 8.7). -/
def segmentMarker : List Int := List.replicate 8 3 ++ List.replicate 8 (-3)

/-- The symbols of an LMC bit in a field of eight (08 Table 8.7). -/
def lmcField (b : Bool) : List Int := (List.range 8).map fun i => if (i % 2 == 0) == b then 3 else -3

/-- A training segment with its LMC bit, the first or a later one of the bit's period, and the pattern's register before and
after it (08 Table 8.7). -/
def trainSegment (bit first : Bool) (r : Nat) : List Int × Nat :=
  let q := prbs13 960 r
  (segmentMarker ++ lmcField bit ++ lmcField (bit == first) ++ (graysOf q.1).map symbolValue, q.2)

/-- Segments for each LMC bit, S (08 Table 8.9). -/
def segmentsPerBit (m : Nat) : Nat :=
  if m = 1 ∨ m = 2 then 208 else if m = 3 ∨ m = 4 then 104 else if m = 5 ∨ m = 6 then 52 else 26

/-! ## Link message channel bits (08 R302–R306) -/

/-- A frame's bytes (08 Table 8.10). -/
def TxFrame.bytes (f : TxFrame) : List Byte :=
  let body := pay f.typ ++ pay f.seq ++ pay (f.data.length + 128 * bnat f.ackReq) ++ f.data
  bytesOf 2 0xB38E ++ body ++ bytesOf 4 (crc32 body)

/-- A frame's bits, each byte's least significant first (08 R302). -/
def TxFrame.bits (f : TxFrame) : List Bool := f.bytes.flatMap fun b => (List.range 8).map b.getLsbD

/-- The next n bits of the channel: those of the frame that is being sent, and 1 after it and between frames (08 R302). -/
def Dev.lmcBits (s : Dev) (p : Port) (n : Nat) : Dev × List Bool :=
  let q := (s.prt p).lmc
  let l := (((q.out.head?).map TxFrame.bits).getD []).drop q.outPos
  (s.modLmc p fun q => { q with outPos := if q.out = [] then 0 else q.outPos + n },
   l.take n ++ List.replicate (n - l.length) true)

/-- Received channel bits kept: as many as the longest frame has (08 R302). -/
def lmcKept : Nat := 8 * 73

/-- Bits read from the channel (08 R301, R305). -/
def Dev.lmcRead (s : Dev) (p : Port) (l : List Bool) : Dev :=
  s.modLmc p fun q => { q with rxBits := (l.reverse ++ q.rxBits).take lmcKept }

/-- The carrier bits of a marker group: those of even-numbered RS symbols alone in full duplex (08 R305, R306). Their places
and standard values are IEEE 802.3's, which the spec does not give. -/
def carrierBits (m : Nat) : List Nat := (Config.carriers m).filter fun i => !isFd m || i / 10 % 2 == 0

/-- Whether a group of codewords, numbered from the chain's start, bears a marker group; where in the host's stream the groups
fall is not the device's to say. -/
def bearsMarkers (m draws n : Nat) : Bool := Config.markerGroup m draws n

/-- Bits of a list set at places. -/
def setBits (l : List Bool) (at_ : List Nat) (v : List Bool) : List Bool :=
  (at_.zip v).foldl (fun l e => l.set e.1 e.2) l

/-- The transmitter puts channel bits into the carriers of a group that bears markers (08 R305). -/
def Dev.carriersIn (s : Dev) (p : Port) (syms : List Nat) : Dev × List Nat :=
  let m := s.mode p
  if s.on (LPn_ACQ_STATUS_SUBCH_ON p) && bearsMarkers m (s.prt p).tx.start (s.prt p).tx.groups then
    let r := s.lmcBits p (carrierBits m).length
    (r.1, (symbolsOfBits (setBits (bitsOfSymbols syms) (carrierBits m) r.2)).1)
  else (s, syms)

/-- The receiver takes the carriers of a group that bears markers and restores them (08 R305). -/
def Dev.carriersOut (s : Dev) (p : Port) (syms : List Nat) : Dev × List Nat :=
  let m := s.mode p
  if s.on (LPn_ACQ_STATUS_SUBCH_ON p) && bearsMarkers m (s.prt p).fec.start (s.prt p).fec.taken then
    let bits := bitsOfSymbols syms
    let at_ := carrierBits m
    (s.lmcRead p (at_.map fun i => bits.getD i false),
     (symbolsOfBits (setBits bits at_ (at_.map (Config.carrierValue m)))).1)
  else (s, syms)

/-! ## Streams of control blocks (06 R230, 09 R339) -/

/-- The 64 bits after a control block's sync header, first sent first: the Local Fault ordered set, or eight LPI or Idle codes
(IEEE 802.3 Clauses 49 and 82; PRESUMED, log entry 104). -/
def ctlPayload (k : Ctl) (nrz : Bool) : List Bool :=
  let bytes := fun (l : List Nat) => l.flatMap fun b => (List.range 8).map (bitOf b)
  match k with
  | .fault => bytes (if nrz then [0x55, 0, 0, 1, 0, 0, 0, 1] else [0x4B, 0, 0, 1, 0, 0, 0, 0])
  | .lpi => bytes [0x1E] ++ (List.range 8).flatMap fun _ => (List.range 7).map (bitOf 6)
  | .idle => bytes [0x1E] ++ List.replicate 56 false

/-- Four control blocks transcoded into 257 bits (PRESUMED, log entry 104). -/
def ctl257 (k : Ctl) : List Bool :=
  let b := ctlPayload k false
  [false, true, true, true, true] ++ b.take 4 ++ b.drop 8 ++ b ++ b ++ b

/-- Bits through the self-synchronous scrambler 1 + x^39 + x^58, with its register, the newest bit lowest (PRESUMED, log entry
104). -/
def scramble : Nat → List Bool → List Bool × Nat
  | r, [] => ([], r)
  | r, b :: l =>
    let o := (b != bitOf r 38) != bitOf r 57
    let q := scramble ((2 * r + bnat o) % 2 ^ 58) l
    (o :: q.1, q.2)

/-- A message with its check symbols (07 R239). -/
def rsEncode (m : List Nat) : List Nat := m ++ rsCheck m

/-- The next codeword of a stream of control blocks (06 R230): whole groups are formed, the markers that fall in one first. -/
def Filler.word (f : Filler) (m seed : Nat) (k : Ctl) : Filler × List Nat :=
  if f.half ≠ [] then ({ f with half := [] }, rsEncode f.half)
  else
    let n := 5140 * codewordGroup m
    let marks := (Config.fillMarkers m f.groups).take n
    let q := scramble (if f.groups = 0 then seed else f.scr) (List.replicate ((n - marks.length + 256) / 257) (ctl257 k)).flatten
    let syms := (symbolsOfBits ((marks ++ q.1).take n)).1
    let d := if codewordGroup m = 1 then (syms, []) else deinterleave syms
    ({ scr := q.2, groups := f.groups + 1, half := d.2 }, rsEncode d.1)

/-- The next 66-bit block of a stream of control blocks in an NRZ mode (06 R230). -/
def Filler.block (f : Filler) (seed : Nat) (k : Ctl) : Filler × List Bool :=
  let q := scramble (if f.groups = 0 then seed else f.scr) (ctlPayload k true)
  ({ f with scr := q.2, groups := f.groups + 1 }, [true, false] ++ q.1)

/-! ## Line transmitter (06 R213–R220) -/

/-- Outputs of an FFE, in the unit of its taps, over symbols that follow others, newest first (06 R218, 10 R363). -/
def ffeRun (taps : List Int) : List Int → List Int → List Int × List Int
  | h, [] => ([], h)
  | h, a :: r =>
    let h := (a :: h).take taps.length
    let q := ffeRun taps h r
    (dot taps h :: q.1, q.2)

/-- The DAC code of an output in 1/64 (06 R220). -/
def dacCode (v : Int) : Int := clampInt (-127) 127 (roundDiv (v * 127) 192)

/-- The differential drive at the balls of a DAC code, in mV as a ratio, at a SWING code in use (06 R220). -/
def driveLevel (swing : Nat) (code : Int) : Int × Nat := (code * (200 + 10 * swing : Nat), 254)

/-- One block of 256 symbols leaves a pair, with the taps in use (06 R218, R220, R224); in full duplex it becomes the
cancellers' reference, which is taken before the FFE (05 R177). -/
def TxPair.sendBlock (fd : Bool) (q : TxPair) : TxPair :=
  let b := q.wait.take 256
  let r := ffeRun q.taps.toList q.hist b
  { q with wait := q.wait.drop 256, hist := r.2, dac := r.1.map dacCode, ref := if fd then q.ref ++ b else [] }

/-- Symbol values for a pair: whole blocks leave, and the rest waits for a block to be complete (06 R224, R228). -/
def Dev.pairSymbols (s : Dev) (p : Port) (x : Pair) (l : List Int) : Dev :=
  let fd := isFd (s.mode p)
  s.modTxPair p x fun q =>
    let q := { q with wait := q.wait ++ l }
    (List.range (q.wait.length / 256)).foldl (fun q _ => q.sendBlock fd) q

/-- Levels of the stream for a pair, each mapped and precoded by itself (06 R213–R217). -/
def Dev.pairLevels (s : Dev) (p : Port) (x : Pair) (g : List Nat) : Dev :=
  let prev := (s.txPairOf p x).prev
  let g := if s.on (LPn_TX_STATUS_PRECODE_ACT p) then precode prev g else g
  (s.modTxPair p x fun q => { q with prev := lastSymbol prev g }).pairSymbols p x (g.map symbolValue)

/-- The bits of a stream that has no codewords (06 R213). -/
def Dev.lineBits (s : Dev) (p : Port) (l : List Bool) : Dev := s.pairLevels p .a (l.map fun b => 3 * bnat b)

/-- Inner blocks formed of the bits that wait, as many as there are (07 R248). -/
def Dev.innerSend (s : Dev) (p : Port) (n : Nat) : Dev :=
  s.each (List.range n) fun s _ =>
    let t := (s.prt p).tx
    let b := innerEncode t.info t.sent.1 t.sent.2
    (s.modTx p fun t => { t with info := t.info.drop 1920, sent := (b, t.sent.1), pos := t.pos + 1 }).pairLevels p .a
      (graysOf (innerBits b))

/-- A group of codewords toward the line (05 R171, 06 R213, R217, 07 R248, 08 R305): in full duplex the even symbols go to pair
A and the odd to pair B; with the inner code they fill its blocks. -/
def Dev.lineSymbols (s : Dev) (p : Port) (l : List Nat) : Dev :=
  let r := s.carriersIn p l
  let s := r.1.modTx p fun t => { t with groups := t.groups + 1 }
  if s.on (LPn_FEC_STATUS_INNER_ON p) then
    let s := s.modTx p fun t => { t with info := t.info ++ bitsOfSymbols r.2 }
    s.innerSend p ((s.prt p).tx.info.length / 1920)
  else if isFd (s.mode p) then
    let d := deinterleave r.2
    (s.pairLevels p .a (graysOf (bitsOfSymbols d.1))).pairLevels p .b (graysOf (bitsOfSymbols d.2))
  else s.pairLevels p .a (graysOf (bitsOfSymbols r.2))

/-- A codeword toward the line: the first of a group waits for the second (07 R239). -/
def Dev.lineWord (s : Dev) (p : Port) (cw : List Nat) : Dev :=
  let t := (s.prt p).tx
  if codewordGroup (s.mode p) = 1 then s.lineSymbols p cw
  else if t.first = [] then s.modTx p fun t => { t with first := cw }
  else (s.modTx p fun t => { t with first := [] }).lineSymbols p (interleave t.first cw)

/-- The time of a codeword, or of a 66-bit block in an NRZ mode, in the local fault stream (06 R230, R231). -/
def Dev.lineFault (s : Dev) (p : Port) : Dev :=
  let f := (s.prt p).tx.fill
  let seed := (Config.scrSeed s.draws).toNat
  if isNrz (s.mode p) then
    let r := f.block seed .fault
    ((s.modTx p fun t => { t with fill := r.1 }).lineBits p r.2).draw
  else
    let r := f.word (s.mode p) seed .fault
    ((s.modTx p fun t => { t with fill := r.1 }).lineWord p r.2).draw

/-- Whether a pair's transmitter is in a state. -/
def Dev.sends (s : Dev) (p : Port) (state : Nat) : Bool := (txPairs (s.mode p)).any fun x => s.get (LPn_TX_STATUS_TXS p x) == state

/-! ## Training and Lull on the line (08 R276, R295, 09 R338, R339) -/

/-- What a pair in TRAIN sends (08 Table 8.2, R292, 05 Table 5.6). -/
inductive TrainKind where
  | dme | ieee | skellia
  deriving DecidableEq, Repr

/-- What the port sends while it searches: Clause 73 pages, IEEE training frames, or Skellia training frames (08 R276);
NARROW_SK is taken as 0 for classes 1 and 2. -/
def Dev.searchSends (s : Dev) (p : Port) : TrainKind :=
  let c := (s.classes p).headD 0
  if s.wide p ∨ c = 0 then .dme
  else if 6 ≤ c ∨ (3 ≤ c ∧ s.on (LPn_ACQ_CTRL_NARROW_SK p)) then .skellia
  else .ieee

/-- What a pair in TRAIN sends in the acquisition state (08 R276, R286, R292, 05 R187). -/
def Dev.trainSends (s : Dev) (p : Port) : TrainKind :=
  let a := s.acqState p
  if a = 4 then .dme
  else if a = 5 then (if s.on (LPn_ACQ_STATUS_TRAIN_SK p) then .skellia else .ieee)
  else if a = 6 then .skellia
  else s.searchSends p

/-- A block's time of a pair that sends segments: each second one begins a segment. Pair A's carry the channel's bits, a new
one at each period's start; pair B's, and those of refresh bursts, carry 1 (08 R301, 05 R172, 09 R339). -/
def Dev.segmentBlock (s : Dev) (p : Port) (x : Pair) (channel : Bool) : Dev :=
  let q := s.txPairOf p x
  let per := segmentsPerBit (s.mode p)
  let first := decide (q.blk / 2 % per = 0)
  if q.blk % 2 = 1 then s.modTxPair p x fun q => { q with blk := q.blk + 1 }
  else
    let r := if first && channel then s.lmcBits p 1 else (s, [if channel then q.bit else true])
    let bit := r.2.headD true
    let g := trainSegment bit first q.prbs
    (r.1.modTxPair p x fun q => { q with blk := q.blk + 1, bit := bit, prbs := g.2 }).pairSymbols p x g.1

/-- A block's time of a pair: training segments, a refresh burst's, or nothing where the stream's own commands bring what it
sends. -/
def Dev.txBlock (s : Dev) (p : Port) (x : Pair) : Dev :=
  let st := s.get (LPn_TX_STATUS_TXS p x)
  if st = txTrain ∧ s.trainSends p = .skellia then s.segmentBlock p x (x == .a)
  else if st = txIdle ∧ (s.txPairOf p x).burst ≠ 0 then
    (s.segmentBlock p x false).modTxPair p x fun q => { q with burst := q.burst - 1 }
  else s

/-- Symbols 32 to 47 of the wake word (09 Table 9.6). -/
def wakeCore : List Int := [3, -3, -3, 3, 3, 3, -3, 3, -3, -3, -3, 3, -3, 3, 3, -3]

/-- The wake word (09 Table 9.6). -/
def wakeWord : List Int := (List.replicate 8 [3, 3, -3, -3]).flatten ++ wakeCore ++ wakeCore.map (- ·)

/-- The sleep word: every symbol of the wake word negated (09 R338). -/
def sleepWord : List Int := wakeWord.map (- ·)

/-- Whether a word is detected in what a receiver has decided in the places of its symbols 32 to 63 (09 R338). -/
def wordFound (word got : List Int) : Bool :=
  decide (((word.drop 32).zipIdx.filter fun e => got[e.2]? != some e.1).length ≤ 4)

/-- The two wake segments (09 Table 9.7 step 3), with 1 in their LMC fields. -/
def wakeSegments : List Int :=
  let a := trainSegment true true (2 ^ 13 - 1)
  a.1 ++ (trainSegment true false a.2).1

/-- A word of Lull sent on every transmitting pair, unprecoded (09 R338). -/
def Dev.sendWord (s : Dev) (p : Port) (l : List Int) : Dev := s.each (txPairs (s.mode p)) fun s x => s.pairSymbols p x l

/-- The wake word and its segments sent, after which the chain restarts (09 Table 9.7 steps 2 to 4). -/
def Dev.sendWake (s : Dev) (p : Port) : Dev := (s.sendWord p (wakeWord ++ wakeSegments)).txChainStart p

/-! ## Reading the channel in training (08 R301) -/

/-- The LMC bit that a field of eight decided symbols says; a field that says neither counts as 1 (DESIGN CHOICE, log entry
105). -/
def fieldBit (l : List Int) : Bool := decide (0 ≤ dot (l.map sgn) (lmcField true))

/-- A segment read: a segment whose boundary field equals its LMC field begins a period, and the period before it gives its
bit, by the majority of its LMC fields. -/
def Dev.segmentRead (s : Dev) (p : Port) (l : List Int) : Dev :=
  let bit := fieldBit ((l.drop 16).take 8)
  let first := fieldBit ((l.drop 24).take 8) == bit
  let vote := fun (v : Nat × Nat) => (v.1 + bnat bit, v.2 + 1)
  let v := (s.prt p).lmc.votes
  let s := s.iff (first && v.2 != 0) fun s => s.lmcRead p [decide (v.2 ≤ 2 * v.1)]
  s.modLmc p fun q => { q with votes := vote (if first then (0, 0) else q.votes) }

/-- Whether symbols begin with a segment marker, with at most 2 errors in 16 (08 R278). -/
def markerHere (l : List Int) : Bool :=
  decide (16 ≤ l.length) && decide (((l.zip segmentMarker).filter fun e => e.1 != e.2).length ≤ 2)

/-- The decided symbols of the receiving pair enter the reader, which finds a marker and reads whole segments from it. -/
def Dev.channelRead (s : Dev) (p : Port) (l : List Int) : Dev :=
  let l := (s.prt p).lmc.syms ++ l
  let n := ((List.range l.length).find? fun i => markerHere (l.drop i)).getD (l.length - 15)
  let l := l.drop n
  let s := s.modLmc p fun q => { q with syms := l }
  if l.length < 512 then s else (s.segmentRead p l).modLmc p fun q => { q with syms := l.drop 512 }

/-! ## Host lanes (10 R347, R353, R359, R363–R368) -/

/-- PCS lanes of a mode (10 Table 10.7). -/
def pcsLanes (m : Nat) : Nat :=
  if m = 1 ∨ m = 2 then 16 else if m = 3 ∨ m = 4 ∨ m = 6 then 8 else if m = 5 ∨ m = 7 then 4 else if m = 8 then 2 else 1

/-- Every nth element of a list from the kth. -/
def everyNth {α : Type} (n k : Nat) (l : List α) : List α := (l.zipIdx.filter fun e => e.2 % n == k).map (·.1)

/-- The bits of the lane at position j of n (10 R359): the stream's symbols take turns over the PCS lanes, and a lane carries
its PCS lanes bit by bit in turn (IEEE 802.3's PMA; PRESUMED, log entry 106). -/
def laneShare (m n j : Nat) (syms : List Nat) : List Bool :=
  let per := max 1 (pcsLanes m / max 1 n)
  let ls := (List.range per).map fun i => bitsOfSymbols (everyNth (pcsLanes m) (j * per + i) syms)
  (List.range (ls.headD []).length).flatMap fun t => ls.map fun b => b.getD t false

/-- Whether a lane's rate is NRZ (10 Table 10.1). -/
def Dev.laneNrz (s : Dev) (l : Lane) : Bool := decide (3 ≤ s.get (HLn_STATUS_RATE l))

/-- Levels of a lane's bits (10 R347). -/
def laneLevels (nrz : Bool) (l : List Bool) : List Nat := if nrz then l.map (3 * bnat ·) else graysOf l

/-- Levels sent on a lane: precoded where that is in use and asked for, never in NRZ; inverted by its polarity; through the
FFE, in 1/64 (10 R347, R348, R363). -/
def Dev.laneDrive (s : Dev) (l : Lane) (g : List Nat) (coded : Bool) : Dev :=
  let h := s.lane.get l
  let g := if coded && h.inUse.2.2.1 && !s.laneNrz l then precode h.prev g else g
  let a := g.map fun v => if h.inUse.1 then -symbolValue v else symbolValue v
  let r := ffeRun h.taps.toList h.hist a
  s.modLane l fun h => { h with prev := if coded then lastSymbol h.prev g else 0, hist := r.2, out := r.1 }

/-- A lane's output swing for a steady outer level through MAIN = 64, in mVppd (10 R363). -/
def Dev.laneSwing (s : Dev) (l : Lane) : Nat := 400 + 25 * min (s.get (HLn_CTRL_SWING l)) 24

/-- The training burst of a lane (10 Table 10.4), in levels. -/
def burstLevels (nrz : Bool) : List Nat :=
  (List.replicate 256 [3, 3, 0, 0]).flatten ++
    laneLevels nrz (prbs13 (if nrz then 1024 else 2048) (2 ^ 13 - 1)).1

/-- The width and taps of a pattern (10 Table 10.9): PRBS7, PRBS13, PRBS31; PRBS13Q is PRBS13 mapped. -/
def patternTaps (pattern : Nat) : Nat × List Nat :=
  if pattern = 0 then (7, [7, 6]) else if pattern = 2 then (31, [31, 28]) else (13, [13, 12, 2, 1])

/-- n bits of a pattern and its register after them; SSPRBS13 is IEEE 802.3's, which the spec does not give. -/
def patternBits (pattern n r : Nat) : List Bool × Nat :=
  if pattern = 3 then ((List.range n).map fun i => Config.ssprbs (r + i), r + n)
  else let t := patternTaps pattern; prbsBits t.1 t.2 n r

/-- n bits of a lane's generator (10 R365, R368): inverted where asked, and after each 1,024 bits the next one inverted, INJECT
times. -/
def Dev.generated (s : Dev) (l : Lane) (n : Nat) : Dev × List Bool :=
  let h := s.lane.get l
  let q := patternBits (s.get (HLn_TEST_STATUS_PATTERN l)) n h.gen
  let hit := fun (k : Nat) => decide (k ≠ 0 ∧ k % 1024 = 0 ∧ k / 1024 ≤ h.inject)
  (s.modLane l fun h => { h with gen := q.2, genCount := h.genCount + n },
   q.1.zipIdx.map fun e => (e.1 != hit (h.genCount + e.2)) != h.invGen)

/-- The time of a share of the host-out stream on a lane, by what its transmitter is doing (10 Table 10.2, Table 10.8): the
stream, a generator's bits, the lane's own received bits in a far-end loop, or electrical idle. -/
def Dev.laneTime (s : Dev) (l : Lane) (share : List Bool) : Dev :=
  let nrz := s.laneNrz l
  let loop := s.get (HLn_TEST_STATUS_LOOP l)
  let quiet := loop == 2 || (loop == 1 && s.on (HLn_TEST_STATUS_TX_QUIET l))
  if s.get (HLn_STATUS_TXS l) < 3 ∨ quiet then s.modLane l fun h => { h with out := [] }
  else if s.on (HLn_TEST_STATUS_GEN_ON l) then
    let r := s.generated l share.length
    r.1.laneDrive l (laneLevels nrz r.2) false
  else if loop = 3 then s.laneDrive l ((s.lane.get l).rxLevels.take (laneLevels nrz share).length) false
  else s.laneDrive l (laneLevels nrz share) true

/-- Symbols of the line-in to host-out stream, or bits where it has no codewords, distributed over the group's lanes in the
order of their positions (10 R359). -/
def Dev.hostSymbols (s : Dev) (p : Port) (syms : List Nat) : Dev :=
  let g := s.group p
  s.each g.zipIdx fun s e => s.laneTime e.1 (laneShare (s.mode p) g.length e.2 syms)

/-- A block of an NRZ mode on the group's lane. -/
def Dev.hostBlock (s : Dev) (p : Port) (l : List Bool) : Dev := s.each (s.group p) fun s k => s.laneTime k l

/-- A codeword toward the host: the first of a group waits for the second (07 R239). -/
def Dev.hostWord (s : Dev) (p : Port) (cw : List Nat) : Dev :=
  let f := (s.prt p).fec
  if codewordGroup (s.mode p) = 1 then s.hostSymbols p cw
  else if f.first = [] then s.modFec p fun f => { f with first := cw }
  else (s.modFec p fun f => { f with first := [] }).hostSymbols p (interleave f.first cw)

/-- What the host is sent in place of data (10 Table 10.2, 09 R339): the local fault stream, or LPI or Idle as the partner's
kind states. -/
def Dev.hostFill (s : Dev) (p : Port) : Ctl :=
  let k := (s.prt p).link.kinds.2
  if s.linkState p = lsLull ∨ (s.prt p).link.markWake then (if k = 1 then .lpi else .idle) else .fault

/-- The time of a codeword or block toward the host that no data fills; marked gives a marked codeword (09 R343). -/
def Dev.hostIdle (s : Dev) (p : Port) (marked : Bool) : Dev :=
  let seed := (Config.scrSeed s.draws).toNat
  let f := (s.prt p).fill
  if isNrz (s.mode p) then
    let r := f.block seed (s.hostFill p)
    ((s.modPort p fun q => { q with fill := r.1 }).hostBlock p r.2).draw
  else
    let r := f.word (s.mode p) seed (s.hostFill p)
    let cw := if marked then rsMark r.2 else r.2
    (((s.modPort p fun q => { q with fill := r.1 }).modFec p fun f => { f with rxOut := cw }).hostWord p cw).draw

/-! ## Host receivers (10 R347, R365–R367) -/

/-- Bits of the levels that a lane has received: polarity and precoding undone (10 R347, R348). -/
def Dev.laneReceived (s : Dev) (l : Lane) (levels : List Nat) (coded : Bool) : List Bool :=
  let h := s.lane.get l
  let v := levels.map fun g => if h.inUse.2.1 then 3 - g % 4 else g % 4
  if s.laneNrz l then v.map fun g => decide (2 ≤ g)
  else
    let g := if coded && h.inUse.2.2.2 then unprecode h.rxPrev v else v
    g.flatMap fun g => [(grayBits g).1, (grayBits g).2]

/-- A checker's place (10 R367): its register, how many bits have been seen since it began to seed, how many in a row have
matched, the errors among the last 256 bits compared, newest first, whether it is locked, and the bits and errors counted. -/
structure ChkRun where
  reg : Nat
  seen : Nat
  good : Nat
  errs : List Bool
  lock : Bool
  bits : Nat
  errors : Nat
  losses : Nat
  deriving DecidableEq, Repr

/-- One bit into a checker (10 R367). -/
def ChkRun.step (pattern : Nat) (c : ChkRun) (b : Bool) : ChkRun :=
  let t := patternTaps pattern
  let q := if pattern = 3 then ([Config.ssprbs c.reg], c.reg + 1) else prbsBits t.1 t.2 1 c.reg
  let want := q.1.headD false
  let own := if pattern = 3 then q.2 else (2 * c.reg + bnat b) % 2 ^ t.1
  if c.lock then
    let errs := ((want != b) :: c.errs).take 256
    let c := { c with reg := q.2, errs := errs, bits := c.bits + 1, errors := c.errors + bnat (want != b) }
    if 64 ≤ (errs.filter id).length then { c with lock := false, seen := 0, good := 0, errs := [], losses := c.losses + 1 } else c
  else
    let good := if t.1 ≤ c.seen ∧ want = b then c.good + 1 else 0
    { c with reg := own, seen := c.seen + 1, good := good, lock := decide (256 ≤ good) }

/-- Levels decided on a lane: its checker compares them, and the host-in stream holds them (10 R366, R367). -/
def Dev.laneTake (s : Dev) (l : Lane) (levels : List Nat) : Dev :=
  let h := s.lane.get l
  let chk := s.on (HLn_TEST_STATUS_CHK_ON l)
  let bits := s.laneReceived l levels (!chk)
  let s := s.modLane l fun h =>
    { h with rxBits := bits, rxLevels := levels, rxPrev := lastSymbol h.rxPrev (levels.map fun g => if h.inUse.2.1 then 3 - g % 4 else g % 4) }
  if chk then
    let c : ChkRun :=
      { reg := h.chk.1, seen := h.chk.2.1, good := h.chk.2.2, errs := h.chkErrs, lock := s.on (HLn_TEST_STATUS_LOCK l)
        bits := 0, errors := 0, losses := 0 }
    let r := (bits.map (· != h.invChk)).foldl (ChkRun.step (s.get (HLn_TEST_STATUS_PATTERN l))) c
    let top := 2 ^ 64 - 1
    let s := s.modLane l fun h =>
      { h with chk := (r.reg, r.seen, r.good), chkErrs := r.errs, bits := min (h.bits + r.bits) top
               errors := min (h.errors + r.errors) top }
    ((s.iff (r.errors != 0) (·.count 0x53 l r.errors)).add (HLn_TEST_STATUS_LOCK_LOSSES l) r.losses).flag
      (HLn_TEST_STATUS_LOCK l) r.lock
  else s

end Sys2Proof.Machine
end

