-- ==== Sys2Proof/Machine/Equaliser.lean ====
section
/-! DEFINITION. Convergence and recovery of the equaliser, the phase loop's block, link metrics, the eye-margin scan and the
capture (04 R143–R168). -/

namespace Sys2Proof.Machine

open Reg

/-! ## SNR (04 R155) -/

/-- P of a mode (04 R155), for noise in 1/64 square output units. -/
def signalPower (nrz : Bool) : Nat := 64 * (if nrz then 65536 else 81920)

/-- Whether the SNR of a noise is at least m, in 0.1 dB. -/
def snrAtLeast (nrz : Bool) (noise : Nat × Nat) (m : Int) : Bool := ratioAtLeast (signalPower nrz * noise.2) noise.1 m 100
/-- The SNR of a noise in 0.1 dB, rounded, at most 25.5 dB. -/
def snrCode (nrz : Bool) (noise : Nat × Nat) : Nat := logCode 100 255 (signalPower nrz * noise.2) noise.1
/-- Whether two noises differ by less than 0.25 dB (04 R143). -/
def noiseNear (a b : Nat × Nat) : Bool :=
  !ratioAtLeast (a.1 * b.2) (a.2 * b.1) 1 40 && !ratioAtLeast (a.2 * b.1) (a.1 * b.2) 1 40

/-! ## Convergence (04 R143–R148) -/

/-- A divergence (04 R145): counted and logged, and a link loss (09 Table 9.2). -/
def Dev.diverged (s : Dev) (p : Port) (x : Pair) : Dev :=
  let s := (s.inc (LPn_EQ_COUNT_DIVERGED_COUNT p)).raise (LPn_EQ_EVENTS_DIVERGED p) 2 (pay x.idx.val)
  let s := s.fireCapture p 7
  let s := s.modEq p x fun e => { e with recover := 0, low := 0 }
  s.linkLoss p 4

/-- CONVERGED is set (04 R143–R146): a snapshot is taken, and a pair in RECOVER returns to FINE. -/
def Dev.converged (s : Dev) (p : Port) (x : Pair) : Dev :=
  let s := (s.flag (LPn_EQ_STATUS_CONV p x) true).snapshot p x
  if s.get (LPn_EQ_STATUS_ADAPT p x) = adRecover then
    let restored := (s.eqOf p x).recover == 2
    let s := s.iff restored fun s =>
      (s.inc (LPn_EQ_COUNT_RESTORED_COUNT p)).flag (LPn_EQ_EVENTS_RESTORED p) true
    (s.modEq p x fun e => { e with recover := 0 }).adaptTo p x adFine
  else s

/-- The end of a pair's convergence window (04 R143, R145, R148); gives whether its SNR was at or above SNR_MIN. -/
def Dev.convWindow (s : Dev) (p : Port) (x : Pair) : Dev × Bool :=
  let nrz := isNrz (s.mode p)
  let e := s.eqOf p x
  let noise := meanNoise s.draws nrz e.conv
  let s := s.draw.modEq p x fun e => { e with conv := Vector.replicate 4 (0, 0) }
  let st := s.get (LPn_EQ_STATUS_ADAPT p x)
  let floor : Nat := s.get (LPn_EQ_CTRL_SNR_MIN p)
  let good := snrAtLeast nrz noise floor
  let code := snrCode nrz noise
  let s := s.iff (x == .b) fun s =>
    let other := match (s.eqOf p .a).prevSnr with
      | some n => if isFd (s.mode p) then snrCode nrz n else code
      | none => code
    s.sample 0x27 p (min code other)
  if st = adFine ∨ st = adRecover then
    let near := match e.prevSnr with
      | some n => snrAtLeast nrz n floor && noiseNear n noise
      | none => false
    let s := s.modEq p x fun e => { e with prevSnr := some noise, low := if good || st == adRecover then 0 else e.low + 1 }
    let conv := s.on (LPn_EQ_STATUS_CONV p x)
    let s :=
      if conv && !good then
        (s.flag (LPn_EQ_STATUS_CONV p x) false).iff (st == adFine) fun s => s.flag (LPn_EQ_EVENTS_CONV_LOST p) true
      else if !conv && good && near then s.converged p x
      else s
    if st = adFine ∧ 4 ≤ (s.eqOf p x).low then
      if (s.eqOf p x).snapNew then ((s.loadSnapshot p x).toRecover p x 2, good) else (s.diverged p x, good)
    else (s, good)
  else if st = adFrozen ∧ e.frozeFrom = adFine ∧ s.frozen p x ∧ s.coreRuns then
    let low := !snrAtLeast nrz noise ((e.freezeSnr : Int) - 30)
    let n := if low then e.freezeLow + 1 else 0
    let s := s.modEq p x fun e => { e with freezeLow := n }
    if 4 ≤ n then
      (((s.modEq p x fun e => { e with freezeOff := true }).adaptTo p x adFine).raise (LPn_EQ_EVENTS_OVERRIDE p) 1, good)
    else (s, good)
  else (s, good)

/-- EQ_SNAPSHOT_TIMER (04 R144, 05 R185). -/
def execEqSnapshotTimer (p : Port) (x : Pair) (s : State) : Host.Outcome State Fault Refusal :=
  run s fun d => if d.on (LPn_EQ_STATUS_CONV p x) then d.snapshot p x else d

/-- RECOVER_TIMEOUT (04 R145, R146): after a takeover EQ_SLOW, after a snapshot restore a divergence; the pair is in FINE. -/
def execRecoverTimeout (p : Port) (x : Pair) (s : State) : Host.Outcome State Fault Refusal :=
  run s fun d =>
    if d.get (LPn_EQ_STATUS_ADAPT p x) = adRecover then
      let why := (d.eqOf p x).recover
      let d := (d.modEq p x fun e => { e with recover := 0 }).adaptTo p x adFine
      if why = 2 then d.diverged p x else d.raise (LPn_EQ_EVENTS_EQ_SLOW p) 1
    else d

/-- A write of LPn_EQ_CTRL acts on SW_FREEZE (04 R148): going to 1 freezes the pairs in FINE, going to 0 releases them. -/
def Dev.eqCtrlWritten (s : Dev) (p : Port) (old : Bool) : Dev :=
  let now := s.on (LPn_EQ_CTRL_SW_FREEZE p)
  if now = old then s
  else
    let s := s.each bothPairs fun s x => s.modEq p x fun e => { e with freezeOff := false }
    s.each bothPairs fun s x =>
      let st := s.get (LPn_EQ_STATUS_ADAPT p x)
      if now ∧ st = adFine then s.adaptTo p x adFine
      else if ¬ now ∧ st = adFrozen ∧ s.coreRuns then s.adaptTo p x (s.eqOf p x).frozeFrom
      else s.freezeRefresh p

/-- CDR_UPDATE (04 R127–R142, R151–R154, 05 R173–R184, 06 R218, 08 R301): a block of each pair that receives, and the block's
time of each that transmits training segments or a refresh burst. What pair B decides in training carries the channel. -/
def execCdrUpdate (p : Port) (a b : Option Blk) (s : State) : Host.Outcome State Fault Refusal :=
  run s fun d =>
    if 2 ≤ d.linkState p ∧ d.linkState p ≤ 5 then
      let l : List (Pair × Blk) := ((a.map fun b => (Pair.a, b)).toList ++ (b.map fun b => (Pair.b, b)).toList).filter
        fun e => d.powered p e.1
      let r := l.foldl (fun (r : Dev × List BlkOut) e =>
        let q := r.1.eqBlock p e.1 e.2
        (q.1, r.2 ++ q.2.toList)) ((d.each (txPairs (d.mode p)) fun d x => d.txBlock p x).linesIn p a b, [])
      let trains := d.acqState p == 6 || (d.acqState p == 5 && d.on (LPn_ACQ_STATUS_TRAIN_SK p))
      let heard := (r.2.filter fun e => trains && e.pair == .b).flatMap (·.syms)
      ((r.1.iff (heard != []) (·.channelRead p heard)).capBlock p r.2).phaseBlock p r.2
    else d

/-! ## Link metrics (04 R155–R158) -/

/-- METRIC_WINDOW_END (04 R155–R158): per-level and overall SNR of the pairs, BER_EST, and BER_MEAS of the bits that the inner
decoder has released in the window. -/
def execMetricWindowEnd (p : Port) (s : State) : Host.Outcome State Fault Refusal :=
  run s fun d =>
    let nrz := isNrz (d.mode p)
    let pairs := (d.rx p).filter (d.powered p ·)
    if pairs = [] then d
    else
      let free := 2 * d.draws
      let noise := fun (x : Pair) k => levelNoise (free + x.idx.val) (d.eqOf p x).met k
      let all := fun (x : Pair) => meanNoise (free + x.idx.val) nrz (d.eqOf p x).met
      let tails := sumNat (pairs.map fun x => sumNat ((levelsOf nrz).map fun k =>
        let n := noise x k
        let weight := if k = 0 ∨ k = 3 then 1 else 2
        weight * (if n.1 = 0 then 0 else gaussTail ((if nrz then 32768 else 8192) * 64 * n.2) n.1)))
      let est := logCode 100 0xFFFE (pairs.length * (if nrz then 2 else 8) * tailOne) tails
      let ber := (d.prt p).fec.ber
      let meas := if d.on (LPn_FEC_STATUS_INNER_ON p) then (if ber.1 = 0 then 0xFFFF else logCode 100 0xFFFE ber.2 ber.1) else 0
      let d := d.modFec p fun f => { f with ber := (0, 0) }
      let d := d.each pairs fun d x =>
        let code := fun k => if (levelsOf nrz).contains k then snrCode nrz (noise x k) else 0
        let d := (((d.set (LPn_SNR p x 3) (code 3)).set (LPn_SNR p x 2) (code 2)).set (LPn_SNR p x 1) (code 1)).set
          (LPn_SNR p x 0) (code 0)
        let d := d.set (LPn_EQ_STATUS_SNR_ALL p x) (snrCode nrz (all x))
        d.modEq p x fun e => { e with metDone := e.met, met := Vector.replicate 4 (0, 0) }
      ((d.set (LPn_BER_BER_EST p) est).set (LPn_BER_BER_MEAS p) meas).draw

/-! ## Eye-margin scan (04 R159–R162) -/

/-- The pair of an EYE_SCAN. -/
def eyePair (c : Desc) : Pair := if c.flag 16 3 then .b else .a

/-- Points of an EYE_SCAN; NRZ uses the centre threshold only (04 Table 4.3). -/
def eyePoints (c : Desc) (nrz : Bool) : Nat :=
  (eyeThresholds c nrz).length * (2 * c.bits 18 5 0 + 1) * (2 * c.bits 20 6 0 + 1)

/-- EYE_SCAN (04 R159, R162). -/
def execEyeScan (c : Desc) (s : State) : Host.Outcome State Fault Refusal :=
  run s fun d => d.descriptor c fun d c =>
    let p := Desc.port c
    let x := eyePair c
    let n := eyePoints c (isNrz (d.mode p))
    let ph := c.bits 17 4 0
    let v := c.bits 19 6 0
    let bad := !(d.rx p).contains x || ph == 0 || decide (16 < ph) || v == 0 || decide (64 < v) ||
      decide (10 < c.bits 21 3 0) || n == 0 || decide (64 < ph * c.bits 18 5 0) ||
      (c.length != 0 && c.length != 4 * n) || d.spanBad c c.length
    if bad then d.finish c stInvalid 0
    else if c.length = 0 then d.finish c stOk 0
    else if d.linkState p != 4 || decide ((d.adcOf p x).free.length < 2) then d.finish c stRefused 0
    else if (d.eqOf p x).eye.isSome then d.finish c stBusy 0
    else (d.modEq p x fun e => { e with eye := some { desc := c, pts := [] } }).park (.eyeScan p x) c

/-- EYE_SCAN_POINT_END (04 R160–R162): a point's count is recorded, unless a calibration step pauses the scan; after the last
point the results are written. A scan that a retirement leaves without a tail slice stays paused, since R162 ends it for a
takeover alone (DESIGN CHOICE, log entry 101). -/
def execEyeScanPointEnd (p : Port) (x : Pair) (s : State) : Host.Outcome State Fault Refusal :=
  run s fun d =>
    match (d.eqOf p x).eye with
    | none => d
    | some r =>
      if (d.adcOf p x).step.isSome ∨ (d.adcOf p x).free.length < 2 then d
      else
        let pts := r.pts ++ [r.hits]
        let d := d.modEq p x fun e => { e with eye := some { r with pts := pts, hits := 0, taken := 0 }, tail := [] }
        if eyePoints r.desc (isNrz (d.mode p)) ≤ pts.length then d.eyeEnd p x stOk else d

/-! ## Capture (04 R163–R168) -/

/-- CAPTURE_ADC (04 R163–R165). -/
def execCaptureAdc (c : Desc) (s : State) : Host.Outcome State Fault Refusal :=
  run s fun d => d.descriptor c fun d c =>
    let p := Desc.port c
    let src := c.bits 17 2 0
    let pairs := if src % 3 = 0 then [Pair.a] else if src % 3 = 1 then [.b] else [.a, .b]
    let st := d.get (LPn_CAP_STATUS_STATE p)
    let stopped := d.linkState p == 0 || d.linkState p == 6
    let m := if stopped then d.get (LPn_PORT_CFG_MODE p) else d.mode p
    if decide (6 ≤ src) || !(pairs.all fun x => (rxPairs m).contains x) then d.finish c stInvalid 0
    else if stopped then d.finish c stRefused 0
    else if st == 1 || st == 2 then d.finish c stBusy 0
    else
      let trig := c.bits 18 2 0
      let d := d.modCap p fun _ =>
        { source := src, trigger := trig, pre := c.bits 19 2 0, decim := c.bits 20 3 0, pc := c.bits 21 5 0
          fired := trig == 0, timeout := c.bytes 22 2 }
      let d := ((d.set (LPn_CAP_STATUS_STATE p) 1).set (LPn_CAP_STATUS_BLOCKS p) 0).set (LPn_CAP_STATUS_TRIG_BLOCK p) 0
      d.park (.capture p) c

/-- CAPTURE_TRIGGER (04 R164): the armed trigger's event has occurred; the part after it is stored from now on. -/
def execCaptureTrigger (p : Port) (s : State) : Host.Outcome State Fault Refusal :=
  run s fun d =>
    let c := (d.prt p).cap
    if d.get (LPn_CAP_STATUS_STATE p) = 1 ∧ c.fired then
      let d := (d.set (LPn_CAP_STATUS_STATE p) 2).modCap p fun c =>
        { c with left := (8 - c.pre) * (capShape c.source).1 / 8, trig := c.wr }
      (d.set (LPn_CAP_TIME_LO_TIME_LO p) (d.timebase % 2 ^ 32)).set (LPn_CAP_TIME_HI_TIME_HI p) (d.timebase / 2 ^ 32)
    else d

/-- CAPTURE_STOP (04 R164, R165): the part after the trigger has been stored. -/
def execCaptureStop (p : Port) (s : State) : Host.Outcome State Fault Refusal :=
  run s fun d =>
    let c := (d.prt p).cap
    if d.get (LPn_CAP_STATUS_STATE p) = 2 ∧ c.left = 0 then
      let n := c.trig - (c.wr - d.get (LPn_CAP_STATUS_BLOCKS p))
      let d := (d.set (LPn_CAP_STATUS_STATE p) 3).set (LPn_CAP_STATUS_TRIG_BLOCK p) n
      (d.flag (LPn_EQ_EVENTS_CAP_DONE p) true).wakeOne (.capture p) stOk n
    else d

/-- CAPTURE_TIMEOUT (04 R165): a capture with a Timeout of 0 waits without limit (Table 4.4). -/
def execCaptureTimeout (p : Port) (s : State) : Host.Outcome State Fault Refusal :=
  run s fun d =>
    let st := d.get (LPn_CAP_STATUS_STATE p)
    if (st = 1 ∨ st = 2) ∧ (d.prt p).cap.timeout ≠ 0 then (d.set (LPn_CAP_STATUS_STATE p) 4).wakeOne (.capture p) stTimeout 0 else d

/-- CAPTURE_READ (04 R166, R167): bytes of the stored image from its oldest byte, zeros beyond it. -/
def execCaptureRead (c : Desc) (s : State) : Host.Outcome State Fault Refusal :=
  run s fun d => d.descriptor c fun d c =>
    let p := Desc.port c
    let off := c.bytes 20 4
    let st := d.get (LPn_CAP_STATUS_STATE p)
    if decide (2097152 < off + c.length) || d.spanBad c c.length then d.finish c stInvalid 0
    else if c.length = 0 then d.finish c stOk 0
    else if st == 1 || st == 2 then d.finish c stBusy 0
    else
      let q := (d.prt p).cap
      let sh := capShape q.source
      let blocks := if st = 0 then 0 else d.get (LPn_CAP_STATUS_BLOCKS p)
      let image := blocks * sh.2
      let size := sh.1 * sh.2
      let m : MemId := Fin.ofNat 20 (12 + p.val)
      let start := ((q.wr - blocks) * sh.2 + off) % size
      let n := min c.length (image - off)
      let n1 := min n (size - start)
      let r1 := d.readMem m start n1 c.glitch
      let r2 := match r1.2.2 with
        | .failed => (r1.1, [], Attempt.failed)
        | _ => r1.1.readMem m 0 (n - n1) c.glitch
      let data := r1.2.1 ++ r2.2.1
      match Attempt.worse r1.2.2 r2.2.2 with
      | .failed =>
        let w := r2.1.putCounted c data
        w.1.finish c stMemUe w.2.2
      | t =>
        let w := r2.1.putCounted c (padBytes c.length data)
        w.1.finish c (statusOf (Attempt.worse t w.2.1)) w.2.2

end Sys2Proof.Machine
end

