-- ==== Sys2Proof/Machine/Fabric.lean ====
section
/-! DEFINITION. The self-timed fabric (02, 01 R24): boundaries and slack, the slack governor, SLIP faults, and the clocks of
the transmitters. -/

namespace Sys2Proof.Machine

open Reg

/-! ## The governor (02 R57–R66) -/

/-- The target code: the larger of the demand and VMIN_SW (02 R60, R57). -/
def Dev.govTarget (s : Dev) : Nat := max (s.get PWR_GOV_STATUS_VDEMAND) (min (s.get PWR_GOV_CTRL_VMIN_SW) 50)

/-- Whether a step down may be taken (02 R58, R59, R61). -/
def Dev.govMayFall (s : Dev) : Bool :=
  !s.gov.noDown && !s.on PWR_GOV_STATUS_AVS_FAULT && s.get PWR_GOV_CTRL_MODE != 1 &&
  !allPorts.any fun p => s.linkState p == lsLull

/-- OVER_SWMAX and its event, which only the demand sets (02 R60). -/
def Dev.govMaxCheck (s : Dev) : Dev :=
  let above := decide (min (s.get PWR_GOV_CTRL_VMAX_SW) 50 < s.get PWR_GOV_STATUS_VDEMAND)
  (s.flag PWR_GOV_STATUS_OVER_SWMAX above).iff above fun s => s.flag PWR_GOV_EVENTS_SW_MAX_EXCEEDED true

/-- The demand set, within the codes (02 R57). -/
def Dev.govDemand (s : Dev) (n : Nat) : Dev := (s.set PWR_GOV_STATUS_VDEMAND (min n 50)).govMaxCheck

/-- One step up asked for: one above the demand, and above the code that VMIN_SW may hold higher, so that it is a change of
the commanded code (02 R58, R59, R61). -/
def Dev.govUp (s : Dev) : Dev := s.govDemand (max (s.get PWR_GOV_STATUS_VDEMAND) (s.get PWR_GOV_STATUS_VCMD) + 1)

/-- An AVSBus Write of the Voltage data type issued to the selected rail, with the code's value in millivolts (02 R65, R57). -/
def Dev.avsIssue (s : Dev) (code : Nat) (retry : Bool) : Dev :=
  s.modGov fun g =>
    { g with cmd := code
             avs := some { code := code, retry := retry, rail := s.get PWR_GOV_AVS_RAIL, mv := 550 + 5 * code } }

/-- Whether a Write may be issued: none is in flight, and no fault makes it wait (02 R65, R66). -/
def Dev.avsFree (s : Dev) : Bool := s.gov.avs.isNone && !s.gov.avsWait

/-- Whether R59 allows a step now: none was issued within the last 2 µs. -/
def Dev.stepFree (s : Dev) : Bool :=
  match s.gov.stepAt with
  | none => true
  | some t => decide (t + 2000 ≤ s.timebase)

/-- A step to a neighbouring code issued now, and counted (02 R59, 14 Table 14.1). -/
def Dev.stepIssue (s : Dev) (code : Nat) (retry : Bool) : Dev :=
  let s := (s.avsIssue code retry).modGov fun g => { g with stepAt := some s.timebase }
  s.count (if s.get PWR_GOV_STATUS_VCMD < code then 0x03 else 0x04) 0

/-- One step toward the target, where R59, R65 and R66 allow it now (02 R60). -/
def Dev.govStep (s : Dev) : Dev :=
  if s.avsFree ∧ s.stepFree then
    let now := s.get PWR_GOV_STATUS_VCMD
    let t := s.govTarget
    if now < t then s.stepIssue (now + 1) false
    else if t < now ∧ s.govMayFall then s.stepIssue (now - 1) false
    else s
  else s

/-- A step up that a SLIP owes, at the earliest moment that R59 allows (02 R61). -/
def Dev.govSlipStep (s : Dev) : Dev :=
  if s.gov.slipStep ≠ 0 ∧ s.avsFree ∧ s.stepFree then (s.modGov fun g => { g with slipStep := g.slipStep - 1 }).govUp else s

/-- The governor goes on with what is due: a SLIP's step up, or a step toward the target (02 R60, R61). -/
def Dev.govRun (s : Dev) : Dev := s.govSlipStep.govStep

/-- A write of PWR_GOV_CTRL acts on the governor (02 R60). -/
def Dev.govWritten (s : Dev) : Dev := s.govMaxCheck.govRun

/-- The governor starts, after VDD_CORE_READY and on a reset that returns class S: it commands the larger of the present code
and VSTART, by a Write where that differs from the present code (02 R63, R65). -/
def Dev.govStart (s : Dev) : Dev :=
  let now := s.get PWR_GOV_STATUS_VCMD
  let n := max now (min (s.get PWR_GOV_CTRL_VSTART) 50)
  let s := (s.govDemand n).modGov fun g => { g with cmd := n, dwell := 0, avs := none, slipStep := 0, stepAt := none }
  s.iff (n != now) (·.avsIssue n false)

/-- One port's governor ceiling lowered by one (02 R62): it starts from the iteration limit in force, and 1 is the lowest. -/
def Dev.ceilLower (s : Dev) (p : Port) : Dev :=
  if s.on (LPn_FEC_STATUS_INNER_ON p) then
    let c := s.get (LPn_SLACK_GOV_CEIL p)
    let start := if c = 0 then s.iterLimit p else c
    if start ≤ 1 then s
    else
      let s := s.modGov fun g =>
        { g with ceilFrom := if c = 0 then g.ceilFrom.set p start else g.ceilFrom
                 ceilOrder := p :: g.ceilOrder.filter fun q => q != p }
      (s.set (LPn_SLACK_GOV_CEIL p) (start - 1)).iterRefresh p
  else s

/-- The ceilings of the ports that own a boundary below the low watermark lowered (02 R62). They are lowered in ascending
order, so that of several lowered at one moment the highest-numbered port's counts as the most recently lowered, which the
spec leaves open (DESIGN CHOICE, log entry 81). -/
def Dev.ceilLowerAll (s : Dev) : Dev := s.each s.gov.lowPorts (·.ceilLower ·)

/-- The intervals' decision on W (02 R58, Table 2.4). -/
def Dev.govDecide (s : Dev) (w : Nat) : Dev :=
  if w < 8 then
    let s := (s.flag PWR_GOV_EVENTS_SLACK_LOW true).inc PWR_GOV_COUNT_SLACK_LOW_COUNT
    (s.modGov fun g => { g with noDown := true, dwell := 0 }).govUp
  else if w < 16 then (s.modGov fun g => { g with dwell := 0 }).govUp
  else if w < 20 then s.modGov fun g => { g with dwell := 0 }
  else
    let n := 4 * (s.get PWR_GOV_CTRL_DOWN_DWELL + 1)
    let k := min (s.gov.dwell + 1) n
    if k = n ∧ s.govMayFall then
      (s.modGov fun g => { g with dwell := 0 }).govDemand (s.get PWR_GOV_STATUS_VDEMAND - 1)
    else s.modGov fun g => { g with dwell := k }

/-- The least slack that each watched boundary had in the interval, in the order of Table 2.1: of what was observed of its
buffer, and of its occupancy now (02 R47, R50). -/
def Dev.slacks (s : Dev) (seen : List FillObs) : List (Bound × Nat) :=
  ((List.finRange 64).filter (s.watched ·)).map fun b =>
    (b, minNat (s.slackAt b (s.gov.fill.get b)) ((seen.filter fun o => o.bound == b).map fun o => s.slackAt b o.worst))

/-- GOV_INTERVAL_END (02 R47–R50, R58–R62): what the interval has shown of the boundaries' buffers is recorded, every
boundary's current slack is reported, W is the least that a watched boundary has had, and the governor decides by Table 2.4.
Where several boundaries share W, WORST_ID names the lowest-numbered, and 0 where none is watched, which the spec leaves open
(DESIGN CHOICE, log entry 82). -/
def execGovIntervalEnd (seen : List FillObs) (s : State) : Host.Outcome State Fault Refusal :=
  run s fun d =>
    let d := d.each seen fun d o => d.setFill o.bound o.now
    let d := d.each (List.finRange 64) (·.slackRefreshOne ·)
    let l := d.slacks seen
    let w := minNat 63 (l.map (·.2))
    let id := ((l.find? fun e => e.2 == w).map (·.1.val)).getD 0
    let d := (d.set PWR_GOV_STATUS_WORST_SLACK w).set PWR_GOV_STATUS_WORST_ID id
    let d := d.sample 0x02 0 w
    let d := d.each allPorts fun d p =>
      let own := l.filter fun e => d.boundPort e.1 == some p
      if own = [] then d else d.sample 0x21 p (minNat 63 (own.map (·.2)))
    let d := d.each allLanes fun d k =>
      let own := l.filter fun e => 32 ≤ e.1.val && boundLane e.1 == k
      if own = [] then d else d.sample 0x50 k (minNat 63 (own.map (·.2)))
    let lull := allPorts.any fun p => d.linkState p == lsLull
    let d := d.flag PWR_GOV_STATUS_LULL_HOLD lull
    let low := allPorts.filter fun p => l.any fun e => decide (e.2 < 8) && d.boundPort e.1 == some p
    let at50 := d.get PWR_GOV_STATUS_VCMD == 50
    let d := d.modGov fun g =>
      { g with lowPorts := low
               lowering := decide (w < 8) && (g.lowering || (at50 && d.on PWR_GOV_STATUS_AT_CEILING)) }
    (d.govDecide w).govRun

/-- AVS_TRANSACTION_DONE (02 R66): success updates VCMD and clears the live fault, and what is due goes on; a first failure is
retried with the same Write. A second failure sets AVS_FAULT and logs its event. So does each lone transaction that fails while
AVS_FAULT is set, where the spec does not say whether it is logged again (DESIGN CHOICE, log entry 83). -/
def execAvsTransactionDone (ok : Bool) (s : State) : Host.Outcome State Fault Refusal :=
  run s fun d =>
    match d.gov.avs with
    | none => d
    | some w =>
      if ok then
        let faulty := d.on PWR_GOV_STATUS_AVS_FAULT
        let d := (d.set PWR_GOV_STATUS_VCMD w.code).modGov fun g => { g with avs := none, avsWait := false }
        let d := d.iff (w.retry && !faulty) fun d => d.inc PWR_GOV_COUNT_AVS_RETRY_COUNT
        (d.flag PWR_GOV_STATUS_AVS_FAULT false).govRun
      else if w.retry then
        ((d.modGov fun g => { g with avs := none, avsWait := true }).flag PWR_GOV_STATUS_AVS_FAULT true).raise
          PWR_GOV_EVENTS_AVS_FAULT 2
      else d.avsIssue w.code true

/-- AVS_FAULT_RETRY (02 R66): the next transaction carries the code that the rules then call for, with a step up that a SLIP
owes (R61); a step down waits for the fault to clear (R59). It is not retried within its millisecond. -/
def execAvsFaultRetry (s : State) : Host.Outcome State Fault Refusal :=
  run s fun d =>
    if d.on PWR_GOV_STATUS_AVS_FAULT ∧ d.gov.avsWait then
      let d := (d.modGov fun g => { g with avsWait := false }).govSlipStep
      let now := d.get PWR_GOV_STATUS_VCMD
      if now < d.govTarget ∧ d.stepFree then d.stepIssue (now + 1) true else d.avsIssue now true
    else d

/-- GOV_DOWN_HOLD_END (02 R58, R61). -/
def execGovDownHoldEnd (s : State) : Host.Outcome State Fault Refusal :=
  run s fun d => d.modGov fun g => { g with noDown := false }

/-- AT_CEILING (02 R62). -/
def execAtCeiling (s : State) : Host.Outcome State Fault Refusal :=
  run s fun d =>
    if d.get PWR_GOV_STATUS_VCMD = 50 ∧ d.get PWR_GOV_STATUS_WORST_SLACK < 8 ∧ ¬ d.on PWR_GOV_STATUS_AT_CEILING then
      (((d.flag PWR_GOV_STATUS_AT_CEILING true).raise PWR_GOV_EVENTS_CEILING 2).modGov fun g =>
        { g with lowering := true }).ceilLowerAll
    else d

/-- GOV_CEILING_LOWER (02 R62). -/
def execGovCeilingLower (s : State) : Host.Outcome State Fault Refusal :=
  run s fun d => if d.on PWR_GOV_STATUS_AT_CEILING ∧ d.gov.lowering then d.ceilLowerAll else d

/-- AT_CEILING_CLEAR (02 R62). -/
def execAtCeilingClear (s : State) : Host.Outcome State Fault Refusal :=
  run s fun d =>
    if d.on PWR_GOV_STATUS_AT_CEILING ∧ 8 ≤ d.get PWR_GOV_STATUS_WORST_SLACK then
      (d.flag PWR_GOV_STATUS_AT_CEILING false).modGov fun g => { g with lowering := false }
    else d

/-- GOV_CEILING_RAISE (02 R62): one raise in all, of the ceiling most recently lowered among those in force. -/
def execGovCeilingRaise (s : State) : Host.Outcome State Fault Refusal :=
  run s fun d =>
    if d.on PWR_GOV_STATUS_AT_CEILING then d
    else
      match d.gov.ceilOrder with
      | [] => d
      | p :: _ =>
        let c := d.get (LPn_SLACK_GOV_CEIL p) + 1
        if d.gov.ceilFrom.get p ≤ c then d.ceilNone p else (d.set (LPn_SLACK_GOV_CEIL p) c).iterRefresh p

/-! ## SLIP (02 R67–R73) -/

/-- A path's in-flight blocks are flushed and its output reader is placed anew (02 Table 2.6 steps 3 and 4): in the receive
path's inner decoder the unreleased blocks keep their places in the chain (07 R250) with nothing known of their symbols, their
soft state is cleared, and the two released blocks say nothing until they leave the window (07 R258). The set latency is
taken again. -/
def Dev.slipFlush (s : Dev) (p : Port) (rx : Bool) : Dev :=
  let empty := fun (l : List (Int × Bool)) => l.map fun e => (e.1, true)
  if rx then (s.modFec p fun f =>
    { f with flushed := 2, msg := [], fresh := empty f.fresh, win := f.win.map fun b => { b with ys := empty b.ys } }).recentreRx p
  else s

/-- The bits that take the place of n samples in a mode that carries no codewords: the pattern 0b1100, its leftmost bit first
(02 R69; DESIGN CHOICE, log entry 84). -/
def slipPattern (n : Nat) : List Bool := (List.range n).map fun k => k % 4 < 2

/-- The substitute samples of a SLIP (02 R68, R69): they stand in the stream for the samples that an input buffer could not
take or an output buffer could not give; an ADC's pass through the pair's equaliser. -/
def Dev.slipSubst (s : Dev) (p : Port) (b : Bound) (n : Nat) : Dev :=
  let s := s.iff (b.val < 32 && b.val % 4 < 2) fun s =>
    s.modEq p (boundPair b) fun e => { e with subst := e.subst + n }
  s.iff (isNrz (s.mode p)) fun s =>
    let bits := slipPattern (if b.val % 4 < 2 ∧ b.val < 32 then n / perSymbol (s.mode p) else n)
    s.modPort p fun q => if boundRx b then { q with slipBits := bits } else { q with slipBitsTx := bits }

/-- SLIP (02 R61, R67–R73): a watched boundary's buffer is full at its writer or empty at its reader, for n samples. In data
mode substitution and marking begin; in acquisition and training the path re-centres and the SLIP is counted. -/
def execSlip (b : Bound) (n : Nat) (s : State) : Host.Outcome State Fault Refusal :=
  run s fun d =>
    match d.boundPort b with
    | none => d
    | some p =>
      if d.watched b then
        let rx := boundRx b
        let d := (d.count 0x20 p).fireCapture p 1
        let d := (d.setFill b (if boundInput b then bufferDepth else 0)).slackRefreshOne b
        let d := d.each (d.rx p) (·.disturbCal p ·)
        let d := (d.slipSubst p b n).slipFlush p rx
        let d := (d.modGov fun g => { g with slipStep := g.slipStep + 1, noDown := true }).govRun
        if d.linkState p = lsUp then
          let r : SlipRun := { src := boundSrc b, data := true, marked := 0, subst := n }
          d.modPort p fun q => if rx then { q with slipRx := q.slipRx ++ [r] } else { q with slipTx := q.slipTx ++ [r] }
        else d.inc (LPn_SLIP_SLIP_COUNT p)
      else d

/-- SLIP_COMPLETE (02 R71, R72): the SLIP in data mode that has run longest on the path is counted and logged. -/
def execSlipComplete (p : Port) (rx : Bool) (s : State) : Host.Outcome State Fault Refusal :=
  run s fun d =>
    let q := d.prt p
    match if rx then q.slipRx else q.slipTx with
    | [] => d
    | r :: l => (d.modPort p fun q => if rx then { q with slipRx := l } else { q with slipTx := l }).slipDone p r

/-! ## Transmit clocks (01 R24) -/

/-- TIMING_SOURCE_LOCK (01 R24): a transmitter on its reference clock begins its return; while the host is lost the line
transmitters stay on theirs (06 R229). -/
def execTimingSourceLock (x : TxSel) (s : State) : Host.Outcome State Fault Refusal :=
  run s fun d =>
    match x with
    | .line p =>
      if (d.prt p).tx.onRef ∧ ¬ d.on (LPn_TX_STATUS_HOST_LOST p) then d.modTx p fun t => { t with returning := true } else d
    | .host l => if (d.lane.get l).onRef then d.modLane l fun h => { h with returning := true } else d

/-- TX_CLOCK_RETURN_DONE (01 R24, 02 R53): the transmitter is on its recovered clock and the path re-centres. -/
def execTxClockReturnDone (x : TxSel) (s : State) : Host.Outcome State Fault Refusal :=
  run s fun d =>
    match x with
    | .line p =>
      if (d.prt p).tx.returning then d.modTx p fun t => { t with returning := false, onRef := false } else d
    | .host l =>
      if (d.lane.get l).returning then
        let d := d.modLane l fun h => { h with returning := false, onRef := false }
        match d.groupOf l with
        | some p => d.recentreRx p
        | none => d
      else d

end Sys2Proof.Machine
end

