-- ==== Sys2Proof/Machine/PortSeq.lean ====
section
/-! DEFINITION. The sequences of a port that several commands share: start, stop, retrain, port reset (09 R325–R329), the
default lane map (10 R646), and the wake from Lull (09 R340, R341). -/

namespace Sys2Proof.Machine

open Reg

/-! ## Lane map (01 R32, 10 R646) -/

/-- A lane put into a group at a position, or into none, where its tests end (10 R373); the groups it leaves and joins are
no longer aligned, its equaliser state is lost (R354), and its states follow Tables 10.2 and 10.3. -/
def Dev.putLane (s : Dev) (l : Lane) (g : Option (Nat × Nat)) : Dev :=
  let now := if s.on (HLn_MAP_VALID l) then some (s.get (HLn_MAP_PORT l), s.get (HLn_MAP_POS l)) else none
  if now = g then s
  else
    let s := match s.groupOf l with
      | some p => s.iff (s.groupAligned p) (·.groupLost p)
      | none => s
    let s := match g with
      | some (p, k) =>
        let s := s.iff (s.groupAligned (Fin.ofNat 8 p)) (·.groupLost (Fin.ofNat 8 p))
        ((s.flag (HLn_MAP_VALID l) true).set (HLn_MAP_PORT l) p).set (HLn_MAP_POS l) k
      | none =>
        let s := ((s.flag (HLn_MAP_VALID l) false).set (HLn_MAP_PORT l) 0).set (HLn_MAP_POS l) 0
        s.testsEnd l
    let s := (s.flag (HLn_STATUS_ALIGNED l) false).modLane l fun h => { h with warm := none }
    let s := s.iff (now.map (·.1) != g.map (·.1)) fun s => s.modLane l fun h => { h with rateChange := false }
    s.laneRefresh l

/-- A port's group by the default map and the arrangement stored for it: both lanes, or the even one alone (10 R646). -/
def Dev.mapStored (s : Dev) (p : Port) : Dev :=
  let n := s.get (LPn_PORT_CFG_LANES p)
  let one := s.get (LPn_PORT_CFG_MODE p) != 0 && n == 1
  (s.putLane (Fin.ofNat 16 (2 * p.val)) (some (p.val, 0))).putLane (Fin.ofNat 16 (2 * p.val + 1))
    (if one then none else some (p.val, 1))

/-- The group of a stopped port under the default map (10 R646). -/
def Dev.mapDefault (s : Dev) (p : Port) : Dev :=
  if s.host.defaultMap ∧ s.linkState p = 0 then s.mapStored p else s

/-! ## Start (09 R325, 06 Table 6.3) -/

/-- Settings read at PORT_START and PORT_RETRAIN (04 R134, 06 R225, 07 R237, 09 R324). -/
def Dev.readSettings (s : Dev) (p : Port) : Dev :=
  let s := s.modLink p fun l =>
    { l with inner := s.on (LPn_PORT_CFG_INNER p)
             eqSet := (s.get (LPn_EQ_CTRL_TAPS p), s.get (LPn_EQ_CTRL_MAIN_POS p), s.on (LPn_EQ_CTRL_DET_SEL p))
             term := (s.on (LPn_PORT_CFG_TERM_RX p), s.on (LPn_PORT_CFG_TERM_TX p)) }
  (s.termRefresh p).txStartTaps p

/-- Hybrid codes of a pair put in use (05 R175, R176). -/
def Dev.setHybrid (s : Dev) (p : Port) (x : Pair) (r c : Nat) : Dev :=
  (s.set (LPn_HYB_CTRL_HYB_R_USED p x) r).set (LPn_HYB_CTRL_HYB_C_USED p x) c

/-- The group's lanes take the rate of an arrangement: those that are OFF as they next leave it (10 R647), others by a rate
change (10 R355). -/
def Dev.lanesTake (s : Dev) (p : Port) (rate : Nat) : Dev :=
  let s := s.each ((s.group p).filter fun (l : Lane) => s.get (HLn_STATUS_TXS l) == 0) fun s l =>
    (s.set (HLn_STATUS_RATE l) rate).modLane l fun h => { h with warm := none }
  s.rateChange p rate

/-- A port enters STARTING (09 R325): start-up calibration is under way and the driver on its way, in the settings in force. -/
def Dev.portStarting (s : Dev) (p : Port) : Dev :=
  let l := (s.prt p).link
  let s := s.modTx p fun t => { t with driver := false, delay := false, stopping := false, quenchLf := false }
  let s := s.set (LPn_ACQ_STATUS_ACQ_STATE p) 1
  let s := (s.modLink p fun l => { l with mode := l.cfgMode }).termRefresh p
  let s := s.each (rxPairs l.cfgMode) fun s x => (s.set (LPn_RXFE_STATUS_GAIN p x) 48).adaptTo p x adPreset
  let s := match rateOf l.cfgMode l.lanes with
    | some r => s.lanesTake p r
    | none => s
  s.linkTo p lsStarting

/-- The taps kept in the coefficient store in use again (06 R226). -/
def Dev.txRestore (s : Dev) (p : Port) : Dev :=
  s.each bothPairs fun s x =>
    match (s.txPairOf p x).stored with
    | some (t, main) => s.modTxPair p x fun q => { q with taps := t, main := main }
    | none => s

/-- A port that was started when it dozed starts again (16 R548): in the settings in force as it dozed, none read afresh
(06 R225), with its taps restored. -/
def Dev.portWake (s : Dev) (p : Port) : Dev := (s.txRestore p).portStarting p

/-- A port starts (09 R325) with the settings that PORT_START reads, and with the hybrid codes written or, under HYB_AUTO, those
that a search has stored (05 R175, R176, R203). A REQUALIFY that waits ends, since the port is no longer
stopped (DESIGN CHOICE, log entry 90). -/
def Dev.portStartGo (s : Dev) (p : Port) : Dev :=
  let s := s.wakeAll (fun w => w == .adcRequal p) stAborted
  let m := s.get (LPn_PORT_CFG_MODE p)
  let n := s.get (LPn_PORT_CFG_LANES p)
  let s := s.modLink p fun l => { l with cfgMode := m, lanes := n, mode := m, lullNs := 0 }
  let s := s.readSettings p
  let s := (s.set (LPn_LINK_STATUS_LAST_DOWN p) 0).set (LPn_FD_STATUS_LAST_REASON p) 0
  let s := (s.flag (LPn_ADC_CAL_STATUS_REHOLD_BLOCK p) false).modFd p fun f => { f with attempts := 0, fallback := false }
  let s := s.each bothPairs fun s x =>
    if !s.on (LPn_FD_CTRL_HYB_AUTO p) then s.setHybrid p x (s.get (LPn_HYB_CTRL_HYB_R p x)) (s.get (LPn_HYB_CTRL_HYB_C p x))
    else
      match (s.echoOf p x).stored with
      | some e => if e.hybAuto then s.setHybrid p x e.hyb.1 e.hyb.2 else s
      | none => s
  s.portStarting p

/-- A port starts, and the PORT_START that asked for it completes or waits for UP (09 R325). -/
def Dev.startAndWait (s : Dev) (p : Port) (c : Desc) : Dev :=
  let s := s.iff (s.linkState p == 0 || s.linkState p == 7) (·.portStartGo p)
  if c.flag 17 0 then s.park (.portUp p) c else s.finish c stOk 0

/-- A probe has ended: each PORT_START that waited for it starts the port (05 R211). -/
def Dev.probeEnded (s : Dev) (p : Port) : Dev :=
  let s := s.modFd p fun f => { f with diag := false }
  let l := s.waits.filter fun w => w.1 == WaitKind.startProbe p
  { s with waits := s.waits.filter fun w => w.1 != WaitKind.startProbe p }.each l fun s w => s.startAndWait p w.2

/-! ## Stop (09 R326, R328, 06 R233) -/

/-- A port reset's effect on a port at rest (00 R16): class P registers, and the state of the port that they stand for. During a
Quench it leaves the transmitters as they are (06 R235). -/
def Dev.portReset (s : Dev) (p : Port) : Dev :=
  let held : List (Fld × Nat) := if s.quenching then
      [LPn_TX_STATUS_TXS_A p, LPn_TX_STATUS_TXS_B p, LPn_TX_STATUS_DRV_EN p].map fun f => (f, s.get f)
    else []
  let s := (s.portClassP p).each held fun s e => s.set e.1 e.2
  let s := s.modPort p fun q =>
    { q with cap := {}, fd := {}, fec := {}, acq := {}, lmc := {}, link := {}, slips := [], slipRx := [], slipTx := []
             slipBits := [], slipBitsTx := [], hostBits := [], fill := {}
             tx := { quenchLf := q.tx.quenchLf && held != [], fill := q.tx.fill,
                     pair := q.tx.pair.map fun t => { taps := t.taps, main := t.main, stored := t.stored } } }
  let s := { s with mdio := { s.mdio with linkLow := s.mdio.linkLow.set p false } }
  ((s.calRefresh p).txRefresh p).ceilNone p

/-- A port comes to STOPPED: state stored, every loop OFF, the driver down, no governor ceiling. -/
def Dev.portDown (s : Dev) (p : Port) : Dev :=
  let s := (s.storePort p).captureAbort p
  let s := s.modTx p fun t => { t with driver := false, delay := false, stopping := false, quenchLf := false }
  let s := ((s.portIdle p).ceilNone p).modLink p fun l => { l with stopping := none }
  (s.linkTo p lsStopped).mapDefault p

/-- What completes when a port has stopped (09 R326, R328, 13 R446). -/
def Dev.stopped (s : Dev) (p : Port) (k : StopKind) : Dev :=
  let s := s.portDown p
  match k with
  | .stop | .retrain | .doze | .softReset => s.wakeAll (fun w => w == .portStop p) stOk
  | .reset => (s.portReset p).wakeAll (fun w => w == .portStop p || w == .portReset p) stOk
  | .mdioReset =>
    let s := (s.portReset p).wakeAll (fun w => w == .portStop p || w == .portReset p) stOk
    s.modLink p fun l => { l with mdioReset := false }

/-- Of two reasons to stop, the one that does more. -/
def StopKind.rank : StopKind → Nat
  | .retrain => 0
  | .stop => 1
  | .doze => 2
  | .reset => 3
  | .mdioReset => 4
  | .softReset => 5

/-- The transmitters stop (06 R233): SQUELCH for 1 µs, or the port is at rest at once where its driver is down. Gives whether
the port has stopped. -/
def Dev.stopSquelch (s : Dev) (p : Port) (k : StopKind) : Dev × Bool :=
  if (s.prt p).tx.driver ∧ ¬ s.quenching then
    (((s.modTx p fun t => { t with stopping := true }).modLink p fun l => { l with stopping := some k }).txRefresh p, false)
  else (s.stopped p k, true)

/-- A stop begins (09 R326–R329): descriptors that wait on the link end, the notice goes out, then the transmitters stop. A
stop in progress goes on with the stronger of the two reasons. Gives whether the port has stopped already. -/
def Dev.stopBegin (s : Dev) (p : Port) (k : StopKind) (noNotice : Bool) : Dev × Bool :=
  let s := (s.abortWaits p false).wakeAll (fun w => w == .portRetrain p) stAborted
  match (s.prt p).link.stopping with
  | some k0 =>
    let k := if k0.rank < k.rank then k else k0
    let s := s.modLink p fun l => { l with stopping := some k }
    if noNotice ∧ ¬ (s.prt p).tx.stopping then s.stopSquelch p k else (s, false)
  | none =>
    let heard := s.on (LPn_ACQ_STATUS_SUBCH_ON p) ||
      (s.linkState p == lsTraining && s.on (LPn_ACQ_STATUS_PARTNER_SK p))
    if !noNotice && heard then
      ((s.lmcQueue p mtNotice (pay 3 ++ pay 0)).1.modLink p fun l => { l with stopping := some k }, false)
    else s.stopSquelch p k

/-! ## Wake from Lull (09 R340, R341, R343) -/

/-- The transmitter of a port in Skellia Lull wakes: wake word, wake segments, then data with a fresh chain (Table 9.7). -/
def Dev.lullWake (s : Dev) (p : Port) : Dev :=
  if s.linkState p = lsLull ∧ ¬ s.on (LPn_LINK_STATUS_LULL_KIND p) then
    if (s.prt p).link.wakeSent = 0 then
      (((s.modLink p fun l => { l with wakeSent := 1 }).sendWake p).modTx p fun t => { t with idle := false, data := true }).txRefresh p
    else s
  else
    -- a cause between the request and ENTER_AT (R342)
    s.iff ((s.prt p).link.enter.isSome || (s.prt p).link.reqKind != 0) fun s =>
      s.modLink p fun l => { l with wakePending := true }

/-! ## Retrain (09 R319, R327) -/

/-- A retrain's action: settings read again, counts of full-duplex attempts forgotten, and the port searches; what was up or
in Lull is a link loss with reason 8. -/
def Dev.retrainGo (s : Dev) (p : Port) : Dev :=
  let s := s.modLink p fun l => { l with stopping := none }
  let ls := s.linkState p
  if 2 ≤ ls ∧ ls ≤ 5 then
    let s := (s.readSettings p).modFd p fun f => { f with attempts := 0, fallback := false }
    let s := s.iff (s.get (LPn_FD_STATUS_FDS p) == 7) fun s => s.set (LPn_FD_STATUS_FDS p) 0
    let s := if ls = lsUp ∨ ls = lsLull then s.linkLoss p 8 else s.toSearch p
    let w := s.waits.filter fun w => w.1 == .portRetrain p
    let s := { s with waits := s.waits.filter fun w => w.1 != WaitKind.portRetrain p }
    s.each w fun s w => if w.2.flag 17 0 then s.park (.portUp p) w.2 else s.finish w.2 stOk 0
  else s.wakeAll (fun w => w == .portRetrain p) stAborted

/-- A retrain begins: descriptors that wait on the link end; where the sub-channel runs the notice goes out first, in Lull
after the wake. -/
def Dev.retrainBegin (s : Dev) (p : Port) (notice : Bool) : Dev :=
  let s := s.abortWaits p true
  if notice ∧ s.on (LPn_ACQ_STATUS_SUBCH_ON p) then
    ((s.lullWake p).lmcQueue p mtNotice (pay 4 ++ pay 1)).1.modLink p fun l => { l with stopping := some .retrain }
  else s.retrainGo p

end Sys2Proof.Machine
end

