-- ==== Sys2Proof/Machine/FullDuplex.lean ====
section
/-! DEFINITION. Full-duplex start-up and cable diagnostics (05 R169–R212). -/

namespace Sys2Proof.Machine

open Reg

/-! ## Hybrid search and far-echo search (05 R175, R180) -/

/-- The far-echo search of a pair begins, once in a start-up, where SPARSE_AUTO asks for it. -/
def Dev.sparseBegin (s : Dev) (p : Port) (x : Pair) : Dev :=
  if s.on (LPn_FD_CTRL_SPARSE_AUTO p) ∧ ¬ (s.echoOf p x).searched then
    s.modEcho p x fun e => { e with search := some (0, []), taps := { e.taps with win := Vector.replicate 128 0 } }
  else s

/-- The training of a pair's cancellers begins as its transmitter runs alone for the first time: the hybrid search, then the
far-echo search; a warm start skips both (05 R175, R180, R204). -/
def Dev.hybridBegin (s : Dev) (p : Port) (x : Pair) : Dev :=
  let s := s.modEcho p x fun e => { e with erle := (0, 0, 0), prevErle := none }
  if (s.echoOf p x).searched then s
  else if s.on (LPn_FD_CTRL_HYB_AUTO p) then
    (s.modEcho p x fun e => { e with hyb := some (0, 0, 0) }).setHybrid p x 0 3
  else s.sparseBegin p x

/-- HYBRID_TRIAL_END (05 R175): eight trials of HYB_R at HYB_C code 3, then eight of HYB_C at the best HYB_R; the lowest mean
square wins, the first of equals. -/
def execHybridTrialEnd (p : Port) (x : Pair) (meanSq : Nat) (s : State) : Host.Outcome State Fault Refusal :=
  run s fun d =>
    match (d.echoOf p x).hyb with
    | none => d
    | some (t, best, ms) =>
      let b := if t % 8 = 0 ∨ meanSq < ms then (t % 8, meanSq) else (best, ms)
      let r := d.get (LPn_HYB_CTRL_HYB_R_USED p x)
      let put := fun (d : Dev) (h : Option (Nat × Nat × Nat)) => d.modEcho p x fun e => { e with hyb := h }
      if t < 7 then (put d (some (t + 1, b.1, b.2))).setHybrid p x (t + 1) 3
      else if t = 7 then (put d (some (8, b.1, b.2))).setHybrid p x b.1 0
      else if t < 15 then (put d (some (t + 1, b.1, b.2))).setHybrid p x r (t + 1 - 8)
      else ((put d none).setHybrid p x r b.1).sparseBegin p x

/-- The place for a window whose peak is given: START = peak − 16, moved by the least amount that clears the windows placed
and the limits; of two moves as long, the later delay (05 R180). -/
def placeWindow (limit : Nat) (placed : List Nat) (peak : Nat) : Option Nat :=
  let good := fun (st : Int) => decide (768 ≤ st) && decide (st + 31 ≤ limit) &&
    placed.all fun q => decide (st + 31 < q) || decide ((q : Int) + 31 < st)
  (List.range 300).findSome? fun k =>
    let up : Int := (peak : Int) - 16 + k
    let down : Int := (peak : Int) - 16 - k
    if good up then some up.toNat else if good down then some down.toNat else none

/-- The windows that a far-echo search places: the four largest peaks of at least 0.25 LSB, in the order of their delays. -/
def placeWindows (limit : Nat) (peaks : List (Nat × Nat × Nat)) : List (Bool × Nat) :=
  let l := peaks.filter fun e => 64 ≤ e.2.2
  let rank := fun (e : Nat × Nat × Nat) =>
    (l.filter fun f => decide (e.2.2 < f.2.2) || (f.2.2 == e.2.2 && decide (f.1 < e.1))).length
  let placed := (l.filter fun e => rank e < 4).foldl (init := ([] : List Nat)) fun q e =>
    match placeWindow limit q e.2.1 with
    | some st => q ++ [st]
    | none => q
  (List.range 4).map fun i => match placed[i]? with
    | some st => (true, st)
    | none => (false, 0)

/-- SPARSE_SEARCH_SEGMENT_END (05 R180): the peaks of the segments dwelt on are kept, and the four windows move on; after the
last whole segment below the limit they are placed. -/
def execSparseSearchSegmentEnd (p : Port) (x : Pair) (s : State) : Host.Outcome State Fault Refusal :=
  run s fun d =>
    match (d.echoOf p x).search with
    | none => d
    | some (seg, peaks) =>
      let limit := windowLimit (d.mode p)
      let win := (d.echoOf p x).taps.win.toList
      let found := (List.range 4).filterMap fun w =>
        let st := 768 + 32 * (seg + w)
        if st + 31 ≤ limit then
          let l := ((win.drop (32 * w)).take 32).map fun v => (tapVal 8 v).natAbs
          let top := maxNat l
          some (seg + w, st + (l.findIdx? (· == top)).getD 0, top)
        else none
      let clear := fun (e : Echo) => { e with taps := { e.taps with win := Vector.replicate 128 0 } }
      let peaks := peaks ++ found
      if 768 + 32 * (seg + 4) + 31 ≤ limit then
        d.modEcho p x fun e => { clear e with search := some (seg + 4, peaks) }
      else
        let d := d.modEcho p x fun e => { clear e with search := none, searched := true }
        (d.putWindows p x (placeWindows limit peaks)).sparseRefresh p

/-! ## Start-up (05 R187–R200, Table 5.6) -/

/-- Which transmitters' DACs run in a phase (05 Table 5.5). -/
def Dev.fdDacs (s : Dev) (p : Port) (a b : Bool) : Dev :=
  ((s.modTxPair p .a fun t => { t with dacOff := !a }).modTxPair p .b fun t => { t with dacOff := !b }).txRefresh p

/-- Whether a start-up begins warm on a pair (05 R204). -/
def Dev.echoWarm (s : Dev) (p : Port) (x : Pair) : Option EchoStored :=
  match (s.echoOf p x).stored with
  | some e => if s.on (LPn_FD_CTRL_ECHO_WARM p) ∧ e.mode = s.mode p ∧ e.hybAuto then some e else none
  | none => none

/-- A pair's cancellers begin RAW (05 R204, Table 5.4); the snapshot stays (R203), and the hybrid codes change in a search alone
(R176). -/
def Dev.echoBegin (s : Dev) (p : Port) (x : Pair) : Dev :=
  let w := s.echoWarm p x
  let old := s.echoOf p x
  let s := s.modEcho p x fun _ =>
    { taps := (w.map (·.taps)).getD {}, stored := old.stored, snap := old.snap, searched := w.isSome, frozeFrom := ecRaw }
  let s := match w with
    | some e => s.putWindows p x e.wins
    | none => s.windowCheck p x
  s.set (LPn_FD_STATUS_ECHO p x) (if s.coreRuns then ecRaw else ecFrozen)

/-- Full-duplex start-up begins in BASE (05 R187, R188, Table 5.6 step 2). -/
def Dev.fdBegin (s : Dev) (p : Port) (m : Nat) (leader : Bool) : Dev :=
  let s := s.resolve p m false
  let s := (s.set (LPn_ACQ_STATUS_ACQ_STATE p) 6).set (LPn_FD_STATUS_FDS p) 1
  let s := (s.flag (LPn_FD_STATUS_ROLE p) leader).modAcq p fun a => { a with leader := some leader }
  let s := s.modFd p fun f => { attempts := f.attempts, fallback := f.fallback, fallMode := f.fallMode, diag := f.diag }
  let s := (s.set (LPn_CDR_STATUS_PHASE_A p) 0).each bothPairs fun s x => s.echoBegin p x
  let s := s.iff (s.get (LPn_RXFE_STATUS_AGC p .a) == agcOff) fun s => s.agcTo p .a agcFast
  let s := s.iff (s.get (LPn_EQ_STATUS_ADAPT p .a) == adOff) fun s => (s.adaptTo p .a adPreset).cdrStart p .a
  -- PRESET stops the cancellers (05 Table 5.4), so RAW stands after it
  let s := s.set (LPn_FD_STATUS_ECHO p .a) (if s.coreRuns then ecRaw else ecFrozen)
  let s := s.linkTo p lsTraining
  (((s.fdDacs p true false).hybridBegin p .a).sparseRefresh p)

/-- FD_READY's payload (05 Table 5.7). -/
def Dev.fdReadyBytes (s : Dev) (p : Port) : List Byte :=
  pay (s.get (LPn_FD_CTRL_QUIET_LEN p)) ++ pay (s.get (LPn_FD_STATUS_ERLE p .a)) ++
  pay (s.get (LPn_EQ_STATUS_SNR_ALL p .b)) ++
  pay (8 * s.get (LPn_HYB_CTRL_HYB_R_USED p .a) + s.get (LPn_HYB_CTRL_HYB_C_USED p .a))

/-- BASE goes on: FD_READY once pair B has acquired and pair A's echo has converged; FD_QUIET from the leader once both have
said so (05 Table 5.6 steps 2 and 3). -/
def Dev.fdBaseCheck (s : Dev) (p : Port) : Dev :=
  if s.acqState p = 6 ∧ s.get (LPn_FD_STATUS_FDS p) = 1 then
    let f := (s.prt p).fd
    let due := !f.readySent && (f.acq.get 1).2 && (s.echoOf p .a).conv
    let s := s.iff due fun s =>
      ((s.lmcQueue p mtFdReady (s.fdReadyBytes p)).1.modFd p fun f => { f with readySent := true, quietSent := s.get (LPn_FD_CTRL_QUIET_LEN p) })
    match (s.prt p).fd.partner with
    | some q =>
      if (s.prt p).fd.readySent ∧ (s.prt p).fd.winLen = 0 then
        let len := 250 * (max q (s.prt p).fd.quietSent + 1)
        let s := s.modFd p fun f => { f with winLen := len }
        s.iff (s.on (LPn_FD_STATUS_ROLE p)) fun s => (s.lmcQueue p mtFdQuiet (bytesOf 2 len)).1
      else s
    | none => s
  else s

/-- Data mode once FD_CONFIRM has been sent and received (05 Table 5.6 steps 8 and 9). -/
def Dev.fdJoinCheck (s : Dev) (p : Port) : Dev :=
  let f := (s.prt p).fd
  if s.acqState p = 6 ∧ s.get (LPn_FD_STATUS_FDS p) = 4 then
    let due := !f.confSent && (f.acq.get 0).2 && (f.acq.get 1).2
    let s := s.iff due fun s =>
      (s.lmcQueue p mtFdConfirm (pay (s.get (LPn_EQ_STATUS_SNR_ALL p .a)) ++ pay (s.get (LPn_EQ_STATUS_SNR_ALL p .b)) ++
        pay (s.get (LPn_FD_STATUS_ERLE p .b)) ++ bytesOf 2 (s.get (LPn_FD_SKEW_SKEW p)))).1.modFd p fun f =>
          { f with confSent := true }
    if (s.prt p).fd.confSent ∧ (s.prt p).fd.confGot then (((s.txToData p).rxToData p).enterData p) else s
  else s

/-- ERLE_WINDOW_END (05 R186): ERLE in raw training, and convergence of the pair's echo by two windows in a row. During the
hybrid search the cancellers do not train yet, and no window is measured (R189, Table 5.6). -/
def execErleWindowEnd (p : Port) (x : Pair) (s : State) : Host.Outcome State Fault Refusal :=
  run s fun d =>
    if d.get (LPn_FD_STATUS_ECHO p x) = ecRaw ∧ (d.echoOf p x).hyb.isNone then
      let e := d.echoOf p x
      let now := e.erle.2
      let floor : Int := d.get (LPn_FD_CTRL_ERLE_MIN p)
      let good := fun (w : Nat × Nat) => ratioAtLeast w.1 w.2 floor 40
      let near := fun (a b : Nat × Nat) =>
        !ratioAtLeast (a.1 * b.2) (a.2 * b.1) 1 20 && !ratioAtLeast (a.2 * b.1) (a.1 * b.2) 1 20
      let conv := match e.prevErle with
        | some w => good w && good now && near w now
        | none => false
      let d := d.modEcho p x fun e => { e with erle := (0, 0, 0), prevErle := some now, conv := e.conv || conv }
      (d.set (LPn_FD_STATUS_ERLE p x) (logCode 40 255 now.1 now.2)).fdBaseCheck p
    else d

/-- FD_READY (05 R195). -/
def execFdReady (p : Port) (f : Frame) (quietLen _erleA _snrB _hybA : Nat) (s : State) : Host.Outcome State Fault Refusal :=
  run s fun d =>
    if d.acqState p = 6 then
      let r := d.lmcAccept p mtFdReady f
      if r.2 then (r.1.modFd p fun f => { f with partner := some (min quietLen 15) }).fdBaseCheck p else r.1
    else d

/-- FD_QUIET (05 R189): the leader's frame has been sent, or the follower has received it; the leader window will start. -/
def execFdQuiet (p : Port) (got : Option Frame) (_len : Nat) (s : State) : Host.Outcome State Fault Refusal :=
  run s fun d =>
    if d.acqState p = 6 then
      let lead := d.on (LPn_FD_STATUS_ROLE p)
      let r := match got with
        | some f => d.lmcAccept p mtFdQuiet f
        | none => (d, true)
      let d := r.1
      if r.2 && (got.isNone == lead) && d.get (LPn_FD_STATUS_FDS p) == 1 && (d.prt p).fd.winLen != 0 then
        d.modFd p fun f => { f with quiet := true }
      else d
    else d

/-- A quiet window starts (05 Table 5.5, R183, R192, R193): in this side's own both pairs send and pair B's echo trains; in
the partner's both are off and pair A meets its correlation hit. -/
def Dev.fdWindow (s : Dev) (p : Port) (fds : Nat) : Dev :=
  let s := (s.set (LPn_FD_STATUS_FDS p) fds).modFd p fun f => { f with inWin := true }
  if s.ownWindow p then (s.fdDacs p true true).hybridBegin p .b
  else
    let s := s.fdDacs p false false
    (s.agcTo p .a agcFrozen).adaptTo p .a adCoarse

/-- FD_WINDOW_START (05 R189): the leader window. -/
def execFdWindowStart (p : Port) (s : State) : Host.Outcome State Fault Refusal :=
  run s fun d =>
    if d.acqState p = 6 ∧ d.get (LPn_FD_STATUS_FDS p) = 1 ∧ (d.prt p).fd.quiet then d.fdWindow p 2 else d

/-- FD_WINDOW_END (05 R191, R193): a side must have converged both echoes in its own window, and acquired pair A in the
partner's; the gap follows. -/
def execFdWindowEnd (p : Port) (s : State) : Host.Outcome State Fault Refusal :=
  run s fun d =>
    if d.acqState p = 6 ∧ (d.prt p).fd.inWin then
      let own := d.ownWindow p
      let d := d.modFd p fun f => { f with inWin := false }
      if own then
        if (d.echoOf p .a).conv && (d.echoOf p .b).conv then d.fdDacs p true false else d.fdAbandonment p 2
      else if ((d.prt p).fd.acq.get 0).2 then
        ((d.modFd p fun f => { f with aValid := true }).agcTo p .a agcTrack).fdDacs p true false
      else d.fdAbandonment p 3
    else d

/-- FD_GAP_END (05 R189, Table 5.6): the follower window, or JOIN with the skew of the pairs measured. -/
def execFdGapEnd (p : Port) (skew : Int) (s : State) : Host.Outcome State Fault Refusal :=
  run s fun d =>
    let fds := d.get (LPn_FD_STATUS_FDS p)
    if d.acqState p = 6 ∧ ¬ (d.prt p).fd.inWin then
      if fds = 2 then d.fdWindow p 3
      else if fds = 3 then
        let d := (d.set (LPn_FD_STATUS_FDS p) 4).fdDacs p true true
        let d := d.each bothPairs fun d x =>
          if d.get (LPn_FD_STATUS_ECHO p x) = ecFrozen then d.modEcho p x fun e => { e with frozeFrom := ecCoarse }
          else d.set (LPn_FD_STATUS_ECHO p x) ecCoarse
        if 256 < skew.natAbs then d.fdAbandonment p 5 else (d.seti (LPn_FD_SKEW_SKEW p) skew).fdJoinCheck p
      else d
    else d

/-- FD_CONFIRM (05 R195). -/
def execFdConfirm (p : Port) (f : Frame) (_snrA _snrB _erleB : Nat) (_skew : Int) (s : State) :
    Host.Outcome State Fault Refusal :=
  run s fun d =>
    if d.acqState p = 6 then
      let r := d.lmcAccept p mtFdConfirm f
      if r.2 && decide (3 ≤ r.1.get (LPn_FD_STATUS_FDS p)) then
        (r.1.modFd p fun f => { f with confGot := true }).fdJoinCheck p
      else r.1
    else d

/-- FD_ABANDON (05 R197, R200). -/
def execFdAbandon (p : Port) (f : Frame) (_reason _attempt : Nat) (s : State) : Host.Outcome State Fault Refusal :=
  run s fun d =>
    if d.acqState p = 6 then
      let r := d.lmcAccept p mtFdAbandon f
      if r.2 then r.1.fdAbandonment p 7 else r.1
    else d

/-- FD_STEP_TIMEOUT (05 Table 5.8): the 2 ms test of the link message channel in BASE or JOIN, or the step's own time. -/
def execFdStepTimeout (p : Port) (lmc : Bool) (s : State) : Host.Outcome State Fault Refusal :=
  run s fun d =>
    let fds := d.get (LPn_FD_STATUS_FDS p)
    if d.acqState p = 6 ∧ (fds = 1 ∨ fds = 4) then
      d.fdAbandonment p (if lmc then 6 else if fds = 1 then 1 else 4)
    else d

/-! ## Cable diagnostics (05 R206–R212) -/

/-- What a measurement was made with: PROP, LOSS and MIN_RHO as used, the UI of the method in units of 320 ÷ 17 ps, and the
last point covered. -/
structure DiagSet where
  prop : Nat
  loss : Nat
  minRho : Nat
  ui : Nat
  probe : Bool
  deriving DecidableEq, Repr

/-- A descriptor's settings (05 Table 5.9). -/
def diagSet (c : Desc) (ui : Nat) (probe : Bool) : DiagSet :=
  { prop := if c.byte 18 = 0 then 130 else c.byte 18, loss := c.byte 19
    minRho := if c.byte 20 = 0 then 20 else c.byte 20, ui := ui, probe := probe }

/-- A value in a 16-bit field of the result. -/
def field16 (v : Int) (signed : Bool) : Nat :=
  let fits := if signed then decide (-32768 ≤ v) && decide (v ≤ 32767) else decide (0 ≤ v) && decide (v ≤ 65535)
  if fits then codeOf 16 v else (Config.over16 v).toNat

/-- ρ_corr of a point in 0.0001 × 2^128 (05 R207): the factor is limited to 100. -/
def rhoCorr (g : DiagSet) (k : Nat) (rho : Int) : Int :=
  let num := g.loss * k * 32 * g.ui
  let den := 17 * g.prop * 1000
  rho * (if 2 * den ≤ num then 100 * fixOne else tenTo num den : Nat)

/-- The discontinuities among the points found (05 R206, R208): covered, at least MIN_RHO, and none larger within 3 UI. -/
def diagFind (g : DiagSet) (covered : Nat → Bool) (l : List Peak) : List Peak :=
  let corr := fun (q : Peak) => (rhoCorr g q.k q.rho).natAbs
  (l.filter fun q => covered q.k && decide (10 * g.minRho * fixOne ≤ corr q) &&
    l.all fun r => decide (corr r ≤ corr q) || decide (3 ≤ ((r.k : Int) - q.k).natAbs))

/-- Sorted by delay, the first of equals first. -/
def diagSort (l : List Peak) : List Peak := sortOn (fun q => q.k) l

/-- A class of Table 5.11. -/
def diagClass (g : DiagSet) (q : Peak) : Nat :=
  let c := rhoCorr g q.k q.rho
  if 6000 * fixOne ≤ c then 1 else if c ≤ -(6000 * fixOne : Nat) then 2 else 3

/-- An entry of Table 5.11. -/
def diagEntry (g : DiagSet) (q : Peak) : List Byte :=
  bytesOf 2 (field16 (roundDiv (q.k * 32000 * g.ui) (17 * g.prop)) false) ++ pay (diagClass g q) ++ pay q.width ++
  bytesOf 2 (field16 q.rho true) ++ bytesOf 2 (satCode 16 (roundDiv (rhoCorr g q.k q.rho) fixOne)) ++
  bytesOf 4 (roundDiv (q.k * 320 * g.ui) 17).toNat ++ bytesOf 4 0

/-- The result of one pair (05 R208, R212): of more than eight discontinuities the eight largest, and nothing beyond the
first open or short. -/
def diagPair (g : DiagSet) (x : Pair) (last : Nat) (covered : Nat → Bool) (peaks : List Peak) (clip : Bool) (noise : Nat) :
    List Byte × Nat :=
  let all := diagSort (diagFind g covered peaks)
  let corr := fun (q : Peak) => (rhoCorr g q.k q.rho).natAbs
  let top := all.filter fun q => decide ((all.filter fun r => decide (corr q < corr r) ||
    (corr r == corr q && decide (r.k < q.k))).length < 8)
  let stop := (all.find? fun q => diagClass g q != 3).map (·.k)
  let within := fun (q : Peak) => match stop with
    | some k => decide (q.k ≤ k)
    | none => true
  let shown := top.filter within
  let trunc := all.any fun q => !within q
  let n := shown.length
  let head := pay (x.idx.val + 2 * bnat g.probe) ++ pay n ++
    pay (bnat (decide (8 < all.length)) + 2 * bnat trunc + 4 * bnat clip + 8 * bnat (decide (5 * g.minRho < noise))) ++
    pay g.prop ++ pay g.loss ++ pay g.minRho ++ bytesOf 2 (field16 (roundDiv (320000 * g.ui) (17 * g.prop)) false) ++
    bytesOf 2 (field16 (if g.probe then 20000 else roundDiv (last * 32000 * g.ui) (17 * g.prop)) false) ++
    bytesOf 2 (field16 noise false) ++ bytesOf 4 0
  (head ++ padBytes 128 (shown.flatMap (diagEntry g)), n)

/-- Pairs of a CABLE_DIAG. -/
def diagPairs (c : Desc) : List Pair := bothPairs.filter fun x => c.flag 17 x.idx.val

/-- A CABLE_DIAG completes with its results (05 R210, R212). -/
def Dev.diagDone (s : Dev) (p : Port) (c : Desc) (l : List (Pair × List Byte × Nat)) : Dev :=
  let w := s.putData c 0 (l.flatMap fun e => e.2.1)
  let count := sumNat (l.map fun e => e.2.2 * (if e.1 = .a then 1 else 256))
  (w.1.flag (LPn_FD_EVENTS_DIAG_DONE p) true).finish c (statusOf w.2) count

/-- The corrected response of a pair's channel over the delays covered (05 R206, R208): the taps that are applied, less the
hybrid and package response stored for the codes in use, in units of the taps. -/
def Dev.linkResponse (s : Dev) (p : Port) (x : Pair) : List (Nat × Int) :=
  let t := (s.echoOf p x).taps
  let dense := t.dense.toList.zipIdx.map fun v => (v.2, v.1)
  let wins := (s.windowStarts p x).zipIdx.flatMap fun e =>
    match e.1 with
    | some st => ((t.win.toList.drop (32 * e.2)).take 32).zipIdx.map fun v => (st + v.2, v.1)
    | none => []
  (dense ++ wins).map fun e => (e.1, tapVal 8 e.2 -
    Config.hybridTap (s.get (LPn_HYB_CTRL_HYB_R_USED p x)) (s.get (LPn_HYB_CTRL_HYB_C_USED p x)) e.1)

/-- The local extrema of a response (05 R206). The width of one is the point itself with the neighbours on the same side of
zero, so that no point counts twice within 3 UI (DESIGN CHOICE, log entry 107); ρ is the sum over it as a share of the incident
amplitude, in 0.0001. -/
def linkPeaks (l : List (Nat × Int)) : List Peak :=
  let val := fun (k : Int) => ((l.find? fun e => decide ((e.1 : Int) = k)).map (·.2)).getD 0
  l.filterMap fun e =>
    let near := [val ((e.1 : Int) - 1), val ((e.1 : Int) + 1)]
    if e.2 ≠ 0 ∧ near.all (fun v => decide (v.natAbs ≤ e.2.natAbs)) then
      let w := near.filter fun v => decide (0 < v * e.2)
      some { k := e.1, rho := roundDiv (10000 * (e.2 + sumInt w)) (max 1 Config.incident), width := 1 + w.length }
    else none

/-- Link-up reflectometry of a pair (05 R206, R208), from its echo taps and the windows that are applied. -/
def Dev.diagLink (s : Dev) (p : Port) (c : Desc) (x : Pair) : Pair × List Byte × Nat :=
  let g := diagSet c (if s.mode p = 7 then 2 else 1) false
  let starts := (s.windowStarts p x).filterMap id
  let resp := s.linkResponse p x
  let covered := fun (k : Nat) => decide (k < 768) || starts.any fun st => decide (st ≤ k) && decide (k ≤ st + 31)
  let last := maxNat (767 :: starts.map (· + 31))
  (x, diagPair g x last covered (linkPeaks resp) false (Config.linkNoise (resp.map (·.2))))

/-- CABLE_DIAG (05 R209–R211). -/
def execCableDiag (c : Desc) (s : State) : Host.Outcome State Fault Refusal :=
  run s fun d => d.descriptor c fun d c =>
    let p := Desc.port c
    let pairs := diagPairs c
    let fdData := d.acqState p == 7 && isFd (d.mode p)
    let stopped := d.linkState p == 0
    let bad := pairs == [] || (c.byte 18 != 0 && decide (c.byte 18 < 80)) || decide (12 < c.bits 21 3 0) ||
      (c.length != 0 && c.length != 144 * pairs.length) || d.spanBad c c.length
    if isOptical (d.get (LPn_PORT_CFG_MODE p)) then d.finish c stNotSupported 0
    else if bad then d.finish c stInvalid 0
    else if c.length = 0 then d.finish c stOk 0
    else if !stopped && (c.flag 17 2 || !fdData) then d.finish c stRefused 0
    else if (d.prt p).fd.diag then d.finish c stBusy 0
    else if stopped then (d.modFd p fun f => { f with diag := true }).park (.cableDiag p) c
    else d.diagDone p c (pairs.map (d.diagLink p c))

/-- CABLE_DIAG_PROBE_DONE (05 R206–R212): the results of the selected pairs are written; a PORT_START that waited starts. -/
def execCableDiagProbeDone (p : Port) (res : List ProbeRes) (s : State) : Host.Outcome State Fault Refusal :=
  run s fun d =>
    match d.waiting (.cableDiag p) with
    | none => d
    | some c =>
      let d := { d with waits := d.waits.eraseP fun w => w.1 == WaitKind.cableDiag p }
      let g := diagSet c 1 true
      let covered := fun (k : Nat) => decide (k * 3200 ≤ 2000 * 17 * g.prop)
      (d.diagDone p c ((diagPairs c).map fun x =>
        let r := (res.find? fun r => r.pair == x).getD { pair := x, peaks := [] }
        (x, diagPair g x 0 covered r.peaks r.clip r.noise))).probeEnded p

end Sys2Proof.Machine
end

