-- ==== Sys2Proof/Machine/Acq.lean ====
section
/-! DEFINITION. Acquisition, Clause 73 negotiation and training (08 R270–R300), with the end of a convergence window, by which
pairs acquire (05 R190). -/

namespace Sys2Proof.Machine

open Reg

/-! ## Hits and confirmation (08 R277–R282) -/

/-- CORRELATOR_HIT (08 R277–R279, R281): the metric of the correlation peak's power over the mean off-peak power, and the
position that the hit fixes. In SEARCH the class becomes the candidate, in CONFIRM it pre-empts one that it exceeds by 12
codes. After a preemption a candidate is taken at the second FAST update only, and a candidate that is confirmed and waits for
its retune stands. -/
def execCorrelatorHit (p : Port) (cls peak mean at_ : Nat) (s : State) : Host.Outcome State Fault Refusal :=
  run s fun d =>
    let st := d.acqState p
    let metric := logCode 40 255 peak mean
    if (st = 2 ∨ st = 3) ∧ ¬ (d.prt p).acq.retuning ∧ (d.classes p).contains cls then
      let d := d.modAcq p fun a => { a with metric := a.metric.set! cls metric }
      if metric < d.hitThr p then d
      else
        let d := d.count 0x2F p
        if st = 2 then
          (if (d.prt p).acq.preempt.isSome then d
           else (d.toConfirm p cls metric).modAcq p fun a => { a with hitPos := at_ })
        else if d.get (LPn_ACQ_STATUS_CAND_METRIC p) + 12 ≤ metric then
          let d := ((d.inc (LPn_ACQ_COUNT_PREEMPT_HITS p)).flag (LPn_ACQ_EVENTS_PREEMPT_HIT p) true).count 0x31 p
          (((d.set (LPn_ACQ_STATUS_CAND_CLASS p) cls).set (LPn_ACQ_STATUS_CAND_METRIC p) metric).set
            (LPn_ACQ_STATUS_MARKERS p) 0).modAcq p fun a => { a with hitPos := at_ }
        else d
    else d

/-- Whether a marker is one of a class's (08 Table 8.1). -/
def markerFits (cls : Nat) : Marker → Bool
  | .clause73 => cls == 0
  | .data => cls == 1 || cls == 2
  | .ieee => 1 ≤ cls && cls ≤ 5
  | .skellia => 3 ≤ cls && cls ≤ 8

/-- A marker's spacing, in bits, symbols or bit cells (08 Table 8.1). -/
def markerSpacing : Marker → Nat
  | .clause73 => Config.pageCells
  | .data => 528
  | .ieee | .skellia => 512

/-- How many of the places of two lists differ, those that one of them lacks included. -/
def placesWrong (want got : List Int) : Nat := (want.zipIdx.filter fun e => got[e.2]? != some e.1).length

/-- Whether what was received is a class's marker (08 R278): a segment marker with at most 2 errors in 16, 64 predicted symbols
of the training pattern with at most 4 errors, eight valid sync headers, or a valid page delimiter. pos is the place in the
pattern. -/
def markerGood (cls pos : Nat) (got : List Int) : Marker → Bool
  | .clause73 => Config.delimiterValid got
  | .data => (List.range 8).all fun i => decide (got.getD (2 * i) 0 + got.getD (2 * i + 1) 0 = 1)
  | .ieee => decide (placesWrong ((List.range 64).map fun i => Config.ieeePattern cls (pos + i)) got ≤ 4)
  | .skellia => decide (placesWrong segmentMarker got ≤ 2)

/-- The predicted position that a marker stands at, counted in spacings from the hit, where it stands within two symbols of one
and within 2,048 symbols of the hit (08 R278). -/
def markerPlace (m : Marker) (after : Nat) : Option Nat :=
  let k := (after + markerSpacing m / 2) / markerSpacing m
  if k ≠ 0 ∧ ((after : Int) - k * markerSpacing m).natAbs ≤ 2 ∧ after ≤ 2048 then some k else none

/-- Whether a port's base page carries the technology bit of a class (08 R286, R275): CLASS_EN names the enabled classes in
either profile (DEDUCED, log entry 50). -/
def Dev.able (s : Dev) (p : Port) (cls : Nat) : Bool :=
  let mask := s.get (LPn_ACQ_CTRL_CLASS_EN p)
  (mask == 0 || bitOf mask cls) && s.fits p (classMode cls)

/-- Whether a port announces a full-duplex mode (08 R288). -/
def Dev.ableFd (s : Dev) (p : Port) (m : Nat) : Bool :=
  s.on (LPn_ACQ_CTRL_FD_EN p) && s.fits p m && !(s.prt p).fd.fallback

/-- The capability page that a port sends (08 R288, Table 8.4). -/
def Dev.capPage (s : Dev) (p : Port) : BitVec 48 :=
  BitVec.ofNat 48 (bnat (s.ableFd p 6) + 2 * bnat (s.ableFd p 7) + 4 * s.get (LPn_ACQ_CTRL_FD_PREF p) + 8 +
    16 * s.get (LPn_ACQ_CTRL_SUBCH_EN p) + 32 * s.get (LPn_LINK_CTRL_LULL_EN p) + 64 + 256 * p.val + 2 ^ 16 * 0x3208 +
    2 ^ 32 * s.get GLB_ID_REV_MAJ + 2 ^ 36 * s.get GLB_ID_REV_MIN)

/-- A Clause 73 exchange begins with a fresh nonce (08 R286–R288): the port's pages are formed, of which the base page is sent
first. What they announce is what the settings then say (DESIGN CHOICE, log entry 108). -/
def Dev.anStart (s : Dev) (p : Port) : Dev :=
  let s := s.draw
  let nonce := (Config.nonce5 s.draws).toNat
  let ext := s.on (LPn_ACQ_CTRL_EXT_EN p)
  let own : BasePage :=
    { tech := [1, 2, 3, 4, 5].map (s.able p), nonce := nonce, np := ext, fec := s.get (LPn_AN_CTRL_FEC_NRZ p)
      pause := s.get (LPn_AN_CTRL_PAUSE p) }
  let next : List AnPage := if ext then [.message 5 0x31D2713C, .unformatted (s.capPage p)] else []
  s.modAcq p fun a =>
    { a with nonce := nonce, base := none, oui := false, pages := .base own :: next, page := 0
             said := (ext && s.on (LPn_ACQ_CTRL_SUBCH_EN p), ext && s.on (LPn_LINK_CTRL_LULL_EN p)) }

/-- The page that a port sends now: after its own pages, null message pages (08 R287). -/
def Acq.sends (a : Acq) : AnPage := a.pages.getD a.page (.message 1 0)

/-- The technology bits that a port has announced, and its capability page. -/
def Acq.tech (a : Acq) : List Bool := a.pages.flatMap fun q => match q with
  | .base b => b.tech
  | _ => []
def Acq.cap (a : Acq) : BitVec 48 := (a.pages.filterMap fun q => match q with
  | .unformatted w => some w
  | _ => none).headD 0

/-- Data mode of CU-10N and CU-25N confirmed from data, without training (08 Table 8.6). -/
def Dev.straightToData (s : Dev) (p : Port) : Dev := ((s.txToData p).rxToData p).enterData p

/-- A candidate is confirmed (08 R278, R282, R290): the lock is validated; class 0 goes to negotiation, a rate class resolves
its mode by parallel detection. In Wide the PLL moves first: training waits for it in TRAIN, data in CONFIRM. -/
def Dev.confirmed (s : Dev) (p : Port) (m : Marker) : Dev :=
  let cls := s.get (LPn_ACQ_STATUS_CAND_CLASS p)
  let wide := s.wide p
  let s := s.agcTo p .b agcTrack
  if cls = 0 then (s.set (LPn_ACQ_STATUS_ACQ_STATE p) 4).anStart p
  else
    let sk := m == Marker.skellia
    let s := (s.flag (LPn_ACQ_STATUS_PARALLEL p) true).flag (LPn_ACQ_STATUS_PARTNER_SK p) sk
    let s := s.resolve p (classMode cls) sk
    let s := s.iff wide fun s => (s.modAcq p fun a => { a with retuning := true }).cdrStart p .b
    if m = Marker.data then (if wide then s else s.straightToData p) else s.toTrain p

/-- CONFIRM_MARKER_FOUND (08 R270, R278): what stood after that many symbols from the hit counts as the candidate's marker
where it is one and stands at a predicted position; the third marker confirms. -/
def execConfirmMarkerFound (p : Port) (m : Marker) (after : Nat) (got : List Int) (s : State) :
    Host.Outcome State Fault Refusal :=
  run s fun d =>
    let k := d.get (LPn_ACQ_STATUS_MARKERS p)
    let cls := d.get (LPn_ACQ_STATUS_CAND_CLASS p)
    let good := (markerPlace m after).any fun n => markerGood cls ((d.prt p).acq.hitPos + n * markerSpacing m) got m
    if d.acqState p = 3 ∧ k < 3 ∧ markerFits cls m ∧ good then
      let d := d.set (LPn_ACQ_STATUS_MARKERS p) (k + 1)
      if k = 2 then d.confirmed p m else d
    else d

/-- CONFIRM_TIMEOUT (08 R280). -/
def execConfirmTimeout (p : Port) (s : State) : Host.Outcome State Fault Refusal :=
  run s fun d =>
    if d.acqState p = 3 ∧ d.get (LPn_ACQ_STATUS_MARKERS p) < 3 then
      (((d.inc (LPn_ACQ_COUNT_FALSE_LOCKS p)).flag (LPn_ACQ_EVENTS_FALSE_LOCK p) true).count 0x30 p).toSearch p
    else d

/-- RETUNE_DONE (08 R282): the port is at its class's rate; one confirmed from data enters data mode. -/
def execRetuneDone (p : Port) (s : State) : Host.Outcome State Fault Refusal :=
  run s fun d =>
    if (d.prt p).acq.retuning then
      let d := d.modAcq p fun a => { a with retuning := false }
      if d.acqState p = 3 then d.straightToData p else d
    else d

/-! ## Clause 73 (08 R286–R291) -/

/-- Negotiation fails (08 R291). -/
def Dev.anFail (s : Dev) (p : Port) : Dev :=
  ((s.inc (LPn_ACQ_COUNT_AN_FAILS p)).flag (LPn_ACQ_EVENTS_AN_FAIL p) true).toSearch p

/-- Whether both partners support a mode (08 R289). -/
def Dev.common (s : Dev) (p : Port) (b : BasePage) (m : Nat) : Bool :=
  if m = 6 then (s.prt p).acq.cap.getLsbD 0 && s.on (LPn_AN_PARTNER_FD200 p)
  else if m = 7 then (s.prt p).acq.cap.getLsbD 1 && s.on (LPn_AN_PARTNER_FD100 p)
  else (s.prt p).acq.tech.getD (modeClass m - 1) false && b.tech.getD (modeClass m - 1) false

/-- The order of resolution (08 Table 8.5). -/
def anOrder (pref : Bool) : List Nat := if pref then [6, 4, 7, 5, 8, 9, 10] else [4, 6, 5, 7, 8, 9, 10]

/-- The pages are exchanged (08 R289, 05 R187, R198, R199): a port configured for full duplex whose partner announces none
falls back or searches on; else the first common mode is resolved. -/
def Dev.anResolve (s : Dev) (p : Port) (b : BasePage) : Dev :=
  let lead := decide (b.nonce < (s.prt p).acq.nonce)
  let s := s.modAcq p fun a => { a with leader := some lead }
  let none := !s.on (LPn_AN_PARTNER_FD200 p) && !s.on (LPn_AN_PARTNER_FD100 p)
  let want := isFd (s.prt p).link.cfgMode && !(s.prt p).fd.fallback && none
  if want && !s.on (LPn_FD_CTRL_FALLBACK p) then (s.flag (LPn_FD_EVENTS_NO_FD_PARTNER p) true).toSearch p
  else
    let s := s.iff want fun s =>
      ((s.modFd p fun f => { f with fallback := true, fallMode := simplexOf (s.prt p).link.cfgMode }).set (LPn_FD_STATUS_FDS p) 7).raise (LPn_FD_EVENTS_FALLBACK p) 1
    let pref := if lead then (s.prt p).acq.cap.getLsbD 2 else s.on (LPn_AN_PARTNER_FD_PREF p)
    let order := if (s.prt p).fd.fallback then [(s.prt p).fd.fallMode] else anOrder pref
    match order.find? (s.common p b) with
    | Option.none => s.anFail p
    | some m =>
      if isFd m then s.fdBegin p m lead
      else
        let sk := s.on (LPn_AN_PARTNER_EXT p) && !isNrz m
        (s.resolve p m sk).toTrain p

/-- The capability page (08 Table 8.4). -/
def Dev.capability (s : Dev) (p : Port) (d : BitVec 48) : Dev :=
  let n := d.toNat
  let put := fun (s : Dev) (e : Fld × Nat × Nat) => s.set e.1 (bitsOf n e.2.1 e.2.2)
  let s := s.each
    [(LPn_AN_PARTNER_FD200 p, 0, 0), (LPn_AN_PARTNER_FD100 p, 1, 1), (LPn_AN_PARTNER_FD_PREF p, 2, 2),
     (LPn_AN_PARTNER_EXT p, 3, 3), (LPn_AN_PARTNER_SUBCH p, 4, 4), (LPn_AN_PARTNER_LULL_SK p, 5, 5),
     (LPn_AN_PARTNER_PART p, 31, 16), (LPn_AN_PARTNER_REV_MAJ p, 35, 32), (LPn_AN_PARTNER_REV_MIN p, 39, 36)] put
  (s.flag (LPn_AN_PARTNER_PAGE p) true).flag (LPn_ACQ_STATUS_PARTNER_SK p) true

/-- AN_PAGE_RX (08 R286–R289): the partner's page answers the port's, whose next page follows. Equal nonces restart the exchange; the Skellia message page makes the next unformatted page
the capability page; the end of the exchange resolves. -/
def execAnPageRx (p : Port) (pg : AnPage) (s : State) : Host.Outcome State Fault Refusal :=
  run s fun d =>
    if d.acqState p = 4 then
      match pg with
      | .base b =>
        if b.nonce % 32 = (d.prt p).acq.nonce then d.anStart p
        else d.modAcq p fun a => { a with base := some { b with nonce := b.nonce % 32 }, page := 1 }
      | .message code u =>
        d.modAcq p fun a => { a with oui := decide (code = 5) && decide (u.toNat = 0x31D2713C), page := a.page + 1 }
      | .unformatted w =>
        let oui := (d.prt p).acq.oui
        let d := d.modAcq p fun a => { a with oui := false, page := a.page + 1 }
        if oui then d.capability p w else d
      | .done =>
        match (d.prt p).acq.base with
        | none => d
        | some b => d.anResolve p b
    else d

/-- AN_TIMER_EXPIRY (08 R291). -/
def execAnTimerExpiry (p : Port) (restart : Bool) (s : State) : Host.Outcome State Fault Refusal :=
  run s fun d => if d.acqState p = 4 then (if restart then d.anStart p else d.anFail p) else d

/-! ## Skellia training (08 R294–R300, Table 8.8) -/

/-- LINK_PARAM sent (08 Table 8.11), with what it announces. -/
def Dev.sendLinkParam (s : Dev) (p : Port) : Dev :=
  let a := (s.prt p).acq
  let bits := bnat a.askedPrecode + 2 * bnat (innerUsed (s.mode p) (s.prt p).link.inner) +
    4 * s.get (LPn_ACQ_CTRL_SUBCH_EN p) + 8 * s.get (LPn_LINK_CTRL_LULL_EN p)
  (s.lmcQueue p mtLinkParam (pay (s.mode p) ++ pay bits ++ bytesOf 2 a.lpNonce)).1.modAcq p fun a =>
    { a with said := (s.on (LPn_ACQ_CTRL_SUBCH_EN p), s.on (LPn_LINK_CTRL_LULL_EN p)) }

/-- Whether a port is in Skellia training. -/
def Dev.inSkellia (s : Dev) (p : Port) : Bool := s.acqState p == 5 && s.on (LPn_ACQ_STATUS_TRAIN_SK p)

/-- Steps 3 to 5 of Table 8.8 as far as they may go: READY once tuning has ended, DATA_AT once both are ready, with the least
delay (DESIGN CHOICE). -/
def Dev.skCheck (s : Dev) (p : Port) : Dev :=
  let a := (s.prt p).acq
  if s.inSkellia p && a.acquired && a.compat then
    let tuned := a.tuned || !s.on (LPn_ACQ_CTRL_TX_TUNE p)
    let s := s.modAcq p fun a => { a with tuned := tuned }
    let s := s.iff (tuned && !a.readySent) fun s =>
      (s.lmcQueue p mtReady (pay (s.get (LPn_EQ_STATUS_SNR_ALL p .b)))).1.modAcq p fun a => { a with readySent := true }
    let a := (s.prt p).acq
    s.iff (a.readySent && a.readyGot && a.atSent.isNone) fun s =>
      (s.lmcQueue p mtDataAt (pay 16)).1.modAcq p fun a => { a with atSent := some 16 }
  else s

/-- CONVERGENCE_WINDOW_END (04 R143–R148, 05 R190): a pair acquires by two good windows in a row; in Skellia training
LINK_PARAM follows (08 Table 8.8), in full-duplex start-up the handshake (05 Table 5.6). -/
def execConvergenceWindowEnd (p : Port) (x : Pair) (s : State) : Host.Outcome State Fault Refusal :=
  run s fun d =>
    if d.powered p x then
      let before := d.acqState p
      let r := d.convWindow p x
      let d := r.1
      if d.acqState p ≠ before then d
      else if before = 5 ∧ x = .b then
        let a := (d.prt p).acq
        let now := a.acqOne && r.2
        let d := d.modAcq p fun a => { a with acqOne := r.2, acquired := a.acquired || now }
        if now && !a.acquired && d.inSkellia p then (d.sendLinkParam p).skCheck p else d
      else if before = 6 ∧ adapting (d.get (LPn_EQ_STATUS_ADAPT p x)) then
        let d := d.modFd p fun f => { f with acq := vmod f.acq x.idx fun e => (r.2, e.2 || (e.1 && r.2)) }
        (d.fdBaseCheck p).fdJoinCheck p
      else d
    else d

/-- LINK_PARAM (08 R296–R298): an equal NONCE is drawn anew and sent again; settings that differ keep the port at this step. -/
def execLinkParam (p : Port) (f : Frame) (m : LinkParamMsg) (s : State) : Host.Outcome State Fault Refusal :=
  run s fun d =>
    if d.inSkellia p then
      let r := d.lmcAccept p mtLinkParam f
      let d := r.1
      if r.2 then
        let a := (d.prt p).acq
        let same := a.leader.isNone && decide (m.nonce = a.lpNonce)
        let d := if same then
            let d := d.draw
            let d := d.modAcq p fun a => { a with lpNonce := (Config.nonce16 d.draws).toNat }
            d.iff a.acquired (·.sendLinkParam p)
          else d.modAcq p fun a => { a with leader := a.leader.orElse fun _ => some (decide (m.nonce < a.lpNonce)) }
        let mode := d.mode p
        let compat := decide (m.mode = mode) && (mode != 3 || m.inner == (d.prt p).link.inner)
        let d := d.modAcq p fun a => { a with param := some m, compat := compat }
        let d := d.modTx p fun t => { t with precodeReq := m.precode }
        let d := d.iff (!compat) fun d => d.flag (LPn_ACQ_EVENTS_INNER_MISMATCH p) true
        d.skCheck p
      else d
    else d

/-- The next single step to try on the partner's taps: increment, then decrement, of each tap in turn (08 R294; the order is
a DESIGN CHOICE). -/
def tuneStep (k : Nat) : Nat × Nat := (1 + k % 2, k / 2)

/-- A coefficient request sent to the partner. -/
def Dev.tuneSend (s : Dev) (p : Port) (op tap : Nat) : Dev :=
  let lmc := s.lmcUp p
  let s := s.iff lmc fun s => (s.lmcQueue p mtCoefReq (pay op ++ pay tap ++ pay 0)).1
  s.modAcq p fun a => { a with tuneCount := a.tuneCount + 1, tuneWait := lmc }

/-- The next trial, or the end of tuning: no single step improves, or the requests are used up. -/
def Dev.tuneNext (s : Dev) (p : Port) (snr : Nat) : Dev :=
  let a := (s.prt p).acq
  if 16 ≤ a.tuneTried ∨ 63 ≤ a.tuneCount then
    (s.modAcq p fun a => { a with tuned := true, tuneReq := none }).skCheck p
  else
    let c := tuneStep a.tuneTried
    (s.modAcq p fun a => { a with tuneReq := some (c.1, c.2, snr) }).tuneSend p c.1 c.2

/-- TX_TUNE_WINDOW_END (08 R294): a change that improves the overall SNR by 0.1 dB is kept, another is reversed. -/
def execTxTuneWindowEnd (p : Port) (s : State) : Host.Outcome State Fault Refusal :=
  run s fun d =>
    let a := (d.prt p).acq
    let may := d.acqState p == 5 && (!d.on (LPn_ACQ_STATUS_TRAIN_SK p) || (a.acquired && a.compat))
    let nrz := isNrz (d.mode p)
    let snr := snrCode nrz (meanNoise d.draws nrz (d.eqOf p .b).tun)
    let d := d.draw.modEq p .b fun e => { e with tun := Vector.replicate 4 (0, 0) }
    if may && d.on (LPn_ACQ_CTRL_TX_TUNE p) && !a.tuned && !a.tuneWait then
      match a.tuneReq with
      | none => d.tuneNext p snr
      | some (op, tap, old) =>
        if old + 1 ≤ snr then (d.modAcq p fun a => { a with tuneTried := 0 }).tuneNext p snr
        else (d.modAcq p fun a => { a with tuneTried := a.tuneTried + 1, tuneReq := none }).tuneSend p (3 - op) tap
    else d

/-- COEF_RESP (08 R294, R307): the answer to this port's request; one that was not applied needs no reversal. -/
def execCoefResp (p : Port) (f : Frame) (status _tap _pair _value : Nat) (s : State) : Host.Outcome State Fault Refusal :=
  run s fun d =>
    if d.lmcUp p then
      let r := d.lmcAccept p mtCoefResp f
      let d := r.1
      if r.2 && (d.prt p).acq.tuneWait then
        let d := d.modEq p .b fun e => { e with tun := Vector.replicate 4 (0, 0) }
        d.modAcq p fun a =>
          let gone := status != 0 && a.tuneReq.isSome
          { a with tuneWait := false, tuneReq := if gone then none else a.tuneReq
                   tuneTried := if gone then a.tuneTried + 1 else a.tuneTried }
      else d
    else d

/-- READY (08 R296). -/
def execReady (p : Port) (f : Frame) (_snr : Nat) (s : State) : Host.Outcome State Fault Refusal :=
  run s fun d =>
    if d.inSkellia p then
      let r := d.lmcAccept p mtReady f
      if r.2 then (r.1.modAcq p fun a => { a with readyGot := true }).skCheck p else r.1
    else d

/-- DATA_AT (08 R296, R300). -/
def execDataAt (p : Port) (f : Frame) (delay : Nat) (s : State) : Host.Outcome State Fault Refusal :=
  run s fun d =>
    if d.inSkellia p then
      let r := d.lmcAccept p mtDataAt f
      if r.2 then r.1.modAcq p fun a => { a with atGot := some (max 16 (delay % 256)) } else r.1
    else d

/-- DATA_SWITCH (08 R300, Table 8.8 step 6): the announced period has come in one direction; data mode when both have
switched. -/
def execDataSwitch (p : Port) (dir : Dir) (s : State) : Host.Outcome State Fault Refusal :=
  run s fun d =>
    let a := (d.prt p).acq
    if d.inSkellia p then
      let d := match dir with
        | .tx =>
          if a.atSent.isSome && !a.txSwitched then
            ((d.txToData p).modAcq p fun a => { a with txSwitched := true }).txRefresh p
          else d
        | .rx =>
          if a.atGot.isSome && !a.rxSwitched then
            (d.rxToData p).modAcq p fun a => { a with rxSwitched := true }
          else d
      let a := (d.prt p).acq
      if a.txSwitched && a.rxSwitched then d.enterData p else d
    else d

/-! ## Ends and losses (08 R285, R293, R299, 09 Table 9.2) -/

/-- Training fails (08 R293, R299). -/
def Dev.trainFail (s : Dev) (p : Port) : Dev :=
  ((s.inc (LPn_ACQ_COUNT_TRAIN_FAILS p)).flag (LPn_ACQ_EVENTS_TRAIN_FAIL p) true).toSearch p

/-- IEEE_TRAINING_END (08 R293): data mode, with the precoding that the partner asked for, or a failure. -/
def execIeeeTrainingEnd (p : Port) (ok precode : Bool) (s : State) : Host.Outcome State Fault Refusal :=
  run s fun d =>
    if d.acqState p = 5 ∧ ¬ d.on (LPn_ACQ_STATUS_TRAIN_SK p) then
      if ok then (d.modTx p fun t => { t with precodeReq := precode }).straightToData p else d.trainFail p
    else d

/-- TRAIN_TIMEOUT (08 R297, R299): settings that differ are not subject to it. -/
def execTrainTimeout (p : Port) (s : State) : Host.Outcome State Fault Refusal :=
  run s fun d =>
    let a := (d.prt p).acq
    if d.inSkellia p && !(a.param.isSome && !a.compat) then d.trainFail p else d

/-- SIGDET_LOSS_TIMEOUT (08 R285, 09 Table 9.2): SIG_DET has been clear for 100 µs on a receiving pair. -/
def execSigdetLossTimeout (p : Port) (x : Pair) (s : State) : Host.Outcome State Fault Refusal :=
  run s fun d =>
    if d.powered p x && !d.on (LPn_RXFE_STATUS_SIG_DET p x) then
      if d.linkState p = lsUp then d.linkLoss p 3
      else if x = .b ∨ d.get (LPn_FD_STATUS_FDS p) = 4 then d.lockLoss p
      else d
    else d

/-- TRAINING_MARKERS_MISSED (08 R285). -/
def execTrainingMarkersMissed (p : Port) (s : State) : Host.Outcome State Fault Refusal := run s fun d => d.lockLoss p

/-- SYNC_HEADER_LOSS (09 R318, Table 9.2). -/
def execSyncHeaderLoss (p : Port) (s : State) : Host.Outcome State Fault Refusal :=
  run s fun d => if isNrz (d.mode p) ∧ d.linkState p = lsUp then d.linkLoss p 5 else d

end Sys2Proof.Machine
end

