-- ==== Sys2Proof/Machine/AuxDac.lean ====
section
/-! DEFINITION. The auxiliary DAC channels: target, slew, queue and clear (11 R375–R382, R410, R411). -/

namespace Sys2Proof.Machine

open Reg

/-- A channel's clear code (11 R379). -/
def Dev.auxClearCode (s : Dev) (c : AuxCh) : Nat := s.get (AUX_CHm_CLEAR_CLEAR c)

/-- What AUX_CHm_STATUS and AUX_CHm_QUEUE show of a channel (11 Tables 11.12, 11.16, 11.17). -/
def Dev.auxRefresh (s : Dev) (c : AuxCh) : Dev :=
  let s := s.flag (AUX_CHm_STATUS_SLEWING c) (s.get (AUX_CHm_STATUS_CODE c) != s.get (AUX_CHm_STATUS_TARGET c))
  let s := s.set (AUX_CHm_QUEUE_FILL c) (s.aux.get c).queue.length
  s.putBit AUX_STATUS_OWNED c (s.on (AUX_CHm_STATUS_OWNED c))

/-- A channel's target set; without a slew limit the output of an owned channel takes it at once (11 R378). -/
def Dev.auxTarget (s : Dev) (c : AuxCh) (v : Nat) : Dev :=
  let s := s.set (AUX_CHm_STATUS_TARGET c) v
  let s := s.iff (s.on (AUX_CHm_STATUS_OWNED c) && !s.on (AUX_CHm_CFG_SLEW_STEP c)) fun s => s.set (AUX_CHm_STATUS_CODE c) v
  s.auxRefresh c

/-- A channel's output and target at its clear code, without the slew limiter (11 R380). -/
def Dev.auxToClear (s : Dev) (c : AuxCh) : Dev :=
  ((s.set (AUX_CHm_STATUS_CODE c) (s.auxClearCode c)).set (AUX_CHm_STATUS_TARGET c) (s.auxClearCode c)).auxRefresh c

/-- A clear acts on a channel: its output at the clear code, its queue empty (11 R380). -/
def Dev.auxClear (s : Dev) (c : AuxCh) : Dev := (s.modAux c fun a => { a with queue := [] }).auxToClear c

/-- Whether a clear is in force (11 R380): AUX_CLR_N, or a hard Quench. -/
def Dev.auxHeld (s : Dev) : Bool := s.on AUX_STATUS_CLR_PIN || s.thm.hard

/-- CLEAR_ACTIVE and each CLEARED as the clears in force give them (11 R380, R382). -/
def Dev.auxHeldRefresh (s : Dev) : Dev :=
  (s.each allAux fun s c => s.flag (AUX_CHm_STATUS_CLEARED c) s.auxHeld).flag AUX_STATUS_CLEAR_ACTIVE s.auxHeld

/-- A clear code has been written: a clear in force moves the output to it (11 R379). -/
def Dev.auxClearWritten (s : Dev) (c : AuxCh) : Dev := s.iff (s.on (AUX_CHm_STATUS_CLEARED c)) (·.auxToClear c)

/-- A queue depth has been written: the newest entries beyond it are dropped, each an underrun (11 R411). -/
def Dev.auxDepthWritten (s : Dev) (c : AuxCh) : Dev :=
  let depth := s.get (AUX_CHm_QUEUE_DEPTH c) + 1
  let q := (s.aux.get c).queue
  ((s.add (AUX_CHm_QUEUE_UNDERRUNS c) (q.length - depth)).modAux c fun a => { a with queue := q.take depth }).auxRefresh c

/-- AUX_UPDATE_TICK (11 R377, R378). -/
def execAuxUpdateTick (c : AuxCh) (s : State) : Host.Outcome State Fault Refusal :=
  run s fun d =>
    if d.on (AUX_CHm_STATUS_OWNED c) ∨ ¬ (d.aux.get c).driven then d
    else
      let d := match (d.aux.get c).queue with
        | v :: r => (d.modAux c fun a => { a with queue := r }).set (AUX_CHm_STATUS_TARGET c) v
        | [] => d.iff (d.aux.get c).held fun d =>
            (d.inc (AUX_CHm_QUEUE_UNDERRUNS c)).flag AUX_EVENTS_UNDERRUN true
      let d := d.iff (!d.on (AUX_CHm_CFG_SLEW_STEP c)) fun d =>
        d.set (AUX_CHm_STATUS_CODE c) (d.get (AUX_CHm_STATUS_TARGET c))
      d.auxRefresh c

/-- One step of a value toward another by at most n. -/
def stepToward (now target n : Nat) : Nat :=
  if now < target then min (now + n) target else max (now - n) target

/-- A slew tick's step of the output toward the target (11 R378). -/
def Dev.auxSlew (s : Dev) (c : AuxCh) : Dev :=
  let n := s.get (AUX_CHm_CFG_SLEW_STEP c)
  if n = 0 then s
  else (s.set (AUX_CHm_STATUS_CODE c) (stepToward (s.get (AUX_CHm_STATUS_CODE c)) (s.get (AUX_CHm_STATUS_TARGET c)) n)).auxRefresh c

/-- AUX_DAC_QUEUE (11 R377, R380, Tables 11.4, 11.5). A Length of 0 queues nothing. -/
def execAuxDacQueue (c : Desc) (s : State) : Host.Outcome State Fault Refusal :=
  run s fun d => d.descriptor c fun d c =>
    let m := c.bits 16 4 0
    let ch : AuxCh := Fin.ofNat 24 m
    let depth := d.get (AUX_CHm_QUEUE_DEPTH ch) + 1
    let n := c.length / 2
    let flush := c.flag 17 0
    let q := if flush then [] else (d.aux.get ch).queue
    if 23 < m ∨ c.length % 2 = 1 ∨ depth < n ∨ d.spanBad c c.length then d.finish c stInvalid 0
    else if d.on (AUX_CHm_STATUS_OWNED ch) ∨ d.auxHeld then d.finish c stRefused 0
    else if depth < q.length + n then d.finish c stBusy 0
    else
      let r := d.getData c 0 c.length
      match r.2.2 with
      | .failed => r.1.finish c stMemUe 0
      | t =>
        let codes := (chunks 2 (n + 1) r.2.1).map fun l => min (ofBytes l) 16383
        let d := r.1.modAux ch fun a =>
          { a with queue := q ++ codes, held := (!flush && a.held) || codes != [] }
        (d.auxRefresh ch).finish c (statusOf t) (q ++ codes).length

/-- AUX_DAC_CONFIG (11 R379, R411). DEPTH and CLEAR are checked where they apply. -/
def execAuxDacConfig (c : Desc) (s : State) : Host.Outcome State Fault Refusal :=
  run s fun d => d.descriptor c fun d c =>
    let m := c.bits 16 4 0
    let ch : AuxCh := Fin.ofNat 24 m
    let depth := c.bits 26 4 0
    if 23 < m ∨ (c.flag 17 1 ∧ (depth = 0 ∨ 16 < depth)) then d.finish c stInvalid 0
    else
      let d := d.iff (c.flag 17 0) fun d =>
        (d.set (AUX_CHm_CLEAR_CLEAR ch) (c.bytes 18 2)).auxClearWritten ch
      let d := d.iff (c.flag 17 1) fun d =>
        let d := (d.set (AUX_CHm_CFG_UPD_DIV ch) (c.bytes 20 2)).set (AUX_CHm_CFG_SLEW_STEP ch) (c.bytes 22 2)
        ((d.set (AUX_CHm_CFG_SLEW_TICK ch) (c.bytes 24 2)).set (AUX_CHm_QUEUE_DEPTH ch) (depth - 1)).auxDepthWritten ch
      d.finish c stOk 0

end Sys2Proof.Machine
end

