-- ==== Sys2Proof/Machine/Monitor.lean ====
section
/-! DEFINITION. The monitor converter: conversions and their result paths, decimation channels, low-power mode, slice health
and calibration, system calibration, and its descriptors (12). -/

namespace Sys2Proof.Machine

open Reg

/-! ## State and mode (12 R415, R427, Table 12.7) -/

/-- Whether low-power mode is in force (12 R427). -/
def Dev.monLp (s : Dev) : Bool := s.on MON_CTRL_LP_SW || s.shedAt 5
/-- Whether the sequencer converts: RUN, CYCLE or LOW_POWER. -/
def Dev.monRuns (s : Dev) : Bool := 2 ≤ s.get MON_STATUS_STATE
/-- The spare shadows a slice in the health check (12 R430). -/
def Dev.monHealthOn (s : Dev) : Bool :=
  s.get MON_STATUS_STATE == 2 && s.on MON_CTRL_HLTH_EN && s.mon.free != []

/-- MON_STATUS as the mode, the slices and the cycle give it (12 Table 12.7). -/
def Dev.monRefresh (s : Dev) : Dev :=
  let st := s.get MON_STATUS_STATE
  let s := s.set MON_STATUS_STATE
    (if st < 2 then st else if s.mon.cycle.isSome then 3 else if s.monLp then 4 else 2)
  let s := (s.flag MON_STATUS_LP_SHED (s.shedAt 5)).set MON_STATUS_IN_SERVICE (if st < 2 then 0 else s.mon.inServ.length)
  let s := s.flag MON_STATUS_SPARE_FREE (2 ≤ st && s.mon.free != [])
  let shadow := match s.mon.cycle with
    | some (n :: _, _) => n
    | _ => if s.monHealthOn then s.mon.inServ.getD s.mon.health 0 else 0
  s.set MON_STATUS_SHADOW shadow

/-- Entry to low-power mode abandons a calibration cycle (12 R427); its descriptor ends ABORTED. -/
def Dev.monMode (s : Dev) : Dev :=
  let s := s.iff (s.monLp && s.mon.cycle.isSome) fun s =>
    (s.modMon fun m => { m with cycle := none }).wakeAll (fun w => w == .monCycle) stAborted
      (fun _ => (s.mon.cycle.map fun c => c.2.2.2).getD 0)
  s.monRefresh

/-! ## Decimation channels (12 R422–R426) -/

/-- A channel synchronised (12 R424, R426): filter state cleared, both comparisons armed, outputs not valid. -/
def Dev.cicSync (s : Dev) (k : Nat) : Dev :=
  let s := s.modMon fun m => { m with cic := vmod m.cic (Fin.ofNat 8 k) fun c =>
    { c with win := [], entered := 0, outputs := 0 } }
  ((s.flag (MON_CICk_OUT_VALID k) false).flag (MON_CICk_OUT_UP_ARMED k) true).flag (MON_CICk_OUT_LO_ARMED k) true

/-- Every channel that takes an input synchronised. -/
def Dev.cicSyncInput (s : Dev) (i : Nat) : Dev :=
  s.each ((List.range 8).filter fun k => s.get (MON_CICk_CFG_INPUT k) == i) (·.cicSync ·)

/-- Sums of D successive values, newest first, with zeros before the first. -/
def boxSum (D : Nat) (l : List Nat) : List Nat :=
  (List.range l.length).map fun i => sumNat ((l.drop i).take D)

/-- A CIC filter's sum: N moving sums of D in cascade (12 R422). -/
def cicSum (N D : Nat) (l : List Nat) : Nat := ((List.range N).foldl (fun l _ => boxSum D l) l).headD 0

/-- The comparisons of a channel after an output (12 R425, R426). -/
def Dev.cicCompare (s : Dev) (k : Nat) : Dev :=
  let out := s.get (MON_CICk_OUT_OUT k)
  if !s.on (MON_CICk_OUT_VALID k) then s
  else if s.on (MON_CICk_OUT_OOR k) then s.flag MON_EVENTS_OOR true
  else
    let hys := s.get (MON_CICk_HYS_HYS k)
    let fire := fun (s : Dev) (f : Fld) =>
      (s.flag f true).iff (s.on (MON_CICk_CFG_LOG k)) fun s => s.log f 1 (pay k ++ bytesOf 2 out)
    let s :=
      if s.on (MON_CICk_OUT_UP_ARMED k) then
        (if s.on (MON_CICk_CFG_UP_EN k) && s.get (MON_CICk_TH_UTH k) < out then
          fire (s.flag (MON_CICk_OUT_UP_ARMED k) false) MON_EVENTS_CIC_UPPER else s)
      else s.iff (out + hys ≤ s.get (MON_CICk_TH_UTH k)) fun s => s.flag (MON_CICk_OUT_UP_ARMED k) true
    if s.on (MON_CICk_OUT_LO_ARMED k) then
      (if s.on (MON_CICk_CFG_LO_EN k) && out < s.get (MON_CICk_TH_LTH k) then
        fire (s.flag (MON_CICk_OUT_LO_ARMED k) false) MON_EVENTS_CIC_LOWER else s)
    else s.iff (s.get (MON_CICk_TH_LTH k) + hys ≤ out) fun s => s.flag (MON_CICk_OUT_LO_ARMED k) true

/-- A sample enters a channel; after each DEC of them an output leaves it (12 R422–R424). -/
def Dev.cicFeed (s : Dev) (k v : Nat) (oor : Bool) : Dev :=
  let N := s.get (MON_CICk_CFG_ORDER k)
  let D := s.get (MON_CICk_CFG_DEC k)
  let c := s.mon.cic.get (Fin.ofNat 8 k)
  let c : CicSt := { c with win := ((v, oor) :: c.win).take (N * D), entered := c.entered + 1 }
  let put := fun (s : Dev) (c : CicSt) => s.modMon fun m => { m with cic := m.cic.set (Fin.ofNat 8 k) c }
  if c.entered % D = 0 then
    let out := (roundDiv (cicSum N D (c.win.map (·.1))) (D ^ N)).toNat
    let s := put s { c with outputs := min (c.outputs + 1) (2 ^ 32 - 1), time := s.timebase }
    let s := (s.set (MON_CICk_OUT_OUT k) out).flag (MON_CICk_OUT_VALID k) (N * D ≤ c.entered)
    (s.flag (MON_CICk_OUT_OOR k) (c.win.any (·.2))).cicCompare k
  else put s c

/-! ## Conversions (12 R413–R421) -/

/-- A conversion corrected by its slice's trims, in 1/16 LSB (12 R416); the order of the two corrections is that of R416's
own formula (log entry 18). -/
def trimmed (z : MonSlice) (code : Nat) : Int := roundDiv ((16 * (code : Int) + z.off) * (10000 + z.gain)) 10000

/-- A corrected value v (12 R416). -/
def Dev.monValue (s : Dev) (i : InputNo) (c16 : Int) : Nat :=
  (clampInt 0 65535 (roundDiv ((c16 - s.geti (MON_INm_CAL_OFFSET i)) * s.get (MON_INm_CAL_GAIN i)) 16384)).toNat

/-- The next slot to convert from a place in a table: disabled inputs are skipped (12 R417). -/
def Dev.nextSlot (s : Dev) (l : List Nat) (pos : Nat) : Option Nat :=
  (List.range l.length).find? fun k => pos ≤ k && s.on (MON_INm_CFG_EN (l.getD k 0))

/-- The slot table that waits takes effect at a table start (12 R439), and channels whose input's share changes are
synchronised (R424). -/
def Dev.slotSwap (s : Dev) : Dev :=
  match s.mon.nextSlots with
  | none => s
  | some l =>
    let old := s.mon.slots
    let s := (s.modMon fun m => { m with slots := l, nextSlots := none }).set MON_CTRL_SLOTS l.length
    s.each ((List.range 8).filter fun k =>
      let i := s.get (MON_CICk_CFG_INPUT k)
      old.count i != l.count i) (·.cicSync ·)

/-- The slice that converts a slot: k modulo the slices in service, one alone in low-power mode (12 R415). -/
def Dev.slotSlice (s : Dev) (k : Nat) : Nat :=
  let l := s.mon.inServ
  if s.monLp then l.headD 0 else l.getD (k % max l.length 1) 0

/-- A conversion enters the measurement of a step of system calibration (12 R434), which takes 2^(8 + AVG) of them. -/
def Syscal.take (y : Syscal) (c16 : Int) (oor : Bool) : Syscal :=
  if 2 ^ (8 + y.avg) ≤ y.taken then y
  else if oor then { y with oor := true }
  else { y with sum := y.sum + c16, taken := y.taken + 1 }

/-- One conversion's results on its input's paths (12 R418–R421) and on the channels that take it (R422). -/
def Dev.monResult (s : Dev) (i : InputNo) (c16 : Int) (v : Nat) (oor : Bool) : Dev :=
  let t := s.timebase
  let s := s.modIn i fun n => { n with syscal := n.syscal.map (·.take c16 oor) }
  let s := (s.set (MON_INm_VAL_LAST i) v).modIn i fun n => { n with time := t }
  let s :=
    if oor then (s.modIn i fun n => { n with oorCount := min (n.oorCount + 1) 0xFFFF, oor := true }).count 0x0C 0
    else
      let n := s.mon.inp.get i
      let y : Int := s.get (MON_INm_VAL_COARSE i)
      let y' : Int := if n.valid then y + roundDiv ((v : Int) - y) (2 ^ s.get (MON_INm_CFG_COARSE_K i)) else v
      let s := s.modIn i fun n =>
        { n with sum := min (n.sum + v) (2 ^ 64 - 1), count := min (n.count + 1) (2 ^ 32 - 1)
                 min := if v < n.min then v else n.min, minAt := if v < n.min then t else n.minAt
                 max := if n.max < v then v else n.max, maxAt := if n.max < v then t else n.maxAt
                 valid := true, oor := false }
      s.set (MON_INm_VAL_COARSE i) y'.toNat
  s.each ((List.range 8).filter fun k => s.on (MON_CICk_CFG_EN k) && s.get (MON_CICk_CFG_INPUT k) == i.val) fun s k =>
    s.cicFeed k v oor

/-- MON_CONVERSION (12 R414–R421): the sequencer's next slot is converted; raw is the code at the converter. -/
def execMonConversion (raw : Int) (s : State) : Host.Outcome State Fault Refusal :=
  run s fun d =>
    if d.monRuns ∧ d.mon.inServ ≠ [] then
      let r : Dev × Option Nat :=
        match d.nextSlot d.mon.slots d.mon.pos with
        | some k => (d, some k)
        | none =>
          let d := d.slotSwap
          (d, d.nextSlot d.mon.slots 0)
      let d := r.1
      match r.2 with
      | none => d
      | some k =>
        let i : InputNo := Fin.ofNat 32 (d.mon.slots.getD k 0)
        let z := d.mon.slice.get (Fin.ofNat 5 (d.slotSlice k))
        let code := (clampInt 0 4095 raw).toNat
        let oor := z.flagged || code < d.get (MON_INm_LIM_VLO i) || d.get (MON_INm_LIM_VHI i) < code
        let c16 := trimmed z code
        (d.modMon fun m => { m with pos := k + 1 }).monResult i c16 (d.monValue i c16) oor
    else d

/-! ## Slices (12 R429–R433) -/

/-- A slice changed. -/
def Dev.modSlice (s : Dev) (n : Nat) (g : MonSlice → MonSlice) : Dev :=
  s.modMon fun m => { m with slice := vmod m.slice (Fin.ofNat 5 n) g }

/-- The retired slices that MON_SLICE names. -/
def Dev.monRetired (s : Dev) : List Nat := [s.get MON_SLICE_RET0, s.get MON_SLICE_RET1].filter (· != 7)

/-- No slice is free (12 R433). -/
def Dev.monDegraded (s : Dev) : Dev := s.iff (s.mon.free == []) fun s => s.raise MON_EVENTS_DEGRADED 2

/-- A slice retired (12 R431, R433): recorded, out of service, its place taken by the free slice or left out, which
synchronises every channel. -/
def Dev.monRetire (s : Dev) (n : Nat) : Dev :=
  let s := if s.get MON_SLICE_RET0 = 7 then s.set MON_SLICE_RET0 n
    else if s.get MON_SLICE_RET1 = 7 then s.set MON_SLICE_RET1 n else s
  let s := (s.flag MON_EVENTS_RETIRED true).cfgChanged 3
  let s := s.modMon fun m =>
    { m with cycle := m.cycle.map fun c => (c.1.filter (· != n), c.2.1, c.2.2.1, c.2.2.2 + 1) }
  if s.mon.inServ.contains n then
    match s.mon.free with
    | f :: r => (s.modMon fun m => { m with inServ := m.inServ.map fun k => if k = n then f else k, free := r }).monDegraded
    | [] =>
      let s := s.modMon fun m => { m with inServ := m.inServ.filter (· != n) }
      s.each (List.range 8) (·.cicSync ·)
  else (s.modMon fun m => { m with free := m.free.filter (· != n) }).monDegraded

/-- Offset and gain that a measurement gives. Against the reference (12 R429): the mean at analogue ground, and the span to the
reference over the 3,276 LSB that 1.2 V spans at 4,095 codes to 1.5 V (R412, Table 12.1). In a shadow window (R432), where the spec
does not say how they are formed: as 03 R98 forms them, the mean less the free slice's, and half the excess of the mean square
about that offset (DESIGN CHOICE, log entry 110). -/
def monMeas : MonSums → MonMeas
  | .reference ref gnd =>
    { off := (gnd : Rat) / 16384, gain := 100 * (((ref - gnd : Int) : Rat) / (16384 * 3276) - 1) }
  | .shadow own ownSq spare spareSq =>
    let off : Rat := ((own - spare : Int) : Rat) / 1024
    let sq : Rat := (ownSq : Rat) - 2 * off * own + 1024 * off * off
    { off := off / 16, gain := 50 * (sq * calRatio 1 spareSq.toNat - 1) }

/-- Two measurements of a slice agree (12 R429). -/
def monAgree (a b : MonMeas) : Bool := within (1 / 2) a.off b.off && within (1 / 10) a.gain b.gain

/-- Trims after an attempt: what the mean of two measurements found is taken off them (12 R429). -/
def Dev.monTrim (s : Dev) (n : Nat) (a b : MonMeas) : Dev :=
  s.modSlice n fun z =>
    { z with off := clampInt (-128) 127 (roundRat (z.off - 8 * (a.off + b.off)))
             gain := clampInt (-128) 127 (roundRat (z.gain - 50 * (a.gain + b.gain))) }

/-- Retries of a calibration counted (12 R429). -/
def Dev.monRetries (s : Dev) (n : Nat) : Dev :=
  s.iff (n != 0) fun s => (s.add MON_SLICE_CAL_RETRIES n).flag MON_EVENTS_CAL_RETRY true

/-- Start-up calibration begins (12 R429): the sequencer waits for its end. -/
def Dev.monStartup (s : Dev) : Dev := ((s.set MON_STATUS_STATE 1).modMon fun m => { m with cycle := none }).monRefresh

/-- The slices in service and the free one, by the retired ones: a retired slice's place is taken by slice 4 (12 R415,
R433). -/
def monArrange (ret : List Nat) : List Nat × List Nat :=
  [0, 1, 2, 3].foldl (fun a k =>
    if ret.contains k then (match a.2 with | f :: r => (a.1 ++ [f], r) | [] => a) else (a.1 ++ [k], a.2))
    ([], if ret.contains 4 then [] else [4])

/-- Start-up calibration ends (12 R429, R420, R424): every slice that is not retired has been measured; conversion starts. -/
def Dev.monStartupDone (d : Dev) (runs : List MonSliceRun) : Dev :=
  let a := monArrange d.monRetired
  let d := d.modMon fun m => { m with inServ := a.1, free := a.2, pos := 0, health := 0 }
  let d := d.each (runs.filter fun r => r.slice < 5 && !d.monRetired.contains r.slice) fun d r =>
    let l := (r.attempts.take 3).map fun e => (monMeas e.1, monMeas e.2)
    match l.findIdx? fun e => monAgree e.1 e.2 with
    | some i =>
      match l[i]? with
      | some e => ((d.monTrim r.slice e.1 e.2).monRetries i).modSlice r.slice fun z => { z with bad := 0, flagged := false }
      | none => d
    | none => if l.length = 3 then (d.monRetries 2).monRetire r.slice else d.monRetries (l.length - 1)
  let d := d.set MON_STATUS_STATE 2
  let d := d.each (List.finRange 32) fun d i => d.modIn i fun n => { n with valid := false, oor := false }
  (d.each (List.range 8) (·.cicSync ·)).monRefresh

/-- A calibration cycle begins (12 R432): the free slice first, or the newest in service, which is the one that was the spare;
then each other slice in service. -/
def Dev.monCycleStart (s : Dev) : Dev :=
  let l := s.mon.inServ
  let order := match s.mon.free with
    | f :: _ => f :: l
    | [] =>
      let n := if l.contains 4 then 4 else l.getLastD 0
      n :: l.filter (· != n)
  (s.modMon fun m => { m with cycle := some (order, [], 1, 0) }).monRefresh

/-- A cycle with nothing left to measure ends (12 R432, Table 12.3). -/
def Dev.monCycleCheck (s : Dev) : Dev :=
  match s.mon.cycle with
  | some ([], _, _, gone) =>
    ((s.modMon fun m => { m with cycle := none }).wakeAll (fun w => w == .monCycle) stOk (fun _ => gone)).monRefresh
  | _ => s.monRefresh

/-- Whether a window fails a slice: its conversions all have one code, or its mean and the free slice's, each corrected by its
own trims (DEDUCED: R416 corrects each conversion), differ by more than 4 LSB (12 R430). -/
def monWindowFails (z f : MonSlice) (codes : List (Nat × Nat)) : Bool :=
  let same := match codes with
    | [] => false
    | c :: r => r.all fun e => e.1 == c.1
  let diff := sumInt (codes.map fun e => trimmed z e.1 - trimmed f e.2)
  same || decide (64 * codes.length < diff.natAbs)

/-- MON_HEALTH_WINDOW_END (12 R430, R431): the codes that the slice under the check and the free slice gave for the same
samples. -/
def execMonHealthWindowEnd (codes : List (Nat × Nat)) (s : State) : Host.Outcome State Fault Refusal :=
  run s fun d =>
    let k := d.mon.health % max d.mon.inServ.length 1
    match d.monHealthOn, d.mon.inServ[k]? with
    | true, some n =>
      let d := d.modMon fun m => { m with health := (k + 1) % max m.inServ.length 1 }
      let slice := fun (i : Nat) => d.mon.slice.get (Fin.ofNat 5 i)
      if monWindowFails (slice n) (slice (d.mon.free.headD 0)) codes then
        let bad := (d.mon.slice.get (Fin.ofNat 5 n)).bad + 1
        let d := (d.modSlice n fun z => { z with bad := bad, flagged := true }).inc MON_SLICE_HLTH_FAILS
        if 2 ≤ bad then ((d.raise MON_EVENTS_SLICE_FAIL 2 (pay n)).monRetire n).monCycleStart else d.monRefresh
      else (d.modSlice n fun z => { z with bad := 0, flagged := false }).monRefresh
    | _, _ => d

/-- MON_CAL_MEASURE_END (12 R432): a measurement of the cycle's slice. -/
def execMonCalMeasureEnd (sums : MonSums) (s : State) : Host.Outcome State Fault Refusal :=
  run s fun d =>
    let m := monMeas sums
    match d.mon.cycle with
    | some (n :: r, got, attempt, gone) =>
      let put := fun (d : Dev) (c : List Nat × List MonMeas × Nat × Nat) => d.modMon fun m => { m with cycle := some c }
      match got with
      | [] => put d (n :: r, [m], attempt, gone)
      | a :: _ =>
        if monAgree a m then (put (d.monTrim n a m) (r, [], 1, gone)).monCycleCheck
        else if attempt < 3 then (put d (n :: r, [], attempt + 1, gone)).monRetries 1
        else ((put d (r, [], 1, gone)).monRetire n).monCycleCheck
    | _ => d

/-! ## Feedback sources (11 R383) -/

/-- Whether a loop that is not STOPPED takes a channel (12 Table 12.3). -/
def Dev.cicUsed (s : Dev) (k : Nat) : Bool :=
  allLoops.any fun (l : LoopNo) => s.get (BCE_LOOPn_STATE_STATE l) != 0 && !(s.loop.get l).coarse && (s.loop.get l).src == k
/-- Whether an input feeds a loop that is not STOPPED, straight or through a channel (12 Table 12.3). -/
def Dev.inputUsed (s : Dev) (i : Nat) : Bool :=
  (allLoops.any fun (l : LoopNo) => s.get (BCE_LOOPn_STATE_STATE l) != 0 && (s.loop.get l).coarse && (s.loop.get l).src == i) ||
  (List.range 8).any fun k => s.get (MON_CICk_CFG_INPUT k) == i && s.cicUsed k

/-- Sub-step 3 has something to act on (12 R428): LP_SW is 0, and under LP_GUARD no loop in ARMING or RUN takes a source
whose output interval at the low-power slot time of 4 µs would exceed its PERIOD. -/
def Dev.monMayShed (s : Dev) : Bool :=
  let slots := (s.mon.slots.filter fun i => s.on (MON_INm_CFG_EN i)).length
  let slow := fun (l : LoopNo) =>
    let st := s.get (BCE_LOOPn_STATE_STATE l)
    let q := s.loop.get l
    let i := if q.coarse then q.src else s.get (MON_CICk_CFG_INPUT q.src)
    let dec := if q.coarse then 1 else s.get (MON_CICk_CFG_DEC q.src)
    let share := if s.on (MON_INm_CFG_EN i) then s.mon.slots.count i else 0
    (st == 1 || st == 2) && decide (s.get (BCE_LOOPn_STATE_PERIOD l) * share < 4 * slots * dec)
  !s.on MON_CTRL_LP_SW && !(s.on MON_CTRL_LP_GUARD && allLoops.any slow)

/-! ## System calibration (12 R434) -/

/-- MON_SYSCAL's input. -/
def Desc.input (d : Desc) : InputNo := Fin.ofNat 32 (d.bits 16 4 0)

/-- New coefficients of an input (12 R434, R435): its channels are synchronised and its coarse path starts afresh. -/
def Dev.monCoefs (s : Dev) (i : InputNo) (off gain : Nat) : Dev :=
  let s := (s.set (MON_INm_CAL_OFFSET i) off).set (MON_INm_CAL_GAIN i) gain
  ((((s.modIn i fun n => { n with valid := false }).cicSyncInput i).flag MON_EVENTS_SYSCAL_DONE true).cfgChanged 3)

/-- A 16-bit coefficient: as computed where it fits, else what the spec leaves open. -/
def coef16 (lo hi v : Int) : Nat := if lo ≤ v ∧ v ≤ hi then codeOf 16 v else (Config.over16 v).toNat

/-- A step of system calibration started (12 R434). -/
def Dev.syscalStart (s : Dev) (c : Desc) (target : Option Nat) : Dev :=
  let i := Desc.input c
  if (s.mon.inp.get i).syscal.isSome then s.finish c stBusy 0
  else (s.modIn i fun n => { n with syscal := some { target := target, avg := c.bits 18 2 0 } }).park (.syscal i) c

/-- What every step of MON_SYSCAL checks first (12 Table 12.3). -/
def Dev.syscal (s : Dev) (c : Desc) (act : Dev → Desc → Dev) : Dev :=
  s.descriptor c fun s c =>
    if 4 < c.bits 18 2 0 ∨ c.bits 17 1 0 = 3 then s.finish c stInvalid 0
    else if c.bits 17 1 0 = 1 ∧ (s.mon.inp.get (Desc.input c)).zero.isNone then s.finish c stInvalid 0
    else if s.inputUsed (Desc.input c) then s.finish c stRefused 0
    else act s c

/-- MON_SYSCAL ZERO (12 R434). -/
def execMonSyscalZero (c : Desc) (s : State) : Host.Outcome State Fault Refusal :=
  run s fun d => d.syscal c fun d c => d.syscalStart c none

/-- MON_SYSCAL FULL (12 R434). -/
def execMonSyscalFull (c : Desc) (s : State) : Host.Outcome State Fault Refusal :=
  run s fun d => d.syscal c fun d c => d.syscalStart c (some (c.bytes 20 2))

/-- MON_SYSCAL DEFAULT (12 R434). -/
def execMonSyscalDefault (c : Desc) (s : State) : Host.Outcome State Fault Refusal :=
  run s fun d => d.syscal c fun d c => (d.monCoefs (Desc.input c) 0 0x4000).finish c stOk (0x4000 * 2 ^ 16)

/-- MON_SYSCAL_MEASURE_END (12 R434): a measurement that has its 2^(8 + AVG) conversions gives a mean, and two means that agree
within 8 units decide the step; one with a conversion out of range ends it. -/
def execMonSyscalMeasureEnd (i : InputNo) (s : State) : Host.Outcome State Fault Refusal :=
  run s fun d =>
    match (d.mon.inp.get i).syscal with
    | none => d
    | some y =>
      let put := fun (d : Dev) (v : Option Syscal) => d.modIn i fun n => { n with syscal := v }
      let done := fun (d : Dev) (st res : Nat) => (put d none).wakeOne (.syscal i) st res
      if y.oor then done d stRefused 0
      else if y.taken < 2 ^ (8 + y.avg) then d
      else
        let mean : Rat := (y.sum : Rat) / y.taken
        let y := { y with sum := 0, taken := 0 }
        match y.got with
        | [] => put d (some { y with got := [mean] })
        | m0 :: _ =>
          if !within 8 m0 mean then
            (if y.attempt < 3 then (put d (some { y with got := [], attempt := y.attempt + 1 })).monRetries 1
             else done d stCheckFail 0)
          else
            let m := roundRat ((m0 + mean) / 2)
            match y.target with
            | none => done (d.modIn i fun n => { n with zero := some m }) stOk (codeOf 32 m)
            | some t =>
              let z := (d.mon.inp.get i).zero.getD 0
              if m - z < 1024 then done d stRefused 0
              else
                let gain := coef16 0 65535 (roundDiv (t * 16384) (m - z).toNat)
                let off := coef16 (-32768) 32767 z
                done ((d.monCoefs i off gain).modIn i fun n => { n with zero := none }) stOk (2 ^ 16 * gain + off)

/-! ## Descriptors (12 R438, R439) -/

/-- MON_CONFIG INPUT (12 Tables 12.2, 12.3). -/
def execMonConfigInput (c : Desc) (s : State) : Host.Outcome State Fault Refusal :=
  run s fun d => d.descriptor c fun d c =>
    let i : InputNo := Fin.ofNat 32 (c.bits 17 4 0)
    let bias := c.bits 18 2 1
    let vlo := c.bytes 19 2 % 4096
    let vhi := c.bytes 21 2 % 4096
    let rb := c.bits 23 4 0
    let en := c.flag 18 0
    if vhi < vlo ∨ bias = 3 ∨ (bias ≠ 0 ∧ 20 ≤ i.val) ∨ 23 < rb then d.finish c stInvalid 0
    else if ¬ en ∧ d.inputUsed i then d.finish c stRefused 0
    else
      let d := d.iff (en && !d.on (MON_INm_CFG_EN i)) fun d => d.modIn i fun n => { n with valid := false }
      let d := (((d.flag (MON_INm_CFG_EN i) en).set (MON_INm_CFG_BIAS i) bias).set (MON_INm_CFG_COARSE_K i)
        (c.bits 18 5 3)).set (MON_INm_CFG_RB_SEL i) rb
      ((d.set (MON_INm_LIM_VLO i) vlo).set (MON_INm_LIM_VHI i) vhi).finish c stOk 0

/-- MON_CONFIG SLOTS (12 Tables 12.2, 12.3). -/
def execMonConfigSlots (c : Desc) (s : State) : Host.Outcome State Fault Refusal :=
  run s fun d => d.descriptor c fun d c =>
    let n := c.length
    if 64 < n ∨ d.spanBad c n then d.finish c stInvalid 0
    else if n = 0 then d.finish c stOk (d.get MON_CTRL_SLOTS)
    else
      let r := d.getData c 0 n
      match r.2.2 with
      | .failed => r.1.finish c stMemUe 0
      | t =>
        let l := r.2.1.map BitVec.toNat
        if l.any fun i => decide (31 < i) then r.1.finish c stInvalid 0
        else if (List.range 32).any fun i => r.1.inputUsed i && !l.contains i then r.1.finish c stRefused 0
        else (r.1.modMon fun m => { m with nextSlots := some l }).finish c (statusOf t) n

/-- MON_CONFIG POWER (12 R427, Table 12.3). -/
def execMonConfigPower (c : Desc) (s : State) : Host.Outcome State Fault Refusal :=
  run s fun d => d.descriptor c fun d c =>
    let d := ((d.flag MON_CTRL_LP_SW (c.flag 17 0)).flag MON_CTRL_LP_GUARD (c.flag 17 1)).monMode
    d.finish c stOk (bnat d.monLp)

/-- MON_CONFIG CAL_CYCLE (12 R432, Table 12.3). -/
def execMonConfigCalCycle (c : Desc) (s : State) : Host.Outcome State Fault Refusal :=
  run s fun d => d.descriptor c fun d c =>
    if d.monLp ∨ ¬ d.monRuns ∨ d.mon.inServ.length + d.mon.free.length < 2 then d.finish c stRefused 0
    else if d.mon.cycle.isSome then d.finish c stBusy 0
    else d.monCycleStart.park .monCycle c

/-- An input's record (12 Table 12.4). -/
def Dev.monRecord (s : Dev) (i : InputNo) : List Byte :=
  let n := s.mon.inp.get i
  let none := n.count == 0
  bytesOf 8 (if none then 0 else n.sum) ++ bytesOf 4 n.count ++ bytesOf 2 (if none then 0xFFFF else n.min) ++
  bytesOf 2 (if none then 0 else n.max) ++ bytesOf 2 (s.get (MON_INm_VAL_COARSE i)) ++
  bytesOf 2 (s.get (MON_INm_VAL_LAST i)) ++ bytesOf 2 n.oorCount ++
  pay (bnat none + 2 * bnat n.oor + 4 * s.get (MON_INm_CFG_EN i)) ++ pay i ++ bytesOf 8 n.time

/-- A channel's record (12 Table 12.5). -/
def Dev.cicRecord (s : Dev) (k : Nat) : List Byte :=
  let c := s.mon.cic.get (Fin.ofNat 8 k)
  let out := s.get (MON_CICk_OUT_OUT k)
  bytesOf 2 out ++
  pay (s.get (MON_CICk_OUT_VALID k) + 2 * s.get (MON_CICk_OUT_OOR k) + 4 * bnat (s.get (MON_CICk_TH_UTH k) < out) +
    8 * bnat (out < s.get (MON_CICk_TH_LTH k))) ++
  pay k ++ bytesOf 4 c.outputs ++ bytesOf 8 c.time

/-- An input's accumulators and trackers cleared after a read (12 R419). -/
def Dev.monClear (s : Dev) (i : Nat) : Dev :=
  s.modIn (Fin.ofNat 32 i) fun n => { n with sum := 0, count := 0, min := 0xFFFF, max := 0, oorCount := 0 }

/-- MON_READ (12 R419, R438, Table 12.2). -/
def execMonRead (c : Desc) (s : State) : Host.Outcome State Fault Refusal :=
  run s fun d => d.descriptor c fun d c =>
    let cic := c.flag 16 0
    let mask := c.bytes 20 4
    let sel := maskList 32 mask
    let size := (if cic then 16 else 32) * sel.length
    if mask = 0 ∨ (cic ∧ 256 ≤ mask) ∨ (c.length ≠ 0 ∧ c.length ≠ size) ∨ d.spanBad c c.length then
      d.finish c stInvalid 0
    else if c.length = 0 then d.finish c stOk 0
    else
      let l := if cic then sel.flatMap d.cicRecord else sel.flatMap fun i => d.monRecord (Fin.ofNat 32 i)
      let w := d.putData c 0 l
      match w.2 with
      | .failed => w.1.finish c stMemUe 0
      | t =>
        let d := w.1.iff (c.flag 17 0 && !cic) fun d => d.each sel (·.monClear ·)
        d.finish c (statusOf t) size

/-- CIC_CONFIG (12 R424, Tables 12.2, 12.3). -/
def execCicConfig (c : Desc) (s : State) : Host.Outcome State Fault Refusal :=
  run s fun d => d.descriptor c fun d c =>
    let k := c.bits 16 2 0
    let write := c.flag 17 0
    let order := c.bits 19 2 0
    let dec := c.bytes 20 2 % 8192
    let input := c.bits 18 4 0
    let moved := write && (input != d.get (MON_CICk_CFG_INPUT k) || order != d.get (MON_CICk_CFG_ORDER k) ||
      dec != d.get (MON_CICk_CFG_DEC k))
    if write ∧ (order < 3 ∨ 5 < order ∨ dec < 4 ∨ 4096 < dec ∨
        (c.flag 28 0 ∧ c.flag 28 1 ∧ c.bytes 22 2 < c.bytes 24 2)) then d.finish c stInvalid 0
    else if (moved ∨ c.flag 17 1) ∧ d.cicUsed k then d.finish c stRefused 0
    else
      let starts := write && c.flag 28 3 && !d.on (MON_CICk_CFG_EN k)
      let d := d.iff write fun d =>
        let d := ((d.set (MON_CICk_CFG_INPUT k) input).set (MON_CICk_CFG_ORDER k) order).set (MON_CICk_CFG_DEC k) dec
        let d := ((d.flag (MON_CICk_CFG_UP_EN k) (c.flag 28 0)).flag (MON_CICk_CFG_LO_EN k) (c.flag 28 1)).flag
          (MON_CICk_CFG_LOG k) (c.flag 28 2)
        let d := (d.flag (MON_CICk_CFG_EN k) (c.flag 28 3)).set (MON_CICk_TH_UTH k) (c.bytes 22 2)
        (d.set (MON_CICk_TH_LTH k) (c.bytes 24 2)).set (MON_CICk_HYS_HYS k) (c.bytes 26 2)
      (d.iff (moved || starts || c.flag 17 1) (·.cicSync k)).finish c stOk 0

end Sys2Proof.Machine
end

