-- ==== Sys2Proof/Machine/Bce.lean ====
section
/-! DEFINITION. The bias control engine: loops, coefficient banks and tables, faults, the orderly Quench's ramp, injection and
capture, and the clears that act on loops and channels (11 R380–R411). -/

namespace Sys2Proof.Machine

open Reg

/-! ## Arithmetic (11 R385, R386) -/

/-- Saturated to the signed 32-bit range (11 R385). -/
def sat32 (v : Int) : Int := clampInt (-(2 ^ 31)) (2 ^ 31 - 1) v

/-- A sum, every partial sum saturated (11 R385). -/
def satSum (l : List Int) : Int := l.foldl (fun a b => sat32 (a + b)) 0

/-- A term C·x with its shift (11 R385). -/
def biasTerm (c : Int × Int) (x : Int) : Int :=
  let v := c.1 * x
  sat32 (if 0 ≤ c.2 then v * 2 ^ c.2.toNat else (v + 2 ^ ((-c.2).toNat - 1)) / 2 ^ (-c.2).toNat)

/-- A bank from its image (11 Table 11.3). -/
def bankOf (l : List Byte) : Bank :=
  let w := fun (i : Nat) => signedOf 32 (ofBytes ((l.drop (4 * i)).take 4))
  let sh := fun (i : Nat) => signedOf 8 (ofBytes ((l.drop (60 + i)).take 1))
  { sp := w 0, bias := w 1, kp := (w 2, sh 0), ki := (w 3, sh 1), kd := (w 4, sh 2), iMin := w 5, iMax := w 6
    outMin := w 7, outMax := w 8, init := w 9
    biq := (List.range 5).map fun i => (w (10 + i), sh (3 + i)) }

/-- Whether a bank is valid for a class: H where high is true (11 R400). -/
def Bank.good (b : Bank) (high : Bool) : Bool :=
  let top : Int := if high then 65535 else 16383
  decide (b.iMin ≤ b.iMax) && decide (b.outMin ≤ b.outMax) && decide (0 ≤ b.outMin) && decide (b.outMax ≤ top) &&
  ([b.kp, b.ki, b.kd] ++ b.biq).all fun c => decide (-16 ≤ c.2) && decide (c.2 ≤ 15)

/-- The class H table's code at a position (11 R391). -/
def tableCode (t : Vector Nat 65) (p : Nat) : Nat :=
  let i := p / 1024
  let a : Int := t.toList.getD i 0
  let b : Int := t.toList.getD (i + 1) 0
  (a + ((b - a) * (p % 1024 : Nat) + 512) / 1024).toNat

/-! ## Loop states (11 R394) -/

/-- Loop state codes (11 Table 11.2). -/
def blStopped : Nat := 0
def blArming : Nat := 1
def blRun : Nat := 2
def blFaultHold : Nat := 3
def blFaultClear : Nat := 4
def blHalted : Nat := 5
def blRamp : Nat := 6

/-- A loop's state. -/
def Dev.loopState (s : Dev) (l : LoopNo) : Nat := s.get (BCE_LOOPn_STATE_STATE l)
/-- A loop's channel. -/
def Dev.loopChan (s : Dev) (l : LoopNo) : AuxCh := Fin.ofNat 24 (s.get (BCE_LOOPn_STATE_CHANNEL l))
/-- Whether a loop has been configured: its PERIOD is not 0 (11 Table 11.9). -/
def Dev.loopSet (s : Dev) (l : LoopNo) : Bool := s.on (BCE_LOOPn_STATE_PERIOD l)
/-- A loop's integrator. -/
def Dev.integ (s : Dev) (l : LoopNo) : Int := s.geti (BCE_LOOPn_INTEG_VALUE l)

/-- A code written by a loop to its channel (11 Table 11.10). -/
def Dev.loopTarget (s : Dev) (l : LoopNo) (v : Nat) : Dev := (s.set (BCE_LOOPn_FB_TARGET l) v).auxTarget (s.loopChan l) v

/-- A capture ends (11 R409). -/
def Dev.bceCapEnd (s : Dev) (status : Nat) : Dev :=
  let n := s.bceCap.count
  ({ s with bceCap := { s.bceCap with on := false } }.flag BCE_EVENTS_CAP_DONE true).wakeAll (fun w => w == WaitKind.bceCapture) status
    (fun _ => n)

/-- A pending swap put into the active bank (11 R401, R402). -/
def Dev.swapTake (s : Dev) (l : LoopNo) (reclamp : Bool) : Dev :=
  match (s.loop.get l).pend with
  | none => s
  | some b =>
    let i := clampInt b.iMin b.iMax (s.integ l)
    let s := (s.modLoop l fun q => { q with bank := b, pend := none }).flag (BCE_LOOPn_STATE_SWAP_PEND l) false
    let s := s.iff reclamp fun s => s.seti (BCE_LOOPn_INTEG_VALUE l) i
    (s.flag BCE_EVENTS_SWAP_DONE true).wakeOk (.loopSwap l) (codeOf 32 (s.integ l))

/-- A pending table put in use (11 R404). -/
def Dev.tableTake (s : Dev) (l : LoopNo) : Dev :=
  match (s.loop.get l).pendTable with
  | none => s
  | some t => (s.modLoop l fun q => { q with table := t, pendTable := none }).wakeOk (.loopTable l) 0

/-- An injection ends before its samples are done (11 Table 11.5). -/
def Dev.injectEnd (s : Dev) (l : LoopNo) : Dev :=
  match (s.loop.get l).inj with
  | none => s
  | some j =>
    ((s.modLoop l fun q => { q with inj := none }).flag (BCE_LOOPn_STATE_INJ l) false).wakeAll (fun w => w == .loopInject l)
      stAborted (fun _ => j.k)

/-- The masks of BCE_STATUS (11 Table 11.6). -/
def Dev.bceRefresh (s : Dev) (l : LoopNo) : Dev :=
  let st := s.loopState l
  (s.putBit BCE_STATUS_RUN_MASK l (st == blRun)).putBit BCE_STATUS_FAULT_MASK l
    (st == blFaultHold || st == blFaultClear || st == blHalted)

/-- A loop enters a state (11 Table 11.2). One that leaves RUN ends its injection and capture and takes what was pending
(R402–R404); a start that waits in ARMING completes with the state that ends it, TIMEOUT for a fault. -/
def Dev.loopTo (s : Dev) (l : LoopNo) (st cause : Nat) : Dev :=
  let old := s.loopState l
  let s := s.iff (old == blRun && st != blRun) fun s =>
    let s := s.injectEnd l
    let s := s.iff (s.bceCap.on && s.bceCap.loop == l.val) (·.bceCapEnd stAborted)
    (((s.swapTake l false).tableTake l).modLoop l fun q => { q with result := none, hist := [], invalid := 0 })
  let s := ((s.set (BCE_LOOPn_STATE_STATE l) st).set (BCE_LOOPn_STATE_CAUSE l) cause).bceRefresh l
  if old = blArming ∧ st ≠ blArming then
    (if st = blRun then s.wakeOk (.loopStart l) st
     else s.wakeAll (fun w => w == .loopStart l) (if st = blFaultHold ∨ st = blFaultClear then stTimeout else stAborted)
       (fun _ => st))
  else s

/-- A loop comes to STOPPED; the stops that wait for it complete (11 Table 11.5). -/
def Dev.loopStop (s : Dev) (l : LoopNo) (cause : Nat) : Dev :=
  (s.loopTo l blStopped cause).wakeAll (fun w => w == .loopStop l) stOk

/-- The FAULT_ACT state entered (11 Table 11.2): held, or at the channel's clear code through the slew limiter. -/
def Dev.loopFaulted (s : Dev) (l : LoopNo) (cause : Nat) : Dev :=
  if (s.loop.get l).faultAct then
    let s := s.loopTo l blFaultClear cause
    s.auxTarget (s.loopChan l) (s.auxClearCode (s.loopChan l))
  else s.loopTo l blFaultHold cause

/-- Lost or frozen feedback (11 R399). -/
def Dev.loopFault (s : Dev) (l : LoopNo) (cause : Nat) : Dev :=
  ((s.loopFaulted l cause).inc BCE_COUNT_FAULTS).raise (if cause = 2 then BCE_EVENTS_FB_FROZEN else BCE_EVENTS_FB_INVALID) 2
    (pay l ++ pay cause)

/-- A loop starts or restarts (11 R388, R390, R402): ARMING, with the integrator at INIT for mode 0, within the bank's clamp. -/
def Dev.loopStart (s : Dev) (l : LoopNo) (keep : Bool) : Dev :=
  let b := (s.loop.get l).bank
  let i := clampInt b.iMin b.iMax (if keep then s.integ l else b.init)
  let s := s.modLoop l fun q => { q with fb1 := none, fresh := !keep, result := none, invalid := 0, hist := [] }
  (s.seti (BCE_LOOPn_INTEG_VALUE l) i).loopTo l blArming 0

/-! ## Injection and capture (11 R408, R409) -/

/-- The n-th output bit of the generator x^w + x^(w−1) + 1 that starts from all ones. -/
def lfsrBit (w n : Nat) : Bool :=
  let r := (List.range (n % (2 ^ w - 1) + 1)).foldl (fun v _ =>
    (2 * v + bnat (bitOf v (w - 1) != bitOf v (w - 2))) % 2 ^ w) (2 ^ w - 1)
  bitOf r 0

/-- An injection's value at sample k (11 R408). -/
def Inject.value (j : Inject) : Int :=
  let sign := fun (b : Bool) => if b then (j.amp : Int) else -(j.amp : Int)
  match j.wave with
  | 1 => sineOf j.k j.wper j.amp
  | 2 => sign (j.k % j.wper < j.wper / 2)
  | 3 => sign (lfsrBit 7 (j.k / j.chip))
  | 4 => sign (lfsrBit 15 (j.k / j.chip))
  | _ => 0

/-- A period of an injection passed; after COUNT of them it ends OK (11 Table 11.5). -/
def Dev.injectStep (s : Dev) (l : LoopNo) : Dev :=
  match (s.loop.get l).inj with
  | none => s
  | some j =>
    let j := { j with k := j.k + 1 }
    let s := s.modLoop l fun q => { q with inj := some j }
    if j.count ≠ 0 ∧ j.count ≤ j.k then
      ((s.modLoop l fun q => { q with inj := none }).flag (BCE_LOOPn_STATE_INJ l) false).wakeAll (fun w => w == .loopInject l)
        stOk (fun _ => j.k)
    else s

/-- The byte offset in memory 1 at which the engine's capture buffer starts: the top 32 KiB (11 R409). -/
def bceCapBase : Nat := 0x78000

/-- A period of the captured loop: one record per DECIM + 1 periods, from the start that START names (11 R409). -/
def Dev.bceCapture (s : Dev) (l : LoopNo) (starts : Bool) (signal : Nat → Int) : Dev :=
  let c := s.bceCap
  if !c.on || c.loop != l.val || (c.waitInj && !starts) then s
  else if c.skip ≠ 0 then { s with bceCap := { c with waitInj := false, skip := c.skip - 1 } }
  else
    let word := bytesOf 4 (codeOf 32 (signal c.sigA)) ++ bytesOf 4 (codeOf 32 (signal c.sigB))
    let s := s.putWord 1 (bceCapBase / 8 + c.count) (.full (BitVec.ofNat 64 (ofBytes word)))
    let s := { s with bceCap := { c with waitInj := false, skip := c.decim, count := c.count + 1 } }
    s.iff (decide (4096 ≤ c.count + 1)) (·.bceCapEnd stOk)

/-! ## Periods (11 R386–R393, R397–R403) -/

/-- A loop's source: its latest value and whether a sample of it is valid (11 R397). -/
def Dev.feedback (s : Dev) (l : LoopNo) : Nat × Bool :=
  let q := s.loop.get l
  if q.coarse then
    let n := s.mon.inp.get (Fin.ofNat 32 q.src)
    (s.get (MON_INm_VAL_COARSE q.src), n.valid && !n.oor)
  else (s.get (MON_CICk_OUT_OUT q.src), s.on (MON_CICk_OUT_VALID q.src) && !s.on (MON_CICk_OUT_OOR q.src))

/-- The frozen test over the last 16 × FRZ_N samples (11 R398). -/
def Loop.frozen (q : Loop) : Bool :=
  let n := 16 * q.frzN
  if n = 0 ∨ q.hist.length < n then false
  else
    let fb := q.hist.map (·.1)
    let tg := q.hist.map (·.2)
    let span := fun (l : List Int) => l.foldl max (l.headD 0) - l.foldl min (l.headD 0)
    decide (span fb ≤ 16) && decide (max q.frzM 1 < maxNat tg - minNat (tg.headD 0) tg)

/-- One period's computation (11 R386–R391): integrator, u, saturation, the class's output stage; the result waits for the
half period. -/
def Dev.loopCompute (s : Dev) (l : LoopNo) (fb : Int) : Dev :=
  let q := s.loop.get l
  let b := q.bank
  let σ : Int := if q.pol then -1 else 1
  let w := (q.inj.map Inject.value).getD 0
  let inAt := (q.inj.map fun j => !j.out).getD false
  let outAt := (q.inj.map fun j => j.out).getD false
  let e := satSum [sat32 (σ * (b.sp - fb)), if inAt then w else 0]
  let P := biasTerm b.kp e
  let dI := biasTerm b.ki e
  let D := sat32 (-σ * biasTerm b.kd (fb - q.fb1.getD fb))
  let i0 := s.integ l
  let trial := satSum [P, D, b.bias, i0, dI]
  let hi := decide (b.outMax < trial)
  let lo := decide (trial < b.outMin)
  let i1 := if (hi ∧ 0 < dI) ∨ (lo ∧ dI < 0) then i0 else clampInt b.iMin b.iMax (sat32 (i0 + dI))
  let u := satSum [P, D, b.bias, i1]
  let inside := clampInt b.outMin b.outMax
  let uc := inside u
  let high := s.on (BCE_LOOPn_STATE_CLASS l)
  let z : Int × Int × Int × Int := if q.fresh then (uc, uc, uc, uc) else q.biq
  let y :=
    if !high && q.notch then
      let c := fun (i : Nat) => b.biq.getD i (0, 0)
      inside (satSum [biasTerm (c 0) uc, biasTerm (c 1) z.1, biasTerm (c 2) z.2.1, -biasTerm (c 3) z.2.2.1,
        -biasTerm (c 4) z.2.2.2])
    else uc
  let pos := inside (y + if outAt then w else 0)
  let code := if high then tableCode q.table pos.toNat else pos.toNat
  let s := s.modLoop l fun q =>
    { q with fb1 := some fb, fresh := false, biq := (uc, z.1, y, z.2.2.1), result := some code }
  let s := (s.seti (BCE_LOOPn_INTEG_VALUE l) i1).seti (BCE_LOOPn_U_VALUE l) u
  let s := (s.flag (BCE_LOOPn_STATE_SAT_HI l) hi).flag (BCE_LOOPn_STATE_SAT_LO l) lo
  let s := s.iff (hi || lo) fun s => s.flag BCE_EVENTS_SAT true
  let signal : Nat → Int := fun n =>
    match n with
    | 0 => fb
    | 1 => e
    | 2 => u
    | 3 => code
    | 4 => i1
    | _ => w
  (s.bceCapture l ((q.inj.map fun j => j.k == 0).getD false) signal).injectStep l

/-- LOOP_SAMPLE (11 R392, R394–R403): phase 0 of a loop. A stop that waits acts here. An invalid sample short of INV_COUNT
computes nothing (log entry 19). -/
def execLoopSample (l : LoopNo) (s : State) : Host.Outcome State Fault Refusal :=
  run s fun d =>
    let st := d.loopState l
    if ¬ d.loopSet l then d
    else if (d.waiting (.loopStop l)).isSome then d.loopStop l 0
    else if st = blStopped ∨ st = blRamp then d
    else
      let f := d.feedback l
      let d := d.set (BCE_LOOPn_FB_FB l) f.1
      if st = blArming then
        (if f.2 then (d.loopTo l blRun 0).loopCompute l f.1 else d)
      else if st = blRun then
        let q := d.loop.get l
        if f.2 then
          let hist := ((f.1 : Int), d.get (BCE_LOOPn_FB_TARGET l)) :: q.hist
          let q := { q with invalid := 0, hist := hist.take (16 * q.frzN) }
          let d := d.modLoop l fun _ => q
          if q.frozen then d.loopFault l 2 else ((d.swapTake l true).tableTake l).loopCompute l f.1
        else if max q.invCount 1 ≤ q.invalid + 1 then d.loopFault l 1
        else ((d.swapTake l true).tableTake l).modLoop l fun q => { q with invalid := q.invalid + 1, result := none }
      else d

/-- LOOP_OUTPUT (11 R392, R393): the half period; a result that is not ready leaves the target as it is. -/
def execLoopOutput (l : LoopNo) (late : Bool) (s : State) : Host.Outcome State Fault Refusal :=
  run s fun d =>
    match (d.loop.get l).result with
    | none => d
    | some v =>
      let d := d.modLoop l fun q => { q with result := none }
      if late then (((d.inc BCE_COUNT_LATE_COUNT).flag BCE_EVENTS_LATE true).count 0x0B 0)
      else d.loopTarget l v

/-- LOOP_ARM_TIMEOUT (11 R394): 10 ms without a valid sample. -/
def execLoopArmTimeout (l : LoopNo) (s : State) : Host.Outcome State Fault Refusal :=
  run s fun d => if d.loopState l = blArming then d.loopFaulted l 6 else d

/-! ## Ramp, clears and Quench (11 R380–R382, R394, R405, R406) -/

/-- Loops in RAMP. -/
def Dev.ramping (s : Dev) : List LoopNo := allLoops.filter fun l => s.loopState l == blRamp

/-- The ramp is over: its loops stop, and the orderly Quench goes on with its flush (17 Table 17.3 step 4). -/
def Dev.rampEnd (s : Dev) : Dev :=
  let s := s.each s.ramping fun s l => s.loopStop l 5
  s.iff (s.thm.orderly == 3) fun s =>
    (s.modThm fun t => { t with orderly := 4 }).modEvr fun e => { e with due := true, force := true }

/-- The ramp ends once every RAMP loop's output is at its clear code (11 R405). -/
def Dev.rampCheck (s : Dev) : Dev :=
  if s.thm.orderly = 3 ∧ s.ramping.all fun l => s.get (AUX_CHm_STATUS_CODE (s.loopChan l)) == s.auxClearCode (s.loopChan l)
  then s.rampEnd else s

/-- Step 3 of an orderly Quench: every QRAMP loop in RUN, ARMING or a fault state enters RAMP (11 R405, R394). -/
def Dev.rampStart (s : Dev) : Dev :=
  let s := s.modThm fun t => { t with orderly := 3 }
  let s := s.each (allLoops.filter fun (l : LoopNo) =>
    (s.loop.get l).qramp && [blRun, blArming, blFaultHold, blFaultClear].contains (s.loopState l)) fun s l => s.loopTo l blRamp 5
  s.rampCheck

/-- AUX_SLEW_TICK (11 R378, R405): a RAMP loop's target steps toward the clear code, and the output follows its target. -/
def execAuxSlewTick (c : AuxCh) (s : State) : Host.Outcome State Fault Refusal :=
  run s fun d =>
    if (d.aux.get c).driven then
      let d := d.each (d.ramping.filter fun l => d.loopChan l == c) fun d l =>
        d.loopTarget l (stepToward (d.get (AUX_CHm_STATUS_TARGET c)) (d.auxClearCode c) (d.loop.get l).qstep)
      (d.auxSlew c).rampCheck
    else d

/-- LOOP_RAMP_END (11 R405): 1 ms has passed; an output away from its clear code takes it at once and the loop is cut. -/
def execLoopRampEnd (s : State) : Host.Outcome State Fault Refusal :=
  run s fun d =>
    if d.thm.orderly = 3 then
      let d := d.each d.ramping fun d l =>
        let c := d.loopChan l
        if d.get (AUX_CHm_STATUS_CODE c) = d.auxClearCode c then d
        else ((d.auxToClear c).inc BCE_COUNT_RAMP_CUTS).flag BCE_EVENTS_RAMP_CUT true
      d.rampEnd
    else d

/-- AUX_CLR_ASSERT (11 R380, R394). -/
def execAuxClrAssert (s : State) : Host.Outcome State Fault Refusal :=
  run s fun d =>
    if d.on AUX_STATUS_CLR_PIN then d
    else
      let d := (d.flag AUX_STATUS_CLR_PIN true).flag AUX_EVENTS_CLR_ASSERTED true
      let d := d.each (allLoops.filter fun l => d.loopState l != blStopped) fun d l =>
        (d.loopTo l blHalted 3).flag BCE_EVENTS_HALTED true
      ((d.each allAux (·.auxClear ·)).auxHeldRefresh).rampCheck

/-- AUX_CLR_DEASSERT (11 R382). -/
def execAuxClrDeassert (s : State) : Host.Outcome State Fault Refusal :=
  run s fun d => (d.flag AUX_STATUS_CLR_PIN false).auxHeldRefresh

/-- AUX_POWER_CLEAR (11 R381): VDD_IO and VDD_AUX are in range, and every channel drives its clear code. -/
def execAuxPowerClear (s : State) : Host.Outcome State Fault Refusal :=
  run s fun d =>
    (d.each allAux fun d c => (d.modAux c fun a => { a with driven := true }).auxClear c).auxHeldRefresh

/-- What a hard Quench does to loops and channels (11 R380, R394). -/
def Dev.bceHardQuench (s : Dev) : Dev :=
  let s := s.each (allLoops.filter fun l => s.loopState l != blStopped) fun s l => s.loopStop l 4
  (s.each allAux (·.auxClear ·)).auxHeldRefresh

/-- A port goes to OFF in an orderly Quench: its loops stop, their targets at the clear code (11 R406). -/
def Dev.bcePortOff (s : Dev) (p : Port) : Dev :=
  s.each (allLoops.filter fun (l : LoopNo) => s.loopSet l && (s.loop.get l).port == p.val) fun s l =>
    let s := s.iff (s.loopState l != blStopped) fun s => s.loopStop l 5
    s.loopTarget l (s.auxClearCode (s.loopChan l))

/-- The engine's Bellows vote (11 R407). -/
def Dev.bceVote (s : Dev) : Bool :=
  allLoops.any (fun l => s.loopState l != blStopped) ||
  allAux.any fun c => s.get (AUX_CHm_STATUS_CODE c) != s.auxClearCode c

/-- The monitor's Bellows vote (12 R437). -/
def Dev.monVote (s : Dev) : Bool :=
  allLoops.any (fun l => s.loopState l == blArming || s.loopState l == blRun) ||
  (List.range 8).any fun k => s.on (MON_CICk_CFG_UP_EN k) || s.on (MON_CICk_CFG_LO_EN k)

/-! ## Descriptors (11 R410, R411) -/

/-- A loop descriptor's loop. -/
def Desc.loop (d : Desc) : LoopNo := Fin.ofNat 16 (d.bits 16 3 0)

/-- A bank read for a descriptor: the active one where Length is 0. -/
def Dev.readBank (s : Dev) (c : Desc) : Dev × Bank × Attempt :=
  if c.length = 0 then (s, (s.loop.get (Desc.loop c)).bank, .first)
  else
    let r := s.getData c 0 72
    (r.1, bankOf r.2.1, r.2.2)

/-- LOOP_CONFIG (11 Tables 11.4, 11.5). -/
def execLoopConfig (c : Desc) (s : State) : Host.Outcome State Fault Refusal :=
  run s fun d => d.descriptor c fun d c =>
    let l := Desc.loop c
    let act := c.bits 17 1 0
    if act = 3 then d.finish c stInvalid 0
    else if act = 2 then
      (if d.loopSet l then d.park (.loopStop l) { c with data := .first } else d.finish c stOk (d.loopState l))
    else
      let chan := c.bits 19 4 0
      let ch : AuxCh := Fin.ofNat 24 chan
      let coarse := c.flag 20 7
      let src := c.bits 20 4 0
      let period := c.bytes 21 2
      let port := c.bits 27 3 0
      let qstep := c.bytes 28 2 % 1024
      let high := c.flag 18 0
      let own := (d.loop.get l).owns && d.loopChan l == ch
      if 23 < chan ∨ (¬ coarse ∧ 7 < src) ∨ period < 5 ∨ 1000 < period ∨ (8 ≤ port ∧ port ≤ 14) ∨
          (c.flag 18 4 ∧ qstep = 0) ∨ (c.length ≠ 0 ∧ c.length ≠ 72) ∨ d.spanBad c c.length ∨
          (d.on (AUX_CHm_STATUS_OWNED ch) ∧ ¬ own) then d.finish c stInvalid 0
      else
        let r := d.readBank c
        let d := r.1
        match r.2.2 with
        | .failed => d.finish c stMemUe 0
        | t =>
          if ¬ r.2.1.good high then d.finish c stInvalid 0
          else if d.loopState l ≠ blStopped ∨ (act = 1 ∧ (d.on AUX_STATUS_CLR_PIN ∨ d.quenching)) then d.finish c stRefused 0
          else
            let old := d.loopChan l
            let d := d.iff ((d.loop.get l).owns && old != ch) fun d => (d.flag (AUX_CHm_STATUS_OWNED old) false).auxRefresh old
            let d := ((d.flag (AUX_CHm_STATUS_OWNED ch) true).modAux ch fun a => { a with queue := [] }).auxRefresh ch
            let d := d.modLoop l fun q =>
              { q with notch := c.flag 18 1, pol := c.flag 18 2, faultAct := c.flag 18 3, qramp := c.flag 18 4, src := src
                       coarse := coarse, invCount := c.bits 23 3 0, frzN := c.byte 24, frzM := c.bytes 25 2 % 16384
                       port := port, qstep := qstep, owns := true, bank := r.2.1 }
            let d := ((d.flag (BCE_LOOPn_STATE_CLASS l) high).set (BCE_LOOPn_STATE_CHANNEL l) chan).set
              (BCE_LOOPn_STATE_PERIOD l) period
            if act = 0 then d.finish c (statusOf t) (d.loopState l)
            else (d.loopStart l false).park (.loopStart l) { c with data := if c.length = 0 then .first else t }

/-- LOOP_COEFF_SWAP (11 R401, R402, Table 11.5). -/
def execLoopCoeffSwap (c : Desc) (s : State) : Host.Outcome State Fault Refusal :=
  run s fun d => d.descriptor c fun d c =>
    let l := Desc.loop c
    if c.length ≠ 72 ∨ d.spanBad c c.length then d.finish c stInvalid 0
    else
      let r := d.readBank c
      let d := r.1
      match r.2.2 with
      | .failed => d.finish c stMemUe 0
      | t =>
        if ¬ r.2.1.good (d.on (BCE_LOOPn_STATE_CLASS l)) then d.finish c stInvalid 0
        else
          let d := (d.wakeAll (fun w => w == .loopSwap l) stAborted).modLoop l fun q => { q with pend := some r.2.1 }
          let d := (d.flag (BCE_LOOPn_STATE_SWAP_PEND l) true).park (.loopSwap l) { c with data := t }
          d.iff (d.loopState l != blRun) (·.swapTake l false)

/-- LOOP_TABLE_LOAD (11 R391, R404, Table 11.5). -/
def execLoopTableLoad (c : Desc) (s : State) : Host.Outcome State Fault Refusal :=
  run s fun d => d.descriptor c fun d c =>
    let l := Desc.loop c
    if ¬ d.on (BCE_LOOPn_STATE_CLASS l) ∨ (c.length ≠ 0 ∧ c.length ≠ 130) ∨ d.spanBad c c.length then d.finish c stInvalid 0
    else if c.length = 0 then d.finish c stOk 0
    else
      let r := d.getData c 0 130
      let d := r.1
      match r.2.2 with
      | .failed => d.finish c stMemUe 0
      | t =>
        let e := (chunks 2 66 r.2.1).map ofBytes
        if e.any fun v => decide (16383 < v) then d.finish c stInvalid 0
        else
          let d := (d.wakeAll (fun w => w == .loopTable l) stAborted).modLoop l fun q =>
            { q with pendTable := some (Vector.ofFn fun i => e.getD i.val 0) }
          let d := d.park (.loopTable l) { c with data := t }
          d.iff (d.loopState l != blRun) (·.tableTake l)

/-- LOOP_INJECT (11 R408, Table 11.5). One injection takes the place of another. -/
def execLoopInject (c : Desc) (s : State) : Host.Outcome State Fault Refusal :=
  run s fun d => d.descriptor c fun d c =>
    let l := Desc.loop c
    let wave := c.bits 17 3 1
    let wper := c.bytes 20 2 % 8192
    let chip := c.byte 22
    let count := c.bytes 24 4
    if 4 < wave ∨ ((wave = 1 ∨ wave = 2) ∧ (wper < 4 ∨ 4096 < wper)) ∨ (3 ≤ wave ∧ chip = 0) then d.finish c stInvalid 0
    else if d.loopState l ≠ blRun then d.finish c stRefused 0
    else
      let d := d.injectEnd l
      if wave = 0 then d.finish c stOk 0
      else
        let j : Inject := { out := c.flag 17 0, wave := wave, amp := c.bytes 18 2, wper := wper, chip := chip, count := count, k := 0 }
        let d := (d.modLoop l fun q => { q with inj := some j }).flag (BCE_LOOPn_STATE_INJ l) true
        if count = 0 then d.finish c stOk 0 else d.park (.loopInject l) { c with data := .first }

/-- LOOP_CAPTURE ARM (11 R409, Table 11.5). -/
def execLoopCaptureArm (c : Desc) (s : State) : Host.Outcome State Fault Refusal :=
  run s fun d => d.descriptor c fun d c =>
    let l := Desc.loop c
    if 5 < c.bits 18 2 0 ∨ 5 < c.bits 19 2 0 then d.finish c stInvalid 0
    else if d.loopState l ≠ blRun then d.finish c stRefused 0
    else if d.bceCap.on then d.finish c stBusy 0
    else
      { d with bceCap := { on := true, loop := l.val, sigA := c.bits 18 2 0, sigB := c.bits 19 2 0, decim := c.byte 20
                           waitInj := c.flag 21 0, skip := 0, count := 0 } }.park .bceCapture { c with data := .first }

/-- LOOP_CAPTURE READ (11 R409, Table 11.5, 04 R167). -/
def execLoopCaptureRead (c : Desc) (s : State) : Host.Outcome State Fault Refusal :=
  run s fun d => d.descriptor c fun d c =>
    let off := c.bytes 24 4
    if 32768 < off + c.length ∨ d.spanBad c c.length then d.finish c stInvalid 0
    else if c.length = 0 then d.finish c stOk 0
    else if d.bceCap.on then d.finish c stBusy 0
    else
      let r := d.readMem 1 (bceCapBase + off) c.length c.glitch
      let w := r.1.putCounted c r.2.1
      w.1.finish c (statusOf (r.2.2.worse w.2.1)) w.2.2

/-- LOOP_RESTART (11 Table 11.5). A loop that was never configured has no period to run with. -/
def execLoopRestart (c : Desc) (s : State) : Host.Outcome State Fault Refusal :=
  run s fun d => d.descriptor c fun d c =>
    let l := Desc.loop c
    let st := d.loopState l
    if ¬ d.loopSet l then d.finish c stInvalid 0
    else if st = blRun ∨ st = blArming ∨ st = blRamp ∨ d.on AUX_STATUS_CLR_PIN ∨ d.quenching then d.finish c stRefused 0
    else (d.loopStart l (c.flag 17 0)).park (.loopStart l) { c with data := .first }

end Sys2Proof.Machine
end

