-- ==== Sys2Proof/Machine/Memory.lean ====
section
/-! DEFINITION. The on-die memories' commands: scrubbers, leaky buckets, the memory descriptors, and the retention banks
(15 R501–R517, R530, R531). -/

namespace Sys2Proof.Machine

open Reg

/-! ## Shared operations -/

/-- Bits of a stored word flipped; its valid bit, held three times, stays (15 R503, R504). -/
def Dev.flip (s : Dev) (i : MemId) (w : Nat) (bits : BitVec 72) : Dev :=
  if bits = 0 ∨ memWords i ≤ w then s
  else
    let x := lookWord s.mem s.writes i w
    s.write (.word i w { x with data := x.data ^^^ bits.setWidth 64, check := x.check ^^^ (bits >>> 64).setWidth 8 })

/-- The port whose memory a memory is (15 Table 15.1). -/
def memPort (i : MemId) : Option Port :=
  if i.val < 4 then none else if i.val < 12 then some (Fin.ofNat 8 (i.val - 4)) else some (Fin.ofNat 8 (i.val - 12))

/-- Whether a capture memory's capture is ARMED or FILLING (15 Table 15.1). -/
def Dev.capturing (s : Dev) (i : MemId) : Bool :=
  12 ≤ i.val &&
  match memPort i with
  | some p => s.get (LPn_CAP_STATUS_STATE p) == 1 || s.get (LPn_CAP_STATUS_STATE p) == 2
  | none => false

/-- Whether a memory is open to MEM_WRITE (15 Table 15.1). -/
def Dev.memOpen (s : Dev) (i : MemId) : Bool := i.val == 2 || (12 ≤ i.val && !s.capturing i)

/-- Whether a memory is open to MEM_TEST_WRITE (15 Table 15.1). -/
def Dev.testOpen (s : Dev) (i : MemId) : Bool :=
  s.memOpen i ||
  (4 ≤ i.val && i.val < 12 &&
    match memPort i with
    | some p => s.linkState p == 0
    | none => false)

/-- Whether a memory's scrubber stands still: RETAIN and the wake from it, and a port's DOZE (15 R512). -/
def Dev.scrubStopped (s : Dev) (i : MemId) : Bool :=
  2 ≤ s.get PWR_STATE_STATE ||
  match memPort i with
  | some p => s.linkState p == 6
  | none => false

/-! ## Scrubbers and buckets -/

/-- SCRUB_TICK (15 R506, R507, R511): the next word is read, unless it is not valid. upset is what the world has flipped in
that word since it was written, glitch what the first read sees flipped beside it. -/
def execScrubTick (m : MemId) (upset glitch : BitVec 72) (s : State) : Host.Outcome State Fault Refusal :=
  run s fun d =>
    let w := d.get (MEM_m_POS_POS m) % memWords m
    let d := d.flip m w upset
    if d.on (MEM_m_SCRUB_SCRUB_EN m) && !d.scrubStopped m then
      let d := d.set (MEM_m_POS_POS m) ((w + 1) % memWords m)
      if (d.rawWord m w).valid then (d.readWord m w glitch).1 else d
    else d

/-- BUCKET_LEAK (15 R513). -/
def execBucketLeak (m : MemId) (s : State) : Host.Outcome State Fault Refusal :=
  run s fun d => d.set (MEM_m_BUCKET_LEVEL m) (d.get (MEM_m_BUCKET_LEVEL m) - 1)

/-! ## Descriptors -/

/-- MEM_SCRUB_CONFIG (15 R517, Table 15.3). -/
def execMemScrubConfig (c : Desc) (s : State) : Host.Outcome State Fault Refusal :=
  run s fun d => d.descriptor c fun d c =>
    let id := c.bits 16 4 0
    if 20 ≤ id ∧ id ≤ 30 then d.finish c stInvalid 0
    else
      let sel := if id = 31 then allMems else [Fin.ofNat 20 id]
      let d := d.each sel fun d m =>
        let d := d.iff (c.flag 17 0) fun d =>
          (d.flag (MEM_m_SCRUB_SCRUB_EN m) (c.flag 17 2)).set (MEM_m_SCRUB_INTERVAL m) (c.bytes 20 4)
        let d := d.iff (c.flag 17 1) fun d =>
          (d.set (MEM_m_BUCKET_CAPACITY m) (c.byte 24)).set (MEM_m_BUCKET_LEAK m) (c.bits 25 3 0)
        d.iff (c.flag 17 3) fun d => d.set (MEM_m_POS_POS m) 0
      d.finish c stOk (if id = 31 then 0 else memWords (Fin.ofNat 20 id))

/-- MEM_TEST_WRITE (15 R515, R517). -/
def execMemTestWrite (c : Desc) (s : State) : Host.Outcome State Fault Refusal :=
  run s fun d => d.descriptor c fun d c =>
    let id := c.bits 16 4 0
    let m : MemId := Fin.ofNat 20 id
    let w := c.bytes 20 3
    if 20 ≤ id ∨ memWords m ≤ w then d.finish c stInvalid 0
    else if ¬ d.on MEM_CTRL_TEST_EN ∨ ¬ d.testOpen m then d.finish c stRefused 0
    else
      let x : MWord := ⟨BitVec.ofNat 64 (c.bytes 24 8), BitVec.ofNat 8 (c.byte 17), c.flag 18 0⟩
      ((d.write (.word m w x)).flag MEM_EVENTS_TEST_WRITE true).finish c stOk 0

/-- The record of a stored word (15 Table 15.4, R516): the class and syndrome of one whose valid bit is clear are clean. -/
def Dev.rawRecord (s : Dev) (m : MemId) (w : Nat) : List Byte :=
  let x := s.rawWord m w
  let k := match eccClass x.syndrome with
    | .clean => 0
    | .correctable => 1
    | .uncorrectable => 2
  bytesOf 8 x.data.toNat ++ pay x.check.toNat ++ pay (bnat x.valid + 2 * k) ++ pay x.syndrome.toNat ++ bytesOf 5 0

/-- MEM_READ (15 R516, R517). -/
def execMemRead (c : Desc) (s : State) : Host.Outcome State Fault Refusal :=
  run s fun d => d.descriptor c fun d c =>
    let id := c.bits 16 4 0
    let m : MemId := Fin.ofNat 20 id
    let off := c.bytes 20 4
    let raw := c.flag 17 0
    let span := if raw then c.length / 2 else c.length
    if 20 ≤ id ∨ 8 * memWords m < off + span ∨ (raw ∧ (off % 8 ≠ 0 ∨ c.length % 16 ≠ 0)) ∨ d.spanBad c c.length then
      d.finish c stInvalid 0
    else if c.length = 0 then d.finish c stOk 0
    else if d.capturing m then d.finish c stBusy 0
    else
      let r : Dev × List Byte × Attempt :=
        if raw then (d, (List.range (span / 8)).flatMap fun k => d.rawRecord m (off / 8 + k), .first)
        else d.readMem m off span c.glitch
      let w := r.1.putCounted c r.2.1
      w.1.finish c (statusOf (r.2.2.worse w.2.1)) w.2.2

/-- MEM_WRITE (15 R508, R509, R517). -/
def execMemWrite (c : Desc) (s : State) : Host.Outcome State Fault Refusal :=
  run s fun d => d.descriptor c fun d c =>
    let id := c.bits 16 4 0
    let m : MemId := Fin.ofNat 20 id
    let off := c.bytes 20 4
    if 20 ≤ id ∨ 8 * memWords m < off + c.length ∨ d.spanBad c c.length then d.finish c stInvalid 0
    else if c.length = 0 then d.finish c stOk 0
    else if ¬ d.memOpen m then d.finish c stRefused 0
    else
      let r := d.getData c 0 c.length
      match r.2.2 with
      | .failed => r.1.finish c stMemUe 0
      | t =>
        let w := r.1.writeMem m off r.2.1
        w.1.finish c (statusOf (t.worse w.2.1)) w.2.2

/-! ## Retention banks (15 Table 15.1, R530, R531) -/

/-- The number of retention banks. -/
def bankCount : Nat := 48

/-- The memory and first word of a retention bank. -/
def bankAt (b : Nat) : MemId × Nat :=
  if b < 16 then (0, 8192 * b)
  else if b < 24 then (1, 8192 * (b - 16))
  else if b < 32 then (2, 8192 * (b - 24))
  else if b < 40 then (3, 8192 * (b - 32))
  else (Fin.ofNat 20 (4 + (b - 40)), 0)

/-- A lane's pass over its bank: the device, where correctable words have been corrected, and the CRC-32C of the bank's words;
none where a word has a lasting error. -/
def Dev.bankSign (s : Dev) (b : Nat) : Dev × Option (BitVec 32) :=
  let at' := bankAt b
  let k := crcPreset 2
  let r := (List.range 8192).foldl (init := (s, true, k.init)) fun a j =>
    let r := a.1.readWord at'.1 (at'.2 + j)
    match r.2.2 with
    | .failed => (r.1, false, a.2.2)
    | _ => (r.1, a.2.1, crcRun k a.2.2 (bytesOf 8 r.2.1.toNat))
  (r.1, if r.2.1 then some (BitVec.ofNat 32 (crcFinal k r.2.2)) else none)

/-- The signatures of all banks stored (15 R531). -/
def Dev.signBanks (s : Dev) : Dev :=
  s.each (List.range bankCount) fun s b =>
    let r := s.bankSign b
    r.1.modChk fun k => { k with sigs := k.sigs.set (Fin.ofNat 48 b) r.2 }

/-- A failed bank: its valid bits are cleared and it is named (15 R531). -/
def Dev.bankFail (s : Dev) (b : Nat) : Dev :=
  let at' := bankAt b
  let s := s.write (.invalidate at'.1 at'.2 (at'.2 + 8192))
  let s := if b < 32 then s.putBit CHK_SIG_FAIL_LO_BANKS b true else s.putBit CHK_SIG_FAIL_HI_BANKS (b - 32) true
  s.flag CHK_EVENTS_SIG_FAIL true

/-- Banks checked against their stored signatures (15 R531): the device, and which of them failed. -/
def Dev.checkBanks (s : Dev) (banks : List Nat) : Dev × List Nat :=
  banks.foldl (init := (s, [])) fun a b =>
    let r := a.1.bankSign b
    let stored := r.1.chk.sigs.get (Fin.ofNat 48 b)
    if stored.isSome ∧ stored = r.2 then (r.1, a.2) else (r.1.bankFail b, a.2 ++ [b])

end Sys2Proof.Machine
end

