-- ==== Sys2Proof/Machine/Doze.lean ====
section
/-! DEFINITION. DOZE of a port: requests, entry, wake and abort (16 R547–R551, R644), and the loss of a port's retention bank
(16 R546). -/

namespace Sys2Proof.Machine

open Reg

/-- Whether a port is in DOZE. -/
def Dev.inDoze (s : Dev) (p : Port) : Bool := s.getBit PWR_DOZE_IN_DOZE p
/-- Whether a port is in DOZE, on its way there, or on its way back. -/
def Dev.dozeBusy (s : Dev) (p : Port) : Bool := s.inDoze p || s.pwr.dozing.get p || s.pwr.waking.get p

def Dev.setDozing (s : Dev) (p : Port) (b : Bool) : Dev := s.modPwr fun w => { w with dozing := w.dozing.set p b }
def Dev.setWaking (s : Dev) (p : Port) (b : Bool) : Dev := s.modPwr fun w => { w with waking := w.waking.set p b }

/-- A mask that names a port. -/
def WaitKind.dozes (p : Port) : WaitKind → Bool
  | .doze m => bitOf m p
  | _ => false

/-- DOZE descriptors complete when every named port is in DOZE, WAKE descriptors when every one has left (16 R551). -/
def Dev.dozeChecks (s : Dev) : Dev :=
  s.wakeAll (fun w =>
    match w with
    | .doze m => allPorts.all fun p => !bitOf m p || (s.inDoze p && !s.pwr.waking.get p)
    | .wake m => allPorts.all fun p => !bitOf m p || !s.dozeBusy p
    | _ => false) stOk (fun _ => s.get PWR_DOZE_IN_DOZE)

/-- A doze request (16 R547, R549): the port stops as PORT_STOP would stop it. A port on its way out dozes again once it has
left; one in DOZE, or on its way, goes on as it is. -/
def Dev.dozeRequest (s : Dev) (p : Port) (shed : Bool) : Dev :=
  let mark := fun (s : Dev) => (s.putBit PWR_DOZE_REQ p true).putBit PWR_DOZE_SHED p shed
  if s.pwr.waking.get p then mark s
  else if s.dozeBusy p then s
  else (((mark s).putBit PWR_DOZE_STARTED p (s.running p)).setDozing p true).stopBegin p .doze false |>.1

/-- A port's entry to DOZE is aborted (16 R644): counted, and a DOZE that waits on it ends ABORTED. -/
def Dev.dozeCut (s : Dev) (p : Port) (client : Nat) : Dev :=
  let s := (s.setDozing p false).modPwr fun w =>
    { w with dozeAb := w.dozeAb.set p (min (w.dozeAb.get p + 1) 15), dozeLast := w.dozeLast.set p client }
  s.wakeAll (WaitKind.dozes p) stAborted (fun _ => s.get PWR_DOZE_IN_DOZE)

/-- A port is woken from DOZE, or its entry is aborted by a client (16 R548, R644). -/
def Dev.dozeWake (s : Dev) (p : Port) (client : Nat) : Dev :=
  let s := (s.putBit PWR_DOZE_REQ p false).putBit PWR_DOZE_SHED p false
  if s.pwr.dozing.get p then (s.dozeCut p client).setWaking p true
  else if s.inDoze p then s.setWaking p true
  else s

/-- A Quench powers a port down that is on its way to DOZE: the entry ends (16 R569, log entry 43). -/
def Dev.dozeQuench (s : Dev) (p : Port) : Dev :=
  let clear := fun (s : Dev) =>
    ((s.putBit PWR_DOZE_REQ p false).putBit PWR_DOZE_SHED p false).putBit PWR_DOZE_STARTED p false
  if s.pwr.dozing.get p then clear (s.dozeCut p 31)
  else if s.pwr.waking.get p && !s.inDoze p then (clear (s.setWaking p false)).dozeChecks
  else s

/-- A port's capture memory loses its contents as PORTn goes down (01 R41, 04 R168): no word is valid, the capture is EMPTY,
and the memory's scrubber starts again at word 0 (15 R512). -/
def Dev.captureLost (s : Dev) (p : Port) : Dev :=
  let m : MemId := Fin.ofNat 20 (12 + p.val)
  let s := (s.modCap p fun _ => {}).write (.invalidate m 0 (memWords m))
  (((s.set (LPn_CAP_STATUS_STATE p) 0).set (LPn_CAP_STATUS_BLOCKS p) 0).set (LPn_CAP_STATUS_TRIG_BLOCK p) 0).set (MEM_m_POS_POS m) 0

/-- A port's image, every field of its block, written to offsets 0xF000 and up of its coefficient store (16 R545), each register at
its offset in the block (DESIGN CHOICE, log entry 113). -/
def Dev.saveImage (s : Dev) (p : Port) : Dev :=
  let reg := fun (k : Nat) => s.regValue (0x4000 + 0x800 * p.val + 4 * k)
  s.each (List.range 256) fun s k =>
    s.write (.word (Fin.ofNat 20 (4 + p.val)) (0x1E00 + k) (.full (BitVec.ofNat 64 (reg (2 * k) + 2 ^ 32 * reg (2 * k + 1)))))

/-- DOZE_ENTRY_DONE (16 R547, R549): the port has stopped, its image is written and its bank signed; PORTn goes down. -/
def execDozeEntryDone (p : Port) (s : State) : Host.Outcome State Fault Refusal :=
  run s fun d =>
    if d.pwr.dozing.get p ∧ (d.prt p).link.stopping = none then
      let r := (d.saveImage p).bankSign (40 + p)
      let d := r.1.modChk fun k => { k with sigs := k.sigs.set (Fin.ofNat 48 (40 + p)) r.2 }
      let d := (d.setDozing p false).modPwr fun w => { w with dozeN := w.dozeN.set p (min (w.dozeN.get p + 1) 0xFFFF) }
      let d := (((d.each (d.group p) (·.testsEnd ·)).captureLost p).putBit PWR_DOZE_IN_DOZE p true).linkTo p lsDoze
      (d.flag PWR_EVENTS_DOZE true).dozeChecks
    else d

/-! ## A failed bank 40 + n (16 R546, Table 16.6) -/

/-- The slice map of R94, less the retirement list: each retired slice's place is taken by a free one (03 R94, R112). Trims
are 0, or kept. -/
def Dev.adcFresh (s : Dev) (p : Port) (keep : Bool) : Dev :=
  let s := s.each bothPairs fun s x =>
    let gone := s.retired p x
    s.modAdc p x fun a =>
      (List.range 64).foldl (fun (a : Adc) k =>
        if gone.contains k = true then
          match a.free with
          | f :: r => { a with place := a.place.set! k f, free := r }
          | [] => a
        else a) { slices := if keep then a.slices else Vector.replicate 66 {}
                  free := [64, 65].filter fun k => !gone.contains k }
  s.calRefresh p

/-- A retirement list has been read (03 R111, R112, R114): the slice map stands where it agrees with the list; an ADC with no
free slice no longer calibrates. -/
def Dev.adcRelist (s : Dev) (p : Port) : Dev :=
  let agrees := bothPairs.all fun x =>
    let a := s.adcOf p x
    let gone := s.retired p x
    (List.range 66).all fun n => gone.contains n == !(a.place.toList.contains n || a.free.contains n)
  let s := s.iff (!agrees) (·.adcFresh p true)
  s.each bothPairs (·.calStopped p ·)

/-- A port's registers of classes H, C and P, and its state, at their reset values. -/
def Dev.portBlank (s : Dev) (p : Port) : Dev :=
  let goes := fun (f : Fld) =>
    f.cls != .n && f.cls != .k && decide (0x4000 + 0x800 * p.val ≤ f.off) && decide (f.off < 0x4800 + 0x800 * p.val)
  ((s.regsReset goes).modPort p fun _ => {}).adcFresh p false

/-- A port whose image is lost: it is STOPPED with its reset values and its four restoration flags set. -/
def Dev.portLost (s : Dev) (p : Port) : Dev :=
  let s := ((s.abortWaits p false).ceilNone p).portBlank p
  let s := (s.flag (LPn_RX_EVENTS_TRIM_RESTORE_LOST p) true).flag (LPn_EQ_EVENTS_TAP_RESTORE_LOST p) true
  let s := (s.flag (LPn_FD_EVENTS_ECHO_RESTORE_LOST p) true).flag (LPn_TX_EVENTS_TX_RESTORE_LOST p) true
  (s.linkTo p lsStopped).mapDefault p

/-- The restoration flag of a bank (16 Table 16.6) and its event. -/
def Dev.bankMark (s : Dev) (b : Nat) : Dev :=
  let f : Fld :=
    if b < 20 ∨ b = 22 ∨ b = 23 then PWR_RESTORE_LOST_CORE
    else if b < 22 then PWR_RESTORE_LOST_SAVE
    else if b < 32 then PWR_RESTORE_LOST_RING
    else if b < 40 then PWR_RESTORE_LOST_CTX
    else PWR_RESTORE_LOST_PORT
  let s := if b < 40 then s.flag f true else s.putBit f (b - 40) true
  (s.flag PWR_EVENTS_RESTORE_LOST true).logRaw (f.off / 4) (if b < 40 then f.lsb else b - 40) 2 (pay b)

end Sys2Proof.Machine
end

