-- ==== Sys2Proof/Machine/Recorder.lean ====
section
/-! DEFINITION. The event recorder: the store in flash, the flush, power fail, the lifetime block, and the queue of flash
operations (18 R575–R588, 19 R603, R604, R643); the trace log's reader (18 R589). -/

namespace Sys2Proof.Machine

open Reg

/-! ## Flash operations (19 R604, R643) -/

/-- Whether external flash is fitted (19 Table 19.2 BOOT_SRC). -/
def Dev.hasFlash (s : Dev) : Bool := !bitOf (s.get GLB_BOOT_STATUS_STRAP) 2

/-- Whether any byte of a range of the flash is not 0xFF. -/
def Dev.flashUsed (s : Dev) (lo hi : Nat) : Bool :=
  let used := fun (a : Nat) => decide (lo ≤ a) && decide (a < hi) && s.flashByte a != 0xFF
  s.mem.flash.any (fun e => used e.1) || s.writes.any fun w => match w with | .program a _ => used a | _ => false

/-- An operation's place in the order of 19 R604: in power fail the lifetime block, then event flushes, then the rest. -/
def FlashOp.rank (o : FlashOp) (powerFail : Bool) : Nat :=
  match o.use with
  | .life => if powerFail then 0 else 1
  | .events => 1
  | _ => 2

/-- Whether an operation may run now: power fail suspends erases (18 R582); a freeze holds flushes and erases but those of a
forced flush (R587). -/
def Dev.flashRuns (s : Dev) (o : FlashOp) : Bool :=
  let erase := o.data.isNone
  if s.evr.powerFail then !erase
  else if s.on EVR_STATUS_FROZEN && !(s.evr.force && o.use == .events) then !(erase || o.use == .events)
  else true

/-- Operations join the queue. The one in progress, its head, stays there; the others stand in the order of 19 R604. -/
def Dev.flashQueue (s : Dev) (l : List FlashOp) : Dev :=
  let order := sortOn fun (o : FlashOp) => o.rank s.evr.powerFail
  s.modSys fun y =>
    { y with ops := match y.ops with
        | [] => order l
        | h :: r => if s.flashRuns h then h :: order (r ++ l) else order (h :: r ++ l) }

/-- A sector erase. -/
def eraseOp (u : FlashUse) (sector : Nat) : FlashOp := { use := u, addr := 4096 * sector, data := none }

/-- A page program. -/
def pageOp (u : FlashUse) (addr : Nat) (l : List Byte) : FlashOp := { use := u, addr := addr, data := some l }

/-- An item of the flash written in the three steps of 19 R604: its pages, then the commit word behind them. -/
def itemOps (u : FlashUse) (addr : Nat) (l : List Byte) : List FlashOp :=
  (chunks 256 l.length l).zipIdx.map (fun x => pageOp u (addr + 256 * x.2) x.1) ++ [pageOp u (addr + l.length) (bytesOf 4 0)]

/-! ## The store (18 R577–R579) -/

/-- Slots of the store. -/
def storeSlots : Nat := 16384
/-- A slot's address (19 Table 19.5). -/
def slotAddr (k : Nat) : Nat := 0x400000 + 64 * k
/-- The flash sector of the store's sector n. -/
def storeSector (n : Nat) : Nat := 0x400 + n % 256

/-- Whether a stored record's check holds (18 R578). -/
def recGood (l : List Byte) : Bool := ofBytes (l.drop 60) == crc32c (l.take 60)

/-- A record with the bit of byte 20 that a read sets: 4 BUFFERED, 5 CRC_BAD (18 Table 18.1). -/
def recMark (l : List Byte) (bit : Nat) : List Byte :=
  l.set 20 (BitVec.ofNat 8 (putBit (l.getD 20 0).toNat bit true))

/-- Bytes of the flash, for several groups of k bytes that hold a byte other than 0xFF: the group's number. -/
def Dev.flashGroups (s : Dev) (base top k : Nat) : List Nat :=
  (s.mem.flash.filter fun e => base ≤ e.1 && e.1 < top).foldr
    (fun e l => let n := (e.1 - base) / k; if l.head? = some n then l else n :: l) []

/-- The records in the store: slot, SEQ as stored, bytes as stored. -/
def Dev.storeRecs (s : Dev) : List (Nat × Nat × List Byte) :=
  (s.flashGroups 0x400000 0x500000 64).map fun k =>
    let l := s.flashBytes (slotAddr k) 64
    (k, ofBytes (l.take 4), l)

/-- The records held, in the store or in the buffer, in SEQ order: SEQ, whether its check holds, whether it is in the store,
and the bytes that a read gives (18 R578, R586). -/
def Dev.heldRecs (s : Dev) : List (Nat × Bool × Bool × List Byte) :=
  let store := s.storeRecs.map fun r =>
    let good := recGood r.2.2
    (r.2.1, good, true, if good then r.2.2 else recMark r.2.2 5)
  let buf := s.evr.buf.map fun r => (r.seq, true, false, recMark r.bytes 4)
  sortOn (fun e => e.1) (store ++ buf)

/-- The SEQs of the records held whose check holds. -/
def Dev.heldSeqs (s : Dev) : List Nat := (s.heldRecs.filter fun r => r.2.1).map (·.1)
/-- The oldest record held; the next SEQ where none is. -/
def Dev.oldestSeq (s : Dev) : Nat := (s.heldSeqs.head?).getD (s.get EVR_SEQ_VALUE)
/-- The newest record held. -/
def Dev.newestSeq (s : Dev) : Option Nat := s.heldSeqs.getLast?

/-- What the buffer holds, set. -/
def Dev.setBuf (s : Dev) (l : List EvRec) : Dev :=
  (s.modEvr fun e => { e with buf := l }).set EVR_STATUS_BUFFERED l.length

/-- Writing enters a sector of the store (18 R577): sector s + 2 is erased, and s + 1 where it is not; with STOP_FULL no
sector that holds records is (R579). -/
def Dev.storeEnter (s : Dev) (n : Nat) : Dev :=
  let full := fun k => s.flashUsed (4096 * storeSector k) (4096 * storeSector k + 4096)
  let stop := s.on EVR_CTRL_STOP_FULL
  s.flashQueue (((if full (n + 1) && !stop then [n + 1] else []) ++ (if full (n + 2) && stop then [] else [n + 2])).map
    fun k => eraseOp .events (storeSector k))

/-- A page of records is in flash (18 R577). -/
def Dev.storePageDone (s : Dev) (l : List Byte) : Dev :=
  let seqs := (chunks 64 l.length l).map fun r => ofBytes (r.take 4)
  let slot := s.evr.slot
  let next := (slot + seqs.length) % storeSlots
  let s := s.setBuf (s.evr.buf.filter fun r => !seqs.contains r.seq)
  let s := s.modEvr fun e => { e with slot := next, newest := some (max (maxNat seqs) (e.newest.getD 0)) }
  let s := s.set EVR_STATUS_WR_SECTOR (next / 64)
  s.iff (slot % 64 == 0) fun s => s.storeEnter (slot / 64)

/-! ## The lifetime block (18 R576, R582) -/

/-- A lifetime entry's address. -/
def lifeAddr (n : Nat) : Nat := 0x330000 + 256 * (n % 256)

/-- A lifetime entry's content (18 R576, R582): the next SEQ, HOURS, CYCLES, the count and the first SEQ of the records still
in the buffer, and the entry's number (its layout is the model's, log entry 42). -/
def Dev.lifeBytes (s : Dev) : List Byte :=
  let pend := if s.evr.powerFail then s.evr.pendBlock else (s.evr.buf.length, ((s.evr.buf.head?).map (·.seq)).getD 0)
  padBytes 252 (bytesOf 4 (s.get EVR_SEQ_VALUE) ++ bytesOf 4 (s.get EVR_HOURS_VALUE) ++ bytesOf 4 (s.get EVR_CYCLES_VALUE) ++
    bytesOf 4 pend.1 ++ bytesOf 4 pend.2 ++ bytesOf 4 s.evr.lifeSlot)

/-- The lifetime block's operations queued; the sector after the one entered is erased ahead (19 Table 19.5). -/
def Dev.lifeWrite (s : Dev) : Dev :=
  let n := s.evr.lifeSlot
  let s := s.flashQueue (itemOps .life (lifeAddr n) s.lifeBytes ++
    if n % 16 = 0 then [eraseOp .life (0x330 + (n / 16 + 1) % 16)] else [])
  s.modEvr fun e => { e with lifeDue := false, lifeSlot := n + 1 }

/-! ## The flush (18 R580, R582) -/

/-- A flush is due, where there is anything to flush (18 R580); a forced one runs through a freeze (R587). -/
def Dev.flushDue (s : Dev) (force : Bool) : Dev :=
  if s.evr.buf = [] then s else s.modEvr fun e => { e with due := true, force := e.force || force }

/-- The next page of a flush: records in order, as many as the page has slots for. A write point that meets records in the
store discards them all with STOP_FULL, or waits for its sector's erase (18 R579). -/
def Dev.flushPage (s : Dev) (l : List EvRec) : Dev :=
  let slot := s.evr.slot
  let sector := storeSector (slot / 64)
  if s.flashUsed (slotAddr slot) (slotAddr slot + 64) then
    if s.on EVR_CTRL_STOP_FULL then
      ((s.add EVR_COUNT_STORE_DROPS l.length).flag EVR_EVENTS_STORE_FULL true).setBuf []
    else if s.sys.ops.any (fun o => o.data.isNone && o.addr == 4096 * sector) then s
    else s.flashQueue [eraseOp .events sector]
  else s.flashQueue [pageOp .events (slotAddr slot) ((l.take (4 - slot % 4)).flatMap EvRec.bytes)]

/-- What the recorder has to write goes into the queue, one page at a time (18 R580, R582, R588). -/
def Dev.flashPump (s : Dev) : Dev :=
  let busy := s.sys.ops.any fun o => (o.use == .life || o.use == .events) && o.data.isSome
  if !s.hasFlash || !s.on GLB_BOOT_STATUS_BOOT_DONE || 2 ≤ s.get PWR_STATE_STATE || busy then s
  else if s.evr.powerFail then
    if s.evr.lifeDue then s.lifeWrite
    else if s.evr.buf = [] then s
    else s.flushPage (s.evr.buf.filter (fun r => 2 ≤ r.sev) ++ s.evr.buf.filter fun r => r.sev < 2)
  else
    let s := s.iff (s.evr.clear != 0 && !s.sys.ops.any fun o => o.use == .clear) fun s =>
      s.flashQueue [eraseOp .clear (storeSector (256 - s.evr.clear))]
    if s.evr.due && (!s.on EVR_STATUS_FROZEN || s.evr.force) && s.evr.clear == 0 then
      if s.evr.buf = [] then (s.modEvr fun e => { e with due := false, force := false }).lifeWrite
      else s.flushPage s.evr.buf
    else if s.evr.lifeDue then s.lifeWrite
    else s

/-- Whether a flush is in progress (18 Table 18.7 FLUSHING). -/
def Dev.flushing (s : Dev) : Bool :=
  s.hasFlash && ((s.evr.due && (!s.on EVR_STATUS_FROZEN || s.evr.force)) ||
    (s.evr.powerFail && (s.evr.lifeDue || s.evr.buf != [])) || s.sys.ops.any fun o => o.use == .events && o.data.isSome)

/-- A sector of a running EVR_CLEAR has been erased (18 R588). -/
def Dev.clearStep (s : Dev) : Dev :=
  let s := s.modEvr fun e => { e with clear := e.clear - 1 }
  if s.evr.clear = 0 then
    let last : Nat := s.evr.newest.getD Config.noneErased.toNat
    let s := (s.modEvr fun e => { e with slot := 0, newest := none }).set EVR_STATUS_WR_SECTOR 0
    (s.logPlain 0xF2 2 (bytesOf 4 last)).wakeAll (fun w => w == .evrClear) stOk (fun _ => 256)
  else s

/-- EVR_FLUSH_TIMER (18 R580). -/
def execEvrFlushTimer (s : State) : Host.Outcome State Fault Refusal := run s fun d => d.flushDue false

/-! ## Power fail (18 R582–R585) -/

/-- Power fail begins: an erase in progress is suspended, the lifetime block goes first (18 R582). -/
def Dev.powerFailBegin (s : Dev) : Dev :=
  if s.evr.powerFail then s
  else
    let s := s.modEvr fun e =>
      { e with powerFail := true, failAt := s.timebase, lifeDue := true, pendBlock := (e.buf.length, ((e.buf.head?).map (·.seq)).getD 0) }
    (s.modSys fun y => { y with suspended := match y.ops with | h :: _ => h.data.isNone | [] => false }).flashQueue []

/-- POWER_FAIL (18 R582). -/
def execPowerFail (s : State) : Host.Outcome State Fault Refusal := run s fun d => d.powerFailBegin

/-- POWER_FAIL_END (18 R584): the supplies have stayed in range; in a brown-out power fail goes on (20 R618). The
event's duration in microseconds (Table 18.2) is the time since power fail began. -/
def execPowerFailEnd (s : State) : Host.Outcome State Fault Refusal :=
  run s fun d =>
    if d.evr.powerFail ∧ ¬ d.sys.brownout then
      let d := (d.modEvr fun e => { e with powerFail := false }).modSys fun y => { y with suspended := false }
      let d := (d.flashQueue []).iff d.hasFlash (·.flag EVR_EVENTS_POWER_FAIL true)
      d.logPlain 0xF5 1 (bytesOf 8 ((d.timebase - d.evr.failAt) / 1000))
    else d

/-- HOURS_TICK (18 R576). -/
def execHoursTick (s : State) : Host.Outcome State Fault Refusal :=
  run s fun d => if d.sys.powered then d.set EVR_HOURS_VALUE (d.get EVR_HOURS_VALUE + 1) else d

/-- LIFETIME_WRITE_TIMER (18 R576). -/
def execLifetimeWriteTimer (s : State) : Host.Outcome State Fault Refusal :=
  run s fun d => d.iff d.hasFlash fun d => d.modEvr fun e => { e with lifeDue := true }

/-! ## The scan at boot (18 R576, R578, R583) -/

/-- Lifetime entries that are committed: number and content. -/
def Dev.lifeEntries (s : Dev) : List (List Byte) :=
  (s.flashGroups 0x330000 0x340000 256).filterMap fun n =>
    let l := s.flashBytes (lifeAddr n) 256
    if ofBytes (l.drop 252) = 0 then some l else none

/-- A 4-byte number of a list of bytes. -/
def word32 (l : List Byte) (i : Nat) : Nat := ofBytes ((l.drop i).take 4)

/-- The recorder's place after a boot (18 R576, R577, R578, R583): the write point, SEQ, HOURS and CYCLES from the newest
valid record and the newest lifetime entry, and the event of records that the last power fail lost. -/
def Dev.evrScan (s : Dev) (powerOn : Bool) : Dev :=
  let good := s.storeRecs.filter fun r => recGood r.2.2
  let top := maxNat (good.map fun r => r.2.1)
  let last := good.find? fun r => r.2.1 == top
  let life := s.lifeEntries
  let n := maxNat (life.map fun l => word32 l 20)
  let block := ((life.find? fun l => word32 l 20 == n)).getD []
  let start := match last with | some r => (r.1 + 1) % storeSlots | none => 0
  let slot := (List.range 64).foldl (fun k _ => if s.flashUsed (slotAddr k) (slotAddr k + 64) then (k + 1) % storeSlots else k)
    start
  let s := s.modEvr fun e =>
    { e with slot := slot, newest := last.map fun r => r.2.1, lifeSlot := if life = [] then 0 else n + 1 }
  let s := s.set EVR_STATUS_WR_SECTOR (slot / 64)
  let seq := match last with | some r => r.2.1 + 1 | none => 0
  let hours := match last with | some r => word32 r.2.2 4 | none => 0
  let s := s.set EVR_SEQ_VALUE (max (s.get EVR_SEQ_VALUE) (max (word32 block 0) seq))
  let s := s.set EVR_HOURS_VALUE (max (s.get EVR_HOURS_VALUE) (max (word32 block 4) hours))
  let s := s.set EVR_CYCLES_VALUE (if powerOn then word32 block 8 + 1 else max (s.get EVR_CYCLES_VALUE) (word32 block 8))
  let pend := word32 block 12
  let first := word32 block 16
  let here := s.heldSeqs.filter fun q => first ≤ q && q < word32 block 0
  if here.length < pend then
    let lost := ((List.range (pend + here.length + 1)).find? fun k => !here.contains (first + k)).getD 0
    s.logPlain 0xF1 1 (bytesOf 4 (pend - here.length) ++ bytesOf 4 (first + lost))
  else s

/-! ## Descriptors (18 R587, R588, R595) -/

/-- EVR_READ (18 R578, R586, R595): what its operand says of reads from outside the block is how the flash read went. -/
def execEvrRead (c : Desc) (s : State) : Host.Outcome State Fault Refusal :=
  run s fun d => d.descriptor c fun d c =>
    if c.length % 64 ≠ 0 ∨ d.spanBad c c.length then d.finish c stInvalid 0
    else if c.length = 0 then d.finish c stOk 0
    else
      let first : Nat := if c.bytes 16 4 = 0xFFFFFFFF then d.oldestSeq else c.bytes 16 4
      let out : List (Nat × Bool × Bool × List Byte) := match d.newestSeq with
        | some top => (d.heldRecs.filter fun r => first ≤ r.1 && r.1 ≤ top).take (c.length / 64)
        | none => []
      let flash := out.findIdx? fun r => r.2.2.1
      let bad := out.zipIdx.map fun (r : (Nat × Bool × Bool × List Byte) × Nat) => if c.data = Attempt.failed ∧ flash = some r.2 then recMark r.1.2.2.2 5 else r.1.2.2.2
      let again := c.data == .second && flash.isSome
      let w := (d.iff again (·.retried)).putData c 0 (padBytes c.length bad.flatten)
      w.1.finish c (statusOf (if again then Attempt.worse .second w.2 else w.2)) out.length

/-- EVR_FREEZE with action 1 (18 R587). -/
def execEvrFreeze (c : Desc) (s : State) : Host.Outcome State Fault Refusal :=
  run s fun d => d.descriptor c fun d c => (d.flag EVR_STATUS_FROZEN true).finish c stOk 1

/-- A freeze ends; what it held runs (18 R587). -/
def Dev.unfreeze (s : Dev) : Dev := (s.flag EVR_STATUS_FROZEN false).flashQueue []

/-- EVR_FREEZE with action 0 (18 R587). -/
def execEvrRelease (c : Desc) (s : State) : Host.Outcome State Fault Refusal :=
  run s fun d => d.descriptor c fun d c => d.unfreeze.finish c stOk 0

/-- EVR_FREEZE_EXPIRE (18 R587). -/
def execEvrFreezeExpire (s : State) : Host.Outcome State Fault Refusal :=
  run s fun d => if d.on EVR_STATUS_FROZEN then d.unfreeze.flag EVR_EVENTS_FREEZE_EXPIRED true else d

/-- EVR_CLEAR (18 R588, R595). A second one while one runs is BUSY, and without flash it is REFUSED (log entry 42). -/
def execEvrClear (c : Desc) (s : State) : Host.Outcome State Fault Refusal :=
  run s fun d => d.descriptor c fun d c =>
    if c.byte 16 ≠ 0xC1 then d.finish c stInvalid 0
    else if d.on EVR_STATUS_FROZEN ∨ d.evr.powerFail ∨ ¬ d.hasFlash then d.finish c stRefused 0
    else if d.evr.clear ≠ 0 then d.finish c stBusy 0
    else (d.modEvr fun e => { e with clear := 256 }).park .evrClear { c with data := .first }

/-- TRACE_READ (18 R589, R595): entries from one on toward older ones, as far as entries have been written. -/
def execTraceRead (c : Desc) (s : State) : Host.Outcome State Fault Refusal :=
  run s fun d => d.descriptor c fun d c =>
    if c.length % 32 ≠ 0 ∨ 131072 < c.length ∨ d.spanBad c c.length then d.finish c stInvalid 0
    else if c.length = 0 then d.finish c stOk 0
    else
      let first := c.bytes 16 2 % 4096
      let next := d.get EVR_STATUS_TRACE_NEXT
      let idx := fun (j : Nat) => (next + 8191 - first - j) % 4096
      let n := min (c.length / 32) (4096 - first)
      let n := ((List.range n).find? fun j => !(lookWord d.mem d.writes 1 (0x4000 + 4 * idx j)).valid).getD n
      let r := (List.range n).foldl (init := (d, ([] : List Byte), Attempt.first)) fun a j =>
        let r := a.1.readMem 1 (0x20000 + 32 * idx j) 32
        (r.1, a.2.1 ++ r.2.1, a.2.2.worse r.2.2)
      match r.2.2 with
      | .failed => r.1.finish c stMemUe 0
      | t =>
        let w := r.1.putData c 0 r.2.1
        w.1.finish c (statusOf (t.worse w.2)) (match w.2 with | .failed => 0 | _ => n)

end Sys2Proof.Machine
end

