-- ==== Sys2Proof/Machine/Blocks.lean ====
section
/-! DEFINITION. Configuration blocks: their payloads, the copies in flash, restoration at boot, CFG_WRITE and CFG_READ, and
the blocks that the device writes by itself (19 R605–R607). -/

namespace Sys2Proof.Machine

open Reg

/-! ## Register images -/

/-- The fields of a register that a test picks out, given their bits of a number. -/
def Dev.setImage (s : Dev) (off v : Nat) (goes : Fld → Bool := fun _ => true) : Dev :=
  s.each ((fieldsAt off).filter goes) fun s f => s.set f (v / 2 ^ f.lsb)

/-! ## Payloads (19 Tables 19.7, 19.8) -/

/-- Reserved block types (19 Table 19.7). -/
def cfgReserved (t : Nat) : Bool := (4 ≤ t && t ≤ 7) || 15 < t
/-- The payload length of the types whose length is fixed. -/
def cfgFixed : Nat → Option Nat
  | 0 => some 12
  | 1 => some 96
  | 2 => some 32
  | 3 => some 132
  | _ => none

/-- A payload length that a type may have. -/
def cfgLenOk (t n : Nat) : Bool :=
  match cfgFixed t with
  | some k => n == k
  | none => 1 ≤ n && n ≤ 4064

/-- The thermal payload (19 Table 19.8). -/
def ThmPar.bytes (q : ThmPar) : List Byte :=
  q.pmax.flatMap (bytesOf 2) ++ q.thetaSelf.flatMap (bytesOf 2) ++ bytesOf 2 q.thetaCommon ++ bytesOf 2 q.alpha ++
  bytesOf 2 q.tau1 ++ bytesOf 2 q.tau2 ++ q.caseTable.flatMap (fun i => bytesOf 2 (codeOf 16 i)) ++ bytesOf 6 0

/-- A 2-byte number of a list of bytes. -/
def word16 (l : List Byte) (i : Nat) : Nat := ofBytes ((l.drop i).take 2)

/-- The parameters that a thermal payload gives (19 Table 19.8). -/
def ThmPar.ofBytes (l : List Byte) : ThmPar :=
  { pmax := (List.range 12).map fun i => word16 l (2 * i)
    thetaSelf := (List.range 12).map fun i => word16 l (24 + 2 * i)
    thetaCommon := word16 l 48, alpha := word16 l 50, tau1 := word16 l 52, tau2 := word16 l 54
    caseTable := (List.range 17).map fun i => signedOf 16 (word16 l (56 + 2 * i)) }

/-- The ranges of Table 19.8. -/
def ThmPar.inRange (q : ThmPar) : Bool := q.alpha ≤ 1000 && 1 ≤ q.tau1 && 1 ≤ q.tau2

/-- A user block's index. -/
def userIdx (t : Nat) : Fin 8 := Fin.ofNat 8 (t - 8)

/-- The content of a type in force (19 Table 19.7). -/
def Dev.cfgPayload (s : Dev) (t : Nat) : List Byte :=
  match t with
  | 0 => bytesOf 4 (s.get GLB_TRANSPORT_PRTAD_BASE * 2 ^ 22) ++ bytesOf 4 (s.regValue 0x1200) ++ bytesOf 4 (s.regValue 0xD000)
  | 1 => s.thm.par.bytes
  | 2 => allPorts.flatMap fun p => bytesOf 4 (s.regValue (0x4118 + 0x800 * p))
  | 3 => bytesOf 4 (s.get MON_SLICE_RET0 * 2 ^ 29 + s.get MON_SLICE_RET1 * 2 ^ 26) ++
      (List.range 32).flatMap fun i => bytesOf 4 (s.regValue (0xB108 + 0x10 * i))
  | _ => s.sys.user.get (userIdx t)

/-- THM_CTRL has been written: reports count from REF_SRC's change to 1 on (17 R557). -/
def Dev.thmCtrlWritten (s : Dev) (oldSrc : Nat) : Dev :=
  if oldSrc = 0 ∧ s.on THM_CTRL_REF_SRC then s.modThm fun t => { t with report := none } else s

/-- A payload put into force: the thermal block at boot at once, later at the model's next update (19 R607). -/
def Dev.cfgApply (s : Dev) (t : Nat) (l : List Byte) (boot : Bool) : Dev :=
  match t with
  | 0 =>
    let src := s.get THM_CTRL_REF_SRC
    let s := s.setImage 0x0008 (word32 l 0) fun f => f == GLB_TRANSPORT_PRTAD_BASE
    ((s.setImage 0x1200 (word32 l 4)).setImage 0xD000 (word32 l 8)).thmCtrlWritten src
  | 1 =>
    let q := ThmPar.ofBytes l
    s.modThm fun m => if boot then { m with par := q, nextPar := none } else { m with nextPar := some q }
  | 2 => s.each allPorts fun s p => (s.setImage (0x4118 + 0x800 * p) (word32 l (4 * p))).adcRelist p
  | 3 =>
    let s := s.setImage 0xB00C (word32 l 0) fun f => f == MON_SLICE_RET0 || f == MON_SLICE_RET1
    s.each (List.range 32) fun s i => s.setImage (0xB108 + 0x10 * i) (word32 l (4 + 4 * i))
  | _ => s.modSys fun y => { y with user := y.user.set (userIdx t) l }

/-- A type's factory defaults (19 Table 19.8): the reset values of its fields, and the parameters of Table 17.1. -/
def cfgDefault (t : Nat) : List Byte := Dev.cfgPayload {} t

/-! ## Copies in flash (19 R604, R605, Table 19.6) -/

/-- Where a type's copy with a sequence number lies (19 Table 19.5). -/
def cfgAddr (t half : Nat) : Nat := 0x310000 + 0x2000 * t + 0x1000 * (half % 2)

/-- A block's bytes but for its commit word (19 Table 19.6). -/
def cfgBlock (t seq : Nat) (l : List Byte) : List Byte :=
  let body := bytesOf 2 0xCB10 ++ pay t ++ pay 1 ++ bytesOf 4 seq ++ bytesOf 2 l.length ++ bytesOf 6 0 ++ l
  body ++ bytesOf 4 (crc32c body)

/-- A committed copy: its SEQ, its payload, and whether its check holds. A copy whose commit word still reads 0xFFFFFFFF is
none, and neither is one whose LENGTH gives no place for its commit word. -/
def Dev.cfgCopy (s : Dev) (t half : Nat) : Option (Nat × List Byte × Bool) :=
  let a := cfgAddr t half
  let head := s.flashBytes a 16
  let n := (cfgFixed t).getD (word16 head 8)
  if cfgLenOk t n = false ∨ ofBytes (s.flashBytes (a + 20 + n) 4) = 0xFFFFFFFF then none
  else
    let l := s.flashBytes (a + 16) n
    some (word32 head 4, l, word16 head 0 == 0xCB10 && ofBytes ((head.drop 2).take 1) == t &&
      ofBytes ((head.drop 3).take 1) == 1 && word16 head 8 == n &&
      ofBytes (s.flashBytes (a + 16 + n) 4) == crc32c (head ++ l))

/-- The committed copy with the higher SEQ. -/
def Dev.cfgNewest (s : Dev) (t : Nat) : Option (Nat × List Byte × Bool) :=
  match s.cfgCopy t 0, s.cfgCopy t 1 with
  | some a, some b => some (if a.1 ≤ b.1 then b else a)
  | a, none => a
  | none, b => b

/-- The SEQ in force of a type. -/
def Dev.cfgSeqOf (s : Dev) (t : Nat) : Option Nat := s.sys.cfgSeq.get (Fin.ofNat 16 t)
def Dev.setCfgSeq (s : Dev) (t : Nat) (n : Option Nat) : Dev :=
  s.modSys fun y => { y with cfgSeq := y.cfgSeq.set (Fin.ofNat 16 t) n }

/-- All block types. -/
def cfgTypes : List Nat := [0, 1, 2, 3] ++ (List.range 8).map (· + 8)

/-- One type restored at boot (19 R605; 12 R435 for the monitor's). -/
def Dev.cfgRestoreOne (s : Dev) (t : Nat) : Dev :=
  match if s.hasFlash then s.cfgNewest t else none with
  | none =>
    (((s.cfgApply t (cfgDefault t) true).setCfgSeq t none).putBit GLB_CFG_STATUS_ABSENT t true).logPlain
      Config.absentBit.toNat 0 (pay t)
  | some (seq, l, good) =>
    let s := s.setCfgSeq t (some seq)
    if good ∧ (t ≠ 1 ∨ (ThmPar.ofBytes l).inRange) then s.cfgApply t l true
    else
      let s := (s.cfgApply t (cfgDefault t) true).putBit GLB_CFG_STATUS_DEFAULTED t true
      let s := (s.flag GLB_BOOT_STATUS_CFG_DEFAULTED true).raise GLB_BOOT_EVENTS_CFG_DEFAULTED 2 (pay t)
      s.iff (t == 3) fun s => (s.flag MON_EVENTS_SYSCAL_LOST true).flag PWR_EVENTS_RESTORE_LOST true

/-- Every type restored at boot (19 Table 19.4 step 5). -/
def Dev.cfgRestore (s : Dev) : Dev := s.each cfgTypes (·.cfgRestoreOne ·)

/-- The SEQ of the next copy of a type: above the one in force and those that wait to be written. -/
def Dev.cfgNextSeq (s : Dev) (t : Nat) : Nat :=
  let queued := s.sys.ops.filterMap fun o =>
    match o.data with
    | some l => if o.addr = cfgAddr t 0 ∨ o.addr = cfgAddr t 1 then some (word32 l 4 + 1) else none
    | none => none
  maxNat (((s.cfgSeqOf t).map (· + 1)).getD 0 :: queued)

/-- A block's write queued: its sector's erase, its pages, its commit word (19 R604). -/
def Dev.cfgQueue (s : Dev) (u : FlashUse) (t : Nat) (l : List Byte) : Dev :=
  let seq := s.cfgNextSeq t
  let a := cfgAddr t seq
  s.flashQueue (eraseOp u (a / 4096) :: itemOps u a (cfgBlock t seq l))

/-- A block's commit word is in flash: a CFG_WRITE's content comes into force and the descriptor completes (19 R607). -/
def Dev.cfgCommitted (s : Dev) (o : FlashOp) : Dev :=
  let t := (o.addr - 0x310000) / 0x2000
  let a := o.addr / 4096 * 4096
  let seq := ofBytes (s.flashBytes (a + 4) 4)
  let s := s.setCfgSeq t (some seq)
  if o.use = .cfg then
    let s := s.cfgApply t (s.flashBytes (a + 16) (o.addr - a - 20)) false
    let s := (s.putBit GLB_CFG_STATUS_DEFAULTED t false).putBit GLB_CFG_STATUS_ABSENT t false
    let s := s.flag GLB_BOOT_STATUS_CFG_DEFAULTED (s.on GLB_CFG_STATUS_DEFAULTED)
    match s.waits.find? fun w => w.1 == .cfgWrite && w.2.byte 16 == t with
    | some w => { s with waits := s.waits.erase w }.finish w.2 (statusOf w.2.data) seq
    | none => s
  else s

/-- A block's write has failed for good: the previous copy stays, and a CFG_WRITE completes CHECK_FAIL (19 R604, R607). -/
def Dev.cfgFailed (s : Dev) (o : FlashOp) : Dev :=
  let t := (o.addr - 0x310000) / 0x2000
  match if o.use = .cfg then s.waits.find? fun w => w.1 == .cfgWrite && w.2.byte 16 == t else none with
  | some w => { s with waits := s.waits.erase w }.finish w.2 stCheckFail 0
  | none => s

/-! ## Commands -/

/-- CFG_AUTO_WRITE (19 R606, 03 R112, 12 R435): a changed block goes to flash. -/
def execCfgAutoWrite (typ : Nat) (s : State) : Host.Outcome State Fault Refusal :=
  run s fun d =>
    if d.sys.cfgDirty.contains typ ∧ d.hasFlash ∧ d.on GLB_BOOT_STATUS_BOOT_DONE ∧ cfgReserved typ = false then
      (d.modSys fun y => { y with cfgDirty := y.cfgDirty.filter (· != typ) }).cfgQueue .cfgAuto typ (d.cfgPayload typ)
    else d

/-- CFG_WRITE (19 R607). Without flash the write fails for good. -/
def execCfgWrite (c : Desc) (s : State) : Host.Outcome State Fault Refusal :=
  run s fun d => d.descriptor c fun d c =>
    let t := c.byte 16
    let own := t == 2 || t == 3
    if cfgReserved t ∨ (¬ own ∧ cfgLenOk t c.length = false) ∨ d.spanBad c c.length then d.finish c stInvalid 0
    else if own then d.finish c stRefused 0
    else
      let r := d.getData c 0 c.length
      match r.2.2 with
      | .failed => r.1.finish c stMemUe 0
      | a =>
        if t = 1 ∧ (ThmPar.ofBytes r.2.1).inRange = false then r.1.finish c stInvalid 0
        else if ¬ d.hasFlash then (r.1.logPlain Config.writeFailBit.toNat 2).finish c stCheckFail 0
        else (r.1.cfgQueue .cfg t r.2.1).park .cfgWrite { c with data := a }

/-- CFG_READ (19 R607). -/
def execCfgRead (c : Desc) (s : State) : Host.Outcome State Fault Refusal :=
  run s fun d => d.descriptor c fun d c =>
    let t := c.byte 16
    if cfgReserved t then d.finish c stInvalid 0
    else
      let copy := if d.hasFlash then d.cfgNewest t else none
      let stored := c.flag 17 0
      let live := d.cfgPayload t
      let out := if stored then (copy.map fun x => x.2.1).getD [] else live
      let n := if stored then ((copy.map fun x => x.2.1.length)).getD ((cfgFixed t).getD live.length) else live.length
      let res := n + 65536 * bnat (d.getBit GLB_CFG_STATUS_DEFAULTED t) + 131072 * bnat (d.getBit GLB_CFG_STATUS_ABSENT t)
      if (c.length ≠ 0 ∧ c.length < n) ∨ d.spanBad c (min c.length n) then d.finish c stInvalid 0
      else d.answer c out res

end Sys2Proof.Machine
end

