-- ==== Sys2Proof/Machine/Calendar.lean ====
section
/-! DEFINITION. The calendar from 2000-01-01 to 2199-12-31, in which 2100 is not a leap year (18 R590). -/

namespace Sys2Proof.Machine

/-- Whether a year, from 2000, is a leap year of the Gregorian calendar. -/
def leapYear (y : Nat) : Bool := ((2000 + y) % 4 == 0 && (2000 + y) % 100 != 0) || (2000 + y) % 400 == 0

/-- Days of a month. -/
def monthDays (y m : Nat) : Nat :=
  if m = 2 then (if leapYear y then 29 else 28) else if m = 4 ∨ m = 6 ∨ m = 9 ∨ m = 11 then 30 else 31

/-- Days of a year. -/
def yearDays (y : Nat) : Nat := if leapYear y then 366 else 365

/-- Whether calendar fields name a time in the range (18 R594). -/
def Cal.exists (c : Cal) : Bool :=
  decide (c.sec < 60) && decide (c.min < 60) && decide (c.hour < 24) && decide (1 ≤ c.month) && decide (c.month ≤ 12) &&
  decide (1 ≤ c.day) && decide (c.day ≤ monthDays c.year c.month) && decide (c.year ≤ 199)

/-- The next second. What follows 2199 is not given. -/
def Cal.next (c : Cal) : Cal :=
  if c.sec < 59 then { c with sec := c.sec + 1 }
  else if c.min < 59 then { c with sec := 0, min := c.min + 1 }
  else if c.hour < 23 then { c with sec := 0, min := 0, hour := c.hour + 1 }
  else if c.day < monthDays c.year c.month then { c with sec := 0, min := 0, hour := 0, day := c.day + 1 }
  else if c.month < 12 then { c with sec := 0, min := 0, hour := 0, day := 1, month := c.month + 1 }
  else { year := if c.year < 199 then c.year + 1 else Config.yearAfter.toNat }

/-- Seconds from 2000-01-01 00:00:00. -/
def Cal.seconds (c : Cal) : Nat :=
  let days := sumNat ((List.range c.year).map yearDays) +
    sumNat ((List.range (c.month - 1)).map fun m => monthDays c.year (m + 1)) + (c.day - 1)
  86400 * days + 3600 * c.hour + 60 * c.min + c.sec

/-- The calendar fields of a count of seconds. -/
def Cal.ofSeconds (n : Nat) : Cal :=
  let t := n % 86400
  let y := (List.range 200).foldl (fun (a : Nat × Nat) _ =>
    if yearDays a.1 ≤ a.2 then (a.1 + 1, a.2 - yearDays a.1) else a) (0, n / 86400)
  let m := (List.range 11).foldl (fun (a : Nat × Nat) _ =>
    if monthDays y.1 a.1 ≤ a.2 then (a.1 + 1, a.2 - monthDays y.1 a.1) else a) (1, y.2)
  { sec := t % 60, min := t / 60 % 60, hour := t / 3600, day := m.2 + 1, month := m.1, year := y.1 }

end Sys2Proof.Machine
end

