-- ==== Sys2Proof/Machine/Lull.lean ====
section
/-! DEFINITION. Lull: requests, entry, refresh, wake, and IEEE low-power idle (09 R332–R345). -/

namespace Sys2Proof.Machine

open Reg

/-! ## Requests (09 R332–R336) -/

/-- Whether shed sub-step 4 is why a port would enter Lull: its stream is not LPI-idle (09 R334). -/
def Dev.lullByShed (s : Dev) (p : Port) : Bool := s.get (LPn_LINK_STATUS_IDLE_KIND p) != 1

/-- An eligible port requests Lull when its stream is LPI-idle or sub-step 4 is in force (09 R334), once, and not during the
ban of R336. -/
def Dev.lullRequest (s : Dev) (p : Port) : Dev :=
  let k := s.get (LPn_LINK_STATUS_IDLE_KIND p)
  let l := (s.prt p).link
  if s.eligible p && (k == 1 || s.shedAt 6) && !l.backoff && l.reqKind == 0 && l.enter.isNone then
    let byShed := s.lullByShed p
    let s := s.modShed fun h =>
      { h with lulled := (if byShed then [p] else []) ++ h.lulled.filter fun q => q != p }
    (s.lmcQueue p mtLullReq (pay k)).1.modLink p fun l => { l with reqKind := k, wakePending := false }
  else s

/-- HOST_IDLE_DETECT (09 R332): what the host's stream is now. A stream that no decoder watches is never idle. Blocks beside
those of the kind in force wake a port in Lull (R340). -/
def execHostIdleDetect (p : Port) (kind : Nat) (s : State) : Host.Outcome State Fault Refusal :=
  run s fun d =>
    let watched := d.on (LPn_FEC_CTRL_RS_MON_TX p) || d.on (LPn_FEC_STATUS_TERM_TX p)
    let kind := if watched then kind % 3 else 0
    let d := (d.set (LPn_LINK_STATUS_IDLE_KIND p) kind).eligRefresh p
    let l := (d.prt p).link
    let own := if l.reqKind ≠ 0 then l.reqKind else l.kinds.1
    let d := d.iff ((own == 1 && kind != 1) || (own == 2 && kind == 0)) (·.lullWake p)
    d.lullRequest p

/-- Entry to Lull agreed (09 R337). -/
def Dev.lullAgree (s : Dev) (p : Port) (enterAt own partner : Nat) : Dev :=
  s.modLink p fun l => { l with enter := some (enterAt, own, partner), kinds := (own, partner), reqKind := 0 }

/-- LULL_REQ (09 R336): accepted by an eligible port, and for kind 1 by one whose stream is LPI-idle; of two crossed requests
the leader answers 3 and the follower answers the leader's. -/
def execLullReq (p : Port) (f : Frame) (kind : Nat) (s : State) : Host.Outcome State Fault Refusal :=
  run s fun d =>
    if d.lmcUp p && d.acqState p == 7 then
      let r := d.lmcAccept p mtLullReq f
      let d := r.1
      if r.2 then
        let l := (d.prt p).link
        let own := d.get (LPn_LINK_STATUS_IDLE_KIND p)
        let enterAt := max (d.get (LPn_LINK_CTRL_ENTER_AT p)) 2
        let answer := fun (d : Dev) (code : Nat) =>
          (d.lmcQueue p mtLullResp (pay code ++ pay enterAt ++ pay own)).1
        if l.reqKind ≠ 0 ∧ (d.prt p).acq.leader = some true then answer d 3
        else if ¬ d.on (LPn_LINK_CTRL_LULL_EN p) then answer d 2
        else if d.linkState p = lsUp ∧ (d.eligible p ∨ (kind = 1 ∧ own = 1)) then
          (answer d 0).lullAgree p enterAt own kind
        else answer d 1
      else d
    else d

/-- LULL_RESP (09 R336, R337): after an accept the entry is agreed; a decline is counted and bans requests for 10 ms; the
answer to a crossed request ends it. -/
def execLullResp (p : Port) (f : Frame) (code enterAt kind : Nat) (s : State) : Host.Outcome State Fault Refusal :=
  run s fun d =>
    if d.lmcUp p && d.acqState p == 7 then
      let r := d.lmcAccept p mtLullResp f
      let d := r.1
      let own := (d.prt p).link.reqKind
      if r.2 && own != 0 then
        if code = 0 then d.lullAgree p enterAt own kind
        else
          let d := { d.modLink p (fun l => { l with reqKind := 0, wakePending := false }) with
                     shed := { d.shed with lulled := d.shed.lulled.filter fun q => q != p } }
          if code = 3 then d
          else ((d.inc (LPn_LINK_COUNT_LULL_REFUSALS p)).flag (LPn_LINK_EVENTS_LULL_REFUSED p) true).modLink p fun l =>
            { l with backoff := true }
      else d
    else d

/-- LULL_BACKOFF_END (09 R336): the port may request again. -/
def execLullBackoffEnd (p : Port) (s : State) : Host.Outcome State Fault Refusal :=
  run s fun d => (d.modLink p fun l => { l with backoff := false }).lullRequest p

/-! ## Entry and refresh (09 R337–R339) -/

/-- LULL_ENTER_AT (09 R337, R342): the sleep word and then IDLE; the wake word in its place where a wake cause waits. -/
def execLullEnterAt (p : Port) (s : State) : Host.Outcome State Fault Refusal :=
  run s fun d =>
    let l := (d.prt p).link
    if l.enter.isSome ∧ (d.linkState p = lsUp ∨ d.linkState p = lsLull) then
      let d := d.modLink p fun l => { l with enter := none, wakePending := false }
      if l.wakePending then (d.modLink p fun l => { l with wakeSent := 1 }).sendWake p
      else ((d.sendWord p sleepWord).modTx p fun t => { t with idle := true }).txRefresh p
    else d

/-- The loops of a pair held on Lull entry (03 Table 3.2, 04 Table 4.2, 05 Table 5.4; 03 Table 3.6); a scan ends (04 R162). -/
def Dev.lullHold (s : Dev) (p : Port) : Dev :=
  s.each (s.rx p) fun s x =>
    let s := (s.eyeEnd p x stAborted).agcTo p x agcHold
    let s := s.iff (s.get (LPn_EQ_STATUS_ADAPT p x) == adFine) (·.adaptTo p x adHold)
    s.calAbandon p x true

/-- The loops of a pair leave HOLD (03 Table 3.2, 04 Table 4.2, 05 Table 5.4). -/
def Dev.lullRelease (s : Dev) (p : Port) : Dev :=
  s.each (s.rx p) fun s x =>
    (s.agcTo p x agcTrack).iff (s.get (LPn_EQ_STATUS_ADAPT p x) == adHold) (·.adaptTo p x adFine)

/-- SLEEP_WORD_RX (09 R337, R338): got holds what the receiver has decided in the places of symbols 32 to 63, in which the
correlation detects the word. -/
def execSleepWordRx (p : Port) (got : List Int) (s : State) : Host.Outcome State Fault Refusal :=
  run s fun d =>
    if d.linkState p = lsUp ∧ (d.prt p).link.kinds ≠ (0, 0) ∧ wordFound sleepWord got then
      ((d.lullHold p).flag (LPn_LINK_STATUS_LULL_KIND p) false).linkTo p lsLull
    else d

/-- Blocks of a refresh burst: eight training segments of 512 symbols (09 R339, 08 Table 8.7), in blocks of 256. -/
def burstBlocks : Nat := 16

/-- LULL_REFRESH (09 R339): a burst from a transmitter in IDLE begins, its pattern seeded all ones; its blocks leave with those
of CDR_UPDATE. -/
def execLullRefresh (p : Port) (s : State) : Host.Outcome State Fault Refusal :=
  run s fun d =>
    if (d.prt p).tx.idle ∧ ¬ d.on (LPn_LINK_STATUS_LULL_KIND p) then
      (d.each (txPairs (d.mode p)) fun d x =>
        d.modTxPair p x fun q => { q with burst := burstBlocks, blk := 0, prbs := 2 ^ 13 - 1 }).modLink p fun l =>
          { l with refreshes := l.refreshes + 1 }
    else d

/-- REFRESH_BURST_RX (09 R339, 04 R154): the partner's burst restarts the 3 ms of LULL_LOST, which is time only, and lets the
phase loop of each pair update in the burst's blocks. -/
def execRefreshBurstRx (p : Port) (s : State) : Host.Outcome State Fault Refusal :=
  run s fun d =>
    if d.linkState p = lsLull then d.modLink p fun l => { l with burst := Vector.replicate 2 burstBlocks } else d

/-- LULL_LOST (09 R318). -/
def execLullLost (p : Port) (s : State) : Host.Outcome State Fault Refusal :=
  run s fun d => if d.linkState p = lsLull then d.linkLoss p 6 else d

/-! ## Wake (09 R340–R343) -/

/-- LULL_WAKE_CAUSE (09 R340–R342). -/
def execLullWakeCause (p : Port) (s : State) : Host.Outcome State Fault Refusal := run s fun d => d.lullWake p

/-- WAKE_WORD_RX (09 R338, R341–R343): got holds what the receiver has decided in the places of symbols 32 to 63. The loops
leave HOLD, the chain restarts, and a port that has not sent its own wake word
sends it. A word that arrives before ENTER_AT is a wake cause. -/
def execWakeWordRx (p : Port) (got : List Int) (s : State) : Host.Outcome State Fault Refusal :=
  run s fun d =>
    let l := (d.prt p).link
    if ¬ wordFound wakeWord got then d
    else if l.enter.isSome ∧ d.linkState p = lsUp then d.lullWake p
    else if (d.linkState p = lsLull ∧ ¬ d.on (LPn_LINK_STATUS_LULL_KIND p)) ∨
        (d.linkState p = lsUp ∧ (d.prt p).tx.idle ∧ l.kinds ≠ (0, 0)) then
      let d := (d.iff (d.linkState p == lsLull) (·.lullRelease p)).chainStart p
      let d := (d.iff (l.wakeSent == 0) (·.sendWake p)).modTx p fun t => { t with idle := false, data := true }
      let d := d.modLink p fun l => { l with markWake := l.kinds.2 == 2, wakeSent := 0, kinds := (0, 0) }
      (d.linkTo p lsUp).txRefresh p
    else d

/-- WAKE_WORD_TIMEOUT (09 R341). -/
def execWakeWordTimeout (p : Port) (s : State) : Host.Outcome State Fault Refusal :=
  run s fun d =>
    if d.linkState p = lsLull then
      match (d.prt p).link.wakeSent with
      | 0 => d
      | 1 => ((d.inc (LPn_LULL_COUNT_WAKE_RETRIES p)).modLink p fun l => { l with wakeSent := 2 }).sendWake p
      | _ => ((d.inc (LPn_LULL_COUNT_WAKE_FAILS p)).flag (LPn_LINK_EVENTS_WAKE_FAIL p) true).linkLoss p 7
    else d

/-- LULL_EN's write acts (09 R340). -/
def Dev.lullWritten (s : Dev) (p : Port) : Dev :=
  let s := s.eligRefresh p
  if s.on (LPn_LINK_CTRL_LULL_EN p) then s.lullRequest p else s.lullWake p

/-! ## IEEE low-power idle (09 R345) -/

/-- LPI_SIGNAL (09 R345): CU-10N with LPI_EN follows the host's signalling, and the partner's quiet period is LULL of kind 1. -/
def execLpiSignal (p : Port) (sig : LpiSig) (s : State) : Host.Outcome State Fault Refusal :=
  run s fun d =>
    if d.mode p = 10 ∧ d.on (LPn_LINK_CTRL_LPI_EN p) ∧ (d.linkState p = lsUp ∨ d.linkState p = lsLull) then
      match sig with
      | .hostLpi => (d.modTx p fun t => { t with idle := true }).txRefresh p
      | .hostWake => (d.modTx p fun t => { t with idle := false }).txRefresh p
      | .partnerQuiet =>
        if d.linkState p = lsUp then ((d.lullHold p).flag (LPn_LINK_STATUS_LULL_KIND p) true).linkTo p lsLull else d
      | .partnerRefresh => d
      | .partnerWake =>
        if d.linkState p = lsLull then ((d.lullRelease p).flag (LPn_LINK_STATUS_LULL_KIND p) false).linkTo p lsUp else d
    else d

end Sys2Proof.Machine
end

