-- ==== Sys2Proof/Machine/Shed.lean ====
section
/-! DEFINITION. The shed order and the power cap (02 R74–R80, 16 R549, R552). Sub-steps are numbered 1a = 1 to 4 = 6; from 7 on
they are those of step 5. A cause holds the sub-steps up to its own depth. -/

namespace Sys2Proof.Machine

open Reg

/-! ## Sub-steps (02 R75) -/

/-- The port that the next sub-step of step 5 would doze (16 R549). -/
def Dev.dozeCandidate (s : Dev) : Option Port :=
  allPorts.reverse.find? fun p => !s.dozeBusy p && !s.pwr.gated.get p

/-- Whether a sub-step has something to act on (02 R75). -/
def Dev.shedActs (s : Dev) (n : Nat) : Bool :=
  match n with
  | 0 => false
  | 1 | 2 | 3 => allPorts.any fun p => s.running p && decide (4 - n < s.get (LPn_FEC_STATUS_ITER_LIMIT p))
  | 4 => allPorts.any fun p => s.running p && isFd (s.mode p)
  | 5 => s.monMayShed
  | 6 => allPorts.any fun p => s.eligible p
  | _ => s.dozeCandidate.isSome

/-- What follows from the sub-steps in force: PWR_SHED_STATUS (02 Table 2.14), iteration limits, windows, the monitor's mode. -/
def Dev.shedRefresh (s : Dev) : Dev :=
  let h := s.shed
  let s := s.set PWR_SHED_STATUS_ITER_CEIL (if s.shedAt 3 then 1 else if s.shedAt 2 then 2 else if s.shedAt 1 then 3 else 0)
  let s := ((s.flag PWR_SHED_STATUS_SPARSE_OFF (s.shedAt 4)).flag PWR_SHED_STATUS_MON_LP (s.shedAt 5)).flag
    PWR_SHED_STATUS_LULL_SHED (s.shedAt 6)
  let s := s.flag PWR_SHED_STATUS_DOZE_SHED (h.applied.any fun n => 7 ≤ n)
  let s := (s.flag PWR_SHED_STATUS_CAUSE_CAP (h.applied.any fun n => n ≤ h.cap)).flag PWR_SHED_STATUS_CAUSE_THROTTLE
    (h.applied.any fun n => n ≤ h.thr)
  (s.each allPorts fun s p => (s.iterRefresh p).sparseRefresh p).monMode

/-- The deepest sub-step in force; Table 16.9's code of it. -/
def Shed.top (h : Shed) : Nat := h.applied.headD 0

/-- The next sub-step, up to a depth, that has something to act on. -/
def Dev.shedNext (s : Dev) (depth : Nat) : Option Nat :=
  (List.range (depth + 1)).find? fun n => decide (s.shed.top < n) && s.shedActs n

/-- A sub-step applied (02 Table 2.8): sub-step 4 makes every eligible port ask for Lull (09 R334), one of step 5 dozes a
port. -/
def Dev.shedApply (s : Dev) (n : Nat) : Dev :=
  let s := s.modShed fun h => { h with applied := n :: h.applied }
  let s :=
    if n = 6 then s.each allPorts (·.lullRequest ·)
    else if 7 ≤ n then
      match s.dozeCandidate with
      | some p => (s.modShed fun h => { h with dozed := p :: h.dozed }).dozeRequest p true
      | none => s
    else s
  s.shedRefresh

/-- The newest sub-step withdrawn: ports that it put into Lull wake (09 R340), the port that it dozed leaves DOZE unless the
host has woken it before (16 R548, R549). -/
def Dev.shedWithdraw (s : Dev) : Dev :=
  match s.shed.applied with
  | [] => s
  | n :: r =>
    let s := s.modShed fun h => { h with applied := r }
    let s :=
      if n = 6 then
        let l := s.shed.lulled
        (s.modShed fun h => { h with lulled := [] }).each l (·.lullWake ·)
      else if 7 ≤ n then
        match s.shed.dozed with
        | p :: q =>
          (s.modShed fun h => { h with dozed := q }).iff (s.getBit PWR_DOZE_SHED p) (·.dozeWake p 1)
        | [] => s
      else s
    s.shedRefresh

/-! ## The cap (02 R76–R80, 16 R552) -/

/-- The sum of the device powers of the last 100 periods of 100 µs, and their number (02 R76). -/
def Dev.powerSum (s : Dev) : Nat × Nat := (sumNat (s.shed.power.take 100), (s.shed.power.take 100).length)
/-- Average device power of the last 10 ms in 10 mW (16 Table 16.19). -/
def Dev.devPower (s : Dev) : Nat :=
  let m := s.powerSum
  if m.2 = 0 then 0 else min (roundDiv m.1 (10 * m.2)).toNat 0xFFFF
/-- Whether the average of the last 10 ms does not exceed a fraction a ÷ b of a power in mW. -/
def Dev.powerWithin (s : Dev) (mw a b : Nat) : Bool := decide (s.powerSum.1 * b ≤ mw * a * s.powerSum.2)
/-- POWER_CAP's Result (16 R552). -/
def Dev.capResult (s : Dev) : Nat := 65536 * s.devPower + s.shed.top

/-- One comparison of an evaluation (02 R76, R77): met, or the next sub-step, or unmet. Gives the status where it is over. -/
def Dev.capStep (s : Dev) : Dev × Option Nat :=
  let stop := fun (s : Dev) => s.modShed fun h => { h with eval := false }
  if s.powerWithin (s.shed.capMw.getD 0) 1 1 then (stop s, some stOk)
  else
    match s.shedNext 6 with
    | some n => ((s.modShed fun h => { h with eval := true, cap := n }).shedApply n, none)
    | none => ((stop s).raise PWR_GOV_EVENTS_CAP_UNMET 1, some stCapUnmet)

/-- The POWER_CAP that waits, if one does, completes with an evaluation's outcome. -/
def Dev.capDone (r : Dev × Option Nat) : Dev :=
  match r.2 with
  | none => r.1
  | some st => r.1.wakeOne .powerCap st r.1.capResult

/-- A cap's evaluation begins from the sub-steps already applied, which the cap now holds too (02 R76, R78, R79). -/
def Dev.capBegin (s : Dev) : Dev :=
  Dev.capDone (s.modShed fun h => { h with cap := (h.applied.find? fun n => n ≤ 6).getD 0 }).shedRefresh.capStep

/-- The newest sub-step withdrawn that only the cap holds (02 R79, R80). -/
def Dev.capWithdraw (s : Dev) : Dev :=
  let h := s.shed
  if h.thr < h.top ∧ h.top ≤ h.cap then (s.modShed fun h => { h with cap := (h.applied.drop 1).headD 0 }).shedWithdraw else s

/-- POWER_CAP (02 R76–R78, 16 R552). -/
def execPowerCap (c : Desc) (s : State) : Host.Outcome State Fault Refusal :=
  run s fun d => d.descriptor c fun d c =>
    let cap := c.bytes 16 4
    if cap ≠ 0 ∧ (cap < 5000 ∨ 40000 < cap) then d.finish c stInvalid 0
    else
      let d := d.wakeAll (fun w => w == .powerCap) stAborted (fun _ => d.capResult)
      let d := d.set PWR_CAP_CAP (roundDiv cap 10).toNat
      if cap = 0 then
        let d := (d.modShed fun h => { h with capMw := none, eval := false }).capWithdraw
        d.finish c stOk d.capResult
      else ((d.modShed fun h => { h with capMw := some cap }).park .powerCap { c with data := .first }).capBegin

/-- CAP_EVAL_WINDOW_END (02 R76, R77). -/
def execCapEvalWindowEnd (s : State) : Host.Outcome State Fault Refusal :=
  run s fun d => if d.shed.eval then Dev.capDone d.capStep else d

/-- CAP_WITHDRAW_TIMER (02 R80, 16 R552): with power at or below 95 % of the cap, or after the cap's end. -/
def execCapWithdrawTimer (s : State) : Host.Outcome State Fault Refusal :=
  run s fun d =>
    match d.shed.capMw with
    | none => d.capWithdraw
    | some mw => if !d.shed.eval && d.powerWithin mw 95 100 then d.capWithdraw else d

/-! ## The throttle's hold (17 R563, R564, 02 R79) -/

/-- THROTTLE applies its next sub-step; it holds those already in force too (02 R79). -/
def Dev.throttleStep (s : Dev) : Dev :=
  match s.shedNext 14 with
  | some n => (s.modShed fun h => { h with thr := n }).shedApply n
  | none => (s.modShed fun h => { h with thr := h.top }).shedRefresh

/-- The newest sub-step withdrawn that only THROTTLE holds (17 R564); where the cap holds it, THROTTLE's hold ends. -/
def Dev.throttleWithdraw (s : Dev) : Dev :=
  let h := s.shed
  if h.thr = 0 then s
  else if h.cap < h.top ∧ h.top ≤ h.thr then
    (s.modShed fun h => { h with thr := (h.applied.drop 1).headD 0 }).shedWithdraw
  else (s.modShed fun h => { h with thr := 0 }).shedRefresh

/-! ## Reset (17 R645) -/

/-- Every sub-step withdrawn at once, whichever cause held it (17 R645). -/
def Dev.shedReset (s : Dev) (keepCap : Bool) : Dev :=
  (s.modShed fun h => { capMw := if keepCap then h.capMw else none, power := h.power }).shedRefresh

end Sys2Proof.Machine
end

