-- ==== Sys2Proof/Machine/Reset.lean ====
section
/-! DEFINITION. What the reset kinds do: classes returned, descriptors aborted, adaptation frozen while no firmware runs
(19 R596–R601, 13 R480, R481, 01 R21). -/

namespace Sys2Proof.Machine

open Reg

/-! ## Registers (00 Table 0.6) -/

/-- Fields that show what clocks and pins do, whatever a reset returns (DEDUCED, log entry 44). -/
def clockFields : List Fld :=
  [GLB_HW_STATUS_REFCLK_LINE_OK, GLB_HW_STATUS_REFCLK_HOST_OK, GLB_HW_STATUS_PLL_LINE_LOCK, GLB_HW_STATUS_PLL_HOST_LOCK,
   GLB_HW_STATUS_PLL_HOLD]

/-! ## Descriptors (13 R481) -/

/-- Every descriptor that waits ends ABORTED, but those that a test keeps; what they had under way and is not a unit's own
work ends with them, and actions already applied stand (13 R481). -/
def Dev.abortAll (s : Dev) (keep : WaitKind → Bool) : Dev :=
  let s := s.each allPorts fun s p =>
    let s := s.each bothPairs fun s x => s.eyeEnd p x stAborted
    let s := s.iff (s.waits.any fun w => w.1 == .capture p) (·.captureAbort p)
    let s := s.iff (s.waits.any fun w => w.1 == .adcCycle p) (·.cycleDrop p)
    s.iff (s.waits.any fun w => w.1 == .cableDiag p) fun s => s.modFd p fun f => { f with diag := false }
  let gone := fun (o : FlashOp) => o.use == .image || o.use == .cfg || o.use == .clear
  let s := (s.modSys fun y => { y with ops := y.ops.filter fun o => !gone o, load := false }).modEvr fun e => { e with clear := 0 }
  s.wakeAll (fun w => !keep w) stAborted (fun w =>
    match w with
    | .lmcSend _ _ n => n
    | .doze _ | .wake _ => s.get PWR_DOZE_IN_DOZE
    | _ => 0)

/-! ## The core (01 R21, 17 R561) -/

/-- The cancellers of a pair whose equaliser is not frozen follow the core by themselves (05 Table 5.4): training before the
pair's own acquisition halts and goes on. -/
def Dev.echoHalt (s : Dev) (p : Port) (x : Pair) : Dev :=
  let c := s.get (LPn_FD_STATUS_ECHO p x)
  if !s.coreRuns && (c == ecRaw || c == ecCoarse || c == ecFine || c == ecRecover) then
    (s.modEcho p x fun e => { e with frozeFrom := c }).set (LPn_FD_STATUS_ECHO p x) ecFrozen
  else if s.coreRuns && c == ecFrozen then s.set (LPn_FD_STATUS_ECHO p x) (s.echoOf p x).frozeFrom
  else s

/-- Adaptation follows the core: frozen at its last coefficients while no firmware runs, and back where it was (01 R21). -/
def Dev.adaptFollow (s : Dev) : Dev :=
  s.each allPorts fun s p => s.each bothPairs fun s x =>
    let st := s.get (LPn_EQ_STATUS_ADAPT p x)
    let from' := (s.eqOf p x).frozeFrom
    if !s.coreRuns && (st == adCoarse || st == adFine || st == adRecover) then s.adaptTo p x st
    else if s.coreRuns && st == adFrozen && !(from' == adFine && s.frozen p x) then s.adaptTo p x from'
    else if st != adFrozen then s.echoHalt p x
    else s

/-- The core comes to a state; the thermal guard stops as firmware runs (17 R561). -/
def Dev.setCore (s : Dev) (c : CoreState) : Dev :=
  let s := (s.modSys fun y => { y with core := c }).adaptFollow
  s.iff (c == .running) fun s => s.flag THM_STATUS_GUARD false

/-! ## Core reset and watchdog (19 R599, R600) -/

/-- Classes C and P at their reset values (19 R599): test functions end (10 R374), governor ceilings go (02 R62), and live
state that follows from settings shows what they now give; counts of the model that stand for such fields go. -/
def Dev.classCP (s : Dev) : Dev :=
  let s := s.each allLanes (·.testsEnd ·)
  let s := s.regsReset fun f => (f.cls == .c || f.cls == .p) && !f.live
  let s := s.each allPorts fun s p =>
    let s := (s.modFec p fun f => { f with ctr := Vector.replicate 64 0 }).ceilNone p
    (((s.txRefresh p).groupRefresh p).overrideRefresh p).freezeRefresh p
  s.each allLanes fun s l => s.modLane l fun h => { h with bits := 0, errors := 0 }

/-- A restart of the core begins (DESIGN CHOICE, log entry 92: the data path runs on, R599, and with it the gain loop and a
calibration step in progress, R122, where 03 Table 3.6 has them OFF): what waits is aborted, the core resets, and its cause is recorded (19 Table 19.16). -/
def Dev.restartBegin (s : Dev) (r : Restart) (last cause : Nat) (keep : WaitKind → Bool) : Dev :=
  let s := s.abortAll keep
  let s := (s.modSys fun y => { y with restart := some r, switch := none }).setCore .resetting
  (s.set GLB_RESET_CAUSE_LAST last).set GLB_RESET_CAUSE_CORE_CAUSE cause

/-- A core reset, unless a reset of its rank or a higher one is in progress (19 R600). -/
def Dev.coreReset (s : Dev) (cause : Nat) (keep : WaitKind → Bool := fun _ => false) : Dev :=
  if s.on GLB_BOOT_STATUS_BOOT_DONE ∧ s.sys.restart = none then (s.restartBegin (.core cause) 4 cause keep).classCP else s

/-! ## Thermal state after a reset of class S (17 R645, R559, R566) -/

/-- The thermal model restarts; what R566 and R557 hold since power-on stays, and so do the parameters and the quench record. -/
def Dev.thmReset (s : Dev) (powerOn : Bool) : Dev :=
  s.modThm fun t =>
    { qrec := t.qrec, par := t.par, nextPar := t.nextPar
      zone := t.zone.map fun z =>
        if powerOn then {} else { valid := z.valid, subst := z.subst, stale := z.stale }
      refValid := if powerOn then 70000000000000 else t.refValid, refSubst := t.refSubst && !powerOn
      report := if powerOn then none else t.report }

/-! ## Soft reset (19 R601) -/

/-- Whether every port has come to STOPPED (19 R601 step 2). -/
def Dev.allStopped (s : Dev) : Bool :=
  allPorts.all fun p => s.linkState p == lsStopped && (s.prt p).link.stopping == none && !s.dozeBusy p

/-- Fields of class S that a soft reset leaves as they show what goes on: the records that wait and the sector being written,
which no reset of this rank touches (18 Table 18.7; DESIGN CHOICE, log entry 85), and the regulator's code (02 R63). -/
def softKeep : List Fld := [EVR_STATUS_BUFFERED, EVR_STATUS_WR_SECTOR, PWR_GOV_STATUS_VCMD]

/-- Step 3 of R601: classes S, C and P return, the governor restarts (02 R63), the map is the default map (10 R646), the
counters and the check engine are at reset (14 R500, 15 R529), and a cap still in force is evaluated afresh (17 R645). -/
def Dev.softClasses (s : Dev) : Dev :=
  let s := s.regsReset fun f => (f.cls == .s || f.cls == .c || f.cls == .p) && !softKeep.contains f
  let s : Dev := { s with lane := Vector.replicate 16 {}, host := {}, ctr := {}, chk := { sigs := s.chk.sigs }, gov := {} }
  let s := s.each allPorts (·.portReset ·)
  let s := (s.thmReset false).auxHeldRefresh
  let s := (s.govStart.shedReset true).unfreeze
  s.iff s.shed.capMw.isSome (·.capBegin)

/-- Step 3 once every port of a soft reset has stopped (19 R601). -/
def Dev.softAdvance (s : Dev) : Dev :=
  if s.sys.restart = some .soft ∧ s.allStopped then s.softClasses else s

/-! ## Hard resets (19 R596, R597, 20 R618) -/

/-- Power-on, RESET_N and host hard reset (19 Table 19.1): classes H, S, C and P return, K where its supply was lost;
transmitters are OFF at once and ports STOPPED; every ring is disabled and nothing completes (13 R480); no word of the on-die
memories is valid. What flash, fuses, the clocks and the records in the buffer hold stays. -/
def Dev.hardReset (s : Dev) (cause : Nat) (powerOn kLost : Bool) : Dev :=
  let stays := fun (f : Fld) =>
    f == AUX_STATUS_CLR_PIN || (!powerOn && (f == PWR_GOV_STATUS_VCMD || clockFields.contains f)) ||
    (!kLost && f == GLB_HW_STATUS_XTAL_OK)
  let s := s.regsReset fun f =>
    (f.cls == .h || f.cls == .s || f.cls == .c || f.cls == .p || (kLost && f.cls == .k)) && !stays f
  let s := s.thmReset powerOn
  let s := s.each (s.mem.die.get 3) fun s e => s.write (.word 3 e.1 {})
  let s := s.each allMems fun s m => s.write (.invalidate m 0 (memWords m))
  let e := s.evr
  let s : Dev :=
    { timebase := if powerOn then 0 else s.timebase, regs := s.regs, mem := s.mem, writes := s.writes, msg := s.msg
      lastCpl := s.lastCpl, draws := s.draws
      aux := s.aux.map fun a => { driven := a.driven && !powerOn }
      thm := { s.thm with qrec := if kLost then {} else s.thm.qrec }
      evr := if powerOn then {} else { e with clear := 0, force := false, newest := none }
      rtc := if kLost then {} else s.rtc
      sys := { otp := s.sys.otp, bootSeq := s.sys.bootSeq }
      jtag := if powerOn then {} else s.jtag
      hold := if powerOn then Vector.replicate 2 none else s.hold }
  let s := s.set EVR_STATUS_BUFFERED s.evr.buf.length
  let s := s.iff powerOn fun s => ((s.set EVR_SEQ_VALUE 0).set EVR_HOURS_VALUE 0).set EVR_CYCLES_VALUE 0
  let s := s.each allPorts (·.adcFresh · false)
  let s := s.each allAux fun s c => s.iff (s.aux.get c).driven (·.auxClear c)
  let s := (s.auxHeldRefresh).govStart
  (s.set GLB_RESET_CAUSE_LAST cause).set GLB_RESET_CAUSE_CORE_CAUSE 0

/-- The straps sampled as a hard reset ends (19 R602, Table 19.2): the boot transport is enabled (13 R440), and boot begins. -/
def Dev.strapSample (s : Dev) (strap : BitVec 4) : Dev :=
  let n := strap.toNat
  let t := if n % 4 = 3 then 1 else n % 4
  let s := (s.set GLB_BOOT_STATUS_STRAP n).set GLB_TRANSPORT_BOOT t
  let s := s.flag (if t = 0 then GLB_TRANSPORT_PCIE_EN else if t = 1 then GLB_TRANSPORT_SPI_EN else GLB_TRANSPORT_MDIO_EN) true
  let s := s.set GLB_BOOT_STATUS_ROLLBACK s.sys.otp
  s.modSys fun y => { y with core := .booting, inReset := false }

end Sys2Proof.Machine
end

