-- ==== Sys2Proof/Machine/Firmware.lean ====
section
/-! DEFINITION. Firmware images, boot control, FW_LOAD, FW_ACTIVATE and the switch, and the end of a flash operation
(19 R604, R608–R613, R643). -/

namespace Sys2Proof.Machine

open Reg

/-! ## Images (19 R608, Table 19.11) -/

/-- A slot's address: A is false, B is true (19 Table 19.5). -/
def slotBase (b : Bool) : Nat := if b then 0x190000 else 0x10000
/-- The slot that is not running. -/
def Dev.freeSlot (s : Dev) : Bool := !s.on GLB_BOOT_STATUS_IMAGE

/-- A slot's header; with no flash fitted, the one that FW_LOAD has brought. -/
def Dev.slotHeader (s : Dev) (b : Bool) : List Byte :=
  if s.hasFlash then s.flashBytes (slotBase b) 512 else padBytes 512 s.sys.header

/-- FW_VERSION, ILEN and DLEN of a header. -/
def hdrVersion (h : List Byte) : Nat := word32 h 4
def hdrIlen (h : List Byte) : Nat := word32 h 12
def hdrDlen (h : List Byte) : Nat := word32 h 16

/-- What is wrong with a slot (19 R608, R611): 0 nothing, 1 header, 2 key, 3 signature, 4 hash, 5 rollback. -/
def Dev.slotFault (s : Dev) (b : Bool) (c : SlotCheck) : Nat :=
  let h := s.slotHeader b
  let i := hdrIlen h
  let n := hdrDlen h
  if word32 h 0 ≠ 0x524C4D4F ∨ word16 h 10 ≠ 1 ∨ i % 8 ≠ 0 ∨ i < 8 ∨ 1048576 < i ∨ n % 8 ≠ 0 ∨ 131072 < n then 1
  else if c.key = false then 2
  else if c.sig = false then 3
  else if c.hash = false then 4
  else if word16 h 8 < s.sys.otp then 5
  else 0

/-- Bytes loaded into an on-die memory from a byte offset, those beyond its end dropped. -/
def Dev.loadBytes (s : Dev) (m : MemId) (off : Nat) (l : List Byte) : Dev := (s.writeMem m off (l.take (8 * memWords m - off))).1

/-- An image loaded from flash: its instructions into memory 0, its data into memory 1 (19 Table 19.11), no more
of either than the memory holds. With no flash fitted
they are there already. -/
def Dev.loadImage (s : Dev) (b : Bool) : Dev :=
  if s.hasFlash then
    let h := s.slotHeader b
    let a := slotBase b + 512
    (s.loadBytes 0 0 (s.flashBytes a (min (hdrIlen h) (8 * memWords 0)))).loadBytes 1 0
      (s.flashBytes (a + hdrIlen h) (min (hdrDlen h) (8 * memWords 1)))
  else s

/-- What runs: its version and its ROLLBACK. -/
def Dev.nowRuns (s : Dev) (b : Bool) : Dev :=
  let h := s.slotHeader b
  (s.set GLB_FW_VERSION_FW_VERSION (hdrVersion h)).modSys fun y => { y with rollback := word16 h 8 }

/-! ## Boot control (19 R604) -/

/-- A boot-control entry's content but for its commit word. -/
def bootEntry (seq : Nat) (b : Bool) : List Byte :=
  let l := bytesOf 4 seq ++ pay (bnat b) ++ bytesOf 19 0
  l ++ bytesOf 4 (crc32c l)

/-- The committed entries with a good check: SEQ and slot. -/
def Dev.bootEntries (s : Dev) : List (Nat × Bool) :=
  [0, 1].filterMap fun k =>
    let l := s.flashBytes (4096 * k) 32
    if ofBytes (l.drop 28) ≠ 0xFFFFFFFF ∧ word32 l 24 = crc32c (l.take 24) then
      some (word32 l 0, (l.getD 4 0) == 1)
    else none

/-- The slot that boot control selects (19 R604), and that entry's SEQ. -/
def Dev.bootSelect (s : Dev) : Nat × Bool :=
  match s.bootEntries with
  | [] => (0, false)
  | [e] => e
  | e :: f :: _ => if e.1 ≤ f.1 then f else e

/-- A boot-control entry for a slot goes to flash. -/
def Dev.bootWrite (s : Dev) (b : Bool) : Dev :=
  let queued := s.sys.ops.filterMap fun o => if o.use = .boot then o.data.map fun l => word32 l 0 else none
  let seq := maxNat (s.sys.bootSeq :: queued) + 1
  s.flashQueue (eraseOp .boot (seq % 2) :: itemOps .boot (4096 * (seq % 2)) (bootEntry seq b))

/-- Every COMMIT that waits completes. -/
def Dev.commitEnd (s : Dev) (status result : Nat) : Dev :=
  let mine := fun (w : WaitKind × Desc) => w.1 == .fwActivate && w.2.bits 16 1 0 == 2
  { s with waits := s.waits.filter fun w => !mine w }.each (s.waits.filter mine) fun s w => s.finish w.2 status result

/-- Whether a boot-control entry still waits to be written. -/
def Dev.bootQueued (s : Dev) : Bool := s.sys.ops.any fun o => o.use == .boot

/-- A boot-control entry's commit word is in flash (19 R604, R612): COMMIT ends the trial. -/
def Dev.bootCommitted (s : Dev) (o : FlashOp) : Dev :=
  let l := s.flashBytes (o.addr / 4096 * 4096) 5
  let s := s.modSys fun y => { y with bootSeq := word32 l 0 }
  let s := s.flag GLB_BOOT_STATUS_COMMITTED_IMAGE ((l.getD 4 0) == 1)
  if s.bootQueued then s
  else
    (s.iff (s.waits.any fun w => w.1 == .fwActivate && w.2.bits 16 1 0 == 2) (·.flag GLB_BOOT_STATUS_TRIAL false)).commitEnd
      stOk (s.get GLB_FW_VERSION_FW_VERSION)

/-! ## FW_LOAD (19 R611) -/

/-- An FW_LOAD that waits completes. -/
def Dev.loadEnd (s : Dev) (status result : Nat) : Dev :=
  (s.modSys fun y => { y with load := false }).wakeOne .fwLoad status result

/-- An FW_LOAD's bytes are all in their place: with LAST the slot is verified, else it completes with their number. -/
def Dev.loadDone (s : Dev) (c : SlotCheck) : Dev :=
  match s.waiting .fwLoad with
  | none => s
  | some w =>
    if w.flag 20 0 then
      match s.slotFault s.freeSlot c with
      | 0 => s.loadEnd (statusOf w.data) (hdrVersion (s.slotHeader s.freeSlot))
      | 5 => s.loadEnd stRefused 5
      | n => s.loadEnd stCheckFail n
    else s.loadEnd (statusOf w.data) w.length

/-- The flash operations of a chunk: each sector erased as the range enters it, and its pages. -/
def imageOps (addr : Nat) (l : List Byte) : List FlashOp :=
  (chunks 256 l.length l).zipIdx.flatMap fun x =>
    let a := addr + 256 * x.2
    (if a % 4096 = 0 then [eraseOp .image (a / 4096)] else []) ++ [pageOp .image a x.1]

/-- A chunk written straight into core memory, with no flash fitted (19 R610): the header kept, instructions into memory 0,
data into memory 1. -/
def Dev.loadStraight (s : Dev) (off : Nat) (l : List Byte) : Dev :=
  let old := padBytes 512 s.sys.header
  let s := s.iff (decide (off < 512)) fun s => s.modSys fun y =>
    { y with header := padBytes 512 (old.take off ++ l ++ old.drop (off + l.length)) }
  let i := hdrIlen s.sys.header
  let code := ((l.drop (512 - off)).take (512 + i - max off 512))
  let data := l.drop (512 + i - off)
  let s := s.iff (decide (off < 512 + i)) fun s => s.loadBytes 0 (off - 512) code
  s.loadBytes 1 (off - 512 - i) data

/-- FW_LOAD (19 R611). -/
def execFwLoad (c : Desc) (s : State) : Host.Outcome State Fault Refusal :=
  run s fun d => d.descriptor c fun d c =>
    let off := c.bytes 16 4
    let last := c.flag 20 0
    if off % 256 ≠ 0 ∨ c.length % 256 ≠ 0 ∨ 65536 < c.length ∨ 1572864 < off + c.length ∨ d.spanBad c c.length then
      d.finish c stInvalid 0
    else if d.on GLB_BOOT_STATUS_TRIAL then d.finish c stRefused 0
    else if d.sys.load ∨ d.sys.switch.isSome then d.finish c stBusy 0
    else
      let r := d.getData c 0 c.length
      match r.2.2 with
      | .failed => r.1.finish c stMemUe 0
      | a =>
        let hold := fun (d : Dev) => (d.modSys fun y => { y with load := true }).park .fwLoad { c with data := a }
        if d.hasFlash then
          if c.length = 0 ∧ last = false then d.finish c stOk 0
          else (hold r.1).flashQueue (imageOps (slotBase d.freeSlot + off) r.2.1)
        else
          let d := r.1.loadStraight off r.2.1
          if last then hold d else d.finish c (statusOf a) c.length

/-! ## FW_ACTIVATE (19 R612, R613) -/

/-- Step 1 of a switch (19 Table 19.13). -/
def Dev.switchBegin (s : Dev) (c : Desc) (commit : Bool) : Dev :=
  if s.sys.load ∨ s.sys.switch.isSome then s.finish c stBusy 0
  else
    (s.modSys fun y => { y with switch := some { commit := commit, step := 1, again := false, version := 0 } }).park .fwActivate c

/-- FW_ACTIVATE SWITCH (19 R612). -/
def execFwActivateSwitch (c : Desc) (s : State) : Host.Outcome State Fault Refusal :=
  run s fun d => d.descriptor c fun d c => d.switchBegin { c with data := .first } true

/-- FW_ACTIVATE TRIAL (19 R612). -/
def execFwActivateTrial (c : Desc) (s : State) : Host.Outcome State Fault Refusal :=
  run s fun d => d.descriptor c fun d c => d.switchBegin { c with data := .first } false

/-- FW_ACTIVATE COMMIT (19 R612). Recovery has no running slot to commit; without flash its write fails (log entry 45). -/
def execFwActivateCommit (c : Desc) (s : State) : Host.Outcome State Fault Refusal :=
  run s fun d => d.descriptor c fun d c =>
    if d.on GLB_BOOT_STATUS_RECOVERY then d.finish c stRefused 0
    else if d.sys.load ∨ d.sys.switch.isSome then d.finish c stBusy 0
    else if ¬ d.hasFlash then (d.logPlain Config.writeFailBit.toNat 2).finish c stCheckFail 0
    else (d.park .fwActivate { c with data := .first }).bootWrite (d.on GLB_BOOT_STATUS_IMAGE)

/-- FW_ACTIVATE RAISE_ROLLBACK (19 R608, R612): fuses only blow, and there are 64. -/
def execFwActivateRaiseRollback (c : Desc) (s : State) : Host.Outcome State Fault Refusal :=
  run s fun d => d.descriptor c fun d c =>
    if d.on GLB_BOOT_STATUS_TRIAL then d.finish c stRefused 0
    else if d.sys.load ∨ d.sys.switch.isSome then d.finish c stBusy 0
    else
      let n := max d.sys.otp (min d.sys.rollback 64)
      let d := d.iff (decide (d.sys.otp < n)) (·.flag GLB_BOOT_EVENTS_ROLLBACK_RAISED true)
      ((d.modSys fun y => { y with otp := n }).set GLB_BOOT_STATUS_ROLLBACK n).finish c stOk n

/-- FW_SWITCH_VERIFY_DONE (19 Table 19.13 steps 1 and 2): an invalid slot changes nothing; a valid one stops the core. -/
def execFwSwitchVerifyDone (c : SlotCheck) (s : State) : Host.Outcome State Fault Refusal :=
  run s fun d =>
    match d.sys.switch with
    | none => d
    | some w =>
      if w.step ≠ 1 then d
      else if d.slotFault d.freeSlot c ≠ 0 then
        (d.modSys fun y => { y with switch := none }).wakeOne .fwActivate stCheckFail 0
      else
        let v := hdrVersion (d.slotHeader d.freeSlot)
        let d := (d.commitEnd stAborted 0).abortAll (fun w => w == .fwActivate)
        (d.modSys fun y => { y with switch := some { w with step := 3, version := v } }).setCore .switching

/-- FW_SWITCH_LOAD_DONE (19 Table 19.13 step 3, R613): a differing hash is loaded once more, then the device goes back to the
previous image. -/
def execFwSwitchLoadDone (hashOk : Bool) (s : State) : Host.Outcome State Fault Refusal :=
  run s fun d =>
    match d.sys.switch with
    | none => d
    | some w =>
      let next := fun (w : Switch) => d.modSys fun y => { y with switch := some w }
      if w.step ≠ 3 then d
      else if hashOk then (next { w with step := 4 }).loadImage d.freeSlot
      else if w.again then d.coreReset 3 (fun w => w == .fwActivate)
      else next { w with again := true }

/-- FW_SWITCH_RESUME (19 Table 19.13 steps 4 and 5, R612): adaptation resumes and FW_ACTIVATE completes. -/
def execFwSwitchResume (s : State) : Host.Outcome State Fault Refusal :=
  run s fun d =>
    match d.sys.switch with
    | none => d
    | some w =>
      if w.step ≠ 4 then d
      else
        let b := if d.hasFlash then d.freeSlot else d.on GLB_BOOT_STATUS_IMAGE
        let d := (d.nowRuns b).flag GLB_BOOT_STATUS_IMAGE b
        let d := ((d.flag GLB_BOOT_STATUS_TRIAL (!w.commit)).flag GLB_BOOT_STATUS_RECOVERY false).inc GLB_RESET_COUNT_SWITCHES
        let d := (d.modSys fun y => { y with switch := none }).setCore .running
        (d.wakeOk .fwActivate w.version).iff (w.commit && d.hasFlash) (·.bootWrite b)

/-! ## The end of a flash operation (19 R604, R643) -/

/-- A page is in flash and its check held. -/
def Dev.flashItem (s : Dev) (o : FlashOp) (c : SlotCheck) : Dev :=
  let commits := o.data == some (bytesOf 4 0)
  match o.use with
  | .cfg | .cfgAuto => if commits then s.cfgCommitted o else s
  | .boot => if commits then s.bootCommitted o else s
  | .image => if s.sys.ops.any (fun o => o.use == .image) then s else s.loadDone c
  | _ => s

/-- A page's second write failed too (19 R604, R607, R611): the rest of its item is not written, the previous copy stays. -/
def Dev.flashLost (s : Dev) (o : FlashOp) : Dev :=
  let rest := fun (x : FlashOp) => x.use == o.use && (o.use == .image || x.addr / 4096 == o.addr / 4096)
  let s := (s.modSys fun y => { y with ops := y.ops.filter fun x => !rest x }).logPlain Config.writeFailBit.toNat 2
  match o.use with
  | .cfg | .cfgAuto => s.cfgFailed o
  | .boot => if s.bootQueued then s else s.commitEnd stCheckFail 0
  | .image => s.loadEnd stCheckFail 0
  | _ => s

/-- The flash operation in progress ends (19 R643): the first that may run. -/
def Dev.flashDone (s : Dev) (ok : Bool) (c : SlotCheck) : Dev :=
  match s.sys.ops.find? fun o => s.flashRuns o with
  | none => if s.sys.load then s.loadDone c else s
  | some o =>
    let s := s.modSys fun y => { y with ops := y.ops.erase o }
    match o.data with
    | none =>
      let s := s.write (.erase (o.addr / 4096))
      if o.use = .clear then s.clearStep else s
    | some l =>
      let s := s.each l.zipIdx fun s x => s.write (.program (o.addr + x.2) x.1)
      match o.use with
      | .events => s.storePageDone l
      | _ =>
        if ok then s.flashItem o c
        else if o.again then s.flashLost o
        else s.modSys fun y => { y with ops := { o with again := true } :: y.ops }

end Sys2Proof.Machine
end

