-- ==== Sys2Proof/Machine/Boot.lean ====
section
/-! DEFINITION. Power-on, RESET_N and host hard reset, boot, soft reset, watchdog, core restart, and brown-out
(19 R596–R602, R609, R610, R614, 20 R618, R629). -/

namespace Sys2Proof.Machine

open Reg

/-! ## Hard resets (19 R596, R597, R600, R602) -/

/-- Whether a hard reset is in progress, from its start to BOOT_DONE (19 Table 19.1): one of equal or lower rank that arrives
has no further effect (R600). -/
def Dev.hardBusy (s : Dev) (rank : Nat) : Bool := !s.on GLB_BOOT_STATUS_BOOT_DONE && decide (s.get GLB_RESET_CAUSE_LAST ≤ rank)

/-- POWER_ON_RESET (19 R596). -/
def execPowerOnReset (vbatKept : Bool) (s : State) : Host.Outcome State Fault Refusal :=
  run s fun d => d.hardReset 0 true (!vbatKept)

/-- SUPPLY_GOOD (19 Table 19.4 steps 1 and 2). -/
def execSupplyGood (strap : BitVec 4) (s : State) : Host.Outcome State Fault Refusal :=
  run s fun d => if d.sys.core = .off then d.strapSample strap else d

/-- RESET_N (19 R596): low and released, with the straps as the release finds them. -/
def execResetN (strap : BitVec 4) (s : State) : Host.Outcome State Fault Refusal :=
  run s fun d => if d.hardBusy 1 then d else (d.hardReset 1 false false).strapSample strap

/-- HOST_HARD_RESET (19 R597, 20 R629): a hot reset, FLR and PERST_N act alike. -/
def execHostHardReset (_k : PcieReset) (s : State) : Host.Outcome State Fault Refusal :=
  run s fun d =>
    if (d.get GLB_TRANSPORT_BOOT = 0 ∨ d.on GLB_TRANSPORT_PCIE_EN) ∧ ¬ d.hardBusy 2 then
      (d.hardReset 2 false false).modSys fun y => { y with core := .booting }
    else d

/-- PCIE_RESET_END (19 Table 19.1): the straps are sampled and boot begins. -/
def execPcieResetEnd (strap : BitVec 4) (s : State) : Host.Outcome State Fault Refusal :=
  run s fun d => if d.sys.core = .booting ∧ d.sys.inReset then d.strapSample strap else d

/-! ## Boot (19 Table 19.4) -/

/-- The slot that boot loads (19 R609, R610): whether it fell back, and the slot; none is recovery. -/
def Dev.bootSlot (s : Dev) (a b : SlotCheck) : Option (Bool × Bool) :=
  let good := fun (x : Bool) => s.slotFault x (if x then b else a) == 0
  let sel := s.on GLB_BOOT_STATUS_COMMITTED_IMAGE
  if s.get GLB_BOOT_STATUS_STRAP % 4 = 3 ∨ ¬ s.hasFlash then none
  else if good sel then some (false, sel)
  else if good (!sel) then some (true, !sel)
  else none

/-- BOOT_IMAGE_LOADED (19 Table 19.4 steps 4 and 5, R609, R610; 18 R576, R578, R583, R592): the recorder finds its place, a
slot is loaded or the device goes into recovery, class N settings return, and the monitor starts. -/
def execBootImageLoaded (a b : SlotCheck) (s : State) : Host.Outcome State Fault Refusal :=
  run s fun d =>
    if d.sys.core = .booting ∧ ¬ d.sys.inReset ∧ ¬ d.on GLB_BOOT_STATUS_BOOT_DONE ∧ d.get MON_STATUS_STATE = 0 then
      let d := d.iff d.hasFlash (·.evrScan (d.get GLB_RESET_CAUSE_LAST == 0))
      let d := d.iff (!d.hasFlash && d.get GLB_RESET_CAUSE_LAST == 0) fun d =>
        d.set EVR_CYCLES_VALUE (d.get EVR_CYCLES_VALUE + 1)
      let d := d.iff d.rtc.lostDue fun d =>
        let d : Dev := { d with rtc := { d.rtc with lostDue := false } }
        d.logPlain 0xF3 1
      let sel := if d.hasFlash then d.bootSelect else (0, false)
      let d := (d.modSys fun y => { y with bootSeq := sel.1 }).flag GLB_BOOT_STATUS_COMMITTED_IMAGE sel.2
      let d := match d.bootSlot a b with
        | some (fell, x) =>
          let d := ((d.flag GLB_BOOT_STATUS_IMAGE x).nowRuns x).loadImage x
          d.iff fell (·.raise GLB_BOOT_EVENTS_IMAGE_FALLBACK 2 (pay (bnat x)))
        | none => d.flag GLB_BOOT_STATUS_RECOVERY true
      d.cfgRestore.monStartup
    else d

/-- The quench record (17 Table 17.4). -/
def QRec.bytes (q : QRec) : List Byte :=
  bytesOf 4 q.sec ++ bytesOf 4 q.cycles ++ pay q.zone ++ pay (bnat q.predicted + 2 * bnat q.guard) ++
  bytesOf 2 (codeOf 16 q.est) ++ bytesOf 2 (codeOf 16 q.tref) ++ bytesOf 2 0 ++
  padBytes 24 (q.power.flatMap (bytesOf 2)) ++ bytesOf 8 0

/-- A quench record that waits is committed (17 R569). -/
def Dev.quenchCommit (s : Dev) : Dev :=
  if s.on THM_QREC_VALID then
    let q := s.thm.qrec
    let s := s.logRec
      { seq := 0, hours := s.get EVR_HOURS_VALUE, cycles := q.cycles, cal := Cal.ofSeconds q.sec, sub := 0, sev := 3
        rtcValid := s.on RTC_STATUS_RTC_VALID, deferred := true, bit := THM_EVENTS_QUENCH_HARD.lsb
        source := THM_EVENTS_QUENCH_HARD.off / 4, payload := (q.bytes.drop 8).take 32 }
    (s.flag THM_QREC_VALID false).flag THM_EVENTS_RECORD_COMMITTED true
  else s

/-- Step 7 of boot: the quench record, the boot event, BOOT_DONE; firmware runs, but not in recovery. -/
def Dev.bootDone (s : Dev) : Dev :=
  let s := s.quenchCommit
  let s := s.logPlain 0xF0 0 (pay (s.get GLB_TRANSPORT_BOOT) ++ pay (s.get GLB_BOOT_STATUS_STRAP) ++
    pay (s.get GLB_BOOT_STATUS_IMAGE))
  let s := s.flag GLB_BOOT_STATUS_BOOT_DONE true
  s.iff (!s.on GLB_BOOT_STATUS_RECOVERY) (·.setCore .running)

/-- MON_STARTUP_CAL_DONE (12 R429): start-up calibration ends, and with it step 6 of a boot. -/
def execMonStartupCalDone (runs : List MonSliceRun) (s : State) : Host.Outcome State Fault Refusal :=
  run s fun d =>
    if d.get MON_STATUS_STATE = 1 then
      let d := d.monStartupDone runs
      d.iff (d.sys.core == .booting && !d.on GLB_BOOT_STATUS_BOOT_DONE) (·.bootDone)
    else d

/-! ## Stopping a port for a command (09 R326, R328, 16 R548, R644) -/

/-- A port is stopped: one in DOZE, or on its way there or back, leaves it and ends STOPPED. Gives whether it has stopped
already. -/
def Dev.halt (s : Dev) (p : Port) (k : StopKind) (noNotice : Bool) : Dev × Bool :=
  if s.inDoze p then
    let s := (s.abortWaits p false).putBit PWR_DOZE_STARTED p false
    let k := match (s.prt p).link.stopping with
      | some k0 => if k0.rank < k.rank then k else k0
      | none => k
    ((s.modLink p fun l => { l with stopping := some k }).dozeWake p 0, false)
  else if s.dozeBusy p then
    let s := (s.putBit PWR_DOZE_STARTED p false).dozeWake p 0
    ((s.stopBegin p k noNotice).1, false)
  else s.stopBegin p k noNotice

/-! ## Soft reset (19 R601) -/

/-- SOFT_RESET (19 R601, 13 R481). -/
def execSoftReset (c : Desc) (s : State) : Host.Outcome State Fault Refusal :=
  run s fun d => d.descriptor c fun d c =>
    if c.byte 16 ≠ 0x5A then d.finish c stInvalid 0
    else if c.ring.val ≠ 0 then d.finish c stRefused 0
    else if d.sys.load ∨ d.sys.switch.isSome then d.finish c stBusy 0
    else if d.sys.restart = some .soft then d.finish c stAborted 0
    else
      let d := (d.park .softReset { c with data := .first }).restartBegin .soft 3 0 (fun w => w == .softReset)
      let d := d.each (allPorts.filter fun p => d.linkState p != lsStopped || d.dozeBusy p) fun d p =>
        (d.halt p .softReset (c.flag 17 0)).1
      d.softAdvance

/-! ## The core (19 R599, R609, R614, 01 R21) -/

/-- WATCHDOG_EXPIRE (19 R614). -/
def execWatchdogExpire (pc : BitVec 32) (s : State) : Host.Outcome State Fault Refusal :=
  run s fun d =>
    if d.coreRuns ∧ d.on GLB_WDT_WDT_EN ∧ ¬ d.on GLB_BOOT_STATUS_RECOVERY ∧ d.sys.restart = none then
      let d := (d.restartBegin .watchdog 5 4 (fun _ => false)).classCP
      (d.inc GLB_RESET_COUNT_WATCHDOGS).raise GLB_BOOT_EVENTS_WATCHDOG 2 (pay 4 ++ bytesOf 3 0 ++ bytesOf 4 pc.toNat)
    else d

/-- The image that a restart loads (19 R609): during a trial a core reset and a watchdog load the committed one and end the
trial. -/
def Dev.restartImage (s : Dev) (r : Restart) : Dev :=
  if s.on GLB_BOOT_STATUS_RECOVERY then s
  else if s.on GLB_BOOT_STATUS_TRIAL ∧ r ≠ .soft then
    let b := s.on GLB_BOOT_STATUS_COMMITTED_IMAGE
    let s := ((s.flag GLB_BOOT_STATUS_IMAGE b).nowRuns b).loadImage b
    (s.flag GLB_BOOT_STATUS_TRIAL false).flag GLB_BOOT_EVENTS_TRIAL_ENDED true
  else s.loadImage (s.on GLB_BOOT_STATUS_IMAGE)

/-- CORE_RESTART (19 R599–R601, R609, R613): firmware resumes, the reset is counted and logged, the descriptor that caused it
completes, and port resets that waited run. -/
def execCoreRestart (s : State) : Host.Outcome State Fault Refusal :=
  run s fun d =>
    match d.sys.restart with
    | none => d
    | some r =>
      if r = .soft ∧ ¬ d.allStopped then d
      else
        let d := (d.modSys fun y => { y with restart := none }).restartImage r
        let d := d.setCore (if d.on GLB_BOOT_STATUS_RECOVERY then .booting else .running)
        let d := match r with
          | .core cause => (d.inc GLB_RESET_COUNT_CORE_RESETS).raise GLB_BOOT_EVENTS_CORE_RESET 2 (pay cause)
          | .soft => (d.inc GLB_RESET_COUNT_SOFT_RESETS).raise GLB_BOOT_EVENTS_SOFT_RESET 2 (pay 0)
          | .watchdog => d
        let d := d.wakeOne .softReset stOk (d.get GLB_FW_VERSION_FW_VERSION)
        let d := d.wakeOne .fwActivate stCheckFail 0
        let l := d.sys.portWait
        (d.modSys fun y => { y with portWait := [] }).each l fun d p =>
          (d.halt p (if (d.prt p).link.mdioReset then .mdioReset else .reset) true).1

/-! ## Brown-out (20 R618) -/

/-- A rail's code in BROWNOUT_RAIL (20 R618). -/
def railCode : Rail → Nat
  | .core => 1
  | .ana => 2
  | .hv => 3
  | .aux => 4

/-- BROWNOUT (20 R618, 06 R233): power fail begins and every transmitter goes OFF. -/
def execBrownout (rail : Rail) (s : State) : Host.Outcome State Fault Refusal :=
  run s fun d =>
    if d.get PWR_STATE_STATE = 0 ∧ ¬ d.sys.brownout then
      let d := (d.modSys fun y => { y with brownout := true }).powerFailBegin
      let d := (d.flag GLB_HW_EVENTS_BROWNOUT true).set GLB_HW_EVENTS_BROWNOUT_RAIL (railCode rail)
      d.each allPorts fun d p => (d.modTx p fun t => { t with driver := false, delay := false }).txRefresh p
    else d

/-- BROWNOUT_RECOVERY (20 R618): the effect of RESET_N. -/
def execBrownoutRecovery (strap : BitVec 4) (s : State) : Host.Outcome State Fault Refusal :=
  run s fun d =>
    if d.sys.brownout then
      let d := d.modEvr fun e => { e with powerFail := false }
      (d.hardReset 1 false false).strapSample strap
    else d

end Sys2Proof.Machine
end

