-- ==== Sys2Proof/Machine/Check.lean ====
section
/-! DEFINITION. The check engine: runs, contexts (15 R518–R529). Its registers show the channels (Registers.lean). -/

namespace Sys2Proof.Machine

open Reg

/-- A channel's configuration. -/
def CkImage.cfg (k : CkImage) : CrcCfg :=
  ⟨k.width, k.poly.toNat, k.init.toNat, k.xorout.toNat, k.refin, k.refout, k.cvOrder⟩

/-- A channel with a preset loaded (15 R521); the configuration in the channel for 0. -/
def CkImage.preset (k : CkImage) (n : Nat) : CkImage :=
  if n = 0 then k
  else
    let c := crcPreset n
    { k with poly := BitVec.ofNat 64 c.poly, init := BitVec.ofNat 64 c.init, xorout := BitVec.ofNat 64 c.xorout
             width := c.width, refin := c.refin, refout := c.refout, cvOrder := c.cvOrder, configured := true }

/-- Bytes of a check value (15 R520). -/
def CkImage.cvBytes (k : CkImage) : Nat := (k.width + 7) / 8

/-- A check value laid out (15 R520). -/
def CkImage.layOut (k : CkImage) (v : Nat) : List Byte :=
  let l := bytesOf k.cvBytes v
  if k.cvOrder then l.reverse else l

/-- The number that a check value's bytes spell (15 R520). -/
def CkImage.spell (k : CkImage) (l : List Byte) : Nat := ofBytes (if k.cvOrder then l.reverse else l)

/-- A channel after a run over data (15 R519): from INIT, or from VALUE with CONT; finalised with FINAL. -/
def CkImage.runOver (k : CkImage) (cont final : Bool) (l : List Byte) : CkImage :=
  let v := crcRun k.cfg (if cont then k.value.toNat else k.init.toNat) l
  let n := (if cont then k.count else 0) + l.length
  { k with value := BitVec.ofNat 64 (if final then crcFinal k.cfg v else v), count := n % 2 ^ 64, started := !final }

/-- The channel of a CHECK_RUN. -/
def ckChan (c : Desc) : Chan := Fin.ofNat 4 (c.bits 16 1 0)

/-- A channel as a CHECK_RUN would use it. -/
def Dev.ckUse (s : Dev) (c : Desc) : CkImage := (s.chk.ch.get (ckChan c)).preset (c.bits 18 1 0)

/-- Whether a channel runs. -/
def Dev.ckBusy (s : Dev) (k : Chan) : Bool := s.waits.any fun w => w.1 == .check k

/-- Whether a CHECK_RUN's action reads or writes a check value in memory. -/
def ckInMem (action : Nat) : Bool := action == 1 || action == 3

/-- A CHECK_RUN's action phase for an action (15 R523, R524): 0 COMPUTE, 1 VERIFY_MEM, 2 VERIFY_PARAM, 3 APPEND. A Length of
0 is tested after INVALID and before REFUSED and BUSY (13 R461). -/
def Dev.checkRun (s : Dev) (c : Desc) (action : Nat) : Dev :=
  let preset := c.bits 18 1 0
  let cont := c.flag 18 2
  let final := c.flag 18 3
  let space := c.bits 19 1 0
  let id := c.bits 20 4 0
  let m : MemId := Fin.ofNat 20 id
  let k := s.chk.ch.get (ckChan c)
  let use := s.ckUse c
  let span := if c.length = 0 then 0 else c.length + (if ckInMem action then use.cvBytes else 0)
  let beyond := (space == 0 && s.spanBad c span) ||
    (space == 1 && c.length != 0 && decide (8 * memWords m < c.address + span)) ||
    (space == 2 && c.length != 0 && decide (0x1000000 < c.address + span))
  if space = 3 ∨ (cont ∧ (preset ≠ 0 ∨ ¬ k.started)) ∨ (action ≠ 0 ∧ ¬ final) ∨ (preset = 0 ∧ ¬ k.configured) ∨
      (space = 1 ∧ 20 ≤ id) ∨ beyond then
    s.finish c stInvalid 0
  else if c.length = 0 then
    let r := use.runOver false final []
    (s.modChk fun q => { q with ch := q.ch.set (ckChan c) r }).finish c stOk r.value.toNat
  else if ckChan c = 3 ∨ (action = 3 ∧ (space = 2 ∨ (space = 1 ∧ ¬ s.memOpen m))) then s.finish c stRefused 0
  else if s.ckBusy (ckChan c) then s.finish c stBusy 0
  else s.park (.check (ckChan c)) c

/-- CHECK_RUN COMPUTE (15 R519, R524). -/
def execCheckRunCompute (c : Desc) (s : State) : Host.Outcome State Fault Refusal :=
  run s fun d => d.descriptor c fun d c => d.checkRun c 0

/-- CHECK_RUN VERIFY_MEM (15 R522, R524). -/
def execCheckRunVerifyMem (c : Desc) (s : State) : Host.Outcome State Fault Refusal :=
  run s fun d => d.descriptor c fun d c => d.checkRun c 1

/-- CHECK_RUN VERIFY_PARAM (15 R522, R524). -/
def execCheckRunVerifyParam (c : Desc) (s : State) : Host.Outcome State Fault Refusal :=
  run s fun d => d.descriptor c fun d c => d.checkRun c 2

/-- CHECK_RUN APPEND (15 R522, R524). -/
def execCheckRunAppend (c : Desc) (s : State) : Host.Outcome State Fault Refusal :=
  run s fun d => d.descriptor c fun d c => d.checkRun c 3

/-- Bytes of a run's space from an offset behind Address (15 Table 15.7 Space). -/
def Dev.ckRead (s : Dev) (c : Desc) (off n : Nat) : Dev × List Byte × Attempt :=
  match c.bits 19 1 0 with
  | 0 => s.getData c off n
  | 1 => s.readMem (Fin.ofNat 20 (c.bits 20 4 0)) (c.address + off) n c.glitch
  | _ => (s, s.flashBytes (c.address + off) n, .first)

/-- CHECK_RUN_END (15 R522, R524): the run has read its data. A check value in memory is compared; what its first read saw may
differ from what is stored, and the second read decides. The channel changes only where the run completes OK. -/
def execCheckRunEnd (ck : Chan) (reread : Option (BitVec 64)) (s : State) : Host.Outcome State Fault Refusal :=
  run s fun d =>
    match d.waiting (.check ck) with
    | none => d
    | some c =>
      let old := (d.chk.ch.get ck).value.toNat
      let use := d.ckUse c
      let r := d.ckRead c 0 c.length
      match r.2.2 with
      | .failed => r.1.wakeOne (.check ck) stMemUe old
      | t =>
        let k := use.runOver (c.flag 18 2) (c.flag 18 3) r.2.1
        let v := k.value.toNat
        let done := fun (d : Dev) (t : Attempt) =>
          (d.modChk fun q => { q with ch := q.ch.set ck k }).wakeOne (.check ck) (statusOf t) v
        let mismatch := fun (d : Dev) =>
          ((d.inc CHK_COUNT_CHECK_FAILS).raise CHK_EVENTS_CHECK_FAIL 2).wakeOne (.check ck) stCheckFail old
        match c.bits 17 1 0 with
        | 1 =>
          let q := r.1.ckRead c c.length k.cvBytes
          match q.2.2 with
          | .failed => q.1.wakeOne (.check ck) stMemUe old
          | u =>
            let stored := k.spell q.2.1
            let first := (reread.map BitVec.toNat).getD stored
            if first = v then done q.1 (t.worse u)
            else if stored = v then done (q.1.inc CHK_COUNT_CHECK_RETRIES) .second
            else mismatch q.1
        | 2 => if c.bytes 24 8 % 2 ^ k.width = v then done r.1 t else mismatch r.1
        | 3 =>
          let l := k.layOut v
          let w : Dev × Attempt :=
            if c.bits 19 1 0 = 0 then r.1.putData c c.length l
            else
              let w := r.1.writeMem (Fin.ofNat 20 (c.bits 20 4 0)) (c.address + c.length) l
              (w.1, w.2.1)
          match w.2 with
          | .failed => w.1.wakeOne (.check ck) stMemUe old
          | u => done w.1 (t.worse u)
        | _ => done r.1 t

/-! ## Contexts (15 R526, R527) -/

/-- A channel's image (15 Table 15.8). -/
def CkImage.bytes (k : CkImage) : List Byte :=
  bytesOf 8 k.poly.toNat ++ bytesOf 8 k.init.toNat ++ bytesOf 8 k.xorout.toNat ++ bytesOf 8 k.value.toNat ++
  bytesOf 8 k.count ++ pay (k.width - 1) ++
  pay (bnat k.refin + 2 * bnat k.refout + 4 * bnat k.cvOrder + 8 * bnat k.started + 16 * bnat k.configured) ++ bytesOf 6 0

/-- The channel that an image's bytes describe (15 Table 15.8). -/
def CkImage.ofBytes (l : List Byte) : CkImage :=
  let num := fun (i k : Nat) => Machine.ofBytes ((l.drop i).take k)
  let f := num 41 1
  { poly := BitVec.ofNat 64 (num 0 8), init := BitVec.ofNat 64 (num 8 8), xorout := BitVec.ofNat 64 (num 16 8)
    value := BitVec.ofNat 64 (num 24 8), count := num 32 8, width := num 40 1 % 64 + 1
    refin := bitOf f 0, refout := bitOf f 1, cvOrder := bitOf f 2, started := bitOf f 3, configured := bitOf f 4 }

/-- Whether an image keeps R518: POLY, INIT and XOROUT have no bits at or above bit W. -/
def CkImage.good (k : CkImage) : Bool :=
  k.poly.toNat < 2 ^ k.width && k.init.toNat < 2 ^ k.width && k.xorout.toNat < 2 ^ k.width

/-- CHECK_CONTEXT_SAVE (15 R526, R527). -/
def execCheckContextSave (c : Desc) (s : State) : Host.Outcome State Fault Refusal :=
  run s fun d => d.descriptor c fun d c =>
    let k := ckChan c
    let slot := c.bits 17 3 0
    let out := c.flag 17 7
    let image := d.chk.ch.get k
    if out ∧ c.length = 48 ∧ d.spanBad c 48 then d.finish c stInvalid 0
    else if out ∧ c.length = 0 then d.finish c stOk slot
    else if k = 3 then d.finish c stRefused 0
    else if d.ckBusy k then d.finish c stBusy 0
    else
      let d := d.modChk fun q => { q with slots := q.slots.set (Fin.ofNat 16 slot) (some image) }
      let w := if out ∧ c.length = 48 then d.putData c 0 image.bytes else (d, .first)
      w.1.finish c (statusOf w.2) slot

/-- CHECK_CONTEXT_LOAD (15 R526, R527). -/
def execCheckContextLoad (c : Desc) (s : State) : Host.Outcome State Fault Refusal :=
  run s fun d => d.descriptor c fun d c =>
    let k := ckChan c
    let slot := c.bits 17 3 0
    let load := fun (d : Dev) (i : CkImage) (t : Attempt) =>
      if ¬ i.good then d.finish c stInvalid 0
      else if k = 3 then d.finish c stRefused 0
      else if d.ckBusy k then d.finish c stBusy 0
      else (d.modChk fun q => { q with ch := q.ch.set k i }).finish c (statusOf t) slot
    if c.flag 17 7 then
      if (c.length ≠ 0 ∧ c.length ≠ 48) ∨ d.spanBad c c.length then d.finish c stInvalid 0
      else if c.length = 0 then d.finish c stOk slot
      else
        let r := d.getData c 0 48
        match r.2.2 with
        | .failed => r.1.finish c stMemUe 0
        | t => load r.1 (CkImage.ofBytes r.2.1) t
    else
      match d.chk.slots.get (Fin.ofNat 16 slot) with
      | none => d.finish c stInvalid 0
      | some i => load d i .first

end Sys2Proof.Machine
end

