-- ==== Sys2Proof/Machine/Rings.lean ====
section
/-! DEFINITION. Rings: contexts, the admin pair, doorbells, completions that wait for space, event-notice targets, admin
descriptors, and what a failed bank of ring memory or of the context store does (13 R448–R459, R467–R476, R483). -/

namespace Sys2Proof.Machine

open Reg

/-! ## Contexts (13 R448, R449) -/

/-- Bytes of an entry (13 Table 13.4). -/
def entryBytes (typ : Nat) : Nat := if typ = 0 then 32 else if typ = 1 then 16 else 64

/-- Bytes of a ring. -/
def RingCtx.bytes (c : RingCtx) : Nat := entryBytes c.typ * c.size

/-- Whether two ranges of bytes meet. -/
def meets (a n b m : Nat) : Bool := decide (a < b + m) && decide (b < a + n)

/-- Whether a range of ring memory breaks 13 R449: it leaves the memory, or meets another enabled ring there. -/
def Dev.placeBad (s : Dev) (base n : Nat) (but : List Nat := []) : Bool :=
  decide (0x80000 < base + n) ||
  s.ctx.any fun e => !but.contains e.1 && e.2.live && e.2.owner != 0 && meets base n e.2.base e.2.bytes

/-- Ends what a descriptor in its wait phase has under way and is not a unit's own work. -/
def Dev.abandon (s : Dev) (w : WaitKind) : Dev :=
  let drop := fun (s : Dev) (u : FlashUse) => s.modSys fun y => { y with ops := y.ops.filter fun o => o.use != u }
  match w with
  | .eyeScan p x => s.eyeEnd p x stAborted
  | .capture p => s.captureAbort p
  | .cableDiag p => s.modFd p fun f => { f with diag := false }
  | .adcCycle p => s.cycleDrop p
  | .fwLoad => (drop s .image).modSys fun y => { y with load := false }
  | .cfgWrite => drop s .cfg
  | .evrClear => (drop s .clear).modEvr fun e => { e with clear := 0 }
  | _ => s

/-- Descriptors of a ring that wait complete with a status (13 R472); where that ends a probe, a PORT_START of another ring that
waited for it goes on (05 R211). -/
def Dev.endRing (s : Dev) (r status : Nat) : Dev :=
  let mine := fun (w : WaitKind × Desc) => w.2.ring.val == r
  let s := s.each (s.waits.filter mine) fun s w => s.abandon w.1
  let l := s.waits.filter mine
  let s := { s with waits := s.waits.filter fun w => !mine w }.each l fun s w =>
    s.finish w.2 status (match w.1 with
      | .lmcSend _ _ n => n
      | .doze _ | .wake _ => s.get PWR_DOZE_IN_DOZE
      | _ => 0)
  s.each l fun s w => match w.1 with
    | .cableDiag p => s.probeEnded p
    | _ => s

/-- A ring's context is disabled; what was held for it is gone, and so are its stream and its part as a target. -/
def Dev.ringOff (s : Dev) (r : Nat) : Dev :=
  let s := s.setRing r {}
  { s with heldCpl := s.heldCpl.filter fun h => h.1 != r, streams := s.streams.filter fun t => t.ring != r
           target := s.target.map fun t => if (t.map (·.ring)) = some r then none else t }

/-- A ring destroyed (13 R472): what waits on a submission ring completes ABORTED before its context goes. Gives the number
of discarded entries. -/
def Dev.ringDestroyed (s : Dev) (r : Nat) : Dev × Nat :=
  let c := s.ring r
  if c.typ = 0 then ((s.endRing r stAborted).ringOff r, c.waiting) else (s.ringOff r, 0)

/-! ## The admin pair (13 R452, R453) -/

/-- The first admin setting that fails its check (13 R452), 0 where they pass. -/
def Dev.adminFault (s : Dev) (a : Nat × Nat × Nat × Nat × Bool × Nat) : Nat :=
  let (sq, cq, n, m, _, _) := a
  if n < 4 ∨ 16 < n ∨ m < 4 ∨ 16 < m then 1
  else if sq % 64 ≠ 0 ∨ cq % 64 ≠ 0 then 2
  else if s.get GLB_TRANSPORT_BOOT ≠ 0 ∧ (s.placeBad sq (32 * 2 ^ n) [0, 1] ∨ s.placeBad cq (16 * 2 ^ m) [0, 1] ∨
      meets sq (32 * 2 ^ n) cq (16 * 2 ^ m)) then 3
  else 0

/-- Rings 0 and 1 as ENABLE creates them (13 R452). -/
def Dev.adminRings (s : Dev) (a : Nat × Nat × Nat × Nat × Bool × Nat) : Dev :=
  let (sq, cq, n, m, irq, v) := a
  let owner := s.get GLB_TRANSPORT_BOOT
  let s := s.setRing 0
    { base := sq, sizeLog2 := n, typ := 0, owner := owner, irqEn := irq, vector := v, weight := 16, cq := 1 }
  s.setRing 1 { base := cq, sizeLog2 := m, typ := 1, phase := true, owner := owner, irqEn := irq, vector := v }

/-- GLB_ADMIN_CTRL has been written: a change of ENABLE creates or destroys the admin pair (13 R452, R453). -/
def Dev.adminWritten (s : Dev) (was : Bool) : Dev :=
  let now := s.on GLB_ADMIN_CTRL_ENABLE
  if now && !was then
    let a := (s.get GLB_ADMIN_SQ_LO_BASE + 2 ^ 32 * s.get GLB_ADMIN_SQ_HI_BASE,
      s.get GLB_ADMIN_CQ_LO_BASE + 2 ^ 32 * s.get GLB_ADMIN_CQ_HI_BASE,
      s.get GLB_ADMIN_CTRL_SQ_LOG2, s.get GLB_ADMIN_CTRL_CQ_LOG2, s.on GLB_ADMIN_CTRL_IRQ_EN, s.get GLB_ADMIN_CTRL_VECTOR)
    let s : Dev := { s with admin := some a }
    match s.adminFault a with
    | 0 =>
      let s := ((s.adminRings a).set GLB_ADMIN_STATUS_FAULT 0).flag GLB_ADMIN_STATUS_READY true
      let t := transportOf (s.get GLB_TRANSPORT_BOOT)
      { s with target := s.target.set t.idx (some { ring := 1, minSev := 2 }) }
    | n => (s.set GLB_ADMIN_STATUS_FAULT n).flag GLB_ADMIN_STATUS_READY false
  else if was && !now then
    let s := (s.ringDestroyed 0).1
    (s.ringDestroyed 1).1.flag GLB_ADMIN_STATUS_READY false
  else s

/-! ## The ring engine's reads of contexts (15 R506, R507, Table 15.2) -/

/-- A lasting error in a context: its ring is disabled and ring 1 is told; the admin pair is created afresh. -/
def Dev.ctxLost (s : Dev) (r : Nat) : Dev :=
  let c : Cpl := { status := stMemUe, tag := 0xFFFF, result := r, time := s.timebase }
  if r < 2 then
    match s.admin with
    | some a =>
      -- the descriptors complete on the pair created afresh
      let s := s.adminRings a
      (s.endRing 0 stAborted).postCpl 1 c
    | none => s.ringOff r
  else (s.ringOff r).postCpl 1 c

/-- A ring's context read by the ring engine; gives whether it could be read. -/
def Dev.readCtx (s : Dev) (r : Nat) : Dev × Bool :=
  let a := [0, 1, 2, 3].foldl (init := (s, true)) fun (a : Dev × Bool) k =>
    if a.2 then
      let x := a.1.readWord 3 (4 * r + k)
      (x.1, match x.2.2 with | .failed => false | _ => true)
    else a
  if a.2 then a else (a.1.ctxLost r, false)

/-! ## Held completions and notices (13 R467, R475) -/

/-- One completion or notice that waits for a ring is written, if the ring has room: completions before notices. -/
def Dev.drainOne (s : Dev) (r : Nat) : Dev :=
  let q := s.ring r
  if !q.live || q.full then s
  else
    match s.heldCpl.find? fun h => h.1 == r with
    | some h => ({ s with heldCpl := s.heldCpl.erase h }).writeCpl r h.2
    | none =>
      let t := transportOf q.owner
      match s.target.get t.idx with
      | some g =>
        match if g.ring = r then g.held else [] with
        | n :: rest => ({ s with target := s.target.set t.idx (some { g with held := rest }) }).writeCpl r n
        | [] => s
      | none => s

/-- What waits for a ring is written as far as it has room. -/
def Dev.drain (s : Dev) (r : Nat) : Dev := s.each (List.range (s.heldCpl.length + 64)) fun s _ => s.drainOne r

/-- COMPLETION_RELEASE (13 R467, R475). -/
def execCompletionRelease (ring : RingNo) (s : State) : Host.Outcome State Fault Refusal :=
  run s fun d => d.drain ring

/-- COAL_TIMER_EXPIRE (13 R476). -/
def execCoalTimerExpire (ring : RingNo) (s : State) : Host.Outcome State Fault Refusal :=
  run s fun d =>
    let c := d.ring ring
    if c.live && c.typ != 0 && c.irqEn && c.coalTime != 0 && c.sinceSignal != 0 then
      (d.setRing ring { c with sinceSignal := 0 }).signalRing c.owner c.vector
    else d

/-! ## Doorbells (13 R454–R458) -/

/-- A doorbell that acts (13 R454–R456). -/
def Dev.doorbell (s : Dev) (t : Transport) (ring : RingNo) (v : Nat) : Dev :=
  let r := s.readCtx ring
  let s := r.1
  let c := s.ring ring
  let v := v % 65536
  if !r.2 || !c.live || c.owner != t.code then
    if r.2 then (s.inc GLB_RING_COUNT_DB_IGNORED).flag GLB_RING_EVENTS_DB_IGNORED true else s
  else
    let n := c.size
    let ahead := fun (a b : Nat) => (a + n - b) % n
    let bad := n ≤ v ||
      (if c.typ = 0 then decide ((c.head + n - 1 + n - c.tail) % n < ahead v c.tail)
       else decide (ahead c.tail c.head < ahead v c.head))
    if bad then (s.setRing ring { c with dbBad := min (c.dbBad + 1) 0xFFFF }).flag GLB_RING_EVENTS_DB_BAD true
    else if c.typ = 0 then s.setRing ring { c with tail := v }
    else (s.setRing ring { c with head := v }).drain ring

/-- What a read of a doorbell gives (13 R458). -/
def Dev.doorbellIndex (s : Dev) (ring : RingNo) : Nat :=
  let c := s.ring ring
  if !c.live then 0 else if c.typ = 0 then c.head else c.tail

/-! ## Admin descriptors (13 R468, R470–R475) -/

/-- NOP (13 R470). -/
def execNop (c : Desc) (s : State) : Host.Outcome State Fault Refusal :=
  run s fun d => d.descriptor c fun d c => d.finish c stOk 0

/-- UNKNOWN_OPCODE (13 R461). -/
def execUnknownOpcode (c : Desc) (s : State) : Host.Outcome State Fault Refusal :=
  run s fun d => d.descriptor c fun d c => d.finish c stNotSupported 0

/-- RING_CREATE (13 R468, R471). -/
def execRingCreate (c : Desc) (s : State) : Host.Outcome State Fault Refusal :=
  run s fun d => d.descriptor c fun d c =>
    let r := c.bytes 16 2
    let lg := ((List.range 13).find? fun k => 2 ^ (k + 4) == c.length).map (· + 4)
    let typ := c.bits 18 1 0
    let owner := c.bits 18 3 2
    let cq := c.bytes 20 2 % 16384
    let q := d.ring cq
    let n := lg.getD 0
    if r < 2 ∨ 16383 < r ∨ lg.isNone ∨ typ = 3 ∨ owner = 3 ∨ 63 < c.byte 19 ∨ c.address % 64 ≠ 0 ∨
        (owner ≠ 0 ∧ d.placeBad c.address (entryBytes typ * 2 ^ n) [r]) ∨
        (typ = 0 ∧ ¬ (q.live ∧ q.typ = 1 ∧ q.owner = owner)) ∨ (typ ≠ 0 ∧ 1 < c.byte 22 ∧ c.byte 23 = 0) then
      d.finish c stInvalid 0
    else if c.ring.val ≠ 0 ∨ (d.ring r).live ∨ ¬ d.enabled (transportOf owner) then d.finish c stRefused 0
    else
      let x : RingCtx :=
        { base := c.address, sizeLog2 := n, typ := typ, phase := typ != 0, owner := owner, irqEn := c.flag 18 4
          vector := c.byte 19, weight := if typ = 0 then min (max (c.byte 22) 1) 16 else c.byte 22
          cq := if typ = 0 then cq else 0, coalTime := if typ = 0 then 0 else c.byte 23 }
      (d.setRing r x).finish c stOk r

/-- RING_DESTROY (13 R468, R472). -/
def execRingDestroy (c : Desc) (s : State) : Host.Outcome State Fault Refusal :=
  run s fun d => d.descriptor c fun d c =>
    let r := c.bytes 16 2
    let q := d.ring r
    if r < 2 ∨ 16383 < r then d.finish c stInvalid 0
    else if c.ring.val ≠ 0 ∨ ¬ q.live ∨
        (q.typ = 1 ∧ (d.ctx.any (fun e => e.2.live && e.2.typ == 0 && e.2.cq == r) ∨
          d.target.toList.any fun t => (t.map (·.ring)) == some r)) then d.finish c stRefused 0
    else
      let x := d.ringDestroyed r
      x.1.finish c stOk x.2

/-- RING_QUERY (13 R461, R468, R473). -/
def execRingQuery (c : Desc) (s : State) : Host.Outcome State Fault Refusal :=
  run s fun d => d.descriptor c fun d c =>
    if (c.length ≠ 0 ∧ c.length ≠ 32) ∨ d.spanBad c c.length then d.finish c stInvalid 0
    else if c.ring.val ≠ 0 then d.finish c stRefused 0
    else
      let r := c.bytes 16 2 % 16384
      let d := (d.readCtx r).1
      let l := d.ctxImage r
      d.answer c l (word32 l 8)

/-- EVENT_ENABLE (13 R468, R475). -/
def execEventEnable (c : Desc) (s : State) : Host.Outcome State Fault Refusal :=
  run s fun d => d.descriptor c fun d c =>
    let r := c.bytes 16 2 % 16384
    let q := d.ring r
    let off := c.flag 18 7
    let owner := if off then c.bits 18 5 4 else q.owner
    if (off ∧ owner = 3) ∨ (¬ off ∧ ¬ (q.live ∧ q.typ = 1)) then d.finish c stInvalid 0
    else if c.ring.val ≠ 0 then d.finish c stRefused 0
    else
      let i := (transportOf owner).idx
      let old := d.target.get i
      let g : Option EvTarget :=
        if off then none
        else match old with
          | some t => if t.ring = r then some { t with minSev := c.bits 18 1 0 } else some { ring := r, minSev := c.bits 18 1 0 }
          | none => some { ring := r, minSev := c.bits 18 1 0 }
      ({ d with target := d.target.set i g }).finish c stOk ((old.map fun (g : EvTarget) => g.ring).getD 0xFFFF)

/-- The identity record (13 Table 13.12). -/
def Dev.identity (s : Dev) : List Byte :=
  bytesOf 2 (s.get GLB_ID_PART) ++ pay (s.get GLB_ID_REV_MIN + 16 * s.get GLB_ID_REV_MAJ) ++ pay 0 ++ pay 8 ++ pay 16 ++
  bytesOf 2 16384 ++ pay 64 ++
  pay (s.get GLB_TRANSPORT_BOOT + 4 * bnat (s.enabled .pcie) + 8 * bnat (s.enabled .spi) + 16 * bnat (s.enabled .mdio)) ++
  pay (s.get GLB_BOOT_STATUS_STRAP) ++ pay (s.get GLB_BOOT_STATUS_IMAGE) ++ bytesOf 4 (s.get GLB_FW_VERSION_FW_VERSION) ++
  bytesOf 2 (s.get GLB_BOOT_STATUS_ROLLBACK) ++ bytesOf 6 0 ++ bytesOf 8 Config.dieId.toNat ++ bytesOf 32 0

/-- IDENTIFY (13 R474). -/
def execIdentify (c : Desc) (s : State) : Host.Outcome State Fault Refusal :=
  run s fun d => d.descriptor c fun d c =>
    if (c.length ≠ 0 ∧ c.length ≠ 64) ∨ d.spanBad c c.length then d.finish c stInvalid 0
    else d.answer c d.identity (word32 d.identity 0)

/-! ## Failed banks (13 R483) -/

/-- A completion that reports a loss (13 R483). -/
def Dev.lostCpl (s : Dev) (r : Nat) : Cpl := { status := stRestoreLost, tag := 0xFFFF, result := r, time := s.timebase }

/-- Bank 24 + j of ring memory has failed: every ring that lies partly in it restarts (13 R483). -/
def Dev.ringBankLost (s : Dev) (j : Nat) : Dev :=
  let hit := (s.ctx.filter fun e => e.2.live && e.2.owner != 0 && meets e.2.base e.2.bytes (0x10000 * j) 0x10000).map (·.1)
  let s := s.each hit fun s r =>
    let c := s.ring r
    let s := s.write (.invalidate 2 (c.base / 8) ((c.base + c.bytes) / 8))
    s.setRing r { c with head := 0, tail := 0, phase := c.typ != 0, sinceSignal := 0 }
  let s := s.each (hit.filter fun r => (s.ring r).typ == 1) fun s r => (s.writeCpl r (s.lostCpl r)).drain r
  let s := s.each (hit.filter fun r => (s.ring r).typ == 0) fun s r => s.endRing r stRestoreLost
  let s : Dev := { s with streams := s.streams.map fun t => if hit.contains t.ring then { t with dropped := true } else t }
  s.flag GLB_RING_EVENTS_RESTORE_LOST true

/-- Bank 32 + j of the context store has failed: its contexts are disabled (13 R483). -/
def Dev.ctxBankLost (s : Dev) (j : Nat) : Dev :=
  let inBank := fun (r : Nat) => r / 2048 == j
  let hit := (s.ctx.filter fun e => e.2.live && inBank e.1).map (·.1)
  let mine := fun (w : WaitKind × Desc) => inBank w.2.ring.val
  let s := s.each (s.waits.filter mine) fun s w => s.abandon w.1
  let due := (s.waits.filter mine).map fun w => ((s.ring w.2.ring).cq, w.2.tag)
  let s : Dev := { s with waits := s.waits.filter fun w => !mine w }
  let s := s.each (s.ctx.filter fun e => inBank e.1) fun s e => s.ringOff e.1
  let s := s.each (due.filter fun x => !inBank x.1) fun s x =>
    s.postCpl x.1 { status := stRestoreLost, tag := x.2, result := 0, time := s.timebase }
  let s := if j = 0 then (s.flag GLB_ADMIN_STATUS_READY false).set GLB_ADMIN_STATUS_FAULT 4
    else s.each hit fun s r => s.postCpl 1 (s.lostCpl r)
  s.flag GLB_RING_EVENTS_RESTORE_LOST true

end Sys2Proof.Machine
end

