-- ==== Sys2Proof/Machine/Power.lean ====
section
/-! DEFINITION. Power states and Bellows: votes, entry to RETAIN, wake sources, the wake sequence up to LOGIC_READY, the
owners of failed banks, DOZE and its descriptors, POWER_STATS (16). -/

namespace Sys2Proof.Machine

open Reg

/-! ## Votes (16 Table 16.2) -/

/-- Whether a wait is a POWER_VOTE's (16 Table 16.2, client 1). -/
def WaitKind.voting : WaitKind → Bool
  | .enter | .doze _ | .wake _ => true
  | _ => false

/-- FW's vote for CORE. The restoration in progress of a port that leaves DOZE counts. -/
def Dev.fwVote (s : Dev) : Bool :=
  s.waits.any (fun w => !w.1.voting) || s.ctx.any (fun e => e.2.live && e.2.typ == 0 && e.2.waiting != 0) ||
  s.get MON_STATUS_STATE == 1 || s.mon.cycle.isSome || s.mon.inp.toList.any (fun i => i.syscal.isSome) ||
  s.pwr.waking.toList.contains true || s.sys.switch.isSome || s.sys.ops != [] || !s.coreRuns ||
  !s.on GLB_BOOT_STATUS_BOOT_DONE || s.on GLB_BOOT_STATUS_RECOVERY

/-- The clients that vote for CORE, as a mask by their IDs. A PCIe request is served within its command, so client 14 votes
only as it arrives; the signature unit's own work at entry is no vote against that entry. -/
def Dev.votes (s : Dev) : Nat :=
  bnat s.pwr.hold + 2 * bnat s.fwVote +
  sumNat (allPorts.map fun p => 2 ^ (p.val + 2) * bnat (s.running p || s.pwr.dozing.get p)) +
  2 ^ 10 * bnat s.bceVote + 2 ^ 11 * bnat s.monVote + 2 ^ 12 * bnat (s.hasFlash && s.evr.buf != []) +
  2 ^ 13 * bnat ((List.finRange 4).any fun k => s.ckBusy k) + 2 ^ 15 * bnat (s.pwr.linger && !s.pwr.serialWaived)

/-- The ports that vote for their PORTn, as a mask (16 Table 16.2). -/
def Dev.portVotes (s : Dev) : Nat :=
  ofBools (allPorts.map fun p =>
    s.linkState p != lsDoze && !(s.linkState p == lsFault && s.get (LPn_LINK_STATUS_FAULT_CAUSE p) == 1))

/-- The lowest client of a mask (16 R537, R538). -/
def lowClient (mask : Nat) (none : Nat) : Nat := ((List.range 16).find? (bitOf mask)).getD none

/-! ## Entry to RETAIN (16 R538, Table 16.3) -/

/-- An entry in progress is aborted by a client (16 R538). -/
def Dev.entryAbort (s : Dev) (client : Nat) : Dev :=
  let s := (s.set PWR_STATE_STATE 0).modPwr fun w =>
    { w with entry := 0, serialWaived := false, aborted := min (w.aborted + 1) 0xFFFF }
  let s := s.modChk fun k => { k with sigBusy := false }
  let s := ((s.inc PWR_CORE_COUNT_ABORTED).set PWR_CORE_LAST_LAST_ABORTER client).flag PWR_EVENTS_ABORTED true
  s.wakeAll (fun w => w == .enter) stAborted (fun _ => client)

/-- A vote has come: an entry in progress is aborted by the lowest client that votes. -/
def Dev.powerSync (s : Dev) : Dev :=
  if s.get PWR_STATE_STATE = 1 ∧ s.votes ≠ 0 then s.entryAbort (lowClient s.votes 16) else s

/-- RETAIN_ENTRY_BEGIN (16 R536, Table 16.3 steps 1 and 2). -/
def execRetainEntryBegin (s : State) : Host.Outcome State Fault Refusal :=
  run s fun d =>
    if d.get PWR_STATE_STATE = 0 ∧ d.votes = 0 then
      (d.set PWR_STATE_STATE 1).modPwr fun w => { w with entry := 2 }
    else d

/-- RETAIN_SAVE_DONE (16 R545, Table 16.3 steps 2 and 3): the image of every port not in DOZE is in its coefficient store. -/
def execRetainSaveDone (s : State) : Host.Outcome State Fault Refusal :=
  run s fun d =>
    let d := d.powerSync
    if d.get PWR_STATE_STATE = 1 ∧ d.pwr.entry = 2 then
      let d := d.each (allPorts.filter fun p => !d.inDoze p) (·.saveImage ·)
      (d.modPwr fun w => { w with entry := 3 }).modChk fun k => { k with sigBusy := true }
    else d

/-- What CORE loses as it is powered off: the buffer where there is no flash (19 R610), the sample buffer (14 R500), the
monitor's accumulators, trackers and coarse paths (12 R437), and every port's capture (01 R41). -/
def Dev.coreOff (s : Dev) : Dev :=
  let s := s.each allPorts (·.captureLost ·)
  let s := s.iff (!s.hasFlash) (·.setBuf [])
  let s := (s.modCtr fun c => { c with samples := [] }).set CTR_STATUS_SAMPLES 0
  (s.modMon fun m => { m with inp := m.inp.map fun n => { zero := n.zero } }).set MON_STATUS_STATE 0

/-- RETAIN_SIGNATURES_DONE (15 R531, 16 R550, Table 16.3 step 4): the commit. The signatures stored are those of the banks
with the completion of a waiting ENTER written. -/
def execRetainSignaturesDone (s : State) : Host.Outcome State Fault Refusal :=
  run s fun d =>
    let d := d.powerSync
    if d.get PWR_STATE_STATE = 1 ∧ d.pwr.entry = 3 then
      let d := d.wakeAll (fun w => w == .enter) stOk
      let d := (d.coreOff.signBanks.modChk fun k => { k with sigBusy := false }).modThm fun t => { t with caseLow := 0 }
      let d := ((d.set PWR_STATE_STATE 2).flag PWR_EVENTS_ENTERED true).inc PWR_CORE_COUNT_ENTRIES
      d.modPwr fun w =>
        { w with entry := 4, serialWaived := false, retainAt := d.timebase, entries := min (w.entries + 1) 0xFFFFFFFF }
    else d

/-! ## Wake (16 R539–R541, Tables 16.4, 16.5) -/

/-- The wake sequence starts (16 Table 16.5 step 0). -/
def Dev.wakeBegin (s : Dev) (code port : Nat) : Dev :=
  let s := ((s.set PWR_STATE_STATE 3).set PWR_STATE_WAKE_STEP 1).set PWR_STATE_LAST_WAKE code
  (s.set PWR_STATE_LAST_PORT port).modPwr fun w => { w with again := false, heldWake := none }

/-- A LINK wake on a STOPPED port is reported (16 R540). -/
def Dev.linkWoke (s : Dev) (code port : Nat) : Dev :=
  if code = 1 ∧ s.linkState (Fin.ofNat 8 port) = lsStopped then s.raise PWR_EVENTS_LINK_WAKE 1 (pay port) else s

/-- A wake source (16 R538–R540): in ENTERING it aborts the entry, as a client's vote where one is behind it; in RETAIN it
starts the wake sequence, after step 5 of the entry; in WAKING it changes nothing. -/
def Dev.wakeSource (s : Dev) (code port : Nat) : Dev :=
  match s.get PWR_STATE_STATE with
  | 1 => s.entryAbort (lowClient s.votes 16)
  | 2 =>
    if s.pwr.entry = 0 then (s.wakeBegin code port).linkWoke code port
    else if s.pwr.heldWake.isSome then s
    else (s.modPwr fun w => { w with heldWake := some (code, port) }).linkWoke code port
  | _ => s

/-- RETAIN_POWER_DOWN_DONE (16 R539, Table 16.3 step 5): VDD_CORE is at code 0. -/
def execRetainPowerDownDone (s : State) : Host.Outcome State Fault Refusal :=
  run s fun d =>
    if d.get PWR_STATE_STATE = 2 ∧ d.pwr.entry = 4 then
      let d := (d.set PWR_GOV_STATUS_VCMD 0).modPwr fun w => { w with entry := 0 }
      match d.pwr.heldWake with
      | some w => d.wakeBegin w.1 w.2
      | none => d
    else d

/-- LINK_WAKE_DETECT (16 R540, R548, R549): in RETAIN it is a wake source; a port in DOZE leaves it, but for a SHED doze. -/
def execLinkWakeDetect (p : Port) (s : State) : Host.Outcome State Fault Refusal :=
  run s fun d =>
    if d.getBit PWR_WAKE_EN_LINK_EN p then
      let d := d.wakeSource 1 p
      d.iff (d.inDoze p && !d.getBit PWR_DOZE_SHED p) (·.dozeWake p 0)
    else d

/-- A serial frame that votes as client 15 (16 Table 16.2): its linger runs, an entry in progress is aborted, and in RETAIN it
is a wake source where SER_EN is set. -/
def Dev.serialFrame (s : Dev) : Dev :=
  let s := s.modPwr fun w => { w with linger := true, serialWaived := false }
  let s := s.powerSync
  s.iff (s.get PWR_STATE_STATE != 1 && s.on PWR_WAKE_EN_SER_EN) (·.wakeSource 3 0)

/-- SPI_LINGER_EXPIRE (16 R536). -/
def execSpiLingerExpire (s : State) : Host.Outcome State Fault Refusal :=
  run s fun d => d.modPwr fun w => { w with linger := false, serialWaived := false }

/-- A PCIe request that votes as client 14 (16 Table 16.2, R538): it aborts an entry, and in RETAIN it is the DOORBELL wake
source where DB_EN is set. -/
def Dev.pcieVote (s : Dev) : Dev :=
  if s.get PWR_STATE_STATE = 1 then s.entryAbort (lowClient (s.votes + 2 ^ 14) 16)
  else s.iff (s.on PWR_WAKE_EN_DB_EN) (·.wakeSource 2 0)

/-- A wake step has reached its ready signal (16 R541): a repeat that succeeds counts. -/
def Dev.stepReady (s : Dev) (next : Nat) : Dev :=
  let s := s.iff s.pwr.again (·.inc PWR_CORE_LAST_WAKE_RETRIES)
  (s.modPwr fun w => { w with again := false }).set PWR_STATE_WAKE_STEP next

/-- Whether a step of the wake sequence is in progress. -/
def Dev.wakeStep (s : Dev) (n : Nat) : Bool := s.get PWR_STATE_STATE == 3 && s.get PWR_STATE_WAKE_STEP == n

/-- VDD_CORE_READY (16 Table 16.5 step 1, 02 R63). -/
def execVddCoreReady (s : State) : Host.Outcome State Fault Refusal :=
  run s fun d =>
    if d.wakeStep 1 then
      ((d.stepReady 2).set PWR_GOV_STATUS_VCMD (min (d.get PWR_GOV_CTRL_VSTART) 50)).govStart
    else d

/-- PLL_READY (16 Table 16.5 step 2). -/
def execPllReady (s : State) : Host.Outcome State Fault Refusal :=
  run s fun d => if d.wakeStep 2 then d.stepReady 3 else d

/-- MEM_READY (15 R531, 16 Table 16.5 step 3): the banks are checked. upsets are the bits that have flipped in RETAIN. -/
def execMemReady (upsets : List Upset) (s : State) : Host.Outcome State Fault Refusal :=
  run s fun d =>
    if d.wakeStep 3 then
      let d := d.each upsets fun d u => d.flip u.mem u.word u.flip
      let r := d.checkBanks (List.range bankCount)
      (r.1.modPwr fun w => { w with failed := r.2 }).set PWR_STATE_WAKE_STEP 4
    else d

/-- WAKE_STEP_TIMEOUT (16 R541): the step is repeated once; a second failure returns the device to RETAIN power. -/
def execWakeStepTimeout (s : State) : Host.Outcome State Fault Refusal :=
  run s fun d =>
    let n := d.get PWR_STATE_WAKE_STEP
    if d.get PWR_STATE_STATE = 3 ∧ (n = 1 ∨ n = 2) then
      if d.pwr.again then
        let d := (((d.set PWR_STATE_STATE 2).set PWR_STATE_WAKE_STEP 0).set PWR_STATE_WAKE_FAULT n).flag PWR_EVENTS_WAKE_FAULT true
        ((d.inc PWR_CORE_LAST_WAKE_FAULTS).set PWR_GOV_STATUS_VCMD 0).modPwr fun w => { w with again := false, faultLog := n }
      else d.modPwr fun w => { w with again := true }
    else d

/-! ## Failed banks (16 R546, Table 16.6) -/

/-- Banks 20 and 21: settings of classes H, S and C outside the hearth registers and the ports' blocks return; loops are
STOPPED and channels unowned at their clear codes; class N settings are read from flash again. -/
def Dev.saveLost (s : Dev) : Dev :=
  let goes := fun (f : Fld) =>
    let o := f.off
    (f.cls == .h || f.cls == .s || f.cls == .c) && !(0x1000 ≤ o && o < 0x1020) && !(0x4000 ≤ o && o < 0x8000) &&
    (!f.live || (0x8000 ≤ o && o < 0xD000))
  let s := s.regsReset goes
  let s : Dev := { s with loop := Vector.replicate 16 {}, bceCap := {}, ctr := {}, mon := {}, gov := {}
                          lane := Vector.replicate 16 {}, host := {}, chk := { sigs := s.chk.sigs }
                          aux := s.aux.map fun a => { driven := a.driven } }
  let s := s.each allPorts (·.mapStored ·)
  let s := s.each allAux fun s c => s.iff (s.aux.get c).driven (·.auxClear c)
  let s := (s.flag CTR_EVENTS_RESTORE_LOST true).govStart
  ((s.set PWR_CAP_CAP 0).shedReset false).cfgRestore

/-- What the owner of a failed bank does (16 Table 16.6): a port in DOZE keeps the loss for later (16 R546). -/
def Dev.bankOwner (s : Dev) (b : Nat) : Dev :=
  if b = 20 ∨ b = 21 then s.saveLost
  else if b < 24 then s.coreReset 2
  else if b < 32 then s.ringBankLost (b - 24)
  else if b < 40 then s.ctxBankLost (b - 32)
  else
    let p : Port := Fin.ofNat 8 (b - 40)
    if s.inDoze p then s.modPwr fun w => { w with dozeLost := w.dozeLost.set p true } else s.portLost p

/-- LOGIC_READY (16 R540–R542, R546, Table 16.5 steps 4 and 5): the timebase advances, the device is ACTIVE, what happened
meanwhile is logged, failed banks go to their owners, held accesses act, the monitor starts, and the wake is logged. -/
def Dev.logicReady (s : Dev) (periods : Nat) (held : Dev → Dev) : Dev :=
  let s : Dev := { s with timebase := s.timebase + (roundDiv (periods * 1000000000) 32768).toNat }
  let stay := s.timebase - s.pwr.retainAt
  let failed := s.pwr.failed
  let late := s.pwr.late
  let fault := s.pwr.faultLog
  let s := ((s.set PWR_STATE_STATE 0).set PWR_STATE_WAKE_STEP 0).set PWR_STATE_WAKE_FAULT 0
  let s := s.modPwr fun w => { w with failed := [], late := [], faultLog := 0, retainNs := min (w.retainNs + stay) (2 ^ 64 - 1) }
  let s := s.modThm fun t => { t with first := true }
  let s := s.each allPorts (·.captureLost ·)
  let s := s.each late fun s e => s.logRaw e.1 e.2.1 e.2.2.1 e.2.2.2
  let s := s.each failed fun s b => s.bankMark b
  let s := s.each (failed.filter fun b => b != 21 || !failed.contains 20) fun s b => s.bankOwner b
  let s := (held s).monStartup
  let s := s.raise PWR_EVENTS_WOKE 0
    (pay (s.get PWR_STATE_LAST_WAKE) ++ pay (s.get PWR_STATE_LAST_PORT) ++ bytesOf 6 0 ++ bytesOf 8 stay)
  s.iff (fault != 0) fun s => s.log PWR_EVENTS_WAKE_FAULT 2 (pay fault ++ pay (s.get PWR_CORE_LAST_WAKE_FAULTS))

/-! ## DOZE (16 R548, R644) -/

/-- DOZE_WAKE_DONE (16 R546, R548, R644): a port that leaves DOZE is checked, unless its bank failed before or its entry was
aborted; it starts again if it was started, and ends STOPPED after a stop or where its image is lost. upsets are the bits of
its bank that have flipped in DOZE. -/
def execDozeWakeDone (p : Port) (upsets : List Upset) (s : State) : Host.Outcome State Fault Refusal :=
  run s fun d =>
    let was := d.inDoze p
    if d.pwr.waking.get p ∧ (was ∨ (d.prt p).link.stopping = none) then
      let bank := 40 + p.val
      let d := d.iff was fun d => d.each (upsets.filter fun u => u.mem == (bankAt bank).1) fun d u => d.flip u.mem u.word u.flip
      let lost0 := was && d.pwr.dozeLost.get p
      let r := if was && !lost0 then d.checkBanks [bank] else (d, [])
      let lost := lost0 || r.2 != []
      let d := r.1.iff (r.2 != []) (·.bankMark bank)
      let started := d.getBit PWR_DOZE_STARTED p
      let again := d.getBit PWR_DOZE_REQ p
      let d := (d.putBit PWR_DOZE_IN_DOZE p false).putBit PWR_DOZE_STARTED p false
      let d := d.modPwr fun w => { w with waking := w.waking.set p false, dozeLost := w.dozeLost.set p false }
      let d := d.iff was fun d => (d.captureLost p).linkTo p lsStopped
      let stop := (d.prt p).link.stopping
      let d := d.iff lost (·.portLost p)
      let d := match stop with
        | some k => d.stopped p k
        | none => if started && !lost && (d.prt p).link.cfgMode != 0 then d.portWake p else d
      let d := d.dozeChecks
      let d := d.iff again (·.dozeRequest p (d.getBit PWR_DOZE_SHED p))
      d.softAdvance
    else d

/-! ## Descriptors (16 R550–R553) -/

/-- A POWER_VOTE's Target, Ports and Action. -/
def voteTarget (d : Desc) : Nat := d.bits 16 0 0
def votePorts (d : Desc) : Nat := d.byte 17
def voteAction (d : Desc) : Nat := d.bits 18 1 0
/-- An action that Table 16.7 does not give (16 Table 16.7). -/
def voteBad (d : Desc) : Bool := if voteTarget d = 0 then voteAction d == 3 else 2 ≤ voteAction d

/-- POWER_VOTE HOLD (16 R550). -/
def execPowerVoteHold (c : Desc) (s : State) : Host.Outcome State Fault Refusal :=
  run s fun d => d.descriptor c fun d c =>
    if voteBad c then d.finish c stInvalid 0
    else ((d.modPwr fun w => { w with hold := true }).finish c stOk 0).powerSync

/-- POWER_VOTE RELEASE (16 R550). -/
def execPowerVoteRelease (c : Desc) (s : State) : Host.Outcome State Fault Refusal :=
  run s fun d => d.descriptor c fun d c => (d.modPwr fun w => { w with hold := false }).finish c stOk 0

/-- An ENTER is refused (16 R550). -/
def Dev.enterRefused (s : Dev) : Dev × Nat :=
  let n := lowClient s.votes 31
  let s := s.modPwr fun w => { w with refused := min (w.refused + 1) 0xFFFF, serialWaived := false }
  (((s.inc PWR_CORE_COUNT_REFUSED).set PWR_CORE_LAST_LAST_REFUSER n).flag PWR_EVENTS_REFUSED true, n)

/-- POWER_VOTE ENTER (16 R550, 18 R580, R587). -/
def execPowerVoteEnter (c : Desc) (s : State) : Host.Outcome State Fault Refusal :=
  run s fun d => d.descriptor c fun d c =>
    let d := (d.modPwr fun w => { w with hold := false, serialWaived := true }).flushDue true
    if c.bytes 20 2 = 0 ∧ d.votes ≠ 0 then
      let r := d.enterRefused
      r.1.finish c stRefused r.2
    else d.park .enter { c with data := .first }

/-- POWER_VOTE_ENTER_TIMEOUT (16 R550): the oldest ENTER that waits. -/
def execPowerVoteEnterTimeout (s : State) : Host.Outcome State Fault Refusal :=
  run s fun d =>
    if (d.waiting .enter).isSome ∧ d.get PWR_STATE_STATE = 0 ∧ d.votes ≠ 0 then
      let r := d.enterRefused
      r.1.wakeOne .enter stRefused r.2
    else d

/-- The ports of a mask. -/
def portsOf (mask : Nat) : List Port := allPorts.filter fun p => bitOf mask p

/-- Whether a Quench or a probe on a named port refuses DOZE and WAKE (16 R551). -/
def Dev.dozeRefuses (s : Dev) (mask : Nat) : Bool := s.quenching || (portsOf mask).any fun p => (s.prt p).fd.diag

/-- POWER_VOTE DOZE (16 R547, R551, R644). -/
def execPowerVoteDoze (c : Desc) (s : State) : Host.Outcome State Fault Refusal :=
  run s fun d => d.descriptor c fun d c =>
    let l := portsOf (votePorts c)
    let now := d.get PWR_DOZE_IN_DOZE
    if l = [] then d.finish c stInvalid now
    else if d.dozeRefuses (votePorts c) then
      let why := if d.quenching then 31 else 1
      let d := d.each l fun d p => d.modPwr fun w =>
        { w with dozeRef := w.dozeRef.set p (min (w.dozeRef.get p + 1) 15), dozeLast := w.dozeLast.set p why }
      d.finish c stRefused now
    else ((d.park (.doze (votePorts c)) { c with data := .first }).each l fun d p => d.dozeRequest p false).dozeChecks

/-- POWER_VOTE_DOZE_TIMEOUT (16 R551): the DOZE of a ring with a tag. -/
def execPowerVoteDozeTimeout (ring : RingNo) (tag : Nat) (s : State) : Host.Outcome State Fault Refusal :=
  run s fun d =>
    match d.waits.find? fun w => (match w.1 with | .doze _ => true | _ => false) && w.2.ring == ring && w.2.tag == tag with
    | some w => { d with waits := d.waits.erase w }.finish w.2 stTimeout (d.get PWR_DOZE_IN_DOZE)
    | none => d

/-- POWER_VOTE WAKE (16 R548, R551, R644). -/
def execPowerVoteWake (c : Desc) (s : State) : Host.Outcome State Fault Refusal :=
  run s fun d => d.descriptor c fun d c =>
    let l := portsOf (votePorts c)
    let now := d.get PWR_DOZE_IN_DOZE
    if l = [] then d.finish c stInvalid now
    else if d.dozeRefuses (votePorts c) then d.finish c stRefused now
    else ((d.park (.wake (votePorts c)) { c with data := .first }).each l fun d p => d.dozeWake p 0).dozeChecks

/-- The power statistics record (16 Table 16.8). -/
def Dev.powerRecord (s : Dev) : List Byte :=
  let w := s.pwr
  let stay := if 2 ≤ s.get PWR_STATE_STATE then s.timebase - w.retainAt else 0
  pay (s.get PWR_STATE_STATE) ++ pay (s.get PWR_DOZE_IN_DOZE) ++
  pay (s.get PWR_STATE_LAST_WAKE + 8 * s.get PWR_STATE_LAST_PORT) ++ pay s.shed.top ++ bytesOf 2 s.votes ++
  bytesOf 2 s.devPower ++ bytesOf 4 w.entries ++ bytesOf 2 w.refused ++ bytesOf 2 w.aborted ++
  pay (s.get PWR_CORE_LAST_LAST_REFUSER) ++ pay (s.get PWR_CORE_LAST_LAST_ABORTER) ++ bytesOf 2 0 ++
  bytesOf 8 (w.retainNs + stay) ++ bytesOf 4 0 ++
  allPorts.flatMap fun p =>
    bytesOf 2 (w.dozeN.get p) ++ pay (w.dozeRef.get p + 16 * w.dozeAb.get p) ++ pay (w.dozeLast.get p)

/-- POWER_STATS (16 R553). -/
def execPowerStats (c : Desc) (s : State) : Host.Outcome State Fault Refusal :=
  run s fun d => d.descriptor c fun d c =>
    if (c.length ≠ 0 ∧ c.length ≠ 64) ∨ d.spanBad c c.length then d.finish c stInvalid 0
    else d.answer c d.powerRecord (word32 d.powerRecord 0)

/-! ## Commands that may bring a vote (16 R538) -/

/-- FLASH_OPERATION_DONE (19 R643): ok is whether the page reads back as written; c serves an FW_LOAD with LAST. A vote that
has come meanwhile is seen before the operation ends. -/
def execFlashOperationDone (ok : Bool) (c : SlotCheck) (s : State) : Host.Outcome State Fault Refusal :=
  run s fun d => (d.powerSync.flashPump.flashDone ok c).flashPump

/-- CORE_HALT (01 R21, 16 Table 16.2). -/
def execCoreHalt (s : State) : Host.Outcome State Fault Refusal :=
  run s fun d => if d.coreRuns then (d.setCore .halted).powerSync else d

/-- CORE_RUN (01 R21, 19 R614). -/
def execCoreRun (s : State) : Host.Outcome State Fault Refusal :=
  run s fun d => if d.sys.core = .halted then d.setCore .running else d

end Sys2Proof.Machine
end

