-- ==== Sys2Proof/Machine/Clock.lean ====
section
/-! DEFINITION. The calendar clock (18 R590–R595) and the loss and return of clocks (20 R621, R622). -/

namespace Sys2Proof.Machine

open Reg

/-- The alarm fires when RTC_SEC equals ALARM (18 R593): in RETAIN it is wake source 4. -/
def Dev.alarmCheck (s : Dev) : Dev :=
  if s.on RTC_CTRL_ALARM_EN ∧ s.get RTC_SEC_VALUE = s.get RTC_ALARM_VALUE then
    let s := (s.flag RTC_CTRL_ALARM_EN false).flag RTC_STATUS_ALARM true
    (s.iff (s.on PWR_WAKE_EN_RTC_EN) (·.wakeSource 4 0)).log RTC_STATUS_ALARM 0
  else s

/-- RTC_SECOND (18 R590, R592, R593): nothing while the crystal stands still (20 R622). -/
def execRtcSecond (s : State) : Host.Outcome State Fault Refusal :=
  run s fun d =>
    if d.on GLB_HW_STATUS_XTAL_OK then
      let d : Dev := { d with rtc := { d.rtc with cal := d.rtc.cal.next, sub := d.rtc.sub - 32768 } }
      (d.set RTC_SEC_VALUE (d.get RTC_SEC_VALUE + 1)).alarmCheck
    else d

/-- RTC_CORRECTION (18 R591). -/
def execRtcCorrection (s : State) : Host.Outcome State Fault Refusal :=
  run s fun d =>
    if d.on GLB_HW_STATUS_XTAL_OK then
      let n := d.geti RTC_CTRL_CORR
      { d with rtc := if n < 0 then { d.rtc with skip := d.rtc.skip + n.natAbs } else { d.rtc with sub := d.rtc.sub + n.natAbs } }
    else d

/-- Calendar fields of a descriptor (18 Table 18.4). -/
def calOf (c : Desc) : Cal :=
  { sec := c.byte 16, min := c.byte 17, hour := c.byte 18, day := c.byte 19, month := c.byte 20, year := c.byte 21 }

/-- RTC_SET (18 R594, R595). -/
def execRtcSet (c : Desc) (s : State) : Host.Outcome State Fault Refusal :=
  run s fun d => d.descriptor c fun d c =>
    let corr := signedOf 16 (c.bytes 22 2)
    if (c.flag 24 0 ∧ (calOf c).exists = false) ∨ (c.flag 24 1 ∧ 262 < corr.natAbs) then d.finish c stInvalid 0
    else
      let old := d.get RTC_SEC_VALUE
      let d := d.iff (c.flag 24 0) fun d =>
        let d : Dev := { d with rtc := { d.rtc with cal := calOf c, sub := 0 } }
        let d := (d.set RTC_SEC_VALUE (calOf c).seconds).flag RTC_STATUS_RTC_VALID true
        d.logPlain 0xF4 1 (bytesOf 4 old ++ bytesOf 4 (d.get RTC_SEC_VALUE))
      let d := d.iff (c.flag 24 1) (·.seti RTC_CTRL_CORR corr)
      let d := d.iff (c.flag 24 2) fun d => (d.set RTC_ALARM_VALUE (c.bytes 28 4)).flag RTC_CTRL_ALARM_EN (c.flag 24 3)
      let d := d.alarmCheck
      d.finish c stOk (d.get RTC_SEC_VALUE)

/-- The clock's record (18 Table 18.4). -/
def Dev.clockRecord (s : Dev) : List Byte :=
  let c := s.rtc.cal
  pay c.sec ++ pay c.min ++ pay c.hour ++ pay c.day ++ pay c.month ++ pay c.year ++ bytesOf 2 (min s.rtc.sub 32767) ++
  bytesOf 2 (codeOf 16 (s.geti RTC_CTRL_CORR)) ++
  pay (4 * s.get RTC_STATUS_RTC_VALID + 2 * s.get RTC_STATUS_RTC_LOST + s.get RTC_STATUS_ALARM) ++ pay 0 ++
  bytesOf 4 (s.get RTC_SEC_VALUE)

/-- RTC_GET (18 R595). -/
def execRtcGet (c : Desc) (s : State) : Host.Outcome State Fault Refusal :=
  run s fun d => d.descriptor c fun d c =>
    if (c.length ≠ 0 ∧ c.length ≠ 16) ∨ d.spanBad c c.length then d.finish c stInvalid 0
    else d.answer c d.clockRecord (d.get RTC_SEC_VALUE)

/-- XTAL_STOPPED (20 R622). -/
def execXtalStopped (s : State) : Host.Outcome State Fault Refusal :=
  run s fun d =>
    ((d.flag GLB_HW_STATUS_XTAL_OK false).flag GLB_HW_EVENTS_XTAL_STOPPED true).flag RTC_STATUS_RTC_VALID false

/-- XTAL_RESTART (20 R622). -/
def execXtalRestart (s : State) : Host.Outcome State Fault Refusal :=
  run s fun d => d.flag GLB_HW_STATUS_XTAL_OK true

/-- A reference clock's flags: it is present, and its PLLs are locked. -/
def refOk : RefClk → Fld
  | .line => GLB_HW_STATUS_REFCLK_LINE_OK
  | .host => GLB_HW_STATUS_REFCLK_HOST_OK
def refLock : RefClk → Fld
  | .line => GLB_HW_STATUS_PLL_LINE_LOCK
  | .host => GLB_HW_STATUS_PLL_HOST_LOCK
/-- A reference clock's place among two. -/
def refIdx : RefClk → Fin 2
  | .line => 0
  | .host => 1
/-- Whether the PLLs of a reference hold their frequency, and to which tolerance; PLL_HOLD shows whether any do. -/
def Dev.setHold (s : Dev) (c : RefClk) (h : Option Bool) : Dev :=
  let s : Dev := { s with hold := s.hold.set (refIdx c) h }
  s.flag GLB_HW_STATUS_PLL_HOLD (s.hold.toList.any Option.isSome)

/-- REFCLK_LOST (20 R621): its PLLs hold their frequency. -/
def execRefclkLost (c : RefClk) (s : State) : Host.Outcome State Fault Refusal :=
  run s fun d =>
    if d.get PWR_STATE_STATE = 0 ∧ d.on (refOk c) then
      let d := ((d.flag (refOk c) false).flag (refLock c) false).setHold c (some false)
      d.raise (match c with | .line => GLB_HW_EVENTS_REFCLK_LINE_LOST | .host => GLB_HW_EVENTS_REFCLK_HOST_LOST) 2
    else d

/-- REFCLK_HOLD_AGED (20 R621): the held frequency's tolerance widens. -/
def execRefclkHoldAged (c : RefClk) (s : State) : Host.Outcome State Fault Refusal :=
  run s fun d => if d.hold.get (refIdx c) = some false then d.setHold c (some true) else d

/-- REFCLK_RETURN (20 R621): the reference is present, and its PLLs lock to it; a transmitter that took the held frequency
has its reference again, and leaves it under 01 R24. -/
def execRefclkReturn (c : RefClk) (s : State) : Host.Outcome State Fault Refusal :=
  run s fun d => ((d.flag (refOk c) true).flag (refLock c) true).setHold c none

end Sys2Proof.Machine
end

