-- ==== Sys2Proof/Machine/Counters.lean ====
section
/-! DEFINITION. The general counters' descriptors (14 R484–R497): configuration, snapshot, freeze, and reads. -/

namespace Sys2Proof.Machine

open Reg

/-- Kinds of sources (14, Sources and modes). -/
inductive CtrKind where
  | none | event | quantity | condition
  deriving DecidableEq, Repr

/-- The kind of a source; none for a reserved code (14 Table 14.1). -/
def ctrKind (code : Nat) : Option CtrKind :=
  if code = 0 then some .none
  else if [0x02, 0x07, 0x21, 0x27, 0x35, 0x37, 0x50, 0x54].contains code then some .quantity
  else if [0x2E, 0x3A, 0x3B].contains code then some .condition
  else if code ≤ 0x0D ∨ (0x20 ≤ code ∧ code ≤ 0x39) ∨ (0x51 ≤ code ∧ code ≤ 0x53) then some .event
  else none

/-- Whether a MODE is allowed for a source's kind (14 Table 14.2). NONE, which has no kind, is taken with MODE 0 alone, as it
stands at reset. -/
def ctrModeOk : CtrKind → Nat → Bool
  | .none, m => m == 0
  | .event, m => m == 0
  | .quantity, m => m ≤ 3
  | .condition, m => m == 0 || m == 4

/-- Whether an instance lies in a source's range: the device, a port or a lane (14 Table 14.1). -/
def ctrInstOk (code inst : Nat) : Bool := code < 0x20 || (code < 0x50 && inst < 8) || (0x50 ≤ code && inst < 16)

/-- Whether a condition holds now (14 Table 14.1: 0x2E, 0x3A, 0x3B). -/
def Dev.condition (s : Dev) (code inst : Nat) : Bool :=
  let p : Port := Fin.ofNat 8 inst
  if code = 0x2E then bothPairs.any fun x => s.get (LPn_TX_STATUS_TXS p x) == txLf
  else if code = 0x3A then s.linkState p == 5
  else if code = 0x3B then s.linkState p == 4
  else false

/-- The counter a CTR_CONFIG names. -/
def ctrNo (c : Desc) : Nat := c.bits 16 5 0

/-- Whether a CTR_CONFIG is invalid (14 R495). -/
def ctrBad (c : Desc) : Bool :=
  let limit := c.bytes 28 4
  match ctrKind (c.byte 18) with
  | none => true
  | some k => !ctrInstOk (c.byte 18) (c.byte 19) || !ctrModeOk k (c.bits 20 2 0) || (c.flag 21 3 && limit == 0)

/-- VALUE, OVF_COUNT and SAT of a counter cleared, and its overflow due again (14 R495, R488). -/
def Dev.ctrZero (s : Dev) (m : Nat) : Dev :=
  (((s.setCtrValue m 0).set (CTR_m_OVF_COUNT_OVF_COUNT m) 0).flag (CTR_m_CFG_SAT m) false).modCtr fun c =>
    { c with done := c.done.set (Fin.ofNat 64 m) false }

/-- CTR_CONFIG WRITE (14 R495). -/
def execCtrConfigWrite (c : Desc) (s : State) : Host.Outcome State Fault Refusal :=
  run s fun d => d.descriptor c fun d c =>
    let m := ctrNo c
    if ctrBad c then d.finish c stInvalid 0
    else
      let d := d.ctrZero m
      let d := ((d.set (CTR_m_CFG_EVENT m) (c.byte 18)).set (CTR_m_CFG_INSTANCE m) (c.byte 19)).set (CTR_m_CFG_MODE m)
        (c.bits 20 2 0)
      let d := (((d.flag (CTR_m_CFG_OVF_IRQ m) (c.flag 21 0)).flag (CTR_m_CFG_RELOAD m) (c.flag 21 1)).flag
        (CTR_m_CFG_SAMPLE_EN m) (c.flag 21 2)).flag (CTR_m_CFG_FREEZE_ON_OVF m) (c.flag 21 3)
      ((d.set (CTR_m_N_VALUE m) (c.bytes 24 4)).set (CTR_m_LIMIT_VALUE m) (c.bytes 28 4)).finish c stOk 0

/-- CTR_CONFIG CLEAR (14 R495). -/
def execCtrConfigClear (c : Desc) (s : State) : Host.Outcome State Fault Refusal :=
  run s fun d => d.descriptor c fun d c =>
    if ctrBad c then d.finish c stInvalid 0 else (d.ctrZero (ctrNo c)).finish c stOk 0

/-- A snapshot, and with CLEAR every VALUE and OVF_COUNT set to 0 (14 R493). -/
def Dev.ctrSnap (s : Dev) (clear : Bool) : Dev :=
  let bank : Vector (Nat × Nat) 64 := Vector.ofFn fun i => (s.ctrValue i.val, s.get (CTR_m_OVF_COUNT_OVF_COUNT i.val))
  let s := s.modCtr fun c => { c with snap := bank }
  let s := (s.set CTR_SNAP_TIME_LO_TIME s.timebase).set CTR_SNAP_TIME_HI_TIME (s.timebase / 2 ^ 32)
  let s := s.set CTR_STATUS_SNAP_SEQ (s.get CTR_STATUS_SNAP_SEQ + 1)
  s.iff clear fun s => s.each (List.range 64) fun s m => (s.setCtrValue m 0).set (CTR_m_OVF_COUNT_OVF_COUNT m) 0

/-- CTR_SNAPSHOT SNAPSHOT; actions 4 to 7, which no other row has, are INVALID (14 R493, R496, Table 14.4). -/
def execCtrSnapshot (c : Desc) (s : State) : Host.Outcome State Fault Refusal :=
  run s fun d => d.descriptor c fun d c =>
    if 4 ≤ c.bits 16 2 0 then d.finish c stInvalid 0
    else
      let d := d.ctrSnap false
      d.finish c stOk (d.get CTR_STATUS_SNAP_SEQ)

/-- CTR_SNAPSHOT with CLEAR (14 R493, R496). -/
def execCtrSnapshotClear (c : Desc) (s : State) : Host.Outcome State Fault Refusal :=
  run s fun d => d.descriptor c fun d c =>
    let d := d.ctrSnap true
    d.finish c stOk (d.get CTR_STATUS_SNAP_SEQ)

/-- CTR_SNAPSHOT FREEZE; in a freeze it changes nothing (14 R492, R496). -/
def execCtrFreeze (c : Desc) (s : State) : Host.Outcome State Fault Refusal :=
  run s fun d => d.descriptor c fun d c =>
    let d := d.iff (!d.on CTR_STATUS_FROZEN) fun d => (d.flag CTR_STATUS_FROZEN true).set CTR_STATUS_FREEZE_CAUSE 1
    d.finish c stOk (d.get CTR_STATUS_SNAP_SEQ)

/-- CTR_SNAPSHOT UNFREEZE (14 R492, R496). -/
def execCtrUnfreeze (c : Desc) (s : State) : Host.Outcome State Fault Refusal :=
  run s fun d => d.descriptor c fun d c =>
    let d := (d.flag CTR_STATUS_FROZEN false).set CTR_STATUS_FREEZE_CAUSE 0
    d.finish c stOk (d.get CTR_STATUS_SNAP_SEQ)

/-- MODE and SAT as records carry them (14 R497 byte 3). -/
def Dev.ctrModeByte (s : Dev) (m : Nat) : Nat := s.get (CTR_m_CFG_MODE m) + 8 * s.get (CTR_m_CFG_SAT m)

/-- A counter's record (14 R497). -/
def Dev.ctrRecord (s : Dev) (snap : Bool) (m : Nat) : List Byte :=
  let v : Nat × Nat := if snap then s.ctr.snap.get (Fin.ofNat 64 m) else (s.ctrValue m, s.get (CTR_m_OVF_COUNT_OVF_COUNT m))
  pay m ++ pay (s.get (CTR_m_CFG_EVENT m)) ++ pay (s.get (CTR_m_CFG_INSTANCE m)) ++ pay (s.ctrModeByte m) ++
  bytesOf 4 v.2 ++ bytesOf 8 v.1

/-- CTR_READ with source 0 or 1; source 3 is INVALID (14 R494, R497). -/
def execCtrReadCounters (c : Desc) (s : State) : Host.Outcome State Fault Refusal :=
  run s fun d => d.descriptor c fun d c =>
    let sel := maskList 64 (c.bytes 24 8)
    let n := 16 * sel.length
    if c.bits 16 1 0 = 3 ∨ sel = [] ∨ (c.length ≠ 0 ∧ c.length ≠ n) ∨ d.spanBad c c.length then d.finish c stInvalid 0
    else if c.length = 0 then d.finish c stOk 0
    else
      let w := d.putData c 0 (sel.flatMap (d.ctrRecord (c.bits 16 1 0 == 1)))
      w.1.finish c (statusOf w.2) (match w.2 with | .failed => 0 | _ => n)

/-- A sample record's bytes (14 Table 14.3). -/
def Sample.bytes (r : Sample) : List Byte :=
  pay (r.ctr + 64 * bnat r.desc.isSome + 128 * bnat r.pc.isSome) ++ pay r.event ++ pay r.inst ++ pay (bnat r.froze) ++
  bytesOf 2 ((r.desc.map (·.1)).getD 0) ++ bytesOf 2 ((r.desc.map (·.2)).getD 0) ++
  bytesOf 4 ((r.pc.map BitVec.toNat).getD 0) ++ bytesOf 4 r.ovf ++ bytesOf 8 r.time ++ bytesOf 8 0

/-- CTR_READ with source 2: the oldest records leave the buffer for memory (14 R497). -/
def execCtrReadSamples (c : Desc) (s : State) : Host.Outcome State Fault Refusal :=
  run s fun d => d.descriptor c fun d c =>
    if 2048 < c.length ∨ c.length % 32 ≠ 0 ∨ d.spanBad c c.length then d.finish c stInvalid 0
    else if c.length = 0 then d.finish c stOk 0
    else
      let out := d.ctr.samples.take (c.length / 32)
      let w := d.putData c 0 (out.flatMap Sample.bytes)
      match w.2 with
      | .failed => w.1.finish c stMemUe 0
      | t =>
        let left := w.1.ctr.samples.drop out.length
        ((w.1.modCtr fun q => { q with samples := left }).set CTR_STATUS_SAMPLES left.length).finish c (statusOf t)
          (32 * out.length)

end Sys2Proof.Machine
end

