-- ==== Sys2Proof/Machine/Fec.lean ====
section
/-! DEFINITION. The codes of a port: the inner decoder's releases, alignment-marker groups, codewords in both directions, and
the post-FEC error ratio (07 R240–R269). -/

namespace Sys2Proof.Machine

open Reg

/-- An FEC counter raised, saturating (07 R267). -/
def Dev.fecAdd (s : Dev) (p : Port) (i n : Nat) : Dev :=
  s.modFec p fun f => { f with ctr := vmod f.ctr (Fin.ofNat 64 i) fun v => min (v + n) (2 ^ 64 - 1) }

/-! ## Inner code (07 R249–R261) -/

/-- The LLRs with which the released blocks enter their checks, newest first: 0 under the guard (07 R259), and of blocks from
before a flush (07 R258). -/
def Fec.releasedLlrs (f : Fec) : List (List Int) :=
  f.rel.zipIdx.map fun e => if f.guard ≠ 0 ∨ 2 ≤ f.flushed + e.2 then List.replicate 2048 0 else e.1

/-- The window over a port's unreleased blocks. -/
def Dev.innerWindow (s : Dev) (p : Port) : InnerWindow :=
  let f := (s.prt p).fec
  { soft := s.softCfg p .b, pre := f.pre, ys := f.win.map (·.ys), rel := f.releasedLlrs }

/-- The newest block enters the window with its first-pass hard decisions (07 R252, 04 R158). -/
def Dev.innerTake (s : Dev) (p : Port) (ys : List (Int × Bool)) : Dev :=
  let s := s.modFec p fun f => { f with fresh := f.fresh.drop 1024, win := f.win ++ [{ ys := ys }] }
  let first := (s.innerWindow p).detect []
  s.modFec p fun f => { f with win := f.win.dropLast ++ [{ ys := ys, hard := innerHard (first.getLastD []) }] }

/-- The iteration limit of the coming step (07 R255), where a raise waits for the path to re-centre (02 R56). -/
def Dev.stepLimit (s : Dev) (p : Port) : Nat :=
  if s.on (LPn_SLACK_ITER_HELD p) then min (s.iterLimit p) (s.get (LPn_SLACK_ITER_SET p)) else s.iterLimit p

/-- The target block is released (07 R252, R260, R261): its information bits enter the receive stream as RS symbols, with
erasure flags where it is uncorrectable; bits that the decoder changed and the block itself count. Gives whether the block is
uncorrectable. -/
def Dev.innerRelease (s : Dev) (p : Port) (r : InnerRun) : Dev × Bool :=
  let f := (s.prt p).fec
  let post := r.llr.getD 2 []
  let out := innerHard post
  let blocks := [innerHard (f.rel.getD 1 []), innerHard (f.rel.getD 0 []), out, innerHard (r.llr.getD 3 []),
    innerHard (r.llr.getD 4 [])]
  let bad := innerBad blocks
  let flags := if bad then innerFlags (post.map Int.natAbs) (s.get (LPn_FEC_CTRL_ERASE_THR p)) else List.replicate 192 false
  let syms := (symbolsOfBits ((innerBits out).take 1920)).1
  let target := f.win.headD { ys := [] }
  let changed := popCount 2048 (out ^^^ target.hard).toNat
  let s := s.modFec p fun f =>
    { f with pos := f.pos + 1, win := f.win.tail, pre := (target.ys.reverse.take 32).reverse
             rel := post :: f.rel.take 1, msg := r.msg.tail, guard := f.guard - 1, flushed := f.flushed - 1
             ber := (f.ber.1 + changed, f.ber.2 + 2048), rxSyms := f.rxSyms ++ syms.zip flags
             bad := if bad then f.bad + 1 else 0 }
  ((s.fecAdd p 23 1).fecAdd p 25 changed, bad)

/-- A window step with the newest block given (07 R252–R261). While fewer than three look-ahead blocks have arrived since the
chain began the target lies before block 0 and nothing is released. Else the iterations run, the target is released, and
three uncorrectable blocks in a row call the guard. -/
def Dev.innerStep (s : Dev) (p : Port) (ys : List (Int × Bool)) : Dev :=
  let s := s.innerTake p ys
  let f := (s.prt p).fec
  if f.win.length < 4 then s
  else
    let r := (s.innerWindow p).run (s.on (LPn_FEC_CTRL_EARLY_STOP p)) (f.rel.map innerHard) (s.stepLimit p) []
      ((List.range 4).map fun i => f.msg.getD i (List.replicate 6144 0)) 0
    let q := s.innerRelease p r.1
    let s := q.1.sample 0x37 p r.2
    let s := s.iff q.2 fun s => ((s.fecAdd p 24 1).flag (LPn_FEC_EVENTS_INNER_UNCORR p) true).count 0x38 p
    if s.on (LPn_FEC_CTRL_PROP_GUARD p) ∧ 3 ≤ (s.prt p).fec.bad then
      ((s.modFec p fun f => { f with guard := 2, bad := 0 }).fecAdd p 26 1).raise (LPn_FEC_EVENTS_PROP_RESET p) 1
    else s

/-- INNER_WINDOW_STEP (07 R252–R261): the detector has delivered the newest block. newest holds the detector's inputs of the
block's symbols that the port's own sample blocks have not brought (none where they have brought all; log entry 102); the step
waits for the rest of a block that is still incomplete. -/
def execInnerWindowStep (p : Port) (newest : List Int) (s : State) : Host.Outcome State Fault Refusal :=
  run s fun d =>
    let ys := ((d.prt p).fec.fresh ++ newest.map fun y => (y, false)).take 1024
    if d.on (LPn_FEC_STATUS_INNER_ON p) ∧ (d.prt p).fec.chain ∧ ys.length = 1024 then (d.innerStep p ys).draw else d

/-- AM_GROUP_CHECK (07 R251): errs holds each marker's bit errors. Three groups missed in a row, or none found in the two
periods after the chain's start, are FRAME_LOST and a link loss. -/
def execAmGroupCheck (p : Port) (errs : List Nat) (s : State) : Host.Outcome State Fault Refusal :=
  run s fun d =>
    if (d.prt p).fec.chain ∧ ¬ isNrz (d.mode p) then
      let good := (errs.filter fun e => decide (e ≤ 8)).length
      let found := errs != [] && decide (3 * errs.length ≤ 4 * good)
      let d := d.modFec p fun f =>
        { f with groups := f.groups + 1, found := f.found || found, missed := if found then 0 else f.missed + 1 }
      let d := d.iff found fun d => d.flag (LPn_FEC_STATUS_FRAME_LOCK p) true
      let f := (d.prt p).fec
      if !found && (decide (3 ≤ f.missed) || (!f.found && decide (2 ≤ f.groups))) then
        let d := ((d.flag (LPn_FEC_EVENTS_FRAME_LOST p) true).fecAdd p 32 1).flag (LPn_FEC_STATUS_FRAME_LOCK p) false
        d.linkLoss p 1
      else d
    else d

/-! ## Outer code (07 R240–R245, R262–R269) -/

/-- The most flags that are used (07 Table 7.7). -/
def Dev.eraseMax (s : Dev) (p : Port) : Nat :=
  if s.on (LPn_FEC_CTRL_ERASE_EN p) then min (s.get (LPn_FEC_CTRL_ERASE_MAX p)) 30 else 0

/-- Whether a SLIP's substitution runs on a path; its codeword counts in LAST_MARKED (02 R69, R72). -/
def Dev.slipMark (s : Dev) (p : Port) (rx : Bool) : Dev × Bool :=
  let q := s.prt p
  let l := if rx then q.slipRx else q.slipTx
  let m := l.map fun r => { r with marked := r.marked + 1 }
  (s.modPort p fun q => if rx then { q with slipRx := m } else { q with slipTx := m }, l != [])

/-- The next codeword of the receive stream with its symbols' flags (07 R239, R261): of a group of two, whose symbols take
turns, the first and then the second; the sub-channel's bits are taken and restored first (08 R305). Where the stream holds no whole group, the codeword that the command brings, without
flags (log entry 102). -/
def Dev.rxNext (s : Dev) (p : Port) (given : List Nat) : Dev × List (Nat × Bool) :=
  let f := (s.prt p).fec
  let n := 544 * codewordGroup (s.mode p)
  if f.half ≠ [] then (s.modFec p fun f => { f with half := [] }, f.half)
  else if f.rxSyms.length < n then (s, given.map fun v => (v, false))
  else
    let l := f.rxSyms.take n
    let c := s.carriersOut p (l.map (·.1))
    let l := c.2.zip (l.map (·.2))
    let r := if n = 544 then (l, []) else deinterleave l
    (c.1.modFec p fun f => { f with rxSyms := f.rxSyms.drop n, half := r.2, taken := f.taken + 1 }, r.1)

/-- A codeword of the receive direction (07 R240–R245, R262, R266, R268, R269), of a port without Lull's marking. -/
def Dev.rxCodeword (s : Dev) (p : Port) (word : List (Nat × Bool)) : Dev :=
  let cw := word.map (·.1)
  let flags := word.map (·.2)
  let term := s.on (LPn_FEC_STATUS_TERM_RX p)
  let slip := s.slipMark p true
  let s := slip.1
  let out := fun (s : Dev) (mark : Bool) (c : List Nat) =>
    if mark then (s.modFec p fun f => { f with rxOut := rsMark c }).fecAdd p 21 1
    else s.modFec p fun f => { f with rxOut := c }
  if !term && !s.on (LPn_FEC_CTRL_RS_MON_RX p) then out s slip.2 cw
  else
    let s := (s.fecAdd p 16 1).modFec p fun f => { f with pbAny := true }
    if rsMarked (rsSyndromes cw) then
      out ((s.fecAdd p 20 1).flag (LPn_FEC_EVENTS_MARKED_RX_IN p) true) (term || slip.2) cw
    else
      let erased := (flags.zipIdx.filter (·.1)).map fun e => 543 - e.2
      let erases := term && erased != [] && decide (erased.length ≤ s.eraseMax p)
      let s := s.iff erases (·.fecAdd p 22 1)
      match rsDecode cw (if erases then erased else []) with
      | none =>
        out (((s.fecAdd p 17 1).flag (LPn_FEC_EVENTS_UNCORR_RX p) true).count 0x36 p) (term || slip.2) cw
      | some (fixed, vals) =>
        let n := vals.length
        let bits := sumNat (vals.map (popCount 10))
        let s := ((s.fecAdd p (min n 15) 1).fecAdd p 18 n).fecAdd p 19 bits
        let s := s.iff (decide (15 ≤ n)) fun s => s.flag (LPn_FEC_EVENTS_BIN15 p) true
        let s := (s.sample 0x35 p n).modFec p fun f => { f with pbBits := f.pbBits + bits, pbWords := f.pbWords + 1 }
        out s slip.2 (if term then fixed else cw)

/-- A codeword of the transmit direction (07 R240–R245, R263, R269). -/
def Dev.txCodeword (s : Dev) (p : Port) (cw : List Nat) : Dev :=
  let term := s.on (LPn_FEC_STATUS_TERM_TX p)
  let slip := s.slipMark p false
  let s := slip.1
  let out := fun (s : Dev) (mark : Bool) (c : List Nat) =>
    if mark then (s.modFec p fun f => { f with txOut := rsMark c }).fecAdd p 31 1
    else s.modFec p fun f => { f with txOut := c }
  if !term && !s.on (LPn_FEC_CTRL_RS_MON_TX p) then out s slip.2 cw
  else
    let s := s.fecAdd p 27 1
    if rsMarked (rsSyndromes cw) then
      out ((s.fecAdd p 30 1).flag (LPn_FEC_EVENTS_MARKED_TX_IN p) true) (term || slip.2) cw
    else
      match rsDecode cw [] with
      | none => out ((s.fecAdd p 28 1).flag (LPn_FEC_EVENTS_UNCORR_TX p) true) (term || slip.2) cw
      | some (fixed, vals) => out (s.fecAdd p 29 vals.length) slip.2 (if term then fixed else cw)

/-- The bits of a block that the host sends in an NRZ mode, in which a SLIP's pattern takes the place of those lost (02 R69). -/
def Dev.txBits (s : Dev) (p : Port) (l : List Bool) : Dev × List Bool :=
  let sub := (s.prt p).slipBitsTx
  (s.modPort p fun q => { q with slipBitsTx := q.slipBitsTx.drop l.length }, sub.take l.length ++ l.drop sub.length)

/-- The time of a codeword, or of a 66-bit block in an NRZ mode, toward the line: the host's is decoded and sent where a
transmitter is in DATA; in LF the local fault stream takes its place, at this boundary (06 R230). -/
def Dev.txTime (s : Dev) (p : Port) (cw : List Nat) : Dev :=
  let data := s.acqState p == 7
  if isNrz (s.mode p) then
    if s.sends p txLf then s.lineFault p
    else if data && cw != [] && s.sends p txData then
      let r := s.txBits p (cw.map (· == 1))
      r.1.lineBits p r.2
    else s
  else
    let given := data && cw.length == 544
    let s := s.iff given (·.txCodeword p cw)
    if s.sends p txLf then s.lineFault p
    else if given && s.sends p txData then s.lineWord p (s.prt p).fec.txOut
    else s

/-- The time of a codeword, or of a 66-bit block in an NRZ mode, toward the host: the next of the receive stream, or where none
arrives what Table 10.2 of 10 sends in its place; while a receiving port wakes from plain Lull that is marked and counted,
until the first codeword arrives from the line (09 R339, R343). -/
def Dev.rxTime (s : Dev) (p : Port) (cw : List Nat) : Dev :=
  let data := s.acqState p == 7
  if isNrz (s.mode p) then
    let l := (s.prt p).hostBits
    if data ∧ s.linkState p = lsUp then
      if l.length < 66 then s
      else (s.modPort p fun q => { q with hostBits := q.hostBits.drop 66 }).hostBlock p (l.take 66)
    else s.hostIdle p false
  else
    let r := if data then s.rxNext p cw else (s, [])
    if r.2.length = 544 then
      let s := (r.1.modLink p fun l => { l with markWake := false }).rxCodeword p r.2
      s.hostWord p (s.prt p).fec.rxOut
    else if data ∧ (s.prt p).link.markWake then (s.hostIdle p true).fecAdd p 21 1
    else if data ∧ s.linkState p = lsUp then s
    else s.hostIdle p false

/-- CODEWORD_DECODE (07 R241): the time of a codeword in a direction. In data mode the codeword given is decoded in the transmit
direction, and in the receive direction where the port's own samples have not brought it (log entry 102); no symbols stand for
none arriving. In an NRZ mode the command is the time of a 66-bit block (DESIGN CHOICE, log entry 109). -/
def execCodewordDecode (p : Port) (dir : Dir) (cw : List Nat) (s : State) : Host.Outcome State Fault Refusal :=
  run s fun d =>
    let cw := cw.map (· % 1024)
    match dir with
    | .tx => d.txTime p cw
    | .rx => d.rxTime p cw

/-- POST_BER_INTERVAL (07 R268): 0 where the receive direction has decoded no codeword in the interval. -/
def execPostBerInterval (p : Port) (s : State) : Host.Outcome State Fault Refusal :=
  run s fun d =>
    let f := (d.prt p).fec
    let v := if !f.pbAny then 0 else if f.pbBits = 0 then 0xFFFF else logCode 100 0xFFFE (5440 * f.pbWords) f.pbBits
    (d.set (LPn_FEC_STATUS_POST_BER p) v).modFec p fun f => { f with pbBits := 0, pbWords := 0, pbAny := false }

end Sys2Proof.Machine
end

