-- ==== Sys2Proof/Machine/Lmc.lean ====
section
/-! DEFINITION. The link message channel's service: notices, remote SNR, and user messages (08 R302–R313, 09 R317, R319). -/

namespace Sys2Proof.Machine

open Reg

/-- REMOTE_SNR (08 R309). -/
def execRemoteSnr (p : Port) (f : Frame) (snrA snrB ber : Nat) (s : State) : Host.Outcome State Fault Refusal :=
  run s fun d =>
    if d.lmcUp p then
      let r := d.lmcAccept p mtRemoteSnr f
      if r.2 then
        ((r.1.set (LPn_LMC_REMOTE_REM_SNR_A p) snrA).set (LPn_LMC_REMOTE_REM_SNR_B p) snrB).set
          (LPn_LMC_REMOTE_REM_BER p) ber
      else r.1
    else d

/-- EVENT_NOTICE (08 R309, 09 R317, R319): codes 1 and 2 are a remote fault, 3 returns the port to SEARCH, 4 retrains it. -/
def execEventNotice (p : Port) (f : Frame) (code sev : Nat) (s : State) : Host.Outcome State Fault Refusal :=
  run s fun d =>
    if d.lmcUp p then
      let r := d.lmcAccept p mtNotice f
      let d := r.1
      if r.2 then
        let d := (d.set (LPn_REMOTE_EVENT_CODE p) code).set (LPn_REMOTE_EVENT_SEVERITY p) sev
        let d := d.raise (LPn_ACQ_EVENTS_NOTICE p) 1 (pay code ++ pay sev)
        if code = 1 ∨ code = 2 then
          (d.flag (LPn_LINK_STATUS_REMOTE_FAULT p) true).flag (LPn_LINK_EVENTS_REMOTE_FAULT p) true
        else if code = 3 then
          (if d.linkState p = lsUp ∨ d.linkState p = lsLull then d.linkLoss p 8 else d.toSearch p)
        else if code = 4 then d.retrainBegin p false
        else d
      else d
    else d

/-- REMOTE_FAULT_EXPIRE (09 R317). -/
def execRemoteFaultExpire (p : Port) (s : State) : Host.Outcome State Fault Refusal :=
  run s fun d => d.flag (LPn_LINK_STATUS_REMOTE_FAULT p) false

/-- LMC_FRAME_DISCARD (08 R303, R307). -/
def execLmcFrameDiscard (p : Port) (why : Discard) (s : State) : Host.Outcome State Fault Refusal :=
  run s fun d =>
    if d.lmcUp p then
      match why with
      | .unknownType => (d.inc (LPn_LMC_COUNT_UNKNOWN p)).flag (LPn_ACQ_EVENTS_LMC_UNKNOWN p) true
      | .length | .crc =>
        ((d.inc (LPn_LMC_COUNT_CRC_ERRS p)).flag (LPn_ACQ_EVENTS_LMC_CRC p) true).count 0x33 p
    else d

/-- Whether the channel's transmitter, that of pair A, can carry a frame (05 R172): it sends training segments or a stream. -/
def Dev.lmcSends (s : Dev) (p : Port) : Bool :=
  let st := s.get (LPn_TX_STATUS_TXS_A p)
  st == txTrain || st == txData || st == txLf

/-- LMC_KEEPALIVE (08 R304): in training, of a port that transmits. -/
def execLmcKeepalive (p : Port) (s : State) : Host.Outcome State Fault Refusal :=
  run s fun d => if d.acqState p = 7 ∨ ¬ d.lmcSends p then d else d.lmcTell p mtRemoteSnr (d.remoteSnrBytes p)

/-- REMOTE_SNR_PERIOD (08 R309). -/
def execRemoteSnrPeriod (p : Port) (s : State) : Host.Outcome State Fault Refusal :=
  run s fun d =>
    if d.acqState p = 7 ∧ d.on (LPn_ACQ_CTRL_SNR_SHARE p) then d.lmcTell p mtRemoteSnr (d.remoteSnrBytes p) else d

/-! ## User messages (08 R310–R313) -/

/-- An LMC_SEND completes. -/
def Dev.sendDone (s : Dev) (p : Port) (t : TxFrame) (status : Nat) : Dev :=
  let k := WaitKind.lmcSend p t.typ t.seq
  let late := ((s.waiting k).map fun (c : Desc) => c.data == Attempt.second).getD false
  s.wakeOne k (if late && status == stOk then stRetriedOk else status) t.seq

/-- LMC_FRAME_SENT (08 R311): the oldest frame has left pair A's transmitter (05 R172), which sends none while it is off. -/
def execLmcFrameSent (p : Port) (s : State) : Host.Outcome State Fault Refusal :=
  run s fun d =>
    match (d.prt p).lmc.out with
    | [] => d
    | t :: r =>
      let may := d.lmcSends p
      let d := d.iff may fun d => d.modLmc p fun q => { q with out := r, outPos := 0, sent := some t }
      if !t.user || !may then d
      else if t.ackReq then d.modLmc p fun q => { q with wait := q.wait ++ [t] }
      else d.sendDone p t stOk

/-- ACK (08 R308, R311). -/
def execAck (p : Port) (typ seq : Nat) (s : State) : Host.Outcome State Fault Refusal :=
  run s fun d =>
    match (d.prt p).lmc.wait.find? fun t => t.typ == typ && t.seq == seq with
    | none => d
    | some t =>
      let d := d.modLmc p fun q => { q with wait := q.wait.erase t }
      if t.again then d.retried.sendDone p t stRetriedOk else d.sendDone p t stOk

/-- LMC_ACK_TIMEOUT (08 R311): the oldest frame without its ACK is sent once more, or its LMC_SEND times out. -/
def execLmcAckTimeout (p : Port) (s : State) : Host.Outcome State Fault Refusal :=
  run s fun d =>
    match (d.prt p).lmc.wait with
    | [] => d
    | t :: r =>
      let d := d.modLmc p fun q => { q with wait := r }
      if t.again then (d.sendDone p t stTimeout).logPlain Config.ackBit.toNat 2
      else d.modLmc p fun q => { q with out := q.out ++ [{ t with again := true }] }

/-- LMC_SEND (08 R310, R311). -/
def execLmcSend (c : Desc) (s : State) : Host.Outcome State Fault Refusal :=
  run s fun d => d.descriptor c fun d c =>
    let p := Desc.port c
    let a := d.acqState p
    let typ := c.byte 17
    if (a == 5 && !d.on (LPn_ACQ_STATUS_TRAIN_SK p)) || (a == 7 && !d.on (LPn_ACQ_STATUS_SUBCH_ON p)) then
      d.finish c stNotSupported 0
    else if decide (typ < 0x40) || decide (0x7F < typ) || decide (64 < c.length) || d.spanBad c c.length then
      d.finish c stInvalid 0
    else if a ≤ 4 then d.finish c stRefused 0
    else if 4 ≤ ((d.prt p).lmc.out.filter (·.user)).length then d.finish c stBusy 0
    else
      let r := d.getData c 0 c.length
      match r.2.2 with
      | .failed => r.1.finish c stMemUe 0
      | t =>
        let q := r.1.lmcQueue p typ r.2.1 (c.flag 18 0) true
        q.1.park (.lmcSend p typ q.2) { c with data := t }

/-- A user message written to a posted buffer (08 R313). -/
def Dev.deliver (s : Dev) (c : Desc) (m : Nat × Nat × List Byte) : Dev :=
  let w := s.putData c 0 (pay m.1 ++ pay m.2.1 ++ pay m.2.2.length ++ pay 0 ++ padBytes 64 m.2.2)
  w.1.finish c (statusOf w.2) (256 * m.2.2.length + m.1)

/-- LMC_USER_MESSAGE (08 R313). -/
def execLmcUserMessage (p : Port) (f : Frame) (typ : Nat) (data : List Byte) (s : State) :
    Host.Outcome State Fault Refusal :=
  run s fun d =>
    if d.lmcUp p && decide (0x40 ≤ typ) && decide (typ ≤ 0x7F) && decide (data.length ≤ 64) then
      let r := d.lmcAccept p typ f
      let d := r.1
      if r.2 then
        let m := (typ, f.seq.toNat, data)
        match d.waiting (.lmcReceive p) with
        | some c => { d with waits := d.waits.eraseP fun w => w.1 == WaitKind.lmcReceive p }.deliver c m
        | none =>
          if (d.prt p).lmc.inq.length < 4 then d.modLmc p fun q => { q with inq := q.inq ++ [m] }
          else ((d.inc (LPn_LMC_COUNT_RX_DROPS p)).flag (LPn_ACQ_EVENTS_LMC_DROP p) true).count 0x34 p
      else d
    else d

/-- LMC_RECEIVE (08 R312, R313). -/
def execLmcReceive (c : Desc) (s : State) : Host.Outcome State Fault Refusal :=
  run s fun d => d.descriptor c fun d c =>
    let p := Desc.port c
    if c.length != 68 || d.spanBad c c.length then d.finish c stInvalid 0
    else if 8 ≤ (d.waits.filter fun w => w.1 == WaitKind.lmcReceive p).length then d.finish c stBusy 0
    else
      match (d.prt p).lmc.inq with
      | [] => d.park (.lmcReceive p) c
      | m :: r => (d.modLmc p fun q => { q with inq := r }).deliver c m

/-- LMC_RECEIVE_TIMEOUT (08 R313): of the posted buffers that have a limit, the oldest. -/
def execLmcReceiveTimeout (p : Port) (s : State) : Host.Outcome State Fault Refusal :=
  run s fun d =>
    let pick := fun (w : WaitKind × Desc) => w.1 == WaitKind.lmcReceive p && w.2.bytes 20 2 != 0
    match d.waits.find? pick with
    | none => d
    | some w => { d with waits := d.waits.eraseP pick }.finish w.2 stTimeout 0

end Sys2Proof.Machine
end

