-- ==== Sys2Proof/Machine/Thermal.lean ====
section
/-! DEFINITION. The thermal model, its thresholds, the throttle's timers, and both kinds of Quench (17). Temperatures are in
pK above 0 °C; products of powers in mW and resistances in 0.001 K/W are whole numbers of µK. -/

namespace Sys2Proof.Machine

open Reg

/-- A temperature in 0.1 °C. -/
def deci (n : Int) : Int := n * 100000000000
/-- A temperature rounded to 0.1 °C. -/
def toDeci (t : Int) : Int := roundDiv t 100000000000
/-- A temperature in a two's complement field of at most 16 bits, in 0.1 °C; one that does not fit has no value stated. -/
def tempField (w : Nat) (t : Int) : Nat :=
  let v := toDeci t
  if -(2 ^ (w - 1) : Int) ≤ v ∧ v < 2 ^ (w - 1) then codeOf w v else (Config.over16 v).toNat % 2 ^ w

/-- The zones. -/
def allZones : List (Fin 12) := List.finRange 12
def Dev.zone (s : Dev) (z : Fin 12) : Zone := s.thm.zone.get z
def Dev.modZone (s : Dev) (z : Fin 12) (g : Zone → Zone) : Dev := s.modThm fun t => { t with zone := vmod t.zone z g }

/-- The zone of the highest temperature, the first of equals. -/
def hottest (temp : Fin 12 → Int) : Fin 12 := allZones.foldl (fun b z => if temp b < temp z then z else b) 0

/-- The THM vector signalled where IRQ_EN is set (17 Table 17.8). -/
def Dev.thmSignal (s : Dev) : Dev := s.iff (s.on THM_CTRL_IRQ_EN) fun s => s.signal (s.get THM_CTRL_VECTOR)

/-- An episode of substitution begins on an input: zones 0 to 11, the reference 12 (17 R565). -/
def Dev.substBegin (s : Dev) (input : Nat) : Dev := (s.raise THM_EVENTS_SENSOR_FAULT 2 (pay input)).thmSignal

/-! ## Zone power (17 R555, R556) -/

/-- A zone's power in use, mW. -/
def Dev.zonePower (s : Dev) (z : Fin 12) : Nat := if (s.zone z).subst then s.thm.par.pmax.getD z 0 else (s.zone z).valid

/-- A zone's power in mW: current times voltage, over its rails, averaged over the samples (17 R555). -/
def railPower (l : List (List (Nat × Nat))) : Nat :=
  (roundDiv (sumNat (l.map fun r => sumNat (r.map fun e => e.1 * e.2))) (1000 * max 1 l.length)).toNat

/-- One reading of a zone's monitor: out of range at once, none for 1 ms, makes it invalid. -/
def Dev.zoneRead (s : Dev) (z : Fin 12) (r : ZoneReading) : Dev :=
  let q := s.zone z
  let q : Zone := match r with
    | .rails l => { q with valid := railPower l, subst := false, stale := 0 }
    | .outOfRange => { q with subst := true, stale := 0 }
    | .none => { q with stale := min (q.stale + 1) 10, subst := q.subst || decide (10 ≤ q.stale + 1) }
  let start := q.subst && !(s.zone z).subst
  let s := (s.modZone z fun _ => q).putBit THM_SUBST_ZONES z q.subst
  let s := s.set (THM_ZONEj_POWER z) (min (s.zonePower z) 0xFFFF)
  s.iff start (·.substBegin z)

/-- ZONE_POWER_SAMPLE (17 R555, R556): the zones' readings in order, and with them the device's power (02 R76). -/
def execZonePowerSample (r : List ZoneReading) (s : State) : Host.Outcome State Fault Refusal :=
  run s fun d =>
    let d := d.each allZones fun d z => d.zoneRead z (r.getD z .none)
    let total := sumNat (allZones.map fun z => d.zonePower z)
    (d.modShed fun h => { h with power := (total :: h.power).take 100 })

/-! ## Case reference (17 R557, R558) -/

/-- The thermistor's reading by CASE_TABLE: point i stands at coarse value 4,096 × i (17 R557, 19 Table 19.8). -/
def Dev.caseMeas (s : Dev) : Option Int :=
  let i := s.get THM_CTRL_CASE_INPUT
  let n := s.mon.inp.get (Fin.ofNat 32 i)
  let v := s.get (MON_INm_VAL_COARSE i)
  if n.valid ∧ ¬ n.oor then
    let a := deci (s.thm.par.caseTable.getD (v / 4096) 0)
    let b := deci (s.thm.par.caseTable.getD (v / 4096 + 1) 0)
    some (a + roundDiv ((b - a) * (v % 4096 : Nat)) 4096)
  else none

/-- The case reference, none while it is invalid. -/
def Dev.caseRef (s : Dev) : Option Int :=
  if s.on THM_CTRL_REF_SRC then s.thm.report.map fun r => deci r.1 else s.caseMeas

/-- The reference in use (17 R558). -/
def Dev.refNow (s : Dev) : Int := s.caseRef.getD (deci 850)

/-- The reference as it stands now: an episode of substitution begins or ends (17 R558, R565), the last valid value is kept
(R566), and THM_REF follows. -/
def Dev.refRead (s : Dev) : Dev :=
  let r := s.caseRef
  let start := r.isNone && !s.thm.refSubst
  let s := s.modThm fun t => { t with refSubst := r.isNone, refValid := r.getD t.refValid, ref := s.refNow }
  let s := (s.flag THM_STATUS_REF_SUBST r.isNone).set THM_REF_REF (tempField 16 s.refNow)
  let s := s.set THM_REF_CASE_MEAS (match s.caseMeas with | some t => tempField 16 t | none => 0x8000)
  s.iff start (·.substBegin 12)

/-- A report that has become older than REPORT_AGE holds no longer (17 R558). -/
def Dev.reportEnd (s : Dev) : Dev :=
  if s.on THM_CTRL_REF_SRC ∧ s.thm.report.isSome then
    (s.modThm fun t => { t with report := none }).flag THM_EVENTS_REPORT_STALE true
  else s

/-- The age of the report looked at, by the timebase. -/
def Dev.reportAge (s : Dev) : Dev :=
  match s.thm.report with
  | some r => s.iff (decide (max (s.get THM_CTRL_REPORT_AGE) 1 * 1000000000 < s.timebase - r.2)) (·.reportEnd)
  | none => s

/-- REPORT_STALE (17 R558). -/
def execReportStale (s : State) : Host.Outcome State Fault Refusal :=
  run s fun d => if d.on THM_CTRL_REF_SRC ∧ d.thm.report.isSome then d.reportEnd.refRead else d

/-! ## The model (17 R559, R566) -/

/-- ΔT_ss of a zone for the zones' powers. -/
def ThmPar.steady (q : ThmPar) (power : Fin 12 → Nat) (z : Fin 12) : Int :=
  ((q.thetaCommon * sumNat (allZones.map power) + q.thetaSelf.getD z 0 * power z : Nat) : Int) * 1000000

/-- The steady-state shares of x1 and x2. -/
def ThmPar.shares (q : ThmPar) (dss : Int) : Int × Int :=
  let a := roundDiv (q.alpha * dss) 1000
  (a, dss - a)

/-- A state variable's approach to its share over an interval, keep × 2^−128 of the distance being left. -/
def approach (now target : Int) (keep : Nat) : Int := target + roundDiv ((now - target) * keep) fixOne

/-- A zone's power and the reference in the quench estimate: last valid values, held (17 R566). -/
def Dev.quenchPower (s : Dev) (z : Fin 12) : Nat := (s.zone z).valid

/-- A zone's temperature, and in the quench estimate. -/
def Dev.zoneTemp (s : Dev) (z : Fin 12) : Int := s.thm.ref + (s.zone z).x1 + (s.zone z).x2
def Dev.zoneEst (s : Dev) (z : Fin 12) : Int := s.thm.refValid + (s.zone z).q1 + (s.zone z).q2

/-- One evaluation of the model and of the quench estimate (17 R559, R566). Parameters written before take force (19 R607). -/
def Dev.modelRun (s : Dev) : Dev :=
  let s := s.modThm fun t => { t with par := t.nextPar.getD t.par, nextPar := none }
  let par := s.thm.par
  let dt := s.timebase - s.thm.lastAt
  let k1 := expNeg dt (par.tau1 * 100000)
  let k2 := expNeg dt (par.tau2 * 1000000)
  let first := s.thm.first
  let p := s.zonePower
  let q := s.quenchPower
  let s := s.each allZones fun s z =>
    let d := par.steady p z
    let a := par.shares d
    let b := par.shares (par.steady q z)
    s.modZone z fun n =>
      if first then { n with x1 := a.1, x2 := a.2, q1 := b.1, q2 := b.2, dss := d }
      else { n with x1 := approach n.x1 a.1 k1, x2 := approach n.x2 a.2 k2, q1 := approach n.q1 b.1 k1
                    q2 := approach n.q2 b.2 k2, dss := d }
  s.modThm fun t => { t with first := false, lastAt := s.timebase }

/-! ## Predicted time to QUENCH (17 R567) -/

/-- The first n in a range at which a test that never turns back holds; the end where it never holds. -/
def firstWhere (p : Nat → Bool) (lo hi : Nat) : Nat :=
  if p lo then lo
  else if !p hi then hi
  else
    ((List.range 27).foldl (fun (r : Nat × Nat) _ =>
      if r.2 ≤ r.1 + 1 then r
      else
        let m := (r.1 + r.2) / 2
        if p m then (r.1, m) else (m, r.2)) (lo, hi)).2

/-- The quench estimate of a zone run forward by n × 50 µs with its shares: the estimate is ref + both shares + what is left
of both distances. -/
def ThmPar.ahead (q : ThmPar) (ref : Int) (b : Int × Int) (d1 d2 : Int) (n : Nat) : Int :=
  ref + b.1 + b.2 - roundDiv (d1 * expNeg (n * 50000) (q.tau1 * 100000)) fixOne -
    roundDiv (d2 * expNeg (n * 50000) (q.tau2 * 1000000)) fixOne

/-- Whether the estimate rises at n × 50 µs: the sign of its slope, the slower exponential taken out. -/
def ThmPar.rises (q : ThmPar) (d1 d2 : Int) (n : Nat) : Bool :=
  let t1 := q.tau1 * 100000
  let t2 := q.tau2 * 1000000
  let a := d1 * t2
  let b := d2 * t1
  if t1 ≤ t2 then decide (0 < a * (expNeg (n * 50000 * (t2 - t1)) (t1 * t2) : Nat) + b * (fixOne : Nat))
  else decide (0 < a * (fixOne : Nat) + b * (expNeg (n * 50000 * (t1 - t2)) (t1 * t2) : Nat))

/-- When the estimate of a zone first reaches 118 °C, in steps of 50 µs rounded up; none where it never does. It has at most
one turn, so it is monotone up to the turn and after it. -/
def ThmPar.quenchAt (q : ThmPar) (ref : Int) (b : Int × Int) (x1 x2 : Int) : Option Nat :=
  let d1 := b.1 - x1
  let d2 := b.2 - x2
  let hot := fun n => decide (deci 1180 ≤ q.ahead ref b d1 d2 n)
  let last := 2 ^ 26
  let up := q.rises d1 d2 0
  let turn := firstWhere (fun n => q.rises d1 d2 n != up) 0 last
  if hot 0 then some 0
  else if up then (if hot turn then some (firstWhere hot 0 turn) else none)
  else if hot last then some (firstWhere hot turn last)
  else none

/-- A zone's t_p in steps of 50 µs from the state as it stands. -/
def Dev.quenchAt (s : Dev) (z : Fin 12) : Option Nat :=
  let par := s.thm.par
  par.quenchAt s.thm.refValid (par.shares (par.steady s.quenchPower z)) (s.zone z).q1 (s.zone z).q2

/-! ## Thresholds and the throttle (17 R560–R564) -/

/-- A zone's own states of WARN and THROTTLE after an update (17 Table 17.2, R562). -/
def Dev.zoneStates (s : Dev) (z : Fin 12) : Dev :=
  let t := s.zoneTemp z
  let now := s.timebase
  s.modZone z fun n =>
    let cool := if t ≤ deci 1040 then some (n.coolAt.getD now) else none
    let passed := match cool with
      | some c => decide (1000000000 ≤ now - c)
      | none => false
    { n with warn := if deci 1000 ≤ t then true else n.warn && !decide (t ≤ deci 970)
             throttle := if deci 1080 ≤ t then true else n.throttle && !passed
             coolAt := cool }

/-- Whether WARN and THROTTLE are reached and have not cleared. -/
def Dev.warned (s : Dev) : Bool := s.thm.zone.toList.any (·.warn)
def Dev.throttled (s : Dev) : Bool := s.thm.zone.toList.any (·.throttle)

/-- What follows as thresholds are reached: WARN, and THROTTLE with its first sub-step (17 Table 17.2, R563). -/
def Dev.thresholds (s : Dev) : Dev :=
  let warned := s.warned
  let throttled := s.throttled
  let s := s.each allZones (·.zoneStates ·)
  let cool := allZones.all fun z => decide (s.zoneTemp z ≤ deci 1040)
  let s := s.modThm fun t => { t with coolAt := if cool then some (t.coolAt.getD s.timebase) else none }
  let s := s.iff (s.warned && !warned) fun s => (s.raise THM_EVENTS_WARN 1).thmSignal
  s.iff (s.throttled && !throttled) fun s =>
    ((s.raise THM_EVENTS_THROTTLE 2).inc THM_COUNT_THROTTLES).throttleStep

/-- THROTTLE_SUBSTEP_TIMER (17 R563). -/
def execThrottleSubstepTimer (s : State) : Host.Outcome State Fault Refusal :=
  run s fun d =>
    if d.throttled ∧ allZones.any (fun z => decide (deci 1080 ≤ d.zoneTemp z) && decide (deci 1080 ≤ d.thm.ref + (d.zone z).dss))
    then d.throttleStep else d

/-- THROTTLE_WITHDRAW_TIMER (17 R564). -/
def execThrottleWithdrawTimer (s : State) : Host.Outcome State Fault Refusal :=
  run s fun d => if !d.throttled && d.thm.coolAt.isSome then d.throttleWithdraw else d

/-- RATE for the hottest zone's distance below the lowest threshold above it (17 R560). -/
def rateFor (t : Int) : Nat :=
  match [deci 1000, deci 1080, deci 1180].find? fun h => decide (t < h) with
  | some h => if h - t ≤ deci 30 then 2 else if h - t ≤ deci 80 then 1 else 0
  | none => 0

/-- THM_STATUS and the zones' registers (17 Tables 17.9, 17.14). Outside a Quench STATE follows the thresholds. -/
def Dev.thmRefresh (s : Dev) : Dev :=
  let h := hottest s.zoneTemp
  let s := s.each allZones fun s z => s.set (THM_ZONEj_TEMP z) (tempField 16 (s.zoneTemp z))
  let s := ((s.set THM_STATUS_HOTTEST h).set THM_STATUS_T_MAX (tempField 12 (s.zoneTemp h))).set THM_STATUS_RATE
    (rateFor (s.zoneTemp h))
  s.iff (!s.quenching) fun s => s.set THM_STATUS_STATE (if s.throttled then 2 else if s.warned then 1 else 0)

/-! ## Quench (17 R567–R570, 06 Table 6.4, 09 R322) -/

/-- Ports powered down by a Quench: every one not in DOZE enters FAULT with FAULT_CAUSE 1, its transmitters OFF, its capture
lost, the tests of its lanes over; a DOZE entry under way is over too. -/
def Dev.portsQuench (s : Dev) : Dev :=
  let s := s.each (allPorts.filter fun p => !s.inDoze p && !s.pwr.gated.get p) fun s p =>
    let s := s.dozeQuench p
    let s := s.iff ((s.prt p).link.stopping == some .doze) fun s =>
      (s.modLink p fun l => { l with stopping := none }).modTx p fun t => { t with stopping := false }
    let s := s.modTx p fun t => { t with driver := false, delay := false, quenchLf := false }
    let s := ((s.ceilNone p).captureLost p).each (s.group p) (·.testsEnd ·)
    let s := s.modPwr fun w => { w with gated := w.gated.set p true }
    s.toFault p 1
  s.each allPorts fun s p => (s.txRefresh p true).groupRefresh p

/-- The quench record written into the hearth domain (17 R569, Table 17.4). -/
def Dev.quenchRecord (s : Dev) (q : QRec) : Dev :=
  let q := { q with sec := s.get RTC_SEC_VALUE, cycles := s.get EVR_CYCLES_VALUE }
  let s := s.modThm fun t => { t with qrec := q }
  ((s.flag THM_QREC_VALID true).set THM_QREC_ZONE q.zone).set THM_QREC_T_EST (codeOf 16 q.est % 4096)

/-- A hard Quench (17 R569, 06 R234, 11 R380, R394). -/
def Dev.hardQuench (s : Dev) (q : QRec) : Dev :=
  let s := (s.modThm fun t => { t with hard := true, orderly := 0, below95 := none }).set THM_STATUS_STATE 4
  let s := (s.bceHardQuench.portsQuench).quenchRecord q
  (s.raise THM_EVENTS_QUENCH_HARD 3).inc THM_COUNT_HARD

/-- Steps 1 and 2 of an orderly Quench (17 Table 17.3, 06 Table 6.4): every started port goes to LF with its notice. -/
def Dev.orderlyQuench (s : Dev) : Dev :=
  let s := ((s.modThm fun t => { t with orderly := 2, below95 := none }).set THM_STATUS_STATE 3)
  let s := (s.raise THM_EVENTS_QUENCH_ORDERLY 3).inc THM_COUNT_ORDERLY
  s.each (allPorts.filter fun p => s.running p) fun s p =>
    let was := bothPairs.any fun x => s.get (LPn_TX_STATUS_TXS p x) == txLf
    let s := (s.modTx p fun t => { t with quenchLf := true }).txRefresh p true
    s.iff was fun s => s.lmcTell p mtNotice (pay 2 ++ pay 3)

/-- The last step of an orderly Quench (17 Table 17.3 step 5): transmitters OFF together, ports down, their loops stopped. -/
def Dev.orderlyEnd (s : Dev) : Dev :=
  let l := allPorts.filter fun p => !s.inDoze p && !s.pwr.gated.get p
  let s := (s.modThm fun t => { t with orderly := 0 }).portsQuench
  (s.each l (·.bcePortOff ·)).set THM_STATUS_STATE 5

/-- The quench record for temperatures in 0.1 °C and the inputs they come from. -/
def quenchRec (z : Fin 12) (predicted guard : Bool) (est ref : Int) (power : Fin 12 → Nat) : QRec :=
  { zone := z, predicted := predicted, guard := guard, est := signedOf 16 (tempField 16 est)
    tref := signedOf 16 (tempField 16 ref), power := allZones.map fun z => min (power z) 0xFFFF }

/-- Quench decisions after an update (17 R567, R568, R570). -/
def Dev.quenchCheck (s : Dev) : Dev :=
  let s := s.iff (s.get THM_STATUS_STATE == 4) fun s => s.set THM_STATUS_STATE 5
  let z := hottest s.zoneEst
  let s := s.each allZones fun s z => s.modZone z fun n => { n with tp := (s.quenchAt z).map (· / 2) }
  let tp := s.quenchAt z
  let s := s.modThm fun t => { t with tp := tp.map (· / 2) }
  let hard := fun (s : Dev) (predicted : Bool) =>
    s.hardQuench (quenchRec z predicted false (s.zoneEst z) s.thm.ref s.zonePower)
  let top := decide (deci 1180 ≤ s.zoneEst z)
  let horizon := 20 * min 50 (max 2 (s.get THM_CTRL_HORIZON))
  match s.get THM_STATUS_STATE with
  | 5 =>
    let cold := decide (s.zoneEst z ≤ deci 950)
    s.modThm fun t => { t with below95 := if cold then some (t.below95.getD s.timebase) else none }
  | 3 => if top then hard s false else s
  | _ =>
    if top then hard s false
    else
      match tp with
      | some n => if n ≤ 40 then hard s true else if n ≤ horizon then s.orderlyQuench else s
      | none => s

/-- THERMAL_MODEL_UPDATE (17 R559–R568): the core evaluates the model while its firmware runs. -/
def execThermalModelUpdate (s : State) : Host.Outcome State Fault Refusal :=
  run s fun d =>
    if d.coreRuns ∧ d.get PWR_STATE_STATE < 2 then
      (d.reportAge.refRead.modelRun.thresholds.thmRefresh).quenchCheck
    else d

/-- THERMAL_GUARD_TICK (17 R561): steady-state temperatures from the quench estimate's inputs; only a hard Quench may
follow. -/
def execThermalGuardTick (s : State) : Host.Outcome State Fault Refusal :=
  run s fun d =>
    if d.coreRuns ∨ d.sys.core = .off ∨ 2 ≤ d.get PWR_STATE_STATE then d
    else
      let d := (d.flag THM_STATUS_GUARD true).flag THM_EVENTS_GUARD true
      let d := d.iff (d.get THM_STATUS_STATE == 4) fun d => d.set THM_STATUS_STATE 5
      let d := d.reportAge.modThm fun t => { t with refValid := d.reportAge.caseRef.getD t.refValid }
      let temp := fun z => d.thm.refValid + d.thm.par.steady d.quenchPower z
      let z := hottest temp
      if deci 1180 ≤ temp z ∧ d.get THM_STATUS_STATE < 4 then
        d.hardQuench (quenchRec z false true (temp z) d.thm.refValid d.quenchPower)
      else d

/-- QUENCH_LF_TIME_END (06 Table 6.4 step 3, 17 Table 17.3 step 3). -/
def execQuenchLfTimeEnd (s : State) : Host.Outcome State Fault Refusal :=
  run s fun d => if d.thm.orderly = 2 then d.rampStart else d

/-- QUENCH_FLUSH_DONE (17 Table 17.3 step 5, 06 Table 6.4 step 6). -/
def execQuenchFlushDone (s : State) : Host.Outcome State Fault Refusal :=
  run s fun d => if d.thm.orderly = 4 then d.orderlyEnd else d

/-- QUENCH_HOLD_END (17 R570). -/
def execQuenchHoldEnd (s : State) : Host.Outcome State Fault Refusal :=
  run s fun d =>
    if d.get THM_STATUS_STATE = 5 ∧ d.thm.below95.isSome then
      let d := (d.modThm fun t => { t with hard := false, below95 := none }).auxHeldRefresh
      let d := d.set THM_STATUS_STATE (if d.throttled then 2 else if d.warned then 1 else 0)
      d.each allPorts fun d p => d.txRefresh p
    else d

/-- CASE_WAKE_CONVERSION (17 R571). -/
def execCaseWakeConversion (code : Nat) (s : State) : Host.Outcome State Fault Refusal :=
  run s fun d =>
    if d.get PWR_STATE_STATE = 2 then
      let wake := d.get THM_WAKE_WAKE_CODE
      let n := if wake ≠ 0 ∧ code ≤ wake then d.thm.caseLow + 1 else 0
      let d := d.modThm fun t => { t with caseLow := if n = 2 then 0 else n }
      d.iff (n == 2) (·.wakeSource 5 0)
    else d

/-! ## Descriptors (17 R572, R573) -/

/-- The thermal status record (17 Table 17.5). -/
def Dev.thermalRecord (s : Dev) : List Byte :=
  pay (s.get THM_STATUS_STATE) ++ pay (s.get THM_STATUS_HOTTEST) ++
  bytesOf 2 (s.get (THM_ZONEj_TEMP (s.get THM_STATUS_HOTTEST))) ++
  bytesOf 2 (s.get THM_REF_REF) ++
  pay (s.get THM_CTRL_REF_SRC + 2 * s.get THM_STATUS_REF_SUBST + 4 * s.get THM_STATUS_GUARD + 8 * s.get THM_STATUS_RATE) ++
  pay s.shed.top ++ bytesOf 2 (s.get THM_SUBST_ZONES) ++
  bytesOf 2 (match s.thm.tp with | some n => min n 0xFFFE | none => 0xFFFF) ++ bytesOf 4 0 ++
  (allZones.flatMap fun z => bytesOf 2 (s.get (THM_ZONEj_TEMP z))) ++
  allZones.flatMap fun z => bytesOf 2 (s.get (THM_ZONEj_POWER z))

/-- THERMAL_STATUS (17 R572). -/
def execThermalStatus (c : Desc) (s : State) : Host.Outcome State Fault Refusal :=
  run s fun d => d.descriptor c fun d c =>
    if (c.length ≠ 0 ∧ c.length ≠ 64) ∨ d.spanBad c c.length then d.finish c stInvalid 0
    else d.answer c d.thermalRecord (word32 d.thermalRecord 0)

/-- CASE_TEMP_REPORT (17 R573). SELECT writes REF_SRC; the report itself counts from then. -/
def execCaseTempReport (c : Desc) (s : State) : Host.Outcome State Fault Refusal :=
  run s fun d => d.descriptor c fun d c =>
    let t := signedOf 16 (c.bytes 16 2)
    if t < -400 ∨ 1250 < t then d.finish c stInvalid 0
    else
      let old := d.get THM_CTRL_REF_SRC
      let d := d.iff (c.flag 18 0 && old == 0) fun d => ((d.flag THM_CTRL_REF_SRC true).thmCtrlWritten old).cfgChanged 0
      let d := d.modThm fun m => { m with report := some (t, d.timebase) }
      d.finish c stOk (codeOf 32 (toDeci d.refNow))

end Sys2Proof.Machine
end

