-- ==== Sys2Proof/Machine/Telemetry.lean ====
section
/-! DEFINITION. Telemetry streams: their binding, their records and sample sets (13 R478, R479, R482, 14 R498, R499, 16 R554,
17 R574). -/

namespace Sys2Proof.Machine

open Reg

/-- Instances of a kind (13 Table 13.14). -/
def telInstances (kind : Nat) : Nat :=
  match kind with
  | 1 | 2 | 4 => 8
  | 3 => 32
  | 5 => 64
  | 6 => 12
  | _ => 0

/-- The records of a set, as (instance, part) in ascending order (13 R479, Table 13.14, 14 R498, R499, 16 R554). -/
def telRecords (kind select : Nat) : List (Nat × Nat) :=
  let sel := maskList (telInstances kind) select
  match kind with
  | 1 | 2 => sel.flatMap fun i => [(i, 0), (i, 1), (i, 2)]
  | 5 => ((List.range 16).filter fun g => sel.any fun m => m / 4 == g).map fun g => (g, 0)
  | _ => sel.map fun i => (i, 0)

/-- A FEC counter of a port as telemetry carries it: bins above 15 read 0 (13 Table 13.14). -/
def Dev.fecCount (s : Dev) (p : Port) (i : Nat) : List Byte := bytesOf 8 ((s.prt p).fec.ctr.toList.getD i 0)

/-- Port statistics, by part (14 Table 14.5). -/
def Dev.portStats (s : Dev) (p : Port) (part : Nat) : List Byte :=
  match part with
  | 0 =>
    let l := (s.prt p).link
    let fd := isFd (s.mode p)
    pay (s.linkState p + 8 * s.get (LPn_LINK_STATUS_LOCAL_FAULT p) + 16 * s.get (LPn_LINK_STATUS_REMOTE_FAULT p) +
      32 * s.get (LPn_TX_STATUS_HOST_LOST p)) ++
    pay (s.get (LPn_ACQ_STATUS_RESOLVED p)) ++ pay (s.get (LPn_EQ_STATUS_SNR_ALL_A p)) ++
    pay (s.get (LPn_EQ_STATUS_SNR_ALL_B p)) ++ bytesOf 2 (s.get (LPn_BER_BER_EST p)) ++
    bytesOf 2 (s.get (LPn_BER_BER_MEAS p)) ++ bytesOf 2 (s.get (LPn_FEC_STATUS_POST_BER p)) ++
    bytesOf 2 (s.get (LPn_LINK_COUNT_LINK_DOWNS p)) ++ bytesOf 2 (s.get (LPn_SLIP_SLIP_COUNT p)) ++
    pay (s.get (LPn_FEC_STATUS_ITER_LIMIT p)) ++ pay (s.get (LPn_RSSI_RSSI p .b)) ++
    bytesOf 2 (codeOf 16 (s.geti (LPn_CDR_STATUS_FREQ p))) ++
    pay (if fd then s.get (LPn_FD_STATUS_ERLE_A p) else 0) ++ pay (if fd then s.get (LPn_FD_STATUS_ERLE_B p) else 0) ++
    pay (s.get (LPn_LINK_STATUS_LAST_DOWN p)) ++ bytesOf 3 0 ++ bytesOf 8 l.upSince ++
    bytesOf 8 (l.lullNs + if s.linkState p = 5 then s.timebase - l.lullAt else 0)
  | 1 => (List.range 6).flatMap fun i => s.fecCount p (16 + i)
  | _ => [23, 24, 25, 27, 28, 31].flatMap (s.fecCount p)

/-- A group of four counters (14 R499). -/
def Dev.ctrGroup (s : Dev) (select g : Nat) : List Byte :=
  (List.range 4).flatMap fun k =>
    let m := 4 * g + k
    if bitOf select m then
      bytesOf 6 (s.ctrValue m) ++ pay (s.get (CTR_m_CFG_EVENT m)) ++ pay (s.get (CTR_m_CFG_INSTANCE m)) ++
      pay (s.ctrModeByte m) ++ pay 1 ++ bytesOf 2 (s.get (CTR_m_OVF_COUNT_OVF_COUNT m))
    else bytesOf 12 0

/-- Power and temperature of a zone (16 Table 16.10, 17 R574). -/
def Dev.zoneStats (s : Dev) (z : Fin 12) : List Byte :=
  let n := s.zone z
  bytesOf 2 (s.get (THM_ZONEj_POWER z)) ++ bytesOf 2 s.devPower ++
  pay (s.get PWR_STATE_STATE + 8 * bnat (decide (z.val < 8) && s.inDoze (Fin.ofNat 8 z.val))) ++ pay s.shed.top ++
  bytesOf 2 (s.get PWR_CAP_CAP) ++ bytesOf 8 0 ++
  bytesOf 2 (s.get (THM_ZONEj_TEMP z)) ++ bytesOf 2 (tempField 16 (s.thm.ref + n.dss)) ++ bytesOf 2 (s.get THM_REF_REF) ++
  pay (bnat n.subst + 2 * s.get THM_STATUS_REF_SUBST + 4 * bnat n.warn + 8 * bnat n.throttle + 16 * bnat s.quenching) ++
  pay 0 ++ bytesOf 2 (match n.tp with | some t => min t 0xFFFE | none => 0xFFFF)

/-- A record's payload (13 Table 13.14). -/
def Dev.telPayload (s : Dev) (kind select inst part : Nat) : List Byte :=
  padBytes 48 (match kind with
    | 1 => s.portStats (Fin.ofNat 8 inst) part
    | 2 => (List.range 6).flatMap fun i => if 6 * part + i < 16 then s.fecCount (Fin.ofNat 8 inst) (6 * part + i) else bytesOf 8 0
    | 3 => s.monRecord (Fin.ofNat 32 inst)
    | 4 => s.cicRecord inst
    | 5 => s.ctrGroup select inst
    | _ => s.zoneStats (Fin.ofNat 12 inst))

/-- A record with its header, but for PHASE (13 Table 13.13). -/
def telHeader (t : Stream) (inst part : Nat) (last : Bool) (time : Nat) (phase : Bool) : List Byte :=
  pay t.kind ++ pay (bnat phase + 2 * bnat t.dropped + 4 * bnat last) ++ pay inst ++ pay part ++ bytesOf 4 t.set ++ bytesOf 8 time

/-- A ring's stream put in place of the one it has. -/
def Dev.setStream (s : Dev) (t : Stream) : Dev :=
  { s with streams := s.streams.map fun q => if q.ring = t.ring then t else q }

/-- A set dropped (13 R479). -/
def Dev.telDrop (s : Dev) (t : Stream) : Dev :=
  let c := s.ring t.ring
  let s := s.setRing t.ring { c with heldOrDrops := min (c.heldOrDrops + 1) 0xFFFF }
  ((s.flag GLB_RING_EVENTS_TEL_DROP true).count 0x0D 0).setStream { t with dropped := true }

/-- A set written, and signalled as one (13 R476, R479); inputs read are cleared where the stream says so (12 R419). -/
def Dev.telWrite (s : Dev) (t : Stream) : Dev :=
  let l := telRecords t.kind t.select
  let at' := s.timebase
  let body := l.map fun x => (x, s.telPayload t.kind t.select x.1 x.2)
  let s := s.each body.zipIdx fun s x =>
    s.putEntry t.ring fun phase =>
      telHeader t x.1.1.1 x.1.1.2 (decide (x.2 + 1 = l.length)) at' phase ++ x.1.2
  let s := s.iff (t.kind == 3 && t.clear) fun s => s.each (maskList 32 t.select) (·.monClear ·)
  (s.coalesce t.ring).setStream { t with dropped := false }

/-- TELEMETRY_PERIOD (13 R478, R479, R482): a replacing stream takes over; the set is written if the whole of it fits. SET
counts sets, the dropped ones too. -/
def execTelemetryPeriod (ring : RingNo) (s : State) : Host.Outcome State Fault Refusal :=
  run s fun d =>
    match d.streams.find? fun t => t.ring == ring.val with
    | none => d
    | some t =>
      if 2 ≤ d.get PWR_STATE_STATE then d
      else
        let t := match t.repl with
          | some (k, c, p, m) => { t with kind := k, clear := c, period := p, select := m, repl := none }
          | none => t
        let c := d.ring ring
        let fits := (telRecords t.kind t.select).length + c.waiting < c.size
        let d := if d.coreRuns ∧ fits then d.telWrite t else d.telDrop t
        { d with streams := d.streams.map fun q => if q.ring = t.ring then { q with set := (t.set + 1) % 2 ^ 32 } else q }

/-- TELEMETRY_STREAM (13 R478). -/
def execTelemetryStream (c : Desc) (s : State) : Host.Outcome State Fault Refusal :=
  run s fun d => d.descriptor c fun d c =>
    let r := c.bytes 16 2
    let kind := c.byte 18
    let period := c.bytes 20 2
    let select := c.bytes 24 8
    let q := d.ring r
    let n := (telRecords kind select).length
    if 16384 ≤ r ∨ !q.live ∨ q.typ ≠ 2 ∨ q.owner ≠ d.ownerOf c then d.finish c stInvalid 0
    else if kind = 0 then { d with streams := d.streams.filter fun t => t.ring != r }.finish c stOk 0
    else if 6 < kind ∨ period = 0 ∨ 60000 < period ∨ select = 0 ∨ 2 ^ telInstances kind ≤ select ∨ q.size - 1 ≤ n then
      d.finish c stInvalid 0
    else
      let d : Dev :=
        if d.streams.any fun t => t.ring == r then
          { d with streams := d.streams.map fun t =>
              if t.ring = r then { t with repl := some (kind, c.flag 19 0, period, select) } else t }
        else
          { d with streams := d.streams ++
              [{ ring := r, kind := kind, clear := c.flag 19 0, period := period, select := select }] }
      d.finish c stOk n

end Sys2Proof.Machine
end

