-- ==== Sys2Proof/Machine/HostLane.lean ====
section
/-! DEFINITION. The host lanes: electrical idle, bursts, acquisition, alignment, rate change, tests, settings and the lane map
(10, 01 R30–R36). -/

namespace Sys2Proof.Machine

open Reg

/-! ## Shared operations -/

/-- Transmitter state BURST (10 Table 10.2). -/
def txsBurst : Nat := 2

/-- Whether the settings of a lane take effect at once: it is in no group, or in that of a stopped port (10 R348). -/
def Dev.laneFree (s : Dev) (l : Lane) : Bool :=
  match s.groupOf l with
  | none => true
  | some p => s.linkState p == 0

/-- The transmit direction's polarity and precoding put in use (10 R348). -/
def Dev.useTxMode (s : Dev) (l : Lane) : Dev :=
  s.modLane l fun h =>
    { h with inUse := (s.on (HLn_CTRL_POL_TX l), h.inUse.2.1, s.on (HLn_CTRL_PRECODE_TX l), h.inUse.2.2.2) }

/-- The receive direction's polarity and precoding put in use (10 R348). -/
def Dev.useRxMode (s : Dev) (l : Lane) : Dev :=
  s.modLane l fun h =>
    { h with inUse := (h.inUse.1, s.on (HLn_CTRL_POL_RX l), h.inUse.2.2.1, s.on (HLn_CTRL_PRECODE_RX l)), rxPrev := 0 }

/-- A transmitter leaves electrical idle and sends the training burst, not precoded, timed from REFCLK_HOST; after it the
precoder starts from 0 (10 R348, R350, R353). -/
def Dev.laneBurst (s : Dev) (l : Lane) : Dev :=
  (((s.set (HLn_STATUS_TXS l) txsBurst).useTxMode l).modLane l fun h =>
    { h with exitDue := false, onRef := true, returning := false, hist := [] }).laneDrive l (burstLevels (s.laneNrz l)) false

/-- A lane's receiver leaves LOCKED or ALIGNED: its group is no longer aligned (10 R358). -/
def Dev.laneUnlock (s : Dev) (l : Lane) : Dev :=
  let s := match s.groupOf l with
    | some p => s.iff (s.on (HLn_STATUS_ALIGNED l)) (·.groupLost p)
    | none => s.flag (HLn_STATUS_ALIGNED l) false
  s.laneClockLost l

/-- The transmit taps that a lane's registers hold (10 Tables 10.13, 10.14): PRE3, PRE2, PRE1, MAIN, POST1. -/
def Dev.laneTapSet (s : Dev) (l : Lane) : Vector Int 5 :=
  #v[s.geti (HLn_TX_FFE_PRE3 l), s.geti (HLn_TX_FFE_PRE2 l), s.geti (HLn_TX_FFE_PRE1 l), s.geti (HLn_TX_FFE_MAIN l),
     s.geti (HLn_TX_POST_POST1 l)]

/-- Whether a host tap set is valid (10 R363). -/
def laneTapsValid (t : Vector Int 5) : Bool := sumNat (t.toList.map Int.natAbs) ≤ 64 && 32 ≤ t.toList.getD 3 0

/-- The tap registers as they stand are checked as a whole and put in use, or TAP_BAD is set (10 R363, Table 10.14). -/
def Dev.txTapWritten (s : Dev) (l : Lane) : Dev :=
  let t := s.laneTapSet l
  if laneTapsValid t then (s.flag (HLn_TX_POST_TAP_BAD l) false).modLane l fun h => { h with taps := t }
  else s.flag (HLn_TX_POST_TAP_BAD l) true

/-- HLn_CTRL as it stands takes effect: the mode bits at once where R348 says so, a manual CTLE code (R360), the freeze on a
change from 0 to 1 (R362), and FAULT_TX (Table 10.2). -/
def Dev.laneCtrlWritten (s : Dev) (l : Lane) (oldFreeze : Bool) : Dev :=
  let s := s.iff (s.laneFree l) fun s => (s.useTxMode l).useRxMode l
  let s := s.iff (s.on (HLn_CTRL_CTLE_MAN l)) fun s =>
    (s.set (HLn_STATUS_CTLE_USED l) (s.get (HLn_CTRL_CTLE_CODE l))).modLane l fun h => { h with sweep := none }
  let freeze := s.on (HLn_CTRL_RX_FREEZE l)
  let s := s.iff (freeze && !oldFreeze) fun s => s.modLane l fun h =>
    { h with frozen := true, freezeSnr := s.get (HLn_STATUS_RX_SNR l), freezeLow := 0 }
  let s := s.iff (!freeze) fun s => s.modLane l fun h => { h with frozen := false }
  s.laneRefresh l

/-! ## Transmitters -/

/-- HOST_TX_EI_HOLD_END (10 R352, R353): an exit that is due begins with the burst. -/
def execHostTxEiHoldEnd (l : Lane) (s : State) : Host.Outcome State Fault Refusal :=
  run s fun d => if d.get (HLn_STATUS_TXS l) = 1 ∧ (d.lane.get l).exitDue then d.laneBurst l else d

/-- HOST_BURST_END (10 R353): the stream of the lane's state follows the burst. -/
def execHostBurstEnd (l : Lane) (s : State) : Host.Outcome State Fault Refusal :=
  run s fun d =>
    if d.get (HLn_STATUS_TXS l) = txsBurst then (d.set (HLn_STATUS_TXS l) (d.laneTarget l)).laneRefresh l else d

/-! ## Receivers -/

/-- HOST_RX_EI_ENTER (10 R351, R358). -/
def execHostRxEiEnter (l : Lane) (s : State) : Host.Outcome State Fault Refusal :=
  run s fun d =>
    if 2 ≤ d.get (HLn_STATUS_RXS l) then
      ((d.laneUnlock l).set (HLn_STATUS_RXS l) 1).modLane l fun h => { h with sweep := none }
    else d

/-- HOST_RX_EI_EXIT (10 R351, R354, R355): to ACQ; a cold acquisition sweeps the CTLE unless it is set by hand (R360). -/
def execHostRxEiExit (l : Lane) (s : State) : Host.Outcome State Fault Refusal :=
  run s fun d =>
    let h := d.lane.get l
    if d.get (HLn_STATUS_RXS l) = 1 ∧ ¬ h.rateChange then
      let d := (((d.set (HLn_STATUS_RXS l) 2).flag (HLn_EVENTS_EI_EXIT l) true).inc (HLn_COUNT_EI_EXITS l)).useRxMode l
      if d.on (HLn_CTRL_CTLE_MAN l) then d.set (HLn_STATUS_CTLE_USED l) (d.get (HLn_CTRL_CTLE_CODE l))
      else if h.warm = some (d.get (HLn_STATUS_RATE l)) then d
      else (d.set (HLn_STATUS_CTLE_USED l) 0).modLane l fun h => { h with sweep := some (0, 0, 0) }
    else d

/-- HOST_RX_LOCK (10 R354, Table 10.3): the clock locks, and the equaliser state is one to be retained. -/
def execHostRxLock (l : Lane) (s : State) : Host.Outcome State Fault Refusal :=
  run s fun d =>
    if d.get (HLn_STATUS_RXS l) = 2 then
      (d.set (HLn_STATUS_RXS l) 3).modLane l fun h => { h with warm := some (d.get (HLn_STATUS_RATE l)) }
    else d

/-- HOST_CTLE_TRIAL_END (10 R360): the next code is tried; after code 15 the best is kept, the lowest among equals. -/
def execHostCtleTrialEnd (l : Lane) (snr : Nat) (s : State) : Host.Outcome State Fault Refusal :=
  run s fun d =>
    match (d.lane.get l).sweep with
    | none => d
    | some (code, best, top) =>
      let r := min snr 255
      let b : Nat × Nat := if code = 0 ∨ top < r then (code, r) else (best, top)
      if 15 ≤ code then (d.set (HLn_STATUS_CTLE_USED l) b.1).modLane l fun h => { h with sweep := none }
      else (d.set (HLn_STATUS_CTLE_USED l) (code + 1)).modLane l fun h => { h with sweep := some (code + 1, b.1, b.2) }

/-- HOST_GROUP_ALIGNED (10 R357, R358): every lane of a locked group is aligned; a host loss ends (06 R229). -/
def execHostGroupAligned (p : Port) (pcs0 : Lane) (s : State) : Host.Outcome State Fault Refusal :=
  run s fun d =>
    let g := d.group p
    if g.contains pcs0 && g.all (fun (l : Lane) => 3 ≤ d.get (HLn_STATUS_RXS l)) then
      let d := d.each g fun d l =>
        ((d.flag (HLn_STATUS_ALIGNED l) true).set (HLn_STATUS_RXS l) 4).set (HLn_STATUS_PCS0_LANE l) pcs0
      let d := { d with host := { d.host with lostAt := d.host.lostAt.set p none } }
      ((d.flag (LPn_TX_STATUS_HOST_LOST p) false).modTx p fun t => { t with hostOut := false }).txRefresh p
    else d

/-- HOST_ALIGNMENT_LOSS (10 R358). -/
def execHostAlignmentLoss (p : Port) (s : State) : Host.Outcome State Fault Refusal := run s fun d => d.groupLost p

/-- The taps of a lane's receiver after a window in which they adapted; held by the freeze (10 R360, R362). -/
def Dev.laneAdapt (s : Dev) (l : Lane) : Dev :=
  if (s.lane.get l).frozen then s
  else (s.modLane l fun h => { h with rxTaps := (List.range (if s.laneNrz l then 12 else 13)).map (Config.hostTap s.draws) }).draw

/-- HOST_RX_SNR_WINDOW_END (10 R360–R362, R366, R367): the taps have adapted over the window, and the levels decided in it reach
the checker. -/
def execHostRxSnrWindowEnd (l : Lane) (snr : Nat) (rx : List Nat) (s : State) : Host.Outcome State Fault Refusal :=
  run s fun d =>
    if 2 ≤ d.get (HLn_STATUS_RXS l) then
      let d := (d.laneAdapt l).laneTake l rx
      let r := min snr 255
      let d := (d.set (HLn_STATUS_RX_SNR l) r).sample 0x54 l r
      let h := d.lane.get l
      if h.frozen then
        let n := if r + 30 < h.freezeSnr then h.freezeLow + 1 else 0
        let d := d.modLane l fun h => { h with freezeLow := n }
        if 4 ≤ n then
          (d.modLane l fun h => { h with frozen := false, freezeLow := 0 }).raise (HLn_EVENTS_RX_OVERRIDE l) 1
        else d
      else d
    else d

/-- LANE_CDR_LOST (10 R358, Tables 10.3, 10.17, 10.18, 01 R24): the receiver acquires again. -/
def execLaneCdrLost (l : Lane) (s : State) : Host.Outcome State Fault Refusal :=
  run s fun d =>
    if 3 ≤ d.get (HLn_STATUS_RXS l) then
      let d := (d.laneUnlock l).set (HLn_STATUS_RXS l) 2
      ((d.flag (HLn_EVENTS_CDR_LOST l) true).inc (HLn_COUNT_CDR_LOSSES l)).count 0x52 l
    else d

/-- HOST_PLL_RETUNE_DONE (10 Table 10.6 steps 3 and 4): the group's lanes send the burst at the new rate, unless their state
is electrical idle. -/
def execHostPllRetuneDone (p : Port) (s : State) : Host.Outcome State Fault Refusal :=
  run s fun d =>
    d.each ((d.group p).filter fun l => (d.lane.get l).rateChange) fun d l =>
      let d := d.modLane l fun h => { h with rateChange := false }
      if d.laneTarget l ≤ 1 then d.laneRefresh l else d.laneBurst l

/-! ## Checkers (10 R367) -/

/-- CHECKER_LOCK (10 R367). -/
def execCheckerLock (l : Lane) (s : State) : Host.Outcome State Fault Refusal :=
  run s fun d => if d.on (HLn_TEST_STATUS_CHK_ON l) then d.flag (HLn_TEST_STATUS_LOCK l) true else d

/-- CHECKER_LOCK_LOSS (10 R367): the bits compared and in error while it was locked are counted, and it seeds again. -/
def execCheckerLockLoss (l : Lane) (bits errors : Nat) (s : State) : Host.Outcome State Fault Refusal :=
  run s fun d =>
    if d.on (HLn_TEST_STATUS_CHK_ON l) && d.on (HLn_TEST_STATUS_LOCK l) then
      let top := 2 ^ 64 - 1
      let d := d.modLane l fun h =>
        { h with bits := min (h.bits + bits) top, errors := min (h.errors + errors) top, chk := (0, 0, 0), chkErrs := [] }
      ((d.count 0x53 l errors).inc (HLn_TEST_STATUS_LOCK_LOSSES l)).flag (HLn_TEST_STATUS_LOCK l) false
    else d

/-! ## Settings -/

/-- The lanes that a descriptor selects (10 R371). -/
def selLanes (c : Desc) : List Lane := (maskList 16 (c.bytes 16 2)).map (Fin.ofNat 16)

/-- HOST_LANE_CONFIG (10 R372, Table 10.10). -/
def execHostLaneConfig (c : Desc) (s : State) : Host.Outcome State Fault Refusal :=
  run s fun d => d.descriptor c fun d c =>
    let ls := selLanes c
    let tx := c.flag 18 0
    let tap := fun (i : Nat) => signedOf 8 (c.byte (19 + i))
    let taps : Vector Int 5 := #v[tap 0, tap 1, tap 2, tap 3, tap 4]
    if ls = [] ∨ (tx ∧ ¬ laneTapsValid taps) then d.finish c stInvalid 0
    else
      let d := d.each ls fun d l =>
        let frozen := d.on (HLn_CTRL_RX_FREEZE l)
        let d := d.iff tx fun d =>
          let d := ((d.set (HLn_TX_FFE_PRE3 l) (c.byte 19)).set (HLn_TX_FFE_PRE2 l) (c.byte 20)).set (HLn_TX_FFE_PRE1 l)
            (c.byte 21)
          let d := (d.set (HLn_TX_FFE_MAIN l) (c.byte 22)).set (HLn_TX_POST_POST1 l) (c.byte 23)
          ((d.set (HLn_CTRL_SWING l) (c.bits 24 4 0)).flag (HLn_CTRL_FAULT_TX l) (c.flag 25 4)).txTapWritten l
        let d := d.iff (c.flag 18 1) fun d =>
          ((d.set (HLn_CTRL_CTLE_CODE l) (c.bits 26 3 0)).flag (HLn_CTRL_CTLE_MAN l) (c.flag 26 7)).flag
            (HLn_CTRL_RX_FREEZE l) (c.flag 27 0)
        let d := d.iff (c.flag 18 2) fun d =>
          (((d.flag (HLn_CTRL_POL_TX l) (c.flag 25 0)).flag (HLn_CTRL_POL_RX l) (c.flag 25 1)).flag
            (HLn_CTRL_PRECODE_TX l) (c.flag 25 2)).flag (HLn_CTRL_PRECODE_RX l) (c.flag 25 3)
        d.laneCtrlWritten l frozen
      d.finish c stOk 0

/-! ## Tests (10 R364–R369) -/

/-- Whether a lane's port has its domain powered down (10 R369). -/
def Dev.lanePowerOff (s : Dev) (l : Lane) : Bool :=
  match s.groupOf l with
  | none => false
  | some p =>
    s.pwr.gated.get p || s.linkState p == lsDoze ||
    (s.linkState p == lsFault && s.get (LPn_LINK_STATUS_FAULT_CAUSE p) == 1)

/-- Whether the stored Mode of a lane's port is 0. -/
def Dev.laneNoMode (s : Dev) (l : Lane) : Bool :=
  match s.groupOf l with
  | none => false
  | some p => s.get (LPn_PORT_CFG_MODE p) == 0

/-- The rate a lane runs at, or takes as it next leaves OFF: that of its port's stored arrangement (10 R369, R647). -/
def Dev.laneRate (s : Dev) (l : Lane) : Nat :=
  match s.groupOf l with
  | some p =>
    if s.get (HLn_STATUS_TXS l) = 0 then
      (rateOf (s.get (LPn_PORT_CFG_MODE p)) (s.get (LPn_PORT_CFG_LANES p))).getD (s.get (HLn_STATUS_RATE l))
    else s.get (HLn_STATUS_RATE l)
  | none => s.get (HLn_STATUS_RATE l)

/-- A lane's test functions have been set: the lane is powered at its group's rate, and on a running port TEST_ACTIVE is set
and logged where a function is on (10 R369). -/
def Dev.testSet (s : Dev) (l : Lane) (active : Bool) : Dev :=
  let rate := s.laneRate l
  let s := s.iff (active && s.get (HLn_STATUS_RATE l) != rate) fun s =>
    (s.set (HLn_STATUS_RATE l) rate).modLane l fun h => { h with warm := none }
  let runs := match s.groupOf l with
    | some p => s.running p
    | none => false
  (s.laneRefresh l).iff (active && runs) fun s => s.raise (HLn_EVENTS_TEST_ACTIVE l) 1

/-- HOST_LANE_LOOPBACK (10 R364, R369, R372). -/
def execHostLaneLoopback (c : Desc) (s : State) : Host.Outcome State Fault Refusal :=
  run s fun d => d.descriptor c fun d c =>
    let ls := selLanes c
    let mode := c.bits 18 1 0
    if ls = [] ∨ ls.any (fun l => (d.groupOf l).isNone) ∨ ((mode = 1 ∨ mode = 2) ∧ ls.any d.laneNoMode) then
      d.finish c stInvalid 0
    else if (mode = 3 ∧ ls.any fun l => d.on (HLn_TEST_STATUS_GEN_ON l)) ∨ (mode ≠ 0 ∧ ls.any d.lanePowerOff) then
      d.finish c stRefused 0
    else
      let d := d.each ls fun d l =>
        ((d.set (HLn_TEST_STATUS_LOOP l) mode).flag (HLn_TEST_STATUS_TX_QUIET l) (mode == 1 && c.flag 18 2)).testSet l
          (mode != 0)
      d.finish c stOk 0

/-- HOST_LANE_PRBS SET (10 R365–R369, R372). A checker that is new or set otherwise seeds itself afresh. -/
def execHostLanePrbsSet (c : Desc) (s : State) : Host.Outcome State Fault Refusal :=
  run s fun d => d.descriptor c fun d c =>
    let ls := selLanes c
    let gen := c.flag 19 0
    let chk := c.flag 19 1
    let pattern := c.bits 20 2 0
    let bad := fun (l : Lane) => (d.groupOf l).isNone || d.laneNoMode l || ((pattern == 3 || pattern == 4) && 3 ≤ d.laneRate l)
    if ls = [] ∨ 4 < pattern ∨ ls.any bad then d.finish c stInvalid 0
    else if (gen ∧ ls.any fun l => d.get (HLn_TEST_STATUS_LOOP l) == 3) ∨ ((gen ∨ chk) ∧ ls.any d.lanePowerOff) then
      d.finish c stRefused 0
    else
      let d := d.each ls fun d l =>
        let same := chk && d.on (HLn_TEST_STATUS_CHK_ON l) && d.get (HLn_TEST_STATUS_PATTERN l) == pattern &&
          (d.lane.get l).invChk == c.flag 19 3
        let d := (d.flag (HLn_TEST_STATUS_GEN_ON l) gen).flag (HLn_TEST_STATUS_CHK_ON l) chk
        let d := d.iff (!same) fun d => d.flag (HLn_TEST_STATUS_LOCK l) false
        let d := (d.set (HLn_TEST_STATUS_PATTERN l) pattern).modLane l fun h =>
          { h with invGen := c.flag 19 2, invChk := c.flag 19 3, inject := if gen then c.byte 21 else 0
                   gen := 2 ^ (patternTaps pattern).1 - 1, genCount := 0
                   chk := if same then h.chk else (0, 0, 0), chkErrs := if same then h.chkErrs else [] }
        d.testSet l (gen || chk)
      d.finish c stOk 0

/-- A lane's checker record (10 R372). -/
def Dev.prbsRecord (s : Dev) (l : Lane) : List Byte :=
  let h := s.lane.get l
  pay l ++ pay (s.get (HLn_TEST_STATUS_GEN_ON l) + 2 * s.get (HLn_TEST_STATUS_CHK_ON l) +
    4 * s.get (HLn_TEST_STATUS_LOCK l) + 8 * s.get (HLn_TEST_STATUS_PATTERN l)) ++
  bytesOf 2 (s.get (HLn_TEST_STATUS_LOCK_LOSSES l)) ++ bytesOf 4 0 ++ bytesOf 8 h.bits ++ bytesOf 8 h.errors

/-- A lane's checker counts cleared (10 R372). -/
def Dev.prbsClear (s : Dev) (l : Lane) : Dev :=
  (s.set (HLn_TEST_STATUS_LOCK_LOSSES l) 0).modLane l fun h => { h with bits := 0, errors := 0 }

/-- HOST_LANE_PRBS READ and READ_CLEAR: the records of the selected lanes, then their counts cleared where asked and where the
records could be written (10 R372). -/
def Dev.prbsRead (s : Dev) (c : Desc) (clear : Bool) : Dev :=
  let ls := selLanes c
  let n := 24 * ls.length
  if ls = [] ∨ (c.length ≠ 0 ∧ c.length ≠ n) ∨ s.spanBad c c.length then s.finish c stInvalid 0
  else if c.length = 0 then s.finish c stOk 0
  else
    let w := s.putData c 0 (ls.flatMap s.prbsRecord)
    match w.2 with
    | .failed => w.1.finish c stMemUe 0
    | t => (w.1.iff clear fun s => s.each ls (·.prbsClear ·)).finish c (statusOf t) n

/-- HOST_LANE_PRBS READ (10 R372). -/
def execHostLanePrbsRead (c : Desc) (s : State) : Host.Outcome State Fault Refusal :=
  run s fun d => d.descriptor c fun d c => d.prbsRead c false

/-- HOST_LANE_PRBS READ_CLEAR (10 R372). -/
def execHostLanePrbsReadClear (c : Desc) (s : State) : Host.Outcome State Fault Refusal :=
  run s fun d => d.descriptor c fun d c => d.prbsRead c true

/-- HOST_LANE_PRBS CLEAR (10 R372). -/
def execHostLanePrbsClear (c : Desc) (s : State) : Host.Outcome State Fault Refusal :=
  run s fun d => d.descriptor c fun d c =>
    let ls := selLanes c
    if ls = [] then d.finish c stInvalid 0 else (d.each ls (·.prbsClear ·)).finish c stOk 0

/-- HOST_LANE_BITSLIP (10 R370, R372). -/
def execHostLaneBitslip (c : Desc) (s : State) : Host.Outcome State Fault Refusal :=
  run s fun d => d.descriptor c fun d c =>
    let l : Lane := Fin.ofNat 16 (c.bits 16 3 0)
    let runs := match d.groupOf l with
      | some p => d.running p
      | none => false
    if runs then d.finish c stRefused 0
    else
      let f := if c.flag 17 0 then HLn_MAP_SLIP_TX l else HLn_MAP_SLIP_RX l
      let n := (d.get f + 1) % 256
      (d.set f n).finish c stOk n

/-! ## Lane map (01 R33, R34, 10 R373) -/

/-- A lane's assignment: port and position. -/
def Dev.laneSlot (s : Dev) (l : Lane) : Option (Nat × Nat) :=
  if s.on (HLn_MAP_VALID l) then some (s.get (HLn_MAP_PORT l), s.get (HLn_MAP_POS l)) else none

/-- The assignment of a lane in the map that a LANE_MAP results in (10 R373). -/
def Dev.mapSlot (s : Dev) (c : Desc) (l : Lane) : Option (Nat × Nat) :=
  let b := 16 + l.val
  if c.flag b 6 then s.laneSlot l
  else if c.flag b 7 then some (c.bits b 2 0, c.bits b 4 3) else none

/-- Whether a port's group in a map is one that R33 and R373 accept: positions 0 to k − 1, once each, k lanes as the stored
arrangement has, or 1, 2 or 4 where the stored Mode is 0; none for any port. -/
def Dev.groupGood (s : Dev) (slot : Lane → Option (Nat × Nat)) (p : Port) : Bool :=
  let pos := allLanes.filterMap fun l => (slot l).bind fun g => if g.1 = p.val then some g.2 else none
  let k := pos.length
  k == 0 || ((List.range k).all (pos.contains ·) && k != 3 &&
    (s.get (LPn_PORT_CFG_MODE p) == 0 || k == s.get (LPn_PORT_CFG_LANES p)))

/-- LANE_MAP (10 R373, R646, 01 R33, R34). -/
def execLaneMap (c : Desc) (s : State) : Host.Outcome State Fault Refusal :=
  run s fun d => d.descriptor c fun d c =>
    let slot := d.mapSlot c
    let changed := allLanes.filter fun l => slot l != d.laneSlot l
    let touched := fun (p : Port) => changed.any fun l =>
      (slot l).map (·.1) == some p.val || (d.laneSlot l).map (·.1) == some p.val
    if ¬ allPorts.all (d.groupGood slot) then d.finish c stInvalid 0
    else if allPorts.any fun p => touched p && d.linkState p != 0 then d.finish c stRefused 0
    else
      let d := { d with host := { d.host with defaultMap := false } }
      (d.each changed fun d l => d.putLane l (slot l)).finish c stOk 0

end Sys2Proof.Machine
end

