-- ==== Sys2Proof/Machine/Ports.lean ====
section
/-! DEFINITION. The port descriptors, and the events that move a start, a stop or a retrain on (09 R323–R331, 06 R233). -/

namespace Sys2Proof.Machine

open Reg

/-- Whether a port's lane group matches its configured arrangement (01 R35). -/
def Dev.groupMatches (s : Dev) (p : Port) : Bool :=
  s.on (LPn_PORT_CFG_MODE p) && (rateOf (s.get (LPn_PORT_CFG_MODE p)) (s.get (LPn_PORT_CFG_LANES p))).isSome &&
  (s.group p).length == s.get (LPn_PORT_CFG_LANES p)

/-- PORT_CONFIG (09 R323, R324, 01 R26, R27): a stopped port's group under the default map follows (10 R646). -/
def execPortConfig (c : Desc) (s : State) : Host.Outcome State Fault Refusal :=
  run s fun d => d.descriptor c fun d c =>
    let p := Desc.port c
    let m := c.bits 17 3 0
    let n := c.bits 18 2 0
    if (rateOf m n).isNone ∨ (isNrz m = true ∧ (c.flag 19 1 ∨ c.flag 19 2)) then d.finish c stInvalid 0
    else
      let d := ((d.set (LPn_PORT_CFG_MODE p) m).set (LPn_PORT_CFG_LANES p) n).flag (LPn_PORT_CFG_INNER p) (c.flag 19 0)
      let d := (d.flag (LPn_PORT_CFG_TERM_RX p) (c.flag 19 1)).flag (LPn_PORT_CFG_TERM_TX p) (c.flag 19 2)
      (d.mapDefault p).finish c stOk 0

/-- PORT_START (09 R325, 01 R35, 06 R235, 05 R211). -/
def execPortStart (c : Desc) (s : State) : Host.Outcome State Fault Refusal :=
  run s fun d => d.descriptor c fun d c =>
    let p := Desc.port c
    if !d.groupMatches p then d.finish c stInvalid 0
    else if d.dozeBusy p ∨ d.quenching then d.finish c stRefused 0
    else if d.running p then d.finish c stOk 0
    else if (d.prt p).fd.diag then d.park (.startProbe p) { c with data := .first }
    else d.startAndWait p { c with data := .first }

/-- PORT_WAIT_TIMEOUT (09 R325, R327): the oldest wait for UP that has a timeout; the port runs on. -/
def execPortWaitTimeout (p : Port) (s : State) : Host.Outcome State Fault Refusal :=
  run s fun d =>
    match d.waits.find? fun w => w.1 == .portUp p && w.2.body.toNat / 256 ^ 20 % 65536 != 0 with
    | some w => { d with waits := d.waits.erase w }.finish w.2 stTimeout 0
    | none => d

/-- Whether a port is at rest in STOPPED, with no entry to DOZE and no way back under way. -/
def Dev.atRest (s : Dev) (p : Port) : Bool := s.linkState p == lsStopped && !s.dozeBusy p

/-- PORT_STOP (09 R326, R329). -/
def execPortStop (c : Desc) (s : State) : Host.Outcome State Fault Refusal :=
  run s fun d => d.descriptor c fun d c =>
    let p := Desc.port c
    if d.atRest p then (d.abortWaits p false).finish c stOk 0
    else
      let r := d.halt p .stop (c.flag 17 0)
      if r.2 then r.1.finish c stOk 0 else r.1.park (.portStop p) { c with data := .first }

/-- PORT_STOP_NOTICE_DONE (09 R326 step 1, R327): the notice has gone out, or 1 ms has passed. -/
def execPortStopNoticeDone (p : Port) (s : State) : Host.Outcome State Fault Refusal :=
  run s fun d =>
    match (d.prt p).link.stopping with
    | none => d
    | some k =>
      if (d.prt p).tx.stopping ∨ d.inDoze p then d
      else if k = .retrain then d.retrainGo p
      else (d.stopSquelch p k).1.softAdvance

/-- TX_SQUELCH_END (06 R233, 09 R326 steps 3 and 4). -/
def execTxSquelchEnd (p : Port) (s : State) : Host.Outcome State Fault Refusal :=
  run s fun d =>
    if (d.prt p).tx.stopping then (d.stopped p ((d.prt p).link.stopping.getD .stop)).softAdvance else d

/-- PORT_RETRAIN (09 R327, R329). While a stop is under way it ends ABORTED, as that stop would end it (log entry 46). -/
def execPortRetrain (c : Desc) (s : State) : Host.Outcome State Fault Refusal :=
  run s fun d => d.descriptor c fun d c =>
    let p := Desc.port c
    let ls := d.linkState p
    if ls < 2 ∨ 5 < ls ∨ d.dozeBusy p then d.finish c stRefused 0
    else
      let stop := (d.prt p).link.stopping
      if stop.isSome ∧ stop ≠ some .retrain then (d.abortWaits p true).finish c stAborted 0
      else
        let d := d.wakeAll (fun w => w == .portRetrain p) stAborted
        (d.park (.portRetrain p) { c with data := .first }).retrainBegin p true

/-- A port reset (09 R328, 00 R16): PORT_STOP with NO_NOTICE, then class P; during a core reset it waits for that to end
(19 R600). Gives whether it is over. -/
def Dev.portResetBegin (s : Dev) (p : Port) (k : StopKind) : Dev × Bool :=
  if s.sys.restart.isSome then
    (s.modSys fun y => { y with portWait := if y.portWait.contains p then y.portWait else y.portWait ++ [p] }, false)
  else if s.atRest p then
    let s := ((s.abortWaits p false).portReset p).modLink p fun l => { l with mdioReset := false }
    (s, true)
  else s.halt p k true

/-- PORT_RESET (09 R328, R329). -/
def execPortReset (c : Desc) (s : State) : Host.Outcome State Fault Refusal :=
  run s fun d => d.descriptor c fun d c =>
    let r := d.portResetBegin (Desc.port c) .reset
    if r.2 then r.1.finish c stOk 0 else r.1.park (.portReset (Desc.port c)) { c with data := .first }

/-- A port's status record (09 Table 9.4). Lanes are in force in a port that runs or is held by the flap limit. -/
def Dev.statusRecord (s : Dev) (p : Port) : List Byte :=
  let l := (s.prt p).link
  let ls := s.linkState p
  let held := s.running p || (ls == lsFault && s.get (LPn_LINK_STATUS_FAULT_CAUSE p) == 2)
  pay (ls + 8 * s.get (LPn_LINK_STATUS_LOCAL_FAULT p) + 16 * s.get (LPn_LINK_STATUS_REMOTE_FAULT p) +
    32 * s.get (LPn_TX_STATUS_HOST_LOST p) + 64 * s.get (LPn_LINK_STATUS_LULL_KIND p)) ++
  pay (s.acqState p + 16 * s.get (LPn_LINK_STATUS_LAST_DOWN p)) ++
  pay (s.get (LPn_ACQ_STATUS_RESOLVED p) + 16 * s.get (LPn_PORT_CFG_MODE p)) ++
  pay ((if held then l.lanes else 0) + 8 * s.get (LPn_FEC_STATUS_INNER_ON p) + 16 * s.get (LPn_FEC_STATUS_TERM_RX p) +
    32 * s.get (LPn_FEC_STATUS_TERM_TX p)) ++
  pay (s.get (LPn_EQ_STATUS_SNR_ALL_A p)) ++ pay (s.get (LPn_EQ_STATUS_SNR_ALL_B p)) ++
  bytesOf 2 (s.get (LPn_BER_BER_EST p)) ++ bytesOf 2 (s.get (LPn_FEC_STATUS_POST_BER p)) ++
  bytesOf 2 (s.get (LPn_LINK_COUNT_LINK_DOWNS p)) ++ bytesOf 2 (s.get (LPn_LULL_COUNT_LULL_ENTRIES p)) ++ bytesOf 2 0 ++
  bytesOf 8 l.upSince ++ bytesOf 8 (l.lullNs + if ls = lsLull then s.timebase - l.lullAt else 0)

/-- PORT_STATUS (09 R331). -/
def execPortStatus (c : Desc) (s : State) : Host.Outcome State Fault Refusal :=
  run s fun d => d.descriptor c fun d c =>
    if (c.length ≠ 0 ∧ c.length ≠ 32) ∨ d.spanBad c c.length then d.finish c stInvalid 0
    else d.answer c (d.statusRecord (Desc.port c)) (word32 (d.statusRecord (Desc.port c)) 0)

end Sys2Proof.Machine
end

