-- ==== Sys2Proof/Machine/RxFront.lean ====
section
/-! DEFINITION. Received signal strength and the gain loop (03 R84–R93). -/

namespace Sys2Proof.Machine

open Reg

/-- The rise comparator of a pair has fired (03 R86, R87): the block and the calibration window are disturbed; a port that
confirms a candidate, its gain loop frozen or manual, is preempted (08 R281, Table 3.2); in UP and LULL it is a channel change
(09 R320). -/
def Dev.riseFired (s : Dev) (p : Port) (x : Pair) : Dev :=
  let s := ((s.flag (LPn_RX_EVENTS_RISE p) true).disturb p x).fireCapture p 2
  if s.acqState p = 3 ∧ ¬ (s.prt p).acq.retuning then s.preempt p
  else if s.linkState p = 4 ∨ s.linkState p = 5 then
    (s.inc (LPn_LINK_COUNT_CHANNEL_CHANGES p)).raise (LPn_LINK_EVENTS_CHANNEL_CHANGE p) 1
  else s

/-- RSSI_REF follows RSSI with a time constant of 10 ms, one step for the 64 symbols of an update (03 R87; the step is the
difference equation of that filter, DESIGN CHOICE, log entry 16). -/
def Dev.refFollow (s : Dev) (p : Port) (x : Pair) (code : Nat) : Dev :=
  let fine := (s.adcOf p x).refFine
  let rate := symbolRate (s.mode p) (s.prt p).link.inner
  let fine := fine + roundDiv (((code : Int) * 2 ^ 32 - fine) * 96) (5 * rate)
  (s.modAdc p x fun a => { a with refFine := fine }).set (LPn_RSSI_REF p x) (roundDiv fine (2 ^ 32)).toNat

/-- RSSI_UPDATE (03 R84–R87): RSSI, SIG_DET, RSSI_REF and the rise comparator of a powered pair. SIG_DET clearing is a loss
of the phase loop's lock (04 R153), but in Lull, where nothing is sent between refresh bursts and the loop resumes in TRACK on
wake (04 R154). The comparator fires when a run of high updates reaches five. -/
def execRssiUpdate (p : Port) (x : Pair) (code : Nat) (s : State) : Host.Outcome State Fault Refusal :=
  run s fun d =>
    if d.powered p x then
      let code := min code 127
      let d := d.set (LPn_RSSI_RSSI p x) code
      let thr := d.get (LPn_SIGDET_SD_THRESH p)
      let det := d.on (LPn_RXFE_STATUS_SIG_DET p x)
      let now := if thr ≤ code then true else if code + d.get (LPn_SIGDET_SD_HYST p) < thr then false else det
      let d := d.flag (LPn_RXFE_STATUS_SIG_DET p x) now
      let st := d.get (LPn_RXFE_STATUS_AGC p x)
      let d := d.iff (st == agcTrack) (·.refFollow p x code)
      let watching := st == agcFrozen || st == agcTrack || st == agcHold
      let high := watching && decide (d.get (LPn_RSSI_REF p x) + 12 < code)
      let k := (d.adcOf p x).rise
      let d := d.modAdc p x fun a => { a with rise := if high then min (k + 1) 5 else 0 }
      let d := d.iff (high && k == 4) (·.riseFired p x)
      let d := d.iff (!now) (·.disturb p x)
      d.iff (det && !now) fun d => (d.fireCapture p 3).iff (d.linkState p != 5) (·.cdrLost p x)
    else d

/-- The gain loop's error in codes of 0.25 dB, rounded, within ±8 (03 R88, R89). -/
def gainError (sumSq n target : Nat) : Int :=
  let den := n * target ^ 2
  (List.range 16).foldl (fun (c : Int) i => if ratioAtLeast sumSq den (2 * ((i : Int) - 8) + 1) 80 then (i : Int) - 7 else c) (-8)

/-- The gain after the loop's own step (03 R93): no step leads out of GAIN_MIN to GAIN_MAX, nor back into it at once from
where the clip guard has taken it. -/
def Dev.gainStep (s : Dev) (p : Port) (x : Pair) (step : Int) : Int :=
  let g : Int := s.get (LPn_RXFE_STATUS_GAIN p x)
  if 0 < step then min (g + step) (max (s.gainMax p : Int) g)
  else if step < 0 then max (g + step) (min (s.gainMin p : Int) g)
  else g

/-- The clip guard (03 R90, R92, R93): the gain falls by four codes, also below GAIN_MIN; in MANUAL the loop takes over. -/
def Dev.clipGuard (s : Dev) (p : Port) (x : Pair) : Dev :=
  let s := s.flag (LPn_RX_EVENTS_CLIP p) true
  let manual := s.get (LPn_RXFE_STATUS_AGC p x) == agcManual
  let s := s.iff manual fun s =>
    ((s.modAdc p x fun a => { a with manualOff := true }).agcEnter p x (if s.lockValid p x then agcTrack else agcFast)).raise
      (LPn_RX_EVENTS_OVERRIDE p) 1
  let g : Int := (s.get (LPn_RXFE_STATUS_GAIN p x) : Int) - 4
  let s := s.setGain p x g
  (s.iff (decide (g < s.gainMin p)) fun s => s.flag (LPn_RX_EVENTS_OVERRIDE p) true).overrideRefresh p

/-- GAIN_LOOP_UPDATE (03 R88–R93): over an update interval of n samples with the sum of squares sumSq, of which clipped sit
at a full-scale code. FAST steps by the error, TRACK by one code; the clip guard acts in addition. -/
def execGainLoopUpdate (p : Port) (x : Pair) (sumSq n clipped : Nat) (s : State) : Host.Outcome State Fault Refusal :=
  run s fun d =>
    let st := d.get (LPn_RXFE_STATUS_AGC p x)
    if d.powered p x && (st == agcFast || st == agcTrack || st == agcManual) && n != 0 then
      let target := max (d.get (LPn_RXFE_CTRL_AGC_TARGET p)) 16
      let step : Int :=
        if st = agcFast then -gainError sumSq n target
        else if st = agcTrack then
          (if ratioAtLeast sumSq (n * target ^ 2) 1 20 then -1
           else if ratioAtLeast sumSq (n * target ^ 2) (-1) 20 then 0 else 1)
        else 0
      let d := d.iff (step != 0) fun d => d.setGain p x (d.gainStep p x step)
      let d := d.iff (decide (n < 1024 * clipped)) (·.clipGuard p x)
      let d := d.overrideRefresh p
      d.iff (st == agcFast && x == .b && d.acqState p == 2) (·.preemptStep p)
    else d

/-- A write of LPn_RXFE_CTRL acts (03 R83, R92, R93): GAIN_MODE going to 1 enters MANUAL, going to 0 returns to the loop; in
MANUAL the gain is GAIN_SW; the loop's gain comes within the limits. -/
def Dev.rxfeWritten (s : Dev) (p : Port) (old : Bool) : Dev :=
  let now := s.on (LPn_RXFE_CTRL_GAIN_MODE p)
  let s := s.each bothPairs fun s x =>
    let st := s.get (LPn_RXFE_STATUS_AGC p x)
    let loop := if s.lockValid p x then agcTrack else agcFast
    let s := s.iff (now && !old) fun s => s.modAdc p x fun a => { a with manualOff := false }
    if st = agcOff then s
    else if now && !old then s.agcTo p x agcManual
    else if !now && old then
      let s := s.modAdc p x fun a => { a with manualOff := false }
      if st = agcManual then s.agcTo p x loop else s
    else if st = agcManual then s.setGain p x (min (s.get (LPn_RXFE_CTRL_GAIN_SW p)) 96)
    else s
  let s := s.each bothPairs fun s x =>
    let st := s.get (LPn_RXFE_STATUS_AGC p x)
    if st = agcFast ∨ st = agcTrack then
      s.setGain p x (clampInt (s.gainMin p) (s.gainMax p) (s.get (LPn_RXFE_STATUS_GAIN p x)))
    else s
  s.overrideRefresh p

end Sys2Proof.Machine
end

