-- ==== Sys2Proof/Machine/Registers.lean ====
section
/-! DEFINITION. Reads and writes of the set-up registers: access codes, what a write sets going, live values, the pairs
whose low half latches the high half, and the record window (00 R10–R13, 13 R447, 18 R586, 21 R639–R641). -/

namespace Sys2Proof.Machine

open Reg

/-! ## Places -/

/-- The hearth registers (16 Table 16.1, R535). -/
def isHearth (off : Nat) : Bool := 0x1000 ≤ off && off < 0x1020
/-- The port of an offset in a port's block, and the offset in it (21 Table 21.5). -/
def portAt (off : Nat) : Port × Nat := (Fin.ofNat 8 ((off - 0x4000) / 0x800), (off - 0x4000) % 0x800)
/-- The lane of an offset in a lane's block, and the offset in it (21 Table 21.6). -/
def laneAt (off : Nat) : Lane × Nat := (Fin.ofNat 16 ((off - 0x8000) / 0x100), (off - 0x8000) % 0x100)
/-- The channel of an offset in a check channel's block, and the offset in it (15 Tables 15.22–15.24). -/
def chanAt (off : Nat) : Chan × Nat := (Fin.ofNat 4 ((off - 0x3100) / 0x40), (off - 0x3100) % 0x40)
/-- Whether an offset lies in a block of ports, of lanes, of check channels. -/
def inPorts (off : Nat) : Bool := 0x4000 ≤ off && off < 0x8000
def inLanes (off : Nat) : Bool := 0x8000 ≤ off && off < 0x9000
def inChans (off : Nat) : Bool := 0x3100 ≤ off && off < 0x3200
/-- A selection's pair. -/
def pairOf (n : Nat) : Pair := if n = 0 then .a else .b

/-! ## Writes (00 R11, R13) -/

/-- A field written as its access code says (00 Table 0.5). -/
def Dev.writeField (s : Dev) (v : Nat) (f : Fld) : Dev :=
  let w := v / 2 ^ f.lsb % 2 ^ f.width
  match f.acc with
  | .rw => s.set f w
  | .w1c => s.set f (s.get f &&& (2 ^ f.width - 1 - w))
  | .w1s => s.set f (s.get f ||| w)
  | .ro | .wo => s

/-- A half of a check channel's VALUE written (15 R528). -/
def Dev.chkWrite (s : Dev) (k : Chan) (hi : Bool) (v : Nat) : Dev :=
  if !hi then s.modChk fun c => { c with loHeld := c.loHeld.set k (BitVec.ofNat 32 v) }
  else if s.ckBusy k then s.flag CHK_EVENTS_WR_BUSY true
  else
    let n := BitVec.ofNat 64 (2 ^ 32 * v + (s.chk.loHeld.get k).toNat)
    s.modChk fun c => { c with ch := vmod c.ch k fun i => { i with value := n, started := true } }

/-- A register of echo windows written: each window whose EN or START has changed has its taps at 0, and the pair's windows
are checked (05 R179). -/
def Dev.windowWritten (s old : Dev) (p : Port) (x : Pair) (first : Nat) : Dev :=
  let moved := fun (w : Nat) => s.get (LPn_ECHO_WIN_EN p x w) != old.get (LPn_ECHO_WIN_EN p x w) ||
    s.get (LPn_ECHO_WIN_START p x w) != old.get (LPn_ECHO_WIN_START p x w)
  let s := s.each ([first, first + 1].filter moved) fun s w => s.modEcho p x fun e =>
    { e with taps := { e.taps with win := Vector.ofFn fun i => if i.val / 32 = w then 0 else e.taps.win.get i } }
  (s.windowCheck p x).sparseRefresh p

/-- What a write of a port's register sets going. -/
def Dev.portWritten (s old : Dev) (p : Port) (r v : Nat) : Dev :=
  match r with
  | 0x000 => s.lullWritten p
  | 0x100 => s.rxfeWritten p (old.on (LPn_RXFE_CTRL_GAIN_MODE p))
  | 0x110 => s.calCtrlWritten p (old.on (LPn_ADC_CAL_CTRL_HOLD p))
  | 0x200 => s.eqCtrlWritten p (old.on (LPn_EQ_CTRL_SW_FREEZE p))
  | 0x314 => s.windowWritten old p .a 0
  | 0x318 => s.windowWritten old p .a 2
  | 0x31C => s.windowWritten old p .b 0
  | 0x320 => s.windowWritten old p .b 2
  | 0x400 => s.txRefresh p
  | 0x500 => s.iterRefresh p
  | 0x50C => s.iff (bitOf v 31) fun s => s.modPort p fun q => { q with fec := { q.fec with ctr := Vector.replicate 64 0 } }
  | 0x600 => s.eligRefresh p
  | _ => s

/-- What a write of a register sets going, beside its fields: v is what was written, old the device before. -/
def Dev.regWritten (s old : Dev) (off v : Nat) : Dev :=
  if inPorts off then s.portWritten old (portAt off).1 (portAt off).2 v
  else if inLanes off then
    let l := (laneAt off).1
    match (laneAt off).2 with
    | 0x000 => s.laneCtrlWritten l (old.on (HLn_CTRL_RX_FREEZE l))
    | 0x004 | 0x008 => s.txTapWritten l
    | _ => s
  else if 0xA100 ≤ off ∧ off < 0xA280 then
    let c : AuxCh := Fin.ofNat 24 ((off - 0xA100) / 0x10)
    match (off - 0xA100) % 0x10 with
    | 0x0 => s.auxClearWritten c
    | 0xC => s.auxDepthWritten c
    | _ => s
  else
    match off with
    | 0x0008 | 0xD000 => s.iff (s.cfgPayload 0 != old.cfgPayload 0) (·.cfgChanged 0)
    | 0x0010 => s.adminWritten (old.on GLB_ADMIN_CTRL_ENABLE)
    | 0x1000 => s.iff (bitOf v PWR_STATE_WAKE_REQ.lsb && s.on PWR_WAKE_EN_SER_EN) (·.wakeSource 3 0)
    | 0x1100 => s.govWritten
    | 0x1200 =>
      (s.iff (s.cfgPayload 0 != old.cfgPayload 0) (·.cfgChanged 0)).thmCtrlWritten (old.get THM_CTRL_REF_SRC)
    | 0xB000 => s.monMode
    | 0xD01C => s.iff (v == 0xFFFFFFFF) fun s => s.set EVR_CURSOR_CURSOR s.oldestSeq
    | _ => s

/-- A set-up register written (00 R10–R13, 13 R447, 21 R639, R640): an offset that no register has ignores it. -/
def Dev.writeReg (s : Dev) (off v : Nat) : Dev :=
  if inChans off ∧ ((chanAt off).2 = 0x1C ∨ (chanAt off).2 = 0x20) then s.chkWrite (chanAt off).1 ((chanAt off).2 == 0x20) v
  else if fieldsAt off = [] then s
  else (s.each (fieldsAt off) fun s f => s.writeField v f).regWritten s off v

/-! ## Live values -/

/-- A check channel's 64-bit items by the offset of their low half (15 Tables 15.23, 15.24). -/
def Dev.chkPair (s : Dev) (k : Chan) (r : Nat) : Option Nat :=
  let i := s.chk.ch.get k
  match r with
  | 0x04 => some i.poly.toNat
  | 0x0C => some i.init.toNat
  | 0x14 => some i.xorout.toNat
  | 0x1C => some i.value.toNat
  | 0x24 => some i.count
  | _ => none

/-- The 64-bit value whose low half lies at an offset and latches the high half after it (07 R267, 10 R367, 14, 15,
21 R641). -/
def Dev.wideValue (s : Dev) (off : Nat) : Option Nat :=
  if inPorts off then
    let p := (portAt off).1
    if (portAt off).2 = 0x510 then some ((s.prt p).fec.ctr.get (Fin.ofNat 64 (s.get (LPn_FEC_SEL_INDEX p)))) else none
  else if inLanes off then
    let h := s.lane.get (laneAt off).1
    match (laneAt off).2 with
    | 0x020 => some h.errors
    | 0x028 => some h.bits
    | _ => none
  else if inChans off then s.chkPair (chanAt off).1 (chanAt off).2
  else if 0xC100 ≤ off ∧ off < 0xC900 ∧ (off - 0xC100) % 0x20 = 0x0C then some (s.ctrValue ((off - 0xC100) / 0x20))
  else none

/-- LPn_ADC_TRIM_DATA (03 Table 3.20), and the position that LPn_ADC_TRIM_SEL shows (Table 3.19). -/
def Dev.trimWindow (s : Dev) (p : Port) : Nat × Nat :=
  let n := s.get (LPn_ADC_TRIM_SEL_SLICE p)
  if 65 < n then (0, 0)
  else
    let l := s.trimRecord p (pairOf (s.get (LPn_ADC_TRIM_SEL_PAIR p))) n
    let role := (l.getD 1 0).toNat % 4
    (role * 2 ^ 30 + (l.getD 2 0).toNat * 2 ^ 22 + (l.getD 3 0).toNat * 2 ^ 14 + ofBytes ((l.drop 4).take 2) * 2 ^ 4,
     (l.getD 1 0).toNat / 4)

/-- LPn_EQ_TAP_DATA (04 Table 4.16): a tap of 12 bits, 0 where the index is out of range. -/
def Dev.eqTapWindow (s : Dev) (p : Port) : Nat :=
  let e := s.eqOf p (pairOf (s.get (LPn_EQ_TAP_SEL_PAIR p)))
  let i := s.get (LPn_EQ_TAP_SEL_INDEX p)
  let of := fun (t : Taps) (target : Bool) =>
    if target then (if i = 0 then 0 else t.tgt.toList.getD (i - 1) 0) else t.ffe.toList.getD i 0
  let snap := e.snap.getD {}
  let a : Int := match s.get (LPn_EQ_TAP_SEL_SET p) with
    | 0 => of e.taps false
    | 1 => of e.taps true
    | 2 => of snap false
    | _ => of snap true
  codeOf 12 (tapVal 12 a)

/-- LPn_ECHO_TAP_DATA (05 Table 5.21): a tap of 16 bits, 0 where the index is out of range. -/
def Dev.echoTapWindow (s : Dev) (p : Port) : Nat :=
  let e := s.echoOf p (pairOf (s.get (LPn_ECHO_TAP_SEL_PAIR p)))
  let i := s.get (LPn_ECHO_TAP_SEL_INDEX p)
  let a : Int := match s.get (LPn_ECHO_TAP_SEL_SET p) with
    | 0 => e.taps.dense.toList.getD i 0
    | 1 => e.taps.win.toList.getD i 0
    | 2 => e.taps.xtalk.toList.getD i 0
    | _ => (match e.snap with | some x => x.1 | none => {} : EchoTaps).dense.toList.getD i 0
  codeOf 16 (tapVal 8 a)

/-- CHK_STATUS's live part (15 R518, R526, R530). -/
def Dev.chkStatus (s : Dev) : Nat :=
  2 ^ 28 * ofBools ((List.finRange 4).map s.ckBusy) + 2 ^ 12 * ofBools (s.chk.slots.toList.map (·.isSome)) +
  2 ^ 11 * bnat s.chk.sigBusy

/-- CHK_CKn_CFG (15 Table 15.22). -/
def CkImage.cfgWord (k : CkImage) : Nat :=
  2 ^ 26 * ((k.width - 1) % 64) + 2 ^ 25 * bnat k.refin + 2 ^ 24 * bnat k.refout + 2 ^ 23 * bnat k.cvOrder +
  2 ^ 22 * bnat k.started + 2 ^ 21 * bnat k.configured

/-- The fields that a register's stored fields do not show, as what replaces its bits: a mask and a value. -/
def Dev.liveBits (s : Dev) (t : Transport) (off : Nat) : Nat × Nat :=
  if inPorts off then
    let p := (portAt off).1
    match (portAt off).2 with
    | 0x124 => (0x3F00, (s.trimWindow p).2 * 2 ^ 8)
    | 0x128 => (0xFFFFFFF0, (s.trimWindow p).1)
    | 0x22C => (0xFFF, s.eqTapWindow p)
    | 0x330 => (0xFFFF, s.echoTapWindow p)
    | 0x41C =>
      let q := s.txPairOf p (pairOf (s.get (LPn_TX_TAP_SEL_PAIR p)))
      (0x3FF, 256 * q.main + codeOf 8 (q.taps.get (Fin.ofNat 8 (s.get (LPn_TX_TAP_SEL_INDEX p)))))
    | _ => (0, 0)
  else if inChans off ∧ (chanAt off).2 = 0 then (0xFFE00000, (s.chk.ch.get (chanAt off).1).cfgWord)
  else
    match off with
    | 0x0008 => (0x38000000, 2 ^ 29 * bnat (s.enabled .pcie) + 2 ^ 28 * bnat (s.enabled .spi) + 2 ^ 27 * bnat (s.enabled .mdio))
    | 0x1020 => (0xFFFFFF00, 2 ^ 16 * (s.votes ||| 2 ^ 14 * bnat (t == .pcie)) + 2 ^ 8 * s.portVotes)
    | 0x1028 => (0xFFFF, s.devPower)
    | 0x3000 => (0xFFFFF800, s.chkStatus)
    | 0xD004 => (0x40000000, 2 ^ 30 * bnat s.flushing)
    | _ => (0, 0)

/-! ## The record window (18 R586) -/

/-- The record at the cursor: its bytes, zeros with END or GONE outside the records held, zeros where none holds the SEQ. -/
def Dev.evrWindow (s : Dev) : Dev × List Byte :=
  let c := s.get EVR_CURSOR_CURSOR
  let mark := fun (e g : Bool) => (s.flag EVR_STATUS_END e).flag EVR_STATUS_GONE g
  match s.newestSeq with
  | none => (mark true false, [])
  | some top =>
    if top < c then (mark true false, [])
    else if c < s.oldestSeq then (mark false true, [])
    else
      let l := s.heldRecs.filter fun r => r.1 == c
      let r := match l.find? fun r => r.2.1 with
        | some r => some r
        | none => l.head?
      (mark false false, (r.map fun r => r.2.2.2).getD [])

/-- A read of EVR_WINk; one of EVR_WIN15 moves the shared cursor on (18 R586, 21 R641). -/
def Dev.evrRead (s : Dev) (k : Nat) : Dev × Nat :=
  let r := s.evrWindow
  let d := r.1.iff (k == 15) fun s => s.set EVR_CURSOR_CURSOR (s.get EVR_CURSOR_CURSOR + 1)
  (d, word32 r.2 (4 * k))

/-! ## Reads (00 R10, R11, 21 R641) -/

/-- A set-up register read by a transport. Gives whether the read met a lasting uncorrectable error (13 R445). -/
def Dev.readReg (s : Dev) (t : Transport) (off : Nat) : Dev × Nat × Bool :=
  match s.wideValue off with
  | some n => ({ s with hiLatch := vmod s.hiLatch t.idx fun l => sput 0 l (off + 4) (n / 2 ^ 32 % 2 ^ 32) }, n % 2 ^ 32, false)
  | none =>
    if 4 ≤ off ∧ (s.wideValue (off - 4)).isSome then (s, sget 0 (s.hiLatch.get t.idx) off, false)
    else if 0xD040 ≤ off ∧ off < 0xD080 ∧ off % 4 = 0 then
      let r := s.evrRead ((off - 0xD040) / 4)
      (r.1, r.2, false)
    else if 0xE010 ≤ off ∧ off < 0xE030 ∧ off % 4 = 0 then
      let n := s.get RING_SEL_RING
      let r := s.readCtx n
      (r.1, if r.2 then word32 (r.1.ctxImage n) (off - 0xE010) else 0, !r.2)
    else
      let m := s.liveBits t off
      let v := s.regValue off
      (s, (v &&& (2 ^ 32 - 1 - m.1)) + (m.2 &&& m.1), false)

end Sys2Proof.Machine
end

