-- ==== Sys2Proof/Machine/Transports.lean ====
section
/-! DEFINITION. The transports: SPI frames, MDIO accesses and PCIe requests, the early-write buffer, held requests, and every
command that is an access by one of them (13 R440–R447, R454–R459, 16 R535, R543, R544, 19 Table 19.4, R642). -/

namespace Sys2Proof.Machine

open Reg

/-! ## When an access is served -/

/-- Whether no access can be served at all: the straps have not been sampled (19 Table 19.4). -/
def Dev.deaf (s : Dev) : Bool := s.sys.core == .off
/-- Whether CORE is off or waking, so that accesses outside the hearth registers wait (16 R543, R544). -/
def Dev.asleep (s : Dev) : Bool := 2 ≤ s.get PWR_STATE_STATE
/-- Whether boot has ended (19 Table 19.4). -/
def Dev.booted (s : Dev) : Bool := s.on GLB_BOOT_STATUS_BOOT_DONE

/-- What a read command gives back. -/
def Dev.reply (s : Dev) (l : List Byte) : Dev := { s with readData := l }

/-! ## Ring memory through a transport (13 R444) -/

/-- Bytes cut at the ends of memory words: each part with its offset. -/
def wordParts : Nat → Nat → List Byte → List (Nat × List Byte)
  | 0, _, _ => []
  | k + 1, off, l => if l.isEmpty then [] else (off, l.take (8 - off % 8)) :: wordParts k (off + 8 - off % 8) (l.drop (8 - off % 8))

/-- Bytes written to ring memory, each word by itself: a merge that is refused loses its own bytes (15 R508, R509). -/
def Dev.ramWrite (s : Dev) (off : Nat) (l : List Byte) : Dev :=
  s.each (wordParts (l.length + 1) off l) fun s x => (s.writeMem 2 x.1 x.2).1

/-- Bytes of ring memory over SPI, word by word; a word with a lasting error gives a free value. -/
def Dev.ramRead (s : Dev) (off n : Nat) : Dev × List Byte :=
  if n = 0 then (s, [])
  else
    let first := off / 8
    let words := (off + n - 1) / 8 + 1 - first
    let r := (List.range words).foldl (init := (s, ([] : List Byte))) fun (a : Dev × List Byte) k =>
      let x := a.1.readWord 2 (first + k)
      match x.2.2 with
      | .failed => (x.1.draw, a.2 ++ bytesOf 8 (Config.spiLost x.1.draws).toNat)
      | _ => (x.1, a.2 ++ bytesOf 8 x.2.1.toNat)
    (r.1, (r.2.drop (off % 8)).take n)

/-! ## Writes over SPI and MDIO (13 R444, R445, 16 R544) -/

/-- Where the model puts the port-reset bit of a port's MMD 1 among the addresses of Table 13.1: above all of them. -/
def resetAddr (p : Port) : Nat := 0x100000 + p.val

/-- MMD 1 register 1.0 bit 15 written 1: a port reset, unless one runs (13 R446). -/
def Dev.mdioReset (s : Dev) (p : Port) : Dev :=
  if (s.prt p).link.mdioReset then s
  else ((s.modLink p fun l => { l with mdioReset := true }).portResetBegin p .mdioReset).1

/-- The whole register and doorbell units that bytes from an address cover, ascending (13 R444). -/
def unitsOf (addr n : Nat) : List Nat :=
  ((List.range (n / 4)).map fun i => (addr + 3) / 4 * 4 + 4 * i).filter fun a => a + 4 ≤ addr + n && a < 0x20000

/-- The writes that a frame's bytes make, in ascending order: whole units, and a span of ring memory (13 R444). -/
def writesOf (t : Transport) (addr : Nat) (l : List Byte) : List EarlyWrite :=
  let lo := max addr 0x80000
  let hi := min (addr + l.length) 0x100000
  ((unitsOf addr l.length).map fun a => ⟨t, a, (l.drop (a - addr)).take 4⟩) ++
  if lo < hi then [⟨t, lo, (l.drop (lo - addr)).take (hi - lo)⟩] else []

/-- One write acts. -/
def Dev.writeActs (s : Dev) (w : EarlyWrite) : Dev :=
  let v := ofBytes w.data
  if w.addr < 0x10000 then s.writeReg w.addr v
  else if w.addr < 0x20000 then s.doorbell w.t (Fin.ofNat 16384 ((w.addr - 0x10000) / 4)) v
  else if w.addr < 0x100000 then s.ramWrite (w.addr - 0x80000) w.data
  else s.mdioReset (Fin.ofNat 8 (w.addr - 0x100000))

/-- Bytes in the early-write buffer (16 R544). -/
def Pwr.earlyBytes (w : Pwr) : Nat := sumNat (w.early.map fun e => e.data.length)

/-- A write kept for LOGIC_READY, or discarded: where it does not fit, and a doorbell after the first discarded write
(16 R544). -/
def Dev.writeEarly (s : Dev) (w : EarlyWrite) : Dev :=
  let bell := 0x10000 ≤ w.addr && w.addr < 0x20000
  if (bell && s.pwr.earlyFull) || decide (512 < s.pwr.earlyBytes + w.data.length) then
    ((s.modPwr fun q => { q with earlyFull := true }).inc PWR_CORE_LAST_EARLY_DROPS).flag PWR_EVENTS_EARLY_DROP true
  else s.modPwr fun q => { q with early := q.early ++ [w] }

/-- A write arrives over SPI or MDIO: to a hearth register at once; to another set-up register before BOOT_DONE ignored; kept
before LOGIC_READY (16 R535, R544, 19 Table 19.4). -/
def Dev.writeArrives (s : Dev) (w : EarlyWrite) : Dev :=
  if isHearth w.addr then s.writeActs w
  else if w.addr < 0x10000 ∧ ¬ s.booted then s
  else if s.asleep then s.writeEarly w
  else s.writeActs w

/-- A frame's writes through a transport that may be disabled (13 R440). -/
def Dev.serialWrites (s : Dev) (t : Transport) (l : List EarlyWrite) : Dev :=
  s.iff (s.enabled t) fun s => s.each l fun s w => s.writeArrives w

/-! ## Reads over SPI and MDIO -/

/-- A unit of the register or doorbell space read (13 R440, R458, 16 R544, 19 Table 19.4). -/
def Dev.readUnit (s : Dev) (t : Transport) (addr : Nat) : Dev × Nat × Bool :=
  if !s.enabled t then (s, 0, false)
  else if isHearth addr then s.readReg t addr
  else if s.asleep then (s, 0, false)
  else if addr < 0x10000 then (if s.booted || addr == 0x0100 then s.readReg t addr else (s, 0, false))
  else (s, s.doorbellIndex (Fin.ofNat 16384 ((addr - 0x10000) / 4)), false)

/-- A frame's read: whole units, ring memory, zeros elsewhere (13 Table 13.1, R444). -/
def Dev.spiData (s : Dev) (addr n : Nat) : Dev × List Byte :=
  let a := (unitsOf addr n).foldl (init := (s, ([] : List (Nat × List Byte)))) fun (a : Dev × List (Nat × List Byte)) u =>
    let r := a.1.readUnit .spi u
    (r.1, a.2 ++ [(u, bytesOf 4 r.2.1)])
  let lo := max addr 0x80000
  let hi := min (addr + n) 0x100000
  let r := if lo < hi ∧ a.1.enabled .spi ∧ ¬ a.1.asleep then a.1.ramRead (lo - 0x80000) (hi - lo) else (a.1, [])
  (r.1, (List.range n).map fun i =>
    let x := addr + i
    match a.2.find? fun e => decide (e.1 ≤ x) && decide (x < e.1 + 4) with
    | some e => e.2.getD (x - e.1) 0
    | none => if lo ≤ x ∧ x < hi then r.2.getD (x - lo) 0 else 0)

/-! ## SPI frames (13 R443, R444) -/

/-- Whether a frame's bytes lie wholly within the hearth registers (16 Table 16.2). -/
def hearthSpan (addr n : Nat) : Bool := 0x1000 ≤ addr && addr + max n 1 ≤ 0x1020

/-- An SPI frame: it votes and may wake, but for one wholly within the hearth registers (16 Tables 16.2, 16.4). -/
def Dev.spiFrame (s : Dev) (hearth : Bool) (act : Dev → Dev) : Dev :=
  if s.deaf then s else act (s.iff (!hearth) (·.serialFrame))

/-- A frame that writes. -/
def Dev.spiWrite (s : Dev) (addr : Nat) (l : List Byte) : Dev :=
  s.spiFrame (hearthSpan addr l.length) fun s => s.serialWrites .spi (writesOf .spi addr l)

/-- A frame that reads. -/
def Dev.spiRead (s : Dev) (addr n : Nat) : Dev :=
  s.spiFrame (hearthSpan addr n) fun s =>
    let r := s.spiData addr n
    r.1.reply r.2

/-! ## MDIO (13 R445, R446) -/

/-- An access addressed to the device: every one votes and may wake (16 Tables 16.2, 16.4). -/
def Dev.mdioFrame (s : Dev) (act : Dev → Dev) : Dev := if s.deaf then s else act s.serialFrame

/-- The MDIO registers changed. -/
def Dev.modMdio (s : Dev) (g : Mdio → Mdio) : Dev := { s with mdio := g s.mdio }

/-- The window address as used: bits 1:0 are 0. -/
def Mdio.window (m : Mdio) : Nat := m.addr.toNat / 4 * 4

/-- After a DATA_HI access the window moves on where AUTOINC says so. -/
def Mdio.step (m : Mdio) : Mdio := if m.autoInc then { m with addr := m.addr + 4 } else m

/-- A 32-bit read at an address of Table 13.1 by MDIO; an uncorrectable error reads 0. -/
def Dev.mdioWord (s : Dev) (addr : Nat) : Dev × Nat × Bool :=
  if addr < 0x20000 then s.readUnit .mdio addr
  else if 0x80000 ≤ addr ∧ addr < 0x100000 ∧ s.enabled .mdio ∧ ¬ s.asleep then
    let r := s.readWord 2 ((addr - 0x80000) / 8)
    match r.2.2 with
    | .failed => (r.1, 0, true)
    | _ => (r.1, r.2.1.toNat / 256 ^ (addr % 8) % 2 ^ 32, false)
  else (s, 0, false)

/-- The port that answers as MMD 1 at a port address (13 R445); port 0's address is also that of MMD 30 and MMD 31. -/
def Dev.mdioPort (s : Dev) (prtad : Nat) : Option Port :=
  let k := (prtad + 32 - s.get GLB_TRANSPORT_PRTAD_BASE) % 32
  if h : k < 8 then some ⟨k, h⟩ else none

/-- Whether a frame is addressed to the device: its port and device address name an MMD that answers (13 R445, 16 Table 16.2). -/
def Dev.mdioMine (s : Dev) (prtad mmd : Nat) : Bool :=
  match s.mdioPort prtad with
  | some p => mmd == 1 || (p == 0 && (mmd == 30 || mmd == 31))
  | none => false

/-- A frame at a port and device address; one to another device on the bus does nothing. -/
def Dev.mdioAt (s : Dev) (prtad mmd : Nat) (act : Dev → Dev) : Dev :=
  if s.mdioMine prtad mmd then s.mdioFrame act else s

/-- What the registers give that a read does not change (13 Table 13.3, R446): the OUI's bits 21:6, and its bits 5:0 with the model
and revision numbers, in the identifier format as PRESUMED (log entry 111). -/
def Dev.mdioRead (s : Dev) (prtad mmd reg : Nat) : Nat :=
  match mmd, reg with
  | 30, 0 => s.mdio.addr.toNat % 2 ^ 16
  | 30, 1 => s.mdio.addr.toNat / 2 ^ 16
  | 30, 4 => bnat s.mdio.autoInc
  | 31, 0 => s.mdio.dbRing.toNat
  | 1, 0 => if s.asleep then 0 else ((s.mdioPort prtad).map fun p => 2 ^ 15 * bnat (s.prt p).link.mdioReset).getD 0
  | 1, 2 => if s.asleep then 0 else 0xD2713C / 2 ^ 6 % 2 ^ 16
  | 1, 3 => if s.asleep then 0 else 2 ^ 10 * (0xD2713C % 2 ^ 6) + 2 ^ 4 * 0x08 + 0x1
  | 1, 8 => if s.asleep then 0 else 0x8000
  | _, _ => 0

/-- The registers whose write is not a command of its own (13 Table 13.3, R446). -/
def Dev.mdioSet (s : Dev) (mmd reg : Nat) (v : BitVec 16) : Dev :=
  if !s.enabled .mdio then s
  else
    match mmd, reg with
    | 30, 0 => s.modMdio fun m => { m with addr := (m.addr &&& 0xFFFF0000) ||| v.setWidth 32 }
    | 30, 1 => s.modMdio fun m => { m with addr := (m.addr &&& 0x0000FFFF) ||| (v.setWidth 32 <<< 16) }
    | 30, 4 => s.modMdio fun m => { m with autoInc := v.getLsbD 0 }
    | 31, 0 => s.modMdio fun m => { m with dbRing := v }
    | _, _ => s

/-- The ring of DB_RING. -/
def Mdio.ring (m : Mdio) : RingNo := Fin.ofNat 16384 m.dbRing.toNat

/-! ## PCIe (13 R441, 16 R543, 19 R642) -/

/-- A double word of the MSI-X table written; a vector that is unmasked sends its pending message, as PCIe defines. -/
def Dev.msixWrite (s : Dev) (off : Nat) (v : BitVec 32) : Dev :=
  let i : Fin 64 := Fin.ofNat 64 (off / 16)
  let s : Dev := { s with msix := vmod s.msix i fun e =>
    match off % 16 / 4 with
    | 0 => { e with addr := (e.addr &&& 0xFFFFFFFF00000000) ||| v.setWidth 64 }
    | 1 => { e with addr := (e.addr &&& 0x00000000FFFFFFFF) ||| (v.setWidth 64 <<< 32) }
    | 2 => { e with data := v }
    | _ => { e with masked := v.getLsbD 0 } }
  let e := s.msix.get i
  if s.msixPend.getLsbD i && !e.masked && s.on GLB_INT_CTRL_MSIX_ON then
    { s with msixPend := s.msixPend &&& ~~~(BitVec.ofNat 64 (2 ^ i.val)), msg := some (e.addr, e.data) }
  else s

/-- A double word of the MSI-X table or of the pending-bit array read. -/
def Dev.msixRead (s : Dev) (off : Nat) : Nat :=
  if off < 0x400 then
    let e := s.msix.get (Fin.ofNat 64 (off / 16))
    match off % 16 / 4 with
    | 0 => e.addr.toNat % 2 ^ 32
    | 1 => e.addr.toNat / 2 ^ 32
    | 2 => e.data.toNat
    | _ => bnat e.masked
  else if off = 0x400 then s.msixPend.toNat % 2 ^ 32
  else if off = 0x404 then s.msixPend.toNat / 2 ^ 32
  else 0

/-- A request that reaches BAR0 or BAR2 acts (13 R440, R441, R458). -/
def Dev.pcieServe (s : Dev) (r : PcieReq) : Dev :=
  let off := r.off.toNat
  let ok := s.enabled .pcie && r.aligned && off % 4 == 0
  let ring : RingNo := Fin.ofNat 16384 (off / 4)
  let table := !r.bar2 && 0x800 ≤ off && off < 0xE00
  match r.write with
  | some v =>
    if !ok then s
    else if r.bar2 then s.doorbell .pcie ring v.toNat
    else if table then s.iff (off < 0xC00) fun s => s.msixWrite (off - 0x800) v
    else s.writeReg off v.toNat
  | none =>
    if !ok then s.reply (bytesOf 4 0)
    else if r.bar2 then s.reply (bytesOf 4 (s.doorbellIndex ring))
    else if table then s.reply (bytesOf 4 (s.msixRead (off - 0x800)))
    else
      let x := s.readReg .pcie off
      x.1.reply (bytesOf 4 x.2.1)

/-- A PCIe memory request arrives: to a hearth register it acts at once; else it votes as client 14, and in RETAIN and WAKING it
is held and may wake (16 R535, R543); before BOOT_DONE it reaches nothing (19 R642). -/
def Dev.pcieArrives (s : Dev) (r : PcieReq) : Dev :=
  if s.deaf || !s.booted then
    match r.write with
    | some _ => s
    | none => s.draw.reply (bytesOf 4 (Config.pcieUnserved s.draws).toNat)
  else if !r.bar2 && isHearth r.off.toNat then s.pcieServe r
  else
    let s := s.pcieVote
    if s.asleep then s.modPwr fun w => { w with held := w.held ++ [r] } else s.pcieServe r

/-! ## One access, by whatever transport -/

/-- A 32-bit write of an address of Table 13.1 by a transport: a PCIe request, an SPI frame, or the commit of the MDIO window. -/
def Dev.busWrite (s : Dev) (t : Transport) (addr v : Nat) : Dev :=
  match t with
  | .pcie => s.pcieArrives
      { bar2 := decide (0x10000 ≤ addr), off := BitVec.ofNat 16 addr, write := some (BitVec.ofNat 32 v) }
  | .spi => s.spiWrite addr (bytesOf 4 v)
  | .mdio => s.mdioFrame fun s => s.serialWrites .mdio (writesOf .mdio addr (bytesOf 4 v))

/-- A 32-bit read of a register or a doorbell by a transport. -/
def Dev.busRead (s : Dev) (t : Transport) (addr : Nat) : Dev :=
  match t with
  | .pcie => s.pcieArrives { bar2 := decide (0x10000 ≤ addr), off := BitVec.ofNat 16 addr, write := none }
  | .spi => s.spiRead addr 4
  | .mdio => s.mdioFrame fun s =>
      let r := s.mdioWord (addr / 4 * 4)
      r.1.reply (bytesOf 4 r.2.1)

/-- Where a ring's doorbell lies (13 Table 13.1). -/
def bellAddr (ring : RingNo) : Nat := 0x10000 + 4 * ring.val

/-! ## Register commands -/

/-- REGISTER_WRITE (00 R10–R13, 13 R440, R441, R445, R447). -/
def execRegisterWrite (t : Transport) (tgt : RegTarget) (v : BitVec 32) (s : State) : Host.Outcome State Fault Refusal :=
  run s fun d =>
    match tgt with
    | .setup off => d.busWrite t off.toNat v.toNat
    | .msix off =>
      if t = .pcie ∧ off.toNat < 0x400 then
        d.pcieArrives { bar2 := false, off := 0x800 + off, write := some v }
      else d
    | .mdio prtad mmd reg =>
      if t = .mdio then d.mdioAt prtad mmd fun d => d.mdioSet mmd reg (v.setWidth 16) else d

/-- LATCHED_LO_READ (07 R267, 10 R367, 21 R641): a read of a _LO register, and of every register whose read has no row of its
own (13 R441, R445, R446). -/
def execLatchedLoRead (t : Transport) (tgt : RegTarget) (s : State) : Host.Outcome State Fault Refusal :=
  run s fun d =>
    match tgt with
    | .setup off => d.busRead t off.toNat
    | .msix off =>
      if t = .pcie ∧ off.toNat < 0x600 then d.pcieArrives { bar2 := false, off := 0x800 + off, write := none } else d
    | .mdio prtad mmd reg =>
      if t = .mdio then d.mdioAt prtad mmd fun d =>
        d.reply (bytesOf 2 (if d.enabled .mdio then d.mdioRead prtad mmd reg else 0))
      else d

/-- GAIN_MODE_WRITE (03 R92). -/
def execGainModeWrite (t : Transport) (p : Port) (v : BitVec 32) (s : State) : Host.Outcome State Fault Refusal :=
  run s fun d => d.busWrite t (LPn_RXFE_CTRL_GAIN_MODE p).off v.toNat

/-- ADC_CAL_HOLD_WRITE (03 R119, R120). -/
def execAdcCalHoldWrite (t : Transport) (p : Port) (v : BitVec 32) (s : State) : Host.Outcome State Fault Refusal :=
  run s fun d => d.busWrite t (LPn_ADC_CAL_CTRL_HOLD p).off v.toNat

/-- SW_FREEZE_WRITE (04 R148). -/
def execSwFreezeWrite (t : Transport) (p : Port) (v : BitVec 32) (s : State) : Host.Outcome State Fault Refusal :=
  run s fun d => d.busWrite t (LPn_EQ_CTRL_SW_FREEZE p).off v.toNat

/-- FEC_COUNTER_CLEAR (07 R267). -/
def execFecCounterClear (t : Transport) (p : Port) (v : BitVec 32) (s : State) : Host.Outcome State Fault Refusal :=
  run s fun d => d.busWrite t (LPn_FEC_SEL_CLEAR p).off v.toNat

/-- LULL_EN_CLEAR (09 R340). -/
def execLullEnClear (t : Transport) (p : Port) (v : BitVec 32) (s : State) : Host.Outcome State Fault Refusal :=
  run s fun d => d.busWrite t (LPn_LINK_CTRL_LULL_EN p).off v.toNat

/-- RX_FREEZE_WRITE (10 R362). -/
def execRxFreezeWrite (t : Transport) (l : Lane) (v : BitVec 32) (s : State) : Host.Outcome State Fault Refusal :=
  run s fun d => d.busWrite t (HLn_CTRL_RX_FREEZE l).off v.toNat

/-- HOST_TX_TAP_WRITE (10 R363): HLn_TX_POST or HLn_TX_FFE. -/
def execHostTxTapWrite (t : Transport) (l : Lane) (post : Bool) (v : BitVec 32) (s : State) :
    Host.Outcome State Fault Refusal :=
  run s fun d => d.busWrite t (if post then (HLn_TX_POST_POST1 l).off else (HLn_TX_FFE_MAIN l).off) v.toNat

/-- AUX_CLEAR_WRITE (11 R379). -/
def execAuxClearWrite (t : Transport) (c : AuxCh) (v : BitVec 32) (s : State) : Host.Outcome State Fault Refusal :=
  run s fun d => d.busWrite t (AUX_CHm_CLEAR_CLEAR c).off v.toNat

/-- CHK_VALUE_COMMIT (15 R528). -/
def execChkValueCommit (t : Transport) (ck : Chan) (v : BitVec 32) (s : State) : Host.Outcome State Fault Refusal :=
  run s fun d => d.busWrite t (CHK_CKn_VALUE_HI_VALUE ck).off v.toNat

/-- WAKE_REQ_WRITE (16 R535). -/
def execWakeReqWrite (t : Transport) (v : BitVec 32) (s : State) : Host.Outcome State Fault Refusal :=
  run s fun d => d.busWrite t PWR_STATE_WAKE_REQ.off v.toNat

/-- ADMIN_ENABLE (13 R452). -/
def execAdminEnable (t : Transport) (v : BitVec 32) (s : State) : Host.Outcome State Fault Refusal :=
  run s fun d => d.busWrite t GLB_ADMIN_CTRL_ENABLE.off v.toNat

/-- ADMIN_DISABLE (13 R453). -/
def execAdminDisable (t : Transport) (v : BitVec 32) (s : State) : Host.Outcome State Fault Refusal :=
  run s fun d => d.busWrite t GLB_ADMIN_CTRL_ENABLE.off v.toNat

/-- EVR_CURSOR_WRITE (18 R586). -/
def execEvrCursorWrite (t : Transport) (v : BitVec 32) (s : State) : Host.Outcome State Fault Refusal :=
  run s fun d => d.busWrite t EVR_CURSOR_CURSOR.off v.toNat

/-- EVR_WIN15_READ (18 R586, 21 R641). -/
def execEvrWin15Read (t : Transport) (s : State) : Host.Outcome State Fault Refusal :=
  run s fun d => d.busRead t (EVR_WINk_DATA 15).off

/-- DOORBELL (13 R454–R457, R459). -/
def execDoorbell (t : Transport) (ring : RingNo) (v : BitVec 32) (s : State) : Host.Outcome State Fault Refusal :=
  run s fun d => d.busWrite t (bellAddr ring) v.toNat

/-- DOORBELL_READ (13 R458). -/
def execDoorbellRead (t : Transport) (ring : RingNo) (s : State) : Host.Outcome State Fault Refusal :=
  run s fun d => d.busRead t (bellAddr ring)

/-! ## SPI commands -/

/-- SPI_WRITE (13 R443, R444). -/
def execSpiWrite (addr : BitVec 32) (data : List Byte) (s : State) : Host.Outcome State Fault Refusal :=
  run s fun d => d.spiWrite addr.toNat data

/-- SPI_QUAD_WRITE (13 R443, R444): the lanes differ, the bytes do not. -/
def execSpiQuadWrite (addr : BitVec 32) (data : List Byte) (s : State) : Host.Outcome State Fault Refusal :=
  run s fun d => d.spiWrite addr.toNat data

/-- SPI_READ (13 R443, R444). -/
def execSpiRead (addr : BitVec 32) (len : Nat) (s : State) : Host.Outcome State Fault Refusal :=
  run s fun d => d.spiRead addr.toNat len

/-- SPI_QUAD_READ (13 R443, R444): the lanes differ, the bytes do not. -/
def execSpiQuadRead (addr : BitVec 32) (len : Nat) (s : State) : Host.Outcome State Fault Refusal :=
  run s fun d => d.spiRead addr.toNat len

/-- The command bytes of Table 13.2. -/
def spiCommands : List Byte := [0x02, 0x38, 0x0B, 0xEB]

/-- SPI_IGNORED_COMMAND (13 R443): a frame that reads and writes nothing, but votes and may wake. A command of Table 13.2 is
none of these. -/
def execSpiIgnoredCommand (cmd : Byte) (s : State) : Host.Outcome State Fault Refusal :=
  run s fun d => if spiCommands.contains cmd then d else d.spiFrame false id

/-! ## MDIO commands -/

/-- MDIO_DATA_LO_READ (13 R445, 21 R641): the window read. -/
def execMdioDataLoRead (s : State) : Host.Outcome State Fault Refusal :=
  run s fun d => d.mdioFrame fun d =>
    if !d.enabled .mdio then d.reply (bytesOf 2 0)
    else
      let r := d.mdioWord d.mdio.window
      (r.1.modMdio fun m => { m with hiLatch := BitVec.ofNat 16 (r.2.1 / 2 ^ 16), ue := r.2.2 }).reply (bytesOf 2 r.2.1)

/-- MDIO_DATA_HI_READ (13 R445). -/
def execMdioDataHiRead (s : State) : Host.Outcome State Fault Refusal :=
  run s fun d => d.mdioFrame fun d =>
    if !d.enabled .mdio then d.reply (bytesOf 2 0)
    else (d.modMdio Mdio.step).reply (bytesOf 2 d.mdio.hiLatch.toNat)

/-- MDIO_DATA_LO_WRITE (13 R445). -/
def execMdioDataLoWrite (v : BitVec 16) (s : State) : Host.Outcome State Fault Refusal :=
  run s fun d => d.mdioFrame fun d => d.iff (d.enabled .mdio) fun d => d.modMdio fun m => { m with loHold := v }

/-- MDIO_DATA_HI_WRITE (13 R445, 16 R544): the commit at the window. -/
def execMdioDataHiWrite (v : BitVec 16) (s : State) : Host.Outcome State Fault Refusal :=
  run s fun d => d.mdioFrame fun d => d.iff (d.enabled .mdio) fun d =>
    let w := writesOf .mdio d.mdio.window (bytesOf 4 (d.mdio.loHold.toNat + 2 ^ 16 * v.toNat))
    (d.serialWrites .mdio w).modMdio Mdio.step

/-- MDIO_WIN_STATUS_READ (13 R445). -/
def execMdioWinStatusRead (s : State) : Host.Outcome State Fault Refusal :=
  run s fun d => d.mdioFrame fun d =>
    if !d.enabled .mdio then d.reply (bytesOf 2 0)
    else (d.modMdio fun m => { m with ue := false }).reply (bytesOf 2 (bnat d.mdio.ue))

/-- MDIO_DB_VALUE_WRITE (13 R445, R454, 16 R544). -/
def execMdioDbValueWrite (v : BitVec 16) (s : State) : Host.Outcome State Fault Refusal :=
  run s fun d => d.mdioFrame fun d =>
    d.serialWrites .mdio (writesOf .mdio (bellAddr d.mdio.ring) (bytesOf 4 v.toNat))

/-- MDIO_PORT_RESET (13 R446, 09 R328). -/
def execMdioPortReset (p : Port) (s : State) : Host.Outcome State Fault Refusal :=
  run s fun d => d.mdioFrame fun d => d.serialWrites .mdio [⟨.mdio, resetAddr p, bytesOf 2 0x8000⟩]

/-- MDIO_LINK_STATUS_READ (13 R446, 16 R544): bit 2 latches low until it is read, bit 7 is LOCAL_FAULT. -/
def execMdioLinkStatusRead (p : Port) (s : State) : Host.Outcome State Fault Refusal :=
  run s fun d => d.mdioFrame fun d =>
    if !d.enabled .mdio || d.asleep then d.reply (bytesOf 2 0)
    else
      let up := (d.linkState p == lsUp || d.linkState p == lsLull) && !d.mdio.linkLow.get p
      (d.modMdio fun m => { m with linkLow := m.linkLow.set p false }).reply
        (bytesOf 2 (4 * bnat up + 128 * d.get (LPn_LINK_STATUS_LOCAL_FAULT p)))

/-! ## PCIe requests and LOGIC_READY -/

/-- PCIE_MEMORY_REQUEST (13 R440, R441, 16 R543, 19 R642). -/
def execPcieMemoryRequest (r : PcieReq) (s : State) : Host.Outcome State Fault Refusal :=
  run s fun d => d.pcieArrives r

/-- What was held acts: early writes in their order, then PCIe requests in theirs (16 R543, R544). -/
def Dev.heldAct (s : Dev) : Dev :=
  let early := s.pwr.early
  let held := s.pwr.held
  let s := s.modPwr fun w => { w with early := [], earlyFull := false, held := [] }
  (s.each early fun s w => s.writeActs w).each held fun s r => s.pcieServe r

/-- LOGIC_READY (16 R540–R546, Table 16.5 steps 4 and 5). -/
def execLogicReady (periods : Nat) (s : State) : Host.Outcome State Fault Refusal :=
  run s fun d => if d.wakeStep 4 then d.logicReady periods Dev.heldAct else d

end Sys2Proof.Machine
end

