-- ==== Sys2Proof/Machine/Fetch.lean ====
section
/-! DEFINITION. Fetching: which ring is served, the descriptor read from it, and the action phase that follows
(13 R462–R469, Table 13.10). -/

namespace Sys2Proof.Machine

open Reg

/-! ## Which ring is served (13 R462, R464, R465) -/

/-- Where a ring's next descriptor lies. -/
def RingCtx.headAt (c : RingCtx) : Nat := c.base + 32 * c.head

/-- Byte 1 of the descriptor at a ring's head, as it stands: CR, FENCE, CHAIN. -/
def Dev.headFlags (s : Dev) (c : RingCtx) : Nat :=
  if c.owner = 0 then (s.hostByte ((c.headAt + 1) % 2 ^ 64)).toNat
  else ((s.rawWord 2 (c.headAt / 8)).value.toNat / 256) % 256

/-- Descriptors outstanding on the rings that a test picks out. -/
def Dev.outstanding (s : Dev) (pick : Nat → Bool) : Nat :=
  sumNat ((s.ctx.filter fun e => pick e.1 && e.2.live && e.2.typ == 0).map fun e => e.2.outstanding)

/-- Whether a submission ring may give its next descriptor: it holds one, its completion ring has room, its and the device's
limits allow one more, neither a FENCE nor a link that has not completed holds the next one back, and recovery serves
ring 0 alone (19 R610). -/
def Dev.servable (s : Dev) (r : Nat) (c : RingCtx) : Bool :=
  let q := s.ring c.cq
  (r == 0 || !s.on GLB_BOOT_STATUS_RECOVERY) && c.live && c.typ == 0 && c.waiting != 0 && q.live && !q.full && decide (c.outstanding < 64) && c.chain != .waiting &&
  (c.outstanding == 0 || !bitOf (s.headFlags c) 1) &&
  (if r = 0 then decide (s.outstanding (fun _ => true) < 1024) else decide (s.outstanding (fun k => k != 0) < 1008))

/-- The ring served next, and the turn after it: ring 0 whenever it can be, else the ring whose turn it is while its WEIGHT
lasts, else the next by number. -/
def Dev.nextRing (s : Dev) : Option (Nat × (Nat × Nat)) :=
  let l := (s.ctx.filter fun e => s.servable e.1 e.2).map fun e => (e.1, max 1 (min e.2.weight 16))
  match l.find? fun e => e.1 == 0 with
  | some _ => some (0, s.turn)
  | none =>
    match l.find? fun e => e.1 == s.turn.1 && s.turn.2 != 0 with
    | some e => some (e.1, (e.1, s.turn.2 - 1))
    | none =>
      match l.find? fun e => decide (s.turn.1 < e.1) with
      | some e => some (e.1, (e.1, e.2 - 1))
      | none => l.head?.map fun e => (e.1, (e.1, e.2 - 1))

/-- Whether the device fetches: it is ACTIVE (13 R457, 16 Table 16.3), and firmware runs or, in recovery, the ROM loader
(19 R610). -/
def Dev.fetches (s : Dev) : Bool :=
  s.get PWR_STATE_STATE == 0 &&
  (s.coreRuns || (s.on GLB_BOOT_STATUS_RECOVERY && s.booted && s.sys.core == .booting))

/-! ## The fetch (13 R462, R469) -/

/-- A descriptor's 32 bytes: from host memory as the operand says the read goes, from ring memory as its words stand. -/
def Dev.readEntry (s : Dev) (c : RingCtx) (a : Attempt) : Dev × List Byte × Attempt :=
  if c.owner = 0 then
    match a with
    | .failed => (s, [], .failed)
    | .second => (s.retried, (List.range 32).map fun i => s.hostByte ((c.headAt + i) % 2 ^ 64), .second)
    | .first => (s, (List.range 32).map fun i => s.hostByte ((c.headAt + i) % 2 ^ 64), .first)
  else
    let r := s.readMem 2 c.headAt 32
    match r.2.2, a with
    | .failed, _ => r
    | _, .failed => (r.1, [], .failed)
    | t, .second => (r.1.retried, r.2.1, Attempt.worse t .second)
    | _, .first => r

/-- A fetch that failed twice: its completion, its event (13 R469). -/
def Dev.fetchFailed (s : Dev) (r : Nat) (c : RingCtx) : Dev :=
  let e : Cpl := { status := if c.owner = 0 then stTimeout else stMemUe, fetchFail := true, tag := 0xFFFF
                   result := 2 ^ 16 * r + c.head, time := s.timebase }
  (s.postCpl c.cq e).raise GLB_RING_EVENTS_FETCH_FAIL 2

/-- One fetch: the ring's HEAD moves past the entry. Gives the descriptor, if one was read. -/
def Dev.fetch (s : Dev) (a rd : Attempt) : Dev × Option Desc :=
  match if s.fetches then s.nextRing else none with
  | none => (s, none)
  | some (r, turn) =>
    let x := s.readCtx r
    if !x.2 then (x.1, none)
    else
      let c := x.1.ring r
      let y := { x.1 with turn := turn }.readEntry c a
      let s := y.1.setRing r { c with head := (c.head + 1) % c.size, entries := (c.entries + 1) % 2 ^ 32 }
      match y.2.2 with
      | .failed => (s.fetchFailed r c, none)
      | t => (s, some { ring := Fin.ofNat 16384 r, index := BitVec.ofNat 16 c.head, body := BitVec.ofNat 256 (ofBytes y.2.1)
                        data := rd, again := t == .second })

/-! ## The action phase (13 Table 13.10) -/

/-- A descriptor whose action its opcode's table does not give. -/
def Dev.badAction (s : Dev) (c : Desc) : Dev := s.descriptor c fun s c => s.finish c stInvalid 0

/-- Action phases of the admin, port and host-lane families. -/
def actLow (c : Desc) (s : State) : Host.Outcome State Fault Refusal :=
  match c.opcode with
  | 0x00 => execNop c s
  | 0x01 => execRingCreate c s
  | 0x02 => execRingDestroy c s
  | 0x03 => execRingQuery c s
  | 0x04 => execEventEnable c s
  | 0x05 => execIdentify c s
  | 0x10 => execPortConfig c s
  | 0x11 => execPortStart c s
  | 0x12 => execPortStop c s
  | 0x13 => execPortReset c s
  | 0x14 => execPortStatus c s
  | 0x15 => execPortRetrain c s
  | 0x16 => execCableDiag c s
  | 0x17 => execLmcSend c s
  | 0x18 => execLmcReceive c s
  | 0x19 => execEyeScan c s
  | 0x1A =>
    match c.byte 18 with
    | 0 => execAdcCalStatus c s
    | 1 => execAdcCalCycle c s
    | 2 => execAdcCalHold c s
    | 3 => execAdcCalRelease c s
    | 4 => execAdcCalRequalify c s
    | 5 => execAdcCalTrimDump c s
    | _ => run s fun d => d.badAction c
  | 0x20 => execHostLaneConfig c s
  | 0x21 => execHostLaneLoopback c s
  | 0x22 =>
    match c.bits 18 1 0 with
    | 0 => execHostLanePrbsSet c s
    | 1 => execHostLanePrbsRead c s
    | 2 => execHostLanePrbsClear c s
    | _ => execHostLanePrbsReadClear c s
  | 0x23 => execHostLaneBitslip c s
  | 0x24 => execLaneMap c s
  | _ => execUnknownOpcode c s

/-- Action phases of the control, monitor, check and memory families. -/
def actMiddle (c : Desc) (s : State) : Host.Outcome State Fault Refusal :=
  match c.opcode with
  | 0x30 => execLoopConfig c s
  | 0x31 => execLoopCoeffSwap c s
  | 0x32 => execLoopTableLoad c s
  | 0x33 => execLoopInject c s
  | 0x34 => if c.flag 17 0 then execLoopCaptureRead c s else execLoopCaptureArm c s
  | 0x35 => execAuxDacQueue c s
  | 0x36 => execAuxDacConfig c s
  | 0x37 => execLoopRestart c s
  | 0x40 =>
    match c.bits 16 1 0 with
    | 0 => execMonConfigInput c s
    | 1 => execMonConfigSlots c s
    | 2 => execMonConfigPower c s
    | _ => execMonConfigCalCycle c s
  | 0x41 => execMonRead c s
  | 0x42 =>
    match c.bits 17 1 0 with
    | 0 => execMonSyscalZero c s
    | 1 => execMonSyscalFull c s
    | 2 => execMonSyscalDefault c s
    | _ => run s fun d => d.badAction c
  | 0x43 => execCicConfig c s
  | 0x50 =>
    match c.bits 17 1 0 with
    | 0 => execCheckRunCompute c s
    | 1 => execCheckRunVerifyMem c s
    | 2 => execCheckRunVerifyParam c s
    | _ => execCheckRunAppend c s
  | 0x51 => execCheckContextSave c s
  | 0x52 => execCheckContextLoad c s
  | 0x60 => execMemScrubConfig c s
  | 0x61 => execMemTestWrite c s
  | 0x62 => execMemRead c s
  | 0x63 => execMemWrite c s
  | _ => execUnknownOpcode c s

/-- Action phases of the record, power, firmware, counter and capture families. -/
def actHigh (c : Desc) (s : State) : Host.Outcome State Fault Refusal :=
  match c.opcode with
  | 0x70 => execEvrRead c s
  | 0x71 => if c.flag 16 0 then execEvrFreeze c s else execEvrRelease c s
  | 0x72 => execEvrClear c s
  | 0x73 => execTraceRead c s
  | 0x74 => execRtcSet c s
  | 0x75 => execRtcGet c s
  | 0x80 =>
    if voteBad c then run s fun d => d.badAction c
    else if voteTarget c = 0 then
      match voteAction c with
      | 0 => execPowerVoteHold c s
      | 1 => execPowerVoteRelease c s
      | _ => execPowerVoteEnter c s
    else if voteAction c = 0 then execPowerVoteWake c s
    else execPowerVoteDoze c s
  | 0x81 => execPowerStats c s
  | 0x82 => execPowerCap c s
  | 0x83 => execThermalStatus c s
  | 0x84 => execCaseTempReport c s
  | 0x90 => execFwLoad c s
  | 0x91 =>
    match c.bits 16 1 0 with
    | 0 => execFwActivateSwitch c s
    | 1 => execFwActivateTrial c s
    | 2 => execFwActivateCommit c s
    | _ => execFwActivateRaiseRollback c s
  | 0x92 => execCfgWrite c s
  | 0x93 => execCfgRead c s
  | 0x94 => execSoftReset c s
  | 0xA0 => if c.flag 17 0 then execCtrConfigClear c s else execCtrConfigWrite c s
  | 0xA1 =>
    match c.bits 16 2 0 with
    | 1 => execCtrSnapshotClear c s
    | 2 => execCtrFreeze c s
    | 3 => execCtrUnfreeze c s
    | _ => execCtrSnapshot c s
  | 0xA2 => if c.bits 16 1 0 = 2 then execCtrReadSamples c s else execCtrReadCounters c s
  | 0xA3 => execTelemetryStream c s
  | 0xB0 => execCaptureAdc c s
  | 0xB1 => execCaptureRead c s
  | _ => execUnknownOpcode c s

/-- A fetched descriptor's action phase, by its opcode and action (13 R463, Table 13.10). -/
def actOf (c : Desc) (s : State) : Host.Outcome State Fault Refusal :=
  if c.opcode < 0x30 then actLow c s else if c.opcode < 0x70 then actMiddle c s else actHigh c s

/-- DESCRIPTOR_FETCH (13 R462–R465, R469): a is how the fetch goes, rd how a read of the descriptor's data from outside the
block goes. Where no ring can be served nothing happens. -/
def execDescriptorFetch (a rd : Attempt) (s : State) : Host.Outcome State Fault Refusal :=
  let r := s.dev.fresh.fetch a rd
  let s := { s with dev := r.1.settle s.dev.mem }
  match r.2 with
  | none => .next s
  | some c => actOf c s

end Sys2Proof.Machine
end

