-- ==== Sys2Proof/Machine/Jtag.lean ====
section
/-! DEFINITION. The test access port (20 R635–R637). -/

namespace Sys2Proof.Machine

open Reg

/-- An instruction of the port; a rail out of range stops the port (20 R635). -/
def Dev.tap (s : Dev) (g : Jtag → Jtag) : Dev := if s.sys.brownout then s else { s with jtag := g s.jtag }

/-- What the port shifts out, where it works. -/
def Dev.tapOut (s : Dev) (l : List Byte) : Dev := if s.sys.brownout then s else { s with readData := l }

/-- The level that a DRV_EN ball drives: the boundary register's under a test that drives, low under HIGHZ, else the port's
own (20 R637, 06 Table 6.2). -/
def Dev.drvPin (s : Dev) (p : Port) : Bool :=
  match s.jtag.ir with
  | .extest | .extestPulse | .extestTrain | .clamp => s.jtag.drive.getLsb (Config.drvCell p)
  | .highz => false
  | _ => s.on (LPn_TX_STATUS_DRV_EN p)

/-- JTAG_RESET (20 R635). -/
def execJtagReset (s : State) : Host.Outcome State Fault Refusal := run s fun d => { d with jtag := { d.jtag with ir := .idcode } }

/-- EXTEST (20 R637): the cells shifted in drive the outputs. -/
def execExtest (cells : BitVec 208) (s : State) : Host.Outcome State Fault Refusal :=
  run s fun d => d.tap fun j => { j with ir := .extest, cells := cells, drive := cells }

/-- SAMPLE/PRELOAD (20 R635): the pins are captured and shifted out, the cells preloaded; the outputs stay the device's. -/
def execSamplePreload (pins cells : BitVec 208) (s : State) : Host.Outcome State Fault Refusal :=
  run s fun d => (d.tap fun j => { j with ir := .sample, sampled := pins, cells := cells }).tapOut (bytesOf 26 pins.toNat)

/-- IDCODE (20 R635, Table 20.14). -/
def execIdcode (s : State) : Host.Outcome State Fault Refusal :=
  run s fun d => (d.tap fun j => { j with ir := .idcode }).tapOut (bytesOf 4 0x13208B47)

/-- HIGHZ (20 R637). -/
def execHighz (s : State) : Host.Outcome State Fault Refusal := run s fun d => d.tap fun j => { j with ir := .highz }

/-- CLAMP (20 R637): the outputs hold the cells' values. -/
def execClamp (s : State) : Host.Outcome State Fault Refusal :=
  run s fun d => d.tap fun j => { j with ir := .clamp, drive := j.cells }

/-- EXTEST_PULSE (20 R635, R637). -/
def execExtestPulse (cells : BitVec 208) (s : State) : Host.Outcome State Fault Refusal :=
  run s fun d => d.tap fun j => { j with ir := .extestPulse, cells := cells, drive := cells }

/-- EXTEST_TRAIN (20 R635, R637). -/
def execExtestTrain (cells : BitVec 208) (s : State) : Host.Outcome State Fault Refusal :=
  run s fun d => d.tap fun j => { j with ir := .extestTrain, cells := cells, drive := cells }

/-- BYPASS (20 R635): its own opcode and every opcode that Table 20.14 does not list. -/
def execBypass (_opcode : Byte) (s : State) : Host.Outcome State Fault Refusal :=
  run s fun d => d.tap fun j => { j with ir := .bypass }

end Sys2Proof.Machine
end

