-- ==== Sys2Proof/Machine/Tx.lean ====
section
/-! DEFINITION. The line transmitter's commands: coefficient requests, the start of the driver, host loss, and the repeated
local-fault notice (06 R218–R233). -/

namespace Sys2Proof.Machine

open Reg

/-- The partner's requested taps of a pair: one tap moved by one, or a preset (06 R222, 08 Table 8.11 COEF_REQ); none for a
request outside what a tap, the presets or the port's pairs hold. -/
def Dev.coefResult (s : Dev) (p : Port) (x : Pair) (op tap : Nat) : Option (Vector Int 8 × Nat) :=
  let t := (s.txPairOf p x).taps
  let main := (s.txPairOf p x).main
  let moved := fun (k : Int) =>
    if h : tap < 8 then
      let v := t[tap] + k
      if -128 ≤ v ∧ v ≤ 127 then some (t.set tap v, main) else none
    else none
  if !(txPairs (s.mode p)).contains x then none
  else match op with
    | 0 => some (t, main)
    | 1 => moved 1
    | 2 => moved (-1)
    | 3 => if tap < 4 then some (txPreset tap, 2) else none
    | _ => none

/-- A request answered with limit status (06 R222, R223). -/
def Dev.coefLimit (s : Dev) (p : Port) : Dev :=
  ((s.inc (LPn_TX_STATUS_LIMITS p)).flag (LPn_TX_EVENTS_LIMIT p) true).count 0x2D p

/-- A coefficient request judged (06 R222, R223): the device after it and the status of COEF_RESP. -/
def Dev.coefApply (s : Dev) (p : Port) (x : Pair) (op tap : Nat) : Dev × Nat :=
  let data := s.acqState p == 7
  if data && (!s.on (LPn_TX_CTRL_DATA_ADAPT p) || isFd (s.mode p)) then
    (s.flag (LPn_TX_EVENTS_COEF_REFUSED p) true, 2)
  else if !data && !s.on (LPn_TX_CTRL_TRAIN_ADAPT p) then (s.coefLimit p, 1)
  else
    match s.coefResult p x op tap with
    | some (t, main) =>
      if txValid t main then
        (s.modTxPair p x fun q => { q with taps := t, main := main }, 0)
      else (s.coefLimit p, 1)
    | none => (s.coefLimit p, 1)

/-- COEF_REQ (06 R222, R223): in Skellia training and data answered by COEF_RESP; IEEE training answers by its own
protocol (08 R293). -/
def execCoefReq (p : Port) (f : Frame) (op tap pair : Nat) (s : State) : Host.Outcome State Fault Refusal :=
  run s fun d =>
    let x : Pair := if pair = 0 then .a else .b
    if d.lmcUp p then
      let a := d.lmcAccept p mtCoefReq f
      if a.2 then
        let r := a.1.coefApply p x op tap
        let k := if op = 3 then (r.1.txPairOf p x).main else tap % 8
        let v : Int := (r.1.txPairOf p x).taps.toList.getD k 0
        r.1.lmcTell p mtCoefResp (pay r.2 ++ pay tap ++ pay pair ++ pay (codeOf 8 v))
      else a.1
    else if d.acqState p = 5 then (d.coefApply p x op tap).1
    else d

/-- TX_DRIVER_SETTLED (06 Table 6.3 steps 1 and 2): DRV_EN goes high, and its delay begins. In a brown-out no driver is powered
(R233). -/
def execTxDriverSettled (p : Port) (s : State) : Host.Outcome State Fault Refusal :=
  run s fun d =>
    if d.running p ∧ ¬ (d.prt p).tx.driver ∧ ¬ d.sys.brownout then
      (d.modTx p fun t => { t with driver := true, delay := true }).txRefresh p
    else d

/-- TX_DRV_DELAY_END (06 Table 6.3 steps 3 and 4). -/
def execTxDrvDelayEnd (p : Port) (s : State) : Host.Outcome State Fault Refusal :=
  run s fun d => if (d.prt p).tx.delay then (d.modTx p fun t => { t with delay := false }).txRefresh p else d

/-- HOST_LOSS (06 R229): a host loss that is still in force has lasted 2 µs, and sets the transmitter's state. -/
def execHostLoss (p : Port) (s : State) : Host.Outcome State Fault Refusal :=
  run s fun d =>
    if d.on (LPn_TX_STATUS_HOST_LOST p) then (d.modTx p fun t => { t with hostOut := true }).txRefresh p else d

/-- LF_NOTICE_REPEAT (06 R231, 08 Table 8.11). -/
def execLfNoticeRepeat (p : Port) (s : State) : Host.Outcome State Fault Refusal :=
  run s fun d =>
    if bothPairs.any fun x => d.get (LPn_TX_STATUS_TXS p x) == txLf then
      d.lmcTell p mtNotice (if (d.prt p).tx.quenchLf then pay 2 ++ pay 3 else pay 1 ++ pay 1)
    else d

end Sys2Proof.Machine
end

