-- ==== Sys2Proof/Machine/Dispatch.lean ====
section
/-! DEFINITION. Every command and its meaning. -/

namespace Sys2Proof.Machine

def exec (i : Instr) (s : State) : Host.Outcome State Fault Refusal :=
  match i with
  | .registerWrite t tgt v => Sys2Proof.Machine.execRegisterWrite t tgt v s
  | .latchedLoRead t tgt => Sys2Proof.Machine.execLatchedLoRead t tgt s
  | .timingSourceLock x => Sys2Proof.Machine.execTimingSourceLock x s
  | .txClockReturnDone x => Sys2Proof.Machine.execTxClockReturnDone x s
  | .govIntervalEnd slack => Sys2Proof.Machine.execGovIntervalEnd slack s
  | .avsTransactionDone ok => Sys2Proof.Machine.execAvsTransactionDone ok s
  | .avsFaultRetry => Sys2Proof.Machine.execAvsFaultRetry s
  | .govDownHoldEnd => Sys2Proof.Machine.execGovDownHoldEnd s
  | .atCeiling => Sys2Proof.Machine.execAtCeiling s
  | .govCeilingLower => Sys2Proof.Machine.execGovCeilingLower s
  | .atCeilingClear => Sys2Proof.Machine.execAtCeilingClear s
  | .govCeilingRaise => Sys2Proof.Machine.execGovCeilingRaise s
  | .slip b n => Sys2Proof.Machine.execSlip b n s
  | .slipComplete p rx => Sys2Proof.Machine.execSlipComplete p rx s
  | .powerCap d => Sys2Proof.Machine.execPowerCap d s
  | .capEvalWindowEnd => Sys2Proof.Machine.execCapEvalWindowEnd s
  | .capWithdrawTimer => Sys2Proof.Machine.execCapWithdrawTimer s
  | .rssiUpdate p x code => Sys2Proof.Machine.execRssiUpdate p x code s
  | .gainLoopUpdate p x sumSq n clipped => Sys2Proof.Machine.execGainLoopUpdate p x sumSq n clipped s
  | .gainModeWrite t p v => Sys2Proof.Machine.execGainModeWrite t p v s
  | .calStepStart p x => Sys2Proof.Machine.execCalStepStart p x s
  | .calWindowEnd p x m => Sys2Proof.Machine.execCalWindowEnd p x m s
  | .temperTick p x => Sys2Proof.Machine.execTemperTick p x s
  | .healthWindowEnd p x h => Sys2Proof.Machine.execHealthWindowEnd p x h s
  | .startupCalDone p runs => Sys2Proof.Machine.execStartupCalDone p runs s
  | .adcHoldExpire p => Sys2Proof.Machine.execAdcHoldExpire p s
  | .adcCalHoldWrite t p v => Sys2Proof.Machine.execAdcCalHoldWrite t p v s
  | .adcCalStatus d => Sys2Proof.Machine.execAdcCalStatus d s
  | .adcCalCycle d => Sys2Proof.Machine.execAdcCalCycle d s
  | .adcCalHold d => Sys2Proof.Machine.execAdcCalHold d s
  | .adcCalRelease d => Sys2Proof.Machine.execAdcCalRelease d s
  | .adcCalRequalify d => Sys2Proof.Machine.execAdcCalRequalify d s
  | .adcCalTrimDump d => Sys2Proof.Machine.execAdcCalTrimDump d s
  | .convergenceWindowEnd p x => Sys2Proof.Machine.execConvergenceWindowEnd p x s
  | .eqSnapshotTimer p x => Sys2Proof.Machine.execEqSnapshotTimer p x s
  | .recoverTimeout p x => Sys2Proof.Machine.execRecoverTimeout p x s
  | .swFreezeWrite t p v => Sys2Proof.Machine.execSwFreezeWrite t p v s
  | .cdrUpdate p a b => Sys2Proof.Machine.execCdrUpdate p a b s
  | .metricWindowEnd p => Sys2Proof.Machine.execMetricWindowEnd p s
  | .eyeScan d => Sys2Proof.Machine.execEyeScan d s
  | .eyeScanPointEnd p x => Sys2Proof.Machine.execEyeScanPointEnd p x s
  | .captureAdc d => Sys2Proof.Machine.execCaptureAdc d s
  | .captureTrigger p => Sys2Proof.Machine.execCaptureTrigger p s
  | .captureStop p => Sys2Proof.Machine.execCaptureStop p s
  | .captureTimeout p => Sys2Proof.Machine.execCaptureTimeout p s
  | .captureRead d => Sys2Proof.Machine.execCaptureRead d s
  | .hybridTrialEnd p x meanSq => Sys2Proof.Machine.execHybridTrialEnd p x meanSq s
  | .sparseSearchSegmentEnd p x => Sys2Proof.Machine.execSparseSearchSegmentEnd p x s
  | .erleWindowEnd p x => Sys2Proof.Machine.execErleWindowEnd p x s
  | .fdReady p f quietLen erleA snrB hybA => Sys2Proof.Machine.execFdReady p f quietLen erleA snrB hybA s
  | .fdQuiet p got len => Sys2Proof.Machine.execFdQuiet p got len s
  | .fdWindowStart p => Sys2Proof.Machine.execFdWindowStart p s
  | .fdWindowEnd p => Sys2Proof.Machine.execFdWindowEnd p s
  | .fdGapEnd p skew => Sys2Proof.Machine.execFdGapEnd p skew s
  | .fdConfirm p f snrA snrB erleB skew => Sys2Proof.Machine.execFdConfirm p f snrA snrB erleB skew s
  | .fdAbandon p f reason attempt => Sys2Proof.Machine.execFdAbandon p f reason attempt s
  | .fdStepTimeout p lmc => Sys2Proof.Machine.execFdStepTimeout p lmc s
  | .cableDiag d => Sys2Proof.Machine.execCableDiag d s
  | .cableDiagProbeDone p res => Sys2Proof.Machine.execCableDiagProbeDone p res s
  | .coefReq p f op tap pair => Sys2Proof.Machine.execCoefReq p f op tap pair s
  | .txDriverSettled p => Sys2Proof.Machine.execTxDriverSettled p s
  | .txDrvDelayEnd p => Sys2Proof.Machine.execTxDrvDelayEnd p s
  | .txSquelchEnd p => Sys2Proof.Machine.execTxSquelchEnd p s
  | .hostLoss p => Sys2Proof.Machine.execHostLoss p s
  | .lfNoticeRepeat p => Sys2Proof.Machine.execLfNoticeRepeat p s
  | .innerWindowStep p newest => Sys2Proof.Machine.execInnerWindowStep p newest s
  | .amGroupCheck p errs => Sys2Proof.Machine.execAmGroupCheck p errs s
  | .codewordDecode p dir cw => Sys2Proof.Machine.execCodewordDecode p dir cw s
  | .postBerInterval p => Sys2Proof.Machine.execPostBerInterval p s
  | .fecCounterClear t p v => Sys2Proof.Machine.execFecCounterClear t p v s
  | .correlatorHit p cls peak mean at_ => Sys2Proof.Machine.execCorrelatorHit p cls peak mean at_ s
  | .confirmMarkerFound p m after got => Sys2Proof.Machine.execConfirmMarkerFound p m after got s
  | .confirmTimeout p => Sys2Proof.Machine.execConfirmTimeout p s
  | .retuneDone p => Sys2Proof.Machine.execRetuneDone p s
  | .anPageRx p pg => Sys2Proof.Machine.execAnPageRx p pg s
  | .ieeeTrainingEnd p ok precode => Sys2Proof.Machine.execIeeeTrainingEnd p ok precode s
  | .trainTimeout p => Sys2Proof.Machine.execTrainTimeout p s
  | .sigdetLossTimeout p x => Sys2Proof.Machine.execSigdetLossTimeout p x s
  | .linkParam p f m => Sys2Proof.Machine.execLinkParam p f m s
  | .txTuneWindowEnd p => Sys2Proof.Machine.execTxTuneWindowEnd p s
  | .coefResp p f status tap pair value => Sys2Proof.Machine.execCoefResp p f status tap pair value s
  | .ready p f snr => Sys2Proof.Machine.execReady p f snr s
  | .dataAt p f delay => Sys2Proof.Machine.execDataAt p f delay s
  | .dataSwitch p dir => Sys2Proof.Machine.execDataSwitch p dir s
  | .remoteSnr p f snrA snrB ber => Sys2Proof.Machine.execRemoteSnr p f snrA snrB ber s
  | .eventNotice p f code sev => Sys2Proof.Machine.execEventNotice p f code sev s
  | .ack p typ seq => Sys2Proof.Machine.execAck p typ seq s
  | .lmcUserMessage p f typ data => Sys2Proof.Machine.execLmcUserMessage p f typ data s
  | .lmcFrameDiscard p why => Sys2Proof.Machine.execLmcFrameDiscard p why s
  | .lmcKeepalive p => Sys2Proof.Machine.execLmcKeepalive p s
  | .remoteSnrPeriod p => Sys2Proof.Machine.execRemoteSnrPeriod p s
  | .lmcFrameSent p => Sys2Proof.Machine.execLmcFrameSent p s
  | .lmcSend d => Sys2Proof.Machine.execLmcSend d s
  | .lmcAckTimeout p => Sys2Proof.Machine.execLmcAckTimeout p s
  | .lmcReceive d => Sys2Proof.Machine.execLmcReceive d s
  | .lmcReceiveTimeout p => Sys2Proof.Machine.execLmcReceiveTimeout p s
  | .portConfig d => Sys2Proof.Machine.execPortConfig d s
  | .portStart d => Sys2Proof.Machine.execPortStart d s
  | .portWaitTimeout p => Sys2Proof.Machine.execPortWaitTimeout p s
  | .portStop d => Sys2Proof.Machine.execPortStop d s
  | .portStopNoticeDone p => Sys2Proof.Machine.execPortStopNoticeDone p s
  | .portRetrain d => Sys2Proof.Machine.execPortRetrain d s
  | .portReset d => Sys2Proof.Machine.execPortReset d s
  | .portStatus d => Sys2Proof.Machine.execPortStatus d s
  | .remoteFaultExpire p => Sys2Proof.Machine.execRemoteFaultExpire p s
  | .hostIdleDetect p kind => Sys2Proof.Machine.execHostIdleDetect p kind s
  | .lullReq p f kind => Sys2Proof.Machine.execLullReq p f kind s
  | .lullResp p f code enterAt kind => Sys2Proof.Machine.execLullResp p f code enterAt kind s
  | .lullBackoffEnd p => Sys2Proof.Machine.execLullBackoffEnd p s
  | .lullEnterAt p => Sys2Proof.Machine.execLullEnterAt p s
  | .sleepWordRx p got => Sys2Proof.Machine.execSleepWordRx p got s
  | .lullRefresh p => Sys2Proof.Machine.execLullRefresh p s
  | .lullLost p => Sys2Proof.Machine.execLullLost p s
  | .lullWakeCause p => Sys2Proof.Machine.execLullWakeCause p s
  | .lullEnClear t p v => Sys2Proof.Machine.execLullEnClear t p v s
  | .wakeWordRx p got => Sys2Proof.Machine.execWakeWordRx p got s
  | .wakeWordTimeout p => Sys2Proof.Machine.execWakeWordTimeout p s
  | .lpiSignal p sig => Sys2Proof.Machine.execLpiSignal p sig s
  | .hostTxEiHoldEnd l => Sys2Proof.Machine.execHostTxEiHoldEnd l s
  | .hostBurstEnd l => Sys2Proof.Machine.execHostBurstEnd l s
  | .hostRxEiEnter l => Sys2Proof.Machine.execHostRxEiEnter l s
  | .hostRxEiExit l => Sys2Proof.Machine.execHostRxEiExit l s
  | .hostRxLock l => Sys2Proof.Machine.execHostRxLock l s
  | .hostCtleTrialEnd l snr => Sys2Proof.Machine.execHostCtleTrialEnd l snr s
  | .hostGroupAligned p pcs0 => Sys2Proof.Machine.execHostGroupAligned p pcs0 s
  | .hostAlignmentLoss p => Sys2Proof.Machine.execHostAlignmentLoss p s
  | .hostRxSnrWindowEnd l snr rx => Sys2Proof.Machine.execHostRxSnrWindowEnd l snr rx s
  | .hostPllRetuneDone p => Sys2Proof.Machine.execHostPllRetuneDone p s
  | .rxFreezeWrite t l v => Sys2Proof.Machine.execRxFreezeWrite t l v s
  | .hostTxTapWrite t l post v => Sys2Proof.Machine.execHostTxTapWrite t l post v s
  | .hostLaneConfig d => Sys2Proof.Machine.execHostLaneConfig d s
  | .hostLaneLoopback d => Sys2Proof.Machine.execHostLaneLoopback d s
  | .hostLanePrbsSet d => Sys2Proof.Machine.execHostLanePrbsSet d s
  | .hostLanePrbsRead d => Sys2Proof.Machine.execHostLanePrbsRead d s
  | .hostLanePrbsClear d => Sys2Proof.Machine.execHostLanePrbsClear d s
  | .hostLanePrbsReadClear d => Sys2Proof.Machine.execHostLanePrbsReadClear d s
  | .hostLaneBitslip d => Sys2Proof.Machine.execHostLaneBitslip d s
  | .laneMap d => Sys2Proof.Machine.execLaneMap d s
  | .auxUpdateTick c => Sys2Proof.Machine.execAuxUpdateTick c s
  | .auxSlewTick c => Sys2Proof.Machine.execAuxSlewTick c s
  | .auxClrAssert => Sys2Proof.Machine.execAuxClrAssert s
  | .auxClrDeassert => Sys2Proof.Machine.execAuxClrDeassert s
  | .auxPowerClear => Sys2Proof.Machine.execAuxPowerClear s
  | .auxClearWrite t c v => Sys2Proof.Machine.execAuxClearWrite t c v s
  | .loopSample l => Sys2Proof.Machine.execLoopSample l s
  | .loopOutput l late => Sys2Proof.Machine.execLoopOutput l late s
  | .loopArmTimeout l => Sys2Proof.Machine.execLoopArmTimeout l s
  | .loopRampEnd => Sys2Proof.Machine.execLoopRampEnd s
  | .loopConfig d => Sys2Proof.Machine.execLoopConfig d s
  | .loopCoeffSwap d => Sys2Proof.Machine.execLoopCoeffSwap d s
  | .loopTableLoad d => Sys2Proof.Machine.execLoopTableLoad d s
  | .loopInject d => Sys2Proof.Machine.execLoopInject d s
  | .loopCaptureArm d => Sys2Proof.Machine.execLoopCaptureArm d s
  | .loopCaptureRead d => Sys2Proof.Machine.execLoopCaptureRead d s
  | .auxDacQueue d => Sys2Proof.Machine.execAuxDacQueue d s
  | .auxDacConfig d => Sys2Proof.Machine.execAuxDacConfig d s
  | .loopRestart d => Sys2Proof.Machine.execLoopRestart d s
  | .monConversion raw => Sys2Proof.Machine.execMonConversion raw s
  | .monHealthWindowEnd codes => Sys2Proof.Machine.execMonHealthWindowEnd codes s
  | .monCalMeasureEnd m => Sys2Proof.Machine.execMonCalMeasureEnd m s
  | .monStartupCalDone runs => Sys2Proof.Machine.execMonStartupCalDone runs s
  | .monConfigInput d => Sys2Proof.Machine.execMonConfigInput d s
  | .monConfigSlots d => Sys2Proof.Machine.execMonConfigSlots d s
  | .monConfigPower d => Sys2Proof.Machine.execMonConfigPower d s
  | .monConfigCalCycle d => Sys2Proof.Machine.execMonConfigCalCycle d s
  | .monRead d => Sys2Proof.Machine.execMonRead d s
  | .monSyscalZero d => Sys2Proof.Machine.execMonSyscalZero d s
  | .monSyscalFull d => Sys2Proof.Machine.execMonSyscalFull d s
  | .monSyscalDefault d => Sys2Proof.Machine.execMonSyscalDefault d s
  | .monSyscalMeasureEnd n => Sys2Proof.Machine.execMonSyscalMeasureEnd n s
  | .cicConfig d => Sys2Proof.Machine.execCicConfig d s
  | .spiWrite addr data => Sys2Proof.Machine.execSpiWrite addr data s
  | .spiQuadWrite addr data => Sys2Proof.Machine.execSpiQuadWrite addr data s
  | .spiRead addr len => Sys2Proof.Machine.execSpiRead addr len s
  | .spiQuadRead addr len => Sys2Proof.Machine.execSpiQuadRead addr len s
  | .spiIgnoredCommand cmd => Sys2Proof.Machine.execSpiIgnoredCommand cmd s
  | .mdioDataLoRead => Sys2Proof.Machine.execMdioDataLoRead s
  | .mdioDataHiRead => Sys2Proof.Machine.execMdioDataHiRead s
  | .mdioDataLoWrite v => Sys2Proof.Machine.execMdioDataLoWrite v s
  | .mdioDataHiWrite v => Sys2Proof.Machine.execMdioDataHiWrite v s
  | .mdioWinStatusRead => Sys2Proof.Machine.execMdioWinStatusRead s
  | .mdioDbValueWrite v => Sys2Proof.Machine.execMdioDbValueWrite v s
  | .mdioPortReset p => Sys2Proof.Machine.execMdioPortReset p s
  | .mdioLinkStatusRead p => Sys2Proof.Machine.execMdioLinkStatusRead p s
  | .doorbell t ring v => Sys2Proof.Machine.execDoorbell t ring v s
  | .doorbellRead t ring => Sys2Proof.Machine.execDoorbellRead t ring s
  | .descriptorFetch a rd => Sys2Proof.Machine.execDescriptorFetch a rd s
  | .unknownOpcode d => Sys2Proof.Machine.execUnknownOpcode d s
  | .completionRelease ring => Sys2Proof.Machine.execCompletionRelease ring s
  | .nop d => Sys2Proof.Machine.execNop d s
  | .ringCreate d => Sys2Proof.Machine.execRingCreate d s
  | .ringDestroy d => Sys2Proof.Machine.execRingDestroy d s
  | .ringQuery d => Sys2Proof.Machine.execRingQuery d s
  | .eventEnable d => Sys2Proof.Machine.execEventEnable d s
  | .identify d => Sys2Proof.Machine.execIdentify d s
  | .coalTimerExpire ring => Sys2Proof.Machine.execCoalTimerExpire ring s
  | .telemetryStream d => Sys2Proof.Machine.execTelemetryStream d s
  | .telemetryPeriod ring => Sys2Proof.Machine.execTelemetryPeriod ring s
  | .adminEnable t v => Sys2Proof.Machine.execAdminEnable t v s
  | .adminDisable t v => Sys2Proof.Machine.execAdminDisable t v s
  | .ctrConfigWrite d => Sys2Proof.Machine.execCtrConfigWrite d s
  | .ctrConfigClear d => Sys2Proof.Machine.execCtrConfigClear d s
  | .ctrSnapshot d => Sys2Proof.Machine.execCtrSnapshot d s
  | .ctrSnapshotClear d => Sys2Proof.Machine.execCtrSnapshotClear d s
  | .ctrFreeze d => Sys2Proof.Machine.execCtrFreeze d s
  | .ctrUnfreeze d => Sys2Proof.Machine.execCtrUnfreeze d s
  | .ctrReadCounters d => Sys2Proof.Machine.execCtrReadCounters d s
  | .ctrReadSamples d => Sys2Proof.Machine.execCtrReadSamples d s
  | .scrubTick m upset glitch => Sys2Proof.Machine.execScrubTick m upset glitch s
  | .bucketLeak m => Sys2Proof.Machine.execBucketLeak m s
  | .memScrubConfig d => Sys2Proof.Machine.execMemScrubConfig d s
  | .memTestWrite d => Sys2Proof.Machine.execMemTestWrite d s
  | .memRead d => Sys2Proof.Machine.execMemRead d s
  | .memWrite d => Sys2Proof.Machine.execMemWrite d s
  | .checkRunCompute d => Sys2Proof.Machine.execCheckRunCompute d s
  | .checkRunVerifyMem d => Sys2Proof.Machine.execCheckRunVerifyMem d s
  | .checkRunVerifyParam d => Sys2Proof.Machine.execCheckRunVerifyParam d s
  | .checkRunAppend d => Sys2Proof.Machine.execCheckRunAppend d s
  | .checkRunEnd ck reread => Sys2Proof.Machine.execCheckRunEnd ck reread s
  | .checkContextSave d => Sys2Proof.Machine.execCheckContextSave d s
  | .checkContextLoad d => Sys2Proof.Machine.execCheckContextLoad d s
  | .chkValueCommit t ck v => Sys2Proof.Machine.execChkValueCommit t ck v s
  | .retainEntryBegin => Sys2Proof.Machine.execRetainEntryBegin s
  | .retainSaveDone => Sys2Proof.Machine.execRetainSaveDone s
  | .retainSignaturesDone => Sys2Proof.Machine.execRetainSignaturesDone s
  | .retainPowerDownDone => Sys2Proof.Machine.execRetainPowerDownDone s
  | .linkWakeDetect p => Sys2Proof.Machine.execLinkWakeDetect p s
  | .wakeReqWrite t v => Sys2Proof.Machine.execWakeReqWrite t v s
  | .vddCoreReady => Sys2Proof.Machine.execVddCoreReady s
  | .pllReady => Sys2Proof.Machine.execPllReady s
  | .memReady upsets => Sys2Proof.Machine.execMemReady upsets s
  | .logicReady periods => Sys2Proof.Machine.execLogicReady periods s
  | .wakeStepTimeout => Sys2Proof.Machine.execWakeStepTimeout s
  | .spiLingerExpire => Sys2Proof.Machine.execSpiLingerExpire s
  | .powerVoteHold d => Sys2Proof.Machine.execPowerVoteHold d s
  | .powerVoteRelease d => Sys2Proof.Machine.execPowerVoteRelease d s
  | .powerVoteEnter d => Sys2Proof.Machine.execPowerVoteEnter d s
  | .powerVoteEnterTimeout => Sys2Proof.Machine.execPowerVoteEnterTimeout s
  | .powerVoteDoze d => Sys2Proof.Machine.execPowerVoteDoze d s
  | .powerVoteDozeTimeout ring tag => Sys2Proof.Machine.execPowerVoteDozeTimeout ring tag s
  | .powerVoteWake d => Sys2Proof.Machine.execPowerVoteWake d s
  | .dozeEntryDone p => Sys2Proof.Machine.execDozeEntryDone p s
  | .dozeWakeDone p upsets => Sys2Proof.Machine.execDozeWakeDone p upsets s
  | .powerStats d => Sys2Proof.Machine.execPowerStats d s
  | .zonePowerSample r => Sys2Proof.Machine.execZonePowerSample r s
  | .thermalModelUpdate => Sys2Proof.Machine.execThermalModelUpdate s
  | .reportStale => Sys2Proof.Machine.execReportStale s
  | .thermalGuardTick => Sys2Proof.Machine.execThermalGuardTick s
  | .throttleSubstepTimer => Sys2Proof.Machine.execThrottleSubstepTimer s
  | .throttleWithdrawTimer => Sys2Proof.Machine.execThrottleWithdrawTimer s
  | .quenchLfTimeEnd => Sys2Proof.Machine.execQuenchLfTimeEnd s
  | .quenchFlushDone => Sys2Proof.Machine.execQuenchFlushDone s
  | .quenchHoldEnd => Sys2Proof.Machine.execQuenchHoldEnd s
  | .caseWakeConversion code => Sys2Proof.Machine.execCaseWakeConversion code s
  | .thermalStatus d => Sys2Proof.Machine.execThermalStatus d s
  | .caseTempReport d => Sys2Proof.Machine.execCaseTempReport d s
  | .evrFlushTimer => Sys2Proof.Machine.execEvrFlushTimer s
  | .flashOperationDone ok c => Sys2Proof.Machine.execFlashOperationDone ok c s
  | .powerFail => Sys2Proof.Machine.execPowerFail s
  | .powerFailEnd => Sys2Proof.Machine.execPowerFailEnd s
  | .hoursTick => Sys2Proof.Machine.execHoursTick s
  | .lifetimeWriteTimer => Sys2Proof.Machine.execLifetimeWriteTimer s
  | .evrRead d => Sys2Proof.Machine.execEvrRead d s
  | .evrFreeze d => Sys2Proof.Machine.execEvrFreeze d s
  | .evrRelease d => Sys2Proof.Machine.execEvrRelease d s
  | .evrFreezeExpire => Sys2Proof.Machine.execEvrFreezeExpire s
  | .evrClear d => Sys2Proof.Machine.execEvrClear d s
  | .traceRead d => Sys2Proof.Machine.execTraceRead d s
  | .evrCursorWrite t v => Sys2Proof.Machine.execEvrCursorWrite t v s
  | .evrWin15Read t => Sys2Proof.Machine.execEvrWin15Read t s
  | .rtcSecond => Sys2Proof.Machine.execRtcSecond s
  | .rtcCorrection => Sys2Proof.Machine.execRtcCorrection s
  | .rtcSet d => Sys2Proof.Machine.execRtcSet d s
  | .rtcGet d => Sys2Proof.Machine.execRtcGet d s
  | .xtalStopped => Sys2Proof.Machine.execXtalStopped s
  | .powerOnReset vbatKept => Sys2Proof.Machine.execPowerOnReset vbatKept s
  | .supplyGood strap => Sys2Proof.Machine.execSupplyGood strap s
  | .resetN strap => Sys2Proof.Machine.execResetN strap s
  | .hostHardReset k => Sys2Proof.Machine.execHostHardReset k s
  | .softReset d => Sys2Proof.Machine.execSoftReset d s
  | .coreRestart => Sys2Proof.Machine.execCoreRestart s
  | .watchdogExpire pc => Sys2Proof.Machine.execWatchdogExpire pc s
  | .bootImageLoaded a b => Sys2Proof.Machine.execBootImageLoaded a b s
  | .cfgAutoWrite typ => Sys2Proof.Machine.execCfgAutoWrite typ s
  | .cfgWrite d => Sys2Proof.Machine.execCfgWrite d s
  | .cfgRead d => Sys2Proof.Machine.execCfgRead d s
  | .fwLoad d => Sys2Proof.Machine.execFwLoad d s
  | .fwActivateSwitch d => Sys2Proof.Machine.execFwActivateSwitch d s
  | .fwActivateTrial d => Sys2Proof.Machine.execFwActivateTrial d s
  | .fwActivateCommit d => Sys2Proof.Machine.execFwActivateCommit d s
  | .fwActivateRaiseRollback d => Sys2Proof.Machine.execFwActivateRaiseRollback d s
  | .fwSwitchVerifyDone c => Sys2Proof.Machine.execFwSwitchVerifyDone c s
  | .fwSwitchLoadDone hashOk => Sys2Proof.Machine.execFwSwitchLoadDone hashOk s
  | .fwSwitchResume => Sys2Proof.Machine.execFwSwitchResume s
  | .brownout rail => Sys2Proof.Machine.execBrownout rail s
  | .brownoutRecovery strap => Sys2Proof.Machine.execBrownoutRecovery strap s
  | .refclkLost c => Sys2Proof.Machine.execRefclkLost c s
  | .refclkHoldAged c => Sys2Proof.Machine.execRefclkHoldAged c s
  | .refclkReturn c => Sys2Proof.Machine.execRefclkReturn c s
  | .jtagReset => Sys2Proof.Machine.execJtagReset s
  | .extest cells => Sys2Proof.Machine.execExtest cells s
  | .samplePreload pins cells => Sys2Proof.Machine.execSamplePreload pins cells s
  | .idcode => Sys2Proof.Machine.execIdcode s
  | .highz => Sys2Proof.Machine.execHighz s
  | .clamp => Sys2Proof.Machine.execClamp s
  | .extestPulse cells => Sys2Proof.Machine.execExtestPulse cells s
  | .extestTrain cells => Sys2Proof.Machine.execExtestTrain cells s
  | .bypass opcode => Sys2Proof.Machine.execBypass opcode s
  | .laneCdrLost l => Sys2Proof.Machine.execLaneCdrLost l s
  | .checkerLock l => Sys2Proof.Machine.execCheckerLock l s
  | .checkerLockLoss l bits errors => Sys2Proof.Machine.execCheckerLockLoss l bits errors s
  | .syncHeaderLoss p => Sys2Proof.Machine.execSyncHeaderLoss p s
  | .trainingMarkersMissed p => Sys2Proof.Machine.execTrainingMarkersMissed p s
  | .anTimerExpiry p restart => Sys2Proof.Machine.execAnTimerExpiry p restart s
  | .refreshBurstRx p => Sys2Proof.Machine.execRefreshBurstRx p s
  | .pcieMemoryRequest r => Sys2Proof.Machine.execPcieMemoryRequest r s
  | .pcieResetEnd strap => Sys2Proof.Machine.execPcieResetEnd strap s
  | .xtalRestart => Sys2Proof.Machine.execXtalRestart s
  | .coreHalt => Sys2Proof.Machine.execCoreHalt s
  | .coreRun => Sys2Proof.Machine.execCoreRun s

end Sys2Proof.Machine
end

