-- ==== Sys2Proof/Machine/Tick.lean ====
section
/-! DEFINITION. One nanosecond in which no command acts: the timebase, what the counters count of it, and the crystal's
periods (14 R485, 18 R589, R590; DESIGN CHOICE, log entry 3). -/

namespace Sys2Proof.Machine

open Reg

/-- The nanosecond counted by every counter in mode TIME whose condition holds (14 Table 14.2). -/
def Dev.tickCounters (s : Dev) : Dev :=
  s.each (List.range 64) fun s m =>
    if s.get (CTR_m_CFG_MODE m) = 4 ∧ s.condition (s.get (CTR_m_CFG_EVENT m)) (s.get (CTR_m_CFG_INSTANCE m)) then s.ctrAdd m 1 else s

/-- Whole periods of the 32.768 kHz crystal in t ns. -/
def crystalPeriods (t : Nat) : Nat := t * 32768 / 1000000000

/-- The crystal's periods of the nanosecond, less those that a correction skips, short of the next second (18 R590, R591). -/
def Dev.tickCrystal (s : Dev) : Dev :=
  let n := crystalPeriods (s.timebase + 1) - crystalPeriods s.timebase
  if n = 0 ∨ ¬ s.on GLB_HW_STATUS_XTAL_OK then s
  else if s.rtc.skip ≠ 0 then { s with rtc := { s.rtc with skip := s.rtc.skip - 1 } }
  else if s.rtc.sub < 32767 then { s with rtc := { s.rtc with sub := s.rtc.sub + 1 } }
  else s

/-- The governor goes on 2 µs after its last step (02 R59–R61). -/
def Dev.tickGov (s : Dev) : Dev := if s.gov.stepAt.any fun t => t + 2000 == s.timebase then s.govRun else s

/-- The instructions that the management core retires in the nanosecond, where a counter watches them (14 Table 14.1: 0x08). How
many is free (log entry 112). -/
def Dev.tickCore (s : Dev) : Dev :=
  if s.coreRuns ∧ (List.range 64).any fun m => s.ctrMatches m 0x08 0 then
    s.draw.each (List.range (Config.coreRetired s.draws)) fun s _ => s.count 0x08 0
  else s

/-- One nanosecond of the 1 ns timebase. In RETAIN and WAKING it stands still until LOGIC_READY (16 R542), and without
supplies nothing runs. -/
def Dev.tick (s : Dev) : Dev :=
  if s.sys.core = .off ∨ 2 ≤ s.get PWR_STATE_STATE then s
  else
    let s := s.tickCrystal.tickCounters.tickCore
    let s := Dev.tickGov { s with timebase := (s.timebase + 1) % 2 ^ 64 }
    if s.timebase % 1000 = 0 then s.count 0x01 0 else s

/-- A step with no command waiting. -/
def idle (s : State) : Host.Outcome State Fault Refusal := run s fun d => d.tick

end Sys2Proof.Machine
end

