-- ==== Sys2Proof/Machine/Step.lean ====
section
/-! DEFINITION. One step of the block: the command at the front of the queue acts; with no command waiting, the block's own
clock runs on by 1 ns (18 R589). -/

namespace Sys2Proof.Machine

/-- One step. A command leaves the queue before it acts. An empty queue lets 1 ns of the timebase pass (log entry 3). -/
def step (s : State) : Host.Outcome State Fault Refusal :=
  match s.pending with
  | [] => idle s
  | c :: r => exec c { s with pending := r }

/-- The state with the command that a word spells put at the front of its queue; no row of the table gives bits, so no
word spells one. -/
def State.withFetchWord (s : State) (nbits w : Nat) : State :=
  match decodeTableWord nbits w with
  | some c => { s with pending := c :: s.pending }
  | none => s

end Sys2Proof.Machine
end

