-- ==== Sys2Proof/WellFormed.lean ====
section
/-! DEFINITION. Which terms of Instr are commands that the world can send: a descriptor command carries its row's opcode and
action (13 Table 13.10), a message field fits its bytes, a measurement its range. The meanings are total and do not ask. -/

namespace Sys2Proof

open Machine

/-- The opcodes of Table 13.10. -/
def listedOpcodes : List Nat :=
  [0x00, 0x01, 0x02, 0x03, 0x04, 0x05, 0x10, 0x11, 0x12, 0x13, 0x14, 0x15, 0x16, 0x17, 0x18, 0x19, 0x1A, 0x20, 0x21, 0x22,
   0x23, 0x24, 0x30, 0x31, 0x32, 0x33, 0x34, 0x35, 0x36, 0x37, 0x40, 0x41, 0x42, 0x43, 0x50, 0x51, 0x52, 0x60, 0x61, 0x62,
   0x63, 0x70, 0x71, 0x72, 0x73, 0x74, 0x75, 0x80, 0x81, 0x82, 0x83, 0x84, 0x90, 0x91, 0x92, 0x93, 0x94, 0xA0, 0xA1, 0xA2,
   0xA3, 0xB0, 0xB1]

/-- The instruction codes of the test access port other than BYPASS (20 Table 20.14). -/
def jtagOpcodes : List Nat := [0x00, 0x01, 0x02, 0x03, 0x04, 0x05, 0x06]

/-- Every value fits a byte. -/
def bytes (l : List Nat) : Bool := l.all fun x => decide (x < 256)

/-- A block holds 256 samples (04 R152). -/
def blkWf (b : Blk) : Bool := b.samples.length == 256

/-- A flipped word lies within its memory (15 Table 15.1). -/
def upsetWf (u : Upset) : Bool := decide (u.word < memWords u.mem)

/-- A register access names an aligned register of the map, a double word of the MSI-X table or its pending bits, or a register
of an MDIO device at a port address (13 R441, R445, R446). -/
def targetWf : RegTarget → Bool
  | .setup off => off.toNat % 4 == 0
  | .msix off => off.toNat % 4 == 0 && decide (off.toNat < 0x600)
  | .mdio prtad mmd reg => decide (prtad < 32) && decide (mmd < 32) && decide (reg < 65536)

/-- Whether a term is a command of the table as the world sends it. -/
def Instr.wf : Instr → Bool
  | .registerWrite _ tgt _ => targetWf tgt
  | .latchedLoRead _ tgt => targetWf tgt
  | .timingSourceLock _ => true
  | .txClockReturnDone _ => true
  | .govIntervalEnd seen => decide (seen.map (·.bound)).Nodup && seen.all fun o => o.worst ≤ 8192 && o.now ≤ 8192
  | .avsTransactionDone _ => true
  | .avsFaultRetry => true
  | .govDownHoldEnd => true
  | .atCeiling => true
  | .govCeilingLower => true
  | .atCeilingClear => true
  | .govCeilingRaise => true
  | .slip _ _ => true
  | .slipComplete _ _ => true
  | .powerCap d => d.opcode == 0x82
  | .capEvalWindowEnd => true
  | .capWithdrawTimer => true
  | .rssiUpdate _ _ code => decide (code < 256)
  | .gainLoopUpdate _ _ _ n clipped => decide (0 < n ∧ clipped ≤ n)
  | .gainModeWrite _ _ _ => true
  | .calStepStart _ _ => true
  | .calWindowEnd _ _ _ => true
  | .temperTick _ _ => true
  | .healthWindowEnd _ _ h => h.all fun x => decide (x.pos < 64)
  | .startupCalDone _ runs => runs.all fun r => decide (r.slice < 66)
  | .adcHoldExpire _ => true
  | .adcCalHoldWrite _ _ _ => true
  | .adcCalStatus d => d.opcode == 0x1A && d.byte 18 == 0
  | .adcCalCycle d => d.opcode == 0x1A && d.byte 18 == 1
  | .adcCalHold d => d.opcode == 0x1A && d.byte 18 == 2
  | .adcCalRelease d => d.opcode == 0x1A && d.byte 18 == 3
  | .adcCalRequalify d => d.opcode == 0x1A && d.byte 18 == 4
  | .adcCalTrimDump d => d.opcode == 0x1A && d.byte 18 == 5
  | .convergenceWindowEnd _ _ => true
  | .eqSnapshotTimer _ _ => true
  | .recoverTimeout _ _ => true
  | .swFreezeWrite _ _ _ => true
  | .cdrUpdate _ a b => a.all blkWf && b.all blkWf
  | .metricWindowEnd _ => true
  | .eyeScan d => d.opcode == 0x19
  | .eyeScanPointEnd _ _ => true
  | .captureAdc d => d.opcode == 0xB0
  | .captureTrigger _ => true
  | .captureStop _ => true
  | .captureTimeout _ => true
  | .captureRead d => d.opcode == 0xB1
  | .hybridTrialEnd _ _ _ => true
  | .sparseSearchSegmentEnd _ _ => true
  | .erleWindowEnd _ _ => true
  | .fdReady _ _ q a b h => bytes [q, a, b, h]
  | .fdQuiet _ _ _ => true
  | .fdWindowStart _ => true
  | .fdWindowEnd _ => true
  | .fdGapEnd _ _ => true
  | .fdConfirm _ _ a b e _ => bytes [a, b, e]
  | .fdAbandon _ _ r a => bytes [r, a]
  | .fdStepTimeout _ _ => true
  | .cableDiag d => d.opcode == 0x16
  | .cableDiagProbeDone _ res => decide (res.map (·.pair)).Nodup
  | .coefReq _ _ op tap pair => bytes [op, tap, pair]
  | .txDriverSettled _ => true
  | .txDrvDelayEnd _ => true
  | .txSquelchEnd _ => true
  | .hostLoss _ => true
  | .lfNoticeRepeat _ => true
  | .innerWindowStep _ _ => true
  | .amGroupCheck _ _ => true
  | .codewordDecode _ _ cw => (cw.length == 0 || cw.length == 66 || cw.length == 544) && cw.all fun x => decide (x < 1024)
  | .postBerInterval _ => true
  | .fecCounterClear _ _ _ => true
  | .correlatorHit _ cls _ _ _ => decide (cls < 9)
  | .confirmMarkerFound _ _ after _ => decide (after ≤ 2050)
  | .confirmTimeout _ => true
  | .retuneDone _ => true
  | .anPageRx _ _ => true
  | .ieeeTrainingEnd _ _ _ => true
  | .trainTimeout _ => true
  | .sigdetLossTimeout _ _ => true
  | .linkParam _ _ m => decide (m.mode < 16 ∧ m.nonce < 65536)
  | .txTuneWindowEnd _ => true
  | .coefResp _ _ st tap pair v => bytes [st, tap, pair, v]
  | .ready _ _ snr => bytes [snr]
  | .dataAt _ _ delay => bytes [delay]
  | .dataSwitch _ _ => true
  | .remoteSnr _ _ a b ber => bytes [a, b] && decide (ber < 65536)
  | .eventNotice _ _ code sev => bytes [code, sev]
  | .ack _ typ seq => bytes [typ, seq]
  | .lmcUserMessage _ _ typ data => decide (0x40 ≤ typ ∧ typ ≤ 0x7F ∧ data.length ≤ 64)
  | .lmcFrameDiscard _ _ => true
  | .lmcKeepalive _ => true
  | .remoteSnrPeriod _ => true
  | .lmcFrameSent _ => true
  | .lmcSend d => d.opcode == 0x17
  | .lmcAckTimeout _ => true
  | .lmcReceive d => d.opcode == 0x18
  | .lmcReceiveTimeout _ => true
  | .portConfig d => d.opcode == 0x10
  | .portStart d => d.opcode == 0x11
  | .portWaitTimeout _ => true
  | .portStop d => d.opcode == 0x12
  | .portStopNoticeDone _ => true
  | .portRetrain d => d.opcode == 0x15
  | .portReset d => d.opcode == 0x13
  | .portStatus d => d.opcode == 0x14
  | .remoteFaultExpire _ => true
  | .hostIdleDetect _ kind => decide (1 ≤ kind ∧ kind ≤ 2)
  | .lullReq _ _ kind => bytes [kind]
  | .lullResp _ _ code at_ kind => bytes [code, at_, kind]
  | .lullBackoffEnd _ => true
  | .lullEnterAt _ => true
  | .sleepWordRx _ got => decide (got.length ≤ 32)
  | .lullRefresh _ => true
  | .lullLost _ => true
  | .lullWakeCause _ => true
  | .lullEnClear _ _ _ => true
  | .wakeWordRx _ got => decide (got.length ≤ 32)
  | .wakeWordTimeout _ => true
  | .lpiSignal _ _ => true
  | .hostTxEiHoldEnd _ => true
  | .hostBurstEnd _ => true
  | .hostRxEiEnter _ => true
  | .hostRxEiExit _ => true
  | .hostRxLock _ => true
  | .hostCtleTrialEnd _ snr => bytes [snr]
  | .hostGroupAligned _ _ => true
  | .hostAlignmentLoss _ => true
  | .hostRxSnrWindowEnd _ snr rx => bytes [snr] && rx.all fun g => decide (g < 4)
  | .hostPllRetuneDone _ => true
  | .rxFreezeWrite _ _ _ => true
  | .hostTxTapWrite _ _ _ _ => true
  | .hostLaneConfig d => d.opcode == 0x20
  | .hostLaneLoopback d => d.opcode == 0x21
  | .hostLanePrbsSet d => d.opcode == 0x22 && d.bits 18 1 0 == 0
  | .hostLanePrbsRead d => d.opcode == 0x22 && d.bits 18 1 0 == 1
  | .hostLanePrbsClear d => d.opcode == 0x22 && d.bits 18 1 0 == 2
  | .hostLanePrbsReadClear d => d.opcode == 0x22 && d.bits 18 1 0 == 3
  | .hostLaneBitslip d => d.opcode == 0x23
  | .laneMap d => d.opcode == 0x24
  | .auxUpdateTick _ => true
  | .auxSlewTick _ => true
  | .auxClrAssert => true
  | .auxClrDeassert => true
  | .auxPowerClear => true
  | .auxClearWrite _ _ _ => true
  | .loopSample _ => true
  | .loopOutput _ _ => true
  | .loopArmTimeout _ => true
  | .loopRampEnd => true
  | .loopConfig d => d.opcode == 0x30
  | .loopCoeffSwap d => d.opcode == 0x31
  | .loopTableLoad d => d.opcode == 0x32
  | .loopInject d => d.opcode == 0x33
  | .loopCaptureArm d => d.opcode == 0x34 && !d.flag 17 0
  | .loopCaptureRead d => d.opcode == 0x34 && d.flag 17 0
  | .auxDacQueue d => d.opcode == 0x35
  | .auxDacConfig d => d.opcode == 0x36
  | .loopRestart d => d.opcode == 0x37
  | .monConversion _ => true
  | .monHealthWindowEnd codes => codes.length == 256 && codes.all fun c => decide (c.1 < 4096) && decide (c.2 < 4096)
  | .monCalMeasureEnd _ => true
  | .monStartupCalDone runs => runs.all fun r => decide (r.slice < 5)
  | .monConfigInput d => d.opcode == 0x40 && d.bits 16 1 0 == 0
  | .monConfigSlots d => d.opcode == 0x40 && d.bits 16 1 0 == 1
  | .monConfigPower d => d.opcode == 0x40 && d.bits 16 1 0 == 2
  | .monConfigCalCycle d => d.opcode == 0x40 && d.bits 16 1 0 == 3
  | .monRead d => d.opcode == 0x41
  | .monSyscalZero d => d.opcode == 0x42 && d.bits 17 1 0 == 0
  | .monSyscalFull d => d.opcode == 0x42 && d.bits 17 1 0 == 1
  | .monSyscalDefault d => d.opcode == 0x42 && d.bits 17 1 0 == 2
  | .monSyscalMeasureEnd _ => true
  | .cicConfig d => d.opcode == 0x43
  | .spiWrite _ data => data.length != 0
  | .spiQuadWrite _ data => data.length != 0
  | .spiRead _ len => len != 0
  | .spiQuadRead _ len => len != 0
  | .spiIgnoredCommand cmd => !spiCommands.contains cmd
  | .mdioDataLoRead => true
  | .mdioDataHiRead => true
  | .mdioDataLoWrite _ => true
  | .mdioDataHiWrite _ => true
  | .mdioWinStatusRead => true
  | .mdioDbValueWrite _ => true
  | .mdioPortReset _ => true
  | .mdioLinkStatusRead _ => true
  | .doorbell _ _ _ => true
  | .doorbellRead _ _ => true
  | .descriptorFetch _ _ => true
  | .unknownOpcode d => !listedOpcodes.contains d.opcode
  | .completionRelease _ => true
  | .nop d => d.opcode == 0x00
  | .ringCreate d => d.opcode == 0x01
  | .ringDestroy d => d.opcode == 0x02
  | .ringQuery d => d.opcode == 0x03
  | .eventEnable d => d.opcode == 0x04
  | .identify d => d.opcode == 0x05
  | .coalTimerExpire _ => true
  | .telemetryStream d => d.opcode == 0xA3
  | .telemetryPeriod _ => true
  | .adminEnable _ _ => true
  | .adminDisable _ _ => true
  | .ctrConfigWrite d => d.opcode == 0xA0 && !d.flag 17 0
  | .ctrConfigClear d => d.opcode == 0xA0 && d.flag 17 0
  | .ctrSnapshot d => d.opcode == 0xA1 && d.bits 16 2 0 == 0
  | .ctrSnapshotClear d => d.opcode == 0xA1 && d.bits 16 2 0 == 1
  | .ctrFreeze d => d.opcode == 0xA1 && d.bits 16 2 0 == 2
  | .ctrUnfreeze d => d.opcode == 0xA1 && d.bits 16 2 0 == 3
  | .ctrReadCounters d => d.opcode == 0xA2 && d.bits 16 1 0 != 2
  | .ctrReadSamples d => d.opcode == 0xA2 && d.bits 16 1 0 == 2
  | .scrubTick _ _ _ => true
  | .bucketLeak _ => true
  | .memScrubConfig d => d.opcode == 0x60
  | .memTestWrite d => d.opcode == 0x61
  | .memRead d => d.opcode == 0x62
  | .memWrite d => d.opcode == 0x63
  | .checkRunCompute d => d.opcode == 0x50 && d.bits 17 1 0 == 0
  | .checkRunVerifyMem d => d.opcode == 0x50 && d.bits 17 1 0 == 1
  | .checkRunVerifyParam d => d.opcode == 0x50 && d.bits 17 1 0 == 2
  | .checkRunAppend d => d.opcode == 0x50 && d.bits 17 1 0 == 3
  | .checkRunEnd _ _ => true
  | .checkContextSave d => d.opcode == 0x51
  | .checkContextLoad d => d.opcode == 0x52
  | .chkValueCommit _ _ _ => true
  | .retainEntryBegin => true
  | .retainSaveDone => true
  | .retainSignaturesDone => true
  | .retainPowerDownDone => true
  | .linkWakeDetect _ => true
  | .wakeReqWrite _ _ => true
  | .vddCoreReady => true
  | .pllReady => true
  | .memReady upsets => upsets.all upsetWf
  | .logicReady _ => true
  | .wakeStepTimeout => true
  | .spiLingerExpire => true
  | .powerVoteHold d => d.opcode == 0x80 && !voteBad d && voteTarget d == 0 && voteAction d == 0
  | .powerVoteRelease d => d.opcode == 0x80 && !voteBad d && voteTarget d == 0 && voteAction d == 1
  | .powerVoteEnter d => d.opcode == 0x80 && !voteBad d && voteTarget d == 0 && decide (2 ≤ voteAction d)
  | .powerVoteEnterTimeout => true
  | .powerVoteDoze d => d.opcode == 0x80 && !voteBad d && voteTarget d != 0 && voteAction d != 0
  | .powerVoteDozeTimeout _ tag => decide (tag < 65536)
  | .powerVoteWake d => d.opcode == 0x80 && !voteBad d && voteTarget d != 0 && voteAction d == 0
  | .dozeEntryDone _ => true
  | .dozeWakeDone _ upsets => upsets.all upsetWf
  | .powerStats d => d.opcode == 0x81
  | .zonePowerSample r => r.length == 12
  | .thermalModelUpdate => true
  | .reportStale => true
  | .thermalGuardTick => true
  | .throttleSubstepTimer => true
  | .throttleWithdrawTimer => true
  | .quenchLfTimeEnd => true
  | .quenchFlushDone => true
  | .quenchHoldEnd => true
  | .caseWakeConversion code => decide (code < 65536)
  | .thermalStatus d => d.opcode == 0x83
  | .caseTempReport d => d.opcode == 0x84
  | .evrFlushTimer => true
  | .flashOperationDone _ _ => true
  | .powerFail => true
  | .powerFailEnd => true
  | .hoursTick => true
  | .lifetimeWriteTimer => true
  | .evrRead d => d.opcode == 0x70
  | .evrFreeze d => d.opcode == 0x71 && d.flag 16 0
  | .evrRelease d => d.opcode == 0x71 && !d.flag 16 0
  | .evrFreezeExpire => true
  | .evrClear d => d.opcode == 0x72
  | .traceRead d => d.opcode == 0x73
  | .evrCursorWrite _ _ => true
  | .evrWin15Read _ => true
  | .rtcSecond => true
  | .rtcCorrection => true
  | .rtcSet d => d.opcode == 0x74
  | .rtcGet d => d.opcode == 0x75
  | .xtalStopped => true
  | .powerOnReset _ => true
  | .supplyGood _ => true
  | .resetN _ => true
  | .hostHardReset _ => true
  | .softReset d => d.opcode == 0x94
  | .coreRestart => true
  | .watchdogExpire _ => true
  | .bootImageLoaded _ _ => true
  | .cfgAutoWrite typ => decide (typ < 16)
  | .cfgWrite d => d.opcode == 0x92
  | .cfgRead d => d.opcode == 0x93
  | .fwLoad d => d.opcode == 0x90
  | .fwActivateSwitch d => d.opcode == 0x91 && d.bits 16 1 0 == 0
  | .fwActivateTrial d => d.opcode == 0x91 && d.bits 16 1 0 == 1
  | .fwActivateCommit d => d.opcode == 0x91 && d.bits 16 1 0 == 2
  | .fwActivateRaiseRollback d => d.opcode == 0x91 && d.bits 16 1 0 == 3
  | .fwSwitchVerifyDone _ => true
  | .fwSwitchLoadDone _ => true
  | .fwSwitchResume => true
  | .brownout _ => true
  | .brownoutRecovery _ => true
  | .refclkLost _ => true
  | .refclkHoldAged _ => true
  | .refclkReturn _ => true
  | .jtagReset => true
  | .extest _ => true
  | .samplePreload _ _ => true
  | .idcode => true
  | .highz => true
  | .clamp => true
  | .extestPulse _ => true
  | .extestTrain _ => true
  | .bypass opcode => !jtagOpcodes.contains opcode.toNat
  | .laneCdrLost _ => true
  | .checkerLock _ => true
  | .checkerLockLoss _ b e => decide (e ≤ b)
  | .syncHeaderLoss _ => true
  | .trainingMarkersMissed _ => true
  | .anTimerExpiry _ _ => true
  | .refreshBurstRx _ => true
  | .pcieMemoryRequest r => !r.aligned || r.off.toNat % 4 == 0
  | .pcieResetEnd _ => true
  | .xtalRestart => true
  | .coreHalt => true
  | .coreRun => true

/-- A well-formed command. -/
abbrev Instr.WellFormed (c : Instr) : Prop := c.wf = true

end Sys2Proof
end

