-- ==== Sys2Proof/Safety.lean ====
section
/-! DEFINITION. What counts as safe: a state whose memories are in canonical form and that no half-done command has left. -/

namespace Sys2Proof.Machine

/-- Between commands: the memories are in canonical form, every word and byte within its memory, and no write is pending
(15 R505). -/
abbrev State.Inv (s : State) : Prop := s.dev.mem.wf ∧ s.dev.writes = []

/-- A state that a step reaches from another. -/
def Steps (s t : State) : Prop := step s = .next t

/-- The completion that a descriptor gets (13 R466, Table 13.8): its tag, and OK turned into RETRIED_OK where its fetch took a
second attempt (R469). -/
def completionOf (d : Desc) (status result time : Nat) : Cpl :=
  { status := if d.again && status == stOk then stRetriedOk else status, tag := d.tag, result := result % 2 ^ 32
    time := time }

/-- A descriptor's action phase runs: its ring's chain has not failed, and recovery is not in force (13 R465, 19 R610). -/
abbrev Dev.Acts (s : Dev) (d : Desc) : Prop := (s.ring d.ring).chain ≠ .failed ∧ s.get Reg.GLB_BOOT_STATUS_RECOVERY = 0

/-- The last descriptor that completed is this one, with a status and a result (13 R466). -/
def Dev.Completed (s : Dev) (d : Desc) (status result : Nat) : Prop :=
  ∃ time, s.lastCpl = some (d.ring.val, completionOf d status result time)

/-- A command answers a next state in which only its own effect shows on the queue (nothing), and whose device has a
property. -/
def Answers (c : Instr) (s : State) (P : Dev → Prop) : Prop :=
  ∃ t, exec c s = .next t ∧ t.pending = s.pending ∧ P t.dev

/-- The device serves an access by a transport at once: it has booted, is ACTIVE, and the transport is enabled (13 R440,
16 R543, R544, 19 Table 19.4). -/
abbrev Dev.Serving (s : Dev) (t : Transport) : Prop :=
  s.sys.core ≠ .off ∧ s.get Reg.GLB_BOOT_STATUS_BOOT_DONE = 1 ∧ s.get Reg.PWR_STATE_STATE = 0 ∧ s.enabled t = true

/-- What a field holds after a write of v to its register, from what it held (00 Table 0.5). -/
def fieldAfter (f : Fld) (old v : Nat) : Nat :=
  let w := v / 2 ^ f.lsb % 2 ^ f.width
  match f.acc with
  | .rw => w
  | .w1c => (old &&& (2 ^ f.width - 1 - w)) % 2 ^ f.width
  | .w1s => (old ||| w) % 2 ^ f.width
  | .ro | .wo => old

/-- The registers of which a write sets something going beside its fields. -/
def setsGoing (off : Nat) : Bool :=
  if inPorts off then [0x000, 0x100, 0x110, 0x200, 0x314, 0x318, 0x31C, 0x320, 0x400, 0x500, 0x50C, 0x600].contains (portAt off).2
  else if inLanes off then [0x000, 0x004, 0x008].contains (laneAt off).2
  else if inChans off then [0x1C, 0x20].contains (chanAt off).2
  else if 0xA100 ≤ off ∧ off < 0xA280 then [0x0, 0xC].contains ((off - 0xA100) % 0x10)
  else [0x0008, 0x0010, 0x1000, 0x1100, 0x1200, 0xB000, 0xD000, 0xD01C].contains off

/-- What an access by a transport does beside itself while the device is ACTIVE: a serial frame's vote lingers (16 R536). -/
def Dev.served (s : Dev) : Transport → Dev
  | .pcie => s
  | _ => s.modPwr fun w => { w with linger := true, serialWaived := false }

/-! ## What a command leaves alone -/

/-- The device without its books: what counting, logging, signalling and completing write. -/
def Dev.core (s : Dev) : Dev :=
  { s with regs := [], writes := [], msixPend := 0, msg := none, ctx := [], heldCpl := [], draws := 0
           target := Vector.replicate 3 none, ctr := {}, port := s.port.map fun q => { q with cap := {} }
           pwr := { s.pwr with late := [] }, evr := { s.evr with buf := [], due := false } }

/-- A field that no book-keeping writes: none of GLB_INT_PEND, GLB_RING_EVENTS, GLB_RING_COUNT, EVR_STATUS to EVR_SEQ, CTR_. -/
def Fld.plain (f : Fld) : Prop :=
  f.lsb < 32 ∧ f.off ∉ [0x34, 0x38, 0x44, 0x48, 0xD004, 0xD008, 0xD00C, 0xD010] ∧ (f.off < 0xC000 ∨ 0xD000 ≤ f.off)

/-- A word of an on-die memory that no book-keeping writes: none of ring memory, of the ring contexts, of the trace log
(15 Table 15.1, 18 R589). -/
def plainWord (m : MemId) (w : Nat) : Prop := m ≠ 2 ∧ m ≠ 3 ∧ ¬ (m = 1 ∧ 0x4000 ≤ w ∧ w < 0x8000)

/-- A write of a memory that book-keeping makes. -/
def MemWrite.ofBooks : MemWrite → Prop
  | .host .. => True
  | .word m w _ => ¬ plainWord m w
  | _ => False

/-- What a command may change beside the books: parts of the device (blanked here), registers by their offset, words of the
on-die memories, bytes of host memory, the flash. -/
structure Owned where
  parts : Dev → Dev := id
  regs : Nat → Prop := fun _ => False
  words : MemId → Nat → Prop := fun _ _ => False
  host : Nat → Prop := fun _ => False
  flash : Prop := False

/-- After a command, what it does not own is as before: every other part, every other register field but those of the books,
every other word of the on-die memories but those of the books, the flash, and, where no ring is enabled that an entry
could go to, every other byte of host memory. -/
def Dev.ChangesOnly (after before : Dev) (o : Owned) : Prop :=
  o.parts { after.core with mem := {}, lastCpl := none, cur := none } =
    o.parts { before.core with mem := {}, lastCpl := none, cur := none } ∧
  (∀ f : Fld, f.plain → ¬ o.regs f.off → after.get f = before.get f) ∧
  (∀ m w, plainWord m w → ¬ o.words m w → sget {} (after.mem.die.get m) w = sget {} (before.mem.die.get m) w) ∧
  (¬ o.flash → after.mem.flash = before.mem.flash) ∧
  ((∀ r, (before.ring r).live = false) → ∀ a, ¬ o.host a → sget 0 after.mem.host a = sget 0 before.mem.host a)

/-- A port's record and registers. -/
def ofPort (p : Port) : Owned :=
  { parts := fun d => d.modPort p fun _ => {}, regs := fun o => inPorts o = true ∧ (portAt o).1 = p }
/-- A port, the host lanes, and what waits on the port. -/
def ofLink (p : Port) : Owned :=
  { parts := fun d => { d.modPort p (fun _ => {}) with waits := [], mdio := {}, host := {}, lane := Vector.replicate 16 {} }
    regs := fun o => (inPorts o = true ∧ (portAt o).1 = p) ∨ inLanes o = true }
/-- A host lane's record and registers. -/
def ofLane (l : Lane) : Owned :=
  { parts := fun d => { d with lane := vmod d.lane l fun _ => {} }, regs := fun o => inLanes o = true ∧ (laneAt o).1 = l }
/-- The host memory that a descriptor's Address and Length give. -/
def ofAddress (c : Desc) : Owned :=
  { host := fun a => ∃ i, i < c.length ∧ a = (c.address + i) % 2 ^ 64 }

end Sys2Proof.Machine
end

