-- ==== Sys2Proof/Certificates/Slice0/Obligations.lean ====
section
/-! DEFINITION. The statements for the provers. Answers c s P says that command c answers a next state in s, that the queue
stays as it was, and that P holds of the device. -/

open Sys2Proof Sys2Proof.Machine Sys2Proof.Machine.Reg

/-! ## The block -/

/-- A step takes the command at the front of the queue and is that command's effect with the queue's rest (the queue is
the model's, log entry 1). -/
def Obligations.StepRunsFront : Prop :=
  ∀ (c : Instr) (r : List Instr) (s : State), step { s with pending := c :: r } = exec c { s with pending := r }

/-- No command stops the block, and none changes the queue: every command of the table, in every state, answers a next
state with the queue as it was and no write left pending. -/
def Obligations.EveryCommandAnswers : Prop :=
  ∀ (c : Instr) (s : State), Answers c s fun d => d.writes = []

/-- A step with no command waiting lets one nanosecond pass while CORE runs, and none in RETAIN, in WAKING or without
supplies. That the block's clock runs on an empty queue is the model's choice (log entry 3). -/
def Obligations.EmptyQueuePassesTime : Prop :=
  ∀ s : State, s.pending = [] → ∃ t, step s = .next t ∧ t.pending = [] ∧
    t.dev.timebase =
      (if s.dev.sys.core = .off ∨ 2 ≤ s.dev.get PWR_STATE_STATE then s.dev.timebase else (s.dev.timebase + 1) % 2 ^ 64)

/-- After power-on the memories have their canonical form and nothing is half done (State.Inv). -/
def Obligations.ResetIsSafe : Prop :=
  State.Inv State.reset

/-- Every step from a safe state reaches a safe state: the memories keep their canonical form, with every word and byte
within its memory, and no write is left pending. -/
def Obligations.StepKeepsSafe : Prop :=
  ∀ s t : State, s.Inv → Steps s t → t.Inv

/-- At power-on a register that reads its stored fields reads the value made up from its fields' reset values, with every
reserved bit 0. Where the spec gives a field no reset value the table's 0 is the model's choice (log entry 2). -/
def Obligations.ResetValuesOfRegisters : Prop :=
  ∀ off : Nat, State.reset.dev.regValue off = ((fieldsAt off).map fun f => f.reset * 2 ^ f.lsb).sum

/-! ## Registers -/

/-- A write of a register that sets nothing going, by any transport that the device serves, gives each field what its
access code says, and changes no other field and nothing else of the device but the vote of a serial frame. -/
def Obligations.RegisterWriteByAccessCode : Prop :=
  ∀ (s : State) (t : Transport) (off : BitVec 16) (v : BitVec 32),
    s.dev.Serving t → off.toNat % 4 = 0 → isHearth off.toNat = false → ¬ (0x800 ≤ off.toNat ∧ off.toNat < 0xE00) →
    setsGoing off.toNat = false →
    Answers (.registerWrite t (.setup off) v) s fun d =>
      (∀ f ∈ fieldsAt off.toNat, d.get f = fieldAfter f (s.dev.get f) v.toNat) ∧
      (∀ g : Fld, g.lsb < 32 → g.off ≠ off.toNat → d.get g = s.dev.get g) ∧
      { d with regs := [] } = { s.dev.served t with regs := [], writes := [] }

/-! ## Receiver front end (03) -/

/-- RSSI_UPDATE on a powered pair whose gain loop is FAST, with a code (127 at most) that reaches SD_THRESH: RSSI is the
code and SIG_DET is set. The same with SIG_DET clear and a code below SD_THRESH − SD_HYST: RSSI is the code and SIG_DET
stays clear. GAIN_LOOP_UPDATE of a powered pair in TRACK, over at least one sample and with none clipped, whose mean
square is more than 0.5 dB above the square of AGC_TARGET (16 at least), with GAIN above the lower limit and at most
96: GAIN is one code lower. -/
def Obligations.SignalStrengthAndGain : Prop :=
  (∀ (s : State) (p : Port) (x : Pair) (code : Nat),
    s.dev.powered p x = true → s.dev.get (LPn_RXFE_STATUS_AGC p x) = agcFast → s.dev.get (LPn_SIGDET_SD_THRESH p) ≤ min
      code 127 →
    Answers (.rssiUpdate p x code) s fun d => d.get (LPn_RSSI_RSSI p x) = min code 127 ∧ d.get (LPn_RXFE_STATUS_SIG_DET p
      x) = 1) ∧
  (∀ (s : State) (p : Port) (x : Pair) (code : Nat),
    s.dev.powered p x = true → s.dev.get (LPn_RXFE_STATUS_AGC p x) = agcFast → s.dev.get (LPn_RXFE_STATUS_SIG_DET p x) =
      0 → min code 127 + s.dev.get (LPn_SIGDET_SD_HYST p) < s.dev.get (LPn_SIGDET_SD_THRESH p) →
    Answers (.rssiUpdate p x code) s fun d => d.get (LPn_RSSI_RSSI p x) = min code 127 ∧ d.get (LPn_RXFE_STATUS_SIG_DET p
      x) = 0) ∧
  (∀ (s : State) (p : Port) (x : Pair) (sumSq n g : Nat),
    s.dev.powered p x = true → s.dev.get (LPn_RXFE_STATUS_AGC p x) = agcTrack → n ≠ 0 → s.dev.get (LPn_RXFE_STATUS_GAIN p
      x) = g + 1 → s.dev.gainMin p ≤ g → g < 96 → ratioAtLeast sumSq (n * (max (s.dev.get (LPn_RXFE_CTRL_AGC_TARGET p))
      16) ^ 2) 1 20 = true →
    Answers (.gainLoopUpdate p x sumSq n 0) s fun d => d.get (LPn_RXFE_STATUS_GAIN p x) = g)

/-- CAL_STEP_START where a step may begin (the port in training or data, the pair powered with SIG_DET, CAL_EN 1, no
hold, a slice free, no step under way, the core running): the head of the free queue begins its first attempt, with
nothing measured. CAL_WINDOW_END of an undisturbed first window with SIG_DET set: the step keeps the measurement that
the sums give. A second one that agrees with the first: the step has its targets, and the head the number of the
attempt. TEMPER_TICK of a step with targets whose offset trim does not reach its target with this tick: each of the
three trims moves by one toward its target, and the step goes on. HEALTH_WINDOW_END of a window in which one slice in
service, not failed and good so far, gave only one code, on a powered pair with SIG_DET: the slice is noted, and it
stays at its position. ADC_HOLD_EXPIRE while a hold is in force: the hold ends, HOLD is 0 and HOLD_EXPIRED is set. -/
def Obligations.BackgroundCalibration : Prop :=
  (∀ (s : State) (p : Port) (x : Pair),
    s.dev.linkState p = 3 ∨ s.dev.linkState p = 4 → s.dev.powered p x = true → s.dev.get (LPn_RXFE_STATUS_SIG_DET p x) =
      1 → s.dev.get (LPn_ADC_CAL_CTRL_CAL_EN p) = 1 → s.dev.get (LPn_ADC_CAL_STATUS_HOLD_ACTIVE p) = 0 → (s.dev.adcOf p
      x).free ≠ [] → (s.dev.adcOf p x).step = none → s.dev.coreRuns = true →
    Answers (.calStepStart p x) s fun d => ∃ c, (d.adcOf p x).step = some c ∧ c.slice = (s.dev.adcOf p x).free.headD 0 ∧
      c.attempt = 1 ∧ c.got = [] ∧ c.target = none) ∧
  (∀ (s : State) (p : Port) (x : Pair) (m : CalSums) (c : CalStep),
    (s.dev.adcOf p x).step = some c → c.target = none → c.disturbed = false → c.got = [] → s.dev.get
      (LPn_RXFE_STATUS_SIG_DET p x) = 1 →
    Answers (.calWindowEnd p x m) s fun d => (d.adcOf p x).step = some { c with got := [s.dev.calMeas p m] }) ∧
  (∀ (s : State) (p : Port) (x : Pair) (m : CalSums) (m0 : CalMeas) (c : CalStep),
    (s.dev.adcOf p x).step = some c → c.target = none → c.disturbed = false → c.got = [m0] → s.dev.get
      (LPn_RXFE_STATUS_SIG_DET p x) = 1 → calAgree m0 (s.dev.calMeas p m) = true → c.slice < 66 →
    Answers (.calWindowEnd p x m) s fun d => (d.adcOf p x).step = some
      { c with got := [], target := some (calTarget ((s.dev.adcOf p x).at c.slice) m0 (s.dev.calMeas p m)) } ∧ ((d.adcOf
      p x).at c.slice).attempts = c.attempt) ∧
  (∀ (s : State) (p : Port) (x : Pair) (c : CalStep) (o g k : Int),
    (s.dev.adcOf p x).step = some c → c.target = some (o, g, k) → c.slice < 66 → temper ((s.dev.adcOf p x).at
      c.slice).off o ≠ o →
    Answers (.temperTick p x) s fun d => ((d.adcOf p x).at c.slice).off = temper ((s.dev.adcOf p x).at c.slice).off o ∧
      ((d.adcOf p x).at c.slice).gain = temper ((s.dev.adcOf p x).at c.slice).gain g ∧ ((d.adcOf p x).at c.slice).skew =
      temper ((s.dev.adcOf p x).at c.slice).skew k ∧ (d.adcOf p x).step = some c) ∧
  (∀ (s : State) (p : Port) (x : Pair) (e : HealthStat),
    s.dev.powered p x = true → s.dev.get (LPn_RXFE_STATUS_SIG_DET p x) = 1 → e.pos < 64 → e.lo = e.hi → (s.dev.adcOf p
      x).placed e.pos < 66 → ((s.dev.adcOf p x).at ((s.dev.adcOf p x).placed e.pos)).failed = false → ((s.dev.adcOf p
      x).at ((s.dev.adcOf p x).placed e.pos)).bad = 0 →
    Answers (.healthWindowEnd p x [e]) s fun d => ((d.adcOf p x).at ((s.dev.adcOf p x).placed e.pos)).bad = 1 ∧ (d.adcOf
      p x).placed e.pos = (s.dev.adcOf p x).placed e.pos) ∧
  (∀ (s : State) (p : Port),
    s.dev.get (LPn_ADC_CAL_STATUS_HOLD_ACTIVE p) = 1 →
    Answers (.adcHoldExpire p) s fun d => d.get (LPn_ADC_CAL_STATUS_HOLD_ACTIVE p) = 0 ∧ d.get (LPn_ADC_CAL_CTRL_HOLD p)
      = 0 ∧ d.get (LPn_RX_EVENTS_HOLD_EXPIRED p) = 1)

/-- A descriptor acts where its ring's chain has not failed and the device is not in recovery; each of these names at
least one pair. STATUS completes OK with LPn_ADC_CAL_STATUS. CYCLE of one pair of a port in data mode, not held and
with no other CYCLE: the pair, powered, with a slice free and no step under way, has a full rotation to go, and its
first step begins where one may begin. HOLD with 1 to 10,000 ms, where the port refuses none, starts a hold and
completes OK with its milliseconds. RELEASE ends any hold and completes OK. REQUALIFY of one retired slice of a stopped
port waits for start-up calibration. STARTUP_CAL_DONE of a stopped port, of the slice that a REQUALIFY asks for and
with no CYCLE waiting, where both passes succeed: the slice has the trims found and joins the free queue, and REQUALIFY
completes OK with Result 0. TRIM_DUMP with 528 bytes for each pair named, on a ring in host memory, completes OK with
that Result. STARTUP_CAL_DONE in a port that starts: it is ACQUIRING and searches. -/
def Obligations.AdcCalActions : Prop :=
  (∀ (s : State) (c : Desc),
    s.dev.Acts c → calPairs c ≠ [] →
    Answers (.adcCalStatus c) s fun d => d.Completed c stOk (s.dev.calStatusWord (Desc.port c))) ∧
  (∀ (s : State) (c : Desc) (x : Pair),
    s.dev.Acts c → calPairs c = [x] → s.dev.linkState (Desc.port c) = 4 → s.dev.get (LPn_ADC_CAL_STATUS_HOLD_ACTIVE
      (Desc.port c)) = 0 → s.dev.waiting (.adcCycle (Desc.port c)) = none → s.dev.powered (Desc.port c) x = true →
      (s.dev.adcOf (Desc.port c) x).free ≠ [] → s.dev.calMay (Desc.port c) x = true → s.dev.rotation (Desc.port c) x ≠ 0
      →
    Answers (.adcCalCycle c) s fun d => ((d.adcOf (Desc.port c) x).cycle = some (s.dev.rotation (Desc.port c) x, 0, 0)) ∧
      ((d.adcOf (Desc.port c) x).step.map fun e => e.slice) = some ((s.dev.adcOf (Desc.port c) x).free.headD 0)) ∧
  (∀ (s : State) (c : Desc),
    s.dev.Acts c → calPairs c ≠ [] → 0 < c.bytes 20 2 → c.bytes 20 2 ≤ 10000 → s.dev.get (LPn_ADC_CAL_STATUS_REHOLD_BLOCK
      (Desc.port c)) = 0 →
    Answers (.adcCalHold c) s fun d => d.Completed c stOk (c.bytes 20 2) ∧ d.get (LPn_ADC_CAL_STATUS_HOLD_ACTIVE
      (Desc.port c)) = 1) ∧
  (∀ (s : State) (c : Desc),
    s.dev.Acts c → calPairs c ≠ [] →
    Answers (.adcCalRelease c) s fun d => d.Completed c stOk 0 ∧ d.get (LPn_ADC_CAL_STATUS_HOLD_ACTIVE (Desc.port c)) =
      0) ∧
  (∀ (s : State) (c : Desc) (x : Pair),
    s.dev.Acts c → calPairs c = [x] → (s.dev.retired (Desc.port c) x).contains (c.bits 19 6 0) = true → s.dev.linkState
      (Desc.port c) = 0 →
    Answers (.adcCalRequalify c) s fun d => d.waits = s.dev.waits ++ [(.adcRequal (Desc.port c), Desc.stamp c
      s.dev.timebase)]) ∧
  (∀ (s : State) (p : Port) (c : Desc) (r : SliceRun),
    s.dev.linkState p = 0 → s.dev.waits = [(.adcRequal p, c)] → r.pair = (if c.flag 17 0 then Pair.a else .b) ∧ r.slice =
      c.bits 19 6 0 ∧ r.slice < 66 → (calPass ((s.dev.adcOf p r.pair).at r.slice) (s.dev.calPassMeas p r.pass1)).2 =
      false → (calPass (calPass ((s.dev.adcOf p r.pair).at r.slice) (s.dev.calPassMeas p r.pass1)).1 (s.dev.calPassMeas p
      r.pass2)).2 = false →
    Answers (.startupCalDone p [r]) s fun d => (d.adcOf p r.pair).free = (s.dev.adcOf p r.pair).free ++ [r.slice] ∧
      d.Completed c stOk 0 ∧ d.waits = []) ∧
  (∀ (s : State) (c : Desc),
    s.dev.Acts c → calPairs c ≠ [] → c.length = 528 * (calPairs c).length → (s.dev.ring c.ring).owner = 0 →
    Answers (.adcCalTrimDump c) s fun d => d.Completed c stOk (528 * (calPairs c).length)) ∧
  (∀ (s : State) (p : Port) (l : List SliceRun),
    s.dev.linkState p = 1 →
    Answers (.startupCalDone p l) s fun d => d.linkState p = 2 ∧ d.acqState p = 2)

/-! ## Equaliser, phase loop, metrics, eye scan and capture (04) -/

/-- EQ_SNAPSHOT_TIMER on a pair with CONVERGED set, outside full duplex: the taps in use become the snapshot and go to
the coefficient store with the mode, TAPS and MAIN_POS. RECOVER_TIMEOUT of a pair in RECOVER after a takeover, with its
freeze of one block over, the core running and SW_FREEZE 0: the pair is in FINE and EQ_SLOW is set. CDR_UPDATE with a
block of pair B, powered, in data mode outside full duplex, in FINE, its loop locked and not clamped in the block
before: for one sum u of at most 256 either way, the frequency estimate moves by u × 2^−KI_TRACK within ±4,000 (in 0.05
ppm), and the phase by u × 2^−KP_TRACK and the whole codes of the frequency term before the block, at most 4 codes
either way. METRIC_WINDOW_END with pair B powered, outside full duplex, every level of the mode seen and the inner code
off: SNR_ALL of pair B is the window's mean noise in dB, BER_MEAS is 0, and the window's sums become the completed ones
and start afresh. -/
def Obligations.EqualiserAndPhaseLoop : Prop :=
  (∀ (s : State) (p : Port) (x : Pair),
    s.dev.get (LPn_EQ_STATUS_CONV p x) = 1 → isFd (s.dev.mode p) = false →
    Answers (.eqSnapshotTimer p x) s fun d => (d.eqOf p x).snap = some (s.dev.eqOf p x).taps ∧ (d.eqOf p x).stored = some
      (s.dev.mode p, (s.dev.prt p).link.eqSet.1, (s.dev.prt p).link.eqSet.2.1, (s.dev.eqOf p x).taps)) ∧
  (∀ (s : State) (p : Port) (x : Pair),
    s.dev.get (LPn_EQ_STATUS_ADAPT p x) = adRecover → (s.dev.eqOf p x).recover = 1 → (s.dev.eqOf p x).recoverWait = 0 →
      s.dev.coreRuns = true → s.dev.get (LPn_EQ_CTRL_SW_FREEZE p) = 0 →
    Answers (.recoverTimeout p x) s fun d => d.get (LPn_EQ_STATUS_ADAPT p x) = adFine ∧ d.get (LPn_EQ_EVENTS_EQ_SLOW p) =
      1) ∧
  (∀ (s : State) (p : Port) (k : Blk),
    s.dev.linkState p = 4 → s.dev.powered p .b = true → s.dev.acqState p = 7 → isFd (s.dev.mode p) = false → (s.dev.prt
      p).fd.inWin = false → s.dev.get (LPn_EQ_STATUS_ADAPT p .b) = adFine → s.dev.get (LPn_CDR_STATUS_LOCK p .b) = 1 →
      (s.dev.eqOf p .b).clamps = 0 →
    Answers (.cdrUpdate p none (some k)) s fun d => ∃ u : Int, -256 ≤ u ∧ u ≤ 256 ∧ (d.prt p).freq = clampInt
      (-262144000) 262144000 ((s.dev.prt p).freq + roundDiv (u * 65536) (2 ^ s.dev.get (LPn_CDR_CTRL_KI_TRACK p))) ∧
      (d.get (LPn_CDR_STATUS_PHASE p .b) : Int) = (s.dev.get (LPn_CDR_STATUS_PHASE p .b) + clampInt (-4) 4 (roundDiv u (2
      ^ s.dev.get (LPn_CDR_CTRL_KP_TRACK p)) + ((s.dev.prt p).freq + (s.dev.eqOf p .b).carry) / (40000000 * perSymbol
      (s.dev.mode p) : Nat))) % 128) ∧
  (∀ (s : State) (p : Port),
    s.dev.powered p .b = true → isFd (s.dev.mode p) = false → (levelsOf (isNrz (s.dev.mode p))).all (fun k =>
      ((s.dev.eqOf p .b).met.toList.getD k (0, 0)).1 != 0) = true → s.dev.get (LPn_FEC_STATUS_INNER_ON p) = 0 →
    Answers (.metricWindowEnd p) s fun d => d.get (LPn_EQ_STATUS_SNR_ALL p .b) = snrCode (isNrz (s.dev.mode p))
      (meanNoise 0 (isNrz (s.dev.mode p)) (s.dev.eqOf p .b).met) ∧ d.get (LPn_BER_BER_MEAS p) = 0 ∧ (d.eqOf p .b).metDone
      = (s.dev.eqOf p .b).met ∧ (d.eqOf p .b).met = Vector.replicate 4 (0, 0))

/-- A descriptor acts where its ring's chain has not failed and the device is not in recovery. EYE_SCAN with fields
within Table 4.3 and Length 4 bytes a point, on a ring in host memory, for a pair of a port in UP with both free slices
and no scan: the scan begins with no point taken, and the descriptor waits for its end. EYE_SCAN_POINT_END of a point
that is not the last, with no calibration step under way and two slices free: the point's count is recorded and the
next point starts from 0. CAPTURE_ADC with a source of the pairs that the mode receives on, on a port that is neither
stopped nor in DOZE and has no capture: the capture is ARMED and the descriptor waits. CAPTURE_TRIGGER of an armed
capture whose trigger has occurred: the capture is FILLING and CAP_TIME_LO holds the timebase's low half. CAPTURE_STOP
of a FILLING capture whose part after the trigger is stored: it is DONE and CAP_DONE is set. CAPTURE_TIMEOUT of an
armed capture with a Timeout: it is PARTIAL and its descriptor completes TIMEOUT. CAPTURE_READ within 2 MiB, on a ring
in host memory, of a port that has captured nothing: it completes OK with Length. -/
def Obligations.EyeScanAndCapture : Prop :=
  (∀ (s : State) (c : Desc),
    s.dev.Acts c → (s.dev.rx (Desc.port c)).contains (eyePair c) = true → 1 ≤ c.bits 17 4 0 ∧ c.bits 17 4 0 ≤ 16 → 1 ≤
      c.bits 19 6 0 ∧ c.bits 19 6 0 ≤ 64 → c.bits 21 3 0 ≤ 10 → c.bits 17 4 0 * c.bits 18 5 0 ≤ 64 → 0 < eyePoints c
      (isNrz (s.dev.mode (Desc.port c))) → c.length = 4 * eyePoints c (isNrz (s.dev.mode (Desc.port c))) → (s.dev.ring
      c.ring).owner = 0 → s.dev.linkState (Desc.port c) = 4 → 2 ≤ (s.dev.adcOf (Desc.port c) (eyePair c)).free.length →
      (s.dev.eqOf (Desc.port c) (eyePair c)).eye = none →
    Answers (.eyeScan c) s fun d => (d.eqOf (Desc.port c) (eyePair c)).eye = some
      { desc := Desc.stamp c s.dev.timebase, pts := [] } ∧ d.waits = s.dev.waits ++ [(.eyeScan (Desc.port c) (eyePair c),
      Desc.stamp c s.dev.timebase)]) ∧
  (∀ (s : State) (p : Port) (x : Pair) (r : EyeRun),
    (s.dev.eqOf p x).eye = some r → (s.dev.adcOf p x).step = none → 2 ≤ (s.dev.adcOf p x).free.length → r.pts.length + 1
      < eyePoints r.desc (isNrz (s.dev.mode p)) →
    Answers (.eyeScanPointEnd p x) s fun d => (d.eqOf p x).eye = some
      { r with pts := r.pts ++ [r.hits], hits := 0, taken := 0 }) ∧
  (∀ (s : State) (c : Desc),
    s.dev.Acts c → c.bits 17 2 0 < 6 → (if c.bits 17 2 0 % 3 = 0 then [Pair.a] else if c.bits 17 2 0 % 3 = 1 then [.b]
      else [.a, .b]).all (fun x => (s.dev.rx (Desc.port c)).contains x) = true → s.dev.linkState (Desc.port c) ≠ 0 →
      s.dev.linkState (Desc.port c) ≠ 6 → s.dev.get (LPn_CAP_STATUS_STATE (Desc.port c)) = 0 →
    Answers (.captureAdc c) s fun d => d.waits = s.dev.waits ++ [(.capture (Desc.port c), Desc.stamp c s.dev.timebase)] ∧
      d.get (LPn_CAP_STATUS_STATE (Desc.port c)) = 1) ∧
  (∀ (s : State) (p : Port),
    s.dev.get (LPn_CAP_STATUS_STATE p) = 1 → (s.dev.prt p).cap.fired = true →
    Answers (.captureTrigger p) s fun d => d.get (LPn_CAP_STATUS_STATE p) = 2 ∧ d.get (LPn_CAP_TIME_LO_TIME_LO p) =
      s.dev.timebase % 2 ^ 32) ∧
  (∀ (s : State) (p : Port),
    s.dev.get (LPn_CAP_STATUS_STATE p) = 2 → (s.dev.prt p).cap.left = 0 →
    Answers (.captureStop p) s fun d => d.get (LPn_CAP_STATUS_STATE p) = 3 ∧ d.get (LPn_EQ_EVENTS_CAP_DONE p) = 1) ∧
  (∀ (s : State) (p : Port) (c : Desc),
    s.dev.get (LPn_CAP_STATUS_STATE p) = 1 → (s.dev.prt p).cap.timeout ≠ 0 → s.dev.waiting (.capture p) = some c →
    Answers (.captureTimeout p) s fun d => d.get (LPn_CAP_STATUS_STATE p) = 4 ∧ d.Completed c stTimeout 0) ∧
  (∀ (s : State) (c : Desc),
    s.dev.Acts c → c.length ≠ 0 → c.bytes 20 4 + c.length ≤ 2097152 → (s.dev.ring c.ring).owner = 0 → s.dev.get
      (LPn_CAP_STATUS_STATE (Desc.port c)) = 0 →
    Answers (.captureRead c) s fun d => d.Completed c stOk c.length)

/-! ## Full duplex and cable diagnostics (05) -/

/-- All but the first three are of a port in FD. HYBRID_TRIAL_END of one of the first seven trials of a hybrid search:
the next HYB_R is in use with HYB_C 3, and the search keeps the best trial so far. SPARSE_SEARCH_SEGMENT_END with
segments left: the four windows move on by four segments and their taps are 0. ERLE_WINDOW_END in raw training with no
hybrid search under way: ERLE is the window's, in 0.25 dB, and the next window starts from 0. FD_READY, accepted: the
partner's QUIET_LEN is kept, 15 at most. FD_QUIET sent by a leader in BASE whose window length is settled: the leader
window will start. FD_WINDOW_START then: FDS is 2 and the window is open. FD_WINDOW_END of a side's own window with
both echoes converged: the window is over, and pair B's DAC is off for the gap and pair A's is not. FD_GAP_END after
the leader window: FDS is 3 and the follower window is open. FD_CONFIRM, accepted in the follower window's step: it is
kept and the start-up goes on. FD_ABANDON, accepted: the start-up is abandoned with LAST_REASON 7, ABANDON is set and
the port is ACQUIRING. FD_STEP_TIMEOUT in BASE: the start-up is abandoned with LAST_REASON 6 for the message channel's
timer, else 1. -/
def Obligations.FullDuplexStartup : Prop :=
  (∀ (s : State) (p : Port) (x : Pair) (m t best ms : Nat),
    (s.dev.echoOf p x).hyb = some (t, best, ms) → t < 7 →
    Answers (.hybridTrialEnd p x m) s fun d => d.get (LPn_HYB_CTRL_HYB_R_USED p x) = t + 1 ∧ d.get
      (LPn_HYB_CTRL_HYB_C_USED p x) = 3 ∧ (d.echoOf p x).hyb = some (t + 1, if t = 0 ∨ m < ms then (t, m) else (best,
      ms))) ∧
  (∀ (s : State) (p : Port) (x : Pair) (g : Nat) (l : List (Nat × Nat × Nat)),
    (s.dev.echoOf p x).search = some (g, l) → 768 + 32 * (g + 4) + 31 ≤ windowLimit (s.dev.mode p) →
    Answers (.sparseSearchSegmentEnd p x) s fun d => ((d.echoOf p x).search.map fun e => e.1) = some (g + 4) ∧ (d.echoOf
      p x).taps.win = Vector.replicate 128 0) ∧
  (∀ (s : State) (p : Port) (x : Pair),
    s.dev.get (LPn_FD_STATUS_ECHO p x) = ecRaw → (s.dev.echoOf p x).hyb = none →
    Answers (.erleWindowEnd p x) s fun d => d.get (LPn_FD_STATUS_ERLE p x) = logCode 40 255 (s.dev.echoOf p x).erle.2.1
      (s.dev.echoOf p x).erle.2.2 ∧ (d.echoOf p x).erle = (0, 0, 0)) ∧
  (∀ (s : State) (p : Port) (f : Frame) (q a n h : Nat),
    s.dev.acqState p = 6 → (s.dev.lmcAccept p mtFdReady f).2 = true →
    Answers (.fdReady p f q a n h) s fun d => (d.prt p).fd.partner = some (min q 15)) ∧
  (∀ (s : State) (p : Port) (n : Nat),
    s.dev.acqState p = 6 → s.dev.get (LPn_FD_STATUS_ROLE p) = 1 → s.dev.get (LPn_FD_STATUS_FDS p) = 1 → (s.dev.prt
      p).fd.winLen ≠ 0 →
    Answers (.fdQuiet p none n) s fun d => (d.prt p).fd.quiet = true) ∧
  (∀ (s : State) (p : Port),
    s.dev.acqState p = 6 → s.dev.get (LPn_FD_STATUS_FDS p) = 1 → (s.dev.prt p).fd.quiet = true →
    Answers (.fdWindowStart p) s fun d => d.get (LPn_FD_STATUS_FDS p) = 2 ∧ (d.prt p).fd.inWin = true) ∧
  (∀ (s : State) (p : Port),
    s.dev.acqState p = 6 → s.dev.ownWindow p = true → (s.dev.echoOf p .a).conv = true → (s.dev.echoOf p .b).conv = true →
    Answers (.fdWindowEnd p) s fun d => (d.prt p).fd.inWin = false ∧ (d.txPairOf p .a).dacOff = false ∧ (d.txPairOf p
      .b).dacOff = true) ∧
  (∀ (s : State) (p : Port) (k : Int),
    s.dev.acqState p = 6 → s.dev.get (LPn_FD_STATUS_FDS p) = 2 → (s.dev.prt p).fd.inWin = false →
    Answers (.fdGapEnd p k) s fun d => d.get (LPn_FD_STATUS_FDS p) = 3 ∧ (d.prt p).fd.inWin = true) ∧
  (∀ (s : State) (p : Port) (f : Frame) (a n e : Nat) (k : Int),
    s.dev.acqState p = 6 → s.dev.get (LPn_FD_STATUS_FDS p) = 3 → (s.dev.lmcAccept p mtFdConfirm f).2 = true →
    Answers (.fdConfirm p f a n e k) s fun d => (d.prt p).fd.confGot = true ∧ d.acqState p = 6) ∧
  (∀ (s : State) (p : Port) (f : Frame) (w n : Nat),
    s.dev.acqState p = 6 → (s.dev.lmcAccept p mtFdAbandon f).2 = true →
    Answers (.fdAbandon p f w n) s fun d => d.get (LPn_FD_STATUS_LAST_REASON p) = 7 ∧ d.get (LPn_FD_EVENTS_ABANDON p) = 1
      ∧ d.linkState p = 2) ∧
  (∀ (s : State) (p : Port) (l : Bool),
    s.dev.acqState p = 6 → s.dev.get (LPn_FD_STATUS_FDS p) = 1 →
    Answers (.fdStepTimeout p l) s fun d => d.get (LPn_FD_STATUS_LAST_REASON p) = (if l then 6 else 1) ∧ d.get
      (LPn_FD_EVENTS_ABANDON p) = 1 ∧ d.linkState p = 2)

/-- CABLE_DIAG, its ring's chain good and outside recovery, of a stopped port set to a copper mode, with a pair named,
default PROP, legal averaging and Length 144 a pair, on a ring in host memory, and none under way: the probe runs and
the descriptor waits for it. CABLE_DIAG_PROBE_DONE of the one descriptor that waits: the measurement is over, DIAG_DONE
is set and nothing waits. COEF_REQ, accepted with no ACK asked for, while the channel runs outside data mode with
TRAIN_ADAPT 1, for taps that form a valid set: they are in use on the pair and COEF_RESP is queued. TX_DRIVER_SETTLED
of a port in ACQUIRING whose driver was not powered, with no brown-out or Quench: the driver is, DRV_EN is high, its
delay runs and pair A is in SQUELCH. TX_DRV_DELAY_END there, while the delay runs and no cause of Table 6.2 above TRAIN
holds: the delay is over and pair A is in TRAIN. HOST_LOSS of a loss still in force, of a port in UP with its driver
settled, SQ_HOST 0 and no cause above it: pair A sends local fault. LF_NOTICE_REPEAT while pair A sends local fault and
the message channel runs: another EVENT_NOTICE is queued. -/
def Obligations.CableDiagnosticsAndTransmitter : Prop :=
  (∀ (s : State) (c : Desc),
    s.dev.Acts c → isOptical (s.dev.get (LPn_PORT_CFG_MODE (Desc.port c))) = false → diagPairs c ≠ [] → c.byte 18 = 0 →
      c.bits 21 3 0 ≤ 12 → c.length = 144 * (diagPairs c).length → (s.dev.ring c.ring).owner = 0 → s.dev.linkState
      (Desc.port c) = 0 → (s.dev.prt (Desc.port c)).fd.diag = false →
    Answers (.cableDiag c) s fun d => d.waits = s.dev.waits ++ [(.cableDiag (Desc.port c), Desc.stamp c s.dev.timebase)]
      ∧ (d.prt (Desc.port c)).fd.diag = true) ∧
  (∀ (s : State) (p : Port) (l : List ProbeRes) (c : Desc),
    s.dev.waits = [(.cableDiag p, c)] →
    Answers (.cableDiagProbeDone p l) s fun d => (d.prt p).fd.diag = false ∧ d.get (LPn_FD_EVENTS_DIAG_DONE p) = 1 ∧
      d.waits = []) ∧
  (∀ (s : State) (p : Port) (f : Frame) (op tap n main : Nat) (t : Vector Int 8),
    s.dev.lmcUp p = true → s.dev.acqState p ≠ 7 → s.dev.get (LPn_TX_CTRL_TRAIN_ADAPT p) = 1 → f.ackReq = false →
      (s.dev.lmcAccept p mtCoefReq f).2 = true → s.dev.coefResult p (if n = 0 then .a else .b) op tap = some (t, main) →
      txValid t main = true →
    Answers (.coefReq p f op tap n) s fun d => (d.txPairOf p (if n = 0 then .a else .b)).taps = t ∧ (d.txPairOf p (if n =
      0 then .a else .b)).main = main ∧ ((d.prt p).lmc.out.map fun e => e.typ) = ((s.dev.prt p).lmc.out.map fun e =>
      e.typ) ++ [mtCoefResp]) ∧
  (∀ (s : State) (p : Port),
    s.dev.linkState p = 2 → (s.dev.prt p).tx.driver = false → s.dev.sys.brownout = false → s.dev.quenching = false →
      (txPairs (s.dev.mode p)).contains .a = true →
    Answers (.txDriverSettled p) s fun d => (d.prt p).tx.driver = true ∧ (d.prt p).tx.delay = true ∧ d.get
      (LPn_TX_STATUS_DRV_EN p) = 1 ∧ d.get (LPn_TX_STATUS_TXS p .a) = txSquelch) ∧
  (∀ (s : State) (p : Port),
    s.dev.linkState p = 2 → (s.dev.prt p).tx.driver = true → (s.dev.prt p).tx.delay = true → s.dev.sys.brownout = false →
      s.dev.quenching = false → (txPairs (s.dev.mode p)).contains .a = true → s.dev.get (LPn_TX_CTRL_SW_SQUELCH p) = 0 →
      s.dev.get (LPn_TX_STATUS_HOST_LOST p) = 0 → (s.dev.prt p).tx.stopping = false ∧ (s.dev.prt p).tx.quenchLf = false ∧
      (s.dev.prt p).tx.idle = false ∧ (s.dev.prt p).tx.data = false → (s.dev.txPairOf p .a).dacOff = false →
    Answers (.txDrvDelayEnd p) s fun d => (d.prt p).tx.delay = false ∧ d.get (LPn_TX_STATUS_TXS p .a) = txTrain) ∧
  (∀ (s : State) (p : Port),
    s.dev.linkState p = 4 → (s.dev.prt p).tx.driver = true → s.dev.sys.brownout = false → s.dev.quenching = false →
      (txPairs (s.dev.mode p)).contains .a = true → s.dev.get (LPn_TX_STATUS_HOST_LOST p) = 1 → s.dev.get
      (LPn_TX_CTRL_SQ_HOST p) = 0 → s.dev.get (LPn_TX_CTRL_SW_SQUELCH p) = 0 → (s.dev.prt p).tx.stopping = false ∧
      (s.dev.prt p).tx.delay = false →
    Answers (.hostLoss p) s fun d => (d.prt p).tx.hostOut = true ∧ d.get (LPn_TX_STATUS_TXS p .a) = txLf) ∧
  (∀ (s : State) (p : Port),
    s.dev.get (LPn_TX_STATUS_TXS p .a) = txLf → s.dev.lmcUp p = true →
    Answers (.lfNoticeRepeat p) s fun d => ((d.prt p).lmc.out.map fun e => e.typ) = ((s.dev.prt p).lmc.out.map fun e =>
      e.typ) ++ [mtNotice])

/-! ## Codes, acquisition and training (07, 08) -/

/-- INNER_WINDOW_STEP with the inner code in use, its chain running and a whole block of 1,024 outputs given: with fewer
than three blocks in the window the block joins it and nothing is released. With three blocks there the oldest is
released: it is counted, and its 192 symbols enter the receive stream. AM_GROUP_CHECK, the chain running in a mode with
codewords, of a group whose markers all have at most 8 bit errors: FRAME_LOCK is set and no group counts as missed.
CODEWORD_DECODE toward the host in data mode, in a mode with codewords, whose receive stream holds none, with neither
termination nor monitoring and no SLIP: the 544 symbols given are passed on. Toward the line in data mode, with neither
termination nor monitoring and no SLIP: so are the symbols given. POST_BER_INTERVAL in which codewords were decoded and
no bit was corrected: POST_BER is 0xFFFF and the next interval starts from 0. -/
def Obligations.OuterAndInnerCode : Prop :=
  (∀ (s : State) (p : Port) (l : List Int),
    s.dev.get (LPn_FEC_STATUS_INNER_ON p) = 1 → (s.dev.prt p).fec.chain = true → (s.dev.prt p).fec.fresh = [] → l.length
      = 1024 → (s.dev.prt p).fec.win.length < 3 →
    Answers (.innerWindowStep p l) s fun d => (d.prt p).fec.win.length = (s.dev.prt p).fec.win.length + 1 ∧ (d.prt
      p).fec.pos = (s.dev.prt p).fec.pos ∧ (d.prt p).fec.rxSyms = (s.dev.prt p).fec.rxSyms) ∧
  (∀ (s : State) (p : Port) (l : List Int),
    s.dev.get (LPn_FEC_STATUS_INNER_ON p) = 1 → (s.dev.prt p).fec.chain = true → (s.dev.prt p).fec.fresh = [] → l.length
      = 1024 → (s.dev.prt p).fec.win.length = 3 →
    Answers (.innerWindowStep p l) s fun d => (d.prt p).fec.win.length = 3 ∧ (d.prt p).fec.pos = (s.dev.prt p).fec.pos +
      1 ∧ (d.prt p).fec.ctr.get 23 = min ((s.dev.prt p).fec.ctr.get 23 + 1) (2 ^ 64 - 1) ∧ (d.prt p).fec.rxSyms.length =
      (s.dev.prt p).fec.rxSyms.length + 192) ∧
  (∀ (s : State) (p : Port) (l : List Nat),
    (s.dev.prt p).fec.chain = true → isNrz (s.dev.mode p) = false → l ≠ [] → l.all (fun e => decide (e ≤ 8)) = true →
    Answers (.amGroupCheck p l) s fun d => d.get (LPn_FEC_STATUS_FRAME_LOCK p) = 1 ∧ (d.prt p).fec.missed = 0) ∧
  (∀ (s : State) (p : Port) (l : List Nat),
    s.dev.acqState p = 7 → isNrz (s.dev.mode p) = false → l.length = 544 → (s.dev.prt p).fec.half = [] → (s.dev.prt
      p).fec.rxSyms.length < 544 → s.dev.get (LPn_FEC_STATUS_TERM_RX p) = 0 → s.dev.get (LPn_FEC_CTRL_RS_MON_RX p) = 0 →
      (s.dev.prt p).slipRx = [] →
    Answers (.codewordDecode p .rx l) s fun d => (d.prt p).fec.rxOut = l.map (· % 1024)) ∧
  (∀ (s : State) (p : Port) (l : List Nat),
    s.dev.acqState p = 7 → isNrz (s.dev.mode p) = false → l.length = 544 → s.dev.get (LPn_FEC_STATUS_TERM_TX p) = 0 →
      s.dev.get (LPn_FEC_CTRL_RS_MON_TX p) = 0 → (s.dev.prt p).slipTx = [] →
    Answers (.codewordDecode p .tx l) s fun d => (d.prt p).fec.txOut = l.map (· % 1024)) ∧
  (∀ (s : State) (p : Port),
    (s.dev.prt p).fec.pbAny = true → (s.dev.prt p).fec.pbBits = 0 →
    Answers (.postBerInterval p) s fun d => d.get (LPn_FEC_STATUS_POST_BER p) = 0xFFFF ∧ (d.prt p).fec.pbWords = 0 ∧
      (d.prt p).fec.pbAny = false)

/-- CORRELATOR_HIT in SEARCH, no preemption pending, of a class that is looked for, with the peak's metric at HIT_THR or
above and REFCLK_LINE good: the port is in CONFIRM with that class and metric as its candidate. CONFIRM_MARKER_FOUND in
CONFIRM with fewer than two markers found, of a marker of the candidate's class that is good at a predicted position:
it counts. The third one, of a Skellia segment of a class from 3 to 5 outside Wide: the port is in TRAIN.
CONFIRM_TIMEOUT with fewer than three: FALSE_LOCK is set, and the port is ACQUIRING and searches. RETUNE_DONE of a
retune under way outside CONFIRM: the retune is over. AN_PAGE_RX in NEGOTIATE of a base page whose nonce differs from
the port's own: it is kept. Of an unformatted page after the Skellia message page: AN_PARTNER shows it, among the rest
in PAGE, FD200 and PART. AN_TIMER_EXPIRY in NEGOTIATE that is not a restart: AN_FAIL is set and the port searches.
CONVERGENCE_WINDOW_END of pair B, powered, in training and in COARSE: it is noted whether the window's SNR reached
SNR_MIN, and the next starts from 0. -/
def Obligations.AcquisitionAndNegotiation : Prop :=
  (∀ (s : State) (p : Port) (k peak mean n : Nat),
    s.dev.acqState p = 2 → (s.dev.prt p).acq.retuning = false → (s.dev.classes p).contains k = true → s.dev.hitThr p ≤
      logCode 40 255 peak mean → (s.dev.prt p).acq.preempt = none → s.dev.get GLB_HW_STATUS_REFCLK_LINE_OK = 1 →
    Answers (.correlatorHit p k peak mean n) s fun d => d.acqState p = 3 ∧ d.get (LPn_ACQ_STATUS_CAND_CLASS p) = k ∧
      d.get (LPn_ACQ_STATUS_CAND_METRIC p) = logCode 40 255 peak mean ∧ (d.prt p).acq.hitPos = n) ∧
  (∀ (s : State) (p : Port) (m : Marker) (k n : Nat) (got : List Int),
    s.dev.acqState p = 3 → s.dev.get (LPn_ACQ_STATUS_MARKERS p) = k → k < 2 → markerFits (s.dev.get
      (LPn_ACQ_STATUS_CAND_CLASS p)) m = true → (markerPlace m n).any (fun i => markerGood (s.dev.get
      (LPn_ACQ_STATUS_CAND_CLASS p)) ((s.dev.prt p).acq.hitPos + i * markerSpacing m) got m) = true →
    Answers (.confirmMarkerFound p m n got) s fun d => d.get (LPn_ACQ_STATUS_MARKERS p) = k + 1 ∧ d.acqState p = 3) ∧
  (∀ (s : State) (p : Port) (n : Nat) (got : List Int),
    s.dev.acqState p = 3 → s.dev.get (LPn_ACQ_STATUS_MARKERS p) = 2 → 3 ≤ s.dev.get (LPn_ACQ_STATUS_CAND_CLASS p) ∧
      s.dev.get (LPn_ACQ_STATUS_CAND_CLASS p) ≤ 5 → s.dev.wide p = false → (markerPlace .skellia n).any (fun i =>
      markerGood (s.dev.get (LPn_ACQ_STATUS_CAND_CLASS p)) ((s.dev.prt p).acq.hitPos + i * markerSpacing .skellia) got
      .skellia) = true →
    Answers (.confirmMarkerFound p .skellia n got) s fun d => d.get (LPn_ACQ_STATUS_MARKERS p) = 3 ∧ d.acqState p = 5 ∧
      d.get (LPn_ACQ_STATUS_PARTNER_SK p) = 1) ∧
  (∀ (s : State) (p : Port),
    s.dev.acqState p = 3 → s.dev.get (LPn_ACQ_STATUS_MARKERS p) < 3 →
    Answers (.confirmTimeout p) s fun d => d.get (LPn_ACQ_EVENTS_FALSE_LOCK p) = 1 ∧ d.acqState p = 2 ∧ d.linkState p =
      2) ∧
  (∀ (s : State) (p : Port),
    (s.dev.prt p).acq.retuning = true → s.dev.acqState p ≠ 3 →
    Answers (.retuneDone p) s fun d => (d.prt p).acq.retuning = false) ∧
  (∀ (s : State) (p : Port) (g : BasePage),
    s.dev.acqState p = 4 → g.nonce % 32 ≠ (s.dev.prt p).acq.nonce →
    Answers (.anPageRx p (.base g)) s fun d => (d.prt p).acq.base = some { g with nonce := g.nonce % 32 }) ∧
  (∀ (s : State) (p : Port) (w : BitVec 48),
    s.dev.acqState p = 4 → (s.dev.prt p).acq.oui = true →
    Answers (.anPageRx p (.unformatted w)) s fun d => d.get (LPn_AN_PARTNER_PAGE p) = 1 ∧ d.get (LPn_AN_PARTNER_FD200 p)
      = w.toNat % 2 ∧ d.get (LPn_AN_PARTNER_PART p) = w.toNat / 2 ^ 16 % 2 ^ 16) ∧
  (∀ (s : State) (p : Port),
    s.dev.acqState p = 4 →
    Answers (.anTimerExpiry p false) s fun d => d.get (LPn_ACQ_EVENTS_AN_FAIL p) = 1 ∧ d.acqState p = 2) ∧
  (∀ (s : State) (p : Port),
    s.dev.powered p .b = true → s.dev.acqState p = 5 → s.dev.get (LPn_EQ_STATUS_ADAPT p .b) = adCoarse →
    Answers (.convergenceWindowEnd p .b) s fun d => (d.prt p).acq.acqOne = (s.dev.convWindow p .b).2 ∧ (d.eqOf p .b).conv
      = Vector.replicate 4 (0, 0))

/-- LINK_PARAM, accepted in Skellia training: it is kept with whether its mode (and in OPT-200 INNER) fits the port's,
and with its precoding request. TX_TUNE_WINDOW_END in training with both ends acquired and compatible, TX_TUNE 1,
tuning not over, no request on trial or awaited, and requests and trials left: the next step's request is on trial and
counted. COEF_RESP, accepted while a response is awaited: none is awaited any more. READY, accepted in Skellia
training: it is kept. DATA_AT, accepted there: it is kept, with at least 16 periods. DATA_SWITCH of the receiver there,
first and with DATA_AT received: the receiver has switched and the receive chain runs. DATA_SWITCH of the transmitter
after that, with DATA_AT sent: the port is in data mode and UP. IEEE_TRAINING_END with success in IEEE training: so is
the port, with the precoding that the partner asked for. TRAIN_TIMEOUT in Skellia training with no LINK_PARAM received:
TRAIN_FAIL is set, and the port is ACQUIRING and searches. TRAINING_MARKERS_MISSED in training: LOCK_LOSS is set, and
the port is ACQUIRING and searches. SIGDET_LOSS_TIMEOUT of a powered pair without SIG_DET, the port in UP with
FLAP_HOLD 0: LAST_DOWN is 3, LINK_DOWN is set and the port is ACQUIRING. SYNC_HEADER_LOSS in an NRZ mode in UP with
FLAP_HOLD 0: the same with 5. -/
def Obligations.TrainingAndLoss : Prop :=
  (∀ (s : State) (p : Port) (f : Frame) (m : LinkParamMsg),
    s.dev.inSkellia p = true → (s.dev.lmcAccept p mtLinkParam f).2 = true →
    Answers (.linkParam p f m) s fun d => (d.prt p).acq.param = some m ∧ (d.prt p).acq.compat = (decide (m.mode =
      s.dev.mode p) && (s.dev.mode p != 3 || m.inner == (s.dev.prt p).link.inner)) ∧ (d.prt p).tx.precodeReq = m.precode) ∧
  (∀ (s : State) (p : Port),
    s.dev.acqState p = 5 → (s.dev.prt p).acq.acquired = true → (s.dev.prt p).acq.compat = true → s.dev.get
      (LPn_ACQ_CTRL_TX_TUNE p) = 1 → (s.dev.prt p).acq.tuned = false → (s.dev.prt p).acq.tuneWait = false → (s.dev.prt
      p).acq.tuneReq = none → (s.dev.prt p).acq.tuneTried < 16 → (s.dev.prt p).acq.tuneCount < 63 →
    Answers (.txTuneWindowEnd p) s fun d => ((d.prt p).acq.tuneReq.map fun e => (e.1, e.2.1)) = some (tuneStep (s.dev.prt
      p).acq.tuneTried) ∧ (d.prt p).acq.tuneCount = (s.dev.prt p).acq.tuneCount + 1) ∧
  (∀ (s : State) (p : Port) (f : Frame) (st t k v : Nat),
    s.dev.lmcUp p = true → (s.dev.lmcAccept p mtCoefResp f).2 = true → (s.dev.prt p).acq.tuneWait = true →
    Answers (.coefResp p f st t k v) s fun d => (d.prt p).acq.tuneWait = false) ∧
  (∀ (s : State) (p : Port) (f : Frame) (n : Nat),
    s.dev.inSkellia p = true → (s.dev.lmcAccept p mtReady f).2 = true →
    Answers (.ready p f n) s fun d => (d.prt p).acq.readyGot = true) ∧
  (∀ (s : State) (p : Port) (f : Frame) (n : Nat),
    s.dev.inSkellia p = true → (s.dev.lmcAccept p mtDataAt f).2 = true →
    Answers (.dataAt p f n) s fun d => (d.prt p).acq.atGot = some (max 16 (n % 256))) ∧
  (∀ (s : State) (p : Port),
    s.dev.inSkellia p = true → (s.dev.prt p).acq.atGot.isSome = true → (s.dev.prt p).acq.rxSwitched = false → (s.dev.prt
      p).acq.txSwitched = false →
    Answers (.dataSwitch p .rx) s fun d => (d.prt p).acq.rxSwitched = true ∧ (d.prt p).fec.chain = true) ∧
  (∀ (s : State) (p : Port),
    s.dev.inSkellia p = true → (s.dev.prt p).acq.atSent.isSome = true → (s.dev.prt p).acq.rxSwitched = true → (s.dev.prt
      p).acq.txSwitched = false →
    Answers (.dataSwitch p .tx) s fun d => d.acqState p = 7 ∧ d.linkState p = 4) ∧
  (∀ (s : State) (p : Port) (k : Bool),
    s.dev.acqState p = 5 → s.dev.get (LPn_ACQ_STATUS_TRAIN_SK p) = 0 →
    Answers (.ieeeTrainingEnd p true k) s fun d => d.acqState p = 7 ∧ d.linkState p = 4 ∧ (d.prt p).tx.precodeReq = k) ∧
  (∀ (s : State) (p : Port),
    s.dev.inSkellia p = true → (s.dev.prt p).acq.param = none →
    Answers (.trainTimeout p) s fun d => d.get (LPn_ACQ_EVENTS_TRAIN_FAIL p) = 1 ∧ d.acqState p = 2 ∧ d.linkState p = 2) ∧
  (∀ (s : State) (p : Port),
    s.dev.acqState p = 5 →
    Answers (.trainingMarkersMissed p) s fun d => d.get (LPn_ACQ_EVENTS_LOCK_LOSS p) = 1 ∧ d.acqState p = 2 ∧ d.linkState
      p = 2) ∧
  (∀ (s : State) (p : Port) (x : Pair),
    s.dev.powered p x = true → s.dev.get (LPn_RXFE_STATUS_SIG_DET p x) = 0 → s.dev.linkState p = 4 → s.dev.get
      (LPn_LINK_CTRL_FLAP_HOLD p) = 0 →
    Answers (.sigdetLossTimeout p x) s fun d => d.get (LPn_LINK_STATUS_LAST_DOWN p) = 3 ∧ d.get
      (LPn_LINK_EVENTS_LINK_DOWN p) = 1 ∧ d.linkState p = 2) ∧
  (∀ (s : State) (p : Port),
    isNrz (s.dev.mode p) = true → s.dev.linkState p = 4 → s.dev.get (LPn_LINK_CTRL_FLAP_HOLD p) = 0 →
    Answers (.syncHeaderLoss p) s fun d => d.get (LPn_LINK_STATUS_LAST_DOWN p) = 5 ∧ d.get (LPn_LINK_EVENTS_LINK_DOWN p)
      = 1 ∧ d.linkState p = 2)

/-! ## Link messages, Lull and ports (08, 09) -/

/-- Received messages come while the channel runs. REMOTE_SNR, accepted: LPn_LMC_REMOTE shows it. EVENT_NOTICE with code
1, accepted: the code is shown, NOTICE is set, and a remote fault is in force and flagged. REMOTE_FAULT_EXPIRE of a
remote fault: it is over. LMC_FRAME_DISCARD for a wrong check value: LMC_CRC is set. LMC_KEEPALIVE outside data mode
while pair A transmits training, data or local fault: REMOTE_SNR is queued. REMOTE_SNR_PERIOD in data mode with
SNR_SHARE 1 and the sub-channel running: REMOTE_SNR is queued. LMC_FRAME_SENT with a frame of the port's own first in
the queue and pair A transmitting: it has left the queue. ACK of the only frame awaiting one, sent once for an LMC_SEND
whose data was read at the first attempt: it waits no more, and LMC_SEND completes OK with its Seq. LMC_ACK_TIMEOUT of
the oldest frame awaiting an ACK, sent once: it is queued again, marked as sent again. LMC_SEND, its ring's chain good
and outside recovery, of a type from 0x40 to 0x7F and at most 64 bytes read at the first attempt, on a ring in host
memory, of a port in FD with fewer than four user frames queued: the frame is queued and the descriptor waits.
LMC_USER_MESSAGE of such a type and size, accepted with no buffer posted and fewer than four messages kept: it is kept.
LMC_RECEIVE of 68 bytes on a ring in host memory, acting, with no message kept and fewer than eight buffers posted: it
is posted. LMC_RECEIVE_TIMEOUT of the one posted buffer, which has a limit: it completes TIMEOUT. -/
def Obligations.LinkMessages : Prop :=
  (∀ (s : State) (p : Port) (f : Frame) (u v k : Nat),
    s.dev.lmcUp p = true → (s.dev.lmcAccept p mtRemoteSnr f).2 = true →
    Answers (.remoteSnr p f u v k) s fun d => d.get (LPn_LMC_REMOTE_REM_SNR_A p) = u % 256 ∧ d.get
      (LPn_LMC_REMOTE_REM_SNR_B p) = v % 256 ∧ d.get (LPn_LMC_REMOTE_REM_BER p) = k % 65536) ∧
  (∀ (s : State) (p : Port) (f : Frame) (v : Nat),
    s.dev.lmcUp p = true → (s.dev.lmcAccept p mtNotice f).2 = true →
    Answers (.eventNotice p f 1 v) s fun d => d.get (LPn_REMOTE_EVENT_CODE p) = 1 ∧ d.get (LPn_LINK_STATUS_REMOTE_FAULT
      p) = 1 ∧ d.get (LPn_LINK_EVENTS_REMOTE_FAULT p) = 1 ∧ d.get (LPn_ACQ_EVENTS_NOTICE p) = 1) ∧
  (∀ (s : State) (p : Port),
    s.dev.get (LPn_LINK_STATUS_REMOTE_FAULT p) = 1 →
    Answers (.remoteFaultExpire p) s fun d => d.get (LPn_LINK_STATUS_REMOTE_FAULT p) = 0) ∧
  (∀ (s : State) (p : Port),
    s.dev.lmcUp p = true →
    Answers (.lmcFrameDiscard p .crc) s fun d => d.get (LPn_ACQ_EVENTS_LMC_CRC p) = 1) ∧
  (∀ (s : State) (p : Port),
    s.dev.lmcUp p = true → s.dev.acqState p ≠ 7 → s.dev.lmcSends p = true →
    Answers (.lmcKeepalive p) s fun d => ((d.prt p).lmc.out.map fun e => e.typ) = ((s.dev.prt p).lmc.out.map fun e =>
      e.typ) ++ [mtRemoteSnr]) ∧
  (∀ (s : State) (p : Port),
    s.dev.acqState p = 7 → s.dev.get (LPn_ACQ_STATUS_SUBCH_ON p) = 1 → s.dev.get (LPn_ACQ_CTRL_SNR_SHARE p) = 1 →
    Answers (.remoteSnrPeriod p) s fun d => ((d.prt p).lmc.out.map fun e => e.typ) = ((s.dev.prt p).lmc.out.map fun e =>
      e.typ) ++ [mtRemoteSnr]) ∧
  (∀ (s : State) (p : Port) (t : TxFrame) (l : List TxFrame),
    (s.dev.prt p).lmc.out = t :: l → t.user = false → s.dev.lmcSends p = true →
    Answers (.lmcFrameSent p) s fun d => (d.prt p).lmc.out = l ∧ (d.prt p).lmc.sent = some t) ∧
  (∀ (s : State) (p : Port) (t : TxFrame) (c : Desc),
    (s.dev.prt p).lmc.wait = [t] → t.again = false → s.dev.waiting (.lmcSend p t.typ t.seq) = some c → c.data = .first →
    Answers (.ack p t.typ t.seq) s fun d => (d.prt p).lmc.wait = [] ∧ d.Completed c stOk t.seq) ∧
  (∀ (s : State) (p : Port) (t : TxFrame) (l : List TxFrame),
    (s.dev.prt p).lmc.wait = t :: l → t.again = false →
    Answers (.lmcAckTimeout p) s fun d => (d.prt p).lmc.wait = l ∧ (d.prt p).lmc.out = (s.dev.prt p).lmc.out ++
      [{ t with again := true }]) ∧
  (∀ (s : State) (c : Desc),
    s.dev.Acts c → s.dev.acqState (Desc.port c) = 6 → 0x40 ≤ c.byte 17 ∧ c.byte 17 ≤ 0x7F → c.length ≤ 64 → (s.dev.ring
      c.ring).owner = 0 → c.data = .first → ((s.dev.prt (Desc.port c)).lmc.out.filter fun e => e.user).length < 4 →
    Answers (.lmcSend c) s fun d => ((d.prt (Desc.port c)).lmc.out.map fun e => e.typ) = ((s.dev.prt (Desc.port
      c)).lmc.out.map fun e => e.typ) ++ [c.byte 17] ∧ d.waits.length = s.dev.waits.length + 1) ∧
  (∀ (s : State) (p : Port) (f : Frame) (k : Nat) (l : List Byte),
    s.dev.lmcUp p = true → 0x40 ≤ k ∧ k ≤ 0x7F → l.length ≤ 64 → (s.dev.lmcAccept p k f).2 = true → s.dev.waiting
      (.lmcReceive p) = none → (s.dev.prt p).lmc.inq.length < 4 →
    Answers (.lmcUserMessage p f k l) s fun d => (d.prt p).lmc.inq = (s.dev.prt p).lmc.inq ++ [(k, f.seq.toNat, l)]) ∧
  (∀ (s : State) (c : Desc),
    s.dev.Acts c → c.length = 68 → (s.dev.ring c.ring).owner = 0 → (s.dev.waits.filter fun w => w.1 ==
      WaitKind.lmcReceive (Desc.port c)).length < 8 → (s.dev.prt (Desc.port c)).lmc.inq = [] →
    Answers (.lmcReceive c) s fun d => d.waits = s.dev.waits ++ [(.lmcReceive (Desc.port c), Desc.stamp c
      s.dev.timebase)]) ∧
  (∀ (s : State) (p : Port) (c : Desc),
    s.dev.waits = [(.lmcReceive p, c)] → c.bytes 20 2 ≠ 0 →
    Answers (.lmcReceiveTimeout p) s fun d => d.waits = [] ∧ d.Completed c stTimeout 0)

/-- HOST_IDLE_DETECT with transmit termination on: IDLE_KIND is the kind given. LULL_REQ, accepted in data mode by an
eligible port with no request of its own: the entry is agreed. LULL_RESP with code 0, accepted in data mode for the
port's own request: so it is. With code 1: LULL_REFUSED is set, the port's request is over and further ones are banned.
LULL_BACKOFF_END of such a ban: it is over. LULL_ENTER_AT of an agreed entry in UP with no wake cause waiting: no entry
is due any more and the transmitter idles. SLEEP_WORD_RX in UP after an agreement, of symbols in which the word is
found: the port is in LULL of LULL_KIND 0. LULL_REFRESH of a transmitter in Skellia IDLE: a burst is counted, and
begins on pair A where the mode sends on it. REFRESH_BURST_RX in LULL: for the blocks of a burst both pairs' phase
loops may update. LULL_LOST in LULL with FLAP_HOLD 0: LAST_DOWN is 6, LULL_LOST is set and the port is ACQUIRING.
LULL_WAKE_CAUSE in Skellia LULL with no wake word sent: one is, and the transmitter sends data again. WAKE_WORD_RX in
Skellia LULL, of symbols in which the word is found: the port is in UP, its transmitter out of IDLE, and codewords
toward the host are marked where the partner's kind was 2. WAKE_WORD_TIMEOUT in LULL of the first wake word: the second
is sent and WAKE_RETRIES counts it. LPI_SIGNAL of the partner's quiet period in CU-10N with LPI_EN 1, in UP: the port
is in LULL of LULL_KIND 1. -/
def Obligations.LullEntryAndWake : Prop :=
  (∀ (s : State) (p : Port) (k : Nat),
    s.dev.get (LPn_FEC_STATUS_TERM_TX p) = 1 → k < 3 →
    Answers (.hostIdleDetect p k) s fun d => d.get (LPn_LINK_STATUS_IDLE_KIND p) = k) ∧
  (∀ (s : State) (p : Port) (f : Frame) (k : Nat),
    s.dev.lmcUp p = true → s.dev.acqState p = 7 → (s.dev.lmcAccept p mtLullReq f).2 = true → (s.dev.prt p).link.reqKind =
      0 → s.dev.eligible p = true →
    Answers (.lullReq p f k) s fun d => (d.prt p).link.enter = some (max (s.dev.get (LPn_LINK_CTRL_ENTER_AT p)) 2,
      s.dev.get (LPn_LINK_STATUS_IDLE_KIND p), k)) ∧
  (∀ (s : State) (p : Port) (f : Frame) (n k : Nat),
    s.dev.lmcUp p = true → s.dev.acqState p = 7 → (s.dev.lmcAccept p mtLullResp f).2 = true → (s.dev.prt p).link.reqKind
      ≠ 0 →
    Answers (.lullResp p f 0 n k) s fun d => (d.prt p).link.enter = some (n, (s.dev.prt p).link.reqKind, k) ∧ (d.prt
      p).link.reqKind = 0) ∧
  (∀ (s : State) (p : Port) (f : Frame) (n k : Nat),
    s.dev.lmcUp p = true → s.dev.acqState p = 7 → (s.dev.lmcAccept p mtLullResp f).2 = true → (s.dev.prt p).link.reqKind
      ≠ 0 →
    Answers (.lullResp p f 1 n k) s fun d => d.get (LPn_LINK_EVENTS_LULL_REFUSED p) = 1 ∧ (d.prt p).link.backoff = true ∧
      (d.prt p).link.reqKind = 0) ∧
  (∀ (s : State) (p : Port),
    (s.dev.prt p).link.backoff = true →
    Answers (.lullBackoffEnd p) s fun d => (d.prt p).link.backoff = false) ∧
  (∀ (s : State) (p : Port),
    (s.dev.prt p).link.enter.isSome = true → s.dev.linkState p = 4 → (s.dev.prt p).link.wakePending = false →
    Answers (.lullEnterAt p) s fun d => (d.prt p).link.enter = none ∧ (d.prt p).tx.idle = true) ∧
  (∀ (s : State) (p : Port) (l : List Int),
    s.dev.linkState p = 4 → (s.dev.prt p).link.kinds ≠ (0, 0) → wordFound sleepWord l = true →
    Answers (.sleepWordRx p l) s fun d => d.linkState p = 5 ∧ d.get (LPn_LINK_STATUS_LULL_KIND p) = 0) ∧
  (∀ (s : State) (p : Port),
    (s.dev.prt p).tx.idle = true → s.dev.get (LPn_LINK_STATUS_LULL_KIND p) = 0 →
    Answers (.lullRefresh p) s fun d => (d.prt p).link.refreshes = (s.dev.prt p).link.refreshes + 1 ∧ ((txPairs
      (s.dev.mode p)).contains .a = true → (d.txPairOf p .a).burst = burstBlocks)) ∧
  (∀ (s : State) (p : Port),
    s.dev.linkState p = 5 →
    Answers (.refreshBurstRx p) s fun d => (d.prt p).link.burst = Vector.replicate 2 burstBlocks) ∧
  (∀ (s : State) (p : Port),
    s.dev.linkState p = 5 → s.dev.get (LPn_LINK_CTRL_FLAP_HOLD p) = 0 →
    Answers (.lullLost p) s fun d => d.get (LPn_LINK_STATUS_LAST_DOWN p) = 6 ∧ d.get (LPn_LINK_EVENTS_LULL_LOST p) = 1 ∧
      d.linkState p = 2) ∧
  (∀ (s : State) (p : Port),
    s.dev.linkState p = 5 → s.dev.get (LPn_LINK_STATUS_LULL_KIND p) = 0 → (s.dev.prt p).link.wakeSent = 0 →
    Answers (.lullWakeCause p) s fun d => (d.prt p).link.wakeSent = 1 ∧ (d.prt p).tx.idle = false ∧ (d.prt p).tx.data =
      true) ∧
  (∀ (s : State) (p : Port) (l : List Int),
    s.dev.linkState p = 5 → s.dev.get (LPn_LINK_STATUS_LULL_KIND p) = 0 → wordFound wakeWord l = true →
    Answers (.wakeWordRx p l) s fun d => d.linkState p = 4 ∧ (d.prt p).link.markWake = ((s.dev.prt p).link.kinds.2 == 2)
      ∧ (d.prt p).tx.idle = false) ∧
  (∀ (s : State) (p : Port),
    s.dev.linkState p = 5 → (s.dev.prt p).link.wakeSent = 1 →
    Answers (.wakeWordTimeout p) s fun d => (d.prt p).link.wakeSent = 2 ∧ d.get (LPn_LULL_COUNT_WAKE_RETRIES p) = min
      (s.dev.get (LPn_LULL_COUNT_WAKE_RETRIES p) + 1) 255) ∧
  (∀ (s : State) (p : Port),
    s.dev.mode p = 10 → s.dev.get (LPn_LINK_CTRL_LPI_EN p) = 1 → s.dev.linkState p = 4 →
    Answers (.lpiSignal p .partnerQuiet) s fun d => d.linkState p = 5 ∧ d.get (LPn_LINK_STATUS_LULL_KIND p) = 1)

/-- Descriptors act: their ring's chain is good and recovery is not in force. PORT_CONFIG of a mode with codewords and an
arrangement of it: it completes OK and LPn_PORT_CFG holds its five fields. PORT_START without WAIT_UP of a STOPPED port
whose lane group fits, with no DOZE, Quench or cable probe under way: it completes OK and the port is STARTING.
PORT_WAIT_TIMEOUT of the one descriptor that waits for UP, with a timeout: it completes TIMEOUT. PORT_STOP without
NO_NOTICE of a port in UP with the sub-channel running, with nothing waiting and no stop or DOZE under way: the stop is
under way and the descriptor waits for its end. PORT_STOP_NOTICE_DONE of such a stop, the driver on and no DOZE, Quench
or core restart in force: the transmitters are squelched for it. TX_SQUELCH_END of a stop in which they are, with no
core restart: the port is STOPPED, its driver off and no stop under way. PORT_RETRAIN without WAIT_UP of a port in
TRAINING without the sub-channel, with nothing waiting and no stop or DOZE under way: it completes OK, and the port is
ACQUIRING and searches. PORT_RESET of a port at rest in STOPPED, with no core restart: it completes OK, and the port's
link and acquisition state are as after power-on. PORT_STATUS of 32 bytes on a ring in host memory: it completes OK
with the record's first word. -/
def Obligations.PortDescriptors : Prop :=
  (∀ (s : State) (c : Desc),
    s.dev.Acts c → (rateOf (c.bits 17 3 0) (c.bits 18 2 0)).isSome = true → isNrz (c.bits 17 3 0) = false →
    Answers (.portConfig c) s fun d => d.Completed c stOk 0 ∧ d.get (LPn_PORT_CFG_MODE (Desc.port c)) = c.bits 17 3 0 ∧
      d.get (LPn_PORT_CFG_LANES (Desc.port c)) = c.bits 18 2 0 ∧ d.get (LPn_PORT_CFG_INNER (Desc.port c)) = bnat (c.flag
      19 0) ∧ d.get (LPn_PORT_CFG_TERM_RX (Desc.port c)) = bnat (c.flag 19 1) ∧ d.get (LPn_PORT_CFG_TERM_TX (Desc.port
      c)) = bnat (c.flag 19 2)) ∧
  (∀ (s : State) (c : Desc),
    s.dev.Acts c → s.dev.groupMatches (Desc.port c) = true → s.dev.dozeBusy (Desc.port c) = false → s.dev.quenching =
      false → s.dev.linkState (Desc.port c) = 0 → (s.dev.prt (Desc.port c)).fd.diag = false → c.flag 17 0 = false →
    Answers (.portStart c) s fun d => d.Completed c stOk 0 ∧ d.linkState (Desc.port c) = 1) ∧
  (∀ (s : State) (p : Port) (c : Desc),
    s.dev.waits = [(.portUp p, c)] → c.bytes 20 2 ≠ 0 →
    Answers (.portWaitTimeout p) s fun d => d.waits = [] ∧ d.Completed c stTimeout 0) ∧
  (∀ (s : State) (c : Desc),
    s.dev.Acts c → s.dev.linkState (Desc.port c) = 4 → s.dev.dozeBusy (Desc.port c) = false → s.dev.waits = [] →
      (s.dev.prt (Desc.port c)).link.stopping = none → s.dev.get (LPn_ACQ_STATUS_SUBCH_ON (Desc.port c)) = 1 → c.flag 17
      0 = false →
    Answers (.portStop c) s fun d => (d.prt (Desc.port c)).link.stopping = some .stop ∧ d.waits = [(.portStop (Desc.port
      c), { Desc.stamp c s.dev.timebase with data := .first })]) ∧
  (∀ (s : State) (p : Port),
    (s.dev.prt p).link.stopping = some .stop → (s.dev.prt p).tx.stopping = false → (s.dev.prt p).tx.driver = true →
      s.dev.inDoze p = false → s.dev.quenching = false → s.dev.sys.restart = none →
    Answers (.portStopNoticeDone p) s fun d => (d.prt p).tx.stopping = true ∧ (d.prt p).link.stopping = some .stop) ∧
  (∀ (s : State) (p : Port),
    (s.dev.prt p).link.stopping = some .stop → (s.dev.prt p).tx.stopping = true → s.dev.sys.restart = none →
    Answers (.txSquelchEnd p) s fun d => d.linkState p = 0 ∧ (d.prt p).link.stopping = none ∧ (d.prt p).tx.driver =
      false) ∧
  (∀ (s : State) (c : Desc),
    s.dev.Acts c → s.dev.linkState (Desc.port c) = 3 → s.dev.dozeBusy (Desc.port c) = false → s.dev.waits = [] →
      (s.dev.prt (Desc.port c)).link.stopping = none → s.dev.get (LPn_ACQ_STATUS_SUBCH_ON (Desc.port c)) = 0 → c.flag 17
      0 = false →
    Answers (.portRetrain c) s fun d => d.Completed c stOk 0 ∧ d.linkState (Desc.port c) = 2 ∧ d.acqState (Desc.port c) =
      2) ∧
  (∀ (s : State) (c : Desc),
    s.dev.Acts c → s.dev.atRest (Desc.port c) = true → s.dev.sys.restart = none →
    Answers (.portReset c) s fun d => d.Completed c stOk 0 ∧ (d.prt (Desc.port c)).link = {} ∧ (d.prt (Desc.port c)).acq
      = {}) ∧
  (∀ (s : State) (c : Desc),
    s.dev.Acts c → c.length = 32 → (s.dev.ring c.ring).owner = 0 →
    Answers (.portStatus c) s fun d => d.Completed c stOk (word32 (s.dev.statusRecord (Desc.port c)) 0))

/-! ## The fabric, its governor and the power cap (02) -/

/-- TIMING_SOURCE_LOCK of a line transmitter on its reference clock, with no host loss: its return begins.
TX_CLOCK_RETURN_DONE of a line transmitter that returns: it is on its recovered clock. GOV_INTERVAL_END whose least
slack v of a watched boundary is below 8 ns, with no step owed by a SLIP: WORST_SLACK is v, SLACK_LOW is set, VDEMAND
is one above the larger of itself and VCMD, 50 at most, and steps down are banned. AVS_TRANSACTION_DONE, accepted, of a
Write of a code up to 50, with no step owed by a SLIP: VCMD is the code and AVS_FAULT is clear. Failed, of a first
Write: it is issued once more, with the code's millivolts, to the selected rail, and VCMD stays. Failed, of the second:
no Write is in flight, and AVS_FAULT is set with its event. AVS_FAULT_RETRY in such a fault, with no step owed and none
in the last 2 µs: the Write carries one code up below the target, else VCMD. GOV_DOWN_HOLD_END of that ban: it is over.
AT_CEILING at VCMD 50 with WORST_SLACK below 8, not yet reported: AT_CEILING and CEILING are set and lowering goes on.
GOV_CEILING_LOWER at the ceiling, with one port below the watermark, its inner code in use and its ceiling at 2 or
more: the ceiling is one lower, and the port is the one lowered last. AT_CEILING_CLEAR with WORST_SLACK at 8 or more:
AT_CEILING is clear and lowering ends. GOV_CEILING_RAISE away from the ceiling: the ceiling lowered last, not yet back
where it began, is one higher. -/
def Obligations.ClocksAndGovernor : Prop :=
  (∀ (s : State) (p : Port),
    (s.dev.prt p).tx.onRef = true → s.dev.get (LPn_TX_STATUS_HOST_LOST p) = 0 →
    Answers (.timingSourceLock (.line p)) s fun d => (d.prt p).tx.returning = true ∧ (d.prt p).tx.onRef = true) ∧
  (∀ (s : State) (p : Port),
    (s.dev.prt p).tx.returning = true →
    Answers (.txClockReturnDone (.line p)) s fun d => (d.prt p).tx.returning = false ∧ (d.prt p).tx.onRef = false) ∧
  (∀ (s : State) (l : List FillObs) (v : Nat),
    minNat 63 (((s.dev.each l fun d o => d.setFill o.bound o.now).slacks l).map fun e => e.2) = v → v < 8 →
      s.dev.gov.slipStep = 0 →
    Answers (.govIntervalEnd l) s fun d => d.get PWR_GOV_STATUS_WORST_SLACK = v ∧ d.get PWR_GOV_EVENTS_SLACK_LOW = 1 ∧
      d.get PWR_GOV_STATUS_VDEMAND = min (max (s.dev.get PWR_GOV_STATUS_VDEMAND) (s.dev.get PWR_GOV_STATUS_VCMD) + 1) 50
      ∧ d.gov.noDown = true) ∧
  (∀ (s : State) (w : AvsWrite),
    s.dev.gov.avs = some w → w.code ≤ 50 → s.dev.gov.slipStep = 0 →
    Answers (.avsTransactionDone true) s fun d => d.get PWR_GOV_STATUS_VCMD = w.code ∧ d.get PWR_GOV_STATUS_AVS_FAULT =
      0) ∧
  (∀ (s : State) (w : AvsWrite),
    s.dev.gov.avs = some w → w.retry = false →
    Answers (.avsTransactionDone false) s fun d => d.gov.avs = some
      { code := w.code, retry := true, rail := s.dev.get PWR_GOV_AVS_RAIL, mv := 550 + 5 * w.code } ∧ d.get
      PWR_GOV_STATUS_VCMD = s.dev.get PWR_GOV_STATUS_VCMD) ∧
  (∀ (s : State) (w : AvsWrite),
    s.dev.gov.avs = some w → w.retry = true →
    Answers (.avsTransactionDone false) s fun d => d.gov.avs = none ∧ d.get PWR_GOV_STATUS_AVS_FAULT = 1 ∧ d.get
      PWR_GOV_EVENTS_AVS_FAULT = 1) ∧
  (∀ (s : State),
    s.dev.get PWR_GOV_STATUS_AVS_FAULT = 1 → s.dev.gov.avsWait = true → s.dev.gov.slipStep = 0 → s.dev.stepFree = true →
    Answers .avsFaultRetry s fun d => (d.gov.avs.map fun w => w.code) = some (if s.dev.get PWR_GOV_STATUS_VCMD <
      s.dev.govTarget then s.dev.get PWR_GOV_STATUS_VCMD + 1 else s.dev.get PWR_GOV_STATUS_VCMD) ∧ d.gov.avsWait = false) ∧
  (∀ (s : State),
    s.dev.gov.noDown = true →
    Answers .govDownHoldEnd s fun d => d.gov.noDown = false) ∧
  (∀ (s : State),
    s.dev.get PWR_GOV_STATUS_VCMD = 50 → s.dev.get PWR_GOV_STATUS_WORST_SLACK < 8 → s.dev.get PWR_GOV_STATUS_AT_CEILING =
      0 →
    Answers .atCeiling s fun d => d.get PWR_GOV_STATUS_AT_CEILING = 1 ∧ d.get PWR_GOV_EVENTS_CEILING = 1 ∧ d.gov.lowering
      = true) ∧
  (∀ (s : State) (p : Port) (v : Nat),
    s.dev.get PWR_GOV_STATUS_AT_CEILING = 1 → s.dev.gov.lowering = true → s.dev.gov.lowPorts = [p] → s.dev.get
      (LPn_FEC_STATUS_INNER_ON p) = 1 → s.dev.get (LPn_SLACK_GOV_CEIL p) = v + 2 →
    Answers .govCeilingLower s fun d => d.get (LPn_SLACK_GOV_CEIL p) = v + 1 ∧ d.gov.ceilOrder.head? = some p) ∧
  (∀ (s : State),
    8 ≤ s.dev.get PWR_GOV_STATUS_WORST_SLACK → s.dev.get PWR_GOV_STATUS_AT_CEILING = 1 →
    Answers .atCeilingClear s fun d => d.get PWR_GOV_STATUS_AT_CEILING = 0 ∧ d.gov.lowering = false) ∧
  (∀ (s : State) (p : Port) (l : List Port) (v : Nat),
    s.dev.get PWR_GOV_STATUS_AT_CEILING = 0 → s.dev.gov.ceilOrder = p :: l → s.dev.get (LPn_SLACK_GOV_CEIL p) = v → v + 1
      < s.dev.gov.ceilFrom.get p → v < 7 →
    Answers .govCeilingRaise s fun d => d.get (LPn_SLACK_GOV_CEIL p) = v + 1)

/-- SLIP for n samples at the watched ADC of pair B of a port in UP with no SLIP under way: a run of substitution and
marking begins, and it is not yet counted. SLIP_COMPLETE of the oldest run on the receive path, in a second without
other SLIPs: it is counted, with the codewords marked and the boundary, and SLIP is set. POWER_CAP of 0, acting, with
no sub-step in force and nothing waiting: it completes OK and no cap is in force. Of v × 10 mW, v from 500 to 4,000,
which the last average keeps within: it completes OK, and the cap is in force and shown. CAP_EVAL_WINDOW_END of an
evaluation whose cap is met: it is over, and its POWER_CAP completes OK with the power and sub-step in force.
CAP_WITHDRAW_TIMER with no cap in force, of the newest sub-step, from 1a to 3, which the cap alone held: it is
withdrawn. -/
def Obligations.SlipsAndPowerCap : Prop :=
  (∀ (s : State) (p : Port) (n : Nat),
    s.dev.watched (Fin.ofNat 64 (4 * p.val + 1)) = true → s.dev.linkState p = 4 → (s.dev.prt p).slipRx = [] →
    Answers (.slip (Fin.ofNat 64 (4 * p.val + 1)) n) s fun d => (d.prt p).slipRx =
      [{ src := 1, data := true, marked := 0, subst := n }] ∧ (d.eqOf p .b).subst = (s.dev.eqOf p .b).subst + n ∧ d.get
      (LPn_SLIP_SLIP_COUNT p) = s.dev.get (LPn_SLIP_SLIP_COUNT p)) ∧
  (∀ (s : State) (p : Port) (q : SlipRun) (l : List SlipRun),
    (s.dev.prt p).slipRx = q :: l → q.marked ≤ 4095 ∧ q.src < 6 → s.dev.get (LPn_SLIP_SLIP_COUNT p) < 65535 → (s.dev.prt
      p).slips = [] →
    Answers (.slipComplete p true) s fun d => (d.prt p).slipRx = l ∧ d.get (LPn_SLIP_SLIP_COUNT p) = s.dev.get
      (LPn_SLIP_SLIP_COUNT p) + 1 ∧ d.get (LPn_SLIP_LAST_MARKED p) = q.marked ∧ d.get (LPn_SLIP_LAST_SRC p) = q.src ∧
      d.get (LPn_SLIP_SLIP p) = 1) ∧
  (∀ (s : State) (c : Desc),
    s.dev.Acts c → c.bytes 16 4 = 0 → s.dev.shed.applied = [] → s.dev.waits = [] →
    Answers (.powerCap c) s fun d => (∃ n, d.Completed c stOk n) ∧ d.shed.capMw = none ∧ d.get PWR_CAP_CAP = 0) ∧
  (∀ (s : State) (c : Desc) (v : Nat),
    s.dev.Acts c → c.bytes 16 4 = v * 10 → 500 ≤ v ∧ v ≤ 4000 → s.dev.powerWithin (v * 10) 1 1 = true → s.dev.waits = []
      →
    Answers (.powerCap c) s fun d => (∃ n, d.Completed c stOk n) ∧ d.shed.capMw = some (v * 10) ∧ d.get PWR_CAP_CAP = v) ∧
  (∀ (s : State) (c : Desc) (v : Nat),
    s.dev.shed.eval = true → s.dev.shed.capMw = some v → s.dev.powerWithin v 1 1 = true → s.dev.waits = [(.powerCap, c)]
      →
    Answers .capEvalWindowEnd s fun d => d.shed.eval = false ∧ d.waits = [] ∧ d.Completed c stOk s.dev.capResult) ∧
  (∀ (s : State) (n : Nat) (l : List Nat),
    s.dev.shed.capMw = none → s.dev.shed.applied = n :: l → 1 ≤ n ∧ n ≤ 5 → s.dev.shed.cap = n → s.dev.shed.thr = 0 →
    Answers .capWithdrawTimer s fun d => d.shed.applied = l ∧ d.shed.cap = l.headD 0)

/-! ## Host lanes (10) -/

/-- HOST_TX_EI_HOLD_END of a transmitter in EI with an exit due: it is in BURST, on the reference clock, and no exit is
due. HOST_BURST_END in BURST: the transmitter has the state that Table 10.2 gives the lane. HOST_RX_EI_ENTER of a
receiver in ACQ or above: it is in EI, with no sweep. HOST_RX_EI_EXIT in EI outside a rate change, with CTLE_MAN 0 and
no equaliser state kept: the receiver is in ACQ, EI_EXIT is set, and it sweeps from CTLE code 0. HOST_RX_LOCK in ACQ:
it is LOCKED, and its state is kept for the rate. HOST_CTLE_TRIAL_END of a code from 1 to 14: the next code is in use,
and the sweep keeps the best, the lower among equals. Of code 15: the best is in use and the sweep is over.
HOST_GROUP_ALIGNED of a group of locked lanes: each is ALIGNED and shows the lane of PCS lane 0, and no host loss is in
force. HOST_ALIGNMENT_LOSS of an aligned group of one lane: it is not aligned, AM_LOST is set, and the moment is kept.
HOST_RX_SNR_WINDOW_END in ACQ or above, not frozen: RX_SNR is the figure, 255 at most. HOST_PLL_RETUNE_DONE of a group
of one lane in a rate change, the port in UP, the lane not OFF: the change is over and the transmitter is in BURST.
LANE_CDR_LOST of a receiver LOCKED or ALIGNED: it is in ACQ and CDR_LOST is set. CHECKER_LOCK of a checker that is on:
LOCK is set. CHECKER_LOCK_LOSS of a locked one: LOCK is clear, and the bits compared and in error are added, each up to
2^64 − 1. -/
def Obligations.HostLaneEvents : Prop :=
  (∀ (s : State) (l : Lane),
    s.dev.get (HLn_STATUS_TXS l) = 1 → (s.dev.lane.get l).exitDue = true →
    Answers (.hostTxEiHoldEnd l) s fun d => d.get (HLn_STATUS_TXS l) = 2 ∧ (d.lane.get l).onRef = true ∧ (d.lane.get
      l).exitDue = false) ∧
  (∀ (s : State) (l : Lane),
    s.dev.get (HLn_STATUS_TXS l) = 2 →
    Answers (.hostBurstEnd l) s fun d => d.get (HLn_STATUS_TXS l) = s.dev.laneTarget l) ∧
  (∀ (s : State) (l : Lane),
    2 ≤ s.dev.get (HLn_STATUS_RXS l) →
    Answers (.hostRxEiEnter l) s fun d => d.get (HLn_STATUS_RXS l) = 1 ∧ (d.lane.get l).sweep = none) ∧
  (∀ (s : State) (l : Lane),
    s.dev.get (HLn_STATUS_RXS l) = 1 → (s.dev.lane.get l).rateChange = false → s.dev.get (HLn_CTRL_CTLE_MAN l) = 0 →
      (s.dev.lane.get l).warm = none →
    Answers (.hostRxEiExit l) s fun d => d.get (HLn_STATUS_RXS l) = 2 ∧ d.get (HLn_EVENTS_EI_EXIT l) = 1 ∧ d.get
      (HLn_STATUS_CTLE_USED l) = 0 ∧ (d.lane.get l).sweep = some (0, 0, 0)) ∧
  (∀ (s : State) (l : Lane),
    s.dev.get (HLn_STATUS_RXS l) = 2 →
    Answers (.hostRxLock l) s fun d => d.get (HLn_STATUS_RXS l) = 3 ∧ (d.lane.get l).warm = some (s.dev.get
      (HLn_STATUS_RATE l))) ∧
  (∀ (s : State) (l : Lane) (k i v n : Nat),
    (s.dev.lane.get l).sweep = some (k, i, v) → 1 ≤ k ∧ k < 15 →
    Answers (.hostCtleTrialEnd l n) s fun d => d.get (HLn_STATUS_CTLE_USED l) = k + 1 ∧ (d.lane.get l).sweep = (if v <
      min n 255 then some (k + 1, k, min n 255) else some (k + 1, i, v))) ∧
  (∀ (s : State) (l : Lane) (i v n : Nat),
    (s.dev.lane.get l).sweep = some (15, i, v) → i < 15 →
    Answers (.hostCtleTrialEnd l n) s fun d => d.get (HLn_STATUS_CTLE_USED l) = (if v < min n 255 then 15 else i) ∧
      (d.lane.get l).sweep = none) ∧
  (∀ (s : State) (p : Port) (k : Lane),
    s.dev.group p ≠ [] → k ∈ s.dev.group p → (∀ l ∈ s.dev.group p, 3 ≤ s.dev.get (HLn_STATUS_RXS l)) →
    Answers (.hostGroupAligned p k) s fun d => (∀ l ∈ s.dev.group p, d.get (HLn_STATUS_ALIGNED l) = 1 ∧ d.get
      (HLn_STATUS_RXS l) = 4 ∧ d.get (HLn_STATUS_PCS0_LANE l) = k.val) ∧ d.get (LPn_TX_STATUS_HOST_LOST p) = 0) ∧
  (∀ (s : State) (p : Port) (l : Lane),
    s.dev.group p = [l] → s.dev.get (HLn_STATUS_ALIGNED l) = 1 →
    Answers (.hostAlignmentLoss p) s fun d => d.get (HLn_STATUS_ALIGNED l) = 0 ∧ d.get (HLn_EVENTS_AM_LOST l) = 1 ∧
      d.host.lostAt.get p = some s.dev.fresh.timebase) ∧
  (∀ (s : State) (l : Lane) (n : Nat) (rx : List Nat),
    2 ≤ s.dev.get (HLn_STATUS_RXS l) → (s.dev.lane.get l).frozen = false →
    Answers (.hostRxSnrWindowEnd l n rx) s fun d => d.get (HLn_STATUS_RX_SNR l) = min n 255) ∧
  (∀ (s : State) (p : Port) (l : Lane),
    s.dev.group p = [l] → (s.dev.lane.get l).rateChange = true → s.dev.linkState p = 4 → s.dev.laneOff l = false →
    Answers (.hostPllRetuneDone p) s fun d => (d.lane.get l).rateChange = false ∧ d.get (HLn_STATUS_TXS l) = 2) ∧
  (∀ (s : State) (l : Lane),
    3 ≤ s.dev.get (HLn_STATUS_RXS l) →
    Answers (.laneCdrLost l) s fun d => d.get (HLn_STATUS_RXS l) = 2 ∧ d.get (HLn_EVENTS_CDR_LOST l) = 1) ∧
  (∀ (s : State) (l : Lane),
    s.dev.get (HLn_TEST_STATUS_CHK_ON l) = 1 →
    Answers (.checkerLock l) s fun d => d.get (HLn_TEST_STATUS_LOCK l) = 1) ∧
  (∀ (s : State) (l : Lane) (n k : Nat),
    s.dev.get (HLn_TEST_STATUS_CHK_ON l) = 1 → s.dev.get (HLn_TEST_STATUS_LOCK l) = 1 →
    Answers (.checkerLockLoss l n k) s fun d => d.get (HLn_TEST_STATUS_LOCK l) = 0 ∧ (d.lane.get l).bits = min
      ((s.dev.lane.get l).bits + n) (2 ^ 64 - 1) ∧ (d.lane.get l).errors = min ((s.dev.lane.get l).errors + k) (2 ^ 64 -
      1))

/-- Each acts: its ring's chain is good and recovery is not in force. HOST_LANE_CONFIG of a valid tap set alone: it
completes OK, TAP_BAD is clear, the registers hold it and it is in use. HOST_LANE_LOOPBACK of a lane in a group, with
mode 0, or 3 with its generator off and its domain powered: it completes OK and LOOP is the mode. HOST_LANE_PRBS SET
with a pattern up to 2, of a lane in the group of a powered port with a mode, not in loop 3: it completes OK, and
GEN_ON, CHK_ON and PATTERN are as given. READ of 24 bytes on a ring in host memory: it completes OK with 24, and the
counts stay. READ_CLEAR likewise, its counts then 0. CLEAR: it completes OK, and the counts and LOCK_LOSSES are 0.
HOST_LANE_BITSLIP of the transmit direction of a lane in no group: SLIP_TX is one more modulo 256, which is the Result
of OK, and SLIP_RX stays. LANE_MAP that keeps every lane of a map whose groups are good: it completes OK, the map stays
and is no longer the default. LANE_MAP of one lane, the only one assigned, to position 0 of a STOPPED port with Mode 0:
it completes OK and the lane has that place. -/
def Obligations.HostLaneDescriptors : Prop :=
  (∀ (s : State) (c : Desc) (l : Lane),
    s.dev.Acts c → selLanes c = [l] → c.flag 18 0 = true ∧ c.flag 18 1 = false ∧ c.flag 18 2 = false → laneTapsValid
      #v[signedOf 8 (c.byte 19), signedOf 8 (c.byte 20), signedOf 8 (c.byte 21), signedOf 8 (c.byte 22), signedOf 8
      (c.byte 23)] = true →
    Answers (.hostLaneConfig c) s fun d => d.Completed c stOk 0 ∧ d.get (HLn_TX_POST_TAP_BAD l) = 0 ∧ d.get
      (HLn_TX_FFE_MAIN l) = c.byte 22 % 128 ∧ d.laneTapSet l = (d.lane.get l).taps) ∧
  (∀ (s : State) (c : Desc) (l : Lane),
    s.dev.Acts c → selLanes c = [l] → (s.dev.groupOf l).isSome = true → (c.bits 18 1 0 = 3 ∧ s.dev.get
      (HLn_TEST_STATUS_GEN_ON l) = 0 ∧ s.dev.lanePowerOff l = false) ∨ c.bits 18 1 0 = 0 →
    Answers (.hostLaneLoopback c) s fun d => d.Completed c stOk 0 ∧ d.get (HLn_TEST_STATUS_LOOP l) = c.bits 18 1 0) ∧
  (∀ (s : State) (c : Desc) (l : Lane),
    s.dev.Acts c → selLanes c = [l] → c.bits 20 2 0 ≤ 2 → (s.dev.groupOf l).isSome = true → s.dev.laneNoMode l = false →
      s.dev.lanePowerOff l = false → s.dev.get (HLn_TEST_STATUS_LOOP l) ≠ 3 →
    Answers (.hostLanePrbsSet c) s fun d => d.Completed c stOk 0 ∧ d.get (HLn_TEST_STATUS_GEN_ON l) = bnat (c.flag 19 0)
      ∧ d.get (HLn_TEST_STATUS_CHK_ON l) = bnat (c.flag 19 1) ∧ d.get (HLn_TEST_STATUS_PATTERN l) = c.bits 20 2 0) ∧
  (∀ (s : State) (c : Desc) (l : Lane),
    s.dev.Acts c → selLanes c = [l] → c.length = 24 → (s.dev.ring c.ring).owner = 0 → c.data = .first →
    Answers (.hostLanePrbsRead c) s fun d => d.Completed c stOk 24 ∧ (d.lane.get l).bits = (s.dev.lane.get l).bits) ∧
  (∀ (s : State) (c : Desc) (l : Lane),
    s.dev.Acts c → selLanes c = [l] → c.length = 24 → (s.dev.ring c.ring).owner = 0 → c.data = .first →
    Answers (.hostLanePrbsReadClear c) s fun d => d.Completed c stOk 24 ∧ (d.lane.get l).bits = 0 ∧ (d.lane.get l).errors
      = 0) ∧
  (∀ (s : State) (c : Desc) (l : Lane),
    s.dev.Acts c → selLanes c = [l] →
    Answers (.hostLanePrbsClear c) s fun d => d.Completed c stOk 0 ∧ (d.lane.get l).bits = 0 ∧ (d.lane.get l).errors = 0
      ∧ d.get (HLn_TEST_STATUS_LOCK_LOSSES l) = 0) ∧
  (∀ (s : State) (c : Desc) (l : Lane),
    s.dev.Acts c → l = Fin.ofNat 16 (c.bits 16 3 0) → s.dev.groupOf l = none → c.flag 17 0 = true →
    Answers (.hostLaneBitslip c) s fun d => d.Completed c stOk ((s.dev.get (HLn_MAP_SLIP_TX l) + 1) % 256) ∧ d.get
      (HLn_MAP_SLIP_TX l) = (s.dev.get (HLn_MAP_SLIP_TX l) + 1) % 256 ∧ d.get (HLn_MAP_SLIP_RX l) = s.dev.get
      (HLn_MAP_SLIP_RX l)) ∧
  (∀ (s : State) (c : Desc),
    s.dev.Acts c → (∀ l : Lane, c.flag (16 + l.val) 6 = true) → allPorts.all (s.dev.groupGood s.dev.laneSlot) = true →
    Answers (.laneMap c) s fun d => d.Completed c stOk 0 ∧ d.laneSlot = s.dev.laneSlot ∧ d.host.defaultMap = false) ∧
  (∀ (s : State) (c : Desc) (l : Lane) (p : Port),
    s.dev.Acts c → (∀ i : Lane, i ≠ l → c.flag (16 + i.val) 6 = true ∧ s.dev.laneSlot i = none) → c.byte (16 + l.val) =
      128 + p.val → s.dev.laneSlot l = none → s.dev.linkState p = 0 → s.dev.get (LPn_PORT_CFG_MODE p) = 0 →
    Answers (.laneMap c) s fun d => d.Completed c stOk 0 ∧ d.laneSlot l = some (p.val, 0))

/-! ## The bias control engine and the auxiliary DAC (11) -/

/-- AUX_UPDATE_TICK of a driven channel that no loop owns, with SLEW_STEP 0 and a code (16,383 at most) in its queue: the
oldest code is the target and the output, and leaves the queue. AUX_SLEW_TICK of a driven channel with SLEW_STEP not 0,
no loop in RAMP and no Quench at its ramp: the output goes toward the target by at most SLEW_STEP, and the target
stays. AUX_DAC_QUEUE of one code from host memory without FLUSH to a channel that no loop owns, with no clear in force
and room in the queue: OK with the new queue length, and the code (16,383 at most) is the newest. AUX_DAC_CONFIG with
SET_RATE alone and a DEPTH of 1–16: OK; DEPTH and the update and slew fields are the descriptor's, the queue keeps its
oldest DEPTH codes, and the clear code stays. AUX_CLR_ASSERT with the pin not asserted and no Quench at its ramp: the
pin and CLEAR_ACTIVE read 1, every channel has its clear code and an empty queue, and every loop that was not STOPPED
is HALTED. AUX_CLR_DEASSERT with no hard Quench: the pin, CLEAR_ACTIVE and CLEARED of every channel read 0, and no
output or queue changes. AUX_POWER_CLEAR: every channel is driven, at its clear code, with an empty queue. -/
def Obligations.AuxiliaryChannels : Prop :=
  (∀ (s : State) (c : AuxCh) (v : Nat) (l : List Nat),
    s.dev.get (AUX_CHm_STATUS_OWNED c) = 0 → (s.dev.aux.get c).driven = true → (s.dev.aux.get c).queue = v :: l →
      s.dev.get (AUX_CHm_CFG_SLEW_STEP c) = 0 → v ≤ 16383 →
    Answers (.auxUpdateTick c) s fun d => d.get (AUX_CHm_STATUS_TARGET c) = v ∧ d.get (AUX_CHm_STATUS_CODE c) = v ∧
      (d.aux.get c).queue = l) ∧
  (∀ (s : State) (c : AuxCh),
    (s.dev.aux.get c).driven = true → s.dev.get (AUX_CHm_CFG_SLEW_STEP c) ≠ 0 → s.dev.ramping = [] → s.dev.thm.orderly ≠
      3 →
    Answers (.auxSlewTick c) s fun d => d.get (AUX_CHm_STATUS_CODE c) = stepToward (s.dev.get (AUX_CHm_STATUS_CODE c))
      (s.dev.get (AUX_CHm_STATUS_TARGET c)) (s.dev.get (AUX_CHm_CFG_SLEW_STEP c)) % 2 ^ 14 ∧ d.get (AUX_CHm_STATUS_TARGET
      c) = s.dev.get (AUX_CHm_STATUS_TARGET c)) ∧
  (∀ (s : State) (c : Desc) (m : AuxCh),
    s.dev.Acts c → c.bits 16 4 0 = m.val → c.length = 2 ∧ c.flag 17 0 = false → (s.dev.ring c.ring).owner = 0 → c.data =
      .first → s.dev.get (AUX_CHm_STATUS_OWNED m) = 0 → s.dev.auxHeld = false → (s.dev.aux.get m).queue.length <
      s.dev.get (AUX_CHm_QUEUE_DEPTH m) + 1 →
    Answers (.auxDacQueue c) s fun d => d.Completed c stOk ((s.dev.aux.get m).queue.length + 1) ∧ (d.aux.get m).queue =
      (s.dev.aux.get m).queue ++ [min (ofBytes [s.dev.fresh.hostByte (c.address % 2 ^ 64), s.dev.fresh.hostByte
      ((c.address + 1) % 2 ^ 64)]) 16383]) ∧
  (∀ (s : State) (c : Desc) (m : AuxCh),
    s.dev.Acts c → c.bits 16 4 0 = m.val → c.flag 17 0 = false ∧ c.flag 17 1 = true → 1 ≤ c.bits 26 4 0 ∧ c.bits 26 4 0 ≤
      16 →
    Answers (.auxDacConfig c) s fun d => d.Completed c stOk 0 ∧ d.get (AUX_CHm_QUEUE_DEPTH m) = c.bits 26 4 0 - 1 ∧ d.get
      (AUX_CHm_CFG_UPD_DIV m) = c.bytes 20 2 % 2 ^ 16 ∧ d.get (AUX_CHm_CLEAR_CLEAR m) = s.dev.get (AUX_CHm_CLEAR_CLEAR m)
      ∧ (d.aux.get m).queue = (s.dev.aux.get m).queue.take (c.bits 26 4 0)) ∧
  (∀ (s : State),
    s.dev.get AUX_STATUS_CLR_PIN = 0 → s.dev.thm.orderly ≠ 3 →
    Answers .auxClrAssert s fun d => d.get AUX_STATUS_CLR_PIN = 1 ∧ d.get AUX_STATUS_CLEAR_ACTIVE = 1 ∧ (∀ c : AuxCh,
      d.get (AUX_CHm_STATUS_CODE c) = s.dev.auxClearCode c % 2 ^ 14 ∧ (d.aux.get c).queue = []) ∧ ∀ l : LoopNo,
      d.loopState l = if s.dev.loopState l = 0 then 0 else 5) ∧
  (∀ (s : State) (m : AuxCh),
    s.dev.thm.hard = false →
    Answers .auxClrDeassert s fun d => d.get AUX_STATUS_CLR_PIN = 0 ∧ d.get AUX_STATUS_CLEAR_ACTIVE = 0 ∧ d.get
      (AUX_CHm_STATUS_CLEARED m) = 0 ∧ d.get (AUX_CHm_STATUS_CODE m) = s.dev.get (AUX_CHm_STATUS_CODE m) ∧ (d.aux.get
      m).queue = (s.dev.aux.get m).queue) ∧
  (∀ (s : State),
    Answers .auxPowerClear s fun d => ∀ c : AuxCh, (d.aux.get c).driven = true ∧ d.get (AUX_CHm_STATUS_CODE c) =
      s.dev.auxClearCode c % 2 ^ 14 ∧ (d.aux.get c).queue = [])

/-- LOOP_SAMPLE of a configured loop in RUN with a valid sample, no wait, no freeze check, no swap, table or injection
pending, POL 0, KI and KD 0 and no capture: FB is the sample, U is the proportional term plus BIAS and INTEG with each
sum saturated, and a result is ready. LOOP_SAMPLE of a loop in FAULT_HOLD, FAULT_CLEAR or a state above while its stop
is the one wait: the loop is STOPPED and the stop ends OK. LOOP_OUTPUT in time with a result of 16,383 at most: it is
the target of the loop and of its channel, and no result is left. LOOP_OUTPUT too late for a result: the target stays,
LATE is set, and the result is dropped. LOOP_ARM_TIMEOUT in ARMING with FAULT_ACT 0, the start the one wait: FAULT_HOLD
with cause 6, and the start ends TIMEOUT with Result 3. LOOP_RAMP_END in a Quench at its ramp, with one loop in RAMP
whose output is not at its clear code: that loop is STOPPED, the output is at the clear code, RAMP_CUT is set, and the
Quench goes on to step 4. -/
def Obligations.BiasLoops : Prop :=
  (∀ (s : State) (l : LoopNo) (v : Nat),
    s.dev.loopSet l = true → s.dev.waits = [] → s.dev.loopState l = 2 → s.dev.feedback l = (v, true) → (s.dev.loop.get
      l).frzN = 0 → (s.dev.loop.get l).pend = none ∧ (s.dev.loop.get l).pendTable = none ∧ (s.dev.loop.get l).inj = none
      → (s.dev.loop.get l).pol = false → (s.dev.loop.get l).bank.ki = (0, 0) ∧ (s.dev.loop.get l).bank.kd = (0, 0) →
      s.dev.bceCap.on = false →
    Answers (.loopSample l) s fun d => d.get (BCE_LOOPn_FB_FB l) = v % 2 ^ 16 ∧ (d.loop.get l).result.isSome = true ∧
      d.geti (BCE_LOOPn_U_VALUE l) = satSum [biasTerm (s.dev.loop.get l).bank.kp (satSum [sat32 ((s.dev.loop.get
      l).bank.sp - v), 0]), 0, (s.dev.loop.get l).bank.bias, d.geti (BCE_LOOPn_INTEG_VALUE l)]) ∧
  (∀ (s : State) (l : LoopNo) (c : Desc),
    s.dev.loopSet l = true → s.dev.waits = [(.loopStop l, c)] → 3 ≤ s.dev.loopState l →
    Answers (.loopSample l) s fun d => d.loopState l = 0 ∧ d.waits = [] ∧ d.Completed c stOk 0) ∧
  (∀ (s : State) (l : LoopNo) (v : Nat),
    (s.dev.loop.get l).result = some v → v ≤ 16383 →
    Answers (.loopOutput l false) s fun d => d.get (BCE_LOOPn_FB_TARGET l) = v ∧ d.get (AUX_CHm_STATUS_TARGET
      (s.dev.loopChan l)) = v ∧ (d.loop.get l).result = none) ∧
  (∀ (s : State) (l : LoopNo) (v : Nat),
    (s.dev.loop.get l).result = some v →
    Answers (.loopOutput l true) s fun d => d.get (BCE_LOOPn_FB_TARGET l) = s.dev.get (BCE_LOOPn_FB_TARGET l) ∧ d.get
      BCE_EVENTS_LATE = 1 ∧ (d.loop.get l).result = none) ∧
  (∀ (s : State) (l : LoopNo) (c : Desc),
    s.dev.loopState l = 1 → (s.dev.loop.get l).faultAct = false → s.dev.waits = [(.loopStart l, c)] →
    Answers (.loopArmTimeout l) s fun d => d.loopState l = 3 ∧ d.get (BCE_LOOPn_STATE_CAUSE l) = 6 ∧ d.Completed c
      stTimeout 3) ∧
  (∀ (s : State) (l : LoopNo),
    s.dev.thm.orderly = 3 → s.dev.ramping = [l] → s.dev.get (AUX_CHm_STATUS_CODE (s.dev.loopChan l)) ≠ s.dev.auxClearCode
      (s.dev.loopChan l) →
    Answers .loopRampEnd s fun d => d.loopState l = 0 ∧ d.get (AUX_CHm_STATUS_CODE (s.dev.loopChan l)) =
      s.dev.auxClearCode (s.dev.loopChan l) % 2 ^ 14 ∧ d.get BCE_EVENTS_RAMP_CUT = 1 ∧ d.thm.orderly = 4)

/-- LOOP_CONFIG (configure) with Length 0 and valid fields, without QRAMP, of a STOPPED loop that has no channel, with a
good bank, and a channel no loop owns: OK; channel, PERIOD and CLASS are the descriptor's, and the loop owns the
channel, whose queue is empty. LOOP_CONFIG's stop of a configured loop, with nothing else waiting: the loop's state
stays, and the stop is the one wait, for the loop's next sample. LOOP_RESTART of a configured loop in FAULT_HOLD or
FAULT_CLEAR, with AUX_CLR_N not asserted, no Quench and nothing else waiting: ARMING with cause 0, and the start is the
one wait. LOOP_COEFF_SWAP of a good bank from host memory to a loop in RUN, with nothing else waiting: the bank is
pending with SWAP_PEND 1, the bank in use stays, and the swap is the one wait. LOOP_TABLE_LOAD of 65 codes (16,383 at
most) from host memory to a class H loop in RUN, with nothing else waiting: the table is pending, the table in use
stays, and the load is the one wait. LOOP_INJECT of a square wave with period 4–4,096 and COUNT 0 into a loop in RUN
with no injection: OK; the injection is the descriptor's, at its start, and INJ reads 1. LOOP_CAPTURE ARM with signals
0–5 on a loop in RUN, no capture armed and nothing waiting: the capture is armed with the descriptor's fields and is
the one wait. LOOP_CAPTURE READ into host memory of a part of the buffer that reads without an error, with no capture
armed: OK with the number of bytes. -/
def Obligations.BiasDescriptors : Prop :=
  (∀ (s : State) (c : Desc) (l : LoopNo) (m : AuxCh),
    s.dev.Acts c → c.bits 16 3 0 = l.val ∧ c.bits 17 1 0 = 0 → c.length = 0 → c.bits 19 4 0 = m.val → c.bits 20 4 0 ≤ 7 →
      5 ≤ c.bytes 21 2 ∧ c.bytes 21 2 ≤ 1000 → c.bits 27 3 0 ≤ 7 → c.flag 18 4 = false → s.dev.get (AUX_CHm_STATUS_OWNED
      m) = 0 → (s.dev.loop.get l).owns = false → (s.dev.loop.get l).bank.good (c.flag 18 0) = true → s.dev.loopState l =
      0 →
    Answers (.loopConfig c) s fun d => d.Completed c stOk 0 ∧ d.get (BCE_LOOPn_STATE_CHANNEL l) = m.val ∧ d.get
      (BCE_LOOPn_STATE_PERIOD l) = c.bytes 21 2 ∧ d.get (BCE_LOOPn_STATE_CLASS l) = bnat (c.flag 18 0) ∧ d.get
      (AUX_CHm_STATUS_OWNED m) = 1 ∧ (d.aux.get m).queue = [] ∧ d.loopState l = 0) ∧
  (∀ (s : State) (c : Desc) (l : LoopNo),
    s.dev.Acts c → c.bits 16 3 0 = l.val ∧ c.bits 17 1 0 = 2 → s.dev.loopSet l = true → s.dev.waits = [] →
    Answers (.loopConfig c) s fun d => d.waits = [(.loopStop l, { Desc.stamp c s.dev.timebase with data := .first })] ∧
      d.loopState l = s.dev.loopState l) ∧
  (∀ (s : State) (c : Desc) (l : LoopNo),
    s.dev.Acts c → c.bits 16 3 0 = l.val → s.dev.loopSet l = true → s.dev.loopState l = 3 ∨ s.dev.loopState l = 4 →
      s.dev.get AUX_STATUS_CLR_PIN = 0 → s.dev.quenching = false → s.dev.waits = [] →
    Answers (.loopRestart c) s fun d => d.loopState l = 1 ∧ d.get (BCE_LOOPn_STATE_CAUSE l) = 0 ∧ d.waits = [(.loopStart
      l, { Desc.stamp c s.dev.timebase with data := .first })]) ∧
  (∀ (s : State) (c : Desc) (l : LoopNo),
    s.dev.Acts c → c.bits 16 3 0 = l.val → c.length = 72 → (s.dev.ring c.ring).owner = 0 → c.data = .first →
      (s.dev.fresh.readBank c).2.1.good (s.dev.on (BCE_LOOPn_STATE_CLASS l)) = true → s.dev.loopState l = 2 → s.dev.waits
      = [] →
    Answers (.loopCoeffSwap c) s fun d => (d.loop.get l).pend = some (s.dev.fresh.readBank c).2.1 ∧ (d.loop.get l).bank =
      (s.dev.loop.get l).bank ∧ d.get (BCE_LOOPn_STATE_SWAP_PEND l) = 1 ∧ d.waits = [(.loopSwap l,
      { Desc.stamp c s.dev.timebase with data := .first })]) ∧
  (∀ (s : State) (c : Desc) (l : LoopNo),
    s.dev.Acts c → c.bits 16 3 0 = l.val → s.dev.get (BCE_LOOPn_STATE_CLASS l) = 1 → c.length = 130 → (s.dev.ring
      c.ring).owner = 0 → c.data = .first → ((chunks 2 66 (s.dev.fresh.getData c 0 130).2.1).map ofBytes).all (fun v =>
      decide (v ≤ 16383)) = true → s.dev.loopState l = 2 → s.dev.waits = [] →
    Answers (.loopTableLoad c) s fun d => (d.loop.get l).pendTable = some (Vector.ofFn fun i => ((chunks 2 66
      (s.dev.fresh.getData c 0 130).2.1).map ofBytes).getD i.val 0) ∧ (d.loop.get l).table = (s.dev.loop.get l).table ∧
      d.waits = [(.loopTable l, { Desc.stamp c s.dev.timebase with data := .first })]) ∧
  (∀ (s : State) (c : Desc) (l : LoopNo),
    s.dev.Acts c → c.bits 16 3 0 = l.val → c.bits 17 3 1 = 2 → 4 ≤ c.bytes 20 2 % 8192 ∧ c.bytes 20 2 % 8192 ≤ 4096 →
      c.bytes 24 4 = 0 → s.dev.loopState l = 2 → (s.dev.loop.get l).inj = none →
    Answers (.loopInject c) s fun d => d.Completed c stOk 0 ∧ (d.loop.get l).inj = some
      { out := c.flag 17 0, wave := 2, amp := c.bytes 18 2, wper := c.bytes 20 2 % 8192, chip := c.byte 22, count := 0,
        k := 0 } ∧ d.get (BCE_LOOPn_STATE_INJ l) = 1) ∧
  (∀ (s : State) (c : Desc) (l : LoopNo),
    s.dev.Acts c → c.bits 16 3 0 = l.val → c.bits 18 2 0 ≤ 5 ∧ c.bits 19 2 0 ≤ 5 → s.dev.loopState l = 2 →
      s.dev.bceCap.on = false → s.dev.waits = [] →
    Answers (.loopCaptureArm c) s fun d => d.bceCap =
      { on := true, loop := l.val, sigA := c.bits 18 2 0, sigB := c.bits 19 2 0, decim := c.byte 20,
        waitInj := c.flag 21 0, skip := 0, count := 0 } ∧ d.waits = [(.bceCapture,
      { Desc.stamp c s.dev.timebase with data := .first })]) ∧
  (∀ (s : State) (c : Desc),
    s.dev.Acts c → c.bytes 24 4 + c.length ≤ 32768 → 0 < c.length → (s.dev.ring c.ring).owner = 0 → s.dev.bceCap.on =
      false → (s.dev.fresh.readMem 1 (bceCapBase + c.bytes 24 4) c.length c.glitch).2.2 = .first →
    Answers (.loopCaptureRead c) s fun d => d.Completed c stOk c.length)

/-! ## The monitor converter (12) -/

/-- MON_CONVERSION while the monitor runs with slices in service, of the next enabled slot's input by a slice with no
flag, with a code (0–4,095) within VLO–VHI: LAST is the corrected value, COUNT is one more (saturating), OOR_COUNT
stays, and the table moves past the slot. MON_HEALTH_WINDOW_END of the slice under the check (number below 5), with
codes not all one and a mean within 4 LSB of the free slice’s: no flag, no failing window, and the check goes to the
next slice. One that fails, the slice's first failing window: the slice is flagged, HLTH_FAILS is one more
(saturating), and the slices in service stay. MON_CAL_MEASURE_END with no measurement of the cycle's slice kept: the
cycle keeps what the sums give. One that agrees with the measurement kept: the slice's offset trim has the two offsets'
mean taken off in 1/16 LSB, and the cycle goes to its next slice. MON_SYSCAL_MEASURE_END of a first measurement with
all its conversions and none out of range: its mean is kept, and the next measurement starts empty. A second one of
ZERO within 8 units of the mean kept, the step the one wait: the rounded mean of the two is the zero, and the step ends
OK with it. -/
def Obligations.MonitorConversions : Prop :=
  (∀ (s : State) (z : Int) (i : InputNo) (k : Nat),
    s.dev.monRuns = true → s.dev.mon.inServ ≠ [] → s.dev.nextSlot s.dev.mon.slots s.dev.mon.pos = some k → i = Fin.ofNat
      32 (s.dev.mon.slots.getD k 0) → (s.dev.mon.slice.get (Fin.ofNat 5 (s.dev.slotSlice k))).flagged = false → s.dev.get
      (MON_INm_LIM_VLO i) ≤ (clampInt 0 4095 z).toNat ∧ (clampInt 0 4095 z).toNat ≤ s.dev.get (MON_INm_LIM_VHI i) →
    Answers (.monConversion z) s fun d => d.get (MON_INm_VAL_LAST i) = s.dev.monValue i (trimmed (s.dev.mon.slice.get
      (Fin.ofNat 5 (s.dev.slotSlice k))) (clampInt 0 4095 z).toNat) ∧ (d.mon.inp.get i).count = min ((s.dev.mon.inp.get
      i).count + 1) (2 ^ 32 - 1) ∧ (d.mon.inp.get i).oorCount = (s.dev.mon.inp.get i).oorCount ∧ d.mon.pos = k + 1) ∧
  (∀ (s : State) (n : Nat) (codes : List (Nat × Nat)),
    s.dev.monHealthOn = true → s.dev.mon.health < s.dev.mon.inServ.length → s.dev.mon.inServ[s.dev.mon.health]? = some n
      → n < 5 → monWindowFails (s.dev.mon.slice.get (Fin.ofNat 5 n)) (s.dev.mon.slice.get (Fin.ofNat 5
      (s.dev.mon.free.headD 0))) codes = false →
    Answers (.monHealthWindowEnd codes) s fun d => (d.mon.slice.get (Fin.ofNat 5 n)).flagged = false ∧ (d.mon.slice.get
      (Fin.ofNat 5 n)).bad = 0 ∧ d.mon.health = (s.dev.mon.health + 1) % s.dev.mon.inServ.length) ∧
  (∀ (s : State) (n : Nat) (codes : List (Nat × Nat)),
    s.dev.monHealthOn = true → s.dev.mon.health < s.dev.mon.inServ.length → s.dev.mon.inServ[s.dev.mon.health]? = some n
      → n < 5 → (s.dev.mon.slice.get (Fin.ofNat 5 n)).bad = 0 → monWindowFails (s.dev.mon.slice.get (Fin.ofNat 5 n))
      (s.dev.mon.slice.get (Fin.ofNat 5 (s.dev.mon.free.headD 0))) codes = true →
    Answers (.monHealthWindowEnd codes) s fun d => (d.mon.slice.get (Fin.ofNat 5 n)).flagged = true ∧ (d.mon.slice.get
      (Fin.ofNat 5 n)).bad = 1 ∧ d.get MON_SLICE_HLTH_FAILS = min (s.dev.get MON_SLICE_HLTH_FAILS + 1) 255 ∧ d.mon.inServ
      = s.dev.mon.inServ) ∧
  (∀ (s : State) (m : MonSums) (n a g : Nat) (r : List Nat),
    s.dev.mon.cycle = some (n :: r, [], a, g) →
    Answers (.monCalMeasureEnd m) s fun d => d.mon.cycle = some (n :: r, [monMeas m], a, g)) ∧
  (∀ (s : State) (m : MonSums) (w : MonMeas) (n a g k : Nat) (r : List Nat),
    s.dev.mon.cycle = some (n :: k :: r, [w], a, g) → monAgree w (monMeas m) = true →
    Answers (.monCalMeasureEnd m) s fun d => d.mon.cycle = some (k :: r, [], 1, g) ∧ (d.mon.slice.get (Fin.ofNat 5
      n)).off = clampInt (-128) 127 (roundRat ((s.dev.mon.slice.get (Fin.ofNat 5 n)).off - 8 * (w.off + (monMeas
      m).off)))) ∧
  (∀ (s : State) (i : InputNo) (y : Syscal),
    (s.dev.mon.inp.get i).syscal = some y → y.oor = false → y.taken = 2 ^ (8 + y.avg) → y.got = [] →
    Answers (.monSyscalMeasureEnd i) s fun d => (d.mon.inp.get i).syscal = some
      { y with sum := 0, taken := 0, got := [(y.sum : Rat) / y.taken] }) ∧
  (∀ (s : State) (i : InputNo) (y : Syscal) (w : Rat) (c : Desc),
    (s.dev.mon.inp.get i).syscal = some y → y.oor = false → y.taken = 2 ^ (8 + y.avg) → y.target = none ∧ y.got = [w] →
      within 8 w ((y.sum : Rat) / y.taken) = true → s.dev.waits = [(.syscal i, c)] →
    Answers (.monSyscalMeasureEnd i) s fun d => (d.mon.inp.get i).syscal = none ∧ (d.mon.inp.get i).zero = some (roundRat
      ((w + (y.sum : Rat) / y.taken) / 2)) ∧ d.Completed c stOk (codeOf 32 (roundRat ((w + (y.sum : Rat) / y.taken) /
      2))))

/-- MON_CONFIG INPUT that enables an input, with VLO at most VHI, no bias current and RB_SEL at most 23: OK; EN, VLO, VHI
and COARSE_K are the descriptor's. MON_CONFIG SLOTS of 1–64 inputs (0–31) from host memory, every loop STOPPED: OK with
Length; the table is the next one, and the table in use stays. MON_CONFIG POWER: LP_SW and LP_GUARD are the
descriptor's, and OK with whether LP_SW or sub-step 3 of shedding puts low-power mode in force. MON_CONFIG CAL_CYCLE of
a running monitor not in low-power mode, with slices in service and one free, and no cycle under way: the cycle starts
with the free slice, and the descriptor waits for it. MON_READ of one or more inputs into host memory with CLEAR,
Length 32 an input: OK with Length, and SUM and COUNT of each input read are 0. MON_SYSCAL ZERO with AVG at most 4 of
an input that feeds no loop and has no step under way: a measurement starts, and the descriptor waits. MON_SYSCAL FULL
likewise, after a ZERO: the same with its target. MON_SYSCAL DEFAULT with AVG at most 4 of an input that feeds no loop:
OK with Result 0x40000000, and the input's coefficients are offset 0 and gain 1. CIC_CONFIG that writes ORDER 3–5, DEC
4–4,096 and LTH at most UTH to a channel that feeds no loop: OK, and the channel's fields are the descriptor's. -/
def Obligations.MonitorDescriptors : Prop :=
  (∀ (s : State) (c : Desc) (i : InputNo),
    s.dev.Acts c → c.bits 17 4 0 = i.val → c.bytes 19 2 % 4096 ≤ c.bytes 21 2 % 4096 → c.bits 18 2 1 = 0 ∧ c.bits 23 4 0
      ≤ 23 → c.flag 18 0 = true →
    Answers (.monConfigInput c) s fun d => d.Completed c stOk 0 ∧ d.get (MON_INm_CFG_EN i) = 1 ∧ d.get (MON_INm_LIM_VLO
      i) = c.bytes 19 2 % 4096 ∧ d.get (MON_INm_LIM_VHI i) = c.bytes 21 2 % 4096 ∧ d.get (MON_INm_CFG_COARSE_K i) =
      c.bits 18 5 3) ∧
  (∀ (s : State) (c : Desc),
    s.dev.Acts c → 1 ≤ c.length ∧ c.length ≤ 64 → (s.dev.ring c.ring).owner = 0 → c.data = .first → (s.dev.fresh.getData
      c 0 c.length).2.1.all (fun x => decide (x.toNat ≤ 31)) = true → (∀ l : LoopNo, s.dev.loopState l = 0) →
    Answers (.monConfigSlots c) s fun d => d.Completed c stOk c.length ∧ d.mon.nextSlots = some ((s.dev.fresh.getData c 0
      c.length).2.1.map BitVec.toNat) ∧ d.mon.slots = s.dev.mon.slots) ∧
  (∀ (s : State) (c : Desc),
    s.dev.Acts c →
    Answers (.monConfigPower c) s fun d => d.get MON_CTRL_LP_SW = bnat (c.flag 17 0) ∧ d.get MON_CTRL_LP_GUARD = bnat
      (c.flag 17 1) ∧ d.Completed c stOk (bnat (c.flag 17 0 || s.dev.shedAt 5))) ∧
  (∀ (s : State) (c : Desc) (l r : List Nat),
    s.dev.Acts c → s.dev.monLp = false → s.dev.monRuns = true → s.dev.mon.inServ = l → l ≠ [] → s.dev.mon.free = r → r ≠
      [] → s.dev.mon.cycle = none →
    Answers (.monConfigCalCycle c) s fun d => d.mon.cycle = some (r.headD 0 :: l, [], 1, 0) ∧ d.waits = s.dev.waits ++
      [(.monCycle, Desc.stamp c s.dev.timebase)]) ∧
  (∀ (s : State) (c : Desc),
    s.dev.Acts c → c.flag 16 0 = false ∧ c.flag 17 0 = true → c.bytes 20 4 ≠ 0 → c.length = 32 * (maskList 32 (c.bytes 20
      4)).length → (s.dev.ring c.ring).owner = 0 →
    Answers (.monRead c) s fun d => d.Completed c stOk c.length ∧ ∀ i ∈ maskList 32 (c.bytes 20 4), (d.mon.inp.get
      (Fin.ofNat 32 i)).sum = 0 ∧ (d.mon.inp.get (Fin.ofNat 32 i)).count = 0) ∧
  (∀ (s : State) (c : Desc),
    s.dev.Acts c → c.bits 18 2 0 ≤ 4 ∧ c.bits 17 1 0 = 0 → s.dev.inputUsed (Desc.input c) = false → (s.dev.mon.inp.get
      (Desc.input c)).syscal = none →
    Answers (.monSyscalZero c) s fun d => (d.mon.inp.get (Desc.input c)).syscal = some
      { target := none, avg := c.bits 18 2 0 } ∧ d.waits = s.dev.waits ++ [(.syscal (Desc.input c), Desc.stamp c
      s.dev.timebase)]) ∧
  (∀ (s : State) (c : Desc),
    s.dev.Acts c → c.bits 18 2 0 ≤ 4 ∧ c.bits 17 1 0 = 1 → (s.dev.mon.inp.get (Desc.input c)).zero.isSome = true →
      s.dev.inputUsed (Desc.input c) = false → (s.dev.mon.inp.get (Desc.input c)).syscal = none →
    Answers (.monSyscalFull c) s fun d => (d.mon.inp.get (Desc.input c)).syscal = some
      { target := some (c.bytes 20 2), avg := c.bits 18 2 0 } ∧ d.waits = s.dev.waits ++ [(.syscal (Desc.input c),
      Desc.stamp c s.dev.timebase)]) ∧
  (∀ (s : State) (c : Desc),
    s.dev.Acts c → c.bits 18 2 0 ≤ 4 ∧ c.bits 17 1 0 = 2 → s.dev.inputUsed (Desc.input c) = false →
    Answers (.monSyscalDefault c) s fun d => d.Completed c stOk 0x40000000 ∧ d.get (MON_INm_CAL_OFFSET (Desc.input c)) =
      0 ∧ d.get (MON_INm_CAL_GAIN (Desc.input c)) = 0x4000) ∧
  (∀ (s : State) (c : Desc) (k : Nat),
    s.dev.Acts c → k = c.bits 16 2 0 → c.flag 17 0 = true → 3 ≤ c.bits 19 2 0 ∧ c.bits 19 2 0 ≤ 5 → 4 ≤ c.bytes 20 2 %
      8192 ∧ c.bytes 20 2 % 8192 ≤ 4096 → c.bytes 24 2 ≤ c.bytes 22 2 → s.dev.cicUsed k = false →
    Answers (.cicConfig c) s fun d => d.Completed c stOk 0 ∧ d.get (MON_CICk_CFG_ORDER k) = c.bits 19 2 0 ∧ d.get
      (MON_CICk_CFG_DEC k) = c.bytes 20 2 % 8192 ∧ d.get (MON_CICk_TH_UTH k) = c.bytes 22 2 ∧ d.get (MON_CICk_TH_LTH k) =
      c.bytes 24 2 ∧ d.get (MON_CICk_CFG_EN k) = bnat (c.flag 28 3))

/-! ## Registers by command, transports, rings (13) -/

/-- A device serves a transport at once where it has booted, is ACTIVE, and the transport is enabled; WAKE_REQ_WRITE
alone is stated in RETAIN. LATCHED_LO_READ of the low half of a 64-bit value: it gives the low half and keeps the high
half for its transport. LATCHED_LO_READ of a double word of the MSI-X table or pending bits gives what it holds.
GAIN_MODE_WRITE: GAIN_MODE is as written. ADC_CAL_HOLD_WRITE with REHOLD_BLOCK 0: HOLD is as written. SW_FREEZE_WRITE:
SW_FREEZE is as written. LULL_EN_CLEAR: LULL_EN is as written. FEC_COUNTER_CLEAR with CLEAR 1: all 64 counters of its
port are 0. RX_FREEZE_WRITE from 0 to 1: the equaliser is frozen, and the SNR at that moment is kept.
HOST_TX_TAP_WRITE: MAIN or POST1 is as written, TAP_BAD tells whether the tap set is out of limits, and a set within
them is in use; else the taps in use stay. AUX_CLEAR_WRITE while the channel is cleared: CLEAR is as written, and the
output is the new code. CHK_VALUE_COMMIT with no run on the channel: VALUE is this half over the low half held, and the
channel counts as started. WAKE_REQ_WRITE of 1 in RETAIN with no entry under way, booted, the transport enabled and
SER_EN 1: the device is WAKING at step 1, with LAST_WAKE 3. ADMIN_ENABLE from 0 to 1 with BOOT 0, logarithms of the
sizes of 4–16 and bases of 64 bytes: rings 0 (to ring 1) and 1 are enabled, READY is 1 and FAULT 0. ADMIN_DISABLE from
1 to 0: rings 0 and 1 are gone, and READY is 0. EVR_CURSOR_WRITE of a value other than 0xFFFFFFFF: the cursor is that.
EVR_WIN15_READ: the cursor is one more, modulo 2^32. -/
def Obligations.RegisterWriteCommands : Prop :=
  (∀ (s : State) (t : Transport) (off : BitVec 16) (n : Nat),
    s.dev.Serving t → off.toNat % 4 = 0 → s.dev.wideValue off.toNat = some n →
    Answers (.latchedLoRead t (.setup off)) s fun d => d.readData = bytesOf 4 (n % 2 ^ 32) ∧ sget 0 (d.hiLatch.get t.idx)
      (off.toNat + 4) = n / 2 ^ 32 % 2 ^ 32) ∧
  (∀ (s : State) (off : BitVec 16),
    s.dev.Serving .pcie → off.toNat < 0x600 ∧ off.toNat % 4 = 0 →
    Answers (.latchedLoRead .pcie (.msix off)) s fun d => d.readData = bytesOf 4 (s.dev.msixRead off.toNat)) ∧
  (∀ (s : State) (t : Transport) (p : Port) (v : BitVec 32),
    s.dev.Serving t →
    Answers (.gainModeWrite t p v) s fun d => d.get (LPn_RXFE_CTRL_GAIN_MODE p) = fieldAfter (LPn_RXFE_CTRL_GAIN_MODE p)
      0 v.toNat) ∧
  (∀ (s : State) (t : Transport) (p : Port) (v : BitVec 32),
    s.dev.Serving t → s.dev.get (LPn_ADC_CAL_STATUS_REHOLD_BLOCK p) = 0 →
    Answers (.adcCalHoldWrite t p v) s fun d => d.get (LPn_ADC_CAL_CTRL_HOLD p) = fieldAfter (LPn_ADC_CAL_CTRL_HOLD p) 0
      v.toNat) ∧
  (∀ (s : State) (t : Transport) (p : Port) (v : BitVec 32),
    s.dev.Serving t →
    Answers (.swFreezeWrite t p v) s fun d => d.get (LPn_EQ_CTRL_SW_FREEZE p) = fieldAfter (LPn_EQ_CTRL_SW_FREEZE p) 0
      v.toNat) ∧
  (∀ (s : State) (t : Transport) (p : Port) (v : BitVec 32),
    s.dev.Serving t →
    Answers (.lullEnClear t p v) s fun d => d.get (LPn_LINK_CTRL_LULL_EN p) = fieldAfter (LPn_LINK_CTRL_LULL_EN p) 0
      v.toNat) ∧
  (∀ (s : State) (t : Transport) (p : Port) (v : BitVec 32),
    s.dev.Serving t → bitOf v.toNat 31 = true →
    Answers (.fecCounterClear t p v) s fun d => (d.prt p).fec.ctr = Vector.replicate 64 0) ∧
  (∀ (s : State) (t : Transport) (l : Lane) (v : BitVec 32),
    s.dev.Serving t → s.dev.get (HLn_CTRL_RX_FREEZE l) = 0 → fieldAfter (HLn_CTRL_RX_FREEZE l) 0 v.toNat = 1 →
    Answers (.rxFreezeWrite t l v) s fun d => (d.lane.get l).frozen = true ∧ (d.lane.get l).freezeSnr = s.dev.get
      (HLn_STATUS_RX_SNR l)) ∧
  (∀ (s : State) (t : Transport) (l : Lane) (x : Bool) (v : BitVec 32),
    s.dev.Serving t →
    Answers (.hostTxTapWrite t l x v) s fun d => d.get (if x then HLn_TX_POST_POST1 l else HLn_TX_FFE_MAIN l) =
      fieldAfter (if x then HLn_TX_POST_POST1 l else HLn_TX_FFE_MAIN l) 0 v.toNat ∧ d.get (HLn_TX_POST_TAP_BAD l) = bnat
      (!laneTapsValid (d.laneTapSet l)) ∧ (d.lane.get l).taps = if laneTapsValid (d.laneTapSet l) then d.laneTapSet l
      else (s.dev.lane.get l).taps) ∧
  (∀ (s : State) (t : Transport) (c : AuxCh) (v : BitVec 32),
    s.dev.Serving t → s.dev.get (AUX_CHm_STATUS_CLEARED c) = 1 →
    Answers (.auxClearWrite t c v) s fun d => d.get (AUX_CHm_CLEAR_CLEAR c) = v.toNat % 2 ^ 14 ∧ d.get
      (AUX_CHm_STATUS_CODE c) = v.toNat % 2 ^ 14) ∧
  (∀ (s : State) (t : Transport) (k : Chan) (v : BitVec 32),
    s.dev.Serving t → s.dev.ckBusy k = false →
    Answers (.chkValueCommit t k v) s fun d => (d.chk.ch.get k).value = BitVec.ofNat 64 (2 ^ 32 * v.toNat +
      (s.dev.chk.loHeld.get k).toNat) ∧ (d.chk.ch.get k).started = true) ∧
  (∀ (s : State) (t : Transport) (v : BitVec 32),
    s.dev.sys.core ≠ .off → s.dev.get GLB_BOOT_STATUS_BOOT_DONE = 1 → s.dev.enabled t = true → s.dev.get PWR_STATE_STATE
      = 2 → s.dev.pwr.entry = 0 → s.dev.get PWR_WAKE_EN_SER_EN = 1 → bitOf v.toNat PWR_STATE_WAKE_REQ.lsb = true →
    Answers (.wakeReqWrite t v) s fun d => d.get PWR_STATE_STATE = 3 ∧ d.get PWR_STATE_WAKE_STEP = 1 ∧ d.get
      PWR_STATE_LAST_WAKE = 3) ∧
  (∀ (s : State) (t : Transport) (v : BitVec 32),
    s.dev.Serving t → s.dev.get GLB_ADMIN_CTRL_ENABLE = 0 → fieldAfter GLB_ADMIN_CTRL_ENABLE 0 v.toNat = 1 → 4 ≤
      fieldAfter GLB_ADMIN_CTRL_SQ_LOG2 0 v.toNat ∧ fieldAfter GLB_ADMIN_CTRL_SQ_LOG2 0 v.toNat ≤ 16 → 4 ≤ fieldAfter
      GLB_ADMIN_CTRL_CQ_LOG2 0 v.toNat ∧ fieldAfter GLB_ADMIN_CTRL_CQ_LOG2 0 v.toNat ≤ 16 → s.dev.get GLB_TRANSPORT_BOOT
      = 0 → s.dev.get GLB_ADMIN_SQ_LO_BASE % 64 = 0 ∧ s.dev.get GLB_ADMIN_CQ_LO_BASE % 64 = 0 →
    Answers (.adminEnable t v) s fun d => d.get GLB_ADMIN_STATUS_READY = 1 ∧ d.get GLB_ADMIN_STATUS_FAULT = 0 ∧ (d.ring
      0).live = true ∧ (d.ring 0).typ = 0 ∧ (d.ring 0).cq = 1 ∧ (d.ring 1).live = true ∧ (d.ring 1).typ = 1) ∧
  (∀ (s : State) (t : Transport) (v : BitVec 32),
    s.dev.Serving t → s.dev.get GLB_ADMIN_CTRL_ENABLE = 1 → fieldAfter GLB_ADMIN_CTRL_ENABLE 0 v.toNat = 0 →
    Answers (.adminDisable t v) s fun d => d.get GLB_ADMIN_STATUS_READY = 0 ∧ (d.ring 0).live = false ∧ (d.ring 1).live =
      false) ∧
  (∀ (s : State) (t : Transport) (v : BitVec 32),
    s.dev.Serving t → v ≠ 0xFFFFFFFF →
    Answers (.evrCursorWrite t v) s fun d => d.get EVR_CURSOR_CURSOR = v.toNat) ∧
  (∀ (s : State) (t : Transport),
    s.dev.Serving t →
    Answers (.evrWin15Read t) s fun d => d.get EVR_CURSOR_CURSOR = (s.dev.get EVR_CURSOR_CURSOR + 1) % 2 ^ 32)

/-- A device serves a transport at once where it has booted, is ACTIVE, and the transport is enabled. A register that
sets nothing going is one outside the hearth registers of which a write changes its fields alone. SPI_WRITE of the four
bytes of a register that sets nothing going: each field is what its access code says. SPI_QUAD_WRITE of them: the same.
SPI_READ of four bytes of a register outside the hearth registers: they are what the register reads as. SPI_QUAD_READ
of them: the same. SPI_IGNORED_COMMAND of a byte that is no command: nothing changes but the vote of its frame.
MDIO_DATA_LO_READ with the window at a register outside the hearth registers: it gives the low half of what the
register reads as, and keeps the high half. MDIO_DATA_HI_READ gives the high half kept, and the window moves on by 4
where AUTOINC says so. MDIO_DATA_LO_WRITE holds the low half. MDIO_DATA_HI_WRITE with the window at a register that
sets nothing going writes it with both halves: each field is what its access code says. MDIO_WIN_STATUS_READ gives UE
and clears it. MDIO_PORT_RESET of a port at rest, with no restart and no such reset under way: the link and acquisition
records of the port are as at power-on. MDIO_LINK_STATUS_READ of a port that is UP with its link bit latched low: it
gives the local fault and no link, and the latch is rearmed. PCIE_MEMORY_REQUEST, an aligned read of a register of BAR0
outside the MSI-X table and pending bits: it gives what the register reads as. DOORBELL by the owner's transport, of a
live submission ring whose context has no upset, with an index in the ring that adds no more than the room left: TAIL
is the index, and the rest of the context stays. MDIO_DB_VALUE_WRITE with DB_RING a live, empty submission ring of
MDIO, its context without upset, and an index in the ring: the same. DOORBELL_READ gives a live submission ring's HEAD
or another live ring's TAIL, and 0 for a ring that is not live. -/
def Obligations.SerialAndPcieAccesses : Prop :=
  (∀ (s : State) (a : BitVec 32) (v : BitVec 32),
    s.dev.Serving .spi → a.toNat < 0x10000 ∧ a.toNat % 4 = 0 → isHearth a.toNat = false ∧ setsGoing a.toNat = false ∧ ¬
      (0x800 ≤ a.toNat ∧ a.toNat < 0xE00) →
    Answers (.spiWrite a (bytesOf 4 v.toNat)) s fun d => ∀ f ∈ fieldsAt a.toNat, d.get f = fieldAfter f (s.dev.get f)
      v.toNat) ∧
  (∀ (s : State) (a : BitVec 32) (v : BitVec 32),
    s.dev.Serving .spi → a.toNat < 0x10000 ∧ a.toNat % 4 = 0 → isHearth a.toNat = false ∧ setsGoing a.toNat = false ∧ ¬
      (0x800 ≤ a.toNat ∧ a.toNat < 0xE00) →
    Answers (.spiQuadWrite a (bytesOf 4 v.toNat)) s fun d => ∀ f ∈ fieldsAt a.toNat, d.get f = fieldAfter f (s.dev.get f)
      v.toNat) ∧
  (∀ (s : State) (a : BitVec 32),
    s.dev.Serving .spi → a.toNat < 0x10000 ∧ a.toNat % 4 = 0 ∧ isHearth a.toNat = false →
    Answers (.spiRead a 4) s fun d => d.readData = bytesOf 4 ({ s.dev.served .spi with writes := [] }.readReg .spi
      a.toNat).2.1) ∧
  (∀ (s : State) (a : BitVec 32),
    s.dev.Serving .spi → a.toNat < 0x10000 ∧ a.toNat % 4 = 0 ∧ isHearth a.toNat = false →
    Answers (.spiQuadRead a 4) s fun d => d.readData = bytesOf 4 ({ s.dev.served .spi with writes := [] }.readReg .spi
      a.toNat).2.1) ∧
  (∀ (s : State) (x : Byte),
    s.dev.Serving .spi → spiCommands.contains x = false →
    Answers (.spiIgnoredCommand x) s fun d => d = { s.dev.served .spi with writes := [] }) ∧
  (∀ (s : State),
    s.dev.Serving .mdio → s.dev.mdio.window < 0x10000 ∧ isHearth s.dev.mdio.window = false →
    Answers .mdioDataLoRead s fun d => d.readData = bytesOf 2 ({ s.dev.served .mdio with writes := [] }.readReg .mdio
      s.dev.mdio.window).2.1 ∧ d.mdio.hiLatch = BitVec.ofNat 16 (({ s.dev.served .mdio with writes := [] }.readReg .mdio
      s.dev.mdio.window).2.1 / 2 ^ 16)) ∧
  (∀ (s : State),
    s.dev.Serving .mdio →
    Answers .mdioDataHiRead s fun d => d.readData = bytesOf 2 s.dev.mdio.hiLatch.toNat ∧ d.mdio.addr = if
      s.dev.mdio.autoInc then s.dev.mdio.addr + 4 else s.dev.mdio.addr) ∧
  (∀ (s : State) (v : BitVec 16),
    s.dev.Serving .mdio →
    Answers (.mdioDataLoWrite v) s fun d => d.mdio.loHold = v) ∧
  (∀ (s : State) (v : BitVec 16) (a : Nat),
    s.dev.Serving .mdio → s.dev.mdio.window = a → a < 0x10000 ∧ isHearth a = false ∧ setsGoing a = false ∧ ¬ (0x800 ≤ a ∧
      a < 0xE00) →
    Answers (.mdioDataHiWrite v) s fun d => ∀ f ∈ fieldsAt a, d.get f = fieldAfter f (s.dev.get f)
      (s.dev.mdio.loHold.toNat + 2 ^ 16 * v.toNat)) ∧
  (∀ (s : State),
    s.dev.Serving .mdio →
    Answers .mdioWinStatusRead s fun d => d.readData = bytesOf 2 (bnat s.dev.mdio.ue) ∧ d.mdio.ue = false) ∧
  (∀ (s : State) (p : Port),
    s.dev.Serving .mdio → s.dev.atRest p = true → s.dev.sys.restart = none → (s.dev.prt p).link.mdioReset = false →
    Answers (.mdioPortReset p) s fun d => (d.prt p).link = {} ∧ (d.prt p).acq = {}) ∧
  (∀ (s : State) (p : Port),
    s.dev.Serving .mdio → s.dev.linkState p = 4 → s.dev.mdio.linkLow.get p = true →
    Answers (.mdioLinkStatusRead p) s fun d => d.readData = bytesOf 2 (128 * s.dev.get (LPn_LINK_STATUS_LOCAL_FAULT p)) ∧
      d.mdio.linkLow.get p = false) ∧
  (∀ (s : State) (q : PcieReq),
    s.dev.Serving .pcie → q.bar2 = false ∧ q.write = none ∧ q.aligned = true ∧ q.off.toNat % 4 = 0 → ¬ (0x800 ≤
      q.off.toNat ∧ q.off.toNat < 0xE00) →
    Answers (.pcieMemoryRequest q) s fun d => d.readData = bytesOf 4 (s.dev.fresh.readReg .pcie q.off.toNat).2.1) ∧
  (∀ (s : State) (t : Transport) (ring : RingNo) (v : BitVec 32),
    s.dev.Serving t → s.dev.mem.die.get 3 = [] → (s.dev.ring ring).live = true ∧ (s.dev.ring ring).typ = 0 ∧ (s.dev.ring
      ring).owner = t.code → v.toNat % 65536 < (s.dev.ring ring).size → (v.toNat % 65536 + (s.dev.ring ring).size -
      (s.dev.ring ring).tail) % (s.dev.ring ring).size ≤ ((s.dev.ring ring).head + (s.dev.ring ring).size - 1 +
      (s.dev.ring ring).size - (s.dev.ring ring).tail) % (s.dev.ring ring).size →
    Answers (.doorbell t ring v) s fun d => d.ring ring = { s.dev.ring ring with tail := v.toNat % 65536 }) ∧
  (∀ (s : State) (v : BitVec 16) (ring : RingNo),
    s.dev.Serving .mdio → s.dev.mdio.ring = ring → s.dev.mem.die.get 3 = [] → (s.dev.ring ring).live = true ∧ (s.dev.ring
      ring).typ = 0 ∧ (s.dev.ring ring).owner = 2 → (s.dev.ring ring).head = (s.dev.ring ring).tail → v.toNat <
      (s.dev.ring ring).size → (s.dev.ring ring).tail < (s.dev.ring ring).size →
    Answers (.mdioDbValueWrite v) s fun d => d.ring ring = { s.dev.ring ring with tail := v.toNat }) ∧
  (∀ (s : State) (t : Transport) (ring : RingNo),
    s.dev.Serving t →
    Answers (.doorbellRead t ring) s fun d => d.readData = bytesOf 4 (if (s.dev.ring ring).live then (if (s.dev.ring
      ring).typ = 0 then (s.dev.ring ring).head else (s.dev.ring ring).tail) else 0))

/-- DESCRIPTOR_FETCH that fetches a NOP of ring 0, with ring 0 (16 entries, in host memory, completing to ring 1) and
ring 1 the only rings: HEAD moves on by one, and the NOP completes OK. NOP: OK with Result 0. UNKNOWN_OPCODE:
NOT_SUPPORTED with Result 0. RING_CREATE on ring 0, with PCIe enabled, of a completion ring in host memory with a free
number 2–16,383, 2^4–2^16 entries, a vector 0–63, a weight of at most 1 and a base at 64 bytes: OK with the number, and
the ring is the one described, with PHASE 1. RING_DESTROY on ring 0 of a live telemetry ring: OK; the ring is gone, and
its streams with it. RING_QUERY on ring 0 into host memory with Length 32, the context memory without upset: OK with
HEAD and TAIL of the ring asked for. EVENT_ENABLE on ring 0 of a live completion ring whose owner has no target: OK
with Result 0xFFFF (no ring before), and the ring is its owner's target from the severity asked for. IDENTIFY into host
memory with Length 64: OK with the first word of the identity record. COMPLETION_RELEASE of a live ring with room and
the one completion that waits, with no event target: nothing waits, and TAIL moves on by one. COAL_TIMER_EXPIRE of a
live ring that is no submission ring, with IRQ_EN and a coalescing time, and entries not signalled: no entry is left
unsignalled. TELEMETRY_STREAM of kind 1–6, a period of 1–60,000 and a selection of existing instances whose set the
telemetry ring (live, of the same owner) can hold, with no stream bound: OK with the number of records, and the stream
is bound. TELEMETRY_PERIOD of the one stream, bound to a live ring with room for a whole set, in ACTIVE with the core
running: TAIL moves on by the set, and the set number by one. -/
def Obligations.FetchAndRings : Prop :=
  (∀ (s : State) (x : Attempt) (c : Desc),
    (s.dev.fresh.fetch .first x).2 = some c → c.opcode = 0 → s.dev.Acts c → (s.dev.ring c.ring).live = true →
      s.dev.ctx.map (fun e => e.1) = [0, 1] → s.dev.ring 0 =
      { sizeLog2 := 4, typ := 0, cq := 1, head := (s.dev.ring 0).head, tail := (s.dev.ring 0).tail } → c.ring = 0 →
    Answers (.descriptorFetch .first x) s fun d => (d.ring c.ring).head = ((s.dev.ring c.ring).head + 1) % (s.dev.ring
      c.ring).size ∧ d.Completed c stOk 0) ∧
  (∀ (s : State) (c : Desc),
    s.dev.Acts c →
    Answers (.nop c) s fun d => d.Completed c stOk 0) ∧
  (∀ (s : State) (c : Desc),
    s.dev.Acts c →
    Answers (.unknownOpcode c) s fun d => d.Completed c stNotSupported 0) ∧
  (∀ (s : State) (c : Desc) (k n : Nat),
    s.dev.Acts c → c.ring.val = 0 → c.bytes 16 2 = n → 2 ≤ n ∧ n ≤ 16383 → c.length = 2 ^ k ∧ 4 ≤ k ∧ k ≤ 16 → c.bits 18
      1 0 = 1 ∧ c.bits 18 3 2 = 0 → c.byte 19 ≤ 63 → c.address % 64 = 0 → c.byte 22 ≤ 1 → (s.dev.ring n).live = false →
      s.dev.enabled .pcie = true →
    Answers (.ringCreate c) s fun d => d.Completed c stOk n ∧ d.ring n =
      { base := c.address, sizeLog2 := k, typ := 1, phase := true, irqEn := c.flag 18 4, vector := c.byte 19,
        weight := c.byte 22, coalTime := c.byte 23 }) ∧
  (∀ (s : State) (c : Desc) (n : Nat),
    s.dev.Acts c → c.ring.val = 0 → c.bytes 16 2 = n → 2 ≤ n ∧ n ≤ 16383 → (s.dev.ring n).live = true ∧ (s.dev.ring
      n).typ = 2 →
    Answers (.ringDestroy c) s fun d => d.Completed c stOk 0 ∧ d.ring n = {} ∧ d.streams = s.dev.streams.filter fun t =>
      t.ring != n) ∧
  (∀ (s : State) (c : Desc),
    s.dev.Acts c → c.ring.val = 0 → c.length = 32 → (s.dev.ring c.ring).owner = 0 → s.dev.mem.die.get 3 = [] →
    Answers (.ringQuery c) s fun d => d.Completed c stOk (word32 (s.dev.ctxImage (c.bytes 16 2 % 16384)) 8)) ∧
  (∀ (s : State) (c : Desc) (n : Nat),
    s.dev.Acts c → c.ring.val = 0 → c.bytes 16 2 % 16384 = n → c.flag 18 7 = false → (s.dev.ring n).live = true ∧
      (s.dev.ring n).typ = 1 → s.dev.target.get (transportOf (s.dev.ring n).owner).idx = none →
    Answers (.eventEnable c) s fun d => d.Completed c stOk 0xFFFF ∧ d.target.get (transportOf (s.dev.ring n).owner).idx =
      some { ring := n, minSev := c.bits 18 1 0 }) ∧
  (∀ (s : State) (c : Desc),
    s.dev.Acts c → c.length = 64 → (s.dev.ring c.ring).owner = 0 →
    Answers (.identify c) s fun d => d.Completed c stOk (word32 s.dev.identity 0)) ∧
  (∀ (s : State) (ring : RingNo) (e : Cpl),
    s.dev.heldCpl = [(ring.val, e)] → (s.dev.ring ring).live = true ∧ (s.dev.ring ring).full = false → s.dev.target =
      Vector.replicate 3 none →
    Answers (.completionRelease ring) s fun d => d.heldCpl = [] ∧ (d.ring ring).tail = ((s.dev.ring ring).tail + 1) %
      (s.dev.ring ring).size) ∧
  (∀ (s : State) (ring : RingNo),
    (s.dev.ring ring).live = true ∧ (s.dev.ring ring).typ ≠ 0 ∧ (s.dev.ring ring).irqEn = true ∧ (s.dev.ring
      ring).coalTime ≠ 0 → (s.dev.ring ring).sinceSignal ≠ 0 →
    Answers (.coalTimerExpire ring) s fun d => (d.ring ring).sinceSignal = 0) ∧
  (∀ (s : State) (c : Desc) (n : Nat),
    s.dev.Acts c → c.bytes 16 2 = n → n < 16384 → (s.dev.ring n).live = true ∧ (s.dev.ring n).typ = 2 ∧ (s.dev.ring
      n).owner = (s.dev.ring c.ring).owner → 1 ≤ c.byte 18 ∧ c.byte 18 ≤ 6 → 1 ≤ c.bytes 20 2 ∧ c.bytes 20 2 ≤ 60000 → 1
      ≤ c.bytes 24 8 ∧ c.bytes 24 8 < 2 ^ telInstances (c.byte 18) → (telRecords (c.byte 18) (c.bytes 24 8)).length <
      (s.dev.ring n).size - 1 → s.dev.streams = [] →
    Answers (.telemetryStream c) s fun d => d.Completed c stOk (telRecords (c.byte 18) (c.bytes 24 8)).length ∧ d.streams
      = [{ ring := n, kind := c.byte 18, clear := c.flag 19 0, period := c.bytes 20 2, select := c.bytes 24 8 }]) ∧
  (∀ (s : State) (ring : RingNo) (x : Stream),
    s.dev.streams = [x] → x.ring = ring.val ∧ x.repl = none → s.dev.get PWR_STATE_STATE ≤ 1 → s.dev.coreRuns = true →
      (telRecords x.kind x.select).length + (s.dev.ring ring).waiting < (s.dev.ring ring).size → (s.dev.ring ring).live =
      true →
    Answers (.telemetryPeriod ring) s fun d => (d.ring ring).tail = ((s.dev.ring ring).tail + (telRecords x.kind
      x.select).length) % (s.dev.ring ring).size ∧ d.streams =
      [{ x with set := (x.set + 1) % 2 ^ 32, dropped := false }])

/-! ## Counters, memories and the check engine (14, 15) -/

/-- A counter whose source is 0x20 or above is one that the descriptor’s own completion does not count. CTR_CONFIG WRITE
of a valid setting: OK; EVENT, MODE and LIMIT are the descriptor's, and with a source of 0x20 or above the value and
OVF_COUNT are 0. CTR_CONFIG CLEAR with a setting valid as for WRITE (the model’s reading, log entry 67): OK; the source
stays, and with a source of 0x20 or above the value is 0. CTR_SNAPSHOT with reserved actions out (ACTION 0–3): OK with
SNAP_SEQ one more; every value and OVF_COUNT is copied. CTR_SNAPSHOT with CLEAR: the same, and counters with a source
of 0x20 or above are then 0 with OVF_COUNT 0. CTR_SNAPSHOT FREEZE while not frozen: OK with SNAP_SEQ; FROZEN is 1 with
cause 1. CTR_SNAPSHOT UNFREEZE: OK with SNAP_SEQ; and where no counter freezes on overflow, FROZEN is 0 with cause 0.
CTR_READ of live values or a snapshot into host memory with Length 16 bytes for each selected counter (at least one):
OK with Length. CTR_READ of samples into host memory with a Length of 32–2,048, a multiple of 32: OK with 32 bytes for
each record taken, at most those there; the oldest are taken out, and the rest stay in order. -/
def Obligations.GeneralCounters : Prop :=
  (∀ (s : State) (c : Desc) (m : Nat),
    s.dev.Acts c → m = c.bits 16 5 0 → ctrBad c = false →
    Answers (.ctrConfigWrite c) s fun d => d.Completed c stOk 0 ∧ (0x20 ≤ c.byte 18 → d.ctrValue m = 0 ∧ d.get
      (CTR_m_OVF_COUNT_OVF_COUNT m) = 0) ∧ d.get (CTR_m_CFG_EVENT m) = c.byte 18 ∧ d.get (CTR_m_CFG_MODE m) = c.bits 20 2
      0 ∧ d.get (CTR_m_LIMIT_VALUE m) = c.bytes 28 4) ∧
  (∀ (s : State) (c : Desc) (m : Nat),
    s.dev.Acts c → m = c.bits 16 5 0 → ctrBad c = false →
    Answers (.ctrConfigClear c) s fun d => d.Completed c stOk 0 ∧ (0x20 ≤ s.dev.get (CTR_m_CFG_EVENT m) → d.ctrValue m =
      0) ∧ d.get (CTR_m_CFG_EVENT m) = s.dev.get (CTR_m_CFG_EVENT m)) ∧
  (∀ (s : State) (c : Desc),
    s.dev.Acts c → c.bits 16 2 0 ≤ 3 →
    Answers (.ctrSnapshot c) s fun d => d.Completed c stOk ((s.dev.get CTR_STATUS_SNAP_SEQ + 1) % 2 ^ 16) ∧ ∀ i : Fin 64,
      d.ctr.snap.get i = (s.dev.ctrValue i.val, s.dev.get (CTR_m_OVF_COUNT_OVF_COUNT i.val))) ∧
  (∀ (s : State) (c : Desc),
    s.dev.Acts c →
    Answers (.ctrSnapshotClear c) s fun d => d.Completed c stOk ((s.dev.get CTR_STATUS_SNAP_SEQ + 1) % 2 ^ 16) ∧ ∀ i :
      Fin 64, d.ctr.snap.get i = (s.dev.ctrValue i.val, s.dev.get (CTR_m_OVF_COUNT_OVF_COUNT i.val)) ∧ (0x20 ≤ s.dev.get
      (CTR_m_CFG_EVENT i.val) → d.ctrValue i.val = 0 ∧ d.get (CTR_m_OVF_COUNT_OVF_COUNT i.val) = 0)) ∧
  (∀ (s : State) (c : Desc),
    s.dev.Acts c → s.dev.get CTR_STATUS_FROZEN = 0 →
    Answers (.ctrFreeze c) s fun d => d.Completed c stOk (s.dev.get CTR_STATUS_SNAP_SEQ % 2 ^ 32) ∧ d.get
      CTR_STATUS_FROZEN = 1 ∧ d.get CTR_STATUS_FREEZE_CAUSE = 1) ∧
  (∀ (s : State) (c : Desc),
    s.dev.Acts c →
    Answers (.ctrUnfreeze c) s fun d => d.Completed c stOk (s.dev.get CTR_STATUS_SNAP_SEQ % 2 ^ 32) ∧ ((∀ m, m < 64 →
      s.dev.get (CTR_m_CFG_FREEZE_ON_OVF m) = 0) → d.get CTR_STATUS_FROZEN = 0 ∧ d.get CTR_STATUS_FREEZE_CAUSE = 0)) ∧
  (∀ (s : State) (c : Desc),
    s.dev.Acts c → c.bits 16 1 0 ≤ 2 → c.bytes 24 8 ≠ 0 → c.length = 16 * (maskList 64 (c.bytes 24 8)).length →
      (s.dev.ring c.ring).owner = 0 →
    Answers (.ctrReadCounters c) s fun d => d.Completed c stOk c.length) ∧
  (∀ (s : State) (c : Desc),
    s.dev.Acts c → 0 < c.length ∧ c.length ≤ 2048 ∧ c.length % 32 = 0 → (s.dev.ring c.ring).owner = 0 →
    Answers (.ctrReadSamples c) s fun d => d.Completed c stOk (32 * min (c.length / 32) s.dev.ctr.samples.length) ∧
      (s.dev.ctr.samples.drop (c.length / 32)) <+: d.ctr.samples)

/-- SCRUB_TICK of a scrubber that is enabled and not stopped: it moves on by one word, modulo the words of its memory.
One that finds a valid word (not a ring context) with right check bits but for one flipped bit: the word is as it was
before the flip, and CE_COUNT is one more (saturating). BUCKET_LEAK takes one from the level, and leaves 0 at 0.
MEM_SCRUB_CONFIG of one memory with SET_EN and without SET_POS: OK with the number of words; SCRUB_EN is the
descriptor’s, and POS stays. MEM_TEST_WRITE with TEST_EN of a word of a capture memory in no capture: OK; data, check
bits and valid bit are the descriptor’s. MEM_READ, without a completion record or a retry, of a valid word with right
check bits of a capture memory in no capture into host memory: OK with Result 8, and its eight bytes lie at Address.
MEM_WRITE of one word of a capture memory in no capture from host memory: OK with Result 8, and the word is valid, with
right check bits. -/
def Obligations.OnDieMemories : Prop :=
  (∀ (s : State) (m : MemId) (u g : BitVec 72),
    s.dev.get (MEM_m_SCRUB_SCRUB_EN m) = 1 → s.dev.scrubStopped m = false →
    Answers (.scrubTick m u g) s fun d => d.get (MEM_m_POS_POS m) = (s.dev.get (MEM_m_POS_POS m) % memWords m + 1) %
      memWords m) ∧
  (∀ (s : State) (m : MemId) (k : Nat) (x : MWord),
    s.dev.get (MEM_m_SCRUB_SCRUB_EN m) = 1 → s.dev.scrubStopped m = false → m ≠ 3 → k < 72 → sget {} (s.dev.mem.die.get
      m) (s.dev.get (MEM_m_POS_POS m) % memWords m) = x → x.valid = true ∧ x.check = checkBits x.data →
    Answers (.scrubTick m (BitVec.ofNat 72 (2 ^ k)) 0) s fun d => sget {} (d.mem.die.get m) (s.dev.get (MEM_m_POS_POS m)
      % memWords m) = x ∧ d.get (MEM_m_COUNT_CE_COUNT m) = min (s.dev.get (MEM_m_COUNT_CE_COUNT m) + 1) 0xFFFF) ∧
  (∀ (s : State) (m : MemId),
    Answers (.bucketLeak m) s fun d => d.get (MEM_m_BUCKET_LEVEL m) = (s.dev.get (MEM_m_BUCKET_LEVEL m) - 1) % 2 ^ 8) ∧
  (∀ (s : State) (c : Desc) (m : MemId),
    s.dev.Acts c → c.bits 16 4 0 = m.val → c.flag 17 0 = true ∧ c.flag 17 3 = false →
    Answers (.memScrubConfig c) s fun d => d.Completed c stOk (memWords m) ∧ d.get (MEM_m_SCRUB_SCRUB_EN m) = bnat
      (c.flag 17 2) ∧ d.get (MEM_m_POS_POS m) = s.dev.get (MEM_m_POS_POS m)) ∧
  (∀ (s : State) (c : Desc) (m : MemId),
    s.dev.Acts c → c.bits 16 4 0 = m.val → 12 ≤ m.val → c.bytes 20 3 < memWords m → s.dev.get MEM_CTRL_TEST_EN = 1 →
      s.dev.capturing m = false →
    Answers (.memTestWrite c) s fun d => d.Completed c stOk 0 ∧ sget {} (d.mem.die.get m) (c.bytes 20 3) = ⟨BitVec.ofNat
      64 (c.bytes 24 8), BitVec.ofNat 8 (c.byte 17), c.flag 18 0⟩) ∧
  (∀ (s : State) (c : Desc) (m : MemId) (x : MWord),
    s.dev.Acts c → c.bits 16 4 0 = m.val → 12 ≤ m.val → c.flag 17 0 = false ∧ c.length = 8 ∧ c.cr = false → c.bytes 20 4
      % 8 = 0 ∧ c.bytes 20 4 / 8 < memWords m → s.dev.capturing m = false → (s.dev.ring c.ring).owner = 0 → sget {}
      (s.dev.mem.die.get m) (c.bytes 20 4 / 8) = x → x.valid = true ∧ x.check = checkBits x.data → c.again = false →
    Answers (.memRead c) s fun d => d.Completed c stOk 8 ∧ ∀ i : Fin 8, d.hostByte ((c.address + i.val) % 2 ^ 64) =
      BitVec.ofNat 8 (x.data.toNat / 256 ^ i.val)) ∧
  (∀ (s : State) (c : Desc) (m : MemId),
    s.dev.Acts c → c.bits 16 4 0 = m.val → 12 ≤ m.val → c.length = 8 → c.bytes 20 4 % 8 = 0 ∧ c.bytes 20 4 / 8 < memWords
      m → s.dev.capturing m = false → (s.dev.ring c.ring).owner = 0 → c.data = .first →
    Answers (.memWrite c) s fun d => d.Completed c stOk 8 ∧ sget {} (d.mem.die.get m) (c.bytes 20 4 / 8) = MWord.full
      (BitVec.ofNat 64 (ofBytes (s.dev.fresh.getData c 0 8).2.1)))

/-- A run that may start is one over data in host memory (Length not 0) on a channel 0–2 with no run, with a preset, from
INIT and finalised. CHECK_RUN COMPUTE of a run that may start: it is under way on its channel, whose content stays
until its end. VERIFY_MEM of a run that may start: it is under way on its channel, whose content stays until its end.
VERIFY_PARAM of a run that may start: it is under way on its channel, whose content stays until its end. APPEND of a
run that may start: it is under way on its channel, whose content stays until its end. VERIFY_PARAM of Length 0,
finalised, with a preset and from INIT: OK at once, and the channel is as after a run over no bytes. CHECK_RUN_END of
the one run, a COMPUTE over host memory: the channel is as the run over its bytes leaves it, and the run ends OK with
the value. CHECK_RUN_END of the one run, a VERIFY_PARAM over host memory whose value differs: the channel keeps its
content, CHECK_FAIL is set, and the run ends CHECK_FAIL with the old value. CHECK_CONTEXT_SAVE without OUT of a channel
0–2 with no run: OK, and the slot holds the channel’s image. CHECK_CONTEXT_LOAD from a slot with a good image to such a
channel: OK, and the channel is that image. -/
def Obligations.CheckEngine : Prop :=
  (∀ (s : State) (c : Desc),
    s.dev.Acts c → c.bits 19 1 0 = 0 ∧ c.bits 18 1 0 ≠ 0 ∧ c.flag 18 2 = false ∧ c.flag 18 3 = true → 0 < c.length →
      (s.dev.ring c.ring).owner = 0 → ckChan c ≠ 3 → s.dev.ckBusy (ckChan c) = false →
    Answers (.checkRunCompute c) s fun d => d.ckBusy (ckChan c) = true ∧ d.chk = s.dev.chk ∧ d.waits = s.dev.waits ++
      [(.check (ckChan c), Desc.stamp c s.dev.timebase)]) ∧
  (∀ (s : State) (c : Desc),
    s.dev.Acts c → c.bits 19 1 0 = 0 ∧ c.bits 18 1 0 ≠ 0 ∧ c.flag 18 2 = false ∧ c.flag 18 3 = true → 0 < c.length →
      (s.dev.ring c.ring).owner = 0 → ckChan c ≠ 3 → s.dev.ckBusy (ckChan c) = false →
    Answers (.checkRunVerifyMem c) s fun d => d.ckBusy (ckChan c) = true ∧ d.chk = s.dev.chk ∧ d.waits = s.dev.waits ++
      [(.check (ckChan c), Desc.stamp c s.dev.timebase)]) ∧
  (∀ (s : State) (c : Desc),
    s.dev.Acts c → c.bits 19 1 0 = 0 ∧ c.bits 18 1 0 ≠ 0 ∧ c.flag 18 2 = false ∧ c.flag 18 3 = true → 0 < c.length →
      (s.dev.ring c.ring).owner = 0 → ckChan c ≠ 3 → s.dev.ckBusy (ckChan c) = false →
    Answers (.checkRunVerifyParam c) s fun d => d.ckBusy (ckChan c) = true ∧ d.chk = s.dev.chk ∧ d.waits = s.dev.waits ++
      [(.check (ckChan c), Desc.stamp c s.dev.timebase)]) ∧
  (∀ (s : State) (c : Desc),
    s.dev.Acts c → c.bits 19 1 0 = 0 ∧ c.bits 18 1 0 ≠ 0 ∧ c.flag 18 2 = false ∧ c.flag 18 3 = true → 0 < c.length →
      (s.dev.ring c.ring).owner = 0 → ckChan c ≠ 3 → s.dev.ckBusy (ckChan c) = false →
    Answers (.checkRunAppend c) s fun d => d.ckBusy (ckChan c) = true ∧ d.chk = s.dev.chk ∧ d.waits = s.dev.waits ++
      [(.check (ckChan c), Desc.stamp c s.dev.timebase)]) ∧
  (∀ (s : State) (c : Desc),
    s.dev.Acts c → c.bits 19 1 0 = 0 ∧ c.bits 18 1 0 ≠ 0 ∧ c.flag 18 2 = false ∧ c.flag 18 3 = true → c.length = 0 →
    Answers (.checkRunVerifyParam c) s fun d => d.Completed c stOk ((s.dev.ckUse c).runOver false true []).value.toNat ∧
      d.chk.ch.get (ckChan c) = (s.dev.ckUse c).runOver false true []) ∧
  (∀ (s : State) (k : Chan) (c : Desc),
    s.dev.waits = [(.check k, c)] → c.bits 17 1 0 = 0 ∧ c.bits 19 1 0 = 0 → (s.dev.ring c.ring).owner = 0 → c.data =
      .first →
    Answers (.checkRunEnd k none) s fun d => d.chk.ch.get k = (s.dev.ckUse c).runOver (c.flag 18 2) (c.flag 18 3)
      (s.dev.fresh.getData c 0 c.length).2.1 ∧ d.waits = [] ∧ d.Completed c stOk ((s.dev.ckUse c).runOver (c.flag 18 2)
      (c.flag 18 3) (s.dev.fresh.getData c 0 c.length).2.1).value.toNat) ∧
  (∀ (s : State) (k : Chan) (c : Desc),
    s.dev.waits = [(.check k, c)] → c.bits 17 1 0 = 2 ∧ c.bits 19 1 0 = 0 → (s.dev.ring c.ring).owner = 0 → c.data =
      .first → c.bytes 24 8 % 2 ^ (s.dev.ckUse c).width ≠ ((s.dev.ckUse c).runOver (c.flag 18 2) (c.flag 18 3)
      (s.dev.fresh.getData c 0 c.length).2.1).value.toNat →
    Answers (.checkRunEnd k none) s fun d => d.chk.ch.get k = s.dev.chk.ch.get k ∧ d.get CHK_EVENTS_CHECK_FAIL = 1 ∧
      d.Completed c stCheckFail (s.dev.chk.ch.get k).value.toNat) ∧
  (∀ (s : State) (c : Desc),
    s.dev.Acts c → c.flag 17 7 = false → ckChan c ≠ 3 → s.dev.ckBusy (ckChan c) = false →
    Answers (.checkContextSave c) s fun d => d.Completed c stOk (c.bits 17 3 0) ∧ d.chk.slots.get (Fin.ofNat 16 (c.bits
      17 3 0)) = some (s.dev.chk.ch.get (ckChan c))) ∧
  (∀ (s : State) (c : Desc) (k : CkImage),
    s.dev.Acts c → c.flag 17 7 = false → ckChan c ≠ 3 → s.dev.ckBusy (ckChan c) = false → s.dev.chk.slots.get (Fin.ofNat
      16 (c.bits 17 3 0)) = some k → k.good = true →
    Answers (.checkContextLoad c) s fun d => d.Completed c stOk (c.bits 17 3 0) ∧ d.chk.ch.get (ckChan c) = k)

/-! ## Power states (16) -/

/-- RETAIN_ENTRY_BEGIN in ACTIVE with no vote: the device is ENTERING, at its save (step 2). RETAIN_SAVE_DONE of an entry
at its save, with no vote: the entry goes on to the signatures (step 3), which are being formed. With a vote while
ENTERING: ACTIVE again, ABORTED is set, and LAST_ABORTER is the lowest client that votes. RETAIN_SIGNATURES_DONE of an
entry at its signatures, with no vote: RETAIN, with its power-down (step 4) to come, and ENTERED is set.
RETAIN_POWER_DOWN_DONE of that power-down with no wake held: the entry has ended in RETAIN, and VCMD is 0.
LINK_WAKE_DETECT of a port whose LINK_EN bit is 1, in RETAIN with no entry under way: WAKING at step 1; LAST_WAKE is 1
and LAST_PORT the port. VDD_CORE_READY at step 1: step 2, and a VCMD of 0 is then VSTART (50 at most). PLL_READY at
step 2: step 3. MEM_READY at step 3, whatever words the power-down upset: step 4. WAKE_STEP_TIMEOUT at step 1 or 2 for
the first time: the step is repeated. WAKE_STEP_TIMEOUT of a repeated step 1 or 2: RETAIN again, WAKE_FAULT names the
step, and its event is set. LOGIC_READY at step 4 with no failed bank and nothing held: ACTIVE, WOKE is set, the
timebase has advanced by the crystal periods in ns, and the monitor calibrates. SPI_LINGER_EXPIRE: the serial client no
longer votes. -/
def Obligations.RetainEntryAndWake : Prop :=
  (∀ (s : State),
    s.dev.get PWR_STATE_STATE = 0 → s.dev.votes = 0 →
    Answers .retainEntryBegin s fun d => d.get PWR_STATE_STATE = 1 ∧ d.pwr.entry = 2) ∧
  (∀ (s : State),
    s.dev.get PWR_STATE_STATE = 1 → s.dev.votes = 0 → s.dev.pwr.entry = 2 →
    Answers .retainSaveDone s fun d => d.get PWR_STATE_STATE = 1 ∧ d.pwr.entry = 3 ∧ d.chk.sigBusy = true) ∧
  (∀ (s : State),
    s.dev.get PWR_STATE_STATE = 1 → s.dev.votes ≠ 0 →
    Answers .retainSaveDone s fun d => d.get PWR_STATE_STATE = 0 ∧ d.pwr.entry = 0 ∧ d.get PWR_EVENTS_ABORTED = 1 ∧ d.get
      PWR_CORE_LAST_LAST_ABORTER = lowClient s.dev.votes 16) ∧
  (∀ (s : State),
    s.dev.get PWR_STATE_STATE = 1 → s.dev.votes = 0 → s.dev.pwr.entry = 3 →
    Answers .retainSignaturesDone s fun d => d.get PWR_STATE_STATE = 2 ∧ d.pwr.entry = 4 ∧ d.get PWR_EVENTS_ENTERED = 1) ∧
  (∀ (s : State),
    s.dev.get PWR_STATE_STATE = 2 → s.dev.pwr.entry = 4 → s.dev.pwr.heldWake = none →
    Answers .retainPowerDownDone s fun d => d.get PWR_STATE_STATE = 2 ∧ d.pwr.entry = 0 ∧ d.get PWR_GOV_STATUS_VCMD = 0) ∧
  (∀ (s : State) (p : Port),
    s.dev.get PWR_STATE_STATE = 2 → s.dev.pwr.entry = 0 → s.dev.getBit PWR_WAKE_EN_LINK_EN p = true →
    Answers (.linkWakeDetect p) s fun d => d.get PWR_STATE_STATE = 3 ∧ d.get PWR_STATE_WAKE_STEP = 1 ∧ d.get
      PWR_STATE_LAST_WAKE = 1 ∧ d.get PWR_STATE_LAST_PORT = p.val) ∧
  (∀ (s : State),
    s.dev.wakeStep 1 = true →
    Answers .vddCoreReady s fun d => d.get PWR_STATE_WAKE_STEP = 2 ∧ (s.dev.get PWR_GOV_STATUS_VCMD = 0 → d.get
      PWR_GOV_STATUS_VCMD = min (s.dev.get PWR_GOV_CTRL_VSTART) 50)) ∧
  (∀ (s : State),
    s.dev.wakeStep 2 = true →
    Answers .pllReady s fun d => d.get PWR_STATE_WAKE_STEP = 3) ∧
  (∀ (s : State) (l : List Upset),
    s.dev.wakeStep 3 = true →
    Answers (.memReady l) s fun d => d.get PWR_STATE_WAKE_STEP = 4) ∧
  (∀ (s : State),
    s.dev.wakeStep 1 = true ∨ s.dev.wakeStep 2 = true → s.dev.pwr.again = false →
    Answers .wakeStepTimeout s fun d => d.pwr.again = true ∧ d.get PWR_STATE_STATE = 3) ∧
  (∀ (s : State) (k : Nat),
    s.dev.wakeStep k = true → k = 1 ∨ k = 2 → s.dev.pwr.again = true →
    Answers .wakeStepTimeout s fun d => d.get PWR_STATE_STATE = 2 ∧ d.get PWR_STATE_WAKE_FAULT = k ∧ d.get
      PWR_EVENTS_WAKE_FAULT = 1 ∧ d.pwr.again = false) ∧
  (∀ (s : State) (n : Nat),
    s.dev.wakeStep 4 = true → s.dev.pwr.failed = [] ∧ s.dev.pwr.early = [] ∧ s.dev.pwr.held = [] →
    Answers (.logicReady n) s fun d => d.get PWR_STATE_STATE = 0 ∧ d.get PWR_EVENTS_WOKE = 1 ∧ d.timebase =
      s.dev.timebase + (roundDiv (n * 1000000000) 32768).toNat ∧ d.get MON_STATUS_STATE = 1) ∧
  (∀ (s : State),
    Answers .spiLingerExpire s fun d => d.pwr.linger = false ∧ d.pwr.serialWaived = false)

/-- POWER_VOTE HOLD of the device: the host votes, and outside ENTERING it ends OK. POWER_VOTE RELEASE: the host does not
vote, and it ends OK. POWER_VOTE ENTER with a timeout: the host does not vote, and the descriptor waits.
POWER_VOTE_ENTER_TIMEOUT of the one descriptor that waits, in ACTIVE with a vote: it ends REFUSED with the lowest
client, and REFUSED is set. POWER_VOTE DOZE of one port, STOPPED and free of what refuses or delays it, with nothing
waiting: the port’s entry is under way, its DOZE_REQ bit is 1, and the descriptor is the one wait. DOZE_ENTRY_DONE of a
port whose entry is under way and whose stop has ended, with nothing waiting: the port is in DOZE, its IN_DOZE bit and
DOZE event are set. POWER_VOTE WAKE of one port in DOZE, with nothing that refuses it and nothing waiting: the port’s
wake is under way, its DOZE_REQ bit is 0, and the descriptor is the one wait. DOZE_WAKE_DONE of a port whose wake is
under way, with no DOZE asked for and no core restart: the port is not in DOZE, and its wake has ended.
POWER_VOTE_DOZE_TIMEOUT of the ring and tag of the one descriptor that waits: it ends TIMEOUT with IN_DOZE. POWER_STATS
into host memory with Length 64, its ring not live: OK with the first word of the power record. CORE_HALT of a running
core: it is halted. CORE_RUN of a halted core: it runs, and GUARD is 0. -/
def Obligations.PowerVotesAndDoze : Prop :=
  (∀ (s : State) (c : Desc),
    s.dev.Acts c → voteTarget c = 0 ∧ voteAction c = 0 →
    Answers (.powerVoteHold c) s fun d => d.pwr.hold = true ∧ (s.dev.get PWR_STATE_STATE ≠ 1 → d.Completed c stOk 0)) ∧
  (∀ (s : State) (c : Desc),
    s.dev.Acts c →
    Answers (.powerVoteRelease c) s fun d => d.pwr.hold = false ∧ d.Completed c stOk 0) ∧
  (∀ (s : State) (c : Desc),
    s.dev.Acts c → c.bytes 20 2 ≠ 0 →
    Answers (.powerVoteEnter c) s fun d => d.pwr.hold = false ∧ d.waits = s.dev.waits ++ [(.enter,
      { Desc.stamp c s.dev.timebase with data := .first })]) ∧
  (∀ (s : State) (c : Desc),
    s.dev.waits = [(.enter, c)] → s.dev.get PWR_STATE_STATE = 0 → s.dev.votes ≠ 0 →
    Answers .powerVoteEnterTimeout s fun d => d.waits = [] ∧ d.get PWR_EVENTS_REFUSED = 1 ∧ d.Completed c stRefused
      (lowClient s.dev.votes 31)) ∧
  (∀ (s : State) (c : Desc) (p : Port),
    s.dev.Acts c → portsOf (votePorts c) = [p] → s.dev.dozeRefuses (votePorts c) = false → s.dev.dozeBusy p = false →
      s.dev.linkState p = 0 → (s.dev.prt p).link.stopping = none → s.dev.waits = [] →
    Answers (.powerVoteDoze c) s fun d => d.pwr.dozing.get p = true ∧ d.getBit PWR_DOZE_REQ p = true ∧ d.waits = [(.doze
      (votePorts c), { Desc.stamp c s.dev.timebase with data := .first })]) ∧
  (∀ (s : State) (p : Port),
    s.dev.pwr.dozing.get p = true → (s.dev.prt p).link.stopping = none → s.dev.waits = [] →
    Answers (.dozeEntryDone p) s fun d => d.inDoze p = true ∧ d.linkState p = 6 ∧ d.pwr.dozing.get p = false ∧ d.get
      PWR_EVENTS_DOZE = 1) ∧
  (∀ (s : State) (c : Desc) (p : Port),
    s.dev.Acts c → portsOf (votePorts c) = [p] → s.dev.dozeRefuses (votePorts c) = false → s.dev.inDoze p = true ∧
      s.dev.pwr.dozing.get p = false → s.dev.waits = [] →
    Answers (.powerVoteWake c) s fun d => d.pwr.waking.get p = true ∧ d.getBit PWR_DOZE_REQ p = false ∧ d.waits = [(.wake
      (votePorts c), { Desc.stamp c s.dev.timebase with data := .first })]) ∧
  (∀ (s : State) (p : Port) (l : List Upset),
    s.dev.pwr.waking.get p = true → s.dev.inDoze p = true ∨ (s.dev.prt p).link.stopping = none → s.dev.getBit
      PWR_DOZE_REQ p = false → s.dev.sys.restart = none →
    Answers (.dozeWakeDone p l) s fun d => d.inDoze p = false ∧ d.pwr.waking.get p = false) ∧
  (∀ (s : State) (ring : RingNo) (n m : Nat) (c : Desc),
    s.dev.waits = [(.doze m, c)] → c.ring = ring ∧ c.tag = n →
    Answers (.powerVoteDozeTimeout ring n) s fun d => d.waits = [] ∧ d.Completed c stTimeout (s.dev.get
      PWR_DOZE_IN_DOZE)) ∧
  (∀ (s : State) (c : Desc),
    s.dev.Acts c → c.length = 64 → (s.dev.ring c.ring).owner = 0 → (s.dev.ring c.ring).live = false →
    Answers (.powerStats c) s fun d => d.Completed c stOk (word32 s.dev.powerRecord 0)) ∧
  (∀ (s : State),
    s.dev.coreRuns = true →
    Answers .coreHalt s fun d => d.sys.core = .halted) ∧
  (∀ (s : State),
    s.dev.sys.core = .halted →
    Answers .coreRun s fun d => d.sys.core = .running ∧ d.get THM_STATUS_GUARD = 0)

/-! ## Thermal model and Quench (17) -/

/-- ZONE_POWER_SAMPLE with every zone in range: each POWER is the mean of current times voltage summed over the zone’s
rails (65,535 at most), and their sum joins the last 100 powers of the device. THERMAL_MODEL_UPDATE with firmware
running, before RETAIN, for the first time: each zone’s two states together are the steady state of the powers, by the
parameters then in force. REPORT_STALE with REF_SRC 1 and a report: the report is dropped, REPORT_STALE is set, and the
reference is substituted. THERMAL_GUARD_TICK with no firmware running, before RETAIN and with supplies: GUARD and its
event are set. One with the core halted, a valid reference in use and no report, no Quench or only a state up to 3, and
a hottest zone at 118.0 °C or more: a hard Quench (STATE 4), with QUENCH_HARD set and the quench record valid.
THROTTLE_SUBSTEP_TIMER throttled, with a zone at 108.0 °C or more now and in its steady state, and a next sub-step up
to 5: it is applied, and the throttle holds it. THROTTLE_WITHDRAW_TIMER cooled and not throttled, the newest sub-step
(1–5) held by the throttle and no cap: it is withdrawn, and the throttle holds what remains. CASE_WAKE_CONVERSION in
RETAIN with no entry under way, the second in a row at or below a WAKE_CODE other than 0: the device is WAKING with
LAST_WAKE 5. THERMAL_STATUS into host memory with Length 64: OK with the first word of the thermal record.
CASE_TEMP_REPORT of −40.0 °C to 125.0 °C with REF_SRC 1: OK with the temperature, which is the report, of this time. -/
def Obligations.ThermalModelAndReports : Prop :=
  (∀ (s : State) (f : Fin 12 → List (List (Nat × Nat))),
    Answers (.zonePowerSample (allZones.map fun z => .rails (f z))) s fun d => (∀ z : Fin 12, d.get (THM_ZONEj_POWER z) =
      min (railPower (f z)) 0xFFFF) ∧ d.shed.power = (sumNat (allZones.map fun z => railPower (f z)) ::
      s.dev.shed.power).take 100) ∧
  (∀ (s : State),
    s.dev.coreRuns = true → s.dev.get PWR_STATE_STATE ≤ 1 → s.dev.thm.first = true →
    Answers .thermalModelUpdate s fun d => d.thm.first = false ∧ ∀ z : Fin 12, (d.zone z).x1 + (d.zone z).x2 =
      (s.dev.thm.nextPar.getD s.dev.thm.par).steady s.dev.zonePower z) ∧
  (∀ (s : State),
    s.dev.get THM_CTRL_REF_SRC = 1 → s.dev.thm.report.isSome = true →
    Answers .reportStale s fun d => d.thm.report = none ∧ d.get THM_EVENTS_REPORT_STALE = 1 ∧ d.get THM_STATUS_REF_SUBST
      = 1) ∧
  (∀ (s : State),
    s.dev.coreRuns = false → s.dev.sys.core ≠ .off → s.dev.get PWR_STATE_STATE ≤ 1 →
    Answers .thermalGuardTick s fun d => d.get THM_STATUS_GUARD = 1 ∧ d.get THM_EVENTS_GUARD = 1) ∧
  (∀ (s : State) (z : Int),
    s.dev.sys.core = .halted → s.dev.get PWR_STATE_STATE ≤ 1 → s.dev.thm.report = none → s.dev.caseRef = some z →
      s.dev.get THM_STATUS_STATE ≤ 3 → deci 1180 ≤ z + s.dev.thm.par.steady s.dev.quenchPower (hottest fun k => z +
      s.dev.thm.par.steady s.dev.quenchPower k) →
    Answers .thermalGuardTick s fun d => d.get THM_STATUS_STATE = 4 ∧ d.thm.hard = true ∧ d.get THM_EVENTS_QUENCH_HARD =
      1 ∧ d.get THM_QREC_VALID = 1) ∧
  (∀ (s : State) (n : Nat),
    s.dev.throttled = true → allZones.any (fun z => decide (deci 1080 ≤ s.dev.zoneTemp z) && decide (deci 1080 ≤
      s.dev.thm.ref + (s.dev.zone z).dss)) = true → s.dev.shedNext 14 = some n → n ≤ 5 →
    Answers .throttleSubstepTimer s fun d => d.shed.thr = n ∧ d.shed.applied = n :: s.dev.shed.applied) ∧
  (∀ (s : State) (n : Nat) (l : List Nat),
    s.dev.throttled = false → s.dev.thm.coolAt.isSome = true → s.dev.shed.applied = n :: l → 1 ≤ n ∧ n ≤ 5 →
      s.dev.shed.cap = 0 → s.dev.shed.thr = n →
    Answers .throttleWithdrawTimer s fun d => d.shed.applied = l ∧ d.shed.thr = l.headD 0) ∧
  (∀ (s : State) (k : Nat),
    s.dev.get PWR_STATE_STATE = 2 → s.dev.pwr.entry = 0 → s.dev.get THM_WAKE_WAKE_CODE ≠ 0 → k ≤ s.dev.get
      THM_WAKE_WAKE_CODE → s.dev.thm.caseLow = 1 →
    Answers (.caseWakeConversion k) s fun d => d.get PWR_STATE_STATE = 3 ∧ d.get PWR_STATE_LAST_WAKE = 5 ∧ d.thm.caseLow
      = 0) ∧
  (∀ (s : State) (c : Desc),
    s.dev.Acts c → c.length = 64 → (s.dev.ring c.ring).owner = 0 →
    Answers (.thermalStatus c) s fun d => d.Completed c stOk (word32 s.dev.thermalRecord 0)) ∧
  (∀ (s : State) (c : Desc),
    s.dev.Acts c → -400 ≤ signedOf 16 (c.bytes 16 2) ∧ signedOf 16 (c.bytes 16 2) ≤ 1250 → s.dev.get THM_CTRL_REF_SRC = 1
      →
    Answers (.caseTempReport c) s fun d => d.thm.report = some (signedOf 16 (c.bytes 16 2), s.dev.timebase) ∧ d.Completed
      c stOk (codeOf 32 (signedOf 16 (c.bytes 16 2))))

/-- QUENCH_LF_TIME_END of a Quench in its LF time (step 2), every loop STOPPED: no ramp is needed, the Quench is at its
flush (step 4), and the recorder’s flush is due. QUENCH_FLUSH_DONE of a Quench at its flush: STATE is 5, and every port
that was neither in DOZE nor gated is in FAULT with FAULT_CAUSE 1, and gated. QUENCH_HOLD_END in STATE 5 with every
zone at or below 95.0 °C for its time: no hard Quench stands, and STATE is 2, 1 or 0 as a throttle or a warning stands.
-/
def Obligations.QuenchSequence : Prop :=
  (∀ (s : State),
    s.dev.thm.orderly = 2 → (∀ l : LoopNo, s.dev.loopState l = 0) →
    Answers .quenchLfTimeEnd s fun d => d.thm.orderly = 4 ∧ d.evr.due = true) ∧
  (∀ (s : State),
    s.dev.thm.orderly = 4 →
    Answers .quenchFlushDone s fun d => d.thm.orderly = 0 ∧ d.get THM_STATUS_STATE = 5 ∧ ∀ p : Port, s.dev.inDoze p =
      false → s.dev.pwr.gated.get p = false → d.linkState p = 7 ∧ d.get (LPn_LINK_STATUS_FAULT_CAUSE p) = 1 ∧
      d.pwr.gated.get p = true) ∧
  (∀ (s : State),
    s.dev.get THM_STATUS_STATE = 5 → s.dev.thm.below95.isSome = true →
    Answers .quenchHoldEnd s fun d => d.thm.hard = false ∧ d.get THM_STATUS_STATE = (if s.dev.throttled then 2 else if
      s.dev.warned then 1 else 0))

/-! ## Recorder and clock (18, 20) -/

/-- EVR_FLUSH_TIMER with records in the buffer: a flush is due, and the records stay until it. POWER_FAIL when none
stands: power fail begins at this time, and the lifetime block is due. POWER_FAIL_END of a power fail with no brown-out
and with flash: it is over, and its event is set. HOURS_TICK with power on: HOURS is one more, modulo 2^32.
LIFETIME_WRITE_TIMER with flash: the lifetime block is due. EVR_READ into host memory of a Length that is a multiple of
64, from a First other than 0xFFFFFFFF, with records held: OK with the number of records from First on, as many as fit.
EVR_FREEZE: OK with Result 1, and FROZEN is 1. Its release: OK with Result 0, and FROZEN is 0. EVR_FREEZE_EXPIRE of a
freeze: FROZEN is 0, and FREEZE_EXPIRED is set. EVR_CLEAR with its key 0xC1, with flash and no freeze, power fail or
clear under way: the clear of 256 sectors begins, and the descriptor waits for it. TRACE_READ into host memory of the
newest entry (Length 32), written and read without an error: OK with Result 1. -/
def Obligations.RecorderCommands : Prop :=
  (∀ (s : State),
    s.dev.evr.buf ≠ [] →
    Answers .evrFlushTimer s fun d => d.evr.due = true ∧ d.evr.buf = s.dev.evr.buf) ∧
  (∀ (s : State),
    s.dev.evr.powerFail = false →
    Answers .powerFail s fun d => d.evr.powerFail = true ∧ d.evr.lifeDue = true ∧ d.evr.failAt = s.dev.timebase) ∧
  (∀ (s : State),
    s.dev.evr.powerFail = true → s.dev.sys.brownout = false → s.dev.hasFlash = true →
    Answers .powerFailEnd s fun d => d.evr.powerFail = false ∧ d.get EVR_EVENTS_POWER_FAIL = 1) ∧
  (∀ (s : State),
    s.dev.sys.powered = true →
    Answers .hoursTick s fun d => d.get EVR_HOURS_VALUE = (s.dev.get EVR_HOURS_VALUE + 1) % 2 ^ 32) ∧
  (∀ (s : State),
    s.dev.hasFlash = true →
    Answers .lifetimeWriteTimer s fun d => d.evr.lifeDue = true) ∧
  (∀ (s : State) (c : Desc) (n : Nat),
    s.dev.Acts c → c.length % 64 = 0 ∧ 0 < c.length → (s.dev.ring c.ring).owner = 0 → c.data = .first → c.bytes 16 4 ≠
      0xFFFFFFFF → s.dev.fresh.newestSeq = some n →
    Answers (.evrRead c) s fun d => d.Completed c stOk (min (c.length / 64) (s.dev.fresh.heldRecs.filter fun e => c.bytes
      16 4 ≤ e.1 && e.1 ≤ n).length)) ∧
  (∀ (s : State) (c : Desc),
    s.dev.Acts c →
    Answers (.evrFreeze c) s fun d => d.Completed c stOk 1 ∧ d.get EVR_STATUS_FROZEN = 1) ∧
  (∀ (s : State) (c : Desc),
    s.dev.Acts c →
    Answers (.evrRelease c) s fun d => d.Completed c stOk 0 ∧ d.get EVR_STATUS_FROZEN = 0) ∧
  (∀ (s : State),
    s.dev.get EVR_STATUS_FROZEN = 1 →
    Answers .evrFreezeExpire s fun d => d.get EVR_STATUS_FROZEN = 0 ∧ d.get EVR_EVENTS_FREEZE_EXPIRED = 1) ∧
  (∀ (s : State) (c : Desc),
    s.dev.Acts c → c.byte 16 = 0xC1 → s.dev.get EVR_STATUS_FROZEN = 0 → s.dev.evr.powerFail = false → s.dev.hasFlash =
      true → s.dev.evr.clear = 0 →
    Answers (.evrClear c) s fun d => d.evr.clear = 256 ∧ d.waits = s.dev.waits ++ [(.evrClear,
      { Desc.stamp c s.dev.timebase with data := .first })]) ∧
  (∀ (s : State) (c : Desc),
    s.dev.Acts c → c.length = 32 ∧ c.bytes 16 2 % 4096 = 0 → (s.dev.ring c.ring).owner = 0 → (lookWord s.dev.mem [] 1
      (0x4000 + 4 * ((s.dev.get EVR_STATUS_TRACE_NEXT + 8191) % 4096))).valid = true → (s.dev.fresh.readMem 1 (0x20000 +
      32 * ((s.dev.get EVR_STATUS_TRACE_NEXT + 8191) % 4096)) 32).2.2 = .first →
    Answers (.traceRead c) s fun d => d.Completed c stOk 1)

/-- RTC_SECOND with the crystal running: RTC_SEC is one more, modulo 2^32, and the calendar moves to the next second.
RTC_CORRECTION with the crystal running: a negative CORR adds that many periods to those skipped, another adds CORR to
the count. RTC_SET of a time that exists, with SET and neither of the other two actions: OK with its seconds, which are
RTC_SEC; the calendar is that time at its start, and RTC_VALID is 1. RTC_GET into host memory with Length 16: OK with
RTC_SEC. XTAL_STOPPED: XTAL_OK and RTC_VALID are 0, XTAL_STOPPED is set, and RTC_SEC stays. XTAL_RESTART: XTAL_OK is 1,
and RTC_VALID stays. REFCLK_LOST of a good reference in ACTIVE: its OK and LOCK flags are 0, PLL_HOLD is 1, and its
PLLs hold. REFCLK_HOLD_AGED of a new hold: the hold is the aged one, and PLL_HOLD is 1. REFCLK_RETURN: its OK and LOCK
flags are 1, and its PLLs hold no more. -/
def Obligations.CalendarAndClocks : Prop :=
  (∀ (s : State),
    s.dev.get GLB_HW_STATUS_XTAL_OK = 1 →
    Answers .rtcSecond s fun d => d.get RTC_SEC_VALUE = (s.dev.get RTC_SEC_VALUE + 1) % 2 ^ 32 ∧ d.rtc.cal =
      s.dev.rtc.cal.next) ∧
  (∀ (s : State),
    s.dev.get GLB_HW_STATUS_XTAL_OK = 1 →
    Answers .rtcCorrection s fun d => if s.dev.geti RTC_CTRL_CORR < 0 then d.rtc.skip = s.dev.rtc.skip + (s.dev.geti
      RTC_CTRL_CORR).natAbs ∧ d.rtc.sub = s.dev.rtc.sub else d.rtc.sub = s.dev.rtc.sub + (s.dev.geti
      RTC_CTRL_CORR).natAbs ∧ d.rtc.skip = s.dev.rtc.skip) ∧
  (∀ (s : State) (c : Desc),
    s.dev.Acts c → c.flag 24 0 = true ∧ c.flag 24 1 = false ∧ c.flag 24 2 = false → (calOf c).exists = true →
    Answers (.rtcSet c) s fun d => d.Completed c stOk ((calOf c).seconds % 2 ^ 32) ∧ d.rtc.cal = calOf c ∧ d.rtc.sub = 0
      ∧ d.get RTC_SEC_VALUE = (calOf c).seconds % 2 ^ 32 ∧ d.get RTC_STATUS_RTC_VALID = 1) ∧
  (∀ (s : State) (c : Desc),
    s.dev.Acts c → c.length = 16 → (s.dev.ring c.ring).owner = 0 →
    Answers (.rtcGet c) s fun d => d.Completed c stOk (s.dev.get RTC_SEC_VALUE)) ∧
  (∀ (s : State),
    Answers .xtalStopped s fun d => d.get GLB_HW_STATUS_XTAL_OK = 0 ∧ d.get GLB_HW_EVENTS_XTAL_STOPPED = 1 ∧ d.get
      RTC_STATUS_RTC_VALID = 0 ∧ d.get RTC_SEC_VALUE = s.dev.get RTC_SEC_VALUE) ∧
  (∀ (s : State),
    Answers .xtalRestart s fun d => d.get GLB_HW_STATUS_XTAL_OK = 1 ∧ d.get RTC_STATUS_RTC_VALID = s.dev.get
      RTC_STATUS_RTC_VALID) ∧
  (∀ (s : State) (x : RefClk),
    s.dev.get PWR_STATE_STATE = 0 → s.dev.get (refOk x) = 1 →
    Answers (.refclkLost x) s fun d => d.get (refOk x) = 0 ∧ d.get (refLock x) = 0 ∧ d.get GLB_HW_STATUS_PLL_HOLD = 1 ∧
      d.hold.get (refIdx x) = some false) ∧
  (∀ (s : State) (x : RefClk),
    s.dev.hold.get (refIdx x) = some false →
    Answers (.refclkHoldAged x) s fun d => d.hold.get (refIdx x) = some true ∧ d.get GLB_HW_STATUS_PLL_HOLD = 1) ∧
  (∀ (s : State) (x : RefClk),
    Answers (.refclkReturn x) s fun d => d.get (refOk x) = 1 ∧ d.get (refLock x) = 1 ∧ d.hold.get (refIdx x) = none)

/-! ## Boot, reset, configuration blocks, firmware (19, 20) -/

/-- POWER_ON_RESET: the core is off, no ring is there and nothing waits, the timebase and BOOT_DONE are 0, and no word of
an on-die memory is valid. SUPPLY_GOOD of a device that is off: STRAP is what the pins gave, BOOT is their low two bits
with 3 taken as 1, and the device boots. RESET_N with no hard reset of its rank under way: a hard reset with cause 1;
the device boots by the straps sampled, with no ring and nothing waiting. BROWNOUT_RECOVERY of a brown-out: the same,
and the brown-out is over. HOST_HARD_RESET with BOOT 0 or PCIe enabled and no hard reset of its rank under way: a hard
reset with cause 2, which holds the device in reset, with no ring and nothing waiting. PCIE_RESET_END of a device so
held: STRAP is what the pins gave, and the device boots. BOOT_IMAGE_LOADED while booting, before BOOT_DONE, with the
monitor off and no flash: RECOVERY is 1, and the monitor calibrates. MON_STARTUP_CAL_DONE of a boot outside recovery,
whatever the slices measured: BOOT_DONE is 1, firmware and the monitor run, and the quench record is not valid.
SOFT_RESET with its key 0x5A on ring 0, with no load, switch or restart under way: the core is in reset for a soft
reset, and the descriptor is the one wait. CORE_RESTART after a core reset outside recovery: firmware runs, CORE_RESET
is set, and CORE_RESETS is one more (saturating). WATCHDOG_EXPIRE with WDT_EN 1 and firmware running, outside recovery,
with no restart under way: the core is in reset for the watchdog, nothing waits, the causes are 5 and 4, and WATCHDOG
is set. BROWNOUT in ACTIVE when none stands: brown-out and power fail begin, and BROWNOUT is set with the rail’s code.
-/
def Obligations.ResetsAndBoot : Prop :=
  (∀ (s : State) (k : Bool),
    Answers (.powerOnReset k) s fun d => d.sys.core = .off ∧ d.ctx = [] ∧ d.waits = [] ∧ d.timebase = 0 ∧ d.get
      GLB_BOOT_STATUS_BOOT_DONE = 0 ∧ ∀ (m : MemId) (w : Nat), w < memWords m → (sget {} (d.mem.die.get m) w).valid =
      false) ∧
  (∀ (s : State) (x : BitVec 4),
    s.dev.sys.core = .off →
    Answers (.supplyGood x) s fun d => d.sys.core = .booting ∧ d.sys.inReset = false ∧ d.get GLB_BOOT_STATUS_STRAP =
      x.toNat ∧ d.get GLB_TRANSPORT_BOOT = (if x.toNat % 4 = 3 then 1 else x.toNat % 4)) ∧
  (∀ (s : State) (x : BitVec 4),
    s.dev.hardBusy 1 = false →
    Answers (.resetN x) s fun d => d.sys.core = .booting ∧ d.get GLB_RESET_CAUSE_LAST = 1 ∧ d.ctx = [] ∧ d.waits = [] ∧
      d.get GLB_BOOT_STATUS_STRAP = x.toNat) ∧
  (∀ (s : State) (x : BitVec 4),
    s.dev.sys.brownout = true →
    Answers (.brownoutRecovery x) s fun d => d.sys.core = .booting ∧ d.get GLB_RESET_CAUSE_LAST = 1 ∧ d.sys.brownout =
      false ∧ d.ctx = [] ∧ d.waits = []) ∧
  (∀ (s : State) (x : PcieReset),
    s.dev.get GLB_TRANSPORT_BOOT = 0 ∨ s.dev.get GLB_TRANSPORT_PCIE_EN = 1 → s.dev.hardBusy 2 = false →
    Answers (.hostHardReset x) s fun d => d.sys.core = .booting ∧ d.sys.inReset = true ∧ d.get GLB_RESET_CAUSE_LAST = 2 ∧
      d.ctx = [] ∧ d.waits = []) ∧
  (∀ (s : State) (x : BitVec 4),
    s.dev.sys.core = .booting ∧ s.dev.sys.inReset = true →
    Answers (.pcieResetEnd x) s fun d => d.sys.core = .booting ∧ d.sys.inReset = false ∧ d.get GLB_BOOT_STATUS_STRAP =
      x.toNat) ∧
  (∀ (s : State) (x y : SlotCheck),
    s.dev.sys.core = .booting ∧ s.dev.sys.inReset = false → s.dev.get GLB_BOOT_STATUS_BOOT_DONE = 0 → s.dev.get
      MON_STATUS_STATE = 0 → s.dev.hasFlash = false →
    Answers (.bootImageLoaded x y) s fun d => d.get GLB_BOOT_STATUS_RECOVERY = 1 ∧ d.get MON_STATUS_STATE = 1) ∧
  (∀ (s : State) (l : List MonSliceRun),
    s.dev.get MON_STATUS_STATE = 1 → s.dev.sys.core = .booting → s.dev.get GLB_BOOT_STATUS_BOOT_DONE = 0 → s.dev.get
      GLB_BOOT_STATUS_RECOVERY = 0 →
    Answers (.monStartupCalDone l) s fun d => d.get GLB_BOOT_STATUS_BOOT_DONE = 1 ∧ d.sys.core = .running ∧ d.get
      THM_QREC_VALID = 0 ∧ 2 ≤ d.get MON_STATUS_STATE) ∧
  (∀ (s : State) (c : Desc),
    s.dev.Acts c → c.byte 16 = 0x5A ∧ c.ring.val = 0 → s.dev.sys.load = false ∧ s.dev.sys.switch = none ∧
      s.dev.sys.restart = none →
    Answers (.softReset c) s fun d => d.sys.restart = some .soft ∧ d.sys.core = .resetting ∧ d.waits = [(.softReset,
      { Desc.stamp c s.dev.timebase with data := .first })]) ∧
  (∀ (s : State) (n : Nat),
    s.dev.sys.restart = some (.core n) → s.dev.get GLB_BOOT_STATUS_RECOVERY = 0 →
    Answers .coreRestart s fun d => d.sys.restart = none ∧ d.sys.core = .running ∧ d.get GLB_BOOT_EVENTS_CORE_RESET = 1 ∧
      d.get GLB_RESET_COUNT_CORE_RESETS = min (s.dev.get GLB_RESET_COUNT_CORE_RESETS + 1) 255) ∧
  (∀ (s : State) (x : BitVec 32),
    s.dev.coreRuns = true → s.dev.get GLB_WDT_WDT_EN = 1 → s.dev.get GLB_BOOT_STATUS_RECOVERY = 0 → s.dev.sys.restart =
      none →
    Answers (.watchdogExpire x) s fun d => d.sys.restart = some .watchdog ∧ d.sys.core = .resetting ∧ d.waits = [] ∧
      d.get GLB_RESET_CAUSE_LAST = 5 ∧ d.get GLB_RESET_CAUSE_CORE_CAUSE = 4 ∧ d.get GLB_BOOT_EVENTS_WATCHDOG = 1) ∧
  (∀ (s : State) (x : Rail),
    s.dev.get PWR_STATE_STATE = 0 → s.dev.sys.brownout = false →
    Answers (.brownout x) s fun d => d.sys.brownout = true ∧ d.evr.powerFail = true ∧ d.get GLB_HW_EVENTS_BROWNOUT = 1 ∧
      d.get GLB_HW_EVENTS_BROWNOUT_RAIL = railCode x)

/-- CFG_AUTO_WRITE of a changed block (not a reserved number) with flash, after boot: the block is not changed any more,
and its write is queued. CFG_WRITE of a user block (8–15) of 1–4,064 bytes from host memory with flash: its write is
queued, the content in force stays until then, and the descriptor waits. CFG_READ of a block (not a reserved number) in
force into host memory with its Length: OK with its length and its DEFAULTED and ABSENT flags. FW_LOAD of a chunk in
whole pages within the image from host memory, with flash, no trial, load or switch: the load is under way, its flash
work is queued, and the descriptor waits. FW_LOAD of such a chunk without flash and without LAST: OK with Length at
once, and no load is under way. FW_ACTIVATE SWITCH with no load or switch under way: a switch that commits begins at
step 1, and the descriptor waits. FW_ACTIVATE TRIAL likewise: one that does not commit. FW_SWITCH_VERIFY_DONE of a
switch at step 1 whose slot has no fault: the core is stopped for the switch, which goes on to step 3 with the slot’s
version. FW_SWITCH_LOAD_DONE without an error at step 3: step 4. FW_SWITCH_RESUME of a trial at step 4 with flash, its
descriptor the one wait: the core runs the other slot in a trial, the switch is over, and the descriptor ends OK with
the version. FW_ACTIVATE COMMIT with flash and no load or switch under way: a boot-control entry is queued, and the
descriptor waits. FW_ACTIVATE RAISE_ROLLBACK outside a trial, with no load or switch under way: the fuses are raised to
the rollback number that runs (64 at most), never lowered, and it ends OK with them. FLASH_OPERATION_DONE of the one
operation, a sector’s erase for an automatic write, in ACTIVE with no other recorder work or freeze: nothing is queued,
and every byte of the sector is 0xFF. -/
def Obligations.BlocksAndFirmware : Prop :=
  (∀ (s : State) (n : Nat),
    s.dev.sys.cfgDirty.contains n = true → s.dev.hasFlash = true → s.dev.get GLB_BOOT_STATUS_BOOT_DONE = 1 → cfgReserved
      n = false →
    Answers (.cfgAutoWrite n) s fun d => d.sys.cfgDirty = s.dev.sys.cfgDirty.filter (· != n) ∧ s.dev.sys.ops.length <
      d.sys.ops.length) ∧
  (∀ (s : State) (c : Desc),
    s.dev.Acts c → 8 ≤ c.byte 16 ∧ c.byte 16 ≤ 15 → 1 ≤ c.length ∧ c.length ≤ 4064 → (s.dev.ring c.ring).owner = 0 →
      c.data = .first → s.dev.hasFlash = true →
    Answers (.cfgWrite c) s fun d => d.waits = s.dev.waits ++ [(.cfgWrite,
      { Desc.stamp c s.dev.timebase with data := .first })] ∧ s.dev.sys.ops.length < d.sys.ops.length ∧ d.sys.user =
      s.dev.sys.user) ∧
  (∀ (s : State) (c : Desc),
    s.dev.Acts c → cfgReserved (c.byte 16) = false → c.flag 17 0 = false → c.length = (s.dev.cfgPayload (c.byte
      16)).length → (s.dev.ring c.ring).owner = 0 →
    Answers (.cfgRead c) s fun d => d.Completed c stOk ((s.dev.cfgPayload (c.byte 16)).length + 65536 * bnat
      (s.dev.getBit GLB_CFG_STATUS_DEFAULTED (c.byte 16)) + 131072 * bnat (s.dev.getBit GLB_CFG_STATUS_ABSENT (c.byte
      16)))) ∧
  (∀ (s : State) (c : Desc),
    s.dev.Acts c → c.bytes 16 4 % 256 = 0 ∧ c.length % 256 = 0 ∧ 0 < c.length ∧ c.length ≤ 65536 ∧ c.bytes 16 4 +
      c.length ≤ 1572864 → s.dev.get GLB_BOOT_STATUS_TRIAL = 0 → s.dev.sys.load = false ∧ s.dev.sys.switch = none →
      (s.dev.ring c.ring).owner = 0 → c.data = .first → s.dev.hasFlash = true →
    Answers (.fwLoad c) s fun d => d.sys.load = true ∧ d.waits = s.dev.waits ++ [(.fwLoad,
      { Desc.stamp c s.dev.timebase with data := .first })] ∧ s.dev.sys.ops.length < d.sys.ops.length) ∧
  (∀ (s : State) (c : Desc),
    s.dev.Acts c → c.bytes 16 4 % 256 = 0 ∧ c.length % 256 = 0 ∧ c.length ≤ 65536 ∧ c.bytes 16 4 + c.length ≤ 1572864 →
      c.flag 20 0 = false → s.dev.get GLB_BOOT_STATUS_TRIAL = 0 → s.dev.sys.load = false ∧ s.dev.sys.switch = none →
      (s.dev.ring c.ring).owner = 0 → c.data = .first → s.dev.hasFlash = false →
    Answers (.fwLoad c) s fun d => d.Completed c stOk c.length ∧ d.sys.load = false) ∧
  (∀ (s : State) (c : Desc),
    s.dev.Acts c → s.dev.sys.load = false ∧ s.dev.sys.switch = none →
    Answers (.fwActivateSwitch c) s fun d => d.sys.switch = some
      { commit := true, step := 1, again := false, version := 0 } ∧ d.waits = s.dev.waits ++ [(.fwActivate,
      { Desc.stamp c s.dev.timebase with data := .first })]) ∧
  (∀ (s : State) (c : Desc),
    s.dev.Acts c → s.dev.sys.load = false ∧ s.dev.sys.switch = none →
    Answers (.fwActivateTrial c) s fun d => d.sys.switch = some
      { commit := false, step := 1, again := false, version := 0 } ∧ d.waits = s.dev.waits ++ [(.fwActivate,
      { Desc.stamp c s.dev.timebase with data := .first })]) ∧
  (∀ (s : State) (x : SlotCheck) (w : Switch),
    s.dev.sys.switch = some w → w.step = 1 → s.dev.fresh.slotFault s.dev.freeSlot x = 0 →
    Answers (.fwSwitchVerifyDone x) s fun d => d.sys.core = .switching ∧ d.sys.switch = some
      { w with step := 3, version := hdrVersion (s.dev.fresh.slotHeader s.dev.freeSlot) }) ∧
  (∀ (s : State) (w : Switch),
    s.dev.sys.switch = some w → w.step = 3 →
    Answers (.fwSwitchLoadDone true) s fun d => d.sys.switch = some { w with step := 4 }) ∧
  (∀ (s : State) (w : Switch) (c : Desc),
    s.dev.sys.switch = some w → w.step = 4 ∧ w.commit = false → s.dev.hasFlash = true → s.dev.waits = [(.fwActivate, c)]
      → c.data = .first →
    Answers .fwSwitchResume s fun d => d.sys.switch = none ∧ d.sys.core = .running ∧ d.get GLB_BOOT_STATUS_IMAGE = bnat
      s.dev.freeSlot ∧ d.get GLB_BOOT_STATUS_TRIAL = 1 ∧ d.waits = [] ∧ d.Completed c stOk w.version) ∧
  (∀ (s : State) (c : Desc),
    s.dev.Acts c → s.dev.sys.load = false ∧ s.dev.sys.switch = none → s.dev.hasFlash = true →
    Answers (.fwActivateCommit c) s fun d => d.waits = s.dev.waits ++ [(.fwActivate,
      { Desc.stamp c s.dev.timebase with data := .first })] ∧ d.bootQueued = true) ∧
  (∀ (s : State) (c : Desc),
    s.dev.Acts c → s.dev.get GLB_BOOT_STATUS_TRIAL = 0 → s.dev.sys.load = false ∧ s.dev.sys.switch = none →
    Answers (.fwActivateRaiseRollback c) s fun d => d.sys.otp = max s.dev.sys.otp (min s.dev.sys.rollback 64) ∧
      d.Completed c stOk (max s.dev.sys.otp (min s.dev.sys.rollback 64))) ∧
  (∀ (s : State) (x : SlotCheck) (o : FlashOp),
    s.dev.get PWR_STATE_STATE = 0 → s.dev.sys.ops = [o] → o.use = .cfgAuto ∧ o.data = none → s.dev.evr.powerFail = false
      ∧ s.dev.evr.due = false ∧ s.dev.evr.lifeDue = false ∧ s.dev.evr.clear = 0 → s.dev.get EVR_STATUS_FROZEN = 0 →
    Answers (.flashOperationDone true x) s fun d => d.sys.ops = [] ∧ ∀ i : Nat, i < 4096 → sget 0xFF d.mem.flash (o.addr
      / 4096 * 4096 + i) = 0xFF)

/-! ## Test access (20) -/

/-- With the rails in range means outside a brown-out; JTAG_RESET is stated at any time. JTAG_RESET: IDCODE is selected,
and the cells stay. IDCODE: it is selected, and shifts 0x13208B47 out. EXTEST: it is selected; the cells are those
shifted in and are driven, and a DRV_EN ball shows its cell. EXTEST_PULSE: it is selected, and the cells are those
shifted in and are driven. EXTEST_TRAIN: the same. SAMPLE/PRELOAD: it is selected; the pins are captured and shifted
out, the cells are those shifted in, and what is driven stays. CLAMP: it is selected, and the cells as preloaded are
driven. HIGHZ: it is selected, and a DRV_EN ball is low. BYPASS: it is selected, and a DRV_EN ball shows its port’s
DRV_EN. -/
def Obligations.JtagInstructions : Prop :=
  (∀ (s : State),
    Answers .jtagReset s fun d => d.jtag.ir = .idcode ∧ d.jtag.cells = s.dev.jtag.cells) ∧
  (∀ (s : State),
    s.dev.sys.brownout = false →
    Answers .idcode s fun d => d.jtag.ir = .idcode ∧ d.readData = bytesOf 4 0x13208B47) ∧
  (∀ (s : State) (x : BitVec 208) (p : Port),
    s.dev.sys.brownout = false →
    Answers (.extest x) s fun d => d.jtag.ir = .extest ∧ d.jtag.drive = x ∧ d.jtag.cells = x ∧ d.drvPin p = x.getLsb
      (Config.drvCell p)) ∧
  (∀ (s : State) (x : BitVec 208),
    s.dev.sys.brownout = false →
    Answers (.extestPulse x) s fun d => d.jtag.ir = .extestPulse ∧ d.jtag.drive = x ∧ d.jtag.cells = x) ∧
  (∀ (s : State) (x : BitVec 208),
    s.dev.sys.brownout = false →
    Answers (.extestTrain x) s fun d => d.jtag.ir = .extestTrain ∧ d.jtag.drive = x ∧ d.jtag.cells = x) ∧
  (∀ (s : State) (x y : BitVec 208),
    s.dev.sys.brownout = false →
    Answers (.samplePreload x y) s fun d => d.jtag.ir = .sample ∧ d.jtag.sampled = x ∧ d.jtag.cells = y ∧ d.jtag.drive =
      s.dev.jtag.drive ∧ d.readData = bytesOf 26 x.toNat) ∧
  (∀ (s : State),
    s.dev.sys.brownout = false →
    Answers .clamp s fun d => d.jtag.ir = .clamp ∧ d.jtag.drive = s.dev.jtag.cells) ∧
  (∀ (s : State) (p : Port),
    s.dev.sys.brownout = false →
    Answers .highz s fun d => d.jtag.ir = .highz ∧ d.drvPin p = false) ∧
  (∀ (s : State) (x : Byte) (p : Port),
    s.dev.sys.brownout = false →
    Answers (.bypass x) s fun d => d.jtag.ir = .bypass ∧ d.drvPin p = s.dev.on (LPn_TX_STATUS_DRV_EN p))

/-! ## What commands leave alone -/

/-- An event of a port's receiver, echo canceller, transmitter or codes changes that port's record and registers, and
nothing else of the device but the books (counters, records, rings, notices): no other port, no lane's registers, no
loop, channel or on-die word, no descriptor that waits. A decoded codeword also reaches the records of host lanes; an
event that an eye scan, a capture or a frozen equaliser waits for may complete what waits. -/
def Obligations.ReceiverEventsStayInTheirPort : Prop :=
  ∀ (i : Instr) (s : State),
    match i with
    | .rssiUpdate p .. | .gainLoopUpdate p .. | .calStepStart p .. | .calWindowEnd p .. | .temperTick p ..
    | .healthWindowEnd p .. | .adcHoldExpire p =>
        Answers i s fun d => d.ChangesOnly s.dev (ofPort p)
    | .eqSnapshotTimer p .. | .recoverTimeout p .. | .cdrUpdate p .. | .metricWindowEnd p ..
    | .convergenceWindowEnd p .. | .eyeScanPointEnd p .. =>
        Answers i s fun d => d.ChangesOnly s.dev { ofPort p with
          parts := fun d => { d.modPort p (fun _ => {}) with waits := [] } }
    | .hybridTrialEnd p .. | .sparseSearchSegmentEnd p .. | .erleWindowEnd p .. | .fdReady p .. | .fdQuiet p ..
    | .fdConfirm p .. | .fdWindowStart p =>
        Answers i s fun d => d.ChangesOnly s.dev (ofPort p)
    | .coefReq p .. | .txDriverSettled p | .txDrvDelayEnd p | .hostLoss p | .lfNoticeRepeat p =>
        Answers i s fun d => d.ChangesOnly s.dev (ofPort p)
    | .codewordDecode p .. =>
        Answers i s fun d => d.ChangesOnly s.dev { ofPort p with
          parts := fun d => { d.modPort p (fun _ => {}) with lane := Vector.replicate 16 {} } }
    | .innerWindowStep p .. | .amGroupCheck p .. | .postBerInterval p | .slipComplete p .. =>
        Answers i s fun d => d.ChangesOnly s.dev (ofPort p)
    | .captureTrigger p | .captureStop p | .captureTimeout p =>
        Answers i s fun d => d.ChangesOnly s.dev { ofPort p with
          parts := fun d => { d.modPort p (fun _ => {}) with waits := [] }
          host := fun _ => True }
    | _ => True

/-- An event of a port's acquisition, negotiation, training, link message channel or Lull changes that port's record and
registers, and nothing else of the device but the books. An acknowledgement or a user message may complete a descriptor
that waits for it; an answer to a Lull request may end a shed sub-step's wait. -/
def Obligations.LinkMessagesStayInTheirPort : Prop :=
  ∀ (i : Instr) (s : State),
    match i with
    | .correlatorHit p .. | .retuneDone p | .anPageRx p .. =>
        Answers i s fun d => d.ChangesOnly s.dev (ofPort p)
    | .linkParam p .. | .txTuneWindowEnd p | .coefResp p .. | .ready p .. | .dataAt p .. =>
        Answers i s fun d => d.ChangesOnly s.dev (ofPort p)
    | .remoteSnr p .. | .eventNotice p .. | .remoteFaultExpire p | .lmcFrameDiscard p .. | .lmcKeepalive p
    | .remoteSnrPeriod p | .lmcFrameSent p =>
        Answers i s fun d => d.ChangesOnly s.dev (ofPort p)
    | .hostIdleDetect p .. | .lullReq p .. | .lullBackoffEnd p | .lullEnterAt p | .lullRefresh p | .lullWakeCause p
    | .wakeWordTimeout p | .refreshBurstRx p =>
        Answers i s fun d => d.ChangesOnly s.dev (ofPort p)
    | .lullResp p .. =>
        Answers i s fun d => d.ChangesOnly s.dev { ofPort p with
          parts := fun d => { d.modPort p (fun _ => {}) with shed := {} } }
    | .ack p .. | .lmcUserMessage p .. | .lmcAckTimeout p =>
        Answers i s fun d => d.ChangesOnly s.dev { ofPort p with
          parts := fun d => { d.modPort p (fun _ => {}) with waits := [] }
          host := fun _ => True }
    | _ => True

/-- Losing, dropping, finding or waking a link, and the end of its start-up calibration, change the port, the host lanes
and what waits, and nothing else of the device but the books (the end of start-up calibration also the record of what
is to be saved): no other port, no bias loop, channel or monitor input, no on-die word, no setting of power, thermal
model, recorder or clock. -/
def Obligations.LinkChangesStayOnTheirPort : Prop :=
  ∀ (i : Instr) (s : State),
    match i with
    | .confirmMarkerFound p .. | .confirmTimeout p | .anTimerExpiry p .. | .trainTimeout p
    | .trainingMarkersMissed p | .dataSwitch p .. | .ieeeTrainingEnd p .. =>
        Answers i s fun d => d.ChangesOnly s.dev (ofLink p)
    | .startupCalDone p .. =>
        Answers i s fun d => d.ChangesOnly s.dev { ofLink p with
          parts := fun d => { d.modPort p (fun _ => {}) with waits := [], mdio := {}, host := {}, lane := Vector.replicate 16 {}, sys := {} } }
    | .fdWindowEnd p | .fdGapEnd p .. | .fdAbandon p .. | .fdStepTimeout p .. =>
        Answers i s fun d => d.ChangesOnly s.dev (ofLink p)
    | .cableDiagProbeDone p .. =>
        Answers i s fun d => d.ChangesOnly s.dev { ofLink p with host := fun _ => True }
    | .sigdetLossTimeout p .. | .syncHeaderLoss p | .lullLost p | .sleepWordRx p .. | .wakeWordRx p ..
    | .lpiSignal p .. | .portStopNoticeDone p | .txSquelchEnd p =>
        Answers i s fun d => d.ChangesOnly s.dev (ofLink p)
    | _ => True

/-- An event of a host lane changes that lane's record and registers; one of alignment, of electrical idle or of a rate
change also the registers of the lanes beside it, the transmitters of ports and the host side's record. Nothing else of
the device changes but the books. -/
def Obligations.HostLaneEventsStayOnTheHostSide : Prop :=
  ∀ (i : Instr) (s : State),
    match i with
    | .hostTxEiHoldEnd l | .hostRxEiExit l | .hostRxLock l | .hostCtleTrialEnd l .. | .hostRxSnrWindowEnd l ..
    | .checkerLock l | .checkerLockLoss l .. =>
        Answers i s fun d => d.ChangesOnly s.dev (ofLane l)
    | .hostBurstEnd l =>
        Answers i s fun d => d.ChangesOnly s.dev { ofLane l with
          parts := fun d => { d with lane := vmod d.lane l fun _ => {}, host := {}, port := d.port.map fun q => { q with tx := {} } }
          regs := fun o => inLanes o = true }
    | .hostRxEiEnter _ | .laneCdrLost _ =>
        Answers i s fun d => d.ChangesOnly s.dev {
          parts := fun d => { d with lane := Vector.replicate 16 {}, host := {}, port := d.port.map fun q => { q with tx := {} } }
          regs := fun o => inLanes o = true ∨ inPorts o = true ∧ (portAt o).2 / 256 = 4 }
    | .hostGroupAligned p .. | .hostAlignmentLoss p | .hostPllRetuneDone p =>
        Answers i s fun d => d.ChangesOnly s.dev { ofLink p with
          parts := fun d => { d.modPort p (fun q => { q with tx := {} }) with host := {}, lane := Vector.replicate 16 {} } }
    | _ => True

/-- Ticks of the auxiliary channels, samples and outputs of the bias loops and conversions of the monitor change loops,
channels and monitor, what waits on them, and their registers; a ramp's end in a Quench also the Quench's record. No
port, lane, memory, power or clock changes. -/
def Obligations.BiasEventsStayOnTheBiasSide : Prop :=
  ∀ (i : Instr) (s : State),
    match i with
    | .auxUpdateTick c =>
        Answers i s fun d => d.ChangesOnly s.dev {
          parts := fun d => { d with aux := vmod d.aux c fun _ => {}, waits := [] }
          regs := fun o => o / 4096 = 0xA
          host := fun _ => True }
    | .auxSlewTick _ | .auxClrDeassert =>
        Answers i s fun d => d.ChangesOnly s.dev {
          parts := fun d => { d with thm := {}, evr := {} }
          regs := fun o => o / 4096 = 0xA ∨ o / 4096 = 9 }
    | .auxPowerClear =>
        Answers i s fun d => d.ChangesOnly s.dev {
          parts := fun d => { d with aux := Vector.replicate 24 {} }
          regs := fun o => o / 4096 = 0xA }
    | .auxClrAssert | .loopRampEnd =>
        Answers i s fun d => d.ChangesOnly s.dev {
          parts := fun d => { d with loop := Vector.replicate 16 {}, waits := [], thm := {}, evr := {} }
          regs := fun o => o / 4096 = 0xA ∨ o / 4096 = 9
          host := fun _ => True }
    | .loopSample l | .loopOutput l .. | .loopArmTimeout l =>
        Answers i s fun d => d.ChangesOnly s.dev {
          parts := fun d => { d with loop := vmod d.loop l fun _ => {}, waits := [], bceCap := {} }
          regs := fun o => o / 4096 = 0xA ∨ o / 4096 = 9
          host := fun _ => True }
    | .monConversion _ | .monHealthWindowEnd .. | .monCalMeasureEnd _ =>
        Answers i s fun d => d.ChangesOnly s.dev {
          parts := fun d => { d with mon := {}, waits := [] }
          regs := fun o => o / 4096 = 0xB
          host := fun _ => True }
    | .monSyscalMeasureEnd .. =>
        Answers i s fun d => d.ChangesOnly s.dev {
          parts := fun d => { d with mon := {}, waits := [], sys := {} }
          regs := fun o => o / 4096 = 0xB
          host := fun _ => True }
    | _ => True

/-- A descriptor that reads state stores its record where its Address and Length say and changes nothing else of the
device but the books, which its completion is part of. NOP, an unknown opcode and the ring, event and counter set-up
descriptors change the books alone. -/
def Obligations.ReadingDescriptorsChangeNothing : Prop :=
  ∀ (i : Instr) (s : State),
    match i with
    | .adcCalStatus c | .adcCalTrimDump c | .captureRead c | .portStatus c | .hostLanePrbsRead c
    | .loopCaptureRead c | .monRead c | .ringQuery c | .identify c =>
        Answers i s fun d => d.ChangesOnly s.dev (ofAddress c)
    | .ctrReadCounters c | .ctrReadSamples c | .memRead c | .powerStats c | .thermalStatus c | .evrRead c
    | .traceRead c | .rtcGet c | .cfgRead c =>
        Answers i s fun d => d.ChangesOnly s.dev (ofAddress c)
    | .nop _ | .unknownOpcode _ | .ringCreate _ | .eventEnable _ | .ctrConfigWrite _ | .ctrConfigClear _
    | .ctrSnapshot _ | .ctrSnapshotClear _ | .ctrFreeze _ | .ctrUnfreeze _ | .evrFreeze _ | .evrRelease _ =>
        Answers i s fun d => d.ChangesOnly s.dev {}
    | .hostLanePrbsReadClear c =>
        Answers i s fun d => d.ChangesOnly s.dev { ofAddress c with
          parts := fun d => { d with lane := Vector.replicate 16 {} }
          regs := fun o => inLanes o = true }
    | .ringDestroy _ | .telemetryStream _ =>
        Answers i s fun d => d.ChangesOnly s.dev { parts := fun d => { d with streams := [] } }
    | _ => True

/-- A descriptor that sets up host lanes, loops, channels, the monitor, the memories or the check engine changes that
block's part and registers, and what waits; one for host lanes also the clocks of the ports' transmitters; no other
block changes. MEM_WRITE and MEM_TEST_WRITE store in an on-die memory and nowhere else. -/
def Obligations.SettingDescriptorsKeepToTheirBlock : Prop :=
  ∀ (i : Instr) (s : State),
    match i with
    | .hostLaneConfig _ | .hostLaneLoopback _ | .hostLanePrbsSet _ | .hostLanePrbsClear _ | .hostLaneBitslip _
    | .laneMap _ =>
        Answers i s fun d => d.ChangesOnly s.dev {
          parts := fun d => { d with lane := Vector.replicate 16 {}, host := {}, port := d.port.map fun q => { q with tx := {} } }
          regs := fun o => inLanes o = true }
    | .loopConfig _ | .loopRestart _ | .loopCoeffSwap _ | .loopTableLoad _ | .loopInject _ | .loopCaptureArm _ =>
        Answers i s fun d => d.ChangesOnly s.dev {
          parts := fun d => { d with loop := Vector.replicate 16 {}, waits := [], bceCap := {} }
          regs := fun o => o / 4096 = 9 ∨ o / 4096 = 0xA }
    | .auxDacQueue _ | .auxDacConfig _ =>
        Answers i s fun d => d.ChangesOnly s.dev {
          parts := fun d => { d with aux := Vector.replicate 24 {}, waits := [] }
          regs := fun o => o / 4096 = 0xA }
    | .monConfigInput _ | .monConfigSlots _ | .monConfigPower _ | .monConfigCalCycle _ | .monSyscalZero _
    | .monSyscalFull _ | .cicConfig _ =>
        Answers i s fun d => d.ChangesOnly s.dev {
          parts := fun d => { d with mon := {}, waits := [] }
          regs := fun o => o / 4096 = 0xB }
    | .monSyscalDefault _ =>
        Answers i s fun d => d.ChangesOnly s.dev {
          parts := fun d => { d with mon := {}, sys := {} }
          regs := fun o => o / 4096 = 0xB }
    | .checkRunCompute _ | .checkRunVerifyMem _ | .checkRunVerifyParam _ | .checkRunAppend _ | .checkContextSave _
    | .checkContextLoad _ =>
        Answers i s fun d => d.ChangesOnly s.dev {
          parts := fun d => { d with chk := {}, waits := [] }
          regs := fun o => o / 4096 = 3 }
    | .checkRunEnd .. =>
        Answers i s fun d => d.ChangesOnly s.dev {
          parts := fun d => { d with chk := {}, waits := [] }
          regs := fun o => o / 4096 = 3
          words := fun _ _ => True
          host := fun _ => True
          flash := True }
    | .memScrubConfig _ | .bucketLeak _ =>
        Answers i s fun d => d.ChangesOnly s.dev { regs := fun o => o / 4096 = 2 }
    | .memTestWrite c | .memWrite c =>
        Answers i s fun d => d.ChangesOnly s.dev {
          words := fun m _ => m.val = c.byte 16 % 32
          regs := fun o => o / 4096 = 2 }
    | .scrubTick m .. =>
        Answers i s fun d => d.ChangesOnly s.dev { words := fun k _ => k = m, regs := fun o => o / 4096 = 2 }
    | _ => True

/-- A descriptor that names a port changes that port's record and registers and what waits; one that configures, starts,
stops, resets or retrains the port also the host lanes and the votes that the port's state raises. No other port
changes, and no other block. -/
def Obligations.PortDescriptorsStayOnTheirPort : Prop :=
  ∀ (i : Instr) (s : State),
    match i with
    | .adcCalCycle c | .adcCalHold c | .adcCalRelease c | .adcCalRequalify c | .eyeScan c | .captureAdc c
    | .cableDiag c | .lmcSend c | .lmcReceive c =>
        Answers i s fun d => d.ChangesOnly s.dev { ofPort (Desc.port c) with
          parts := fun d => { d.modPort (Desc.port c) (fun _ => {}) with waits := [] }
          host := fun _ => True }
    | .portConfig c | .portStart c | .portRetrain c =>
        Answers i s fun d => d.ChangesOnly s.dev (ofLink (Desc.port c))
    | .portStop c | .portReset c =>
        Answers i s fun d => d.ChangesOnly s.dev { ofLink (Desc.port c) with
          parts := fun d => { d.modPort (Desc.port c) (fun _ => {}) with waits := [], mdio := {}, host := {}, lane := Vector.replicate 16 {}, pwr := {}, sys := {} }
          regs := fun o => (inPorts o = true ∧ (portAt o).1 = Desc.port c) ∨ inLanes o = true ∨ o / 256 = 0x10 }
    | .lmcReceiveTimeout _ | .portWaitTimeout _ =>
        Answers i s fun d => d.ChangesOnly s.dev { parts := fun d => { d with waits := [] }, host := fun _ => True }
    | _ => True

/-- The calendar clock, the crystal, the reference clocks, the recorder's timers, the governor's transactions and the
votes change their own records and registers, and what waits on them. No port's record, lane's record, loop, channel,
memory word or flash byte changes. -/
def Obligations.ClocksRecorderAndPowerKeepToThemselves : Prop :=
  ∀ (i : Instr) (s : State),
    match i with
    | .rtcSecond | .rtcCorrection | .rtcSet _ =>
        Answers i s fun d => d.ChangesOnly s.dev {
          parts := fun d => { d with rtc := {} }
          regs := fun o => o / 256 = 0xD1 }
    | .xtalStopped | .xtalRestart | .refclkLost _ | .refclkHoldAged _ | .refclkReturn _ =>
        Answers i s fun d => d.ChangesOnly s.dev {
          parts := fun d => { d with hold := Vector.replicate 2 none }
          regs := fun o => o / 256 = 1 ∨ o / 256 = 0xD1 }
    | .hoursTick | .evrFlushTimer | .evrFreezeExpire | .lifetimeWriteTimer | .evrClear _ =>
        Answers i s fun d => d.ChangesOnly s.dev {
          parts := fun d => { d with evr := {}, waits := [] }
          regs := fun o => o / 256 = 0xD0 }
    | .powerFail | .powerFailEnd =>
        Answers i s fun d => d.ChangesOnly s.dev {
          parts := fun d => { d with evr := {}, sys := {} }
          regs := fun o => o / 256 = 0xD0 ∨ o / 256 = 1 }
    | .avsTransactionDone _ | .avsFaultRetry | .govDownHoldEnd | .atCeiling | .atCeilingClear =>
        Answers i s fun d => d.ChangesOnly s.dev {
          parts := fun d => { d with gov := {} }
          regs := fun o => o / 256 = 0x11 }
    | .govCeilingLower | .govCeilingRaise =>
        Answers i s fun d => d.ChangesOnly s.dev {
          parts := fun d => { d with gov := {} }
          regs := fun o => inPorts o = true ∨ o / 256 = 0x11 }
    | .powerVoteHold _ | .powerVoteRelease _ | .powerVoteEnter _ | .powerVoteEnterTimeout | .powerVoteWake _
    | .powerVoteDozeTimeout .. | .spiLingerExpire =>
        Answers i s fun d => d.ChangesOnly s.dev {
          parts := fun d => { d with pwr := {}, waits := [], chk := {} }
          regs := fun o => o / 256 = 0x10
          host := fun _ => True }
    | .retainEntryBegin | .retainSaveDone | .retainSignaturesDone | .retainPowerDownDone | .linkWakeDetect _
    | .wakeStepTimeout | .pllReady | .vddCoreReady =>
        Answers i s fun d => d.ChangesOnly s.dev {
          parts := fun d => { d with pwr := {}, gov := {}, chk := {}, waits := [] }
          regs := fun o => o / 256 = 0x10 ∨ o / 256 = 0x11 ∨ o / 256 = 0xB0
          host := fun _ => True }
    | .supplyGood _ | .pcieResetEnd _ =>
        Answers i s fun d => d.ChangesOnly s.dev {
          parts := fun d => { d with sys := {} }
          regs := fun o => o < 0x200 }
    | .capEvalWindowEnd | .capWithdrawTimer | .throttleSubstepTimer | .throttleWithdrawTimer | .powerCap _ =>
        Answers i s fun d => d.ChangesOnly s.dev {
          parts := fun d => { d with shed := {}, waits := [] }
          regs := fun o => o / 256 = 0x10 ∨ o / 256 = 0x11 ∨ o / 256 = 0xB0 ∨ inPorts o = true
          host := fun _ => True }
    | .govIntervalEnd _ =>
        Answers i s fun d => d.ChangesOnly s.dev {
          parts := fun d => { d with gov := {} }
          regs := fun o => o / 256 = 0x11 ∨ inPorts o = true ∧ (portAt o).2 / 256 = 7 ∨ inLanes o = true }
    | .zonePowerSample _ | .thermalModelUpdate | .reportStale | .caseWakeConversion _ =>
        Answers i s fun d => d.ChangesOnly s.dev {
          parts := fun d => { d with thm := {}, shed := {}, pwr := {} }
          regs := fun o => o / 256 = 0x12 ∨ o / 256 = 0x10 }
    | .cfgAutoWrite _ | .fwSwitchLoadDone _ | .fwActivateSwitch _ | .fwActivateTrial _ | .cfgWrite _ =>
        Answers i s fun d => d.ChangesOnly s.dev {
          parts := fun d => { d with sys := {}, waits := [] }
          regs := fun o => o / 256 = 1
          host := fun _ => True }
    | _ => True

/-- A register access that is a command of its own changes the block of its register, and what the transport that brings
it does to the votes and the entry to low power. A read by SPI, MDIO or PCIe, a frame with an unknown command and a
doorbell change what the transport itself keeps, the votes and the entry to low power, and the rings: no port, lane,
loop, channel, monitor, thermal, clock or firmware record, no setting of a block, and no memory but the books. -/
def Obligations.AccessesKeepToTheirBlock : Prop :=
  ∀ (i : Instr) (s : State),
    match i with
    | .gainModeWrite _ p _ | .adcCalHoldWrite _ p _ | .swFreezeWrite _ p _ | .lullEnClear _ p _
    | .fecCounterClear _ p _ =>
        Answers i s fun d => d.ChangesOnly s.dev {
          parts := fun d => { d.modPort p (fun _ => {}) with pwr := {}, chk := {} }
          regs := fun o => (inPorts o = true ∧ (portAt o).1 = p) ∨ o / 256 = 0x10 }
    | .rxFreezeWrite .. | .hostTxTapWrite .. =>
        Answers i s fun d => d.ChangesOnly s.dev {
          parts := fun d => { d with lane := Vector.replicate 16 {}, host := {}, pwr := {}, chk := {}, port := d.port.map fun q => { q with tx := {} } }
          regs := fun o => inLanes o = true ∨ o / 256 = 0x10 ∨ inPorts o = true ∧ (portAt o).2 / 256 = 4 }
    | .auxClearWrite .. =>
        Answers i s fun d => d.ChangesOnly s.dev {
          parts := fun d => { d with pwr := {}, chk := {} }
          regs := fun o => o / 4096 = 0xA ∨ o / 256 = 0x10 }
    | .chkValueCommit .. =>
        Answers i s fun d => d.ChangesOnly s.dev {
          parts := fun d => { d with pwr := {}, chk := {} }
          regs := fun o => o / 4096 = 3 ∨ o / 256 = 0x10 }
    | .wakeReqWrite .. =>
        Answers i s fun d => d.ChangesOnly s.dev {
          parts := fun d => { d with pwr := {}, chk := {} }
          regs := fun o => o / 256 = 0x10 }
    | .evrCursorWrite .. | .evrWin15Read _ =>
        Answers i s fun d => d.ChangesOnly s.dev {
          parts := fun d => { d with pwr := {}, chk := {}, readData := [], hiLatch := Vector.replicate 3 [] }
          regs := fun o => o / 256 = 0xD0 ∨ o / 256 = 0x10 }
    | .spiRead .. | .spiQuadRead .. | .spiIgnoredCommand _ | .doorbell .. | .doorbellRead .. =>
        Answers i s fun d => d.ChangesOnly s.dev {
          parts := fun d => { d with readData := [], hiLatch := Vector.replicate 3 [], pwr := {}, chk := {} }
          regs := fun o => o / 256 = 0x10 ∨ o < 0x100 ∨ o = 0xD01C ∨ o = 0xD014 }
    | .latchedLoRead .. =>
        Answers i s fun d => d.ChangesOnly s.dev {
          parts := fun d => { d with readData := [], hiLatch := Vector.replicate 3 [], pwr := {}, chk := {} }
          regs := fun o => o / 256 = 0x10 ∨ o < 0x100 }
    | .mdioDataLoRead | .mdioDataHiRead | .mdioWinStatusRead | .mdioLinkStatusRead _ | .mdioDbValueWrite _ =>
        Answers i s fun d => d.ChangesOnly s.dev {
          parts := fun d => { d with readData := [], mdio := {}, hiLatch := Vector.replicate 3 [], pwr := {}, chk := {} }
          regs := fun o => o / 256 = 0x10 ∨ o < 0x100 ∨ o / 256 = 0xD0 }
    | .completionRelease _ | .coalTimerExpire _ =>
        Answers i s fun d => d.ChangesOnly s.dev { host := fun _ => True }
    | _ => True

/-- An instruction of the test access port, at any time and in any power state, changes the port's own registers and what
it shifts out, and nothing else of the device. -/
def Obligations.TestAccessTouchesNothingElse : Prop :=
  ∀ (i : Instr) (s : State),
    match i with
    | .jtagReset | .idcode | .highz | .clamp | .samplePreload .. | .extest _ | .extestPulse _ | .extestTrain _ | .bypass _ =>
        Answers i s fun d => { d with jtag := s.dev.jtag, readData := s.dev.readData } = s.dev.fresh
    | _ => True

/-! ## Completions, records, opcodes and reserved bits -/

/-- UNKNOWN_OPCODE from a live ring with a live completion ring in host memory, another than its own, with room and no
completion held for it: the completion is in the entry at the tail, with the ring’s phase, and no other byte of host
memory changes; TAIL moves on by one, and PHASE turns at a wrap. NOP with CR 0 that was not retried, its completion
ring another than its own: no byte of host memory changes, the completion ring stays, and it ends OK. -/
def Obligations.CompletionsGoToTheirRing : Prop :=
  (∀ (s : State) (c : Desc) (q : RingCtx),
    s.dev.Acts c → (s.dev.ring c.ring).live = true → s.dev.ring (s.dev.ring c.ring).cq = q → q.live = true ∧ q.owner = 0
      ∧ q.full = false ∧ q.tail < q.size → (s.dev.ring c.ring).cq ≠ c.ring.val → s.dev.heldCpl.any (fun h => h.1 ==
      (s.dev.ring c.ring).cq) = false →
    Answers (.unknownOpcode c) s fun d => (∀ i, i < 16 → sget 0 d.mem.host ((q.base + 16 * q.tail + i) % 2 ^ 64) =
      ((completionOf c stNotSupported 0 s.dev.timebase).image q.phase).getD i 0) ∧ (∀ a, (∀ i, i < 16 → a ≠ (q.base + 16
      * q.tail + i) % 2 ^ 64) → sget 0 d.mem.host a = sget 0 s.dev.mem.host a) ∧ (d.ring (s.dev.ring c.ring).cq).tail =
      (q.tail + 1) % q.size ∧ (d.ring (s.dev.ring c.ring).cq).phase = (if (q.tail + 1) % q.size = 0 then !q.phase else
      q.phase)) ∧
  (∀ (s : State) (c : Desc),
    s.dev.Acts c → c.cr = false ∧ c.again = false → (s.dev.ring c.ring).cq ≠ c.ring.val →
    Answers (.nop c) s fun d => d.mem.host = s.dev.mem.host ∧ d.ring (s.dev.ring c.ring).cq = s.dev.ring (s.dev.ring
      c.ring).cq ∧ d.Completed c stOk 0)

/-- While CORE is on, an event takes the next SEQ, never given again, and joins the volatile buffer. When the buffer is
full, a new record of severity 0 or 1 is discarded. A new record of severity 2 or 3 displaces the oldest buffered
record of severity 0 or 1, or is discarded when every buffered record has severity 2 or 3. Each discard counts in
BUF_DROPS and sets BUF_FULL. -/
def Obligations.EventsBecomeRecords : Prop :=
  ∀ (s : Dev) (source bit sev : Nat) (l : List Byte), s.get PWR_STATE_STATE < 2 →
    (s.logRaw source bit sev l).get EVR_SEQ_VALUE = (s.get EVR_SEQ_VALUE + 1) % 2 ^ 32 ∧
    ∃ r : EvRec, r.seq = s.get EVR_SEQ_VALUE ∧ r.source = source ∧ r.bit = bit ∧ r.sev = sev ∧ r.payload = l ∧
      (s.evr.buf.length < 64 → (s.logRaw source bit sev l).evr.buf = s.evr.buf ++ [r]) ∧
      (s.evr.buf.length = 64 →
        (s.logRaw source bit sev l).get EVR_EVENTS_BUF_FULL = 1 ∧
        (s.logRaw source bit sev l).get EVR_COUNT_BUF_DROPS = (s.inc EVR_COUNT_BUF_DROPS).get EVR_COUNT_BUF_DROPS ∧
        (sev < 2 ∨ (∀ e ∈ s.evr.buf, 2 ≤ e.sev) → (s.logRaw source bit sev l).evr.buf = s.evr.buf) ∧
        (∀ a e b, 2 ≤ sev → s.evr.buf = a ++ e :: b → e.sev < 2 → (∀ x ∈ a, 2 ≤ x.sev) →
          (s.logRaw source bit sev l).evr.buf = a ++ b ++ [r]))

/-- Two writes of a register that agree in every field of it have the same effect, by any transport that the device
serves, whatever they hold in the reserved bits (the MSI-X table, whose layout is PCIe's, apart). -/
def Obligations.ReservedBitsAreIgnored : Prop :=
  ∀ (s : State) (t : Transport) (off : BitVec 16) (v w : BitVec 32),
    s.dev.Serving t → off.toNat % 4 = 0 → ¬ (0x800 ≤ off.toNat ∧ off.toNat < 0xE00) →
    (∀ f ∈ fieldsAt off.toNat, v.toNat / 2 ^ f.lsb % 2 ^ f.width = w.toNat / 2 ^ f.lsb % 2 ^ f.width) →
    exec (.registerWrite t (.setup off) v) s = exec (.registerWrite t (.setup off) w) s

/-- PORT_RESET of a port at rest in STOPPED, with no core reset under way, returns the port's class P fields that report
no live state to their reset values, leaves its other settings, and leaves every register and every record of the other
ports untouched. -/
def Obligations.PortResetReturnsClassP : Prop :=
  ∀ (s : State) (c : Desc),
    s.dev.Acts c → s.dev.atRest (Desc.port c) = true → s.dev.sys.restart = none →
    Answers (.portReset c) s fun d => (∀ off, inPorts off = true → (portAt off).1 = Desc.port c → ∀ f ∈ fieldsAt off,
      f.live = false → d.get f = if f.cls = .p then f.reset else s.dev.get f) ∧ (∀ f : Fld, f.plain → ¬ (inPorts f.off =
      true ∧ (portAt f.off).1 = Desc.port c) → d.get f = s.dev.get f) ∧ ∀ p, p ≠ Desc.port c → { d.prt p with cap := {} }
      = { s.dev.prt p with cap := {} }

/-- The action phase of a fetched descriptor is the effect of the command that its opcode, with the action in its
parameters, names. -/
def Obligations.DescriptorsActByOpcode : Prop :=
  ∀ (c : Desc) (s : State),
    (c.opcode = 0x00 → actOf c s = exec (.nop c) s) ∧
    (c.opcode = 0x01 → actOf c s = exec (.ringCreate c) s) ∧
    (c.opcode = 0x02 → actOf c s = exec (.ringDestroy c) s) ∧
    (c.opcode = 0x03 → actOf c s = exec (.ringQuery c) s) ∧
    (c.opcode = 0x04 → actOf c s = exec (.eventEnable c) s) ∧
    (c.opcode = 0x05 → actOf c s = exec (.identify c) s) ∧
    (c.opcode = 0x10 → actOf c s = exec (.portConfig c) s) ∧
    (c.opcode = 0x11 → actOf c s = exec (.portStart c) s) ∧
    (c.opcode = 0x12 → actOf c s = exec (.portStop c) s) ∧
    (c.opcode = 0x13 → actOf c s = exec (.portReset c) s) ∧
    (c.opcode = 0x14 → actOf c s = exec (.portStatus c) s) ∧
    (c.opcode = 0x15 → actOf c s = exec (.portRetrain c) s) ∧
    (c.opcode = 0x16 → actOf c s = exec (.cableDiag c) s) ∧
    (c.opcode = 0x17 → actOf c s = exec (.lmcSend c) s) ∧
    (c.opcode = 0x18 → actOf c s = exec (.lmcReceive c) s) ∧
    (c.opcode = 0x19 → actOf c s = exec (.eyeScan c) s) ∧
    (c.opcode = 0x1A → c.byte 18 = 0 → actOf c s = exec (.adcCalStatus c) s) ∧
    (c.opcode = 0x1A → c.byte 18 = 1 → actOf c s = exec (.adcCalCycle c) s) ∧
    (c.opcode = 0x1A → c.byte 18 = 2 → actOf c s = exec (.adcCalHold c) s) ∧
    (c.opcode = 0x1A → c.byte 18 = 3 → actOf c s = exec (.adcCalRelease c) s) ∧
    (c.opcode = 0x1A → c.byte 18 = 4 → actOf c s = exec (.adcCalRequalify c) s) ∧
    (c.opcode = 0x1A → c.byte 18 = 5 → actOf c s = exec (.adcCalTrimDump c) s) ∧
    (c.opcode = 0x20 → actOf c s = exec (.hostLaneConfig c) s) ∧
    (c.opcode = 0x21 → actOf c s = exec (.hostLaneLoopback c) s) ∧
    (c.opcode = 0x22 → c.bits 18 1 0 = 0 → actOf c s = exec (.hostLanePrbsSet c) s) ∧
    (c.opcode = 0x22 → c.bits 18 1 0 = 1 → actOf c s = exec (.hostLanePrbsRead c) s) ∧
    (c.opcode = 0x22 → c.bits 18 1 0 = 2 → actOf c s = exec (.hostLanePrbsClear c) s) ∧
    (c.opcode = 0x22 → c.bits 18 1 0 ∉ [0, 1, 2] → actOf c s = exec (.hostLanePrbsReadClear c) s) ∧
    (c.opcode = 0x23 → actOf c s = exec (.hostLaneBitslip c) s) ∧
    (c.opcode = 0x24 → actOf c s = exec (.laneMap c) s) ∧
    (c.opcode = 0x30 → actOf c s = exec (.loopConfig c) s) ∧
    (c.opcode = 0x31 → actOf c s = exec (.loopCoeffSwap c) s) ∧
    (c.opcode = 0x32 → actOf c s = exec (.loopTableLoad c) s) ∧
    (c.opcode = 0x33 → actOf c s = exec (.loopInject c) s) ∧
    (c.opcode = 0x34 → c.flag 17 0 = true → actOf c s = exec (.loopCaptureRead c) s) ∧
    (c.opcode = 0x34 → ¬ (c.flag 17 0 = true) → actOf c s = exec (.loopCaptureArm c) s) ∧
    (c.opcode = 0x35 → actOf c s = exec (.auxDacQueue c) s) ∧
    (c.opcode = 0x36 → actOf c s = exec (.auxDacConfig c) s) ∧
    (c.opcode = 0x37 → actOf c s = exec (.loopRestart c) s) ∧
    (c.opcode = 0x40 → c.bits 16 1 0 = 0 → actOf c s = exec (.monConfigInput c) s) ∧
    (c.opcode = 0x40 → c.bits 16 1 0 = 1 → actOf c s = exec (.monConfigSlots c) s) ∧
    (c.opcode = 0x40 → c.bits 16 1 0 = 2 → actOf c s = exec (.monConfigPower c) s) ∧
    (c.opcode = 0x40 → c.bits 16 1 0 ∉ [0, 1, 2] → actOf c s = exec (.monConfigCalCycle c) s) ∧
    (c.opcode = 0x41 → actOf c s = exec (.monRead c) s) ∧
    (c.opcode = 0x42 → c.bits 17 1 0 = 0 → actOf c s = exec (.monSyscalZero c) s) ∧
    (c.opcode = 0x42 → c.bits 17 1 0 = 1 → actOf c s = exec (.monSyscalFull c) s) ∧
    (c.opcode = 0x42 → c.bits 17 1 0 = 2 → actOf c s = exec (.monSyscalDefault c) s) ∧
    (c.opcode = 0x43 → actOf c s = exec (.cicConfig c) s) ∧
    (c.opcode = 0x50 → c.bits 17 1 0 = 0 → actOf c s = exec (.checkRunCompute c) s) ∧
    (c.opcode = 0x50 → c.bits 17 1 0 = 1 → actOf c s = exec (.checkRunVerifyMem c) s) ∧
    (c.opcode = 0x50 → c.bits 17 1 0 = 2 → actOf c s = exec (.checkRunVerifyParam c) s) ∧
    (c.opcode = 0x50 → c.bits 17 1 0 ∉ [0, 1, 2] → actOf c s = exec (.checkRunAppend c) s) ∧
    (c.opcode = 0x51 → actOf c s = exec (.checkContextSave c) s) ∧
    (c.opcode = 0x52 → actOf c s = exec (.checkContextLoad c) s) ∧
    (c.opcode = 0x60 → actOf c s = exec (.memScrubConfig c) s) ∧
    (c.opcode = 0x61 → actOf c s = exec (.memTestWrite c) s) ∧
    (c.opcode = 0x62 → actOf c s = exec (.memRead c) s) ∧
    (c.opcode = 0x63 → actOf c s = exec (.memWrite c) s) ∧
    (c.opcode = 0x70 → actOf c s = exec (.evrRead c) s) ∧
    (c.opcode = 0x71 → c.flag 16 0 = true → actOf c s = exec (.evrFreeze c) s) ∧
    (c.opcode = 0x71 → ¬ (c.flag 16 0 = true) → actOf c s = exec (.evrRelease c) s) ∧
    (c.opcode = 0x72 → actOf c s = exec (.evrClear c) s) ∧
    (c.opcode = 0x73 → actOf c s = exec (.traceRead c) s) ∧
    (c.opcode = 0x74 → actOf c s = exec (.rtcSet c) s) ∧
    (c.opcode = 0x75 → actOf c s = exec (.rtcGet c) s) ∧
    (c.opcode = 0x81 → actOf c s = exec (.powerStats c) s) ∧
    (c.opcode = 0x82 → actOf c s = exec (.powerCap c) s) ∧
    (c.opcode = 0x83 → actOf c s = exec (.thermalStatus c) s) ∧
    (c.opcode = 0x84 → actOf c s = exec (.caseTempReport c) s) ∧
    (c.opcode = 0x90 → actOf c s = exec (.fwLoad c) s) ∧
    (c.opcode = 0x91 → c.bits 16 1 0 = 0 → actOf c s = exec (.fwActivateSwitch c) s) ∧
    (c.opcode = 0x91 → c.bits 16 1 0 = 1 → actOf c s = exec (.fwActivateTrial c) s) ∧
    (c.opcode = 0x91 → c.bits 16 1 0 = 2 → actOf c s = exec (.fwActivateCommit c) s) ∧
    (c.opcode = 0x91 → c.bits 16 1 0 ∉ [0, 1, 2] → actOf c s = exec (.fwActivateRaiseRollback c) s) ∧
    (c.opcode = 0x92 → actOf c s = exec (.cfgWrite c) s) ∧
    (c.opcode = 0x93 → actOf c s = exec (.cfgRead c) s) ∧
    (c.opcode = 0x94 → actOf c s = exec (.softReset c) s) ∧
    (c.opcode = 0xA0 → c.flag 17 0 = true → actOf c s = exec (.ctrConfigClear c) s) ∧
    (c.opcode = 0xA0 → ¬ (c.flag 17 0 = true) → actOf c s = exec (.ctrConfigWrite c) s) ∧
    (c.opcode = 0xA1 → c.bits 16 2 0 = 1 → actOf c s = exec (.ctrSnapshotClear c) s) ∧
    (c.opcode = 0xA1 → c.bits 16 2 0 = 2 → actOf c s = exec (.ctrFreeze c) s) ∧
    (c.opcode = 0xA1 → c.bits 16 2 0 = 3 → actOf c s = exec (.ctrUnfreeze c) s) ∧
    (c.opcode = 0xA1 → c.bits 16 2 0 ∉ [1, 2, 3] → actOf c s = exec (.ctrSnapshot c) s) ∧
    (c.opcode = 0xA2 → c.bits 16 1 0 = 2 → actOf c s = exec (.ctrReadSamples c) s) ∧
    (c.opcode = 0xA2 → ¬ (c.bits 16 1 0 = 2) → actOf c s = exec (.ctrReadCounters c) s) ∧
    (c.opcode = 0xA3 → actOf c s = exec (.telemetryStream c) s) ∧
    (c.opcode = 0xB0 → actOf c s = exec (.captureAdc c) s) ∧
    (c.opcode = 0xB1 → actOf c s = exec (.captureRead c) s) ∧
    (c.opcode = 0x80 → voteBad c = false → voteTarget c = 0 → voteAction c = 0 → actOf c s = exec (.powerVoteHold c) s) ∧
    (c.opcode = 0x80 → voteBad c = false → voteTarget c = 0 → voteAction c = 1 → actOf c s = exec (.powerVoteRelease c) s) ∧
    (c.opcode = 0x80 → voteBad c = false → voteTarget c = 0 → voteAction c ∉ [0, 1] → actOf c s = exec (.powerVoteEnter c) s) ∧
    (c.opcode = 0x80 → voteBad c = false → voteTarget c ≠ 0 → voteAction c = 0 → actOf c s = exec (.powerVoteWake c) s) ∧
    (c.opcode = 0x80 → voteBad c = false → voteTarget c ≠ 0 → voteAction c ≠ 0 → actOf c s = exec (.powerVoteDoze c) s)
end

