-- ==== Sys2Proof/Laws/Sparse.lean ====
section
/-! SUPPORT. Sparse tables: what a lookup gives after an update, and that an update keeps the canonical form. -/

-- One theorem at a time: side by side they ask for more memory than a check of the package may have.
set_option Elab.async false

namespace Sys2Proof.Machine

variable {α : Type}

theorem sget_sins_self (d : α) (l : Sparse α) (i : Nat) (v : α) : sget d (sins l i v) i = v := by
  fun_induction sins l i v with
  | case4 k x r i v h1 h2 ih => simp only [sget, if_neg (Ne.symm h2), ih]
  | _ => simp_all [sget]

theorem sget_sins_ne (d : α) (l : Sparse α) {i j : Nat} (v : α) (h : i ≠ j) : sget d (sins l i v) j = sget d l j := by
  fun_induction sins l i v <;> simp_all [sget]

theorem sget_filter_self (d : α) (l : Sparse α) (i : Nat) : sget d (l.filter fun e => e.1 != i) i = d := by
  induction l with
  | nil => rfl
  | cons e l ih => by_cases h : e.1 = i <;> simp_all [sget]

theorem sget_filter_ne (d : α) (l : Sparse α) {i j : Nat} (h : i ≠ j) :
    sget d (l.filter fun e => e.1 != i) j = sget d l j := by
  induction l with
  | nil => rfl
  | cons e l ih =>
    by_cases h1 : e.1 = i
    · have : e.1 ≠ j := fun h2 => h (h1 ▸ h2)
      simp_all [sget]
    · simp_all [sget]

/-- A table gives what was last put at a key. -/
@[simp] theorem sget_sput_self [DecidableEq α] (d : α) (l : Sparse α) (i : Nat) (v : α) :
    sget d (sput d l i v) i = v := by
  by_cases h : v = d <;> simp [sput, h, sget_sins_self, sget_filter_self]

/-- A table gives at every other key what it gave before. -/
theorem sget_sput_ne [DecidableEq α] (d : α) (l : Sparse α) {i j : Nat} (v : α) (h : i ≠ j) :
    sget d (sput d l i v) j = sget d l j := by
  by_cases hv : v = d <;> simp [sput, hv, sget_sins_ne d l v h, sget_filter_ne d l h]

theorem mem_sins {l : Sparse α} {i : Nat} {v : α} {e : Nat × α} (h : e ∈ sins l i v) : e = (i, v) ∨ e ∈ l := by
  revert h
  fun_induction sins l i v <;> simp_all <;> tauto

theorem sins_sorted {l : Sparse α} (i : Nat) (v : α) (h : l.Pairwise fun a b => a.1 < b.1) :
    (sins l i v).Pairwise fun a b => a.1 < b.1 := by
  fun_induction sins l i v with
  | case1 => simp
  | case2 k x r i v hi =>
    simp only [List.pairwise_cons] at h ⊢
    refine ⟨fun a ha => ?_, h⟩
    rcases List.mem_cons.1 ha with rfl | ha
    · exact hi
    · exact Nat.lt_trans hi (h.1 a ha)
  | case3 => simpa [List.pairwise_cons] using h
  | case4 k x r i v h1 h2 ih =>
    simp only [List.pairwise_cons] at h ⊢
    refine ⟨fun a ha => ?_, ih h.2⟩
    rcases mem_sins ha with rfl | ha
    · show k < i; omega
    · exact h.1 a ha

/-- An update keeps the canonical form. -/
theorem sput_wf [DecidableEq α] {d : α} {l : Sparse α} (h : Sparse.wf d l) (i : Nat) (v : α) :
    Sparse.wf d (sput d l i v) := by
  by_cases hv : v = d
  · simp only [sput, hv, if_true]
    exact ⟨h.1.filter _, fun e he => h.2 e (List.mem_of_mem_filter he)⟩
  · simp only [sput, hv, if_false]
    refine ⟨sins_sorted i v h.1, fun e he => ?_⟩
    rcases mem_sins he with rfl | he
    · exact hv
    · exact h.2 e he

/-- A table in canonical form whose entries a filter thins is in canonical form. -/
theorem filter_wf {d : α} {l : Sparse α} (h : Sparse.wf d l) (q : Nat × α → Bool) : Sparse.wf d (l.filter q) :=
  ⟨h.1.filter _, fun e he => h.2 e (List.mem_of_mem_filter he)⟩

theorem mem_sput [DecidableEq α] {d : α} {l : Sparse α} {i : Nat} {v : α} {e : Nat × α} (h : e ∈ sput d l i v) :
    e = (i, v) ∨ e ∈ l := by
  unfold sput at h
  split at h
  · exact .inr (List.mem_of_mem_filter h)
  · exact mem_sins h

end Sys2Proof.Machine
end

