-- ==== Sys2Proof/Laws/Memory.lean ====
section
/-! SUPPORT. The memories: every write keeps the canonical form, and a read sees the newest write. -/

-- One theorem at a time: side by side they ask for more memory than a check of the package may have.
set_option Elab.async false

namespace Sys2Proof.Machine

@[simp] theorem get_set_same {α : Type} {n : Nat} (v : Vector α n) (i : Fin n) (x : α) : (v.set i x).get i = x := by
  simp [Vector.get_eq_getElem]

theorem get_set_other {α : Type} {n : Nat} (v : Vector α n) {i j : Fin n} (x : α) (h : i ≠ j) :
    (v.set i x).get j = v.get j := by
  have : i.val ≠ j.val := fun e => h (Fin.ext e)
  simp [Vector.get_eq_getElem, this]

@[simp] theorem vmod_same {α : Type} {n : Nat} (v : Vector α n) (i : Fin n) (g : α → α) : (vmod v i g).get i = g (v.get i) := by
  simp [vmod]

theorem vmod_other {α : Type} {n : Nat} (v : Vector α n) {i j : Fin n} (g : α → α) (h : i ≠ j) :
    (vmod v i g).get j = v.get j := by
  simp [vmod, get_set_other, h]

theorem invalidate_wf {l : Sparse MWord} (n lo hi : Nat) (h : Sparse.wf {} l ∧ ∀ e ∈ l, e.1 < n) :
    let drop := fun (e : Nat × MWord) => if lo ≤ e.1 ∧ e.1 < hi then (e.1, { e.2 with valid := false }) else e
    Sparse.wf {} ((l.map drop).filter fun e => e.2 != {}) ∧ ∀ e ∈ (l.map drop).filter fun e => e.2 != {}, e.1 < n := by
  intro drop
  have key : ∀ e, (drop e).1 = e.1 := by intro e; simp only [drop]; split <;> rfl
  refine ⟨⟨(List.Pairwise.filter _ ?_), ?_⟩, ?_⟩
  · rw [List.pairwise_map]; simpa [key] using h.1.1
  · intro e he; simpa using (List.mem_filter.1 he).2
  · intro e he
    obtain ⟨a, ha, rfl⟩ := List.mem_map.1 (List.mem_of_mem_filter he)
    rw [key]; exact h.2 a ha

/-- One write keeps the canonical form. -/
theorem Mem.apply_wf {m : Mem} (h : m.wf) (w : MemWrite) : (m.apply w).wf := by
  obtain ⟨hd, hh, hf, hb⟩ := h
  cases w with
  | word i w x =>
    simp only [Mem.apply]
    split
    · rename_i hw
      refine ⟨fun j => ?_, hh, hf, hb⟩
      by_cases hj : i = j
      · subst hj
        rw [vmod_same]
        refine ⟨sput_wf (hd i).1 w x, fun e he => ?_⟩
        rcases mem_sput he with rfl | he
        · exact hw
        · exact (hd i).2 e he
      · rw [vmod_other _ _ hj]; exact hd j
    · exact ⟨hd, hh, hf, hb⟩
  | invalidate i lo hi =>
    refine ⟨fun j => ?_, hh, hf, hb⟩
    by_cases hj : i = j
    · subst hj
      simp only [Mem.apply, vmod_same]
      exact invalidate_wf _ lo hi (hd i)
    · simp only [Mem.apply, vmod_other _ _ hj]; exact hd j
  | host a b => exact ⟨hd, sput_wf hh a b, hf, hb⟩
  | program a b =>
    simp only [Mem.apply]
    split
    · rename_i ha
      refine ⟨hd, hh, sput_wf hf _ _, fun e he => ?_⟩
      rcases mem_sput he with rfl | he
      · exact ha
      · exact hb e he
    · exact ⟨hd, hh, hf, hb⟩
  | erase n => exact ⟨hd, hh, filter_wf hf _, fun e he => hb e (List.mem_of_mem_filter he)⟩

/-- Any writes keep the canonical form. -/
theorem Mem.commit_wf {m : Mem} (h : m.wf) (ws : List MemWrite) : (m.commit ws).wf := by
  induction ws with
  | nil => exact h
  | cons w ws ih => exact Mem.apply_wf ih w

/-- A byte of host memory as a command sees it is the byte that stands there once its writes have acted. -/
theorem lookHost_commit (m : Mem) (ws : List MemWrite) (a : Nat) : lookHost m ws a = sget 0 (m.commit ws).host a := by
  induction ws with
  | nil => rfl
  | cons w ws ih =>
    cases w with
    | host b x =>
      show (if b = a then x else lookHost m ws a) = sget 0 (sput 0 (m.commit ws).host b x) a
      by_cases h : b = a
      · subst h; simp
      · simp [h, sget_sput_ne, ih]
    | word i w x =>
      show lookHost m ws a = sget 0 ((m.commit ws).apply (.word i w x)).host a
      rw [ih]; simp only [Mem.apply]; split <;> rfl
    | invalidate i lo hi => exact ih
    | program b x =>
      show lookHost m ws a = sget 0 ((m.commit ws).apply (.program b x)).host a
      rw [ih]; simp only [Mem.apply]; split <;> rfl
    | erase n => exact ih

/-- A command's memory effect, for every command: the memories keep their canonical form and no write is left over. -/
theorem settle_inv {m : Mem} (h : m.wf) (s : Dev) : (s.settle m).mem.wf ∧ (s.settle m).writes = [] :=
  ⟨Mem.commit_wf h s.writes, rfl⟩

/-- What a command does to the queue and the memories, whatever its effect is. -/
theorem run_inv {s t : State} {g : Dev → Dev} (h : s.dev.mem.wf) (e : run s g = .next t) :
    t.pending = s.pending ∧ t.dev.mem.wf ∧ t.dev.writes = [] := by
  cases e
  exact ⟨rfl, settle_inv h _⟩

end Sys2Proof.Machine
end

