-- ==== Sys2Proof/Laws/State.lean ====
section
/-! SUPPORT. One lemma for each field and each update of the device, true by computation, so that no later proof unfolds an
update; and what a register field reads after a write. -/

-- One theorem at a time: side by side they ask for more memory than a check of the package may have.
set_option Elab.async false

namespace Sys2Proof.Machine

section
variable (s : Dev) (f : Fld) (v : Nat)
@[simp] theorem Dev.set_timebase : (s.set f v).timebase = s.timebase := rfl
@[simp] theorem Dev.set_mem : (s.set f v).mem = s.mem := rfl
@[simp] theorem Dev.set_writes : (s.set f v).writes = s.writes := rfl
@[simp] theorem Dev.set_msixPend : (s.set f v).msixPend = s.msixPend := rfl
@[simp] theorem Dev.set_msix : (s.set f v).msix = s.msix := rfl
@[simp] theorem Dev.set_msg : (s.set f v).msg = s.msg := rfl
@[simp] theorem Dev.set_hiLatch : (s.set f v).hiLatch = s.hiLatch := rfl
@[simp] theorem Dev.set_readData : (s.set f v).readData = s.readData := rfl
@[simp] theorem Dev.set_mdio : (s.set f v).mdio = s.mdio := rfl
@[simp] theorem Dev.set_ctx : (s.set f v).ctx = s.ctx := rfl
@[simp] theorem Dev.set_heldCpl : (s.set f v).heldCpl = s.heldCpl := rfl
@[simp] theorem Dev.set_streams : (s.set f v).streams = s.streams := rfl
@[simp] theorem Dev.set_target : (s.set f v).target = s.target := rfl
@[simp] theorem Dev.set_turn : (s.set f v).turn = s.turn := rfl
@[simp] theorem Dev.set_admin : (s.set f v).admin = s.admin := rfl
@[simp] theorem Dev.set_cur : (s.set f v).cur = s.cur := rfl
@[simp] theorem Dev.set_waits : (s.set f v).waits = s.waits := rfl
@[simp] theorem Dev.set_lastCpl : (s.set f v).lastCpl = s.lastCpl := rfl
@[simp] theorem Dev.set_draws : (s.set f v).draws = s.draws := rfl
@[simp] theorem Dev.set_ctr : (s.set f v).ctr = s.ctr := rfl
@[simp] theorem Dev.set_chk : (s.set f v).chk = s.chk := rfl
@[simp] theorem Dev.set_gov : (s.set f v).gov = s.gov := rfl
@[simp] theorem Dev.set_shed : (s.set f v).shed = s.shed := rfl
@[simp] theorem Dev.set_port : (s.set f v).port = s.port := rfl
@[simp] theorem Dev.set_lane : (s.set f v).lane = s.lane := rfl
@[simp] theorem Dev.set_host : (s.set f v).host = s.host := rfl
@[simp] theorem Dev.set_loop : (s.set f v).loop = s.loop := rfl
@[simp] theorem Dev.set_bceCap : (s.set f v).bceCap = s.bceCap := rfl
@[simp] theorem Dev.set_aux : (s.set f v).aux = s.aux := rfl
@[simp] theorem Dev.set_mon : (s.set f v).mon = s.mon := rfl
@[simp] theorem Dev.set_pwr : (s.set f v).pwr = s.pwr := rfl
@[simp] theorem Dev.set_thm : (s.set f v).thm = s.thm := rfl
@[simp] theorem Dev.set_evr : (s.set f v).evr = s.evr := rfl
@[simp] theorem Dev.set_rtc : (s.set f v).rtc = s.rtc := rfl
@[simp] theorem Dev.set_sys : (s.set f v).sys = s.sys := rfl
@[simp] theorem Dev.set_jtag : (s.set f v).jtag = s.jtag := rfl
@[simp] theorem Dev.set_hold : (s.set f v).hold = s.hold := rfl
end

section
variable (s : Dev) (w : MemWrite)
@[simp] theorem Dev.write_timebase : (s.write w).timebase = s.timebase := rfl
@[simp] theorem Dev.write_regs : (s.write w).regs = s.regs := rfl
@[simp] theorem Dev.write_mem : (s.write w).mem = s.mem := rfl
@[simp] theorem Dev.write_msixPend : (s.write w).msixPend = s.msixPend := rfl
@[simp] theorem Dev.write_msix : (s.write w).msix = s.msix := rfl
@[simp] theorem Dev.write_msg : (s.write w).msg = s.msg := rfl
@[simp] theorem Dev.write_hiLatch : (s.write w).hiLatch = s.hiLatch := rfl
@[simp] theorem Dev.write_readData : (s.write w).readData = s.readData := rfl
@[simp] theorem Dev.write_mdio : (s.write w).mdio = s.mdio := rfl
@[simp] theorem Dev.write_ctx : (s.write w).ctx = s.ctx := rfl
@[simp] theorem Dev.write_heldCpl : (s.write w).heldCpl = s.heldCpl := rfl
@[simp] theorem Dev.write_streams : (s.write w).streams = s.streams := rfl
@[simp] theorem Dev.write_target : (s.write w).target = s.target := rfl
@[simp] theorem Dev.write_turn : (s.write w).turn = s.turn := rfl
@[simp] theorem Dev.write_admin : (s.write w).admin = s.admin := rfl
@[simp] theorem Dev.write_cur : (s.write w).cur = s.cur := rfl
@[simp] theorem Dev.write_waits : (s.write w).waits = s.waits := rfl
@[simp] theorem Dev.write_lastCpl : (s.write w).lastCpl = s.lastCpl := rfl
@[simp] theorem Dev.write_draws : (s.write w).draws = s.draws := rfl
@[simp] theorem Dev.write_ctr : (s.write w).ctr = s.ctr := rfl
@[simp] theorem Dev.write_chk : (s.write w).chk = s.chk := rfl
@[simp] theorem Dev.write_gov : (s.write w).gov = s.gov := rfl
@[simp] theorem Dev.write_shed : (s.write w).shed = s.shed := rfl
@[simp] theorem Dev.write_port : (s.write w).port = s.port := rfl
@[simp] theorem Dev.write_lane : (s.write w).lane = s.lane := rfl
@[simp] theorem Dev.write_host : (s.write w).host = s.host := rfl
@[simp] theorem Dev.write_loop : (s.write w).loop = s.loop := rfl
@[simp] theorem Dev.write_bceCap : (s.write w).bceCap = s.bceCap := rfl
@[simp] theorem Dev.write_aux : (s.write w).aux = s.aux := rfl
@[simp] theorem Dev.write_mon : (s.write w).mon = s.mon := rfl
@[simp] theorem Dev.write_pwr : (s.write w).pwr = s.pwr := rfl
@[simp] theorem Dev.write_thm : (s.write w).thm = s.thm := rfl
@[simp] theorem Dev.write_evr : (s.write w).evr = s.evr := rfl
@[simp] theorem Dev.write_rtc : (s.write w).rtc = s.rtc := rfl
@[simp] theorem Dev.write_sys : (s.write w).sys = s.sys := rfl
@[simp] theorem Dev.write_jtag : (s.write w).jtag = s.jtag := rfl
@[simp] theorem Dev.write_hold : (s.write w).hold = s.hold := rfl
@[simp] theorem Dev.write_own : (s.write w).writes = w :: s.writes := rfl
end

section
variable (s : Dev)
@[simp] theorem Dev.draw_timebase : (s.draw).timebase = s.timebase := rfl
@[simp] theorem Dev.draw_regs : (s.draw).regs = s.regs := rfl
@[simp] theorem Dev.draw_mem : (s.draw).mem = s.mem := rfl
@[simp] theorem Dev.draw_writes : (s.draw).writes = s.writes := rfl
@[simp] theorem Dev.draw_msixPend : (s.draw).msixPend = s.msixPend := rfl
@[simp] theorem Dev.draw_msix : (s.draw).msix = s.msix := rfl
@[simp] theorem Dev.draw_msg : (s.draw).msg = s.msg := rfl
@[simp] theorem Dev.draw_hiLatch : (s.draw).hiLatch = s.hiLatch := rfl
@[simp] theorem Dev.draw_readData : (s.draw).readData = s.readData := rfl
@[simp] theorem Dev.draw_mdio : (s.draw).mdio = s.mdio := rfl
@[simp] theorem Dev.draw_ctx : (s.draw).ctx = s.ctx := rfl
@[simp] theorem Dev.draw_heldCpl : (s.draw).heldCpl = s.heldCpl := rfl
@[simp] theorem Dev.draw_streams : (s.draw).streams = s.streams := rfl
@[simp] theorem Dev.draw_target : (s.draw).target = s.target := rfl
@[simp] theorem Dev.draw_turn : (s.draw).turn = s.turn := rfl
@[simp] theorem Dev.draw_admin : (s.draw).admin = s.admin := rfl
@[simp] theorem Dev.draw_cur : (s.draw).cur = s.cur := rfl
@[simp] theorem Dev.draw_waits : (s.draw).waits = s.waits := rfl
@[simp] theorem Dev.draw_lastCpl : (s.draw).lastCpl = s.lastCpl := rfl
@[simp] theorem Dev.draw_ctr : (s.draw).ctr = s.ctr := rfl
@[simp] theorem Dev.draw_chk : (s.draw).chk = s.chk := rfl
@[simp] theorem Dev.draw_gov : (s.draw).gov = s.gov := rfl
@[simp] theorem Dev.draw_shed : (s.draw).shed = s.shed := rfl
@[simp] theorem Dev.draw_port : (s.draw).port = s.port := rfl
@[simp] theorem Dev.draw_lane : (s.draw).lane = s.lane := rfl
@[simp] theorem Dev.draw_host : (s.draw).host = s.host := rfl
@[simp] theorem Dev.draw_loop : (s.draw).loop = s.loop := rfl
@[simp] theorem Dev.draw_bceCap : (s.draw).bceCap = s.bceCap := rfl
@[simp] theorem Dev.draw_aux : (s.draw).aux = s.aux := rfl
@[simp] theorem Dev.draw_mon : (s.draw).mon = s.mon := rfl
@[simp] theorem Dev.draw_pwr : (s.draw).pwr = s.pwr := rfl
@[simp] theorem Dev.draw_thm : (s.draw).thm = s.thm := rfl
@[simp] theorem Dev.draw_evr : (s.draw).evr = s.evr := rfl
@[simp] theorem Dev.draw_rtc : (s.draw).rtc = s.rtc := rfl
@[simp] theorem Dev.draw_sys : (s.draw).sys = s.sys := rfl
@[simp] theorem Dev.draw_jtag : (s.draw).jtag = s.jtag := rfl
@[simp] theorem Dev.draw_hold : (s.draw).hold = s.hold := rfl
@[simp] theorem Dev.draw_own : s.draw.draws = s.draws + 1 := rfl
end

section
variable (s : Dev)
@[simp] theorem Dev.fresh_timebase : (s.fresh).timebase = s.timebase := rfl
@[simp] theorem Dev.fresh_regs : (s.fresh).regs = s.regs := rfl
@[simp] theorem Dev.fresh_mem : (s.fresh).mem = s.mem := rfl
@[simp] theorem Dev.fresh_msixPend : (s.fresh).msixPend = s.msixPend := rfl
@[simp] theorem Dev.fresh_msix : (s.fresh).msix = s.msix := rfl
@[simp] theorem Dev.fresh_msg : (s.fresh).msg = s.msg := rfl
@[simp] theorem Dev.fresh_hiLatch : (s.fresh).hiLatch = s.hiLatch := rfl
@[simp] theorem Dev.fresh_readData : (s.fresh).readData = s.readData := rfl
@[simp] theorem Dev.fresh_mdio : (s.fresh).mdio = s.mdio := rfl
@[simp] theorem Dev.fresh_ctx : (s.fresh).ctx = s.ctx := rfl
@[simp] theorem Dev.fresh_heldCpl : (s.fresh).heldCpl = s.heldCpl := rfl
@[simp] theorem Dev.fresh_streams : (s.fresh).streams = s.streams := rfl
@[simp] theorem Dev.fresh_target : (s.fresh).target = s.target := rfl
@[simp] theorem Dev.fresh_turn : (s.fresh).turn = s.turn := rfl
@[simp] theorem Dev.fresh_admin : (s.fresh).admin = s.admin := rfl
@[simp] theorem Dev.fresh_cur : (s.fresh).cur = s.cur := rfl
@[simp] theorem Dev.fresh_waits : (s.fresh).waits = s.waits := rfl
@[simp] theorem Dev.fresh_lastCpl : (s.fresh).lastCpl = s.lastCpl := rfl
@[simp] theorem Dev.fresh_draws : (s.fresh).draws = s.draws := rfl
@[simp] theorem Dev.fresh_ctr : (s.fresh).ctr = s.ctr := rfl
@[simp] theorem Dev.fresh_chk : (s.fresh).chk = s.chk := rfl
@[simp] theorem Dev.fresh_gov : (s.fresh).gov = s.gov := rfl
@[simp] theorem Dev.fresh_shed : (s.fresh).shed = s.shed := rfl
@[simp] theorem Dev.fresh_port : (s.fresh).port = s.port := rfl
@[simp] theorem Dev.fresh_lane : (s.fresh).lane = s.lane := rfl
@[simp] theorem Dev.fresh_host : (s.fresh).host = s.host := rfl
@[simp] theorem Dev.fresh_loop : (s.fresh).loop = s.loop := rfl
@[simp] theorem Dev.fresh_bceCap : (s.fresh).bceCap = s.bceCap := rfl
@[simp] theorem Dev.fresh_aux : (s.fresh).aux = s.aux := rfl
@[simp] theorem Dev.fresh_mon : (s.fresh).mon = s.mon := rfl
@[simp] theorem Dev.fresh_pwr : (s.fresh).pwr = s.pwr := rfl
@[simp] theorem Dev.fresh_thm : (s.fresh).thm = s.thm := rfl
@[simp] theorem Dev.fresh_evr : (s.fresh).evr = s.evr := rfl
@[simp] theorem Dev.fresh_rtc : (s.fresh).rtc = s.rtc := rfl
@[simp] theorem Dev.fresh_sys : (s.fresh).sys = s.sys := rfl
@[simp] theorem Dev.fresh_jtag : (s.fresh).jtag = s.jtag := rfl
@[simp] theorem Dev.fresh_hold : (s.fresh).hold = s.hold := rfl
@[simp] theorem Dev.fresh_own : s.fresh.writes = [] := rfl
end

section
variable (s : Dev) (c : Option (Nat × Nat))
@[simp] theorem Dev.busyWith_timebase : (s.busyWith c).timebase = s.timebase := rfl
@[simp] theorem Dev.busyWith_regs : (s.busyWith c).regs = s.regs := rfl
@[simp] theorem Dev.busyWith_mem : (s.busyWith c).mem = s.mem := rfl
@[simp] theorem Dev.busyWith_writes : (s.busyWith c).writes = s.writes := rfl
@[simp] theorem Dev.busyWith_msixPend : (s.busyWith c).msixPend = s.msixPend := rfl
@[simp] theorem Dev.busyWith_msix : (s.busyWith c).msix = s.msix := rfl
@[simp] theorem Dev.busyWith_msg : (s.busyWith c).msg = s.msg := rfl
@[simp] theorem Dev.busyWith_hiLatch : (s.busyWith c).hiLatch = s.hiLatch := rfl
@[simp] theorem Dev.busyWith_readData : (s.busyWith c).readData = s.readData := rfl
@[simp] theorem Dev.busyWith_mdio : (s.busyWith c).mdio = s.mdio := rfl
@[simp] theorem Dev.busyWith_ctx : (s.busyWith c).ctx = s.ctx := rfl
@[simp] theorem Dev.busyWith_heldCpl : (s.busyWith c).heldCpl = s.heldCpl := rfl
@[simp] theorem Dev.busyWith_streams : (s.busyWith c).streams = s.streams := rfl
@[simp] theorem Dev.busyWith_target : (s.busyWith c).target = s.target := rfl
@[simp] theorem Dev.busyWith_turn : (s.busyWith c).turn = s.turn := rfl
@[simp] theorem Dev.busyWith_admin : (s.busyWith c).admin = s.admin := rfl
@[simp] theorem Dev.busyWith_waits : (s.busyWith c).waits = s.waits := rfl
@[simp] theorem Dev.busyWith_lastCpl : (s.busyWith c).lastCpl = s.lastCpl := rfl
@[simp] theorem Dev.busyWith_draws : (s.busyWith c).draws = s.draws := rfl
@[simp] theorem Dev.busyWith_ctr : (s.busyWith c).ctr = s.ctr := rfl
@[simp] theorem Dev.busyWith_chk : (s.busyWith c).chk = s.chk := rfl
@[simp] theorem Dev.busyWith_gov : (s.busyWith c).gov = s.gov := rfl
@[simp] theorem Dev.busyWith_shed : (s.busyWith c).shed = s.shed := rfl
@[simp] theorem Dev.busyWith_port : (s.busyWith c).port = s.port := rfl
@[simp] theorem Dev.busyWith_lane : (s.busyWith c).lane = s.lane := rfl
@[simp] theorem Dev.busyWith_host : (s.busyWith c).host = s.host := rfl
@[simp] theorem Dev.busyWith_loop : (s.busyWith c).loop = s.loop := rfl
@[simp] theorem Dev.busyWith_bceCap : (s.busyWith c).bceCap = s.bceCap := rfl
@[simp] theorem Dev.busyWith_aux : (s.busyWith c).aux = s.aux := rfl
@[simp] theorem Dev.busyWith_mon : (s.busyWith c).mon = s.mon := rfl
@[simp] theorem Dev.busyWith_pwr : (s.busyWith c).pwr = s.pwr := rfl
@[simp] theorem Dev.busyWith_thm : (s.busyWith c).thm = s.thm := rfl
@[simp] theorem Dev.busyWith_evr : (s.busyWith c).evr = s.evr := rfl
@[simp] theorem Dev.busyWith_rtc : (s.busyWith c).rtc = s.rtc := rfl
@[simp] theorem Dev.busyWith_sys : (s.busyWith c).sys = s.sys := rfl
@[simp] theorem Dev.busyWith_jtag : (s.busyWith c).jtag = s.jtag := rfl
@[simp] theorem Dev.busyWith_hold : (s.busyWith c).hold = s.hold := rfl
@[simp] theorem Dev.busyWith_own : (s.busyWith c).cur = c := rfl
end

section
variable (s : Dev) (m : Mem)
@[simp] theorem Dev.settle_timebase : (s.settle m).timebase = s.timebase := rfl
@[simp] theorem Dev.settle_regs : (s.settle m).regs = s.regs := rfl
@[simp] theorem Dev.settle_msixPend : (s.settle m).msixPend = s.msixPend := rfl
@[simp] theorem Dev.settle_msix : (s.settle m).msix = s.msix := rfl
@[simp] theorem Dev.settle_msg : (s.settle m).msg = s.msg := rfl
@[simp] theorem Dev.settle_hiLatch : (s.settle m).hiLatch = s.hiLatch := rfl
@[simp] theorem Dev.settle_readData : (s.settle m).readData = s.readData := rfl
@[simp] theorem Dev.settle_mdio : (s.settle m).mdio = s.mdio := rfl
@[simp] theorem Dev.settle_ctx : (s.settle m).ctx = s.ctx := rfl
@[simp] theorem Dev.settle_heldCpl : (s.settle m).heldCpl = s.heldCpl := rfl
@[simp] theorem Dev.settle_streams : (s.settle m).streams = s.streams := rfl
@[simp] theorem Dev.settle_target : (s.settle m).target = s.target := rfl
@[simp] theorem Dev.settle_turn : (s.settle m).turn = s.turn := rfl
@[simp] theorem Dev.settle_admin : (s.settle m).admin = s.admin := rfl
@[simp] theorem Dev.settle_cur : (s.settle m).cur = s.cur := rfl
@[simp] theorem Dev.settle_waits : (s.settle m).waits = s.waits := rfl
@[simp] theorem Dev.settle_lastCpl : (s.settle m).lastCpl = s.lastCpl := rfl
@[simp] theorem Dev.settle_draws : (s.settle m).draws = s.draws := rfl
@[simp] theorem Dev.settle_ctr : (s.settle m).ctr = s.ctr := rfl
@[simp] theorem Dev.settle_chk : (s.settle m).chk = s.chk := rfl
@[simp] theorem Dev.settle_gov : (s.settle m).gov = s.gov := rfl
@[simp] theorem Dev.settle_shed : (s.settle m).shed = s.shed := rfl
@[simp] theorem Dev.settle_port : (s.settle m).port = s.port := rfl
@[simp] theorem Dev.settle_lane : (s.settle m).lane = s.lane := rfl
@[simp] theorem Dev.settle_host : (s.settle m).host = s.host := rfl
@[simp] theorem Dev.settle_loop : (s.settle m).loop = s.loop := rfl
@[simp] theorem Dev.settle_bceCap : (s.settle m).bceCap = s.bceCap := rfl
@[simp] theorem Dev.settle_aux : (s.settle m).aux = s.aux := rfl
@[simp] theorem Dev.settle_mon : (s.settle m).mon = s.mon := rfl
@[simp] theorem Dev.settle_pwr : (s.settle m).pwr = s.pwr := rfl
@[simp] theorem Dev.settle_thm : (s.settle m).thm = s.thm := rfl
@[simp] theorem Dev.settle_evr : (s.settle m).evr = s.evr := rfl
@[simp] theorem Dev.settle_rtc : (s.settle m).rtc = s.rtc := rfl
@[simp] theorem Dev.settle_sys : (s.settle m).sys = s.sys := rfl
@[simp] theorem Dev.settle_jtag : (s.settle m).jtag = s.jtag := rfl
@[simp] theorem Dev.settle_hold : (s.settle m).hold = s.hold := rfl
@[simp] theorem Dev.settle_own : (s.settle m).writes = [] := rfl
@[simp] theorem Dev.settle_mem : (s.settle m).mem = m.commit s.writes := rfl
end

section
variable (s : Dev) (k : WaitKind) (d : Desc)
@[simp] theorem Dev.park_timebase : (s.park k d).timebase = s.timebase := rfl
@[simp] theorem Dev.park_regs : (s.park k d).regs = s.regs := rfl
@[simp] theorem Dev.park_mem : (s.park k d).mem = s.mem := rfl
@[simp] theorem Dev.park_writes : (s.park k d).writes = s.writes := rfl
@[simp] theorem Dev.park_msixPend : (s.park k d).msixPend = s.msixPend := rfl
@[simp] theorem Dev.park_msix : (s.park k d).msix = s.msix := rfl
@[simp] theorem Dev.park_msg : (s.park k d).msg = s.msg := rfl
@[simp] theorem Dev.park_hiLatch : (s.park k d).hiLatch = s.hiLatch := rfl
@[simp] theorem Dev.park_readData : (s.park k d).readData = s.readData := rfl
@[simp] theorem Dev.park_mdio : (s.park k d).mdio = s.mdio := rfl
@[simp] theorem Dev.park_ctx : (s.park k d).ctx = s.ctx := rfl
@[simp] theorem Dev.park_heldCpl : (s.park k d).heldCpl = s.heldCpl := rfl
@[simp] theorem Dev.park_streams : (s.park k d).streams = s.streams := rfl
@[simp] theorem Dev.park_target : (s.park k d).target = s.target := rfl
@[simp] theorem Dev.park_turn : (s.park k d).turn = s.turn := rfl
@[simp] theorem Dev.park_admin : (s.park k d).admin = s.admin := rfl
@[simp] theorem Dev.park_cur : (s.park k d).cur = s.cur := rfl
@[simp] theorem Dev.park_lastCpl : (s.park k d).lastCpl = s.lastCpl := rfl
@[simp] theorem Dev.park_draws : (s.park k d).draws = s.draws := rfl
@[simp] theorem Dev.park_ctr : (s.park k d).ctr = s.ctr := rfl
@[simp] theorem Dev.park_chk : (s.park k d).chk = s.chk := rfl
@[simp] theorem Dev.park_gov : (s.park k d).gov = s.gov := rfl
@[simp] theorem Dev.park_shed : (s.park k d).shed = s.shed := rfl
@[simp] theorem Dev.park_port : (s.park k d).port = s.port := rfl
@[simp] theorem Dev.park_lane : (s.park k d).lane = s.lane := rfl
@[simp] theorem Dev.park_host : (s.park k d).host = s.host := rfl
@[simp] theorem Dev.park_loop : (s.park k d).loop = s.loop := rfl
@[simp] theorem Dev.park_bceCap : (s.park k d).bceCap = s.bceCap := rfl
@[simp] theorem Dev.park_aux : (s.park k d).aux = s.aux := rfl
@[simp] theorem Dev.park_mon : (s.park k d).mon = s.mon := rfl
@[simp] theorem Dev.park_pwr : (s.park k d).pwr = s.pwr := rfl
@[simp] theorem Dev.park_thm : (s.park k d).thm = s.thm := rfl
@[simp] theorem Dev.park_evr : (s.park k d).evr = s.evr := rfl
@[simp] theorem Dev.park_rtc : (s.park k d).rtc = s.rtc := rfl
@[simp] theorem Dev.park_sys : (s.park k d).sys = s.sys := rfl
@[simp] theorem Dev.park_jtag : (s.park k d).jtag = s.jtag := rfl
@[simp] theorem Dev.park_hold : (s.park k d).hold = s.hold := rfl
@[simp] theorem Dev.park_own : (s.park k d).waits = s.waits ++ [(k, d)] := rfl
end

section
variable (s : Dev) (p : Port) (g : PortSt → PortSt)
@[simp] theorem Dev.modPort_timebase : (s.modPort p g).timebase = s.timebase := rfl
@[simp] theorem Dev.modPort_regs : (s.modPort p g).regs = s.regs := rfl
@[simp] theorem Dev.modPort_mem : (s.modPort p g).mem = s.mem := rfl
@[simp] theorem Dev.modPort_writes : (s.modPort p g).writes = s.writes := rfl
@[simp] theorem Dev.modPort_msixPend : (s.modPort p g).msixPend = s.msixPend := rfl
@[simp] theorem Dev.modPort_msix : (s.modPort p g).msix = s.msix := rfl
@[simp] theorem Dev.modPort_msg : (s.modPort p g).msg = s.msg := rfl
@[simp] theorem Dev.modPort_hiLatch : (s.modPort p g).hiLatch = s.hiLatch := rfl
@[simp] theorem Dev.modPort_readData : (s.modPort p g).readData = s.readData := rfl
@[simp] theorem Dev.modPort_mdio : (s.modPort p g).mdio = s.mdio := rfl
@[simp] theorem Dev.modPort_ctx : (s.modPort p g).ctx = s.ctx := rfl
@[simp] theorem Dev.modPort_heldCpl : (s.modPort p g).heldCpl = s.heldCpl := rfl
@[simp] theorem Dev.modPort_streams : (s.modPort p g).streams = s.streams := rfl
@[simp] theorem Dev.modPort_target : (s.modPort p g).target = s.target := rfl
@[simp] theorem Dev.modPort_turn : (s.modPort p g).turn = s.turn := rfl
@[simp] theorem Dev.modPort_admin : (s.modPort p g).admin = s.admin := rfl
@[simp] theorem Dev.modPort_cur : (s.modPort p g).cur = s.cur := rfl
@[simp] theorem Dev.modPort_waits : (s.modPort p g).waits = s.waits := rfl
@[simp] theorem Dev.modPort_lastCpl : (s.modPort p g).lastCpl = s.lastCpl := rfl
@[simp] theorem Dev.modPort_draws : (s.modPort p g).draws = s.draws := rfl
@[simp] theorem Dev.modPort_ctr : (s.modPort p g).ctr = s.ctr := rfl
@[simp] theorem Dev.modPort_chk : (s.modPort p g).chk = s.chk := rfl
@[simp] theorem Dev.modPort_gov : (s.modPort p g).gov = s.gov := rfl
@[simp] theorem Dev.modPort_shed : (s.modPort p g).shed = s.shed := rfl
@[simp] theorem Dev.modPort_lane : (s.modPort p g).lane = s.lane := rfl
@[simp] theorem Dev.modPort_host : (s.modPort p g).host = s.host := rfl
@[simp] theorem Dev.modPort_loop : (s.modPort p g).loop = s.loop := rfl
@[simp] theorem Dev.modPort_bceCap : (s.modPort p g).bceCap = s.bceCap := rfl
@[simp] theorem Dev.modPort_aux : (s.modPort p g).aux = s.aux := rfl
@[simp] theorem Dev.modPort_mon : (s.modPort p g).mon = s.mon := rfl
@[simp] theorem Dev.modPort_pwr : (s.modPort p g).pwr = s.pwr := rfl
@[simp] theorem Dev.modPort_thm : (s.modPort p g).thm = s.thm := rfl
@[simp] theorem Dev.modPort_evr : (s.modPort p g).evr = s.evr := rfl
@[simp] theorem Dev.modPort_rtc : (s.modPort p g).rtc = s.rtc := rfl
@[simp] theorem Dev.modPort_sys : (s.modPort p g).sys = s.sys := rfl
@[simp] theorem Dev.modPort_jtag : (s.modPort p g).jtag = s.jtag := rfl
@[simp] theorem Dev.modPort_hold : (s.modPort p g).hold = s.hold := rfl
@[simp] theorem Dev.modPort_own : (s.modPort p g).prt p = g (s.prt p) := vmod_same _ _ _
end

section
variable (s : Dev) (l : Lane) (g : HLane → HLane)
@[simp] theorem Dev.modLane_timebase : (s.modLane l g).timebase = s.timebase := rfl
@[simp] theorem Dev.modLane_regs : (s.modLane l g).regs = s.regs := rfl
@[simp] theorem Dev.modLane_mem : (s.modLane l g).mem = s.mem := rfl
@[simp] theorem Dev.modLane_writes : (s.modLane l g).writes = s.writes := rfl
@[simp] theorem Dev.modLane_msixPend : (s.modLane l g).msixPend = s.msixPend := rfl
@[simp] theorem Dev.modLane_msix : (s.modLane l g).msix = s.msix := rfl
@[simp] theorem Dev.modLane_msg : (s.modLane l g).msg = s.msg := rfl
@[simp] theorem Dev.modLane_hiLatch : (s.modLane l g).hiLatch = s.hiLatch := rfl
@[simp] theorem Dev.modLane_readData : (s.modLane l g).readData = s.readData := rfl
@[simp] theorem Dev.modLane_mdio : (s.modLane l g).mdio = s.mdio := rfl
@[simp] theorem Dev.modLane_ctx : (s.modLane l g).ctx = s.ctx := rfl
@[simp] theorem Dev.modLane_heldCpl : (s.modLane l g).heldCpl = s.heldCpl := rfl
@[simp] theorem Dev.modLane_streams : (s.modLane l g).streams = s.streams := rfl
@[simp] theorem Dev.modLane_target : (s.modLane l g).target = s.target := rfl
@[simp] theorem Dev.modLane_turn : (s.modLane l g).turn = s.turn := rfl
@[simp] theorem Dev.modLane_admin : (s.modLane l g).admin = s.admin := rfl
@[simp] theorem Dev.modLane_cur : (s.modLane l g).cur = s.cur := rfl
@[simp] theorem Dev.modLane_waits : (s.modLane l g).waits = s.waits := rfl
@[simp] theorem Dev.modLane_lastCpl : (s.modLane l g).lastCpl = s.lastCpl := rfl
@[simp] theorem Dev.modLane_draws : (s.modLane l g).draws = s.draws := rfl
@[simp] theorem Dev.modLane_ctr : (s.modLane l g).ctr = s.ctr := rfl
@[simp] theorem Dev.modLane_chk : (s.modLane l g).chk = s.chk := rfl
@[simp] theorem Dev.modLane_gov : (s.modLane l g).gov = s.gov := rfl
@[simp] theorem Dev.modLane_shed : (s.modLane l g).shed = s.shed := rfl
@[simp] theorem Dev.modLane_port : (s.modLane l g).port = s.port := rfl
@[simp] theorem Dev.modLane_host : (s.modLane l g).host = s.host := rfl
@[simp] theorem Dev.modLane_loop : (s.modLane l g).loop = s.loop := rfl
@[simp] theorem Dev.modLane_bceCap : (s.modLane l g).bceCap = s.bceCap := rfl
@[simp] theorem Dev.modLane_aux : (s.modLane l g).aux = s.aux := rfl
@[simp] theorem Dev.modLane_mon : (s.modLane l g).mon = s.mon := rfl
@[simp] theorem Dev.modLane_pwr : (s.modLane l g).pwr = s.pwr := rfl
@[simp] theorem Dev.modLane_thm : (s.modLane l g).thm = s.thm := rfl
@[simp] theorem Dev.modLane_evr : (s.modLane l g).evr = s.evr := rfl
@[simp] theorem Dev.modLane_rtc : (s.modLane l g).rtc = s.rtc := rfl
@[simp] theorem Dev.modLane_sys : (s.modLane l g).sys = s.sys := rfl
@[simp] theorem Dev.modLane_jtag : (s.modLane l g).jtag = s.jtag := rfl
@[simp] theorem Dev.modLane_hold : (s.modLane l g).hold = s.hold := rfl
@[simp] theorem Dev.modLane_own : (s.modLane l g).lane.get l = g (s.lane.get l) := vmod_same _ _ _
end

section
variable (s : Dev) (l : LoopNo) (g : Loop → Loop)
@[simp] theorem Dev.modLoop_timebase : (s.modLoop l g).timebase = s.timebase := rfl
@[simp] theorem Dev.modLoop_regs : (s.modLoop l g).regs = s.regs := rfl
@[simp] theorem Dev.modLoop_mem : (s.modLoop l g).mem = s.mem := rfl
@[simp] theorem Dev.modLoop_writes : (s.modLoop l g).writes = s.writes := rfl
@[simp] theorem Dev.modLoop_msixPend : (s.modLoop l g).msixPend = s.msixPend := rfl
@[simp] theorem Dev.modLoop_msix : (s.modLoop l g).msix = s.msix := rfl
@[simp] theorem Dev.modLoop_msg : (s.modLoop l g).msg = s.msg := rfl
@[simp] theorem Dev.modLoop_hiLatch : (s.modLoop l g).hiLatch = s.hiLatch := rfl
@[simp] theorem Dev.modLoop_readData : (s.modLoop l g).readData = s.readData := rfl
@[simp] theorem Dev.modLoop_mdio : (s.modLoop l g).mdio = s.mdio := rfl
@[simp] theorem Dev.modLoop_ctx : (s.modLoop l g).ctx = s.ctx := rfl
@[simp] theorem Dev.modLoop_heldCpl : (s.modLoop l g).heldCpl = s.heldCpl := rfl
@[simp] theorem Dev.modLoop_streams : (s.modLoop l g).streams = s.streams := rfl
@[simp] theorem Dev.modLoop_target : (s.modLoop l g).target = s.target := rfl
@[simp] theorem Dev.modLoop_turn : (s.modLoop l g).turn = s.turn := rfl
@[simp] theorem Dev.modLoop_admin : (s.modLoop l g).admin = s.admin := rfl
@[simp] theorem Dev.modLoop_cur : (s.modLoop l g).cur = s.cur := rfl
@[simp] theorem Dev.modLoop_waits : (s.modLoop l g).waits = s.waits := rfl
@[simp] theorem Dev.modLoop_lastCpl : (s.modLoop l g).lastCpl = s.lastCpl := rfl
@[simp] theorem Dev.modLoop_draws : (s.modLoop l g).draws = s.draws := rfl
@[simp] theorem Dev.modLoop_ctr : (s.modLoop l g).ctr = s.ctr := rfl
@[simp] theorem Dev.modLoop_chk : (s.modLoop l g).chk = s.chk := rfl
@[simp] theorem Dev.modLoop_gov : (s.modLoop l g).gov = s.gov := rfl
@[simp] theorem Dev.modLoop_shed : (s.modLoop l g).shed = s.shed := rfl
@[simp] theorem Dev.modLoop_port : (s.modLoop l g).port = s.port := rfl
@[simp] theorem Dev.modLoop_lane : (s.modLoop l g).lane = s.lane := rfl
@[simp] theorem Dev.modLoop_host : (s.modLoop l g).host = s.host := rfl
@[simp] theorem Dev.modLoop_bceCap : (s.modLoop l g).bceCap = s.bceCap := rfl
@[simp] theorem Dev.modLoop_aux : (s.modLoop l g).aux = s.aux := rfl
@[simp] theorem Dev.modLoop_mon : (s.modLoop l g).mon = s.mon := rfl
@[simp] theorem Dev.modLoop_pwr : (s.modLoop l g).pwr = s.pwr := rfl
@[simp] theorem Dev.modLoop_thm : (s.modLoop l g).thm = s.thm := rfl
@[simp] theorem Dev.modLoop_evr : (s.modLoop l g).evr = s.evr := rfl
@[simp] theorem Dev.modLoop_rtc : (s.modLoop l g).rtc = s.rtc := rfl
@[simp] theorem Dev.modLoop_sys : (s.modLoop l g).sys = s.sys := rfl
@[simp] theorem Dev.modLoop_jtag : (s.modLoop l g).jtag = s.jtag := rfl
@[simp] theorem Dev.modLoop_hold : (s.modLoop l g).hold = s.hold := rfl
@[simp] theorem Dev.modLoop_own : (s.modLoop l g).loop.get l = g (s.loop.get l) := vmod_same _ _ _
end

section
variable (s : Dev) (c : AuxCh) (g : Aux → Aux)
@[simp] theorem Dev.modAux_timebase : (s.modAux c g).timebase = s.timebase := rfl
@[simp] theorem Dev.modAux_regs : (s.modAux c g).regs = s.regs := rfl
@[simp] theorem Dev.modAux_mem : (s.modAux c g).mem = s.mem := rfl
@[simp] theorem Dev.modAux_writes : (s.modAux c g).writes = s.writes := rfl
@[simp] theorem Dev.modAux_msixPend : (s.modAux c g).msixPend = s.msixPend := rfl
@[simp] theorem Dev.modAux_msix : (s.modAux c g).msix = s.msix := rfl
@[simp] theorem Dev.modAux_msg : (s.modAux c g).msg = s.msg := rfl
@[simp] theorem Dev.modAux_hiLatch : (s.modAux c g).hiLatch = s.hiLatch := rfl
@[simp] theorem Dev.modAux_readData : (s.modAux c g).readData = s.readData := rfl
@[simp] theorem Dev.modAux_mdio : (s.modAux c g).mdio = s.mdio := rfl
@[simp] theorem Dev.modAux_ctx : (s.modAux c g).ctx = s.ctx := rfl
@[simp] theorem Dev.modAux_heldCpl : (s.modAux c g).heldCpl = s.heldCpl := rfl
@[simp] theorem Dev.modAux_streams : (s.modAux c g).streams = s.streams := rfl
@[simp] theorem Dev.modAux_target : (s.modAux c g).target = s.target := rfl
@[simp] theorem Dev.modAux_turn : (s.modAux c g).turn = s.turn := rfl
@[simp] theorem Dev.modAux_admin : (s.modAux c g).admin = s.admin := rfl
@[simp] theorem Dev.modAux_cur : (s.modAux c g).cur = s.cur := rfl
@[simp] theorem Dev.modAux_waits : (s.modAux c g).waits = s.waits := rfl
@[simp] theorem Dev.modAux_lastCpl : (s.modAux c g).lastCpl = s.lastCpl := rfl
@[simp] theorem Dev.modAux_draws : (s.modAux c g).draws = s.draws := rfl
@[simp] theorem Dev.modAux_ctr : (s.modAux c g).ctr = s.ctr := rfl
@[simp] theorem Dev.modAux_chk : (s.modAux c g).chk = s.chk := rfl
@[simp] theorem Dev.modAux_gov : (s.modAux c g).gov = s.gov := rfl
@[simp] theorem Dev.modAux_shed : (s.modAux c g).shed = s.shed := rfl
@[simp] theorem Dev.modAux_port : (s.modAux c g).port = s.port := rfl
@[simp] theorem Dev.modAux_lane : (s.modAux c g).lane = s.lane := rfl
@[simp] theorem Dev.modAux_host : (s.modAux c g).host = s.host := rfl
@[simp] theorem Dev.modAux_loop : (s.modAux c g).loop = s.loop := rfl
@[simp] theorem Dev.modAux_bceCap : (s.modAux c g).bceCap = s.bceCap := rfl
@[simp] theorem Dev.modAux_mon : (s.modAux c g).mon = s.mon := rfl
@[simp] theorem Dev.modAux_pwr : (s.modAux c g).pwr = s.pwr := rfl
@[simp] theorem Dev.modAux_thm : (s.modAux c g).thm = s.thm := rfl
@[simp] theorem Dev.modAux_evr : (s.modAux c g).evr = s.evr := rfl
@[simp] theorem Dev.modAux_rtc : (s.modAux c g).rtc = s.rtc := rfl
@[simp] theorem Dev.modAux_sys : (s.modAux c g).sys = s.sys := rfl
@[simp] theorem Dev.modAux_jtag : (s.modAux c g).jtag = s.jtag := rfl
@[simp] theorem Dev.modAux_hold : (s.modAux c g).hold = s.hold := rfl
@[simp] theorem Dev.modAux_own : (s.modAux c g).aux.get c = g (s.aux.get c) := vmod_same _ _ _
end

section
variable (s : Dev) (g : Mon → Mon)
@[simp] theorem Dev.modMon_timebase : (s.modMon g).timebase = s.timebase := rfl
@[simp] theorem Dev.modMon_regs : (s.modMon g).regs = s.regs := rfl
@[simp] theorem Dev.modMon_mem : (s.modMon g).mem = s.mem := rfl
@[simp] theorem Dev.modMon_writes : (s.modMon g).writes = s.writes := rfl
@[simp] theorem Dev.modMon_msixPend : (s.modMon g).msixPend = s.msixPend := rfl
@[simp] theorem Dev.modMon_msix : (s.modMon g).msix = s.msix := rfl
@[simp] theorem Dev.modMon_msg : (s.modMon g).msg = s.msg := rfl
@[simp] theorem Dev.modMon_hiLatch : (s.modMon g).hiLatch = s.hiLatch := rfl
@[simp] theorem Dev.modMon_readData : (s.modMon g).readData = s.readData := rfl
@[simp] theorem Dev.modMon_mdio : (s.modMon g).mdio = s.mdio := rfl
@[simp] theorem Dev.modMon_ctx : (s.modMon g).ctx = s.ctx := rfl
@[simp] theorem Dev.modMon_heldCpl : (s.modMon g).heldCpl = s.heldCpl := rfl
@[simp] theorem Dev.modMon_streams : (s.modMon g).streams = s.streams := rfl
@[simp] theorem Dev.modMon_target : (s.modMon g).target = s.target := rfl
@[simp] theorem Dev.modMon_turn : (s.modMon g).turn = s.turn := rfl
@[simp] theorem Dev.modMon_admin : (s.modMon g).admin = s.admin := rfl
@[simp] theorem Dev.modMon_cur : (s.modMon g).cur = s.cur := rfl
@[simp] theorem Dev.modMon_waits : (s.modMon g).waits = s.waits := rfl
@[simp] theorem Dev.modMon_lastCpl : (s.modMon g).lastCpl = s.lastCpl := rfl
@[simp] theorem Dev.modMon_draws : (s.modMon g).draws = s.draws := rfl
@[simp] theorem Dev.modMon_ctr : (s.modMon g).ctr = s.ctr := rfl
@[simp] theorem Dev.modMon_chk : (s.modMon g).chk = s.chk := rfl
@[simp] theorem Dev.modMon_gov : (s.modMon g).gov = s.gov := rfl
@[simp] theorem Dev.modMon_shed : (s.modMon g).shed = s.shed := rfl
@[simp] theorem Dev.modMon_port : (s.modMon g).port = s.port := rfl
@[simp] theorem Dev.modMon_lane : (s.modMon g).lane = s.lane := rfl
@[simp] theorem Dev.modMon_host : (s.modMon g).host = s.host := rfl
@[simp] theorem Dev.modMon_loop : (s.modMon g).loop = s.loop := rfl
@[simp] theorem Dev.modMon_bceCap : (s.modMon g).bceCap = s.bceCap := rfl
@[simp] theorem Dev.modMon_aux : (s.modMon g).aux = s.aux := rfl
@[simp] theorem Dev.modMon_pwr : (s.modMon g).pwr = s.pwr := rfl
@[simp] theorem Dev.modMon_thm : (s.modMon g).thm = s.thm := rfl
@[simp] theorem Dev.modMon_evr : (s.modMon g).evr = s.evr := rfl
@[simp] theorem Dev.modMon_rtc : (s.modMon g).rtc = s.rtc := rfl
@[simp] theorem Dev.modMon_sys : (s.modMon g).sys = s.sys := rfl
@[simp] theorem Dev.modMon_jtag : (s.modMon g).jtag = s.jtag := rfl
@[simp] theorem Dev.modMon_hold : (s.modMon g).hold = s.hold := rfl
@[simp] theorem Dev.modMon_own : (s.modMon g).mon = g s.mon := rfl
end

section
variable (s : Dev) (g : Pwr → Pwr)
@[simp] theorem Dev.modPwr_timebase : (s.modPwr g).timebase = s.timebase := rfl
@[simp] theorem Dev.modPwr_regs : (s.modPwr g).regs = s.regs := rfl
@[simp] theorem Dev.modPwr_mem : (s.modPwr g).mem = s.mem := rfl
@[simp] theorem Dev.modPwr_writes : (s.modPwr g).writes = s.writes := rfl
@[simp] theorem Dev.modPwr_msixPend : (s.modPwr g).msixPend = s.msixPend := rfl
@[simp] theorem Dev.modPwr_msix : (s.modPwr g).msix = s.msix := rfl
@[simp] theorem Dev.modPwr_msg : (s.modPwr g).msg = s.msg := rfl
@[simp] theorem Dev.modPwr_hiLatch : (s.modPwr g).hiLatch = s.hiLatch := rfl
@[simp] theorem Dev.modPwr_readData : (s.modPwr g).readData = s.readData := rfl
@[simp] theorem Dev.modPwr_mdio : (s.modPwr g).mdio = s.mdio := rfl
@[simp] theorem Dev.modPwr_ctx : (s.modPwr g).ctx = s.ctx := rfl
@[simp] theorem Dev.modPwr_heldCpl : (s.modPwr g).heldCpl = s.heldCpl := rfl
@[simp] theorem Dev.modPwr_streams : (s.modPwr g).streams = s.streams := rfl
@[simp] theorem Dev.modPwr_target : (s.modPwr g).target = s.target := rfl
@[simp] theorem Dev.modPwr_turn : (s.modPwr g).turn = s.turn := rfl
@[simp] theorem Dev.modPwr_admin : (s.modPwr g).admin = s.admin := rfl
@[simp] theorem Dev.modPwr_cur : (s.modPwr g).cur = s.cur := rfl
@[simp] theorem Dev.modPwr_waits : (s.modPwr g).waits = s.waits := rfl
@[simp] theorem Dev.modPwr_lastCpl : (s.modPwr g).lastCpl = s.lastCpl := rfl
@[simp] theorem Dev.modPwr_draws : (s.modPwr g).draws = s.draws := rfl
@[simp] theorem Dev.modPwr_ctr : (s.modPwr g).ctr = s.ctr := rfl
@[simp] theorem Dev.modPwr_chk : (s.modPwr g).chk = s.chk := rfl
@[simp] theorem Dev.modPwr_gov : (s.modPwr g).gov = s.gov := rfl
@[simp] theorem Dev.modPwr_shed : (s.modPwr g).shed = s.shed := rfl
@[simp] theorem Dev.modPwr_port : (s.modPwr g).port = s.port := rfl
@[simp] theorem Dev.modPwr_lane : (s.modPwr g).lane = s.lane := rfl
@[simp] theorem Dev.modPwr_host : (s.modPwr g).host = s.host := rfl
@[simp] theorem Dev.modPwr_loop : (s.modPwr g).loop = s.loop := rfl
@[simp] theorem Dev.modPwr_bceCap : (s.modPwr g).bceCap = s.bceCap := rfl
@[simp] theorem Dev.modPwr_aux : (s.modPwr g).aux = s.aux := rfl
@[simp] theorem Dev.modPwr_mon : (s.modPwr g).mon = s.mon := rfl
@[simp] theorem Dev.modPwr_thm : (s.modPwr g).thm = s.thm := rfl
@[simp] theorem Dev.modPwr_evr : (s.modPwr g).evr = s.evr := rfl
@[simp] theorem Dev.modPwr_rtc : (s.modPwr g).rtc = s.rtc := rfl
@[simp] theorem Dev.modPwr_sys : (s.modPwr g).sys = s.sys := rfl
@[simp] theorem Dev.modPwr_jtag : (s.modPwr g).jtag = s.jtag := rfl
@[simp] theorem Dev.modPwr_hold : (s.modPwr g).hold = s.hold := rfl
@[simp] theorem Dev.modPwr_own : (s.modPwr g).pwr = g s.pwr := rfl
end

section
variable (s : Dev) (g : Thm → Thm)
@[simp] theorem Dev.modThm_timebase : (s.modThm g).timebase = s.timebase := rfl
@[simp] theorem Dev.modThm_regs : (s.modThm g).regs = s.regs := rfl
@[simp] theorem Dev.modThm_mem : (s.modThm g).mem = s.mem := rfl
@[simp] theorem Dev.modThm_writes : (s.modThm g).writes = s.writes := rfl
@[simp] theorem Dev.modThm_msixPend : (s.modThm g).msixPend = s.msixPend := rfl
@[simp] theorem Dev.modThm_msix : (s.modThm g).msix = s.msix := rfl
@[simp] theorem Dev.modThm_msg : (s.modThm g).msg = s.msg := rfl
@[simp] theorem Dev.modThm_hiLatch : (s.modThm g).hiLatch = s.hiLatch := rfl
@[simp] theorem Dev.modThm_readData : (s.modThm g).readData = s.readData := rfl
@[simp] theorem Dev.modThm_mdio : (s.modThm g).mdio = s.mdio := rfl
@[simp] theorem Dev.modThm_ctx : (s.modThm g).ctx = s.ctx := rfl
@[simp] theorem Dev.modThm_heldCpl : (s.modThm g).heldCpl = s.heldCpl := rfl
@[simp] theorem Dev.modThm_streams : (s.modThm g).streams = s.streams := rfl
@[simp] theorem Dev.modThm_target : (s.modThm g).target = s.target := rfl
@[simp] theorem Dev.modThm_turn : (s.modThm g).turn = s.turn := rfl
@[simp] theorem Dev.modThm_admin : (s.modThm g).admin = s.admin := rfl
@[simp] theorem Dev.modThm_cur : (s.modThm g).cur = s.cur := rfl
@[simp] theorem Dev.modThm_waits : (s.modThm g).waits = s.waits := rfl
@[simp] theorem Dev.modThm_lastCpl : (s.modThm g).lastCpl = s.lastCpl := rfl
@[simp] theorem Dev.modThm_draws : (s.modThm g).draws = s.draws := rfl
@[simp] theorem Dev.modThm_ctr : (s.modThm g).ctr = s.ctr := rfl
@[simp] theorem Dev.modThm_chk : (s.modThm g).chk = s.chk := rfl
@[simp] theorem Dev.modThm_gov : (s.modThm g).gov = s.gov := rfl
@[simp] theorem Dev.modThm_shed : (s.modThm g).shed = s.shed := rfl
@[simp] theorem Dev.modThm_port : (s.modThm g).port = s.port := rfl
@[simp] theorem Dev.modThm_lane : (s.modThm g).lane = s.lane := rfl
@[simp] theorem Dev.modThm_host : (s.modThm g).host = s.host := rfl
@[simp] theorem Dev.modThm_loop : (s.modThm g).loop = s.loop := rfl
@[simp] theorem Dev.modThm_bceCap : (s.modThm g).bceCap = s.bceCap := rfl
@[simp] theorem Dev.modThm_aux : (s.modThm g).aux = s.aux := rfl
@[simp] theorem Dev.modThm_mon : (s.modThm g).mon = s.mon := rfl
@[simp] theorem Dev.modThm_pwr : (s.modThm g).pwr = s.pwr := rfl
@[simp] theorem Dev.modThm_evr : (s.modThm g).evr = s.evr := rfl
@[simp] theorem Dev.modThm_rtc : (s.modThm g).rtc = s.rtc := rfl
@[simp] theorem Dev.modThm_sys : (s.modThm g).sys = s.sys := rfl
@[simp] theorem Dev.modThm_jtag : (s.modThm g).jtag = s.jtag := rfl
@[simp] theorem Dev.modThm_hold : (s.modThm g).hold = s.hold := rfl
@[simp] theorem Dev.modThm_own : (s.modThm g).thm = g s.thm := rfl
end

section
variable (s : Dev) (g : Evr → Evr)
@[simp] theorem Dev.modEvr_timebase : (s.modEvr g).timebase = s.timebase := rfl
@[simp] theorem Dev.modEvr_regs : (s.modEvr g).regs = s.regs := rfl
@[simp] theorem Dev.modEvr_mem : (s.modEvr g).mem = s.mem := rfl
@[simp] theorem Dev.modEvr_writes : (s.modEvr g).writes = s.writes := rfl
@[simp] theorem Dev.modEvr_msixPend : (s.modEvr g).msixPend = s.msixPend := rfl
@[simp] theorem Dev.modEvr_msix : (s.modEvr g).msix = s.msix := rfl
@[simp] theorem Dev.modEvr_msg : (s.modEvr g).msg = s.msg := rfl
@[simp] theorem Dev.modEvr_hiLatch : (s.modEvr g).hiLatch = s.hiLatch := rfl
@[simp] theorem Dev.modEvr_readData : (s.modEvr g).readData = s.readData := rfl
@[simp] theorem Dev.modEvr_mdio : (s.modEvr g).mdio = s.mdio := rfl
@[simp] theorem Dev.modEvr_ctx : (s.modEvr g).ctx = s.ctx := rfl
@[simp] theorem Dev.modEvr_heldCpl : (s.modEvr g).heldCpl = s.heldCpl := rfl
@[simp] theorem Dev.modEvr_streams : (s.modEvr g).streams = s.streams := rfl
@[simp] theorem Dev.modEvr_target : (s.modEvr g).target = s.target := rfl
@[simp] theorem Dev.modEvr_turn : (s.modEvr g).turn = s.turn := rfl
@[simp] theorem Dev.modEvr_admin : (s.modEvr g).admin = s.admin := rfl
@[simp] theorem Dev.modEvr_cur : (s.modEvr g).cur = s.cur := rfl
@[simp] theorem Dev.modEvr_waits : (s.modEvr g).waits = s.waits := rfl
@[simp] theorem Dev.modEvr_lastCpl : (s.modEvr g).lastCpl = s.lastCpl := rfl
@[simp] theorem Dev.modEvr_draws : (s.modEvr g).draws = s.draws := rfl
@[simp] theorem Dev.modEvr_ctr : (s.modEvr g).ctr = s.ctr := rfl
@[simp] theorem Dev.modEvr_chk : (s.modEvr g).chk = s.chk := rfl
@[simp] theorem Dev.modEvr_gov : (s.modEvr g).gov = s.gov := rfl
@[simp] theorem Dev.modEvr_shed : (s.modEvr g).shed = s.shed := rfl
@[simp] theorem Dev.modEvr_port : (s.modEvr g).port = s.port := rfl
@[simp] theorem Dev.modEvr_lane : (s.modEvr g).lane = s.lane := rfl
@[simp] theorem Dev.modEvr_host : (s.modEvr g).host = s.host := rfl
@[simp] theorem Dev.modEvr_loop : (s.modEvr g).loop = s.loop := rfl
@[simp] theorem Dev.modEvr_bceCap : (s.modEvr g).bceCap = s.bceCap := rfl
@[simp] theorem Dev.modEvr_aux : (s.modEvr g).aux = s.aux := rfl
@[simp] theorem Dev.modEvr_mon : (s.modEvr g).mon = s.mon := rfl
@[simp] theorem Dev.modEvr_pwr : (s.modEvr g).pwr = s.pwr := rfl
@[simp] theorem Dev.modEvr_thm : (s.modEvr g).thm = s.thm := rfl
@[simp] theorem Dev.modEvr_rtc : (s.modEvr g).rtc = s.rtc := rfl
@[simp] theorem Dev.modEvr_sys : (s.modEvr g).sys = s.sys := rfl
@[simp] theorem Dev.modEvr_jtag : (s.modEvr g).jtag = s.jtag := rfl
@[simp] theorem Dev.modEvr_hold : (s.modEvr g).hold = s.hold := rfl
@[simp] theorem Dev.modEvr_own : (s.modEvr g).evr = g s.evr := rfl
end

section
variable (s : Dev) (g : Sys → Sys)
@[simp] theorem Dev.modSys_timebase : (s.modSys g).timebase = s.timebase := rfl
@[simp] theorem Dev.modSys_regs : (s.modSys g).regs = s.regs := rfl
@[simp] theorem Dev.modSys_mem : (s.modSys g).mem = s.mem := rfl
@[simp] theorem Dev.modSys_writes : (s.modSys g).writes = s.writes := rfl
@[simp] theorem Dev.modSys_msixPend : (s.modSys g).msixPend = s.msixPend := rfl
@[simp] theorem Dev.modSys_msix : (s.modSys g).msix = s.msix := rfl
@[simp] theorem Dev.modSys_msg : (s.modSys g).msg = s.msg := rfl
@[simp] theorem Dev.modSys_hiLatch : (s.modSys g).hiLatch = s.hiLatch := rfl
@[simp] theorem Dev.modSys_readData : (s.modSys g).readData = s.readData := rfl
@[simp] theorem Dev.modSys_mdio : (s.modSys g).mdio = s.mdio := rfl
@[simp] theorem Dev.modSys_ctx : (s.modSys g).ctx = s.ctx := rfl
@[simp] theorem Dev.modSys_heldCpl : (s.modSys g).heldCpl = s.heldCpl := rfl
@[simp] theorem Dev.modSys_streams : (s.modSys g).streams = s.streams := rfl
@[simp] theorem Dev.modSys_target : (s.modSys g).target = s.target := rfl
@[simp] theorem Dev.modSys_turn : (s.modSys g).turn = s.turn := rfl
@[simp] theorem Dev.modSys_admin : (s.modSys g).admin = s.admin := rfl
@[simp] theorem Dev.modSys_cur : (s.modSys g).cur = s.cur := rfl
@[simp] theorem Dev.modSys_waits : (s.modSys g).waits = s.waits := rfl
@[simp] theorem Dev.modSys_lastCpl : (s.modSys g).lastCpl = s.lastCpl := rfl
@[simp] theorem Dev.modSys_draws : (s.modSys g).draws = s.draws := rfl
@[simp] theorem Dev.modSys_ctr : (s.modSys g).ctr = s.ctr := rfl
@[simp] theorem Dev.modSys_chk : (s.modSys g).chk = s.chk := rfl
@[simp] theorem Dev.modSys_gov : (s.modSys g).gov = s.gov := rfl
@[simp] theorem Dev.modSys_shed : (s.modSys g).shed = s.shed := rfl
@[simp] theorem Dev.modSys_port : (s.modSys g).port = s.port := rfl
@[simp] theorem Dev.modSys_lane : (s.modSys g).lane = s.lane := rfl
@[simp] theorem Dev.modSys_host : (s.modSys g).host = s.host := rfl
@[simp] theorem Dev.modSys_loop : (s.modSys g).loop = s.loop := rfl
@[simp] theorem Dev.modSys_bceCap : (s.modSys g).bceCap = s.bceCap := rfl
@[simp] theorem Dev.modSys_aux : (s.modSys g).aux = s.aux := rfl
@[simp] theorem Dev.modSys_mon : (s.modSys g).mon = s.mon := rfl
@[simp] theorem Dev.modSys_pwr : (s.modSys g).pwr = s.pwr := rfl
@[simp] theorem Dev.modSys_thm : (s.modSys g).thm = s.thm := rfl
@[simp] theorem Dev.modSys_evr : (s.modSys g).evr = s.evr := rfl
@[simp] theorem Dev.modSys_rtc : (s.modSys g).rtc = s.rtc := rfl
@[simp] theorem Dev.modSys_jtag : (s.modSys g).jtag = s.jtag := rfl
@[simp] theorem Dev.modSys_hold : (s.modSys g).hold = s.hold := rfl
@[simp] theorem Dev.modSys_own : (s.modSys g).sys = g s.sys := rfl
end

section
variable (s : Dev) (g : Gov → Gov)
@[simp] theorem Dev.modGov_timebase : (s.modGov g).timebase = s.timebase := rfl
@[simp] theorem Dev.modGov_regs : (s.modGov g).regs = s.regs := rfl
@[simp] theorem Dev.modGov_mem : (s.modGov g).mem = s.mem := rfl
@[simp] theorem Dev.modGov_writes : (s.modGov g).writes = s.writes := rfl
@[simp] theorem Dev.modGov_msixPend : (s.modGov g).msixPend = s.msixPend := rfl
@[simp] theorem Dev.modGov_msix : (s.modGov g).msix = s.msix := rfl
@[simp] theorem Dev.modGov_msg : (s.modGov g).msg = s.msg := rfl
@[simp] theorem Dev.modGov_hiLatch : (s.modGov g).hiLatch = s.hiLatch := rfl
@[simp] theorem Dev.modGov_readData : (s.modGov g).readData = s.readData := rfl
@[simp] theorem Dev.modGov_mdio : (s.modGov g).mdio = s.mdio := rfl
@[simp] theorem Dev.modGov_ctx : (s.modGov g).ctx = s.ctx := rfl
@[simp] theorem Dev.modGov_heldCpl : (s.modGov g).heldCpl = s.heldCpl := rfl
@[simp] theorem Dev.modGov_streams : (s.modGov g).streams = s.streams := rfl
@[simp] theorem Dev.modGov_target : (s.modGov g).target = s.target := rfl
@[simp] theorem Dev.modGov_turn : (s.modGov g).turn = s.turn := rfl
@[simp] theorem Dev.modGov_admin : (s.modGov g).admin = s.admin := rfl
@[simp] theorem Dev.modGov_cur : (s.modGov g).cur = s.cur := rfl
@[simp] theorem Dev.modGov_waits : (s.modGov g).waits = s.waits := rfl
@[simp] theorem Dev.modGov_lastCpl : (s.modGov g).lastCpl = s.lastCpl := rfl
@[simp] theorem Dev.modGov_draws : (s.modGov g).draws = s.draws := rfl
@[simp] theorem Dev.modGov_ctr : (s.modGov g).ctr = s.ctr := rfl
@[simp] theorem Dev.modGov_chk : (s.modGov g).chk = s.chk := rfl
@[simp] theorem Dev.modGov_shed : (s.modGov g).shed = s.shed := rfl
@[simp] theorem Dev.modGov_port : (s.modGov g).port = s.port := rfl
@[simp] theorem Dev.modGov_lane : (s.modGov g).lane = s.lane := rfl
@[simp] theorem Dev.modGov_host : (s.modGov g).host = s.host := rfl
@[simp] theorem Dev.modGov_loop : (s.modGov g).loop = s.loop := rfl
@[simp] theorem Dev.modGov_bceCap : (s.modGov g).bceCap = s.bceCap := rfl
@[simp] theorem Dev.modGov_aux : (s.modGov g).aux = s.aux := rfl
@[simp] theorem Dev.modGov_mon : (s.modGov g).mon = s.mon := rfl
@[simp] theorem Dev.modGov_pwr : (s.modGov g).pwr = s.pwr := rfl
@[simp] theorem Dev.modGov_thm : (s.modGov g).thm = s.thm := rfl
@[simp] theorem Dev.modGov_evr : (s.modGov g).evr = s.evr := rfl
@[simp] theorem Dev.modGov_rtc : (s.modGov g).rtc = s.rtc := rfl
@[simp] theorem Dev.modGov_sys : (s.modGov g).sys = s.sys := rfl
@[simp] theorem Dev.modGov_jtag : (s.modGov g).jtag = s.jtag := rfl
@[simp] theorem Dev.modGov_hold : (s.modGov g).hold = s.hold := rfl
@[simp] theorem Dev.modGov_own : (s.modGov g).gov = g s.gov := rfl
end

section
variable (s : Dev) (g : Shed → Shed)
@[simp] theorem Dev.modShed_timebase : (s.modShed g).timebase = s.timebase := rfl
@[simp] theorem Dev.modShed_regs : (s.modShed g).regs = s.regs := rfl
@[simp] theorem Dev.modShed_mem : (s.modShed g).mem = s.mem := rfl
@[simp] theorem Dev.modShed_writes : (s.modShed g).writes = s.writes := rfl
@[simp] theorem Dev.modShed_msixPend : (s.modShed g).msixPend = s.msixPend := rfl
@[simp] theorem Dev.modShed_msix : (s.modShed g).msix = s.msix := rfl
@[simp] theorem Dev.modShed_msg : (s.modShed g).msg = s.msg := rfl
@[simp] theorem Dev.modShed_hiLatch : (s.modShed g).hiLatch = s.hiLatch := rfl
@[simp] theorem Dev.modShed_readData : (s.modShed g).readData = s.readData := rfl
@[simp] theorem Dev.modShed_mdio : (s.modShed g).mdio = s.mdio := rfl
@[simp] theorem Dev.modShed_ctx : (s.modShed g).ctx = s.ctx := rfl
@[simp] theorem Dev.modShed_heldCpl : (s.modShed g).heldCpl = s.heldCpl := rfl
@[simp] theorem Dev.modShed_streams : (s.modShed g).streams = s.streams := rfl
@[simp] theorem Dev.modShed_target : (s.modShed g).target = s.target := rfl
@[simp] theorem Dev.modShed_turn : (s.modShed g).turn = s.turn := rfl
@[simp] theorem Dev.modShed_admin : (s.modShed g).admin = s.admin := rfl
@[simp] theorem Dev.modShed_cur : (s.modShed g).cur = s.cur := rfl
@[simp] theorem Dev.modShed_waits : (s.modShed g).waits = s.waits := rfl
@[simp] theorem Dev.modShed_lastCpl : (s.modShed g).lastCpl = s.lastCpl := rfl
@[simp] theorem Dev.modShed_draws : (s.modShed g).draws = s.draws := rfl
@[simp] theorem Dev.modShed_ctr : (s.modShed g).ctr = s.ctr := rfl
@[simp] theorem Dev.modShed_chk : (s.modShed g).chk = s.chk := rfl
@[simp] theorem Dev.modShed_gov : (s.modShed g).gov = s.gov := rfl
@[simp] theorem Dev.modShed_port : (s.modShed g).port = s.port := rfl
@[simp] theorem Dev.modShed_lane : (s.modShed g).lane = s.lane := rfl
@[simp] theorem Dev.modShed_host : (s.modShed g).host = s.host := rfl
@[simp] theorem Dev.modShed_loop : (s.modShed g).loop = s.loop := rfl
@[simp] theorem Dev.modShed_bceCap : (s.modShed g).bceCap = s.bceCap := rfl
@[simp] theorem Dev.modShed_aux : (s.modShed g).aux = s.aux := rfl
@[simp] theorem Dev.modShed_mon : (s.modShed g).mon = s.mon := rfl
@[simp] theorem Dev.modShed_pwr : (s.modShed g).pwr = s.pwr := rfl
@[simp] theorem Dev.modShed_thm : (s.modShed g).thm = s.thm := rfl
@[simp] theorem Dev.modShed_evr : (s.modShed g).evr = s.evr := rfl
@[simp] theorem Dev.modShed_rtc : (s.modShed g).rtc = s.rtc := rfl
@[simp] theorem Dev.modShed_sys : (s.modShed g).sys = s.sys := rfl
@[simp] theorem Dev.modShed_jtag : (s.modShed g).jtag = s.jtag := rfl
@[simp] theorem Dev.modShed_hold : (s.modShed g).hold = s.hold := rfl
@[simp] theorem Dev.modShed_own : (s.modShed g).shed = g s.shed := rfl
end

section
variable (s : Dev) (g : Chk → Chk)
@[simp] theorem Dev.modChk_timebase : (s.modChk g).timebase = s.timebase := rfl
@[simp] theorem Dev.modChk_regs : (s.modChk g).regs = s.regs := rfl
@[simp] theorem Dev.modChk_mem : (s.modChk g).mem = s.mem := rfl
@[simp] theorem Dev.modChk_writes : (s.modChk g).writes = s.writes := rfl
@[simp] theorem Dev.modChk_msixPend : (s.modChk g).msixPend = s.msixPend := rfl
@[simp] theorem Dev.modChk_msix : (s.modChk g).msix = s.msix := rfl
@[simp] theorem Dev.modChk_msg : (s.modChk g).msg = s.msg := rfl
@[simp] theorem Dev.modChk_hiLatch : (s.modChk g).hiLatch = s.hiLatch := rfl
@[simp] theorem Dev.modChk_readData : (s.modChk g).readData = s.readData := rfl
@[simp] theorem Dev.modChk_mdio : (s.modChk g).mdio = s.mdio := rfl
@[simp] theorem Dev.modChk_ctx : (s.modChk g).ctx = s.ctx := rfl
@[simp] theorem Dev.modChk_heldCpl : (s.modChk g).heldCpl = s.heldCpl := rfl
@[simp] theorem Dev.modChk_streams : (s.modChk g).streams = s.streams := rfl
@[simp] theorem Dev.modChk_target : (s.modChk g).target = s.target := rfl
@[simp] theorem Dev.modChk_turn : (s.modChk g).turn = s.turn := rfl
@[simp] theorem Dev.modChk_admin : (s.modChk g).admin = s.admin := rfl
@[simp] theorem Dev.modChk_cur : (s.modChk g).cur = s.cur := rfl
@[simp] theorem Dev.modChk_waits : (s.modChk g).waits = s.waits := rfl
@[simp] theorem Dev.modChk_lastCpl : (s.modChk g).lastCpl = s.lastCpl := rfl
@[simp] theorem Dev.modChk_draws : (s.modChk g).draws = s.draws := rfl
@[simp] theorem Dev.modChk_ctr : (s.modChk g).ctr = s.ctr := rfl
@[simp] theorem Dev.modChk_gov : (s.modChk g).gov = s.gov := rfl
@[simp] theorem Dev.modChk_shed : (s.modChk g).shed = s.shed := rfl
@[simp] theorem Dev.modChk_port : (s.modChk g).port = s.port := rfl
@[simp] theorem Dev.modChk_lane : (s.modChk g).lane = s.lane := rfl
@[simp] theorem Dev.modChk_host : (s.modChk g).host = s.host := rfl
@[simp] theorem Dev.modChk_loop : (s.modChk g).loop = s.loop := rfl
@[simp] theorem Dev.modChk_bceCap : (s.modChk g).bceCap = s.bceCap := rfl
@[simp] theorem Dev.modChk_aux : (s.modChk g).aux = s.aux := rfl
@[simp] theorem Dev.modChk_mon : (s.modChk g).mon = s.mon := rfl
@[simp] theorem Dev.modChk_pwr : (s.modChk g).pwr = s.pwr := rfl
@[simp] theorem Dev.modChk_thm : (s.modChk g).thm = s.thm := rfl
@[simp] theorem Dev.modChk_evr : (s.modChk g).evr = s.evr := rfl
@[simp] theorem Dev.modChk_rtc : (s.modChk g).rtc = s.rtc := rfl
@[simp] theorem Dev.modChk_sys : (s.modChk g).sys = s.sys := rfl
@[simp] theorem Dev.modChk_jtag : (s.modChk g).jtag = s.jtag := rfl
@[simp] theorem Dev.modChk_hold : (s.modChk g).hold = s.hold := rfl
@[simp] theorem Dev.modChk_own : (s.modChk g).chk = g s.chk := rfl
end

section
variable (s : Dev) (g : Ctrs → Ctrs)
@[simp] theorem Dev.modCtr_timebase : (s.modCtr g).timebase = s.timebase := rfl
@[simp] theorem Dev.modCtr_regs : (s.modCtr g).regs = s.regs := rfl
@[simp] theorem Dev.modCtr_mem : (s.modCtr g).mem = s.mem := rfl
@[simp] theorem Dev.modCtr_writes : (s.modCtr g).writes = s.writes := rfl
@[simp] theorem Dev.modCtr_msixPend : (s.modCtr g).msixPend = s.msixPend := rfl
@[simp] theorem Dev.modCtr_msix : (s.modCtr g).msix = s.msix := rfl
@[simp] theorem Dev.modCtr_msg : (s.modCtr g).msg = s.msg := rfl
@[simp] theorem Dev.modCtr_hiLatch : (s.modCtr g).hiLatch = s.hiLatch := rfl
@[simp] theorem Dev.modCtr_readData : (s.modCtr g).readData = s.readData := rfl
@[simp] theorem Dev.modCtr_mdio : (s.modCtr g).mdio = s.mdio := rfl
@[simp] theorem Dev.modCtr_ctx : (s.modCtr g).ctx = s.ctx := rfl
@[simp] theorem Dev.modCtr_heldCpl : (s.modCtr g).heldCpl = s.heldCpl := rfl
@[simp] theorem Dev.modCtr_streams : (s.modCtr g).streams = s.streams := rfl
@[simp] theorem Dev.modCtr_target : (s.modCtr g).target = s.target := rfl
@[simp] theorem Dev.modCtr_turn : (s.modCtr g).turn = s.turn := rfl
@[simp] theorem Dev.modCtr_admin : (s.modCtr g).admin = s.admin := rfl
@[simp] theorem Dev.modCtr_cur : (s.modCtr g).cur = s.cur := rfl
@[simp] theorem Dev.modCtr_waits : (s.modCtr g).waits = s.waits := rfl
@[simp] theorem Dev.modCtr_lastCpl : (s.modCtr g).lastCpl = s.lastCpl := rfl
@[simp] theorem Dev.modCtr_draws : (s.modCtr g).draws = s.draws := rfl
@[simp] theorem Dev.modCtr_chk : (s.modCtr g).chk = s.chk := rfl
@[simp] theorem Dev.modCtr_gov : (s.modCtr g).gov = s.gov := rfl
@[simp] theorem Dev.modCtr_shed : (s.modCtr g).shed = s.shed := rfl
@[simp] theorem Dev.modCtr_port : (s.modCtr g).port = s.port := rfl
@[simp] theorem Dev.modCtr_lane : (s.modCtr g).lane = s.lane := rfl
@[simp] theorem Dev.modCtr_host : (s.modCtr g).host = s.host := rfl
@[simp] theorem Dev.modCtr_loop : (s.modCtr g).loop = s.loop := rfl
@[simp] theorem Dev.modCtr_bceCap : (s.modCtr g).bceCap = s.bceCap := rfl
@[simp] theorem Dev.modCtr_aux : (s.modCtr g).aux = s.aux := rfl
@[simp] theorem Dev.modCtr_mon : (s.modCtr g).mon = s.mon := rfl
@[simp] theorem Dev.modCtr_pwr : (s.modCtr g).pwr = s.pwr := rfl
@[simp] theorem Dev.modCtr_thm : (s.modCtr g).thm = s.thm := rfl
@[simp] theorem Dev.modCtr_evr : (s.modCtr g).evr = s.evr := rfl
@[simp] theorem Dev.modCtr_rtc : (s.modCtr g).rtc = s.rtc := rfl
@[simp] theorem Dev.modCtr_sys : (s.modCtr g).sys = s.sys := rfl
@[simp] theorem Dev.modCtr_jtag : (s.modCtr g).jtag = s.jtag := rfl
@[simp] theorem Dev.modCtr_hold : (s.modCtr g).hold = s.hold := rfl
@[simp] theorem Dev.modCtr_own : (s.modCtr g).ctr = g s.ctr := rfl
end

section
variable (s : Dev) (p : Port) (x : Pair)
@[simp] theorem Dev.modAdc_eq (g : Adc → Adc) : s.modAdc p x g = s.modPort p fun q => { q with adc := vmod q.adc x.idx g } := rfl
@[simp] theorem Dev.modEq_eq (g : Eq → Eq) : s.modEq p x g = s.modPort p fun q => { q with eq := vmod q.eq x.idx g } := rfl
@[simp] theorem Dev.modEcho_eq (g : Echo → Echo) : s.modEcho p x g = s.modPort p fun q => { q with echo := vmod q.echo x.idx g } := rfl
@[simp] theorem Dev.modCap_eq (g : Capture → Capture) : s.modCap p g = s.modPort p fun q => { q with cap := g q.cap } := rfl
@[simp] theorem Dev.modFd_eq (g : Fd → Fd) : s.modFd p g = s.modPort p fun q => { q with fd := g q.fd } := rfl
@[simp] theorem Dev.modTx_eq (g : Tx → Tx) : s.modTx p g = s.modPort p fun q => { q with tx := g q.tx } := rfl
@[simp] theorem Dev.modTxPair_eq (g : TxPair → TxPair) :
    s.modTxPair p x g = s.modPort p fun q => { q with tx := { q.tx with pair := vmod q.tx.pair x.idx g } } := rfl
@[simp] theorem Dev.modFec_eq (g : Fec → Fec) : s.modFec p g = s.modPort p fun q => { q with fec := g q.fec } := rfl
@[simp] theorem Dev.modAcq_eq (g : Acq → Acq) : s.modAcq p g = s.modPort p fun q => { q with acq := g q.acq } := rfl
@[simp] theorem Dev.modLmc_eq (g : Lmc → Lmc) : s.modLmc p g = s.modPort p fun q => { q with lmc := g q.lmc } := rfl
@[simp] theorem Dev.modLink_eq (g : Link → Link) : s.modLink p g = s.modPort p fun q => { q with link := g q.link } := rfl
@[simp] theorem Dev.modIn_eq (i : InputNo) (g : MonIn → MonIn) :
    s.modIn i g = s.modMon fun m => { m with inp := vmod m.inp i g } := rfl
end

/-- Another port stays as it was. -/
theorem Dev.modPort_other (s : Dev) {p q : Port} (g : PortSt → PortSt) (h : p ≠ q) : (s.modPort p g).prt q = s.prt q :=
  vmod_other _ _ h
/-- Another lane stays as it was. -/
theorem Dev.modLane_other (s : Dev) {l k : Lane} (g : HLane → HLane) (h : l ≠ k) : (s.modLane l g).lane.get k = s.lane.get k :=
  vmod_other _ _ h
/-- Another loop stays as it was. -/
theorem Dev.modLoop_other (s : Dev) {l k : LoopNo} (g : Loop → Loop) (h : l ≠ k) : (s.modLoop l g).loop.get k = s.loop.get k :=
  vmod_other _ _ h
/-- Another channel stays as it was. -/
theorem Dev.modAux_other (s : Dev) {c k : AuxCh} (g : Aux → Aux) (h : c ≠ k) : (s.modAux c g).aux.get k = s.aux.get k :=
  vmod_other _ _ h
/-- What is read of a port does not depend on other parts of the device. -/
theorem Dev.prt_eq {s t : Dev} (h : s.port = t.port) (p : Port) : s.prt p = t.prt p := by simp [Dev.prt, h]

/-! ## Register fields -/

/-- A field reads what was last written to it, cut to its width. -/
@[simp] theorem Dev.get_set_self (s : Dev) (f : Fld) (v : Nat) : (s.set f v).get f = v % 2 ^ f.width :=
  sget_sput_self _ _ _ _

/-- A write leaves every other field alone. -/
theorem Dev.get_set_ne (s : Dev) {f g : Fld} (v : Nat) (h : f.key ≠ g.key) : (s.set f v).get g = s.get g := by
  unfold Dev.get Dev.set
  simp only
  by_cases hv : v % 2 ^ f.width = f.reset
  · simp [sput, hv, sget_filter_ne _ _ h]
  · simp [sput, hv, sget_sins_ne _ _ _ h]

/-- A field's value depends on the register store alone. -/
theorem Dev.get_eq {s t : Dev} (h : s.regs = t.regs) (f : Fld) : s.get f = t.get f := by simp [Dev.get, h]

@[simp] theorem Dev.get_write (s : Dev) (w : MemWrite) (r : Fld) : (s.write w).get r = s.get r := rfl
@[simp] theorem Dev.get_draw (s : Dev) (r : Fld) : (s.draw).get r = s.get r := rfl
@[simp] theorem Dev.get_fresh (s : Dev) (r : Fld) : (s.fresh).get r = s.get r := rfl
@[simp] theorem Dev.get_busyWith (s : Dev) (c : Option (Nat × Nat)) (r : Fld) : (s.busyWith c).get r = s.get r := rfl
@[simp] theorem Dev.get_settle (s : Dev) (m : Mem) (r : Fld) : (s.settle m).get r = s.get r := rfl
@[simp] theorem Dev.get_park (s : Dev) (k : WaitKind) (d : Desc) (r : Fld) : (s.park k d).get r = s.get r := rfl
@[simp] theorem Dev.get_modPort (s : Dev) (p : Port) (g : PortSt → PortSt) (r : Fld) : (s.modPort p g).get r = s.get r := rfl
@[simp] theorem Dev.get_modLane (s : Dev) (l : Lane) (g : HLane → HLane) (r : Fld) : (s.modLane l g).get r = s.get r := rfl
@[simp] theorem Dev.get_modLoop (s : Dev) (l : LoopNo) (g : Loop → Loop) (r : Fld) : (s.modLoop l g).get r = s.get r := rfl
@[simp] theorem Dev.get_modAux (s : Dev) (c : AuxCh) (g : Aux → Aux) (r : Fld) : (s.modAux c g).get r = s.get r := rfl
@[simp] theorem Dev.get_modMon (s : Dev) (g : Mon → Mon) (r : Fld) : (s.modMon g).get r = s.get r := rfl
@[simp] theorem Dev.get_modPwr (s : Dev) (g : Pwr → Pwr) (r : Fld) : (s.modPwr g).get r = s.get r := rfl
@[simp] theorem Dev.get_modThm (s : Dev) (g : Thm → Thm) (r : Fld) : (s.modThm g).get r = s.get r := rfl
@[simp] theorem Dev.get_modEvr (s : Dev) (g : Evr → Evr) (r : Fld) : (s.modEvr g).get r = s.get r := rfl
@[simp] theorem Dev.get_modSys (s : Dev) (g : Sys → Sys) (r : Fld) : (s.modSys g).get r = s.get r := rfl
@[simp] theorem Dev.get_modGov (s : Dev) (g : Gov → Gov) (r : Fld) : (s.modGov g).get r = s.get r := rfl
@[simp] theorem Dev.get_modShed (s : Dev) (g : Shed → Shed) (r : Fld) : (s.modShed g).get r = s.get r := rfl
@[simp] theorem Dev.get_modChk (s : Dev) (g : Chk → Chk) (r : Fld) : (s.modChk g).get r = s.get r := rfl
@[simp] theorem Dev.get_modCtr (s : Dev) (g : Ctrs → Ctrs) (r : Fld) : (s.modCtr g).get r = s.get r := rfl
@[simp] theorem Dev.prt_set (s : Dev) (f : Fld) (v : Nat) (q : Port) : (s.set f v).prt q = s.prt q := rfl
@[simp] theorem Dev.prt_write (s : Dev) (w : MemWrite) (q : Port) : (s.write w).prt q = s.prt q := rfl
@[simp] theorem Dev.prt_draw (s : Dev) (q : Port) : (s.draw).prt q = s.prt q := rfl
@[simp] theorem Dev.prt_fresh (s : Dev) (q : Port) : (s.fresh).prt q = s.prt q := rfl
@[simp] theorem Dev.prt_busyWith (s : Dev) (c : Option (Nat × Nat)) (q : Port) : (s.busyWith c).prt q = s.prt q := rfl
@[simp] theorem Dev.prt_settle (s : Dev) (m : Mem) (q : Port) : (s.settle m).prt q = s.prt q := rfl
@[simp] theorem Dev.prt_park (s : Dev) (k : WaitKind) (d : Desc) (q : Port) : (s.park k d).prt q = s.prt q := rfl
@[simp] theorem Dev.prt_modLane (s : Dev) (l : Lane) (g : HLane → HLane) (q : Port) : (s.modLane l g).prt q = s.prt q := rfl
@[simp] theorem Dev.prt_modLoop (s : Dev) (l : LoopNo) (g : Loop → Loop) (q : Port) : (s.modLoop l g).prt q = s.prt q := rfl
@[simp] theorem Dev.prt_modAux (s : Dev) (c : AuxCh) (g : Aux → Aux) (q : Port) : (s.modAux c g).prt q = s.prt q := rfl
@[simp] theorem Dev.prt_modMon (s : Dev) (g : Mon → Mon) (q : Port) : (s.modMon g).prt q = s.prt q := rfl
@[simp] theorem Dev.prt_modPwr (s : Dev) (g : Pwr → Pwr) (q : Port) : (s.modPwr g).prt q = s.prt q := rfl
@[simp] theorem Dev.prt_modThm (s : Dev) (g : Thm → Thm) (q : Port) : (s.modThm g).prt q = s.prt q := rfl
@[simp] theorem Dev.prt_modEvr (s : Dev) (g : Evr → Evr) (q : Port) : (s.modEvr g).prt q = s.prt q := rfl
@[simp] theorem Dev.prt_modSys (s : Dev) (g : Sys → Sys) (q : Port) : (s.modSys g).prt q = s.prt q := rfl
@[simp] theorem Dev.prt_modGov (s : Dev) (g : Gov → Gov) (q : Port) : (s.modGov g).prt q = s.prt q := rfl
@[simp] theorem Dev.prt_modShed (s : Dev) (g : Shed → Shed) (q : Port) : (s.modShed g).prt q = s.prt q := rfl
@[simp] theorem Dev.prt_modChk (s : Dev) (g : Chk → Chk) (q : Port) : (s.modChk g).prt q = s.prt q := rfl
@[simp] theorem Dev.prt_modCtr (s : Dev) (g : Ctrs → Ctrs) (q : Port) : (s.modCtr g).prt q = s.prt q := rfl

@[simp] theorem Dev.flag_eq (s : Dev) (f : Fld) (b : Bool) : s.flag f b = s.set f (bnat b) := rfl
@[simp] theorem Dev.seti_eq (s : Dev) (f : Fld) (i : Int) : s.seti f i = s.set f (codeOf f.width i) := rfl
@[simp] theorem Dev.putBit_eq (s : Dev) (f : Fld) (i : Nat) (b : Bool) :
    s.putBit f i b = s.set f (Machine.putBit (s.get f) i b) := rfl
@[simp] theorem Dev.inc_eq (s : Dev) (f : Fld) : s.inc f = s.set f (min (s.get f + 1) (2 ^ f.width - 1)) := rfl
@[simp] theorem Dev.on_eq (s : Dev) (f : Fld) : s.on f = (s.get f != 0) := rfl
@[simp] theorem Dev.iff_true (s : Dev) (g : Dev → Dev) : s.iff true g = g s := rfl
@[simp] theorem Dev.iff_false (s : Dev) (g : Dev → Dev) : s.iff false g = s := rfl
@[simp] theorem bnat_true : bnat true = 1 := rfl
@[simp] theorem bnat_false : bnat false = 0 := rfl

end Sys2Proof.Machine
end

