-- ==== Sys2Proof/Laws/Frames.lean ====
section
/-! SUPPORT. What the shared operations leave alone: counting, logging, signalling and completing change the books (counters,
records, rings, pending writes) and no block, and no register field but those of the books. -/

-- One theorem at a time: side by side they ask for more memory than a check of the package may have.
set_option Elab.async false

namespace Sys2Proof.Machine

open Reg

/-- Two devices differ in their books alone. -/
def Dev.Like (a b : Dev) : Prop := a.core = b.core ∧ ∀ f : Fld, f.plain → a.get f = b.get f

theorem Dev.Like.refl (a : Dev) : a.Like a := ⟨rfl, fun _ _ => rfl⟩
theorem Dev.Like.trans {a b c : Dev} (h : a.Like b) (k : b.Like c) : a.Like c :=
  ⟨h.1.trans k.1, fun f p => (h.2 f p).trans (k.2 f p)⟩

/-- What two devices that differ in their books alone have in common. -/
abbrev Dev.Keeps (a b : Dev) : Prop :=
  a.timebase = b.timebase ∧ a.mem = b.mem ∧ a.msix = b.msix ∧ a.hiLatch = b.hiLatch ∧ a.readData = b.readData ∧
  a.mdio = b.mdio ∧ a.streams = b.streams ∧ a.turn = b.turn ∧ a.admin = b.admin ∧ a.cur = b.cur ∧ a.waits = b.waits ∧
  a.chk = b.chk ∧ a.gov = b.gov ∧ a.shed = b.shed ∧ a.lane = b.lane ∧ a.host = b.host ∧ a.loop = b.loop ∧
  a.bceCap = b.bceCap ∧ a.aux = b.aux ∧ a.mon = b.mon ∧ a.thm = b.thm ∧ a.rtc = b.rtc ∧ a.sys = b.sys ∧
  a.jtag = b.jtag ∧ a.hold = b.hold ∧
  (∀ p, (a.prt p).freq = (b.prt p).freq) ∧ (∀ p, (a.prt p).adc = (b.prt p).adc) ∧ (∀ p, (a.prt p).eq = (b.prt p).eq) ∧
  (∀ p, (a.prt p).echo = (b.prt p).echo) ∧ (∀ p, (a.prt p).fd = (b.prt p).fd) ∧ (∀ p, (a.prt p).tx = (b.prt p).tx) ∧
  (∀ p, (a.prt p).fec = (b.prt p).fec) ∧ (∀ p, (a.prt p).acq = (b.prt p).acq) ∧ (∀ p, (a.prt p).lmc = (b.prt p).lmc) ∧
  (∀ p, (a.prt p).link = (b.prt p).link) ∧ (∀ p, (a.prt p).slips = (b.prt p).slips) ∧
  (∀ p, (a.prt p).slipRx = (b.prt p).slipRx) ∧ (∀ p, (a.prt p).slipTx = (b.prt p).slipTx) ∧
  a.pwr.hold = b.pwr.hold ∧ a.pwr.linger = b.pwr.linger ∧ a.pwr.entry = b.pwr.entry ∧ a.pwr.heldWake = b.pwr.heldWake ∧
  a.pwr.again = b.pwr.again ∧ a.pwr.early = b.pwr.early ∧ a.pwr.earlyFull = b.pwr.earlyFull ∧ a.pwr.held = b.pwr.held ∧
  a.pwr.retainNs = b.pwr.retainNs ∧ a.pwr.retainAt = b.pwr.retainAt ∧ a.pwr.failed = b.pwr.failed ∧
  a.pwr.dozing = b.pwr.dozing ∧ a.pwr.waking = b.pwr.waking ∧ a.pwr.gated = b.pwr.gated ∧
  a.pwr.entries = b.pwr.entries ∧ a.pwr.refused = b.pwr.refused ∧ a.pwr.aborted = b.pwr.aborted ∧
  a.evr.slot = b.evr.slot ∧ a.evr.newest = b.evr.newest ∧ a.evr.powerFail = b.evr.powerFail ∧ a.evr.clear = b.evr.clear ∧
  a.evr.lifeDue = b.evr.lifeDue

theorem Dev.prt_core (s : Dev) (p : Port) : s.core.prt p = { s.prt p with cap := {} } := by
  simp [Dev.core, Dev.prt, Vector.get_eq_getElem]

theorem Dev.Like.keeps {a b : Dev} (h : a.Like b) : a.Keeps b := by
  have hc := h.1
  have hp : ∀ p, ({ a.prt p with cap := {} } : PortSt) = { b.prt p with cap := {} } := fun p => by
    rw [← Dev.prt_core, ← Dev.prt_core, hc]
  have hw := congrArg Dev.pwr hc
  have he := congrArg Dev.evr hc
  exact ⟨(congrArg Dev.timebase hc :), (congrArg Dev.mem hc :), (congrArg Dev.msix hc :), (congrArg Dev.hiLatch hc :),
    (congrArg Dev.readData hc :), (congrArg Dev.mdio hc :), (congrArg Dev.streams hc :), (congrArg Dev.turn hc :), (congrArg Dev.admin hc :),
    (congrArg Dev.cur hc :), (congrArg Dev.waits hc :), (congrArg Dev.chk hc :), (congrArg Dev.gov hc :), (congrArg Dev.shed hc :),
    (congrArg Dev.lane hc :), (congrArg Dev.host hc :), (congrArg Dev.loop hc :), (congrArg Dev.bceCap hc :), (congrArg Dev.aux hc :),
    (congrArg Dev.mon hc :), (congrArg Dev.thm hc :), (congrArg Dev.rtc hc :), (congrArg Dev.sys hc :), (congrArg Dev.jtag hc :),
    (congrArg Dev.hold hc :), fun p => (congrArg PortSt.freq (hp p) :), fun p => (congrArg PortSt.adc (hp p) :),
    fun p => (congrArg PortSt.eq (hp p) :), fun p => (congrArg PortSt.echo (hp p) :), fun p => (congrArg PortSt.fd (hp p) :),
    fun p => (congrArg PortSt.tx (hp p) :), fun p => (congrArg PortSt.fec (hp p) :), fun p => (congrArg PortSt.acq (hp p) :),
    fun p => (congrArg PortSt.lmc (hp p) :), fun p => (congrArg PortSt.link (hp p) :), fun p => (congrArg PortSt.slips (hp p) :),
    fun p => (congrArg PortSt.slipRx (hp p) :), fun p => (congrArg PortSt.slipTx (hp p) :), (congrArg Pwr.hold hw :),
    (congrArg Pwr.linger hw :), (congrArg Pwr.entry hw :), (congrArg Pwr.heldWake hw :), (congrArg Pwr.again hw :), (congrArg Pwr.early hw :),
    (congrArg Pwr.earlyFull hw :), (congrArg Pwr.held hw :), (congrArg Pwr.retainNs hw :), (congrArg Pwr.retainAt hw :),
    (congrArg Pwr.failed hw :), (congrArg Pwr.dozing hw :), (congrArg Pwr.waking hw :), (congrArg Pwr.gated hw :), (congrArg Pwr.entries hw :),
    (congrArg Pwr.refused hw :), (congrArg Pwr.aborted hw :), (congrArg Evr.slot he :), (congrArg Evr.newest he :),
    (congrArg Evr.powerFail he :), (congrArg Evr.clear he :), (congrArg Evr.lifeDue he :)⟩

theorem Dev.Like.last {a b : Dev} (h : a.Like b) : a.lastCpl = b.lastCpl := (congrArg Dev.lastCpl h.1 :)

/-! ## How the relation is built up -/

/-- A write of a field of the books. -/
theorem Dev.set_like (s : Dev) (f : Fld) (v : Nat) (h : ∀ g : Fld, g.plain → f.key ≠ g.key) : (s.set f v).Like s :=
  ⟨rfl, fun g hg => Dev.get_set_ne s v (h g hg)⟩

theorem Fld.key_ne_plain {f g : Fld} (hl : f.lsb < 32) (hg : g.plain)
    (h : f.off ∈ [0x34, 0x38, 0x44, 0x48, 0xD004, 0xD008, 0xD00C, 0xD010] ∨ 0xC000 ≤ f.off ∧ f.off < 0xD000) :
    f.key ≠ g.key := by
  intro e
  have : f.off = g.off := by unfold Fld.key at e; have := hg.1; omega
  rcases h with h | h
  · exact hg.2.1 (this ▸ h)
  · have := hg.2.2; omega

theorem Dev.each_like {α : Type} (l : List α) (g : Dev → α → Dev) (h : ∀ s, ∀ x ∈ l, (g s x).Like s) (s : Dev) :
    (s.each l g).Like s := by
  induction l generalizing s with
  | nil => exact .refl s
  | cons a l ih =>
    exact (ih (fun s x hx => h s x (List.mem_cons_of_mem _ hx)) (g s a)).trans (h s a (List.mem_cons_self ..))

theorem Dev.iff_like (s : Dev) (b : Bool) (g : Dev → Dev) (h : ∀ s, (g s).Like s) : (s.iff b g).Like s := by
  cases b
  · exact .refl s
  · exact h s

theorem Dev.write_like (s : Dev) (w : MemWrite) : (s.write w).Like s := ⟨rfl, fun _ _ => rfl⟩
theorem Dev.draw_like (s : Dev) : s.draw.Like s := ⟨rfl, fun _ _ => rfl⟩
theorem Dev.modCtr_like (s : Dev) (g : Ctrs → Ctrs) : (s.modCtr g).Like s := ⟨rfl, fun _ _ => rfl⟩
theorem Dev.modCap_like (s : Dev) (p : Port) (g : Capture → Capture) : (s.modCap p g).Like s := by
  refine ⟨?_, fun _ _ => rfl⟩
  have : (vmod s.port p fun q => { q with cap := g q.cap }).map (fun q => { q with cap := {} }) =
      s.port.map fun q : PortSt => { q with cap := {} } := by
    apply Vector.ext
    intro i hi
    by_cases h : p.val = i
    · subst h; simp [vmod, Vector.get_eq_getElem]
    · simp [vmod, h]
  simp [Dev.core, Dev.modPort, this]


/-- A write of a field at one of the books' offsets. -/
theorem Dev.set_book (s : Dev) {f : Fld} (v : Nat) (hl : f.lsb < 32)
    (h : f.off ∈ [0x34, 0x38, 0x44, 0x48, 0xD004, 0xD008, 0xD00C, 0xD010] ∨ 0xC000 ≤ f.off ∧ f.off < 0xD000) :
    (s.set f v).Like s :=
  s.set_like f v fun _ hg => Fld.key_ne_plain hl hg h

/-! ## Signals -/

theorem Dev.signalMsix_like (s : Dev) (v : Nat) : (s.signalMsix v).Like s := by
  unfold Dev.signalMsix
  split
  · simp only []
    split <;> exact ⟨rfl, fun _ _ => rfl⟩
  · exact .refl s

theorem Dev.signalPin_like (s : Dev) (v : Nat) : (s.signalPin v).Like s := by
  unfold Dev.signalPin
  split
  · exact s.set_book _ (by decide) (by decide)
  · exact s.set_book _ (by decide) (by decide)

theorem Dev.signalRing_like (s : Dev) (o v : Nat) : (s.signalRing o v).Like s := by
  unfold Dev.signalRing
  split
  · exact s.signalMsix_like v
  · exact s.signalPin_like v

theorem Dev.signal_like (s : Dev) (v : Nat) : (s.signal v).Like s :=
  (Dev.iff_like _ _ _ fun s => s.signalPin_like v).trans (s.iff_like _ _ fun s => s.signalMsix_like v)

/-! ## Counters -/

theorem Dev.fireCapture_like (s : Dev) (p : Port) (k : Nat) : (s.fireCapture p k).Like s := by
  unfold Dev.fireCapture
  split
  · exact s.modCap_like p _
  · exact .refl s

theorem Dev.ctrSample_like (s : Dev) (m : Nat) (z : Bool) : (s.ctrSample m z).Like s := by
  unfold Dev.ctrSample
  simp only []
  split
  · exact ((Dev.set_book _ _ (by decide) (by decide)).trans (Dev.modCtr_like _ _)).trans s.draw_like
  · exact ((Dev.set_book _ _ (by decide) (by decide)).trans (Dev.set_book _ _ (by decide) (by decide))).trans s.draw_like

theorem Dev.ctrOverflow_like (s : Dev) {m : Nat} (hm : m < 64) : (s.ctrOverflow m).Like s := by
  unfold Dev.ctrOverflow
  refine (Dev.each_like _ _ (fun s p _ => s.iff_like _ _ fun s => s.fireCapture_like p 6) _).trans ?_
  refine (Dev.iff_like _ _ _ fun s => s.signal_like _).trans ?_
  refine (Dev.iff_like _ _ _ fun s => s.ctrSample_like _ _).trans ?_
  refine (Dev.iff_like _ _ _ fun s => (Dev.set_book _ _ (by decide) (by decide)).trans
    ((Dev.set_book _ _ (by decide) (by decide)).trans (s.set_book _ (by decide) (by decide)))).trans ?_
  refine (Dev.set_book _ _ (by simp [CTR_m_OVF_COUNT_OVF_COUNT])
    (.inr (by simp [CTR_m_OVF_COUNT_OVF_COUNT]; omega))).trans ?_
  split
  · exact s.set_book _ (by decide) (by decide)
  · exact s.set_book _ (by decide) (by decide)

theorem Dev.setCtrValue_like (s : Dev) {m : Nat} (hm : m < 64) (v : Nat) : (s.setCtrValue m v).Like s :=
  (Dev.set_book _ _ (by simp [CTR_m_VAL_HI_VALUE]) (.inr (by simp [CTR_m_VAL_HI_VALUE]; omega))).trans
    (Dev.set_book _ _ (by simp [CTR_m_VAL_LO_VALUE]) (.inr (by simp [CTR_m_VAL_LO_VALUE]; omega)))

theorem Dev.ctrAdd_like (s : Dev) {m : Nat} (hm : m < 64) (n : Nat) : (s.ctrAdd m n).Like s := by
  have sat := fun (s : Dev) b => s.iff_like b (fun s => (s.flag (CTR_m_CFG_SAT m) true).flag CTR_EVENTS_SAT true) fun s =>
    (Dev.set_book _ _ (by decide) (by decide)).trans
      (s.set_book _ (by simp [CTR_m_CFG_SAT]) (.inr (by simp [CTR_m_CFG_SAT]; omega)))
  unfold Dev.ctrAdd
  split
  · exact .refl s
  · simp only []
    split
    · refine (Dev.ctrOverflow_like _ hm).trans ((Dev.iff_like _ _ _ fun s => s.modCtr_like _).trans ?_)
      exact (Dev.setCtrValue_like _ hm _).trans (sat s _)
    · exact (Dev.setCtrValue_like _ hm _).trans (sat s _)

theorem Dev.count_like (s : Dev) (code inst : Nat) (n : Nat := 1) : (s.count code inst n).Like s :=
  Dev.each_like _ _ (fun s m hm => by
    have hm := List.mem_range.1 hm
    split
    · exact s.ctrAdd_like hm n
    · exact .refl s) s

theorem Dev.sample_like (s : Dev) (code inst q : Nat) : (s.sample code inst q).Like s :=
  Dev.each_like _ _ (fun s m hm => by
    have hm := List.mem_range.1 hm
    simp only
    repeat' split
    all_goals first | exact s.ctrAdd_like hm _ | exact .refl s) s

theorem Dev.retried_like (s : Dev) : s.retried.Like s :=
  (Dev.count_like _ _ _ _).trans (s.set_book _ (by decide) (by decide))

/-! ## Rings and completions -/

theorem Dev.putWord_like (s : Dev) (i : MemId) (w : Nat) (x : MWord) : (s.putWord i w x).Like s := s.write_like _

theorem Dev.setRing_like (s : Dev) (r : Nat) (c : RingCtx) : (s.setRing r c).Like s :=
  (Dev.each_like _ _ (fun s k _ => by
    split
    · exact .refl s
    · exact s.putWord_like _ _ _) _).trans ⟨rfl, fun _ _ => rfl⟩

theorem Dev.hostWrite_like (s : Dev) (a : Nat) (l : List Byte) : (s.hostWrite a l).Like s :=
  Dev.each_like _ _ (fun s _ _ => s.write_like _) s

theorem Dev.ramWords_like (s : Dev) (a : Nat) (l : List Byte) : (s.ramWords a l).Like s :=
  Dev.each_like _ _ (fun s _ _ => s.putWord_like _ _ _) s

theorem Dev.putEntry_like (s : Dev) (r : Nat) (e : Bool → List Byte) : (s.putEntry r e).Like s := by
  unfold Dev.putEntry
  simp only []
  refine (Dev.setRing_like _ _ _).trans ?_
  split
  · exact s.hostWrite_like _ _
  · exact s.ramWords_like _ _

theorem Dev.coalesce_like (s : Dev) (r : Nat) : (s.coalesce r).Like s := by
  unfold Dev.coalesce
  simp only []
  split
  · exact (Dev.signalRing_like _ _ _).trans (s.setRing_like _ _)
  · exact s.setRing_like _ _

theorem Dev.writeCpl_like (s : Dev) (r : Nat) (c : Cpl) : (s.writeCpl r c).Like s :=
  (Dev.coalesce_like _ r).trans (s.putEntry_like r _)

theorem Dev.postCpl_like (s : Dev) (r : Nat) (c : Cpl) : (s.postCpl r c).Like s := by
  unfold Dev.postCpl
  simp only []
  split
  · exact .refl s
  · split
    · exact ⟨rfl, fun _ _ => rfl⟩
    · exact s.writeCpl_like r c

/-- A completion changes the books alone, and notes itself. -/
theorem Dev.finish_like (s : Dev) (d : Desc) (st res : Nat) :
    (s.finish d st res).Like { s with lastCpl := some (d.ring, completionOf d st res s.timebase) } := by
  unfold Dev.finish
  refine (Dev.sample_like _ _ _ _).trans ((Dev.count_like _ _ _ _).trans ?_)
  have h : ∀ (t u : Dev) (x : Option (Nat × Cpl)), t.Like u → Dev.Like { t with lastCpl := x } { u with lastCpl := x } :=
    fun t u x h => ⟨by
      have := congrArg (fun e : Dev => { e with lastCpl := x }) h.1
      exact this, h.2⟩
  refine h _ s _ (s.iff_like _ _ fun s => ?_)
  exact (Dev.iff_like _ _ _ fun s => s.postCpl_like _ _).trans (s.setRing_like _ _)

/-! ## Logged events -/

theorem Dev.notice_like (s : Dev) (t : Transport) (sev source seq : Nat) : (s.notice t sev source seq).Like s := by
  unfold Dev.notice
  split
  · exact .refl s
  · split
    · exact .refl s
    · simp only []
      split
      · exact (Dev.writeCpl_like _ _ _).trans ⟨rfl, fun _ _ => rfl⟩
      · split
        · exact ⟨rfl, fun _ _ => rfl⟩
        · exact (Dev.set_book _ _ (by decide) (by decide)).trans ⟨rfl, fun _ _ => rfl⟩

theorem Dev.trace_like (s : Dev) (source bit sev cat : Nat) (ev : Bool) (l : List Byte) :
    (s.trace source bit sev cat ev l).Like s :=
  (Dev.set_book _ _ (by decide) (by decide)).trans (Dev.each_like _ _ (fun s _ _ => s.putWord_like _ _ _) s)

theorem Dev.bufDrop_like (s : Dev) : s.bufDrop.Like s :=
  (Dev.set_book _ _ (by decide) (by decide)).trans (s.set_book _ (by decide) (by decide))

theorem Dev.buffer_like (s : Dev) (r : EvRec) : (s.buffer r).Like s := by
  have put : ∀ (l : List EvRec), ((s.modEvr fun e => { e with buf := l }).set EVR_STATUS_BUFFERED l.length).Like s :=
    fun l => (Dev.set_book _ _ (by decide) (by decide)).trans ⟨rfl, fun _ _ => rfl⟩
  unfold Dev.buffer
  simp only []
  split
  · exact put _
  · split
    · exact s.bufDrop_like
    · split
      · exact (Dev.bufDrop_like _).trans (put _)
      · exact s.bufDrop_like

theorem Dev.due_like (s : Dev) : (s.modEvr fun e => { e with due := true }).Like s := ⟨rfl, fun _ _ => rfl⟩

theorem Dev.logRec_like (s : Dev) (r : EvRec) : (s.logRec r).Like s := by
  unfold Dev.logRec
  refine (Dev.iff_like _ _ _ fun s => s.due_like).trans ?_
  refine (Dev.each_like _ _ (fun s _ _ => s.notice_like _ _ _ _) _).trans ((Dev.trace_like _ _ _ _ _ _ _).trans ?_)
  exact (Dev.buffer_like _ _).trans (s.set_book _ (by decide) (by decide))

/-- Logging changes the books alone. -/
theorem Dev.logRaw_like (s : Dev) (source bit sev : Nat) (l : List Byte) : (s.logRaw source bit sev l).Like s := by
  unfold Dev.logRaw
  split
  · exact ⟨rfl, fun _ _ => rfl⟩
  · exact s.logRec_like _

theorem Dev.log_like (s : Dev) (f : Fld) (sev : Nat) (l : List Byte) : (s.log f sev l).Like s := s.logRaw_like _ _ _ _
theorem Dev.logPlain_like (s : Dev) (bit sev : Nat) (l : List Byte) : (s.logPlain bit sev l).Like s := s.logRaw_like _ _ _ _

/-! ## What follows for every field -/

section
variable (s : Dev)
@[simp] theorem Dev.signal_keeps (v : Nat) : (s.signal v).Keeps s := (s.signal_like v).keeps
@[simp] theorem Dev.count_keeps (c i n : Nat) : (s.count c i n).Keeps s := (s.count_like c i n).keeps
@[simp] theorem Dev.sample_keeps (c i q : Nat) : (s.sample c i q).Keeps s := (s.sample_like c i q).keeps
@[simp] theorem Dev.retried_keeps : s.retried.Keeps s := s.retried_like.keeps
@[simp] theorem Dev.putWord_keeps (i : MemId) (w : Nat) (x : MWord) : (s.putWord i w x).Keeps s := (s.putWord_like i w x).keeps
@[simp] theorem Dev.setRing_keeps (r : Nat) (c : RingCtx) : (s.setRing r c).Keeps s := (s.setRing_like r c).keeps
@[simp] theorem Dev.hostWrite_keeps (a : Nat) (l : List Byte) : (s.hostWrite a l).Keeps s := (s.hostWrite_like a l).keeps
@[simp] theorem Dev.postCpl_keeps (r : Nat) (c : Cpl) : (s.postCpl r c).Keeps s := (s.postCpl_like r c).keeps
@[simp] theorem Dev.finish_keeps (d : Desc) (st res : Nat) : (s.finish d st res).Keeps s := (s.finish_like d st res).keeps
@[simp] theorem Dev.finish_last (d : Desc) (st res : Nat) :
    (s.finish d st res).lastCpl = some (d.ring.val, completionOf d st res s.timebase) :=
  (s.finish_like d st res).last
@[simp] theorem Dev.log_last (f : Fld) (v : Nat) (l : List Byte) : (s.log f v l).lastCpl = s.lastCpl :=
  (s.log_like f v l).last
@[simp] theorem Dev.logPlain_last (b v : Nat) (l : List Byte) : (s.logPlain b v l).lastCpl = s.lastCpl :=
  (s.logPlain_like b v l).last
@[simp] theorem Dev.count_last (c i n : Nat) : (s.count c i n).lastCpl = s.lastCpl :=
  (s.count_like c i n).last
@[simp] theorem Dev.signal_last (v : Nat) : (s.signal v).lastCpl = s.lastCpl :=
  (s.signal_like v).last
@[simp] theorem Dev.logRaw_keeps (a b c : Nat) (l : List Byte) : (s.logRaw a b c l).Keeps s := (s.logRaw_like a b c l).keeps
@[simp] theorem Dev.log_keeps (f : Fld) (v : Nat) (l : List Byte) : (s.log f v l).Keeps s := (s.log_like f v l).keeps
@[simp] theorem Dev.logPlain_keeps (b v : Nat) (l : List Byte) : (s.logPlain b v l).Keeps s := (s.logPlain_like b v l).keeps
variable {f : Fld} (h : f.plain)
include h
theorem Dev.get_signal (v : Nat) : (s.signal v).get f = s.get f := (s.signal_like v).2 f h
theorem Dev.get_count (c i n : Nat) : (s.count c i n).get f = s.get f := (s.count_like c i n).2 f h
theorem Dev.get_sample (c i q : Nat) : (s.sample c i q).get f = s.get f := (s.sample_like c i q).2 f h
theorem Dev.get_retried : s.retried.get f = s.get f := s.retried_like.2 f h
theorem Dev.get_putWord (i : MemId) (w : Nat) (x : MWord) : (s.putWord i w x).get f = s.get f := (s.putWord_like i w x).2 f h
theorem Dev.get_setRing (r : Nat) (c : RingCtx) : (s.setRing r c).get f = s.get f := (s.setRing_like r c).2 f h
theorem Dev.get_hostWrite (a : Nat) (l : List Byte) : (s.hostWrite a l).get f = s.get f := (s.hostWrite_like a l).2 f h
theorem Dev.get_postCpl (r : Nat) (c : Cpl) : (s.postCpl r c).get f = s.get f := (s.postCpl_like r c).2 f h
theorem Dev.get_finish (d : Desc) (st res : Nat) : (s.finish d st res).get f = s.get f := (s.finish_like d st res).2 f h
theorem Dev.get_logRaw (a b c : Nat) (l : List Byte) : (s.logRaw a b c l).get f = s.get f := (s.logRaw_like a b c l).2 f h
theorem Dev.get_log (r : Fld) (v : Nat) (l : List Byte) : (s.log r v l).get f = s.get f := (s.log_like r v l).2 f h
theorem Dev.get_logPlain (b v : Nat) (l : List Byte) : (s.logPlain b v l).get f = s.get f := (s.logPlain_like b v l).2 f h
end

end Sys2Proof.Machine
end

