-- ==== Sys2Proof/Laws/Run.lean ====
section
/-! SUPPORT. The beginning and the end of a command: what settling its writes leaves alone, and what a descriptor's action
phase starts from. -/

-- One theorem at a time: side by side they ask for more memory than a check of the package may have.
set_option Elab.async false

namespace Sys2Proof.Machine

open Reg

/-! ## Descriptors by their bytes -/

section
variable (d : Desc) (t : Nat)
@[simp] theorem stamp_ring : (Desc.stamp d t).ring = d.ring := rfl
@[simp] theorem stamp_data : (Desc.stamp d t).data = d.data := rfl
@[simp] theorem stamp_again : (Desc.stamp d t).again = d.again := rfl
@[simp] theorem stamp_index : (Desc.stamp d t).index = d.index := rfl
@[simp] theorem stamp_body : (Desc.stamp d t).body = d.body := rfl
@[simp] theorem stamp_byte (i : Nat) : (Desc.stamp d t).byte i = d.byte i := rfl
@[simp] theorem stamp_bytes (i k : Nat) : (Desc.stamp d t).bytes i k = d.bytes i k := rfl
@[simp] theorem stamp_bits (i h l : Nat) : (Desc.stamp d t).bits i h l = d.bits i h l := rfl
@[simp] theorem stamp_flag (i b : Nat) : (Desc.stamp d t).flag i b = d.flag i b := rfl
@[simp] theorem stamp_opcode : (Desc.stamp d t).opcode = d.opcode := rfl
@[simp] theorem stamp_cr : (Desc.stamp d t).cr = d.cr := rfl
@[simp] theorem stamp_chain : (Desc.stamp d t).chain = d.chain := rfl
@[simp] theorem stamp_tag : (Desc.stamp d t).tag = d.tag := rfl
@[simp] theorem stamp_length : (Desc.stamp d t).length = d.length := rfl
@[simp] theorem stamp_address : (Desc.stamp d t).address = d.address := rfl
@[simp] theorem stamp_completion (st r time : Nat) : completionOf (Desc.stamp d t) st r time = completionOf d st r time := rfl
end

/-! ## A descriptor's action phase -/

/-- The device as a descriptor's action phase finds it: the descriptor is outstanding on its ring, and in progress. -/
def Dev.opened (s : Dev) (d : Desc) : Dev :=
  let q := s.ring d.ring
  (s.iff q.live fun s =>
    s.setRing d.ring { q with outstanding := q.outstanding + 1
                              chain := if q.chain = .none ∧ d.chain then .waiting else q.chain }).busyWith
    (some (d.tag, d.ring.val))

theorem Dev.busyWith_like {a b : Dev} (h : a.Like b) (c : Option (Nat × Nat)) : (a.busyWith c).Like (b.busyWith c) :=
  ⟨(congrArg (fun e : Dev => { e with cur := c }) h.1 :), h.2⟩

theorem Dev.opened_like (s : Dev) (d : Desc) : (s.opened d).Like (s.busyWith (some (d.tag, d.ring.val))) :=
  Dev.busyWith_like (s.iff_like _ _ fun s => s.setRing_like _ _) _

/-- The action phase of a descriptor that acts is the opcode's action on the device so opened. -/
theorem Dev.descriptor_acts {s : Dev} {d : Desc} (h : s.Acts d) (act : Dev → Desc → Dev) :
    s.descriptor d act = (act (s.opened d) (Desc.stamp d s.timebase)).busyWith none := by
  have hr : (s.opened d).get GLB_BOOT_STATUS_RECOVERY = 0 :=
    ((s.opened_like d).2 _ (by unfold Fld.plain; decide)).trans h.2
  have hb : ¬ ((s.opened d).on GLB_BOOT_STATUS_RECOVERY && !recoveryOpcodes.contains d.opcode) = true := by simp [hr]
  unfold Dev.descriptor
  exact congrArg (fun e : Dev => e.busyWith none) ((if_neg h.1).trans (if_neg hb))

/-- A ring's context as last set. -/
@[simp] theorem Dev.setRing_ctx (s : Dev) (r : Nat) (c : RingCtx) : (s.setRing r c).ctx = sput {} s.ctx r c := by
  unfold Dev.setRing
  generalize h : ({ s with ctx := sput {} s.ctx r c } : Dev) = t
  have : t.ctx = sput {} s.ctx r c := by rw [← h]
  rw [← this]
  clear h this
  generalize ([0, 1, 2, 3] : List Nat) = l
  induction l generalizing t with
  | nil => rfl
  | cons k l ih =>
    refine (ih _).trans ?_
    dsimp only
    split <;> rfl

theorem Dev.ring_setRing_self (s : Dev) (r : Nat) (c : RingCtx) : (s.setRing r c).ring r = c := by
  simp [Dev.ring]

theorem Dev.ring_setRing_ne (s : Dev) {r q : Nat} (c : RingCtx) (h : r ≠ q) : (s.setRing r c).ring q = s.ring q := by
  simp [Dev.ring, sget_sput_ne _ _ _ h]

section
variable (s : Dev) (d : Desc)
@[simp] theorem Dev.opened_owner : ((s.opened d).ring d.ring).owner = (s.ring d.ring).owner := by
  have h : ∀ (t : Dev) (c : Option (Nat × Nat)) (r : Nat), (t.busyWith c).ring r = t.ring r := fun _ _ _ => rfl
  unfold Dev.opened
  rw [h]
  cases (s.ring d.ring).live
  · rw [Dev.iff_false]
  · rw [Dev.iff_true, Dev.ring_setRing_self]
@[simp] theorem Dev.opened_keeps : (s.opened d).Keeps (s.busyWith (some (d.tag, d.ring.val))) := (s.opened_like d).keeps
@[simp] theorem Dev.opened_last : (s.opened d).lastCpl = s.lastCpl := (s.opened_like d).last
theorem Dev.get_opened {f : Fld} (h : f.plain) : (s.opened d).get f = s.get f := (s.opened_like d).2 f h
@[simp] theorem Dev.acts_fresh : s.fresh.Acts d ↔ s.Acts d := Iff.rfl
@[simp] theorem Dev.ring_fresh (r : Nat) : s.fresh.ring r = s.ring r := rfl
@[simp] theorem Dev.completed_busyWith (c : Option (Nat × Nat)) (st r : Nat) :
    (s.busyWith c).Completed d st r ↔ s.Completed d st r := Iff.rfl
@[simp] theorem Dev.completed_settle (m : Mem) (st r : Nat) : (s.settle m).Completed d st r ↔ s.Completed d st r := Iff.rfl
/-- A descriptor that has just been completed is the last one completed. -/
@[simp] theorem Dev.finish_completed (st r time : Nat) : (s.finish (Desc.stamp d time) st r).Completed d st r :=
  ⟨s.timebase, by simp⟩
end

@[simp] theorem run_eq (s : State) (g : Dev → Dev) :
    run s g = .next { s with dev := (g s.dev.fresh).settle s.dev.mem } := rfl

end Sys2Proof.Machine
end

