-- ==== Sys2Proof/Laws/Transports.lean ====
section
/-! SUPPORT. An access of a set-up register by each transport, while the device serves it, is a write or a read of that
register; and a write of a register's fields gives each what its access code says. -/

-- One theorem at a time: side by side they ask for more memory than a check of the package may have.
set_option Elab.async false

namespace Sys2Proof.Machine

open Reg

/-! ## Bytes -/

@[simp] theorem length_bytesOf (k n : Nat) : (bytesOf k n).length = k := by
  induction k generalizing n with
  | zero => rfl
  | succ k ih => simp [bytesOf, ih]

theorem ofBytes_bytesOf (k n : Nat) : ofBytes (bytesOf k n) = n % 256 ^ k := by
  induction k generalizing n with
  | zero => simp [bytesOf, ofBytes, Nat.mod_one]
  | succ k ih => 
    have h : 256 ^ (k + 1) = 256 * 256 ^ k := Nat.pow_succ'
    simp only [bytesOf, ofBytes, ih, BitVec.toNat_ofNat, h]
    exact (Nat.mod_mul).symm

/-! ## Votes of an access while the device is ACTIVE -/

theorem Dev.pcieVote_active {s : Dev} (h : s.get PWR_STATE_STATE = 0) : s.pcieVote = s := by
  cases hb : s.on PWR_WAKE_EN_DB_EN <;> simp [Dev.pcieVote, h, Dev.iff, Dev.wakeSource]

theorem Dev.serialFrame_active {s : Dev} (h : s.get PWR_STATE_STATE = 0) : s.serialFrame = s.served .spi := by
  have h' : (s.modPwr fun w => { w with linger := true, serialWaived := false }).get PWR_STATE_STATE = 0 := h
  cases hb : (s.modPwr fun w => { w with linger := true, serialWaived := false }).on PWR_WAKE_EN_SER_EN <;>
    simp [Dev.serialFrame, Dev.powerSync, h, Dev.iff, Dev.wakeSource, Dev.served]

/-! ## One register access -/

theorem unitsOf_register {off : Nat} (h4 : off % 4 = 0) (hl : off < 0x10000) : unitsOf off 4 = [off] := by
  have : (off + 3) / 4 * 4 = off := by omega
  simp [unitsOf, this]; omega

theorem writesOf_register (t : Transport) {off : Nat} (h4 : off % 4 = 0) (hl : off < 0x10000) (v : Nat) :
    writesOf t off (bytesOf 4 v) = [⟨t, off, bytesOf 4 v⟩] := by
  have h1 : ¬ max off 0x80000 < min (off + 4) 0x100000 := by omega
  have h2 : (bytesOf 4 v).take 4 = bytesOf 4 v := List.take_of_length_le (by simp)
  simp [writesOf, unitsOf_register h4 hl, h1, h2]

/-- A register write that reaches the device over SPI or MDIO while it serves the transport acts at once. -/
theorem Dev.serialWrites_register {s : Dev} {t : Transport} (he : s.enabled t = true) (hb : s.booted = true)
    (ha : s.asleep = false) {off : Nat} (h4 : off % 4 = 0) (hl : off < 0x10000) (hh : isHearth off = false) (v : Nat) :
    s.serialWrites t (writesOf t off (bytesOf 4 v)) = s.writeReg off (v % 2 ^ 32) := by
  have e4 : ofBytes (bytesOf 4 v) = v % 2 ^ 32 := ofBytes_bytesOf 4 v
  have hw : s.writeArrives ⟨t, off, bytesOf 4 v⟩ = s.writeReg off (v % 2 ^ 32) := by
    unfold Dev.writeArrives
    rw [if_neg (by simp [hh]), if_neg (by simp [hb]), if_neg (by simp [ha])]
    unfold Dev.writeActs
    rw [if_pos hl, e4]
  rw [writesOf_register t h4 hl, Dev.serialWrites, he]
  exact hw

/-- A register write by a transport that the device serves writes the register (13 R440–R447, Table 13.1). -/
theorem Dev.busWrite_serving {s : Dev} {t : Transport} (h : s.Serving t) {off : Nat} (h4 : off % 4 = 0) (hl : off < 0x10000)
    (hh : isHearth off = false) (hm : ¬ (0x800 ≤ off ∧ off < 0xE00)) (v : Nat) :
    s.busWrite t off v = (s.served t).writeReg off (v % 2 ^ 32) := by
  obtain ⟨hc, hb, hs, he⟩ := h
  have hd : s.deaf = false := by simp [Dev.deaf, hc]
  have hbo : s.booted = true := by simp [Dev.booted, hb]
  have ha : s.asleep = false := by simp [Dev.asleep, hs]
  cases t with
  | pcie =>
    have h16 : off % 2 ^ 16 = off := Nat.mod_eq_of_lt hl
    have hn : decide (0x10000 ≤ off) = false := by simpa using hl
    show s.pcieArrives _ = s.writeReg off _
    unfold Dev.pcieArrives
    rw [if_neg (by simp [hd, hbo]), if_neg (by rw [BitVec.toNat_ofNat, h16, hh]; simp)]
    simp only [Dev.pcieVote_active hs, ha]
    unfold Dev.pcieServe
    have hm' : (!decide (0x10000 ≤ off) && decide (0x800 ≤ off) && decide (off < 0xE00)) = false := by
      simp only [Bool.and_eq_false_iff, decide_eq_false_iff_not]; omega
    simp only [BitVec.toNat_ofNat, h16, hn, he, h4, Bool.not_false, Bool.true_and, beq_self_eq_true, Bool.not_true] at hm' ⊢
    simp [hm']
  | spi =>
    have hx : hearthSpan off (bytesOf 4 v).length = false := by
      rw [length_bytesOf]
      simp only [isHearth, hearthSpan, Bool.and_eq_false_iff, decide_eq_false_iff_not] at hh ⊢
      omega
    show s.spiWrite off _ = _
    unfold Dev.spiWrite Dev.spiFrame
    rw [if_neg (by simp [hd]), hx]
    show (s.serialFrame).serialWrites .spi _ = _
    rw [Dev.serialFrame_active hs]
    exact Dev.serialWrites_register (s := s.served .spi) (t := .spi) he hbo ha h4 hl hh v
  | mdio =>
    show s.mdioFrame _ = _
    unfold Dev.mdioFrame
    rw [if_neg (by simp [hd]), Dev.serialFrame_active hs]
    exact Dev.serialWrites_register (s := s.served .spi) (t := .mdio) he hbo ha h4 hl hh v

/-! ## The fields of one write -/

theorem Dev.writeField_other (s : Dev) (v : Nat) {f g : Fld} (h : f.key ≠ g.key) : (s.writeField v f).get g = s.get g := by
  unfold Dev.writeField
  split <;> first | exact Dev.get_set_ne _ _ h | rfl

theorem Dev.writeField_self (s : Dev) (v : Nat) (f : Fld) : (s.writeField v f).get f = fieldAfter f (s.get f) v := by
  unfold Dev.writeField fieldAfter
  split <;> simp_all

theorem Dev.writeFields_other (s : Dev) (v : Nat) (l : List Fld) {g : Fld} (h : ∀ f ∈ l, f.key ≠ g.key) :
    (s.each l fun s f => s.writeField v f).get g = s.get g := by
  induction l generalizing s with
  | nil => rfl
  | cons a l ih =>
    exact (ih (s.writeField v a) fun f hf => h f (List.mem_cons_of_mem _ hf)).trans
      (Dev.writeField_other _ _ (h a (List.mem_cons_self ..)))

/-- Each field of a written register ends as a write of it alone would leave it, if no two share a place. -/
theorem Dev.writeFields_own (s : Dev) (v : Nat) (l : List Fld) (hl : (l.map Fld.key).Nodup) {g : Fld} (h : g ∈ l) :
    (s.each l fun s f => s.writeField v f).get g = (s.writeField v g).get g := by
  induction l generalizing s with
  | nil => cases h
  | cons a l ih =>
    simp only [List.map_cons, List.nodup_cons, List.mem_map, not_exists, not_and] at hl
    rcases List.mem_cons.1 h with rfl | h
    · exact Dev.writeFields_other _ _ _ fun f hf e => hl.1 f hf e
    · refine (ih (s.writeField v a) hl.2 h).trans ?_
      have hne : a.key ≠ g.key := fun e => hl.1 g h e.symm
      rw [Dev.writeField_self, Dev.writeField_self, Dev.writeField_other _ _ hne]

end Sys2Proof.Machine
end

