-- ==== Sys2Proof/Laws/Registers.lean ====
section
/-! SUPPORT. The register map: the fields at an offset lie there, within 32 bits, and apart from one another. -/

-- One theorem at a time: side by side they ask for more memory than a check of the package may have.
set_option Elab.async false

namespace Sys2Proof.Machine

open Reg

/-- The fields of one instance of a row lie at its offset, within 32 bits, apart, and reset to values that fit. -/
def rowGood (r : RegRow) : Bool :=
  (List.range r.count).all fun i =>
    let l := r.fields.map fun f => f i
    (l.all fun f => f.off == r.base + r.stride * i && decide (f.lsb + f.width ≤ 32) && f.width != 0 &&
      decide (f.reset < 2 ^ f.width)) &&
    decide (l.Pairwise fun a b => a.lsb + a.width ≤ b.lsb ∨ b.lsb + b.width ≤ a.lsb)

theorem rows0_good : rows0.all rowGood = true := by decide +kernel
theorem rows1_good : rows1.all rowGood = true := by decide +kernel
theorem rows2_good : rows2.all rowGood = true := by decide +kernel
theorem rows3_good : rows3.all rowGood = true := by decide +kernel
theorem rows4_good : rows4.all rowGood = true := by decide +kernel
theorem rows8_good : rows8.all rowGood = true := by decide +kernel
theorem rows9_good : rows9.all rowGood = true := by decide +kernel
theorem rowsA_good : rowsA.all rowGood = true := by decide +kernel
theorem rowsB_good : rowsB.all rowGood = true := by decide +kernel
theorem rowsC_good : rowsC.all rowGood = true := by decide +kernel
theorem rowsD_good : rowsD.all rowGood = true := by decide +kernel
theorem rowsE_good : rowsE.all rowGood = true := by decide +kernel

theorem blockRows_good (off : Nat) : (blockRows off).all rowGood = true := by
  unfold blockRows
  split <;> simp only [rows0_good, rows1_good, rows2_good, rows3_good, rows4_good, rows8_good, rows9_good, rowsA_good,
    rowsB_good, rowsC_good, rowsD_good, rowsE_good, List.all_nil]

/-- The fields at an offset are those of one instance of a row, or none. -/
theorem fieldsAt_cases (off : Nat) :
    fieldsAt off = [] ∨ ∃ r ∈ blockRows off, ∃ i, i < r.count ∧ off = r.base + r.stride * i ∧
      fieldsAt off = r.fields.map fun f => f i := by
  unfold fieldsAt
  cases h : (blockRows off).findSome? fun r => (r.instAt off).map fun i => r.fields.map fun f => f i with
  | none => exact .inl rfl
  | some l =>
    obtain ⟨r, hr, e⟩ := List.exists_of_findSome?_eq_some h
    obtain ⟨i, hi, rfl⟩ := Option.map_eq_some_iff.1 e
    refine .inr ⟨r, hr, i, ?_⟩
    simp only [RegRow.instAt] at hi
    split at hi <;> rename_i hb
    · simp only [Option.ite_none_right_eq_some] at hi
      obtain ⟨⟨h0, h1⟩, hi⟩ := hi
      cases hi
      have := Nat.mul_div_cancel' (Nat.dvd_of_mod_eq_zero h0)
      exact ⟨h1, by omega, rfl⟩
    · cases hi

theorem fieldsAt_all (off : Nat) :
    (∀ f ∈ fieldsAt off, f.off = off ∧ f.lsb + f.width ≤ 32 ∧ f.width ≠ 0 ∧ f.reset < 2 ^ f.width) ∧
    (fieldsAt off).Pairwise fun a b => a.lsb + a.width ≤ b.lsb ∨ b.lsb + b.width ≤ a.lsb := by
  rcases fieldsAt_cases off with h | ⟨r, hr, i, hi, ho, h⟩
  · simp [h]
  · have g := List.all_eq_true.1 (blockRows_good off) r hr
    have g := List.all_eq_true.1 g i (List.mem_range.2 hi)
    simp only [Bool.and_eq_true, List.all_eq_true, decide_eq_true_eq, beq_iff_eq, bne_iff_ne] at g
    rw [h]
    exact ⟨fun f hf => by obtain ⟨⟨⟨a, b⟩, c⟩, d⟩ := g.1 f hf; exact ⟨a.trans ho.symm, b, c, d⟩, g.2⟩

/-- No two fields of a register share a place. -/
theorem fieldsAt_nodup (off : Nat) : ((fieldsAt off).map Fld.key).Nodup := by
  have h := fieldsAt_all off
  rw [List.Nodup, List.pairwise_map]
  refine h.2.imp_of_mem fun {a b} ha hb hab e => ?_
  have h1 := h.1 a ha
  have h2 := h.1 b hb
  unfold Fld.key at e
  rw [h1.1, h2.1] at e
  omega

/-- A field at another offset is another place. -/
theorem fieldsAt_key_ne {off : Nat} {f g : Fld} (hf : f ∈ fieldsAt off) (hl : g.lsb < 32) (ho : g.off ≠ off) : f.key ≠ g.key := by
  have h := (fieldsAt_all off).1 f hf
  unfold Fld.key
  omega

/-- A write of a register's fields leaves each as its access code says. -/
theorem Dev.writeFields_at (s : Dev) (v off : Nat) {f : Fld} (h : f ∈ fieldsAt off) :
    (s.each (fieldsAt off) fun s f => s.writeField v f).get f = fieldAfter f (s.get f) v :=
  (Dev.writeFields_own s v _ (fieldsAt_nodup off) h).trans (Dev.writeField_self s v f)

/-- A write of a register's fields changes nothing but register fields. -/
theorem Dev.writeFields_core (s : Dev) (v : Nat) (l : List Fld) :
    { s.each l (fun s f => s.writeField v f) with regs := [] } = { s with regs := [] } := by
  induction l generalizing s with
  | nil => rfl
  | cons a l ih =>
    refine (ih (s.writeField v a)).trans ?_
    unfold Dev.writeField
    split <;> rfl

/-- A write of any other register sets nothing going. -/
theorem Dev.regWritten_quiet (s old : Dev) (off v : Nat) (h : setsGoing off = false) : s.regWritten old off v = s := by
  unfold setsGoing at h
  unfold Dev.regWritten
  split at h
  · rename_i hp
    rw [if_pos hp]
    unfold Dev.portWritten
    split <;> simp_all
  · rename_i hp
    rw [if_neg hp]
    split at h
    · rename_i hl
      rw [if_pos hl]
      split <;> simp_all
    · rename_i hl
      rw [if_neg hl]
      split at h
      · rename_i hc
        have : ¬ (0xA100 ≤ off ∧ off < 0xA280) := by simp [inChans] at hc; omega
        rw [if_neg this]
        split <;> first | rfl | (exfalso; revert hc; decide)
      · split at h
        · rename_i ha
          rw [if_pos ha]
          split <;> simp_all
        · rename_i ha
          rw [if_neg ha]
          split <;> simp_all

end Sys2Proof.Machine
end

