-- ==== Sys2Proof/Tests/Slice0.lean ====
section
/-! SUPPORT. The model's own tests: ill-formed operands that WellFormed refuses, single steps against the spec's own numbers,
and for every statement with hypotheses operands and a state that meet them. -/

-- One theorem at a time: side by side they ask for more memory than a check of the package may have.
set_option Elab.async false

namespace Sys2Proof.Tests

open Sys2Proof.Machine Sys2Proof.Machine.Reg

/-- A device with fields set. -/
def having (s : Dev) (l : List (Fld × Nat)) : Dev := l.foldl (fun s e => s.set e.1 e.2) s
/-- A descriptor of ring 0 by its bytes. -/
def dsc (l : List (Nat × Nat)) : Desc := { ring := 0, body := BitVec.ofNat 256 (l.foldl (fun a e => a + e.2 * 256 ^ e.1) 0) }
/-- A record of the event recorder. -/
def entry (n : Nat) : EvRec :=
  { seq := n, hours := 0, cycles := 0, cal := {}, sub := 0, sev := 0, rtcValid := false, deferred := false, bit := 0xF0
    source := 0x3402, payload := [] }
/-- A device that has booted and serves every transport. -/
def serving (s : Dev) : Dev :=
  having { s with sys := { s.sys with core := .running } }
    [(GLB_BOOT_STATUS_BOOT_DONE, 1), (GLB_TRANSPORT_PCIE_EN, 1), (GLB_TRANSPORT_SPI_EN, 1), (GLB_TRANSPORT_MDIO_EN, 1)]

/-! ## Ill-formed operands -/

/-- The device after a command. -/
def after (o : Host.Outcome State Fault Refusal) : Dev :=
  match o with
  | .next t => t.dev
  | _ => {}
/-- A descriptor with an opcode, and with two of its parameter bytes. -/
def opc (n : Nat) (a b : Nat := 0) : Desc := dsc [(0, n), (16, a), (17, b)]
/-- A message frame. -/
def frame : Frame := { seq := 1 }

theorem test_wf_opcodes :
    (([.portConfig, .portStart, .portStop, .portReset, .portStatus, .portRetrain, .cableDiag, .lmcSend, .lmcReceive, .eyeScan,
      .adcCalStatus, .adcCalCycle, .adcCalHold, .adcCalRelease, .adcCalRequalify, .adcCalTrimDump, .hostLaneConfig,
      .hostLaneLoopback, .hostLanePrbsSet, .hostLanePrbsRead, .hostLanePrbsClear, .hostLanePrbsReadClear, .hostLaneBitslip,
      .laneMap, .loopConfig, .loopCoeffSwap, .loopTableLoad, .loopInject, .loopCaptureArm, .loopCaptureRead, .auxDacQueue,
      .auxDacConfig, .loopRestart, .monConfigInput, .monConfigSlots, .monConfigPower, .monConfigCalCycle, .monRead,
      .monSyscalZero, .monSyscalFull, .monSyscalDefault, .cicConfig, .ringCreate, .ringDestroy, .ringQuery, .eventEnable,
      .identify, .nop, .telemetryStream] : List (Desc → Instr)).all fun c => !(c (opc 0xEE)).wf) = true := by decide

theorem test_wf_more_opcodes :
    (([.ctrConfigWrite, .ctrConfigClear, .ctrSnapshot, .ctrSnapshotClear, .ctrFreeze, .ctrUnfreeze, .ctrReadCounters,
      .ctrReadSamples, .memScrubConfig, .memTestWrite, .memRead, .memWrite, .checkRunCompute, .checkRunVerifyMem,
      .checkRunVerifyParam, .checkRunAppend, .checkContextSave, .checkContextLoad, .powerVoteHold, .powerVoteRelease,
      .powerVoteEnter, .powerVoteDoze, .powerVoteWake, .powerStats, .powerCap, .thermalStatus, .caseTempReport, .evrRead,
      .evrFreeze, .evrRelease, .evrClear, .traceRead, .rtcSet, .rtcGet, .softReset, .cfgWrite, .cfgRead, .fwLoad,
      .fwActivateSwitch, .fwActivateTrial, .fwActivateCommit, .fwActivateRaiseRollback, .captureAdc, .captureRead] :
      List (Desc → Instr)).all fun c => !(c (opc 0xEE)).wf) = true := by decide

/-- The right opcode with another action. -/
theorem test_wf_actions :
    [.adcCalCycle (opc 0x1A), .hostLanePrbsRead (opc 0x22), .loopCaptureRead (opc 0x34), .loopCaptureArm (opc 0x34 0 1),
      .monConfigSlots (opc 0x40), .monSyscalFull (opc 0x42), .ctrConfigClear (opc 0xA0), .ctrConfigWrite (opc 0xA0 0 1),
      .ctrFreeze (opc 0xA1), .ctrReadSamples (opc 0xA2), .ctrReadCounters (opc 0xA2 2), .checkRunAppend (opc 0x50),
      .powerVoteRelease (opc 0x80), .powerVoteWake (opc 0x80), .evrFreeze (opc 0x71), .evrRelease (opc 0x71 1),
      .fwActivateTrial (opc 0x91), .unknownOpcode (opc 0x10)].all (fun c : Instr => !c.wf) = true := by decide

theorem test_wf_messages :
    [.fdReady 0 frame 0 256 0 0, .fdConfirm 0 frame 256 0 0 0, .fdAbandon 0 frame 256 0, .coefReq 0 frame 256 0 0,
      .coefResp 0 frame 256 0 0 0, .ready 0 frame 256, .dataAt 0 frame 256, .remoteSnr 0 frame 0 0 65536,
      .eventNotice 0 frame 256 0, .ack 0 256 0, .lmcUserMessage 0 frame 0x3F [], .lullReq 0 frame 256,
      .lullResp 0 frame 256 0 0, .linkParam 0 frame
        ⟨16, false, false, false, false, 0⟩].all (fun c : Instr => !c.wf) = true := by decide

theorem test_wf_measurements :
    [.rssiUpdate 0 .a 256, .gainLoopUpdate 0 .a 0 0 0, .healthWindowEnd 0 .a [⟨64, 0, 0, 0, 0⟩],
      .startupCalDone 0 [⟨.a, 66, [], []⟩], .cdrUpdate 0 (some { samples := [] }) none,
      .cableDiagProbeDone 0 [⟨.a, [], false, 0⟩, ⟨.a, [], false, 0⟩], .codewordDecode 0 .rx [0],
      .codewordDecode 0 .rx (List.replicate 66 1024), .correlatorHit 0 9 0 1 0, .confirmMarkerFound 0 .data 2051 [],
      .hostIdleDetect 0 3, .hostCtleTrialEnd 0 256, .hostRxSnrWindowEnd 0 256 [], .hostRxSnrWindowEnd 0 0 [4],
      .sleepWordRx 0 (List.replicate 33 0), .wakeWordRx 0 (List.replicate 33 0)].all (fun c : Instr => !c.wf) = true := by decide

theorem test_wf_readings :
    [.monHealthWindowEnd [], .monHealthWindowEnd (List.replicate 256 (0, 4096)), .monStartupCalDone [⟨5, []⟩],
      .checkerLockLoss 0 1 2, .zonePowerSample [], .caseWakeConversion 65536,
      .govIntervalEnd [⟨0, 8193, 0⟩], .govIntervalEnd [⟨0, 0, 0⟩, ⟨0, 1, 0⟩]].all (fun c : Instr => !c.wf) = true := by decide +kernel

theorem test_wf_accesses :
    [.registerWrite .spi (.setup 1) 0, .registerWrite .pcie (.msix 0x600) 0, .registerWrite .mdio (.mdio 0 32 0) 0,
      .latchedLoRead .spi (.setup 2), .spiWrite 0 [], .spiQuadWrite 0 [], .spiRead 0 0, .spiQuadRead 0 0, .spiIgnoredCommand 0x02,
      .pcieMemoryRequest { bar2 := false, off := 2, write := none }, .memReady [⟨0, 131072, 1⟩], .dozeWakeDone 0 [⟨4, 8192, 1⟩],
      .powerVoteDozeTimeout 0 65536, .cfgAutoWrite 16, .bypass 0x02].all (fun c : Instr => !c.wf) = true := by decide

/-! ## The spec's worked examples -/

/-- 15 Table 15.6: the CRC-32C of "123456789". -/
theorem test_crc32c : crc32c ([0x31, 0x32, 0x33, 0x34, 0x35, 0x36, 0x37, 0x38, 0x39] : List Byte) = 0xE3069283 := by
  decide +kernel

/-- 15 worked example: code(4) is 0x13, and code(4) with code(5) is 0x06. -/
theorem test_check_bits : checkBits 0x10 = 0x13 ∧ checkBits 0x30 = 0x06 := by decide +kernel

/-- Ring memory with word 512 as a test write leaves it. -/
def upset (x : BitVec 64) : State :=
  { dev := { mem := { die := vmod (Vector.replicate 20 []) 2 fun _ => [(512, ⟨x, 0, true⟩)] }
             regs := [] } }

/-- 15 worked example, step 1: a single-bit error is corrected, counted and shown. -/
theorem test_mem_read_corrects :
    let d := after (execMemRead (dsc [(0, 0x62), (2, 7), (4, 8), (8, 0x40), (16, 2), (21, 0x10)]) (upset 0x10))
    d.lastCpl = some (0, { status := stOk, tag := 7, result := 8, time := 0 }) ∧
    sget {} (d.mem.die.get 2) 512 = ⟨0, 0, true⟩ ∧ d.get (MEM_m_COUNT_CE_COUNT 2) = 1 := by decide +kernel

/-- 15 worked example, step 3: a narrow write onto an uncorrectable word poisons it and completes MEM_UE. -/
theorem test_mem_write_poisons :
    let d := after (execMemWrite (dsc [(0, 0x63), (2, 7), (4, 2), (8, 0x40), (16, 2), (20, 2), (21, 0x10)]) (upset 0x30))
    d.lastCpl = some (0, { status := stMemUe, tag := 7, result := 0, time := 0 }) ∧
    sget {} (d.mem.die.get 2) 512 = ⟨0, 0x03, true⟩ := by decide +kernel

/-- 21 worked example, steps 2 and 3: an MDIO read of LPn_FEC_CTRL of LP5. -/
theorem test_mdio_read :
    let d := after (execMdioDataLoRead { dev := (serving {}).modMdio fun m => { m with addr := 0x6D00, autoInc := true } })
    d.readData = bytesOf 2 0x8000 ∧ d.mdio.hiLatch = 0x7E90 := by decide +kernel

/-- 21 worked example, step 5: the commit through the window. -/
theorem test_mdio_commit :
    let d := after (execMdioDataHiWrite 0x9E90
      { dev := (serving {}).modMdio fun m => { m with addr := 0x6D00, autoInc := true, loHold := 0x8000 } })
    d.get (LPn_FEC_CTRL_ITER_MAX 5) = 4 ∧ d.mdio.addr = 0x6D04 := by decide +kernel

/-- 03 worked example: the accepted measurements change the trims by −5, +8 and −12 LSB. -/
theorem test_cal_trims :
    calTarget {} ⟨135 / 100, -41 / 100, 290⟩ ⟨115 / 100, -37 / 100, 310⟩ = (-5, 8, -12) := by decide +kernel

/-- 03 worked example: attempt 1 disagrees in offset, attempt 2 agrees. -/
theorem test_cal_agree :
    calAgree ⟨16 / 10, -42 / 100, 280⟩ ⟨9 / 10, -38 / 100, 320⟩ = false ∧
    calAgree ⟨135 / 100, -41 / 100, 290⟩ ⟨115 / 100, -37 / 100, 310⟩ = true := by decide +kernel

/-- 11 worked example: the class H table at 41,200, 48,000 and 45,900. -/
theorem test_table_code :
    let t := Vector.ofFn fun (i : Fin 65) => 9800 + 300 * (i.val - 40)
    tableCode t 41200 = 9870 ∧ tableCode t 48000 = 11863 ∧ tableCode t 45900 = 11247 := by decide +kernel

/-- 12 worked example: the coefficients of MI4 from z = 52 and f = 52,664. -/
theorem test_syscal_full :
    let s : State := { dev := ({} : Dev).modIn 4 fun n =>
      { n with zero := some 52, syscal := some { target := some 52429, avg := 0, sum := 256 * 52664, taken := 256, got := [52664] } } }
    (after (execMonSyscalMeasureEnd 4 s)).get (MON_INm_CAL_GAIN 4) = 16327 := by decide +kernel

/-- 04 worked example: the SNR codes of levels 0 and 3. -/
theorem test_snr_codes : snrCode false (64 * 1296, 1) = 180 ∧ snrCode false (64 * 2500, 1) = 152 := by decide +kernel

/-- 06 worked example: P2 is −8, 48, −8. -/
theorem test_tx_preset : (txPreset 2).toList.filter (· != 0) = [-8, 48, -8] := by decide +kernel

/-- 13 worked example: the record of LP2, UP in OPT-400 on two lanes with the inner code on. -/
theorem test_port_status :
    let d := (having {} [(LPn_LINK_STATUS_LINK_STATE 2, 4), (LPn_ACQ_STATUS_ACQ_STATE 2, 7), (LPn_ACQ_STATUS_RESOLVED 2, 1),
      (LPn_PORT_CFG_MODE 2, 1), (LPn_FEC_STATUS_INNER_ON 2, 1)]).modLink 2 fun l => { l with mode := 1, lanes := 2 }
    (d.statusRecord 2).take 4 = [0x04, 0x07, 0x11, 0x0A] := by decide +kernel

/-! ## Single steps -/

/-- 20 R635: IDCODE shifts 0x13208B47 out. -/
theorem test_idcode : (after (execIdcode State.reset)).readData = [0x47, 0x8B, 0x20, 0x13] := by decide +kernel

/-- 18 R591: a negative correction skips periods. -/
theorem test_rtc_correction :
    (after (execRtcCorrection { dev := having {} [(GLB_HW_STATUS_XTAL_OK, 1), (RTC_CTRL_CORR, 65535)] })).rtc.skip = 1 := by
  decide +kernel

/-- 00 Table 0.5: a one clears a W1C bit, a zero leaves it. -/
theorem test_write_one_to_clear :
    let s : State := { dev := having (serving {}) [(RTC_STATUS_RTC_VALID, 1), (GLB_HW_EVENTS_XTAL_STOPPED, 1),
      (GLB_HW_EVENTS_REFCLK_LINE_LOST, 1)] }
    let d := after (execRegisterWrite .pcie (.setup (BitVec.ofNat 16 GLB_HW_EVENTS_XTAL_STOPPED.off))
      (BitVec.ofNat 32 (2 ^ GLB_HW_EVENTS_XTAL_STOPPED.lsb)) s)
    d.get GLB_HW_EVENTS_XTAL_STOPPED = 0 ∧ d.get GLB_HW_EVENTS_REFCLK_LINE_LOST = 1 := by decide +kernel

/-- An empty queue lets no time pass before the supplies are good. -/
theorem test_idle : step State.reset = .next State.reset := by rfl

/-! ## The hypotheses of the statements can be met -/


theorem witness_EmptyQueuePassesTime :
    ∃ s : State, s.pending = [] :=
  ⟨State.reset, rfl⟩

theorem witness_StepKeepsSafe :
    ∃ s t : State, s.Inv ∧ Steps s t :=
  ⟨State.reset, State.reset, by decide, rfl⟩

theorem witness_RegisterWriteByAccessCode :
    ∃ (s : State) (t : Transport) (off : BitVec 16), s.dev.Serving t ∧ off.toNat % 4 = 0 ∧ isHearth off.toNat = false ∧ ¬
      (0x800 ≤ off.toNat ∧ off.toNat < 0xE00) ∧ setsGoing off.toNat = false :=
  ⟨⟨serving {}, []⟩, .pcie, 0x4004, by decide, rfl, rfl, by decide, rfl⟩

theorem witness_SignalStrengthAndGain :
    (∃ (p : Port) (x : Pair) (code : Nat) (s : State), s.dev.powered p x = true ∧ s.dev.get (LPn_RXFE_STATUS_AGC p x) =
      agcFast ∧ s.dev.get (LPn_SIGDET_SD_THRESH p) ≤ min code 127) ∧
    (∃ (p : Port) (x : Pair) (code : Nat) (s : State), s.dev.powered p x = true ∧ s.dev.get (LPn_RXFE_STATUS_AGC p x) =
      agcFast ∧ s.dev.get (LPn_RXFE_STATUS_SIG_DET p x) = 0 ∧ min code 127 + s.dev.get (LPn_SIGDET_SD_HYST p) < s.dev.get
      (LPn_SIGDET_SD_THRESH p)) ∧
    (∃ (p : Port) (x : Pair) (sumSq : Nat) (n : Nat) (g : Nat) (s : State), s.dev.powered p x = true ∧ s.dev.get
      (LPn_RXFE_STATUS_AGC p x) = agcTrack ∧ n ≠ 0 ∧ s.dev.get (LPn_RXFE_STATUS_GAIN p x) = g + 1 ∧ s.dev.gainMin p ≤ g ∧
      g < 96 ∧ ratioAtLeast sumSq (n * (max (s.dev.get (LPn_RXFE_CTRL_AGC_TARGET p)) 16) ^ 2) 1 20 = true) :=
  ⟨⟨0, .b, 61, ⟨(fun b : Dev => b.modPort 0 fun q => { q with link := { q.link with mode := 4 } }) (having {}
     ([(LPn_LINK_STATUS_LINK_STATE 0, 2), (LPn_RXFE_STATUS_AGC_B 0, 1), (LPn_SIGDET_SD_THRESH 0, 20)])), []⟩,
     by decide +kernel⟩,
   ⟨0, .b, 1, ⟨(fun b : Dev => b.modPort 0 fun q => { q with link := { q.link with mode := 4 } }) (having {}
     ([(LPn_LINK_STATUS_LINK_STATE 0, 2), (LPn_RXFE_STATUS_AGC_B 0, 1), (LPn_SIGDET_SD_THRESH 0, 20), (LPn_SIGDET_SD_HYST
     0, 2), (LPn_RXFE_STATUS_SIG_DET_B 0, 0)])), []⟩, by decide +kernel⟩,
   ⟨0, .b, 10000000, 100, 42, ⟨(fun b : Dev => b.modPort 0 fun q => { q with link := { q.link with mode := 4 } }) (having
     {} ([(LPn_LINK_STATUS_LINK_STATE 0, 3), (LPn_RXFE_STATUS_AGC_B 0, 3), (LPn_RXFE_STATUS_GAIN_B 0, 43),
     (LPn_RXFE_CTRL_GAIN_MIN 0, 0)])), []⟩, by decide +kernel⟩⟩

theorem witness_BackgroundCalibration :
    (∃ (p : Port) (x : Pair) (s : State), s.dev.linkState p = 3 ∨ s.dev.linkState p = 4 ∧ s.dev.powered p x = true ∧
      s.dev.get (LPn_RXFE_STATUS_SIG_DET p x) = 1 ∧ s.dev.get (LPn_ADC_CAL_CTRL_CAL_EN p) = 1 ∧ s.dev.get
      (LPn_ADC_CAL_STATUS_HOLD_ACTIVE p) = 0 ∧ (s.dev.adcOf p x).free ≠ [] ∧ (s.dev.adcOf p x).step = none ∧
      s.dev.coreRuns = true) ∧
    (∃ (p : Port) (x : Pair) (c : CalStep) (s : State), (s.dev.adcOf p x).step = some c ∧ c.target = none ∧ c.disturbed =
      false ∧ c.got = [] ∧ s.dev.get (LPn_RXFE_STATUS_SIG_DET p x) = 1) ∧
    (∃ (p : Port) (x : Pair) (m : CalSums) (m0 : CalMeas) (c : CalStep) (s : State), (s.dev.adcOf p x).step = some c ∧
      c.target = none ∧ c.disturbed = false ∧ c.got = [m0] ∧ s.dev.get (LPn_RXFE_STATUS_SIG_DET p x) = 1 ∧ calAgree m0
      (s.dev.calMeas p m) = true ∧ c.slice < 66) ∧
    (∃ (p : Port) (x : Pair) (c : CalStep) (o : Int) (g : Int) (k : Int) (s : State), (s.dev.adcOf p x).step = some c ∧
      c.target = some (o, g, k) ∧ c.slice < 66 ∧ temper ((s.dev.adcOf p x).at c.slice).off o ≠ o) ∧
    (∃ (p : Port) (x : Pair) (e : HealthStat) (s : State), s.dev.powered p x = true ∧ s.dev.get (LPn_RXFE_STATUS_SIG_DET
      p x) = 1 ∧ e.pos < 64 ∧ e.lo = e.hi ∧ (s.dev.adcOf p x).placed e.pos < 66 ∧ ((s.dev.adcOf p x).at ((s.dev.adcOf p
      x).placed e.pos)).failed = false ∧ ((s.dev.adcOf p x).at ((s.dev.adcOf p x).placed e.pos)).bad = 0) ∧
    (∃ (p : Port) (s : State), s.dev.get (LPn_ADC_CAL_STATUS_HOLD_ACTIVE p) = 1) :=
  ⟨⟨0, .b, ⟨(fun b : Dev => (b.modPort 0 fun q => { q with link := { q.link with mode := 4 } }).modSys fun y =>
     { y with core := .running }) (having {} ([(LPn_LINK_STATUS_LINK_STATE 0, 3), (LPn_RXFE_STATUS_SIG_DET_B 0, 1),
     (LPn_ADC_CAL_CTRL_CAL_EN 0, 1), (LPn_ADC_CAL_STATUS_HOLD_ACTIVE 0, 0)])), []⟩, by decide +kernel⟩,
   ⟨0, .b, ⟨2, 64, [], 1, false, none⟩, ⟨(fun b : Dev => b.modAdc 0 .b fun a =>
     { a with step := some ⟨2, 64, [], 1, false, none⟩ }) (having {} ([(LPn_RXFE_STATUS_SIG_DET_B 0, 1)])), []⟩,
     by decide +kernel⟩,
   ⟨0, .b, ⟨0, 1, 0, 64, 0, 1⟩, ⟨1 / 4, 0, 10⟩, ⟨2, 64, [⟨1 / 4, 0, 10⟩], 1, false, none⟩, ⟨(fun b : Dev => b.modAdc 0 .b
     fun a => { a with step := some ⟨2, 64, [⟨1 / 4, 0, 10⟩], 1, false, none⟩ }) (having {} ([(LPn_RXFE_STATUS_SIG_DET_B
     0, 1)])), []⟩, by decide +kernel⟩,
   ⟨0, .b, ⟨2, 64, [], 1, false, some (5, -3, 0)⟩, 5, -3, 0, ⟨(fun b : Dev => b.modAdc 0 .b fun a =>
     { a with step := some ⟨2, 64, [], 1, false, some (5, -3, 0)⟩ }) (({} : Dev)), []⟩, by decide +kernel⟩,
   ⟨0, .b, ⟨7, 3, 3, 12288, 36864⟩, ⟨(fun b : Dev => b.modPort 0 fun q => { q with link := { q.link with mode := 4 } })
     (having {} ([(LPn_LINK_STATUS_LINK_STATE 0, 3), (LPn_RXFE_STATUS_SIG_DET_B 0, 1)])), []⟩, by decide +kernel⟩,
   ⟨1, ⟨having {} ([(LPn_ADC_CAL_STATUS_HOLD_ACTIVE 1, 1)]), []⟩, by decide +kernel⟩⟩

theorem witness_AdcCalActions :
    (∃ (c : Desc) (s : State), s.dev.Acts c ∧ calPairs c ≠ []) ∧
    (∃ (c : Desc) (x : Pair) (s : State), s.dev.Acts c ∧ calPairs c = [x] ∧ s.dev.linkState (Desc.port c) = 4 ∧ s.dev.get
      (LPn_ADC_CAL_STATUS_HOLD_ACTIVE (Desc.port c)) = 0 ∧ s.dev.waiting (.adcCycle (Desc.port c)) = none ∧ s.dev.powered
      (Desc.port c) x = true ∧ (s.dev.adcOf (Desc.port c) x).free ≠ [] ∧ s.dev.calMay (Desc.port c) x = true ∧
      s.dev.rotation (Desc.port c) x ≠ 0) ∧
    (∃ (c : Desc) (s : State), s.dev.Acts c ∧ calPairs c ≠ [] ∧ 0 < c.bytes 20 2 ∧ c.bytes 20 2 ≤ 10000 ∧ s.dev.get
      (LPn_ADC_CAL_STATUS_REHOLD_BLOCK (Desc.port c)) = 0) ∧
    (∃ (c : Desc) (s : State), s.dev.Acts c ∧ calPairs c ≠ []) ∧
    (∃ (c : Desc) (x : Pair) (s : State), s.dev.Acts c ∧ calPairs c = [x] ∧ (s.dev.retired (Desc.port c) x).contains
      (c.bits 19 6 0) = true ∧ s.dev.linkState (Desc.port c) = 0) ∧
    (∃ (p : Port) (c : Desc) (r : SliceRun) (s : State), s.dev.linkState p = 0 ∧ s.dev.waits = [(.adcRequal p, c)] ∧
      r.pair = (if c.flag 17 0 then Pair.a else .b) ∧ r.slice = c.bits 19 6 0 ∧ r.slice < 66 ∧ (calPass ((s.dev.adcOf p
      r.pair).at r.slice) (s.dev.calPassMeas p r.pass1)).2 = false ∧ (calPass (calPass ((s.dev.adcOf p r.pair).at
      r.slice) (s.dev.calPassMeas p r.pass1)).1 (s.dev.calPassMeas p r.pass2)).2 = false) ∧
    (∃ (c : Desc) (s : State), s.dev.Acts c ∧ calPairs c ≠ [] ∧ c.length = 528 * (calPairs c).length ∧ (s.dev.ring
      c.ring).owner = 0) ∧
    (∃ (p : Port) (s : State), s.dev.linkState p = 1) :=
  ⟨⟨dsc [(0, 0x10), (1, 1), (16, 1), (17, 3)], ⟨having {} ([(GLB_BOOT_STATUS_RECOVERY, 0)]), []⟩, by decide +kernel⟩,
   ⟨dsc [(0, 0x10), (16, 1), (17, 2)], .b, ⟨(fun b : Dev => ({ b with waits := [] }.modPort 1 fun q =>
     { q with link := { q.link with mode := 4 } }).modSys fun y => { y with core := .running }) (having {}
     ([(GLB_BOOT_STATUS_RECOVERY, 0), (LPn_LINK_STATUS_LINK_STATE 1, 4), (LPn_ADC_CAL_STATUS_HOLD_ACTIVE 1, 0),
     (LPn_RXFE_STATUS_SIG_DET_B 1, 1), (LPn_ADC_CAL_CTRL_CAL_EN 1, 1)])), []⟩, by decide +kernel⟩,
   ⟨dsc [(0, 0x10), (16, 1), (17, 3), (20, 77)], ⟨having {} ([(GLB_BOOT_STATUS_RECOVERY, 0),
     (LPn_ADC_CAL_STATUS_REHOLD_BLOCK 1, 0)]), []⟩, by decide +kernel⟩,
   ⟨dsc [(0, 0x10), (16, 1), (17, 3)], ⟨having {} ([(GLB_BOOT_STATUS_RECOVERY, 0)]), []⟩, by decide +kernel⟩,
   ⟨dsc [(0, 0x10), (16, 1), (17, 2), (19, 5)], .b, ⟨having {} ([(GLB_BOOT_STATUS_RECOVERY, 0),
     (LPn_LINK_STATUS_LINK_STATE 1, 0), (LPn_ADC_RETIRE_RET1_B 1, 5)]), []⟩, by decide +kernel⟩,
   ⟨1, dsc [(17, 2), (19, 5)], ⟨.b, 5, [(⟨0, 1, 0, 64, 0, 1⟩, ⟨0, 1, 0, 64, 0, 1⟩)], [(⟨0, 1, 0, 64, 0, 1⟩, ⟨0, 1, 0, 64,
     0, 1⟩)]⟩, ⟨(fun b : Dev => { b with waits := [(.adcRequal 1, dsc [(17, 2), (19, 5)])] }) (having {}
     ([(LPn_LINK_STATUS_LINK_STATE 1, 0), (LPn_ADC_RETIRE_RET1_B 1, 5)])), []⟩, by decide +kernel⟩,
   ⟨dsc [(0, 0x10), (5, 2), (4, 0x10), (16, 1), (17, 1)], ⟨(fun b : Dev => { b with ctx := [] }) (having {}
     ([(GLB_BOOT_STATUS_RECOVERY, 0)])), []⟩, by decide +kernel⟩,
   ⟨0, ⟨having {} ([(LPn_LINK_STATUS_LINK_STATE 0, 1)]), []⟩, by decide +kernel⟩⟩

theorem witness_EqualiserAndPhaseLoop :
    (∃ (p : Port) (x : Pair) (s : State), s.dev.get (LPn_EQ_STATUS_CONV p x) = 1 ∧ isFd (s.dev.mode p) = false) ∧
    (∃ (p : Port) (x : Pair) (s : State), s.dev.get (LPn_EQ_STATUS_ADAPT p x) = adRecover ∧ (s.dev.eqOf p x).recover = 1
      ∧ (s.dev.eqOf p x).recoverWait = 0 ∧ s.dev.coreRuns = true ∧ s.dev.get (LPn_EQ_CTRL_SW_FREEZE p) = 0) ∧
    (∃ (p : Port) (s : State), s.dev.linkState p = 4 ∧ s.dev.powered p .b = true ∧ s.dev.acqState p = 7 ∧ isFd
      (s.dev.mode p) = false ∧ (s.dev.prt p).fd.inWin = false ∧ s.dev.get (LPn_EQ_STATUS_ADAPT p .b) = adFine ∧ s.dev.get
      (LPn_CDR_STATUS_LOCK p .b) = 1 ∧ (s.dev.eqOf p .b).clamps = 0) ∧
    (∃ (p : Port) (s : State), s.dev.powered p .b = true ∧ isFd (s.dev.mode p) = false ∧ (levelsOf (isNrz (s.dev.mode
      p))).all (fun k => ((s.dev.eqOf p .b).met.toList.getD k (0, 0)).1 != 0) = true ∧ s.dev.get (LPn_FEC_STATUS_INNER_ON
      p) = 0) :=
  ⟨⟨1, .b, ⟨(fun b : Dev => b.modPort 1 fun q => { q with link := { q.link with mode := 4 } }) (having {}
     ([(LPn_EQ_STATUS_CONV_B 1, 1)])), []⟩, by decide +kernel⟩,
   ⟨1, .b, ⟨(fun b : Dev => (b.modEq 1 .b fun e => { e with recover := 1 }).modSys fun y => { y with core := .running })
     (having {} ([(LPn_EQ_STATUS_ADAPT_B 1, 4), (LPn_EQ_CTRL_SW_FREEZE 1, 0)])), []⟩, by decide +kernel⟩,
   ⟨0, ⟨(fun b : Dev => b.modPort 0 fun q => { q with link := { q.link with mode := 4 } }) (having {}
     ([(LPn_LINK_STATUS_LINK_STATE 0, 4), (LPn_ACQ_STATUS_ACQ_STATE 0, 7), (LPn_EQ_STATUS_ADAPT_B 0, 3),
     (LPn_CDR_STATUS_LOCK_B 0, 1)])), []⟩, by decide +kernel⟩,
   ⟨0, ⟨(fun b : Dev => (b.modPort 0 fun q => { q with link := { q.link with mode := 9 } }).modEq 0 .b fun e =>
     { e with met := #v[(5, 3000), (0, 0), (0, 0), (7, 90000)] }) (having {} ([(LPn_LINK_STATUS_LINK_STATE 0, 4),
     (LPn_FEC_STATUS_INNER_ON 0, 0)])), []⟩, by decide +kernel⟩⟩

theorem witness_EyeScanAndCapture :
    (∃ (c : Desc) (s : State), s.dev.Acts c ∧ (s.dev.rx (Desc.port c)).contains (eyePair c) = true ∧ 1 ≤ c.bits 17 4 0 ∧
      c.bits 17 4 0 ≤ 16 ∧ 1 ≤ c.bits 19 6 0 ∧ c.bits 19 6 0 ≤ 64 ∧ c.bits 21 3 0 ≤ 10 ∧ c.bits 17 4 0 * c.bits 18 5 0 ≤
      64 ∧ 0 < eyePoints c (isNrz (s.dev.mode (Desc.port c))) ∧ c.length = 4 * eyePoints c (isNrz (s.dev.mode (Desc.port
      c))) ∧ (s.dev.ring c.ring).owner = 0 ∧ s.dev.linkState (Desc.port c) = 4 ∧ 2 ≤ (s.dev.adcOf (Desc.port c) (eyePair
      c)).free.length ∧ (s.dev.eqOf (Desc.port c) (eyePair c)).eye = none) ∧
    (∃ (p : Port) (x : Pair) (r : EyeRun) (s : State), (s.dev.eqOf p x).eye = some r ∧ (s.dev.adcOf p x).step = none ∧ 2
      ≤ (s.dev.adcOf p x).free.length ∧ r.pts.length + 1 < eyePoints r.desc (isNrz (s.dev.mode p))) ∧
    (∃ (c : Desc) (s : State), s.dev.Acts c ∧ c.bits 17 2 0 < 6 ∧ (if c.bits 17 2 0 % 3 = 0 then [Pair.a] else if c.bits
      17 2 0 % 3 = 1 then [.b] else [.a, .b]).all (fun x => (s.dev.rx (Desc.port c)).contains x) = true ∧ s.dev.linkState
      (Desc.port c) ≠ 0 ∧ s.dev.linkState (Desc.port c) ≠ 6 ∧ s.dev.get (LPn_CAP_STATUS_STATE (Desc.port c)) = 0) ∧
    (∃ (p : Port) (s : State), s.dev.get (LPn_CAP_STATUS_STATE p) = 1 ∧ (s.dev.prt p).cap.fired = true) ∧
    (∃ (p : Port) (s : State), s.dev.get (LPn_CAP_STATUS_STATE p) = 2 ∧ (s.dev.prt p).cap.left = 0) ∧
    (∃ (p : Port) (c : Desc) (s : State), s.dev.get (LPn_CAP_STATUS_STATE p) = 1 ∧ (s.dev.prt p).cap.timeout ≠ 0 ∧
      s.dev.waiting (.capture p) = some c) ∧
    (∃ (c : Desc) (s : State), s.dev.Acts c ∧ c.length ≠ 0 ∧ c.bytes 20 4 + c.length ≤ 2097152 ∧ (s.dev.ring
      c.ring).owner = 0 ∧ s.dev.get (LPn_CAP_STATUS_STATE (Desc.port c)) = 0) :=
  ⟨⟨dsc [(4, 36), (16, 8), (17, 2), (18, 1), (19, 3), (20, 1), (22, 2)], ⟨(fun b : Dev => { b with ctx := [] }.modPort 0
     fun q => { q with link := { q.link with mode := 9 } }) (having {} ([(GLB_BOOT_STATUS_RECOVERY, 0),
     (LPn_LINK_STATUS_LINK_STATE 0, 4)])), []⟩, by decide +kernel⟩,
   ⟨0, .b,
     { desc := dsc [(4, 36), (16, 8), (17, 2), (18, 1), (19, 3), (20, 1), (22, 2)], pts := [5], hits := 77, taken := 9 },
     ⟨(fun b : Dev => b.modEq 0 .b fun e =>
     { e with eye := some { desc := dsc [(4, 36), (16, 8), (17, 2), (18, 1), (19, 3), (20, 1), (22, 2)], pts := [5], hits := 77, taken := 9 } })
     (({} : Dev)), []⟩, by decide +kernel⟩,
   ⟨dsc [(17, 4), (18, 2), (19, 3)], ⟨(fun b : Dev => b.modPort 0 fun q => { q with link := { q.link with mode := 9 } })
     (having {} ([(GLB_BOOT_STATUS_RECOVERY, 0), (LPn_LINK_STATUS_LINK_STATE 0, 4), (LPn_CAP_STATUS_STATE 0, 0)])), []⟩,
     by decide +kernel⟩,
   ⟨0, ⟨(fun b : Dev => b.modCap 0 fun c => { c with fired := true }) (having {} ([(LPn_CAP_STATUS_STATE 0, 1)])), []⟩,
     by decide +kernel⟩,
   ⟨0, ⟨having {} ([(LPn_CAP_STATUS_STATE 0, 2)]), []⟩, by decide +kernel⟩,
   ⟨0, dsc [(2, 9)], ⟨(fun b : Dev => { b with waits := [(.capture 0, dsc [(2, 9)])] }.modCap 0 fun q =>
     { q with timeout := 5 }) (having {} ([(LPn_CAP_STATUS_STATE 0, 1)])), []⟩, by decide +kernel⟩,
   ⟨dsc [(4, 40), (9, 7), (20, 5)], ⟨(fun b : Dev => { b with ctx := [] }) (having {} ([(GLB_BOOT_STATUS_RECOVERY, 0),
     (LPn_CAP_STATUS_STATE 0, 0)])), []⟩, by decide +kernel⟩⟩

theorem witness_FullDuplexStartup :
    (∃ (p : Port) (x : Pair) (t : Nat) (best : Nat) (ms : Nat) (s : State), (s.dev.echoOf p x).hyb = some (t, best, ms) ∧
      t < 7) ∧
    (∃ (p : Port) (x : Pair) (g : Nat) (l : List (Nat × Nat × Nat)) (s : State), (s.dev.echoOf p x).search = some (g, l)
      ∧ 768 + 32 * (g + 4) + 31 ≤ windowLimit (s.dev.mode p)) ∧
    (∃ (p : Port) (x : Pair) (s : State), s.dev.get (LPn_FD_STATUS_ECHO p x) = ecRaw ∧ (s.dev.echoOf p x).hyb = none) ∧
    (∃ (p : Port) (f : Frame) (s : State), s.dev.acqState p = 6 ∧ (s.dev.lmcAccept p mtFdReady f).2 = true) ∧
    (∃ (p : Port) (s : State), s.dev.acqState p = 6 ∧ s.dev.get (LPn_FD_STATUS_ROLE p) = 1 ∧ s.dev.get (LPn_FD_STATUS_FDS
      p) = 1 ∧ (s.dev.prt p).fd.winLen ≠ 0) ∧
    (∃ (p : Port) (s : State), s.dev.acqState p = 6 ∧ s.dev.get (LPn_FD_STATUS_FDS p) = 1 ∧ (s.dev.prt p).fd.quiet =
      true) ∧
    (∃ (p : Port) (s : State), s.dev.acqState p = 6 ∧ s.dev.ownWindow p = true ∧ (s.dev.echoOf p .a).conv = true ∧
      (s.dev.echoOf p .b).conv = true) ∧
    (∃ (p : Port) (s : State), s.dev.acqState p = 6 ∧ s.dev.get (LPn_FD_STATUS_FDS p) = 2 ∧ (s.dev.prt p).fd.inWin =
      false) ∧
    (∃ (p : Port) (f : Frame) (s : State), s.dev.acqState p = 6 ∧ s.dev.get (LPn_FD_STATUS_FDS p) = 3 ∧ (s.dev.lmcAccept
      p mtFdConfirm f).2 = true) ∧
    (∃ (p : Port) (f : Frame) (s : State), s.dev.acqState p = 6 ∧ (s.dev.lmcAccept p mtFdAbandon f).2 = true) ∧
    (∃ (p : Port) (s : State), s.dev.acqState p = 6 ∧ s.dev.get (LPn_FD_STATUS_FDS p) = 1) :=
  ⟨⟨0, .b, 4, 2, 50, ⟨(fun b : Dev => b.modEcho 0 .b fun e => { e with hyb := some (4, 2, 50) }) (({} : Dev)), []⟩,
     by decide +kernel⟩,
   ⟨0, .b, 8, [(3, 4, 5)], ⟨(fun b : Dev => b.modEcho 0 .b fun e =>
     { e with search := some (8, [(3, 4, 5)]), taps := { e.taps with win := e.taps.win.set 5 700 } }) (({} : Dev)), []⟩,
     by decide +kernel⟩,
   ⟨0, .a, ⟨(fun b : Dev => b.modEcho 0 .a fun e => { e with erle := (10, 5000, 40) }) (having {} ([(LPn_FD_STATUS_ECHO_A
     0, 1)])), []⟩, by decide +kernel⟩,
   ⟨0, ⟨3, true⟩, ⟨having {} ([(LPn_ACQ_STATUS_ACQ_STATE 0, 6)]), []⟩, by decide +kernel⟩,
   ⟨0, ⟨(fun b : Dev => b.modFd 0 fun f => { f with winLen := 250 }) (having {} ([(LPn_ACQ_STATUS_ACQ_STATE 0, 6),
     (LPn_FD_STATUS_ROLE 0, 1), (LPn_FD_STATUS_FDS 0, 1)])), []⟩, by decide +kernel⟩,
   ⟨0, ⟨(fun b : Dev => b.modFd 0 fun f => { f with quiet := true }) (having {} ([(LPn_ACQ_STATUS_ACQ_STATE 0, 6),
     (LPn_FD_STATUS_FDS 0, 1)])), []⟩, by decide +kernel⟩,
   ⟨0, ⟨(fun b : Dev => ((b.modFd 0 fun f => { f with inWin := true }).modEcho 0 .a fun e =>
     { e with conv := true }).modEcho 0 .b fun e => { e with conv := true }) (having {} ([(LPn_ACQ_STATUS_ACQ_STATE 0,
     6), (LPn_FD_STATUS_ROLE 0, 1), (LPn_FD_STATUS_FDS 0, 2)])), []⟩, by decide +kernel⟩,
   ⟨0, ⟨(fun b : Dev => b.modFd 0 fun f => { f with inWin := false }) (having {} ([(LPn_ACQ_STATUS_ACQ_STATE 0, 6),
     (LPn_FD_STATUS_FDS 0, 2)])), []⟩, by decide +kernel⟩,
   ⟨0, ⟨3, true⟩, ⟨having {} ([(LPn_ACQ_STATUS_ACQ_STATE 0, 6), (LPn_FD_STATUS_FDS 0, 3)]), []⟩, by decide +kernel⟩,
   ⟨0, ⟨3, true⟩, ⟨having {} ([(LPn_ACQ_STATUS_ACQ_STATE 0, 6)]), []⟩, by decide +kernel⟩,
   ⟨0, ⟨having {} ([(LPn_ACQ_STATUS_ACQ_STATE 0, 6), (LPn_FD_STATUS_FDS 0, 1)]), []⟩, by decide +kernel⟩⟩

theorem witness_CableDiagnosticsAndTransmitter :
    (∃ (c : Desc) (s : State), s.dev.Acts c ∧ isOptical (s.dev.get (LPn_PORT_CFG_MODE (Desc.port c))) = false ∧ diagPairs
      c ≠ [] ∧ c.byte 18 = 0 ∧ c.bits 21 3 0 ≤ 12 ∧ c.length = 144 * (diagPairs c).length ∧ (s.dev.ring c.ring).owner = 0
      ∧ s.dev.linkState (Desc.port c) = 0 ∧ (s.dev.prt (Desc.port c)).fd.diag = false) ∧
    (∃ (p : Port) (c : Desc) (s : State), s.dev.waits = [(.cableDiag p, c)]) ∧
    (∃ (p : Port) (f : Frame) (op : Nat) (tap : Nat) (n : Nat) (main : Nat) (t : Vector Int 8) (s : State), s.dev.lmcUp p
      = true ∧ s.dev.acqState p ≠ 7 ∧ s.dev.get (LPn_TX_CTRL_TRAIN_ADAPT p) = 1 ∧ f.ackReq = false ∧ (s.dev.lmcAccept p
      mtCoefReq f).2 = true ∧ s.dev.coefResult p (if n = 0 then .a else .b) op tap = some (t, main) ∧ txValid t main =
      true) ∧
    (∃ (p : Port) (s : State), s.dev.linkState p = 2 ∧ (s.dev.prt p).tx.driver = false ∧ s.dev.sys.brownout = false ∧
      s.dev.quenching = false ∧ (txPairs (s.dev.mode p)).contains .a = true) ∧
    (∃ (p : Port) (s : State), s.dev.linkState p = 2 ∧ (s.dev.prt p).tx.driver = true ∧ (s.dev.prt p).tx.delay = true ∧
      s.dev.sys.brownout = false ∧ s.dev.quenching = false ∧ (txPairs (s.dev.mode p)).contains .a = true ∧ s.dev.get
      (LPn_TX_CTRL_SW_SQUELCH p) = 0 ∧ s.dev.get (LPn_TX_STATUS_HOST_LOST p) = 0 ∧ (s.dev.prt p).tx.stopping = false ∧
      (s.dev.prt p).tx.quenchLf = false ∧ (s.dev.prt p).tx.idle = false ∧ (s.dev.prt p).tx.data = false ∧ (s.dev.txPairOf
      p .a).dacOff = false) ∧
    (∃ (p : Port) (s : State), s.dev.linkState p = 4 ∧ (s.dev.prt p).tx.driver = true ∧ s.dev.sys.brownout = false ∧
      s.dev.quenching = false ∧ (txPairs (s.dev.mode p)).contains .a = true ∧ s.dev.get (LPn_TX_STATUS_HOST_LOST p) = 1 ∧
      s.dev.get (LPn_TX_CTRL_SQ_HOST p) = 0 ∧ s.dev.get (LPn_TX_CTRL_SW_SQUELCH p) = 0 ∧ (s.dev.prt p).tx.stopping =
      false ∧ (s.dev.prt p).tx.delay = false) ∧
    (∃ (p : Port) (s : State), s.dev.get (LPn_TX_STATUS_TXS p .a) = txLf ∧ s.dev.lmcUp p = true) :=
  ⟨⟨dsc [(4, 144), (16, 1), (17, 2)], ⟨(fun b : Dev => { b with ctx := [] }) (having {} ([(GLB_BOOT_STATUS_RECOVERY, 0),
     (LPn_PORT_CFG_MODE 1, 4), (LPn_LINK_STATUS_LINK_STATE 1, 0)])), []⟩, by decide +kernel⟩,
   ⟨1, dsc [(4, 144), (16, 1), (17, 2)], ⟨(fun b : Dev =>
     { b with ctx := [], waits := [(.cableDiag 1, dsc [(4, 144), (16, 1), (17, 2)])] }) (({} : Dev)), []⟩,
     by decide +kernel⟩,
   ⟨0, ⟨3, false⟩, 2, 2, 0, 2, #v[0, -8, 47, -8, 0, 0, 0, 0], ⟨(fun b : Dev => (b.modPort 0 fun q =>
     { q with link := { q.link with mode := 4 } }).modTxPair 0 .a fun q => { q with taps := txPreset 2, main := 2 })
     (having {} ([(LPn_ACQ_STATUS_ACQ_STATE 0, 5), (LPn_ACQ_STATUS_TRAIN_SK 0, 1), (LPn_TX_CTRL_TRAIN_ADAPT 0, 1)])),
     []⟩, by decide +kernel⟩,
   ⟨0, ⟨(fun b : Dev => b.modPort 0 fun q =>
     { q with link := { q.link with mode := 4 }, tx := { q.tx with driver := false } }) (having {}
     ([(LPn_LINK_STATUS_LINK_STATE 0, 2), (THM_STATUS_STATE, 0)])), []⟩, by decide +kernel⟩,
   ⟨0, ⟨(fun b : Dev => b.modPort 0 fun q =>
     { q with link := { q.link with mode := 4 }, tx := { q.tx with driver := true, delay := true, idle := false, data := false } })
     (having {} ([(LPn_LINK_STATUS_LINK_STATE 0, 2), (THM_STATUS_STATE, 0), (LPn_TX_CTRL_SW_SQUELCH 0, 0),
     (LPn_TX_STATUS_HOST_LOST 0, 0)])), []⟩, by decide +kernel⟩,
   ⟨0, ⟨(fun b : Dev => b.modPort 0 fun q =>
     { q with link := { q.link with mode := 4 }, tx := { q.tx with driver := true, delay := false } }) (having {}
     ([(LPn_LINK_STATUS_LINK_STATE 0, 4), (THM_STATUS_STATE, 0), (LPn_TX_CTRL_SW_SQUELCH 0, 0), (LPn_TX_CTRL_SQ_HOST 0,
     0), (LPn_TX_STATUS_HOST_LOST 0, 1)])), []⟩, by decide +kernel⟩,
   ⟨0, ⟨having {} ([(LPn_TX_STATUS_TXS_A 0, 2), (LPn_ACQ_STATUS_ACQ_STATE 0, 6)]), []⟩, by decide +kernel⟩⟩

theorem witness_OuterAndInnerCode :
    (∃ (p : Port) (l : List Int) (s : State), s.dev.get (LPn_FEC_STATUS_INNER_ON p) = 1 ∧ (s.dev.prt p).fec.chain = true
      ∧ (s.dev.prt p).fec.fresh = [] ∧ l.length = 1024 ∧ (s.dev.prt p).fec.win.length < 3) ∧
    (∃ (p : Port) (l : List Int) (s : State), s.dev.get (LPn_FEC_STATUS_INNER_ON p) = 1 ∧ (s.dev.prt p).fec.chain = true
      ∧ (s.dev.prt p).fec.fresh = [] ∧ l.length = 1024 ∧ (s.dev.prt p).fec.win.length = 3) ∧
    (∃ (p : Port) (l : List Nat) (s : State), (s.dev.prt p).fec.chain = true ∧ isNrz (s.dev.mode p) = false ∧ l ≠ [] ∧
      l.all (fun e => decide (e ≤ 8)) = true) ∧
    (∃ (p : Port) (l : List Nat) (s : State), s.dev.acqState p = 7 ∧ isNrz (s.dev.mode p) = false ∧ l.length = 544 ∧
      (s.dev.prt p).fec.half = [] ∧ (s.dev.prt p).fec.rxSyms.length < 544 ∧ s.dev.get (LPn_FEC_STATUS_TERM_RX p) = 0 ∧
      s.dev.get (LPn_FEC_CTRL_RS_MON_RX p) = 0 ∧ (s.dev.prt p).slipRx = []) ∧
    (∃ (p : Port) (l : List Nat) (s : State), s.dev.acqState p = 7 ∧ isNrz (s.dev.mode p) = false ∧ l.length = 544 ∧
      s.dev.get (LPn_FEC_STATUS_TERM_TX p) = 0 ∧ s.dev.get (LPn_FEC_CTRL_RS_MON_TX p) = 0 ∧ (s.dev.prt p).slipTx = []) ∧
    (∃ (p : Port) (s : State), (s.dev.prt p).fec.pbAny = true ∧ (s.dev.prt p).fec.pbBits = 0) :=
  ⟨⟨0, List.replicate 1024 100, ⟨(fun b : Dev => b.modFec 0 fun f => { f with chain := true }) (having {}
     ([(LPn_FEC_STATUS_INNER_ON 0, 1)])), []⟩, by decide +kernel⟩,
   ⟨0, List.replicate 1024 100, ⟨(fun b : Dev => b.modFec 0 fun f =>
     { f with chain := true, win := List.replicate 3 { ys := List.replicate 1024 (100, false) } }) (having {}
     ([(LPn_FEC_STATUS_INNER_ON 0, 1), (LPn_FEC_CTRL_ITER_MAX 0, 1)])), []⟩, by decide +kernel⟩,
   ⟨0, [0, 8, 3, 1], ⟨(fun b : Dev => (b.modFec 0 fun f => { f with chain := true, missed := 2 }).modPort 0 fun q =>
     { q with link := { q.link with mode := 4 } }) (({} : Dev)), []⟩, by decide +kernel⟩,
   ⟨0, (List.range 544).map (· * 3), ⟨(fun b : Dev => b.modPort 0 fun q => { q with link := { q.link with mode := 4 } })
     (having {} ([(LPn_ACQ_STATUS_ACQ_STATE 0, 7), (LPn_FEC_STATUS_TERM_RX 0, 0), (LPn_FEC_CTRL_RS_MON_RX 0, 0)])), []⟩,
     by decide +kernel⟩,
   ⟨0, (List.range 544).map (· * 3), ⟨(fun b : Dev => b.modPort 0 fun q => { q with link := { q.link with mode := 4 } })
     (having {} ([(LPn_ACQ_STATUS_ACQ_STATE 0, 7), (LPn_FEC_STATUS_TERM_TX 0, 0), (LPn_FEC_CTRL_RS_MON_TX 0, 0)])), []⟩,
     by decide +kernel⟩,
   ⟨0, ⟨(fun b : Dev => b.modFec 0 fun f => { f with pbAny := true, pbWords := 7 }) (({} : Dev)), []⟩, by decide +kernel⟩⟩

theorem witness_AcquisitionAndNegotiation :
    (∃ (p : Port) (k : Nat) (peak : Nat) (mean : Nat) (s : State), s.dev.acqState p = 2 ∧ (s.dev.prt p).acq.retuning =
      false ∧ (s.dev.classes p).contains k = true ∧ s.dev.hitThr p ≤ logCode 40 255 peak mean ∧ (s.dev.prt p).acq.preempt
      = none ∧ s.dev.get GLB_HW_STATUS_REFCLK_LINE_OK = 1) ∧
    (∃ (p : Port) (m : Marker) (k : Nat) (n : Nat) (got : List Int) (s : State), s.dev.acqState p = 3 ∧ s.dev.get
      (LPn_ACQ_STATUS_MARKERS p) = k ∧ k < 2 ∧ markerFits (s.dev.get (LPn_ACQ_STATUS_CAND_CLASS p)) m = true ∧
      (markerPlace m n).any (fun i => markerGood (s.dev.get (LPn_ACQ_STATUS_CAND_CLASS p)) ((s.dev.prt p).acq.hitPos + i
      * markerSpacing m) got m) = true) ∧
    (∃ (p : Port) (n : Nat) (got : List Int) (s : State), s.dev.acqState p = 3 ∧ s.dev.get (LPn_ACQ_STATUS_MARKERS p) = 2
      ∧ 3 ≤ s.dev.get (LPn_ACQ_STATUS_CAND_CLASS p) ∧ s.dev.get (LPn_ACQ_STATUS_CAND_CLASS p) ≤ 5 ∧ s.dev.wide p = false
      ∧ (markerPlace .skellia n).any (fun i => markerGood (s.dev.get (LPn_ACQ_STATUS_CAND_CLASS p)) ((s.dev.prt
      p).acq.hitPos + i * markerSpacing .skellia) got .skellia) = true) ∧
    (∃ (p : Port) (s : State), s.dev.acqState p = 3 ∧ s.dev.get (LPn_ACQ_STATUS_MARKERS p) < 3) ∧
    (∃ (p : Port) (s : State), (s.dev.prt p).acq.retuning = true ∧ s.dev.acqState p ≠ 3) ∧
    (∃ (p : Port) (g : BasePage) (s : State), s.dev.acqState p = 4 ∧ g.nonce % 32 ≠ (s.dev.prt p).acq.nonce) ∧
    (∃ (p : Port) (s : State), s.dev.acqState p = 4 ∧ (s.dev.prt p).acq.oui = true) ∧
    (∃ (p : Port) (s : State), s.dev.acqState p = 4) ∧
    (∃ (p : Port) (s : State), s.dev.powered p .b = true ∧ s.dev.acqState p = 5 ∧ s.dev.get (LPn_EQ_STATUS_ADAPT p .b) =
      adCoarse) :=
  ⟨⟨0, 5, 90000000, 1, ⟨(fun b : Dev => b.modPort 0 fun q =>
     { q with link := { q.link with cfgMode := 4, mode := 4, lanes := 2 } }) (having {} ([(LPn_ACQ_STATUS_ACQ_STATE 0,
     2), (GLB_HW_STATUS_REFCLK_LINE_OK, 1), (LPn_ACQ_CTRL_PROFILE 0, 0), (LPn_ACQ_CTRL_NARROW_CLASS 0, 5)])), []⟩,
     by decide +kernel⟩,
   ⟨0, .skellia, 1, 1023, segmentMarker, ⟨having {} ([(LPn_ACQ_STATUS_ACQ_STATE 0, 3), (LPn_ACQ_STATUS_MARKERS 0, 1),
     (LPn_ACQ_STATUS_CAND_CLASS 0, 4)]), []⟩, by decide +kernel⟩,
   ⟨0, 514, segmentMarker, ⟨having {} ([(LPn_ACQ_STATUS_ACQ_STATE 0, 3), (LPn_ACQ_STATUS_MARKERS 0, 2),
     (LPn_ACQ_STATUS_CAND_CLASS 0, 4), (LPn_ACQ_CTRL_PROFILE 0, 0)]), []⟩, by decide +kernel⟩,
   ⟨0, ⟨having {} ([(LPn_ACQ_STATUS_ACQ_STATE 0, 3), (LPn_ACQ_STATUS_MARKERS 0, 2)]), []⟩, by decide +kernel⟩,
   ⟨0, ⟨(fun b : Dev => b.modAcq 0 fun a => { a with retuning := true }) (having {} ([(LPn_ACQ_STATUS_ACQ_STATE 0, 5)])),
     []⟩, by decide +kernel⟩,
   ⟨0, { tech := [true], nonce := 5, np := true }, ⟨having {} ([(LPn_ACQ_STATUS_ACQ_STATE 0, 4)]), []⟩,
     by decide +kernel⟩,
   ⟨0, ⟨(fun b : Dev => b.modAcq 0 fun a => { a with oui := true }) (having {} ([(LPn_ACQ_STATUS_ACQ_STATE 0, 4)])), []⟩,
     by decide +kernel⟩,
   ⟨0, ⟨having {} ([(LPn_ACQ_STATUS_ACQ_STATE 0, 4)]), []⟩, by decide +kernel⟩,
   ⟨0, ⟨(fun b : Dev => (b.modPort 0 fun q => { q with link := { q.link with mode := 4 } }).modEq 0 .b fun e =>
     { e with conv := #v[(5, 300), (5, 100), (5, 100), (7, 900)] }) (having {} ([(LPn_ACQ_STATUS_ACQ_STATE 0, 5),
     (LPn_LINK_STATUS_LINK_STATE 0, 3), (LPn_EQ_STATUS_ADAPT_B 0, 2)])), []⟩, by decide +kernel⟩⟩

theorem witness_TrainingAndLoss :
    (∃ (p : Port) (f : Frame) (s : State), s.dev.inSkellia p = true ∧ (s.dev.lmcAccept p mtLinkParam f).2 = true) ∧
    (∃ (p : Port) (s : State), s.dev.acqState p = 5 ∧ (s.dev.prt p).acq.acquired = true ∧ (s.dev.prt p).acq.compat = true
      ∧ s.dev.get (LPn_ACQ_CTRL_TX_TUNE p) = 1 ∧ (s.dev.prt p).acq.tuned = false ∧ (s.dev.prt p).acq.tuneWait = false ∧
      (s.dev.prt p).acq.tuneReq = none ∧ (s.dev.prt p).acq.tuneTried < 16 ∧ (s.dev.prt p).acq.tuneCount < 63) ∧
    (∃ (p : Port) (f : Frame) (s : State), s.dev.lmcUp p = true ∧ (s.dev.lmcAccept p mtCoefResp f).2 = true ∧ (s.dev.prt
      p).acq.tuneWait = true) ∧
    (∃ (p : Port) (f : Frame) (s : State), s.dev.inSkellia p = true ∧ (s.dev.lmcAccept p mtReady f).2 = true) ∧
    (∃ (p : Port) (f : Frame) (s : State), s.dev.inSkellia p = true ∧ (s.dev.lmcAccept p mtDataAt f).2 = true) ∧
    (∃ (p : Port) (s : State), s.dev.inSkellia p = true ∧ (s.dev.prt p).acq.atGot.isSome = true ∧ (s.dev.prt
      p).acq.rxSwitched = false ∧ (s.dev.prt p).acq.txSwitched = false) ∧
    (∃ (p : Port) (s : State), s.dev.inSkellia p = true ∧ (s.dev.prt p).acq.atSent.isSome = true ∧ (s.dev.prt
      p).acq.rxSwitched = true ∧ (s.dev.prt p).acq.txSwitched = false) ∧
    (∃ (p : Port) (s : State), s.dev.acqState p = 5 ∧ s.dev.get (LPn_ACQ_STATUS_TRAIN_SK p) = 0) ∧
    (∃ (p : Port) (s : State), s.dev.inSkellia p = true ∧ (s.dev.prt p).acq.param = none) ∧
    (∃ (p : Port) (s : State), s.dev.acqState p = 5) ∧
    (∃ (p : Port) (x : Pair) (s : State), s.dev.powered p x = true ∧ s.dev.get (LPn_RXFE_STATUS_SIG_DET p x) = 0 ∧
      s.dev.linkState p = 4 ∧ s.dev.get (LPn_LINK_CTRL_FLAP_HOLD p) = 0) ∧
    (∃ (p : Port) (s : State), isNrz (s.dev.mode p) = true ∧ s.dev.linkState p = 4 ∧ s.dev.get (LPn_LINK_CTRL_FLAP_HOLD
      p) = 0) :=
  ⟨⟨0, ⟨3, false⟩, ⟨(fun b : Dev => b.modPort 0 fun q => { q with link := { q.link with mode := 4 } }) (having {}
     ([(LPn_ACQ_STATUS_ACQ_STATE 0, 5), (LPn_ACQ_STATUS_TRAIN_SK 0, 1)])), []⟩, by decide +kernel⟩,
   ⟨0, ⟨(fun b : Dev => b.modAcq 0 fun a => { a with acquired := true, compat := true, tuneTried := 5, tuned := false })
     (having {} ([(LPn_ACQ_STATUS_ACQ_STATE 0, 5), (LPn_ACQ_STATUS_TRAIN_SK 0, 1), (LPn_ACQ_CTRL_TX_TUNE 0, 1)])), []⟩,
     by decide +kernel⟩,
   ⟨0, ⟨3, false⟩, ⟨(fun b : Dev => b.modAcq 0 fun a => { a with tuneWait := true, tuneReq := some (1, 2, 3) }) (having
     {} ([(LPn_ACQ_STATUS_ACQ_STATE 0, 5), (LPn_ACQ_STATUS_TRAIN_SK 0, 1)])), []⟩, by decide +kernel⟩,
   ⟨0, ⟨3, false⟩, ⟨having {} ([(LPn_ACQ_STATUS_ACQ_STATE 0, 5), (LPn_ACQ_STATUS_TRAIN_SK 0, 1)]), []⟩,
     by decide +kernel⟩,
   ⟨0, ⟨3, false⟩, ⟨having {} ([(LPn_ACQ_STATUS_ACQ_STATE 0, 5), (LPn_ACQ_STATUS_TRAIN_SK 0, 1)]), []⟩,
     by decide +kernel⟩,
   ⟨0, ⟨(fun b : Dev => b.modAcq 0 fun a => { a with atGot := some 16, rxSwitched := false, txSwitched := false })
     (having {} ([(LPn_ACQ_STATUS_ACQ_STATE 0, 5), (LPn_ACQ_STATUS_TRAIN_SK 0, 1)])), []⟩, by decide +kernel⟩,
   ⟨0, ⟨(fun b : Dev => b.modAcq 0 fun a => { a with atSent := some 16, rxSwitched := true, txSwitched := false })
     (having {} ([(LPn_ACQ_STATUS_ACQ_STATE 0, 5), (LPn_ACQ_STATUS_TRAIN_SK 0, 1)])), []⟩, by decide +kernel⟩,
   ⟨0, ⟨having {} ([(LPn_ACQ_STATUS_ACQ_STATE 0, 5), (LPn_ACQ_STATUS_TRAIN_SK 0, 0)]), []⟩, by decide +kernel⟩,
   ⟨0, ⟨having {} ([(LPn_ACQ_STATUS_ACQ_STATE 0, 5), (LPn_ACQ_STATUS_TRAIN_SK 0, 1)]), []⟩, by decide +kernel⟩,
   ⟨0, ⟨having {} ([(LPn_ACQ_STATUS_ACQ_STATE 0, 5)]), []⟩, by decide +kernel⟩,
   ⟨0, .b, ⟨(fun b : Dev => b.modPort 0 fun q => { q with link := { q.link with mode := 4 } }) (having {}
     ([(LPn_LINK_STATUS_LINK_STATE 0, 4), (LPn_RXFE_STATUS_SIG_DET_B 0, 0), (LPn_LINK_CTRL_FLAP_HOLD 0, 0)])), []⟩,
     by decide +kernel⟩,
   ⟨0, ⟨(fun b : Dev => b.modPort 0 fun q => { q with link := { q.link with mode := 9 } }) (having {}
     ([(LPn_LINK_STATUS_LINK_STATE 0, 4), (LPn_LINK_CTRL_FLAP_HOLD 0, 0)])), []⟩, by decide +kernel⟩⟩

theorem witness_LinkMessages :
    (∃ (p : Port) (f : Frame) (s : State), s.dev.lmcUp p = true ∧ (s.dev.lmcAccept p mtRemoteSnr f).2 = true) ∧
    (∃ (p : Port) (f : Frame) (s : State), s.dev.lmcUp p = true ∧ (s.dev.lmcAccept p mtNotice f).2 = true) ∧
    (∃ (p : Port) (s : State), s.dev.get (LPn_LINK_STATUS_REMOTE_FAULT p) = 1) ∧
    (∃ (p : Port) (s : State), s.dev.lmcUp p = true) ∧
    (∃ (p : Port) (s : State), s.dev.lmcUp p = true ∧ s.dev.acqState p ≠ 7 ∧ s.dev.lmcSends p = true) ∧
    (∃ (p : Port) (s : State), s.dev.acqState p = 7 ∧ s.dev.get (LPn_ACQ_STATUS_SUBCH_ON p) = 1 ∧ s.dev.get
      (LPn_ACQ_CTRL_SNR_SHARE p) = 1) ∧
    (∃ (p : Port) (t : TxFrame) (l : List TxFrame) (s : State), (s.dev.prt p).lmc.out = t :: l ∧ t.user = false ∧
      s.dev.lmcSends p = true) ∧
    (∃ (p : Port) (t : TxFrame) (c : Desc) (s : State), (s.dev.prt p).lmc.wait = [t] ∧ t.again = false ∧ s.dev.waiting
      (.lmcSend p t.typ t.seq) = some c ∧ c.data = .first) ∧
    (∃ (p : Port) (t : TxFrame) (l : List TxFrame) (s : State), (s.dev.prt p).lmc.wait = t :: l ∧ t.again = false) ∧
    (∃ (c : Desc) (s : State), s.dev.Acts c ∧ s.dev.acqState (Desc.port c) = 6 ∧ 0x40 ≤ c.byte 17 ∧ c.byte 17 ≤ 0x7F ∧
      c.length ≤ 64 ∧ (s.dev.ring c.ring).owner = 0 ∧ c.data = .first ∧ ((s.dev.prt (Desc.port c)).lmc.out.filter fun e
      => e.user).length < 4) ∧
    (∃ (p : Port) (f : Frame) (k : Nat) (l : List Byte) (s : State), s.dev.lmcUp p = true ∧ 0x40 ≤ k ∧ k ≤ 0x7F ∧
      l.length ≤ 64 ∧ (s.dev.lmcAccept p k f).2 = true ∧ s.dev.waiting (.lmcReceive p) = none ∧ (s.dev.prt
      p).lmc.inq.length < 4) ∧
    (∃ (c : Desc) (s : State), s.dev.Acts c ∧ c.length = 68 ∧ (s.dev.ring c.ring).owner = 0 ∧ (s.dev.waits.filter fun w
      => w.1 == WaitKind.lmcReceive (Desc.port c)).length < 8 ∧ (s.dev.prt (Desc.port c)).lmc.inq = []) ∧
    (∃ (p : Port) (c : Desc) (s : State), s.dev.waits = [(.lmcReceive p, c)] ∧ c.bytes 20 2 ≠ 0) :=
  ⟨⟨0, ⟨3, false⟩, ⟨having {} ([(LPn_ACQ_STATUS_ACQ_STATE 0, 6)]), []⟩, by decide +kernel⟩,
   ⟨0, ⟨3, false⟩, ⟨having {} ([(LPn_ACQ_STATUS_ACQ_STATE 0, 6)]), []⟩, by decide +kernel⟩,
   ⟨0, ⟨having {} ([(LPn_LINK_STATUS_REMOTE_FAULT 0, 1)]), []⟩, by decide +kernel⟩,
   ⟨0, ⟨having {} ([(LPn_ACQ_STATUS_ACQ_STATE 0, 6)]), []⟩, by decide +kernel⟩,
   ⟨0, ⟨having {} ([(LPn_ACQ_STATUS_ACQ_STATE 0, 6), (LPn_TX_STATUS_TXS_A 0, 4)]), []⟩, by decide +kernel⟩,
   ⟨0, ⟨having {} ([(LPn_ACQ_STATUS_ACQ_STATE 0, 7), (LPn_ACQ_STATUS_SUBCH_ON 0, 1), (LPn_ACQ_CTRL_SNR_SHARE 0, 1)]),
     []⟩, by decide +kernel⟩,
   ⟨0, { typ := 6, seq := 1, data := [] }, [], ⟨(fun b : Dev => b.modLmc 0 fun q =>
     { q with out := [{ typ := 6, seq := 1, data := [] }] }) (having {} ([(LPn_TX_STATUS_TXS_A 0, 4)])), []⟩,
     by decide +kernel⟩,
   ⟨0, { typ := 70, seq := 1, data := [], ackReq := true, user := true }, dsc [(2, 5)], ⟨(fun b : Dev =>
     { b.modLmc 0 fun q => { q with wait := [{ typ := 70, seq := 1, data := [], ackReq := true, user := true }] } with waits := [(.lmcSend 0 70 1, dsc [(2, 5)])] })
     (({} : Dev)), []⟩, by decide +kernel⟩,
   ⟨0, { typ := 70, seq := 1, data := [], ackReq := true, user := true }, [], ⟨(fun b : Dev => b.modLmc 0 fun q =>
     { q with wait := [{ typ := 70, seq := 1, data := [], ackReq := true, user := true }] }) (({} : Dev)), []⟩,
     by decide +kernel⟩,
   ⟨dsc [(4, 3), (9, 1), (17, 0x41)], ⟨(fun b : Dev => { b with ctx := [] }) (having {} ([(GLB_BOOT_STATUS_RECOVERY, 0),
     (LPn_ACQ_STATUS_ACQ_STATE 0, 6)])), []⟩, by decide +kernel⟩,
   ⟨0, ⟨3, true⟩, 0x55, [1, 2], ⟨having {} ([(LPn_ACQ_STATUS_ACQ_STATE 0, 6)]), []⟩, by decide +kernel⟩,
   ⟨dsc [(4, 68), (16, 2)], ⟨(fun b : Dev => { b with ctx := [] }) (having {} ([(GLB_BOOT_STATUS_RECOVERY, 0)])), []⟩,
     by decide +kernel⟩,
   ⟨2, dsc [(4, 68), (16, 2), (20, 9)], ⟨(fun b : Dev =>
     { b with waits := [(.lmcReceive 2, dsc [(4, 68), (16, 2), (20, 9)])] }) (({} : Dev)), []⟩, by decide +kernel⟩⟩

theorem witness_LullEntryAndWake :
    (∃ (p : Port) (k : Nat) (s : State), s.dev.get (LPn_FEC_STATUS_TERM_TX p) = 1 ∧ k < 3) ∧
    (∃ (p : Port) (f : Frame) (s : State), s.dev.lmcUp p = true ∧ s.dev.acqState p = 7 ∧ (s.dev.lmcAccept p mtLullReq
      f).2 = true ∧ (s.dev.prt p).link.reqKind = 0 ∧ s.dev.eligible p = true) ∧
    (∃ (p : Port) (f : Frame) (s : State), s.dev.lmcUp p = true ∧ s.dev.acqState p = 7 ∧ (s.dev.lmcAccept p mtLullResp
      f).2 = true ∧ (s.dev.prt p).link.reqKind ≠ 0) ∧
    (∃ (p : Port) (f : Frame) (s : State), s.dev.lmcUp p = true ∧ s.dev.acqState p = 7 ∧ (s.dev.lmcAccept p mtLullResp
      f).2 = true ∧ (s.dev.prt p).link.reqKind ≠ 0) ∧
    (∃ (p : Port) (s : State), (s.dev.prt p).link.backoff = true) ∧
    (∃ (p : Port) (s : State), (s.dev.prt p).link.enter.isSome = true ∧ s.dev.linkState p = 4 ∧ (s.dev.prt
      p).link.wakePending = false) ∧
    (∃ (p : Port) (l : List Int) (s : State), s.dev.linkState p = 4 ∧ (s.dev.prt p).link.kinds ≠ (0, 0) ∧ wordFound
      sleepWord l = true) ∧
    (∃ (p : Port) (s : State), (s.dev.prt p).tx.idle = true ∧ s.dev.get (LPn_LINK_STATUS_LULL_KIND p) = 0) ∧
    (∃ (p : Port) (s : State), s.dev.linkState p = 5) ∧
    (∃ (p : Port) (s : State), s.dev.linkState p = 5 ∧ s.dev.get (LPn_LINK_CTRL_FLAP_HOLD p) = 0) ∧
    (∃ (p : Port) (s : State), s.dev.linkState p = 5 ∧ s.dev.get (LPn_LINK_STATUS_LULL_KIND p) = 0 ∧ (s.dev.prt
      p).link.wakeSent = 0) ∧
    (∃ (p : Port) (l : List Int) (s : State), s.dev.linkState p = 5 ∧ s.dev.get (LPn_LINK_STATUS_LULL_KIND p) = 0 ∧
      wordFound wakeWord l = true) ∧
    (∃ (p : Port) (s : State), s.dev.linkState p = 5 ∧ (s.dev.prt p).link.wakeSent = 1) ∧
    (∃ (p : Port) (s : State), s.dev.mode p = 10 ∧ s.dev.get (LPn_LINK_CTRL_LPI_EN p) = 1 ∧ s.dev.linkState p = 4) :=
  ⟨⟨0, 0, ⟨having {} ([(LPn_FEC_STATUS_TERM_TX 0, 1)]), []⟩, by decide +kernel⟩,
   ⟨0, ⟨3, true⟩, ⟨(fun b : Dev => (b.modPort 0 fun q => { q with link := { q.link with mode := 4 } }).modAcq 0 fun a =>
     { a with said := (true, true) }) (having {} ([(LPn_ACQ_STATUS_ACQ_STATE 0, 7), (LPn_ACQ_STATUS_SUBCH_ON 0, 1),
     (LPn_LINK_STATUS_LINK_STATE 0, 4), (LPn_LINK_CTRL_LULL_EN 0, 1), (LPn_ACQ_CTRL_EXT_EN 0, 1), (LPn_AN_PARTNER_LULL_SK
     0, 1), (LPn_TX_STATUS_TXS_A 0, 5), (LPn_LINK_STATUS_IDLE_KIND 0, 1)])), []⟩, by decide +kernel⟩,
   ⟨0, ⟨3, false⟩, ⟨(fun b : Dev => b.modLink 0 fun l => { l with reqKind := 2 }) (having {} ([(LPn_ACQ_STATUS_ACQ_STATE
     0, 7), (LPn_ACQ_STATUS_SUBCH_ON 0, 1)])), []⟩, by decide +kernel⟩,
   ⟨0, ⟨3, false⟩, ⟨(fun b : Dev => b.modLink 0 fun l => { l with reqKind := 2 }) (having {} ([(LPn_ACQ_STATUS_ACQ_STATE
     0, 7), (LPn_ACQ_STATUS_SUBCH_ON 0, 1)])), []⟩, by decide +kernel⟩,
   ⟨0, ⟨(fun b : Dev => b.modLink 0 fun l => { l with backoff := true }) (({} : Dev)), []⟩, by decide +kernel⟩,
   ⟨0, ⟨(fun b : Dev => b.modLink 0 fun l => { l with enter := some (4, 1, 1) }) (having {} ([(LPn_LINK_STATUS_LINK_STATE
     0, 4)])), []⟩, by decide +kernel⟩,
   ⟨0, sleepWord.drop 32, ⟨(fun b : Dev => b.modLink 0 fun l => { l with kinds := (1, 1) }) (having {}
     ([(LPn_LINK_STATUS_LINK_STATE 0, 4)])), []⟩, by decide +kernel⟩,
   ⟨0, ⟨(fun b : Dev => b.modTx 0 fun t => { t with idle := true }) (having {} ([(LPn_LINK_STATUS_LULL_KIND 0, 0)])),
     []⟩, by decide +kernel⟩,
   ⟨0, ⟨having {} ([(LPn_LINK_STATUS_LINK_STATE 0, 5)]), []⟩, by decide +kernel⟩,
   ⟨0, ⟨having {} ([(LPn_LINK_STATUS_LINK_STATE 0, 5), (LPn_LINK_CTRL_FLAP_HOLD 0, 0)]), []⟩, by decide +kernel⟩,
   ⟨0, ⟨(fun b : Dev => b.modLink 0 fun l => { l with wakeSent := 0 }) (having {} ([(LPn_LINK_STATUS_LINK_STATE 0, 5),
     (LPn_LINK_STATUS_LULL_KIND 0, 0)])), []⟩, by decide +kernel⟩,
   ⟨0, wakeWord.drop 32, ⟨having {} ([(LPn_LINK_STATUS_LINK_STATE 0, 5), (LPn_LINK_STATUS_LULL_KIND 0, 0)]), []⟩,
     by decide +kernel⟩,
   ⟨0, ⟨(fun b : Dev => b.modLink 0 fun l => { l with wakeSent := 1 }) (having {} ([(LPn_LINK_STATUS_LINK_STATE 0, 5)])),
     []⟩, by decide +kernel⟩,
   ⟨0, ⟨(fun b : Dev => b.modLink 0 fun l => { l with mode := 10 }) (having {} ([(LPn_LINK_STATUS_LINK_STATE 0, 4),
     (LPn_LINK_CTRL_LPI_EN 0, 1)])), []⟩, by decide +kernel⟩⟩

theorem witness_PortDescriptors :
    (∃ (c : Desc) (s : State), s.dev.Acts c ∧ (rateOf (c.bits 17 3 0) (c.bits 18 2 0)).isSome = true ∧ isNrz (c.bits 17 3
      0) = false) ∧
    (∃ (c : Desc) (s : State), s.dev.Acts c ∧ s.dev.groupMatches (Desc.port c) = true ∧ s.dev.dozeBusy (Desc.port c) =
      false ∧ s.dev.quenching = false ∧ s.dev.linkState (Desc.port c) = 0 ∧ (s.dev.prt (Desc.port c)).fd.diag = false ∧
      c.flag 17 0 = false) ∧
    (∃ (p : Port) (c : Desc) (s : State), s.dev.waits = [(.portUp p, c)] ∧ c.bytes 20 2 ≠ 0) ∧
    (∃ (c : Desc) (s : State), s.dev.Acts c ∧ s.dev.linkState (Desc.port c) = 4 ∧ s.dev.dozeBusy (Desc.port c) = false ∧
      s.dev.waits = [] ∧ (s.dev.prt (Desc.port c)).link.stopping = none ∧ s.dev.get (LPn_ACQ_STATUS_SUBCH_ON (Desc.port
      c)) = 1 ∧ c.flag 17 0 = false) ∧
    (∃ (p : Port) (s : State), (s.dev.prt p).link.stopping = some .stop ∧ (s.dev.prt p).tx.stopping = false ∧ (s.dev.prt
      p).tx.driver = true ∧ s.dev.inDoze p = false ∧ s.dev.quenching = false ∧ s.dev.sys.restart = none) ∧
    (∃ (p : Port) (s : State), (s.dev.prt p).link.stopping = some .stop ∧ (s.dev.prt p).tx.stopping = true ∧
      s.dev.sys.restart = none) ∧
    (∃ (c : Desc) (s : State), s.dev.Acts c ∧ s.dev.linkState (Desc.port c) = 3 ∧ s.dev.dozeBusy (Desc.port c) = false ∧
      s.dev.waits = [] ∧ (s.dev.prt (Desc.port c)).link.stopping = none ∧ s.dev.get (LPn_ACQ_STATUS_SUBCH_ON (Desc.port
      c)) = 0 ∧ c.flag 17 0 = false) ∧
    (∃ (c : Desc) (s : State), s.dev.Acts c ∧ s.dev.atRest (Desc.port c) = true ∧ s.dev.sys.restart = none) ∧
    (∃ (c : Desc) (s : State), s.dev.Acts c ∧ c.length = 32 ∧ (s.dev.ring c.ring).owner = 0) :=
  ⟨⟨dsc [(16, 1), (17, 4), (18, 2), (19, 3)], ⟨having {} ([(GLB_BOOT_STATUS_RECOVERY, 0)]), []⟩, by decide +kernel⟩,
   ⟨dsc [(16, 1)], ⟨having {} ([(GLB_BOOT_STATUS_RECOVERY, 0), (LPn_PORT_CFG_MODE 1, 4), (LPn_PORT_CFG_LANES 1, 2),
     (LPn_LINK_STATUS_LINK_STATE 1, 0), (PWR_DOZE_IN_DOZE, 0), (THM_STATUS_STATE, 0), (HLn_MAP_VALID 0, 0),
     (HLn_MAP_VALID 1, 0), (HLn_MAP_VALID 2, 1), (HLn_MAP_VALID 3, 1), (HLn_MAP_PORT 2, 1), (HLn_MAP_PORT 3, 1),
     (HLn_MAP_POS 2, 0), (HLn_MAP_POS 3, 1)]), []⟩, by decide +kernel⟩,
   ⟨1, dsc [(16, 1), (20, 300)], ⟨(fun b : Dev => { b with waits := [(.portUp 1, dsc [(16, 1), (20, 300)])] }) (({} :
     Dev)), []⟩, by decide +kernel⟩,
   ⟨dsc [(16, 1)], ⟨(fun b : Dev => b.modLink 1 fun l => { l with stopping := none }) (having {}
     ([(GLB_BOOT_STATUS_RECOVERY, 0), (LPn_LINK_STATUS_LINK_STATE 1, 4), (PWR_DOZE_IN_DOZE, 0), (LPn_ACQ_STATUS_SUBCH_ON
     1, 1)])), []⟩, by decide +kernel⟩,
   ⟨1, ⟨(fun b : Dev => (b.modLink 1 fun l => { l with stopping := some .stop }).modTx 1 fun t =>
     { t with driver := true }) (having {} ([(LPn_LINK_STATUS_LINK_STATE 1, 4), (PWR_DOZE_IN_DOZE, 0), (THM_STATUS_STATE,
     0)])), []⟩, by decide +kernel⟩,
   ⟨1, ⟨(fun b : Dev => (b.modLink 1 fun l => { l with stopping := some .stop }).modTx 1 fun t =>
     { t with driver := true, stopping := true }) (having {} ([(LPn_LINK_STATUS_LINK_STATE 1, 4)])), []⟩,
     by decide +kernel⟩,
   ⟨dsc [(16, 1)], ⟨having {} ([(GLB_BOOT_STATUS_RECOVERY, 0), (LPn_LINK_STATUS_LINK_STATE 1, 3), (PWR_DOZE_IN_DOZE, 0),
     (LPn_ACQ_STATUS_SUBCH_ON 1, 0)]), []⟩, by decide +kernel⟩,
   ⟨dsc [(16, 1)], ⟨having {} ([(GLB_BOOT_STATUS_RECOVERY, 0), (LPn_LINK_STATUS_LINK_STATE 1, 0), (PWR_DOZE_IN_DOZE,
     0)]), []⟩, by decide +kernel⟩,
   ⟨dsc [(4, 32), (16, 1)], ⟨(fun b : Dev => { b with ctx := [] }) (having {} ([(GLB_BOOT_STATUS_RECOVERY, 0)])), []⟩,
     by decide +kernel⟩⟩

theorem witness_ClocksAndGovernor :
    (∃ (p : Port) (s : State), (s.dev.prt p).tx.onRef = true ∧ s.dev.get (LPn_TX_STATUS_HOST_LOST p) = 0) ∧
    (∃ (p : Port) (s : State), (s.dev.prt p).tx.returning = true) ∧
    (∃ (l : List FillObs) (v : Nat) (s : State), minNat 63 (((s.dev.each l fun d o => d.setFill o.bound o.now).slacks
      l).map fun e => e.2) = v ∧ v < 8 ∧ s.dev.gov.slipStep = 0) ∧
    (∃ (w : AvsWrite) (s : State), s.dev.gov.avs = some w ∧ w.code ≤ 50 ∧ s.dev.gov.slipStep = 0) ∧
    (∃ (w : AvsWrite) (s : State), s.dev.gov.avs = some w ∧ w.retry = false) ∧
    (∃ (w : AvsWrite) (s : State), s.dev.gov.avs = some w ∧ w.retry = true) ∧
    (∃  (s : State), s.dev.get PWR_GOV_STATUS_AVS_FAULT = 1 ∧ s.dev.gov.avsWait = true ∧ s.dev.gov.slipStep = 0 ∧
      s.dev.stepFree = true) ∧
    (∃  (s : State), s.dev.gov.noDown = true) ∧
    (∃  (s : State), s.dev.get PWR_GOV_STATUS_VCMD = 50 ∧ s.dev.get PWR_GOV_STATUS_WORST_SLACK < 8 ∧ s.dev.get
      PWR_GOV_STATUS_AT_CEILING = 0) ∧
    (∃ (p : Port) (v : Nat) (s : State), s.dev.get PWR_GOV_STATUS_AT_CEILING = 1 ∧ s.dev.gov.lowering = true ∧
      s.dev.gov.lowPorts = [p] ∧ s.dev.get (LPn_FEC_STATUS_INNER_ON p) = 1 ∧ s.dev.get (LPn_SLACK_GOV_CEIL p) = v + 2) ∧
    (∃  (s : State), 8 ≤ s.dev.get PWR_GOV_STATUS_WORST_SLACK ∧ s.dev.get PWR_GOV_STATUS_AT_CEILING = 1) ∧
    (∃ (p : Port) (l : List Port) (v : Nat) (s : State), s.dev.get PWR_GOV_STATUS_AT_CEILING = 0 ∧ s.dev.gov.ceilOrder =
      p :: l ∧ s.dev.get (LPn_SLACK_GOV_CEIL p) = v ∧ v + 1 < s.dev.gov.ceilFrom.get p ∧ v < 7) :=
  ⟨⟨1, ⟨(fun b : Dev => b.modTx 1 fun t => { t with onRef := true }) (having {} ([(LPn_TX_STATUS_HOST_LOST 1, 0)])), []⟩,
     by decide +kernel⟩,
   ⟨1, ⟨(fun b : Dev => b.modTx 1 fun t => { t with onRef := true, returning := true }) (({} : Dev)), []⟩,
     by decide +kernel⟩,
   ⟨[{ bound := 1, worst := 7700, now := 200 }], 4, ⟨(fun b : Dev => (b.modPort 0 fun q =>
     { q with link := { q.link with mode := 4 } }).modGov fun g => { g with slipStep := 0 }) (having {}
     ([(LPn_LINK_STATUS_LINK_STATE 0, 3), (PWR_GOV_STATUS_VDEMAND, 20)])), []⟩, by decide +kernel⟩,
   ⟨{ code := 31, retry := true }, ⟨(fun b : Dev => b.modGov fun g =>
     { g with avs := some { code := 31, retry := true }, slipStep := 0 }) (having {} ([(PWR_GOV_STATUS_AVS_FAULT, 1)])),
     []⟩, by decide +kernel⟩,
   ⟨{ code := 31, retry := false }, ⟨(fun b : Dev => b.modGov fun g =>
     { g with avs := some { code := 31, retry := false } }) (({} : Dev)), []⟩, by decide +kernel⟩,
   ⟨{ code := 31, retry := true }, ⟨(fun b : Dev => b.modGov fun g =>
     { g with avs := some { code := 31, retry := true } }) (({} : Dev)), []⟩, by decide +kernel⟩,
   ⟨⟨(fun b : Dev => b.modGov fun g => { g with avsWait := true, slipStep := 0, stepAt := none }) (having {}
     ([(PWR_GOV_STATUS_AVS_FAULT, 1)])), []⟩, by decide +kernel⟩,
   ⟨⟨(fun b : Dev => b.modGov fun g => { g with noDown := true }) (({} : Dev)), []⟩, by decide +kernel⟩,
   ⟨⟨having {} ([(PWR_GOV_STATUS_VCMD, 50), (PWR_GOV_STATUS_WORST_SLACK, 5), (PWR_GOV_STATUS_AT_CEILING, 0)]), []⟩,
     by decide +kernel⟩,
   ⟨2, 1, ⟨(fun b : Dev => b.modGov fun g => { g with lowering := true, lowPorts := [2] }) (having {}
     ([(PWR_GOV_STATUS_AT_CEILING, 1), (LPn_FEC_STATUS_INNER_ON 2, 1), (LPn_SLACK_GOV_CEIL 2, 3)])), []⟩,
     by decide +kernel⟩,
   ⟨⟨having {} ([(PWR_GOV_STATUS_AT_CEILING, 1), (PWR_GOV_STATUS_WORST_SLACK, 9)]), []⟩, by decide +kernel⟩,
   ⟨2, [4], 1, ⟨(fun b : Dev => b.modGov fun g => { g with ceilOrder := [2, 4], ceilFrom := g.ceilFrom.set 2 4 }) (having
     {} ([(PWR_GOV_STATUS_AT_CEILING, 0), (LPn_SLACK_GOV_CEIL 2, 1)])), []⟩, by decide +kernel⟩⟩

theorem witness_SlipsAndPowerCap :
    (∃ (p : Port) (s : State), s.dev.watched (Fin.ofNat 64 (4 * p.val + 1)) = true ∧ s.dev.linkState p = 4 ∧ (s.dev.prt
      p).slipRx = []) ∧
    (∃ (p : Port) (q : SlipRun) (l : List SlipRun) (s : State), (s.dev.prt p).slipRx = q :: l ∧ q.marked ≤ 4095 ∧ q.src <
      6 ∧ s.dev.get (LPn_SLIP_SLIP_COUNT p) < 65535 ∧ (s.dev.prt p).slips = []) ∧
    (∃ (c : Desc) (s : State), s.dev.Acts c ∧ c.bytes 16 4 = 0 ∧ s.dev.shed.applied = [] ∧ s.dev.waits = []) ∧
    (∃ (c : Desc) (v : Nat) (s : State), s.dev.Acts c ∧ c.bytes 16 4 = v * 10 ∧ 500 ≤ v ∧ v ≤ 4000 ∧ s.dev.powerWithin (v
      * 10) 1 1 = true ∧ s.dev.waits = []) ∧
    (∃ (c : Desc) (v : Nat) (s : State), s.dev.shed.eval = true ∧ s.dev.shed.capMw = some v ∧ s.dev.powerWithin v 1 1 =
      true ∧ s.dev.waits = [(.powerCap, c)]) ∧
    (∃ (n : Nat) (l : List Nat) (s : State), s.dev.shed.capMw = none ∧ s.dev.shed.applied = n :: l ∧ 1 ≤ n ∧ n ≤ 5 ∧
      s.dev.shed.cap = n ∧ s.dev.shed.thr = 0) :=
  ⟨⟨3, ⟨(fun b : Dev => b.modPort 3 fun q => { q with link := { q.link with mode := 4 }, slipRx := [] }) (having {}
     ([(LPn_LINK_STATUS_LINK_STATE 3, 4)])), []⟩, by decide +kernel⟩,
   ⟨3, { src := 1, data := true, marked := 77 }, [], ⟨(fun b : Dev => b.modPort 3 fun q =>
     { q with slipRx := [{ src := 1, data := true, marked := 77 }], slips := [] }) (having {} ([(LPn_SLIP_SLIP_COUNT 3,
     9)])), []⟩, by decide +kernel⟩,
   ⟨dsc [(2, 7)], ⟨(fun b : Dev => { b with waits := [] }) (having {} ([(GLB_BOOT_STATUS_RECOVERY, 0)])), []⟩,
     by decide +kernel⟩,
   ⟨dsc [(2, 7), (16, 0x10), (17, 0x27)], 1000, ⟨(fun b : Dev =>
     { b with waits := [], shed := { b.shed with power := [9000, 8000] } }) (having {} ([(GLB_BOOT_STATUS_RECOVERY,
     0)])), []⟩, by decide +kernel⟩,
   ⟨dsc [(2, 7)], 10000, ⟨(fun b : Dev =>
     { b with waits := [(.powerCap, dsc [(2, 7)])], shed := { b.shed with eval := true, capMw := some 10000, power := [9000, 8000] } })
     (({} : Dev)), []⟩, by decide +kernel⟩,
   ⟨2, [1], ⟨(fun b : Dev => { b with shed := { b.shed with capMw := none, applied := [2, 1], cap := 2, thr := 0 } })
     (({} : Dev)), []⟩, by decide +kernel⟩⟩

theorem witness_HostLaneEvents :
    (∃ (l : Lane) (s : State), s.dev.get (HLn_STATUS_TXS l) = 1 ∧ (s.dev.lane.get l).exitDue = true) ∧
    (∃ (l : Lane) (s : State), s.dev.get (HLn_STATUS_TXS l) = 2) ∧
    (∃ (l : Lane) (s : State), 2 ≤ s.dev.get (HLn_STATUS_RXS l)) ∧
    (∃ (l : Lane) (s : State), s.dev.get (HLn_STATUS_RXS l) = 1 ∧ (s.dev.lane.get l).rateChange = false ∧ s.dev.get
      (HLn_CTRL_CTLE_MAN l) = 0 ∧ (s.dev.lane.get l).warm = none) ∧
    (∃ (l : Lane) (s : State), s.dev.get (HLn_STATUS_RXS l) = 2) ∧
    (∃ (l : Lane) (k : Nat) (i : Nat) (v : Nat) (s : State), (s.dev.lane.get l).sweep = some (k, i, v) ∧ 1 ≤ k ∧ k < 15) ∧
    (∃ (l : Lane) (i : Nat) (v : Nat) (s : State), (s.dev.lane.get l).sweep = some (15, i, v) ∧ i < 15) ∧
    (∃ (p : Port) (k : Lane) (s : State), s.dev.group p ≠ [] ∧ k ∈ s.dev.group p ∧ (∀ l ∈ s.dev.group p, 3 ≤ s.dev.get
      (HLn_STATUS_RXS l))) ∧
    (∃ (p : Port) (l : Lane) (s : State), s.dev.group p = [l] ∧ s.dev.get (HLn_STATUS_ALIGNED l) = 1) ∧
    (∃ (l : Lane) (s : State), 2 ≤ s.dev.get (HLn_STATUS_RXS l) ∧ (s.dev.lane.get l).frozen = false) ∧
    (∃ (p : Port) (l : Lane) (s : State), s.dev.group p = [l] ∧ (s.dev.lane.get l).rateChange = true ∧ s.dev.linkState p
      = 4 ∧ s.dev.laneOff l = false) ∧
    (∃ (l : Lane) (s : State), 3 ≤ s.dev.get (HLn_STATUS_RXS l)) ∧
    (∃ (l : Lane) (s : State), s.dev.get (HLn_TEST_STATUS_CHK_ON l) = 1) ∧
    (∃ (l : Lane) (s : State), s.dev.get (HLn_TEST_STATUS_CHK_ON l) = 1 ∧ s.dev.get (HLn_TEST_STATUS_LOCK l) = 1) :=
  ⟨⟨3, ⟨(fun b : Dev => b.modLane 3 fun h => { h with exitDue := true }) (having {} ([(HLn_STATUS_TXS 3, 1)])), []⟩,
     by decide +kernel⟩,
   ⟨3, ⟨having {} ([(HLn_STATUS_TXS 3, 2)]), []⟩, by decide +kernel⟩,
   ⟨3, ⟨having {} ([(HLn_STATUS_RXS 3, 3)]), []⟩, by decide +kernel⟩,
   ⟨3, ⟨(fun b : Dev => b.modLane 3 fun h => { h with rateChange := false, warm := none }) (having {} ([(HLn_STATUS_RXS
     3, 1), (HLn_CTRL_CTLE_MAN 3, 0)])), []⟩, by decide +kernel⟩,
   ⟨3, ⟨having {} ([(HLn_STATUS_RXS 3, 2)]), []⟩, by decide +kernel⟩,
   ⟨3, 6, 2, 99, ⟨(fun b : Dev => b.modLane 3 fun h => { h with sweep := some (6, 2, 99) }) (({} : Dev)), []⟩,
     by decide +kernel⟩,
   ⟨3, 2, 99, ⟨(fun b : Dev => b.modLane 3 fun h => { h with sweep := some (15, 2, 99) }) (({} : Dev)), []⟩,
     by decide +kernel⟩,
   ⟨1, 3, ⟨having {} ([(HLn_MAP_VALID 0, 0), (HLn_MAP_VALID 1, 0), (HLn_MAP_VALID 2, 1), (HLn_MAP_VALID 3, 1),
     (HLn_MAP_PORT 2, 1), (HLn_MAP_PORT 3, 1), (HLn_MAP_POS 2, 0), (HLn_MAP_POS 3, 1), (HLn_STATUS_RXS 2, 3),
     (HLn_STATUS_RXS 3, 4)]), []⟩, by decide +kernel⟩,
   ⟨1, 2, ⟨having {} ([(HLn_MAP_VALID 0, 0), (HLn_MAP_VALID 1, 0), (HLn_MAP_VALID 3, 0), (HLn_MAP_VALID 2, 1),
     (HLn_MAP_PORT 2, 1), (HLn_MAP_POS 2, 0), (HLn_STATUS_ALIGNED 2, 1)]), []⟩, by decide +kernel⟩,
   ⟨3, ⟨(fun b : Dev => b.modLane 3 fun h => { h with frozen := false }) (having {} ([(HLn_STATUS_RXS 3, 3)])), []⟩,
     by decide +kernel⟩,
   ⟨1, 2, ⟨(fun b : Dev => b.modLane 2 fun h => { h with rateChange := true }) (having {} ([(HLn_MAP_VALID 0, 0),
     (HLn_MAP_VALID 1, 0), (HLn_MAP_VALID 3, 0), (HLn_MAP_VALID 2, 1), (HLn_MAP_PORT 2, 1), (HLn_MAP_POS 2, 0),
     (LPn_LINK_STATUS_LINK_STATE 1, 4)])), []⟩, by decide +kernel⟩,
   ⟨3, ⟨having {} ([(HLn_STATUS_RXS 3, 3)]), []⟩, by decide +kernel⟩,
   ⟨3, ⟨having {} ([(HLn_TEST_STATUS_CHK_ON 3, 1)]), []⟩, by decide +kernel⟩,
   ⟨3, ⟨having {} ([(HLn_TEST_STATUS_CHK_ON 3, 1), (HLn_TEST_STATUS_LOCK 3, 1)]), []⟩, by decide +kernel⟩⟩

theorem witness_HostLaneDescriptors :
    (∃ (c : Desc) (l : Lane) (s : State), s.dev.Acts c ∧ selLanes c = [l] ∧ c.flag 18 0 = true ∧ c.flag 18 1 = false ∧
      c.flag 18 2 = false ∧ laneTapsValid #v[signedOf 8 (c.byte 19), signedOf 8 (c.byte 20), signedOf 8 (c.byte 21),
      signedOf 8 (c.byte 22), signedOf 8 (c.byte 23)] = true) ∧
    (∃ (c : Desc) (l : Lane) (s : State), s.dev.Acts c ∧ selLanes c = [l] ∧ (s.dev.groupOf l).isSome = true ∧ (c.bits 18
      1 0 = 3 ∧ s.dev.get (HLn_TEST_STATUS_GEN_ON l) = 0 ∧ s.dev.lanePowerOff l = false) ∨ c.bits 18 1 0 = 0) ∧
    (∃ (c : Desc) (l : Lane) (s : State), s.dev.Acts c ∧ selLanes c = [l] ∧ c.bits 20 2 0 ≤ 2 ∧ (s.dev.groupOf l).isSome
      = true ∧ s.dev.laneNoMode l = false ∧ s.dev.lanePowerOff l = false ∧ s.dev.get (HLn_TEST_STATUS_LOOP l) ≠ 3) ∧
    (∃ (c : Desc) (l : Lane) (s : State), s.dev.Acts c ∧ selLanes c = [l] ∧ c.length = 24 ∧ (s.dev.ring c.ring).owner = 0
      ∧ c.data = .first) ∧
    (∃ (c : Desc) (l : Lane) (s : State), s.dev.Acts c ∧ selLanes c = [l] ∧ c.length = 24 ∧ (s.dev.ring c.ring).owner = 0
      ∧ c.data = .first) ∧
    (∃ (c : Desc) (l : Lane) (s : State), s.dev.Acts c ∧ selLanes c = [l]) ∧
    (∃ (c : Desc) (l : Lane) (s : State), s.dev.Acts c ∧ l = Fin.ofNat 16 (c.bits 16 3 0) ∧ s.dev.groupOf l = none ∧
      c.flag 17 0 = true) ∧
    (∃ (c : Desc) (s : State), s.dev.Acts c ∧ (∀ l : Lane, c.flag (16 + l.val) 6 = true) ∧ allPorts.all (s.dev.groupGood
      s.dev.laneSlot) = true) ∧
    (∃ (c : Desc) (l : Lane) (p : Port) (s : State), s.dev.Acts c ∧ (∀ i : Lane, i ≠ l → c.flag (16 + i.val) 6 = true ∧
      s.dev.laneSlot i = none) ∧ c.byte (16 + l.val) = 128 + p.val ∧ s.dev.laneSlot l = none ∧ s.dev.linkState p = 0 ∧
      s.dev.get (LPn_PORT_CFG_MODE p) = 0) :=
  ⟨⟨dsc [(2, 7), (16, 8), (18, 1), (19, 255), (22, 50), (23, 252)], 3, ⟨having {} ([(GLB_BOOT_STATUS_RECOVERY, 0),
     (HLn_TX_POST_TAP_BAD 3, 1)]), []⟩, by decide +kernel⟩,
   ⟨dsc [(2, 7), (16, 8), (18, 3)], 3, ⟨(fun b : Dev => b.modPwr fun w => { w with gated := Vector.replicate 8 false })
     (having {} ([(GLB_BOOT_STATUS_RECOVERY, 0), (HLn_TEST_STATUS_GEN_ON 3, 0), (HLn_MAP_VALID 3, 1), (HLn_MAP_PORT 3,
     0), (LPn_LINK_STATUS_LINK_STATE 0, 0)])), []⟩, by decide +kernel⟩,
   ⟨dsc [(2, 7), (16, 8), (19, 3), (20, 2)], 3, ⟨(fun b : Dev => b.modPwr fun w =>
     { w with gated := Vector.replicate 8 false }) (having {} ([(GLB_BOOT_STATUS_RECOVERY, 0), (HLn_TEST_STATUS_LOOP 3,
     0), (HLn_MAP_VALID 3, 1), (HLn_MAP_PORT 3, 0), (LPn_PORT_CFG_MODE 0, 4), (LPn_LINK_STATUS_LINK_STATE 0, 0)])), []⟩,
     by decide +kernel⟩,
   ⟨dsc [(2, 7), (4, 24), (16, 8)], 3, ⟨(fun b : Dev => { b with ctx := [] }) (having {} ([(GLB_BOOT_STATUS_RECOVERY,
     0)])), []⟩, by decide +kernel⟩,
   ⟨dsc [(2, 7), (4, 24), (16, 8)], 3, ⟨(fun b : Dev => { b with ctx := [] }) (having {} ([(GLB_BOOT_STATUS_RECOVERY,
     0)])), []⟩, by decide +kernel⟩,
   ⟨dsc [(2, 7), (16, 8)], 3, ⟨having {} ([(GLB_BOOT_STATUS_RECOVERY, 0), (HLn_TEST_STATUS_LOCK_LOSSES 3, 9)]), []⟩,
     by decide +kernel⟩,
   ⟨dsc [(2, 7), (16, 3), (17, 1)], 3, ⟨having {} ([(GLB_BOOT_STATUS_RECOVERY, 0), (HLn_MAP_VALID 3, 0), (HLn_MAP_SLIP_TX
     3, 255)]), []⟩, by decide +kernel⟩,
   ⟨dsc ((List.range 16).map fun k => (16 + k, 64)), ⟨(fun b : Dev => having b ((List.range 16).map fun k =>
     (HLn_MAP_VALID (Fin.ofNat 16 k), 0))) (having {} ([(GLB_BOOT_STATUS_RECOVERY, 0)])), []⟩, by decide +kernel⟩,
   ⟨dsc ((List.range 15).map (fun k => (16 + k, 64)) ++ [(31, 133)]), 15, 5, ⟨(fun b : Dev => having b ((List.range
     16).map fun k => (HLn_MAP_VALID (Fin.ofNat 16 k), 0))) (having {} ([(GLB_BOOT_STATUS_RECOVERY, 0),
     (LPn_LINK_STATUS_LINK_STATE 5, 0), (LPn_PORT_CFG_MODE 5, 0)])), []⟩, by decide +kernel⟩⟩

theorem witness_AuxiliaryChannels :
    (∃ (c : AuxCh) (v : Nat) (l : List Nat) (s : State), s.dev.get (AUX_CHm_STATUS_OWNED c) = 0 ∧ (s.dev.aux.get
      c).driven = true ∧ (s.dev.aux.get c).queue = v :: l ∧ s.dev.get (AUX_CHm_CFG_SLEW_STEP c) = 0 ∧ v ≤ 16383) ∧
    (∃ (c : AuxCh) (s : State), (s.dev.aux.get c).driven = true ∧ s.dev.get (AUX_CHm_CFG_SLEW_STEP c) ≠ 0 ∧ s.dev.ramping
      = [] ∧ s.dev.thm.orderly ≠ 3) ∧
    (∃ (c : Desc) (m : AuxCh) (s : State), s.dev.Acts c ∧ c.bits 16 4 0 = m.val ∧ c.length = 2 ∧ c.flag 17 0 = false ∧
      (s.dev.ring c.ring).owner = 0 ∧ c.data = .first ∧ s.dev.get (AUX_CHm_STATUS_OWNED m) = 0 ∧ s.dev.auxHeld = false ∧
      (s.dev.aux.get m).queue.length < s.dev.get (AUX_CHm_QUEUE_DEPTH m) + 1) ∧
    (∃ (c : Desc) (m : AuxCh) (s : State), s.dev.Acts c ∧ c.bits 16 4 0 = m.val ∧ c.flag 17 0 = false ∧ c.flag 17 1 =
      true ∧ 1 ≤ c.bits 26 4 0 ∧ c.bits 26 4 0 ≤ 16) ∧
    (∃  (s : State), s.dev.get AUX_STATUS_CLR_PIN = 0 ∧ s.dev.thm.orderly ≠ 3) ∧
    (∃  (s : State), s.dev.thm.hard = false) :=
  ⟨⟨5, 1234, [7, 8], ⟨(fun b : Dev => b.modAux 5 fun a => { a with driven := true, queue := [1234, 7, 8] }) (having {}
     ([(AUX_CHm_STATUS_OWNED 5, 0), (AUX_CHm_CFG_SLEW_STEP 5, 0)])), []⟩, by decide +kernel⟩,
   ⟨5, ⟨(fun b : Dev => b.modAux 5 fun a => { a with driven := true }) (having {} ((AUX_CHm_CFG_SLEW_STEP 5, 12) ::
     (AUX_CHm_STATUS_CODE 5, 900) :: (AUX_CHm_STATUS_TARGET 5, 1000) :: (List.range 16).map fun l =>
     (BCE_LOOPn_STATE_STATE (Fin.ofNat 16 l), 2))), []⟩, by decide +kernel⟩,
   ⟨dsc [(2, 7), (4, 2), (16, 5)], 5, ⟨(fun b : Dev => { b.modAux 5 fun a => { a with queue := [9] } with ctx := [] })
     (having {} ([(GLB_BOOT_STATUS_RECOVERY, 0), (AUX_CHm_STATUS_OWNED 5, 0), (AUX_STATUS_CLR_PIN, 0),
     (AUX_CHm_QUEUE_DEPTH 5, 3)])), []⟩, by decide +kernel⟩,
   ⟨dsc [(2, 7), (16, 5), (17, 2), (20, 4), (22, 9), (24, 2), (26, 3)], 5, ⟨(fun b : Dev => b.modAux 5 fun a =>
     { a with queue := [9, 8, 7, 6, 5] }) (having {} ([(GLB_BOOT_STATUS_RECOVERY, 0)])), []⟩, by decide +kernel⟩,
   ⟨⟨having {} ([(AUX_STATUS_CLR_PIN, 0), (BCE_LOOPn_STATE_STATE 3, 2), (AUX_CHm_CLEAR_CLEAR 7, 99)]), []⟩,
     by decide +kernel⟩,
   ⟨⟨(fun b : Dev => b.modThm fun t => { t with hard := false }) (having {} ([(AUX_STATUS_CLR_PIN, 1),
     (AUX_CHm_STATUS_CLEARED 5, 1)])), []⟩, by decide +kernel⟩⟩

theorem witness_BiasLoops :
    (∃ (l : LoopNo) (v : Nat) (s : State), s.dev.loopSet l = true ∧ s.dev.waits = [] ∧ s.dev.loopState l = 2 ∧
      s.dev.feedback l = (v, true) ∧ (s.dev.loop.get l).frzN = 0 ∧ (s.dev.loop.get l).pend = none ∧ (s.dev.loop.get
      l).pendTable = none ∧ (s.dev.loop.get l).inj = none ∧ (s.dev.loop.get l).pol = false ∧ (s.dev.loop.get l).bank.ki =
      (0, 0) ∧ (s.dev.loop.get l).bank.kd = (0, 0) ∧ s.dev.bceCap.on = false) ∧
    (∃ (l : LoopNo) (c : Desc) (s : State), s.dev.loopSet l = true ∧ s.dev.waits = [(.loopStop l, c)] ∧ 3 ≤
      s.dev.loopState l) ∧
    (∃ (l : LoopNo) (v : Nat) (s : State), (s.dev.loop.get l).result = some v ∧ v ≤ 16383) ∧
    (∃ (l : LoopNo) (v : Nat) (s : State), (s.dev.loop.get l).result = some v) ∧
    (∃ (l : LoopNo) (c : Desc) (s : State), s.dev.loopState l = 1 ∧ (s.dev.loop.get l).faultAct = false ∧ s.dev.waits =
      [(.loopStart l, c)]) ∧
    (∃ (l : LoopNo) (s : State), s.dev.thm.orderly = 3 ∧ s.dev.ramping = [l] ∧ s.dev.get (AUX_CHm_STATUS_CODE
      (s.dev.loopChan l)) ≠ s.dev.auxClearCode (s.dev.loopChan l)) :=
  ⟨⟨3, 5000, ⟨(fun b : Dev =>
     { b.modLoop 3 fun q => { q with src := 2, coarse := false, frzN := 0, pend := none, pendTable := none, inj := none, pol := false, bank := { q.bank with sp := 6000, kp := (3, -1), ki := (0, 0), kd := (0, 0), iMax := 500, outMax := 9000 } } with waits := [], bceCap := {} })
     (having {} ([(BCE_LOOPn_STATE_STATE 3, 2), (BCE_LOOPn_STATE_PERIOD 3, 10), (MON_CICk_OUT_OUT 2, 5000),
     (MON_CICk_OUT_VALID 2, 1), (MON_CICk_OUT_OOR 2, 0), (BCE_LOOPn_INTEG_VALUE 3, 77)])), []⟩, by decide +kernel⟩,
   ⟨3, dsc [(2, 7)], ⟨(fun b : Dev => { b with waits := [(.loopStop 3, dsc [(2, 7)])] }) (having {}
     ([(BCE_LOOPn_STATE_STATE 3, 3), (BCE_LOOPn_STATE_PERIOD 3, 10)])), []⟩, by decide +kernel⟩,
   ⟨3, 4096, ⟨(fun b : Dev => b.modLoop 3 fun q => { q with result := some 4096 }) (having {} ([(BCE_LOOPn_STATE_CHANNEL
     3, 6)])), []⟩, by decide +kernel⟩,
   ⟨3, 4096, ⟨(fun b : Dev => b.modLoop 3 fun q => { q with result := some 4096 }) (({} : Dev)), []⟩, by decide +kernel⟩,
   ⟨3, dsc [(2, 7)], ⟨(fun b : Dev =>
     { b.modLoop 3 fun q => { q with faultAct := false } with waits := [(.loopStart 3, dsc [(2, 7)])] }) (having {}
     ([(BCE_LOOPn_STATE_STATE 3, 1)])), []⟩, by decide +kernel⟩,
   ⟨3, ⟨(fun b : Dev => b.modThm fun t => { t with orderly := 3 }) (having {} ((BCE_LOOPn_STATE_CHANNEL 3, 6) ::
     (AUX_CHm_STATUS_CODE 6, 900) :: (AUX_CHm_CLEAR_CLEAR 6, 100) :: (List.range 16).map fun l => (BCE_LOOPn_STATE_STATE
     (Fin.ofNat 16 l), if l = 3 then 6 else 0))), []⟩, by decide +kernel⟩⟩

theorem witness_BiasDescriptors :
    (∃ (c : Desc) (l : LoopNo) (m : AuxCh) (s : State), s.dev.Acts c ∧ c.bits 16 3 0 = l.val ∧ c.bits 17 1 0 = 0 ∧
      c.length = 0 ∧ c.bits 19 4 0 = m.val ∧ c.bits 20 4 0 ≤ 7 ∧ 5 ≤ c.bytes 21 2 ∧ c.bytes 21 2 ≤ 1000 ∧ c.bits 27 3 0 ≤
      7 ∧ c.flag 18 4 = false ∧ s.dev.get (AUX_CHm_STATUS_OWNED m) = 0 ∧ (s.dev.loop.get l).owns = false ∧
      (s.dev.loop.get l).bank.good (c.flag 18 0) = true ∧ s.dev.loopState l = 0) ∧
    (∃ (c : Desc) (l : LoopNo) (s : State), s.dev.Acts c ∧ c.bits 16 3 0 = l.val ∧ c.bits 17 1 0 = 2 ∧ s.dev.loopSet l =
      true ∧ s.dev.waits = []) ∧
    (∃ (c : Desc) (l : LoopNo) (s : State), s.dev.Acts c ∧ c.bits 16 3 0 = l.val ∧ s.dev.loopSet l = true ∧
      s.dev.loopState l = 3 ∨ s.dev.loopState l = 4 ∧ s.dev.get AUX_STATUS_CLR_PIN = 0 ∧ s.dev.quenching = false ∧
      s.dev.waits = []) ∧
    (∃ (c : Desc) (l : LoopNo) (s : State), s.dev.Acts c ∧ c.bits 16 3 0 = l.val ∧ c.length = 72 ∧ (s.dev.ring
      c.ring).owner = 0 ∧ c.data = .first ∧ (s.dev.fresh.readBank c).2.1.good (s.dev.on (BCE_LOOPn_STATE_CLASS l)) = true
      ∧ s.dev.loopState l = 2 ∧ s.dev.waits = []) ∧
    (∃ (c : Desc) (l : LoopNo) (s : State), s.dev.Acts c ∧ c.bits 16 3 0 = l.val ∧ s.dev.get (BCE_LOOPn_STATE_CLASS l) =
      1 ∧ c.length = 130 ∧ (s.dev.ring c.ring).owner = 0 ∧ c.data = .first ∧ ((chunks 2 66 (s.dev.fresh.getData c 0
      130).2.1).map ofBytes).all (fun v => decide (v ≤ 16383)) = true ∧ s.dev.loopState l = 2 ∧ s.dev.waits = []) ∧
    (∃ (c : Desc) (l : LoopNo) (s : State), s.dev.Acts c ∧ c.bits 16 3 0 = l.val ∧ c.bits 17 3 1 = 2 ∧ 4 ≤ c.bytes 20 2 %
      8192 ∧ c.bytes 20 2 % 8192 ≤ 4096 ∧ c.bytes 24 4 = 0 ∧ s.dev.loopState l = 2 ∧ (s.dev.loop.get l).inj = none) ∧
    (∃ (c : Desc) (l : LoopNo) (s : State), s.dev.Acts c ∧ c.bits 16 3 0 = l.val ∧ c.bits 18 2 0 ≤ 5 ∧ c.bits 19 2 0 ≤ 5
      ∧ s.dev.loopState l = 2 ∧ s.dev.bceCap.on = false ∧ s.dev.waits = []) ∧
    (∃ (c : Desc) (s : State), s.dev.Acts c ∧ c.bytes 24 4 + c.length ≤ 32768 ∧ 0 < c.length ∧ (s.dev.ring c.ring).owner
      = 0 ∧ s.dev.bceCap.on = false ∧ (s.dev.fresh.readMem 1 (bceCapBase + c.bytes 24 4) c.length c.glitch).2.2 = .first) :=
  ⟨⟨dsc [(2, 7), (16, 3), (19, 6), (20, 2), (21, 50), (27, 1)], 3, 6, ⟨(fun b : Dev => b.modLoop 3 fun q =>
     { q with owns := false, bank := {} }) (having {} ([(GLB_BOOT_STATUS_RECOVERY, 0), (BCE_LOOPn_STATE_STATE 3, 0),
     (AUX_CHm_STATUS_OWNED 6, 0)])), []⟩, by decide +kernel⟩,
   ⟨dsc [(2, 7), (16, 3), (17, 2)], 3, ⟨(fun b : Dev => { b with waits := [] }) (having {} ([(GLB_BOOT_STATUS_RECOVERY,
     0), (BCE_LOOPn_STATE_PERIOD 3, 10)])), []⟩, by decide +kernel⟩,
   ⟨dsc [(2, 7), (16, 3)], 3, ⟨(fun b : Dev => { b with waits := [] }) (having {} ([(GLB_BOOT_STATUS_RECOVERY, 0),
     (BCE_LOOPn_STATE_PERIOD 3, 10), (BCE_LOOPn_STATE_STATE 3, 4), (AUX_STATUS_CLR_PIN, 0), (THM_STATUS_STATE, 0)])),
     []⟩, by decide +kernel⟩,
   ⟨dsc [(2, 7), (4, 72), (16, 3)], 3, ⟨(fun b : Dev => { b with waits := [], ctx := [] }) (having {}
     ([(GLB_BOOT_STATUS_RECOVERY, 0), (BCE_LOOPn_STATE_STATE 3, 2)])), []⟩, by decide +kernel⟩,
   ⟨dsc [(2, 7), (4, 130), (16, 3)], 3, ⟨(fun b : Dev => { b with waits := [], ctx := [] }) (having {}
     ([(GLB_BOOT_STATUS_RECOVERY, 0), (BCE_LOOPn_STATE_STATE 3, 2), (BCE_LOOPn_STATE_CLASS 3, 1)])), []⟩,
     by decide +kernel⟩,
   ⟨dsc [(2, 7), (16, 3), (17, 5), (18, 40), (20, 100)], 3, ⟨(fun b : Dev => b.modLoop 3 fun q => { q with inj := none })
     (having {} ([(GLB_BOOT_STATUS_RECOVERY, 0), (BCE_LOOPn_STATE_STATE 3, 2)])), []⟩, by decide +kernel⟩,
   ⟨dsc [(2, 7), (16, 3), (18, 1), (19, 4), (20, 9), (21, 1)], 3, ⟨(fun b : Dev => { b with waits := [], bceCap := {} })
     (having {} ([(GLB_BOOT_STATUS_RECOVERY, 0), (BCE_LOOPn_STATE_STATE 3, 2)])), []⟩, by decide +kernel⟩,
   ⟨dsc [(2, 7), (4, 16), (16, 3)], ⟨(fun b : Dev => { b with ctx := [], bceCap := {} }) (having {}
     ([(GLB_BOOT_STATUS_RECOVERY, 0)])), []⟩, by decide +kernel⟩⟩

theorem witness_MonitorConversions :
    (∃ (z : Int) (i : InputNo) (k : Nat) (s : State), s.dev.monRuns = true ∧ s.dev.mon.inServ ≠ [] ∧ s.dev.nextSlot
      s.dev.mon.slots s.dev.mon.pos = some k ∧ i = Fin.ofNat 32 (s.dev.mon.slots.getD k 0) ∧ (s.dev.mon.slice.get
      (Fin.ofNat 5 (s.dev.slotSlice k))).flagged = false ∧ s.dev.get (MON_INm_LIM_VLO i) ≤ (clampInt 0 4095 z).toNat ∧
      (clampInt 0 4095 z).toNat ≤ s.dev.get (MON_INm_LIM_VHI i)) ∧
    (∃ (n : Nat) (codes : List (Nat × Nat)) (s : State), s.dev.monHealthOn = true ∧ s.dev.mon.health <
      s.dev.mon.inServ.length ∧ s.dev.mon.inServ[s.dev.mon.health]? = some n ∧ n < 5 ∧ monWindowFails
      (s.dev.mon.slice.get (Fin.ofNat 5 n)) (s.dev.mon.slice.get (Fin.ofNat 5 (s.dev.mon.free.headD 0))) codes = false) ∧
    (∃ (n : Nat) (codes : List (Nat × Nat)) (s : State), s.dev.monHealthOn = true ∧ s.dev.mon.health <
      s.dev.mon.inServ.length ∧ s.dev.mon.inServ[s.dev.mon.health]? = some n ∧ n < 5 ∧ (s.dev.mon.slice.get (Fin.ofNat 5
      n)).bad = 0 ∧ monWindowFails (s.dev.mon.slice.get (Fin.ofNat 5 n)) (s.dev.mon.slice.get (Fin.ofNat 5
      (s.dev.mon.free.headD 0))) codes = true) ∧
    (∃ (n : Nat) (a : Nat) (g : Nat) (r : List Nat) (s : State), s.dev.mon.cycle = some (n :: r, [], a, g)) ∧
    (∃ (m : MonSums) (w : MonMeas) (n : Nat) (a : Nat) (g : Nat) (k : Nat) (r : List Nat) (s : State), s.dev.mon.cycle =
      some (n :: k :: r, [w], a, g) ∧ monAgree w (monMeas m) = true) ∧
    (∃ (i : InputNo) (y : Syscal) (s : State), (s.dev.mon.inp.get i).syscal = some y ∧ y.oor = false ∧ y.taken = 2 ^ (8 +
      y.avg) ∧ y.got = []) ∧
    (∃ (i : InputNo) (y : Syscal) (w : Rat) (c : Desc) (s : State), (s.dev.mon.inp.get i).syscal = some y ∧ y.oor = false
      ∧ y.taken = 2 ^ (8 + y.avg) ∧ y.target = none ∧ y.got = [w] ∧ within 8 w ((y.sum : Rat) / y.taken) = true ∧
      s.dev.waits = [(.syscal i, c)]) :=
  ⟨⟨5000, 4, 1, ⟨(fun b : Dev => b.modMon fun m => { m with slots := [3, 4], pos := 1, inServ := [0, 1, 2, 3] }) (having
     {} ([(MON_STATUS_STATE, 2), (MON_INm_CFG_EN 4, 1), (MON_INm_LIM_VLO 4, 0), (MON_INm_LIM_VHI 4, 4095)])), []⟩,
     by decide +kernel⟩,
   ⟨1, [(1000, 1001), (1003, 1002), (1001, 1001)], ⟨(fun b : Dev => b.modMon fun m =>
     { m with inServ := [0, 1, 2, 3], free := [4], health := 1, slice := Vector.replicate 5 {}, cycle := none }) (having
     {} ([(MON_STATUS_STATE, 2), (MON_CTRL_HLTH_EN, 1)])), []⟩, by decide +kernel⟩,
   ⟨1, [(1000, 1001), (1000, 1002)], ⟨(fun b : Dev => b.modMon fun m =>
     { m with inServ := [0, 1, 2, 3], free := [4], health := 1, slice := Vector.replicate 5 {}, cycle := none }) (having
     {} ([(MON_STATUS_STATE, 2), (MON_CTRL_HLTH_EN, 1), (MON_SLICE_HLTH_FAILS, 251)])), []⟩, by decide +kernel⟩,
   ⟨4, 1, 0, [0, 1], ⟨(fun b : Dev => b.modMon fun m => { m with cycle := some ([4, 0, 1], [], 1, 0) }) (({} : Dev)),
     []⟩, by decide +kernel⟩,
   ⟨.reference 53690368 16384, ⟨1, 0⟩, 4, 1, 0, 0, [1], ⟨(fun b : Dev => b.modMon fun m =>
     { m with cycle := some ([4, 0, 1], [⟨1, 0⟩], 1, 0) }) (({} : Dev)), []⟩, by decide +kernel⟩,
   ⟨7, { target := none, avg := 1, sum := 512 * 900 + 1, taken := 512 }, ⟨(fun b : Dev => b.modIn 7 fun q =>
     { q with syscal := some { target := none, avg := 1, sum := 512 * 900 + 1, taken := 512 } }) (({} : Dev)), []⟩,
     by decide +kernel⟩,
   ⟨7, { target := none, avg := 1, sum := 512 * 900, taken := 512, got := [895] }, 895, dsc [(2, 7)], ⟨(fun b : Dev =>
     { b.modIn 7 fun q => { q with syscal := some { target := none, avg := 1, sum := 512 * 900, taken := 512, got := [895] } } with waits := [(.syscal 7, dsc [(2, 7)])] })
     (({} : Dev)), []⟩, by decide +kernel⟩⟩

theorem witness_MonitorDescriptors :
    (∃ (c : Desc) (i : InputNo) (s : State), s.dev.Acts c ∧ c.bits 17 4 0 = i.val ∧ c.bytes 19 2 % 4096 ≤ c.bytes 21 2 %
      4096 ∧ c.bits 18 2 1 = 0 ∧ c.bits 23 4 0 ≤ 23 ∧ c.flag 18 0 = true) ∧
    (∃ (c : Desc) (s : State), s.dev.Acts c ∧ 1 ≤ c.length ∧ c.length ≤ 64 ∧ (s.dev.ring c.ring).owner = 0 ∧ c.data =
      .first ∧ (s.dev.fresh.getData c 0 c.length).2.1.all (fun x => decide (x.toNat ≤ 31)) = true ∧ (∀ l : LoopNo,
      s.dev.loopState l = 0)) ∧
    (∃ (c : Desc) (s : State), s.dev.Acts c) ∧
    (∃ (c : Desc) (l : List Nat) (r : List Nat) (s : State), s.dev.Acts c ∧ s.dev.monLp = false ∧ s.dev.monRuns = true ∧
      s.dev.mon.inServ = l ∧ l ≠ [] ∧ s.dev.mon.free = r ∧ r ≠ [] ∧ s.dev.mon.cycle = none) ∧
    (∃ (c : Desc) (s : State), s.dev.Acts c ∧ c.flag 16 0 = false ∧ c.flag 17 0 = true ∧ c.bytes 20 4 ≠ 0 ∧ c.length = 32
      * (maskList 32 (c.bytes 20 4)).length ∧ (s.dev.ring c.ring).owner = 0) ∧
    (∃ (c : Desc) (s : State), s.dev.Acts c ∧ c.bits 18 2 0 ≤ 4 ∧ c.bits 17 1 0 = 0 ∧ s.dev.inputUsed (Desc.input c) =
      false ∧ (s.dev.mon.inp.get (Desc.input c)).syscal = none) ∧
    (∃ (c : Desc) (s : State), s.dev.Acts c ∧ c.bits 18 2 0 ≤ 4 ∧ c.bits 17 1 0 = 1 ∧ (s.dev.mon.inp.get (Desc.input
      c)).zero.isSome = true ∧ s.dev.inputUsed (Desc.input c) = false ∧ (s.dev.mon.inp.get (Desc.input c)).syscal = none) ∧
    (∃ (c : Desc) (s : State), s.dev.Acts c ∧ c.bits 18 2 0 ≤ 4 ∧ c.bits 17 1 0 = 2 ∧ s.dev.inputUsed (Desc.input c) =
      false) ∧
    (∃ (c : Desc) (k : Nat) (s : State), s.dev.Acts c ∧ k = c.bits 16 2 0 ∧ c.flag 17 0 = true ∧ 3 ≤ c.bits 19 2 0 ∧
      c.bits 19 2 0 ≤ 5 ∧ 4 ≤ c.bytes 20 2 % 8192 ∧ c.bytes 20 2 % 8192 ≤ 4096 ∧ c.bytes 24 2 ≤ c.bytes 22 2 ∧
      s.dev.cicUsed k = false) :=
  ⟨⟨dsc [(2, 7), (17, 4), (18, 25), (19, 3), (22, 15), (23, 7)], 4, ⟨having {} ([(GLB_BOOT_STATUS_RECOVERY, 0)]), []⟩,
     by decide +kernel⟩,
   ⟨dsc [(2, 7), (4, 3), (8, 64)], ⟨(fun b : Dev => { b with ctx := [] }) (having {} ((GLB_BOOT_STATUS_RECOVERY, 0) ::
     (List.range 16).map fun l => (BCE_LOOPn_STATE_STATE (Fin.ofNat 16 l), 0))), []⟩, by decide +kernel⟩,
   ⟨dsc [(2, 7), (17, 3)], ⟨(fun b : Dev => b.modMon fun m => { m with cycle := none }) (having {}
     ([(GLB_BOOT_STATUS_RECOVERY, 0)])), []⟩, by decide +kernel⟩,
   ⟨dsc [(2, 7), (17, 3)], [0, 1, 2, 3], [4], ⟨(fun b : Dev =>
     { b.modMon fun m => { m with cycle := none, inServ := [0, 1, 2, 3], free := [4] } with shed := {} }) (having {}
     ([(GLB_BOOT_STATUS_RECOVERY, 0), (MON_STATUS_STATE, 2), (MON_CTRL_LP_SW, 0)])), []⟩, by decide +kernel⟩,
   ⟨dsc [(2, 7), (4, 64), (17, 1), (20, 9)], ⟨(fun b : Dev => { b with ctx := [] }) (having {}
     ([(GLB_BOOT_STATUS_RECOVERY, 0)])), []⟩, by decide +kernel⟩,
   ⟨dsc [(2, 7), (16, 7)], ⟨having {} ((GLB_BOOT_STATUS_RECOVERY, 0) :: (List.range 16).map fun l =>
     (BCE_LOOPn_STATE_STATE (Fin.ofNat 16 l), 0)), []⟩, by decide +kernel⟩,
   ⟨dsc [(2, 7), (16, 7), (17, 1), (20, 99)], ⟨(fun b : Dev => b.modIn 7 fun q => { q with zero := some 5 }) (having {}
     ((GLB_BOOT_STATUS_RECOVERY, 0) :: (List.range 16).map fun l => (BCE_LOOPn_STATE_STATE (Fin.ofNat 16 l), 0))), []⟩,
     by decide +kernel⟩,
   ⟨dsc [(2, 7), (16, 7), (17, 2)], ⟨having {} ((GLB_BOOT_STATUS_RECOVERY, 0) :: (List.range 16).map fun l =>
     (BCE_LOOPn_STATE_STATE (Fin.ofNat 16 l), 0)), []⟩, by decide +kernel⟩,
   ⟨dsc [(2, 7), (16, 5), (17, 1), (18, 6), (19, 4), (20, 0), (21, 16), (22, 90), (24, 20), (28, 9)], 5, ⟨having {}
     ((GLB_BOOT_STATUS_RECOVERY, 0) :: (List.range 16).map fun l => (BCE_LOOPn_STATE_STATE (Fin.ofNat 16 l), 0)), []⟩,
     by decide +kernel⟩⟩

theorem witness_RegisterWriteCommands :
    (∃ (t : Transport) (off : BitVec 16) (n : Nat) (s : State), s.dev.Serving t ∧ off.toNat % 4 = 0 ∧ s.dev.wideValue
      off.toNat = some n) ∧
    (∃ (off : BitVec 16) (s : State), s.dev.Serving .pcie ∧ off.toNat < 0x600 ∧ off.toNat % 4 = 0) ∧
    (∃ (t : Transport) (s : State), s.dev.Serving t) ∧
    (∃ (t : Transport) (p : Port) (s : State), s.dev.Serving t ∧ s.dev.get (LPn_ADC_CAL_STATUS_REHOLD_BLOCK p) = 0) ∧
    (∃ (t : Transport) (s : State), s.dev.Serving t) ∧
    (∃ (t : Transport) (s : State), s.dev.Serving t) ∧
    (∃ (t : Transport) (v : BitVec 32) (s : State), s.dev.Serving t ∧ bitOf v.toNat 31 = true) ∧
    (∃ (t : Transport) (l : Lane) (v : BitVec 32) (s : State), s.dev.Serving t ∧ s.dev.get (HLn_CTRL_RX_FREEZE l) = 0 ∧
      fieldAfter (HLn_CTRL_RX_FREEZE l) 0 v.toNat = 1) ∧
    (∃ (t : Transport) (s : State), s.dev.Serving t) ∧
    (∃ (t : Transport) (c : AuxCh) (s : State), s.dev.Serving t ∧ s.dev.get (AUX_CHm_STATUS_CLEARED c) = 1) ∧
    (∃ (t : Transport) (k : Chan) (s : State), s.dev.Serving t ∧ s.dev.ckBusy k = false) ∧
    (∃ (t : Transport) (v : BitVec 32) (s : State), s.dev.sys.core ≠ .off ∧ s.dev.get GLB_BOOT_STATUS_BOOT_DONE = 1 ∧
      s.dev.enabled t = true ∧ s.dev.get PWR_STATE_STATE = 2 ∧ s.dev.pwr.entry = 0 ∧ s.dev.get PWR_WAKE_EN_SER_EN = 1 ∧
      bitOf v.toNat PWR_STATE_WAKE_REQ.lsb = true) ∧
    (∃ (t : Transport) (v : BitVec 32) (s : State), s.dev.Serving t ∧ s.dev.get GLB_ADMIN_CTRL_ENABLE = 0 ∧ fieldAfter
      GLB_ADMIN_CTRL_ENABLE 0 v.toNat = 1 ∧ 4 ≤ fieldAfter GLB_ADMIN_CTRL_SQ_LOG2 0 v.toNat ∧ fieldAfter
      GLB_ADMIN_CTRL_SQ_LOG2 0 v.toNat ≤ 16 ∧ 4 ≤ fieldAfter GLB_ADMIN_CTRL_CQ_LOG2 0 v.toNat ∧ fieldAfter
      GLB_ADMIN_CTRL_CQ_LOG2 0 v.toNat ≤ 16 ∧ s.dev.get GLB_TRANSPORT_BOOT = 0 ∧ s.dev.get GLB_ADMIN_SQ_LO_BASE % 64 = 0
      ∧ s.dev.get GLB_ADMIN_CQ_LO_BASE % 64 = 0) ∧
    (∃ (t : Transport) (v : BitVec 32) (s : State), s.dev.Serving t ∧ s.dev.get GLB_ADMIN_CTRL_ENABLE = 1 ∧ fieldAfter
      GLB_ADMIN_CTRL_ENABLE 0 v.toNat = 0) ∧
    (∃ (t : Transport) (v : BitVec 32) (s : State), s.dev.Serving t ∧ v ≠ 0xFFFFFFFF) ∧
    (∃ (t : Transport) (s : State), s.dev.Serving t) :=
  ⟨⟨.spi, 0x8020, 81985529216486895, ⟨(fun b : Dev => b.modLane 0 fun h => { h with errors := 81985529216486895 })
     (serving {}), []⟩, by decide +kernel⟩,
   ⟨0x14, ⟨serving {}, []⟩, by decide +kernel⟩,
   ⟨.mdio, ⟨serving {}, []⟩, by decide +kernel⟩,
   ⟨.pcie, 1, ⟨(fun b : Dev => b.modSys fun y => { y with core := .running }) (having {}
     ([(LPn_ADC_CAL_STATUS_REHOLD_BLOCK 1, 0), (GLB_BOOT_STATUS_BOOT_DONE, 1), (PWR_STATE_STATE, 0),
     (GLB_TRANSPORT_PCIE_EN, 1)])), []⟩, by decide +kernel⟩,
   ⟨.pcie, ⟨serving {}, []⟩, by decide +kernel⟩,
   ⟨.pcie, ⟨serving {}, []⟩, by decide +kernel⟩,
   ⟨.pcie, 0xF0000000, ⟨(fun b : Dev => b.modFec 1 fun f => { f with ctr := Vector.replicate 64 7 }) (serving {}), []⟩,
     by decide +kernel⟩,
   ⟨.pcie, 5, 0xFFFFFFFF, ⟨having (serving {}) [(HLn_CTRL_RX_FREEZE 5, 0), (HLn_STATUS_RX_SNR 5, 77)], []⟩,
     by decide +kernel⟩,
   ⟨.pcie, ⟨having (serving {}) [(HLn_CTRL_RX_FREEZE 5, 0), (HLn_STATUS_RX_SNR 5, 77)], []⟩, by decide +kernel⟩,
   ⟨.pcie, 5, ⟨having (serving {}) [(AUX_CHm_STATUS_CLEARED 5, 1)], []⟩, by decide +kernel⟩,
   ⟨.pcie, 2, ⟨(fun b : Dev => b.modChk fun c =>
     { c with loHeld := c.loHeld.set 2 0x1234, slots := Vector.replicate 16 none }) (serving {}), []⟩, by decide +kernel⟩,
   ⟨.pcie, 0xFFFFFFFF, ⟨(fun b : Dev => (b.modSys fun y => { y with core := .running }).modPwr fun w =>
     { w with entry := 0 }) (having {} ([(GLB_BOOT_STATUS_BOOT_DONE, 1), (PWR_STATE_STATE, 2), (GLB_TRANSPORT_PCIE_EN,
     1), (PWR_WAKE_EN_SER_EN, 1)])), []⟩, by decide +kernel⟩,
   ⟨.pcie, 0x8A400000, ⟨having (serving {}) [(GLB_ADMIN_CTRL_ENABLE, 0), (GLB_TRANSPORT_BOOT, 0), (GLB_ADMIN_SQ_LO_BASE,
     0), (GLB_ADMIN_CQ_LO_BASE, 0)], []⟩, by decide +kernel⟩,
   ⟨.pcie, 0, ⟨having (serving {}) [(GLB_ADMIN_CTRL_ENABLE, 1)], []⟩, by decide +kernel⟩,
   ⟨.pcie, 7, ⟨serving {}, []⟩, by decide +kernel⟩,
   ⟨.pcie, ⟨having (serving {}) [(EVR_CURSOR_CURSOR, 77)], []⟩, by decide +kernel⟩⟩

theorem witness_SerialAndPcieAccesses :
    (∃ (a : BitVec 32) (s : State), s.dev.Serving .spi ∧ a.toNat < 0x10000 ∧ a.toNat % 4 = 0 ∧ isHearth a.toNat = false ∧
      setsGoing a.toNat = false ∧ ¬ (0x800 ≤ a.toNat ∧ a.toNat < 0xE00)) ∧
    (∃ (a : BitVec 32) (s : State), s.dev.Serving .spi ∧ a.toNat < 0x10000 ∧ a.toNat % 4 = 0 ∧ isHearth a.toNat = false ∧
      setsGoing a.toNat = false ∧ ¬ (0x800 ≤ a.toNat ∧ a.toNat < 0xE00)) ∧
    (∃ (a : BitVec 32) (s : State), s.dev.Serving .spi ∧ a.toNat < 0x10000 ∧ a.toNat % 4 = 0 ∧ isHearth a.toNat = false) ∧
    (∃ (a : BitVec 32) (s : State), s.dev.Serving .spi ∧ a.toNat < 0x10000 ∧ a.toNat % 4 = 0 ∧ isHearth a.toNat = false) ∧
    (∃ (x : Byte) (s : State), s.dev.Serving .spi ∧ spiCommands.contains x = false) ∧
    (∃  (s : State), s.dev.Serving .mdio ∧ s.dev.mdio.window < 0x10000 ∧ isHearth s.dev.mdio.window = false) ∧
    (∃  (s : State), s.dev.Serving .mdio) ∧
    (∃  (s : State), s.dev.Serving .mdio) ∧
    (∃ (a : Nat) (s : State), s.dev.Serving .mdio ∧ s.dev.mdio.window = a ∧ a < 0x10000 ∧ isHearth a = false ∧ setsGoing
      a = false ∧ ¬ (0x800 ≤ a ∧ a < 0xE00)) ∧
    (∃  (s : State), s.dev.Serving .mdio) ∧
    (∃ (p : Port) (s : State), s.dev.Serving .mdio ∧ s.dev.atRest p = true ∧ s.dev.sys.restart = none ∧ (s.dev.prt
      p).link.mdioReset = false) ∧
    (∃ (p : Port) (s : State), s.dev.Serving .mdio ∧ s.dev.linkState p = 4 ∧ s.dev.mdio.linkLow.get p = true) ∧
    (∃ (q : PcieReq) (s : State), s.dev.Serving .pcie ∧ q.bar2 = false ∧ q.write = none ∧ q.aligned = true ∧ q.off.toNat
      % 4 = 0 ∧ ¬ (0x800 ≤ q.off.toNat ∧ q.off.toNat < 0xE00)) ∧
    (∃ (t : Transport) (ring : RingNo) (v : BitVec 32) (s : State), s.dev.Serving t ∧ s.dev.mem.die.get 3 = [] ∧
      (s.dev.ring ring).live = true ∧ (s.dev.ring ring).typ = 0 ∧ (s.dev.ring ring).owner = t.code ∧ v.toNat % 65536 <
      (s.dev.ring ring).size ∧ (v.toNat % 65536 + (s.dev.ring ring).size - (s.dev.ring ring).tail) % (s.dev.ring
      ring).size ≤ ((s.dev.ring ring).head + (s.dev.ring ring).size - 1 + (s.dev.ring ring).size - (s.dev.ring
      ring).tail) % (s.dev.ring ring).size) ∧
    (∃ (v : BitVec 16) (ring : RingNo) (s : State), s.dev.Serving .mdio ∧ s.dev.mdio.ring = ring ∧ s.dev.mem.die.get 3 =
      [] ∧ (s.dev.ring ring).live = true ∧ (s.dev.ring ring).typ = 0 ∧ (s.dev.ring ring).owner = 2 ∧ (s.dev.ring
      ring).head = (s.dev.ring ring).tail ∧ v.toNat < (s.dev.ring ring).size ∧ (s.dev.ring ring).tail < (s.dev.ring
      ring).size) ∧
    (∃ (t : Transport) (s : State), s.dev.Serving t) :=
  ⟨⟨0x4004, ⟨serving {}, []⟩, by decide +kernel⟩,
   ⟨0x4004, ⟨serving {}, []⟩, by decide +kernel⟩,
   ⟨0x4004, ⟨serving {}, []⟩, by decide +kernel⟩,
   ⟨0x4004, ⟨serving {}, []⟩, by decide +kernel⟩,
   ⟨0x9F, ⟨serving {}, []⟩, by decide +kernel⟩,
   ⟨⟨(fun b : Dev => b.modMdio fun m => { m with addr := 0x4004 }) (serving {}), []⟩, by decide +kernel⟩,
   ⟨⟨(fun b : Dev => b.modMdio fun m => { m with addr := 0x4004, autoInc := true, hiLatch := 0x1234 }) (serving {}), []⟩,
     by decide +kernel⟩,
   ⟨⟨serving {}, []⟩, by decide +kernel⟩,
   ⟨0x4004, ⟨(fun b : Dev => b.modMdio fun m => { m with addr := 0x4004, loHold := 0xFFFF }) (serving {}), []⟩,
     by decide +kernel⟩,
   ⟨⟨(fun b : Dev => b.modMdio fun m => { m with ue := true }) (serving {}), []⟩, by decide +kernel⟩,
   ⟨3, ⟨having (serving {}) [(LPn_LINK_STATUS_LINK_STATE 3, 0), (PWR_DOZE_IN_DOZE, 0)], []⟩, by decide +kernel⟩,
   ⟨3, ⟨(fun b : Dev => b.modMdio fun m => { m with linkLow := m.linkLow.set 3 true }) (having (serving {})
     [(LPn_LINK_STATUS_LINK_STATE 3, 4)]), []⟩, by decide +kernel⟩,
   ⟨{ bar2 := false, off := 0x4004, write := none }, ⟨serving {}, []⟩, by decide +kernel⟩,
   ⟨.spi, 9, 12, ⟨(fun b : Dev => { b with ctx := [(9, { sizeLog2 := 4, owner := 1, head := 15, tail := 3, cq := 1 })] })
     (serving {}), []⟩, by decide +kernel⟩,
   ⟨12, 9, ⟨(fun b : Dev =>
     { b.modMdio (fun m => { m with dbRing := 9 }) with ctx := [(9, { sizeLog2 := 4, owner := 2, head := 3, tail := 3, cq := 1 })] })
     (serving {}), []⟩, by decide +kernel⟩,
   ⟨.pcie, ⟨(fun b : Dev => { b with ctx := [(9, { sizeLog2 := 4, owner := 2, head := 5, tail := 3, cq := 1 })] })
     (serving {}), []⟩, by decide +kernel⟩⟩

theorem witness_FetchAndRings :
    (∃ (x : Attempt) (c : Desc) (s : State), (s.dev.fresh.fetch .first x).2 = some c ∧ c.opcode = 0 ∧ s.dev.Acts c ∧
      (s.dev.ring c.ring).live = true ∧ s.dev.ctx.map (fun e => e.1) = [0, 1] ∧ s.dev.ring 0 =
      { sizeLog2 := 4, typ := 0, cq := 1, head := (s.dev.ring 0).head, tail := (s.dev.ring 0).tail } ∧ c.ring = 0) ∧
    (∃ (c : Desc) (s : State), s.dev.Acts c) ∧
    (∃ (c : Desc) (s : State), s.dev.Acts c) ∧
    (∃ (c : Desc) (k : Nat) (n : Nat) (s : State), s.dev.Acts c ∧ c.ring.val = 0 ∧ c.bytes 16 2 = n ∧ 2 ≤ n ∧ n ≤ 16383 ∧
      c.length = 2 ^ k ∧ 4 ≤ k ∧ k ≤ 16 ∧ c.bits 18 1 0 = 1 ∧ c.bits 18 3 2 = 0 ∧ c.byte 19 ≤ 63 ∧ c.address % 64 = 0 ∧
      c.byte 22 ≤ 1 ∧ (s.dev.ring n).live = false ∧ s.dev.enabled .pcie = true) ∧
    (∃ (c : Desc) (n : Nat) (s : State), s.dev.Acts c ∧ c.ring.val = 0 ∧ c.bytes 16 2 = n ∧ 2 ≤ n ∧ n ≤ 16383 ∧
      (s.dev.ring n).live = true ∧ (s.dev.ring n).typ = 2) ∧
    (∃ (c : Desc) (s : State), s.dev.Acts c ∧ c.ring.val = 0 ∧ c.length = 32 ∧ (s.dev.ring c.ring).owner = 0 ∧
      s.dev.mem.die.get 3 = []) ∧
    (∃ (c : Desc) (n : Nat) (s : State), s.dev.Acts c ∧ c.ring.val = 0 ∧ c.bytes 16 2 % 16384 = n ∧ c.flag 18 7 = false ∧
      (s.dev.ring n).live = true ∧ (s.dev.ring n).typ = 1 ∧ s.dev.target.get (transportOf (s.dev.ring n).owner).idx =
      none) ∧
    (∃ (c : Desc) (s : State), s.dev.Acts c ∧ c.length = 64 ∧ (s.dev.ring c.ring).owner = 0) ∧
    (∃ (ring : RingNo) (e : Cpl) (s : State), s.dev.heldCpl = [(ring.val, e)] ∧ (s.dev.ring ring).live = true ∧
      (s.dev.ring ring).full = false ∧ s.dev.target = Vector.replicate 3 none) ∧
    (∃ (ring : RingNo) (s : State), (s.dev.ring ring).live = true ∧ (s.dev.ring ring).typ ≠ 0 ∧ (s.dev.ring ring).irqEn =
      true ∧ (s.dev.ring ring).coalTime ≠ 0 ∧ (s.dev.ring ring).sinceSignal ≠ 0) ∧
    (∃ (c : Desc) (n : Nat) (s : State), s.dev.Acts c ∧ c.bytes 16 2 = n ∧ n < 16384 ∧ (s.dev.ring n).live = true ∧
      (s.dev.ring n).typ = 2 ∧ (s.dev.ring n).owner = (s.dev.ring c.ring).owner ∧ 1 ≤ c.byte 18 ∧ c.byte 18 ≤ 6 ∧ 1 ≤
      c.bytes 20 2 ∧ c.bytes 20 2 ≤ 60000 ∧ 1 ≤ c.bytes 24 8 ∧ c.bytes 24 8 < 2 ^ telInstances (c.byte 18) ∧ (telRecords
      (c.byte 18) (c.bytes 24 8)).length < (s.dev.ring n).size - 1 ∧ s.dev.streams = []) ∧
    (∃ (ring : RingNo) (x : Stream) (s : State), s.dev.streams = [x] ∧ x.ring = ring.val ∧ x.repl = none ∧ s.dev.get
      PWR_STATE_STATE ≤ 1 ∧ s.dev.coreRuns = true ∧ (telRecords x.kind x.select).length + (s.dev.ring ring).waiting <
      (s.dev.ring ring).size ∧ (s.dev.ring ring).live = true) :=
  ⟨⟨.first, { ring := 0, index := 3, body := 0 }, ⟨(fun b : Dev =>
     { b.modSys fun y => { y with core := .running } with ctx := [(0, { sizeLog2 := 4, typ := 0, cq := 1, head := 3, tail := 9 }), (1, { sizeLog2 := 4, typ := 1 })] })
     (having {} ([(GLB_BOOT_STATUS_BOOT_DONE, 1), (GLB_BOOT_STATUS_RECOVERY, 0), (PWR_STATE_STATE, 0)])), []⟩,
     by decide +kernel⟩,
   ⟨dsc [(2, 7)], ⟨having {} ([(GLB_BOOT_STATUS_RECOVERY, 0)]), []⟩, by decide +kernel⟩,
   ⟨dsc [(2, 7)], ⟨having {} ([(GLB_BOOT_STATUS_RECOVERY, 0)]), []⟩, by decide +kernel⟩,
   ⟨dsc [(4, 64), (16, 9), (18, 17), (19, 5)], 6, 9, ⟨having {} ([(GLB_BOOT_STATUS_RECOVERY, 0), (GLB_TRANSPORT_PCIE_EN,
     1)]), []⟩, by decide +kernel⟩,
   ⟨dsc [(16, 9)], 9, ⟨(fun b : Dev =>
     { b with ctx := [(9, { sizeLog2 := 5, typ := 2 })], streams := [{ ring := 9, kind := 1, clear := false, period := 5, select := 1 }] })
     (having {} ([(GLB_BOOT_STATUS_RECOVERY, 0)])), []⟩, by decide +kernel⟩,
   ⟨dsc [(4, 32), (16, 9 * 1)], ⟨(fun b : Dev =>
     { b with ctx := [(0, { sizeLog2 := 5, typ := 0, head := 7, cq := 1 }), (9, { sizeLog2 := 5, typ := 1, tail := 31, head := 3 })], mem := {} })
     (having {} ([(GLB_BOOT_STATUS_RECOVERY, 0)])), []⟩, by decide +kernel⟩,
   ⟨dsc [(16, 9), (18, 2)], 9, ⟨(fun b : Dev =>
     { b with ctx := [(9, { sizeLog2 := 5, typ := 1, owner := 1 })], target := Vector.replicate 3 none }) (having {}
     ([(GLB_BOOT_STATUS_RECOVERY, 0)])), []⟩, by decide +kernel⟩,
   ⟨dsc [(4, 64)], ⟨(fun b : Dev => { b with ctx := [] }) (having {} ([(GLB_BOOT_STATUS_RECOVERY, 0)])), []⟩,
     by decide +kernel⟩,
   ⟨9, { status := 1, tag := 5, result := 6, time := 7 }, ⟨(fun b : Dev =>
     { b with ctx := [(9, { sizeLog2 := 5, typ := 1, tail := 31, head := 3 })], heldCpl := [(9, { status := 1, tag := 5, result := 6, time := 7 })], target := Vector.replicate 3 none })
     (({} : Dev)), []⟩, by decide +kernel⟩,
   ⟨9, ⟨(fun b : Dev =>
     { b with ctx := [(9, { sizeLog2 := 5, typ := 1, irqEn := true, coalTime := 4, sinceSignal := 2 })] }) (({} : Dev)),
     []⟩, by decide +kernel⟩,
   ⟨dsc [(16, 9), (18, 1), (20, 50), (24, 3)], 9, ⟨(fun b : Dev =>
     { b with ctx := [(9, { sizeLog2 := 5, typ := 2 })], streams := [] }) (having {} ([(GLB_BOOT_STATUS_RECOVERY, 0)])),
     []⟩, by decide +kernel⟩,
   ⟨9, { ring := 9, kind := 1, clear := false, period := 5, select := 3 }, ⟨(fun b : Dev =>
     { b.modSys fun y => { y with core := .running } with ctx := [(9, { sizeLog2 := 5, typ := 2, head := 4, tail := 4 })], streams := [{ ring := 9, kind := 1, clear := false, period := 5, select := 3 }] })
     (having {} ([(PWR_STATE_STATE, 0)])), []⟩, by decide +kernel⟩⟩

theorem witness_GeneralCounters :
    (∃ (c : Desc) (m : Nat) (s : State), s.dev.Acts c ∧ m = c.bits 16 5 0 ∧ ctrBad c = false) ∧
    (∃ (c : Desc) (m : Nat) (s : State), s.dev.Acts c ∧ m = c.bits 16 5 0 ∧ ctrBad c = false) ∧
    (∃ (c : Desc) (s : State), s.dev.Acts c ∧ c.bits 16 2 0 ≤ 3) ∧
    (∃ (c : Desc) (s : State), s.dev.Acts c) ∧
    (∃ (c : Desc) (s : State), s.dev.Acts c ∧ s.dev.get CTR_STATUS_FROZEN = 0) ∧
    (∃ (c : Desc) (s : State), s.dev.Acts c) ∧
    (∃ (c : Desc) (s : State), s.dev.Acts c ∧ c.bits 16 1 0 ≤ 2 ∧ c.bytes 24 8 ≠ 0 ∧ c.length = 16 * (maskList 64
      (c.bytes 24 8)).length ∧ (s.dev.ring c.ring).owner = 0) ∧
    (∃ (c : Desc) (s : State), s.dev.Acts c ∧ 0 < c.length ∧ c.length ≤ 2048 ∧ c.length % 32 = 0 ∧ (s.dev.ring
      c.ring).owner = 0) :=
  ⟨⟨dsc [(2, 7), (16, 45), (18, 0x21), (19, 3), (20, 2), (21, 15), (24, 9), (28, 77)], 45, ⟨having {}
     ([(GLB_BOOT_STATUS_RECOVERY, 0), (CTR_m_CFG_EVENT 45, 7)]), []⟩, by decide +kernel⟩,
   ⟨dsc [(2, 7), (16, 45), (18, 0x21), (19, 3), (20, 2), (21, 7), (24, 9), (28, 77)], 45, ⟨having {}
     ([(GLB_BOOT_STATUS_RECOVERY, 0), (CTR_m_CFG_EVENT 45, 7)]), []⟩, by decide +kernel⟩,
   ⟨dsc [(2, 7)], ⟨having {} ([(GLB_BOOT_STATUS_RECOVERY, 0)]), []⟩, by decide +kernel⟩,
   ⟨dsc [(2, 7)], ⟨having {} ([(GLB_BOOT_STATUS_RECOVERY, 0)]), []⟩, by decide +kernel⟩,
   ⟨dsc [(2, 7), (16, 2)], ⟨having {} ([(GLB_BOOT_STATUS_RECOVERY, 0), (CTR_STATUS_FROZEN, 0)]), []⟩, by decide +kernel⟩,
   ⟨dsc [(2, 7), (16, 3)], ⟨having {} ([(GLB_BOOT_STATUS_RECOVERY, 0), (CTR_STATUS_FROZEN, 1)]), []⟩, by decide +kernel⟩,
   ⟨dsc [(2, 7), (4, 32), (24, 3)], ⟨(fun b : Dev => { b with ctx := [] }) (having {} ([(GLB_BOOT_STATUS_RECOVERY, 0)])),
     []⟩, by decide +kernel⟩,
   ⟨dsc [(2, 7), (4, 64), (16, 2)], ⟨(fun b : Dev => { b with ctx := [] }) (having {} ([(GLB_BOOT_STATUS_RECOVERY, 0)])),
     []⟩, by decide +kernel⟩⟩

theorem witness_OnDieMemories :
    (∃ (m : MemId) (s : State), s.dev.get (MEM_m_SCRUB_SCRUB_EN m) = 1 ∧ s.dev.scrubStopped m = false) ∧
    (∃ (m : MemId) (k : Nat) (x : MWord) (s : State), s.dev.get (MEM_m_SCRUB_SCRUB_EN m) = 1 ∧ s.dev.scrubStopped m =
      false ∧ m ≠ 3 ∧ k < 72 ∧ sget {} (s.dev.mem.die.get m) (s.dev.get (MEM_m_POS_POS m) % memWords m) = x ∧ x.valid =
      true ∧ x.check = checkBits x.data) ∧
    (∃ (c : Desc) (m : MemId) (s : State), s.dev.Acts c ∧ c.bits 16 4 0 = m.val ∧ c.flag 17 0 = true ∧ c.flag 17 3 =
      false) ∧
    (∃ (c : Desc) (m : MemId) (s : State), s.dev.Acts c ∧ c.bits 16 4 0 = m.val ∧ 12 ≤ m.val ∧ c.bytes 20 3 < memWords m
      ∧ s.dev.get MEM_CTRL_TEST_EN = 1 ∧ s.dev.capturing m = false) ∧
    (∃ (c : Desc) (m : MemId) (x : MWord) (s : State), s.dev.Acts c ∧ c.bits 16 4 0 = m.val ∧ 12 ≤ m.val ∧ c.flag 17 0 =
      false ∧ c.length = 8 ∧ c.cr = false ∧ c.bytes 20 4 % 8 = 0 ∧ c.bytes 20 4 / 8 < memWords m ∧ s.dev.capturing m =
      false ∧ (s.dev.ring c.ring).owner = 0 ∧ sget {} (s.dev.mem.die.get m) (c.bytes 20 4 / 8) = x ∧ x.valid = true ∧
      x.check = checkBits x.data ∧ c.again = false) ∧
    (∃ (c : Desc) (m : MemId) (s : State), s.dev.Acts c ∧ c.bits 16 4 0 = m.val ∧ 12 ≤ m.val ∧ c.length = 8 ∧ c.bytes 20
      4 % 8 = 0 ∧ c.bytes 20 4 / 8 < memWords m ∧ s.dev.capturing m = false ∧ (s.dev.ring c.ring).owner = 0 ∧ c.data =
      .first) :=
  ⟨⟨13, ⟨having {} ([(MEM_m_SCRUB_SCRUB_EN 13, 1), (PWR_STATE_STATE, 0), (LPn_LINK_STATUS_LINK_STATE 1, 0)]), []⟩,
     by decide +kernel⟩,
   ⟨13, 4, MWord.full 0xDEADBEEF12345678, ⟨(fun b : Dev =>
     { b with mem := { b.mem with die := vmod b.mem.die 13 fun _ => [(5, MWord.full 0xDEADBEEF12345678)] } }) (having {}
     ([(MEM_m_SCRUB_SCRUB_EN 13, 1), (PWR_STATE_STATE, 0), (LPn_LINK_STATUS_LINK_STATE 1, 0), (MEM_m_POS_POS 13, 5)])),
     []⟩, by decide +kernel⟩,
   ⟨dsc [(2, 7), (16, 13), (17, 5), (20, 99)], 13, ⟨having {} ([(GLB_BOOT_STATUS_RECOVERY, 0)]), []⟩, by decide +kernel⟩,
   ⟨dsc [(2, 7), (16, 13), (17, 5), (18, 1), (20, 99), (24, 1), (30, 3)], 13, ⟨having {} ([(GLB_BOOT_STATUS_RECOVERY, 0),
     (MEM_CTRL_TEST_EN, 1), (LPn_CAP_STATUS_STATE 1, 0)]), []⟩, by decide +kernel⟩,
   ⟨dsc [(2, 7), (4, 8), (8, 64), (9, 5), (16, 13), (20, 40)], 13, MWord.full 0xDEADBEEF12345678, ⟨(fun b : Dev =>
     { b with ctx := [], mem := { b.mem with die := vmod b.mem.die 13 fun _ => [(5, MWord.full 0xDEADBEEF12345678)] } })
     (having {} ([(GLB_BOOT_STATUS_RECOVERY, 0), (LPn_CAP_STATUS_STATE 1, 0)])), []⟩, by decide +kernel⟩,
   ⟨dsc [(2, 7), (4, 8), (8, 64), (9, 5), (16, 13), (20, 40)], 13, ⟨(fun b : Dev =>
     { b with ctx := [], mem := { b.mem with host := (List.range 8).map fun i => (0x540 + i, BitVec.ofNat 8 (i + 3)) } })
     (having {} ([(GLB_BOOT_STATUS_RECOVERY, 0), (LPn_CAP_STATUS_STATE 1, 0)])), []⟩, by decide +kernel⟩⟩

theorem witness_CheckEngine :
    (∃ (c : Desc) (s : State), s.dev.Acts c ∧ c.bits 19 1 0 = 0 ∧ c.bits 18 1 0 ≠ 0 ∧ c.flag 18 2 = false ∧ c.flag 18 3 =
      true ∧ 0 < c.length ∧ (s.dev.ring c.ring).owner = 0 ∧ ckChan c ≠ 3 ∧ s.dev.ckBusy (ckChan c) = false) ∧
    (∃ (c : Desc) (s : State), s.dev.Acts c ∧ c.bits 19 1 0 = 0 ∧ c.bits 18 1 0 ≠ 0 ∧ c.flag 18 2 = false ∧ c.flag 18 3 =
      true ∧ 0 < c.length ∧ (s.dev.ring c.ring).owner = 0 ∧ ckChan c ≠ 3 ∧ s.dev.ckBusy (ckChan c) = false) ∧
    (∃ (c : Desc) (s : State), s.dev.Acts c ∧ c.bits 19 1 0 = 0 ∧ c.bits 18 1 0 ≠ 0 ∧ c.flag 18 2 = false ∧ c.flag 18 3 =
      true ∧ 0 < c.length ∧ (s.dev.ring c.ring).owner = 0 ∧ ckChan c ≠ 3 ∧ s.dev.ckBusy (ckChan c) = false) ∧
    (∃ (c : Desc) (s : State), s.dev.Acts c ∧ c.bits 19 1 0 = 0 ∧ c.bits 18 1 0 ≠ 0 ∧ c.flag 18 2 = false ∧ c.flag 18 3 =
      true ∧ 0 < c.length ∧ (s.dev.ring c.ring).owner = 0 ∧ ckChan c ≠ 3 ∧ s.dev.ckBusy (ckChan c) = false) ∧
    (∃ (c : Desc) (s : State), s.dev.Acts c ∧ c.bits 19 1 0 = 0 ∧ c.bits 18 1 0 ≠ 0 ∧ c.flag 18 2 = false ∧ c.flag 18 3 =
      true ∧ c.length = 0) ∧
    (∃ (k : Chan) (c : Desc) (s : State), s.dev.waits = [(.check k, c)] ∧ c.bits 17 1 0 = 0 ∧ c.bits 19 1 0 = 0 ∧
      (s.dev.ring c.ring).owner = 0 ∧ c.data = .first) ∧
    (∃ (k : Chan) (c : Desc) (s : State), s.dev.waits = [(.check k, c)] ∧ c.bits 17 1 0 = 2 ∧ c.bits 19 1 0 = 0 ∧
      (s.dev.ring c.ring).owner = 0 ∧ c.data = .first ∧ c.bytes 24 8 % 2 ^ (s.dev.ckUse c).width ≠ ((s.dev.ckUse
      c).runOver (c.flag 18 2) (c.flag 18 3) (s.dev.fresh.getData c 0 c.length).2.1).value.toNat) ∧
    (∃ (c : Desc) (s : State), s.dev.Acts c ∧ c.flag 17 7 = false ∧ ckChan c ≠ 3 ∧ s.dev.ckBusy (ckChan c) = false) ∧
    (∃ (c : Desc) (k : CkImage) (s : State), s.dev.Acts c ∧ c.flag 17 7 = false ∧ ckChan c ≠ 3 ∧ s.dev.ckBusy (ckChan c)
      = false ∧ s.dev.chk.slots.get (Fin.ofNat 16 (c.bits 17 3 0)) = some k ∧ k.good = true) :=
  ⟨⟨dsc [(2, 7), (4, 8), (16, 1), (18, 10)], ⟨(fun b : Dev => { b with ctx := [], waits := [] }) (having {}
     ([(GLB_BOOT_STATUS_RECOVERY, 0)])), []⟩, by decide +kernel⟩,
   ⟨dsc [(2, 7), (4, 8), (16, 1), (17, 1), (18, 10)], ⟨(fun b : Dev => { b with ctx := [], waits := [] }) (having {}
     ([(GLB_BOOT_STATUS_RECOVERY, 0)])), []⟩, by decide +kernel⟩,
   ⟨dsc [(2, 7), (4, 8), (16, 1), (17, 2), (18, 10)], ⟨(fun b : Dev => { b with ctx := [], waits := [] }) (having {}
     ([(GLB_BOOT_STATUS_RECOVERY, 0)])), []⟩, by decide +kernel⟩,
   ⟨dsc [(2, 7), (4, 8), (16, 1), (17, 3), (18, 10)], ⟨(fun b : Dev => { b with ctx := [], waits := [] }) (having {}
     ([(GLB_BOOT_STATUS_RECOVERY, 0)])), []⟩, by decide +kernel⟩,
   ⟨dsc [(2, 7), (16, 1), (17, 2), (18, 10)], ⟨(fun b : Dev => { b with ctx := [], waits := [] }) (having {}
     ([(GLB_BOOT_STATUS_RECOVERY, 0)])), []⟩, by decide +kernel⟩,
   ⟨1, dsc [(2, 7), (4, 8), (16, 1), (18, 10)], ⟨(fun b : Dev =>
     { b with ctx := [], waits := [(.check 1, dsc [(2, 7), (4, 8), (16, 1), (18, 10)])] }) (({} : Dev)), []⟩,
     by decide +kernel⟩,
   ⟨1, dsc [(2, 7), (4, 8), (16, 1), (17, 2), (18, 10)], ⟨(fun b : Dev =>
     { b with ctx := [], waits := [(.check 1, dsc [(2, 7), (4, 8), (16, 1), (17, 2), (18, 10)])] }) (({} : Dev)), []⟩,
     by decide +kernel⟩,
   ⟨dsc [(2, 7), (16, 1), (17, 9)], ⟨(fun b : Dev => { b with ctx := [], waits := [] }) (having {}
     ([(GLB_BOOT_STATUS_RECOVERY, 0)])), []⟩, by decide +kernel⟩,
   ⟨dsc [(2, 7), (16, 1), (17, 9)], { width := 8, poly := 7, configured := true }, ⟨(fun b : Dev =>
     { b.modChk (fun q => { q with slots := q.slots.set 9 (some { width := 8, poly := 7, configured := true }) }) with ctx := [], waits := [] })
     (having {} ([(GLB_BOOT_STATUS_RECOVERY, 0)])), []⟩, by decide +kernel⟩⟩

theorem witness_RetainEntryAndWake :
    (∃  (s : State), s.dev.get PWR_STATE_STATE = 0 ∧ s.dev.votes = 0) ∧
    (∃  (s : State), s.dev.get PWR_STATE_STATE = 1 ∧ s.dev.votes = 0 ∧ s.dev.pwr.entry = 2) ∧
    (∃  (s : State), s.dev.get PWR_STATE_STATE = 1 ∧ s.dev.votes ≠ 0) ∧
    (∃  (s : State), s.dev.get PWR_STATE_STATE = 1 ∧ s.dev.votes = 0 ∧ s.dev.pwr.entry = 3) ∧
    (∃  (s : State), s.dev.get PWR_STATE_STATE = 2 ∧ s.dev.pwr.entry = 4 ∧ s.dev.pwr.heldWake = none) ∧
    (∃ (p : Port) (s : State), s.dev.get PWR_STATE_STATE = 2 ∧ s.dev.pwr.entry = 0 ∧ s.dev.getBit PWR_WAKE_EN_LINK_EN p =
      true) ∧
    (∃  (s : State), s.dev.wakeStep 1 = true) ∧
    (∃  (s : State), s.dev.wakeStep 2 = true) ∧
    (∃  (s : State), s.dev.wakeStep 3 = true) ∧
    (∃  (s : State), s.dev.wakeStep 1 = true ∨ s.dev.wakeStep 2 = true ∧ s.dev.pwr.again = false) ∧
    (∃ (k : Nat) (s : State), s.dev.wakeStep k = true ∧ k = 1 ∨ k = 2 ∧ s.dev.pwr.again = true) ∧
    (∃  (s : State), s.dev.wakeStep 4 = true ∧ s.dev.pwr.failed = [] ∧ s.dev.pwr.early = [] ∧ s.dev.pwr.held = []) :=
  ⟨⟨⟨(fun b : Dev =>
     { (b.modSys fun y => { y with core := .running, ops := [] }).modPwr (fun w => { w with hold := false, linger := false }) with waits := [], ctx := [] })
     (having {} ((PWR_STATE_STATE, 0) :: (GLB_BOOT_STATUS_BOOT_DONE, 1) :: (GLB_BOOT_STATUS_RECOVERY, 0) ::
     (MON_STATUS_STATE, 2) :: ((List.range 8).map (fun p => (LPn_LINK_STATUS_LINK_STATE (Fin.ofNat 8 p), 0)) ++
     (List.range 16).map (fun l => (BCE_LOOPn_STATE_STATE (Fin.ofNat 16 l), 0)) ++ (List.range 24).flatMap (fun c =>
     [(AUX_CHm_STATUS_CODE (Fin.ofNat 24 c), 0), (AUX_CHm_CLEAR_CLEAR (Fin.ofNat 24 c), 0)]) ++ (List.range 8).flatMap
     (fun k => [(MON_CICk_CFG_UP_EN k, 0), (MON_CICk_CFG_LO_EN k, 0)])))), []⟩, by decide +kernel⟩,
   ⟨⟨(fun b : Dev =>
     { (b.modSys fun y => { y with core := .running, ops := [] }).modPwr (fun w => { w with hold := false, linger := false, entry := 2 }) with waits := [], ctx := [] })
     (having {} ((PWR_STATE_STATE, 1) :: (GLB_BOOT_STATUS_BOOT_DONE, 1) :: (GLB_BOOT_STATUS_RECOVERY, 0) ::
     (MON_STATUS_STATE, 2) :: ((List.range 8).map (fun p => (LPn_LINK_STATUS_LINK_STATE (Fin.ofNat 8 p), 0)) ++
     (List.range 16).map (fun l => (BCE_LOOPn_STATE_STATE (Fin.ofNat 16 l), 0)) ++ (List.range 24).flatMap (fun c =>
     [(AUX_CHm_STATUS_CODE (Fin.ofNat 24 c), 0), (AUX_CHm_CLEAR_CLEAR (Fin.ofNat 24 c), 0)]) ++ (List.range 8).flatMap
     (fun k => [(MON_CICk_CFG_UP_EN k, 0), (MON_CICk_CFG_LO_EN k, 0)])))), []⟩, by decide +kernel⟩,
   ⟨⟨(fun b : Dev => b.modPwr fun w => { w with hold := 1 == 0, linger := true, serialWaived := false }) (having {}
     ([(PWR_STATE_STATE, 1)])), []⟩, by decide +kernel⟩,
   ⟨⟨(fun b : Dev =>
     { (b.modSys fun y => { y with core := .running, ops := [] }).modPwr (fun w => { w with hold := false, linger := false, entry := 3 }) with waits := [], ctx := [] })
     (having {} ((PWR_STATE_STATE, 1) :: (GLB_BOOT_STATUS_BOOT_DONE, 1) :: (GLB_BOOT_STATUS_RECOVERY, 0) ::
     (MON_STATUS_STATE, 2) :: ((List.range 8).map (fun p => (LPn_LINK_STATUS_LINK_STATE (Fin.ofNat 8 p), 0)) ++
     (List.range 16).map (fun l => (BCE_LOOPn_STATE_STATE (Fin.ofNat 16 l), 0)) ++ (List.range 24).flatMap (fun c =>
     [(AUX_CHm_STATUS_CODE (Fin.ofNat 24 c), 0), (AUX_CHm_CLEAR_CLEAR (Fin.ofNat 24 c), 0)]) ++ (List.range 8).flatMap
     (fun k => [(MON_CICk_CFG_UP_EN k, 0), (MON_CICk_CFG_LO_EN k, 0)])))), []⟩, by decide +kernel⟩,
   ⟨⟨(fun b : Dev => b.modPwr fun w => { w with entry := 4, heldWake := none }) (having {} ([(PWR_STATE_STATE, 2)])),
     []⟩, by decide +kernel⟩,
   ⟨5, ⟨(fun b : Dev => b.modPwr fun w => { w with entry := 0 }) (having {} ([(PWR_STATE_STATE, 2), (PWR_WAKE_EN_LINK_EN,
     255)])), []⟩, by decide +kernel⟩,
   ⟨⟨having {} ([(PWR_STATE_STATE, 3), (PWR_STATE_WAKE_STEP, 1)]), []⟩, by decide +kernel⟩,
   ⟨⟨having {} ([(PWR_STATE_STATE, 3), (PWR_STATE_WAKE_STEP, 2)]), []⟩, by decide +kernel⟩,
   ⟨⟨having {} ([(PWR_STATE_STATE, 3), (PWR_STATE_WAKE_STEP, 3)]), []⟩, by decide +kernel⟩,
   ⟨⟨(fun b : Dev => b.modPwr fun w => { w with again := false }) (having {} ([(PWR_STATE_STATE, 3),
     (PWR_STATE_WAKE_STEP, 2)])), []⟩, by decide +kernel⟩,
   ⟨2, ⟨(fun b : Dev => b.modPwr fun w => { w with again := true }) (having {} ([(PWR_STATE_STATE, 3),
     (PWR_STATE_WAKE_STEP, 2)])), []⟩, by decide +kernel⟩,
   ⟨⟨(fun b : Dev => b.modPwr fun w => { w with failed := [], early := [], held := [] }) (having {} ([(PWR_STATE_STATE,
     3), (PWR_STATE_WAKE_STEP, 4)])), []⟩, by decide +kernel⟩⟩

theorem witness_PowerVotesAndDoze :
    (∃ (c : Desc) (s : State), s.dev.Acts c ∧ voteTarget c = 0 ∧ voteAction c = 0) ∧
    (∃ (c : Desc) (s : State), s.dev.Acts c) ∧
    (∃ (c : Desc) (s : State), s.dev.Acts c ∧ c.bytes 20 2 ≠ 0) ∧
    (∃ (c : Desc) (s : State), s.dev.waits = [(.enter, c)] ∧ s.dev.get PWR_STATE_STATE = 0 ∧ s.dev.votes ≠ 0) ∧
    (∃ (c : Desc) (p : Port) (s : State), s.dev.Acts c ∧ portsOf (votePorts c) = [p] ∧ s.dev.dozeRefuses (votePorts c) =
      false ∧ s.dev.dozeBusy p = false ∧ s.dev.linkState p = 0 ∧ (s.dev.prt p).link.stopping = none ∧ s.dev.waits = []) ∧
    (∃ (p : Port) (s : State), s.dev.pwr.dozing.get p = true ∧ (s.dev.prt p).link.stopping = none ∧ s.dev.waits = []) ∧
    (∃ (c : Desc) (p : Port) (s : State), s.dev.Acts c ∧ portsOf (votePorts c) = [p] ∧ s.dev.dozeRefuses (votePorts c) =
      false ∧ s.dev.inDoze p = true ∧ s.dev.pwr.dozing.get p = false ∧ s.dev.waits = []) ∧
    (∃ (p : Port) (s : State), s.dev.pwr.waking.get p = true ∧ s.dev.inDoze p = true ∨ (s.dev.prt p).link.stopping = none
      ∧ s.dev.getBit PWR_DOZE_REQ p = false ∧ s.dev.sys.restart = none) ∧
    (∃ (ring : RingNo) (n : Nat) (m : Nat) (c : Desc) (s : State), s.dev.waits = [(.doze m, c)] ∧ c.ring = ring ∧ c.tag =
      n) ∧
    (∃ (c : Desc) (s : State), s.dev.Acts c ∧ c.length = 64 ∧ (s.dev.ring c.ring).owner = 0 ∧ (s.dev.ring c.ring).live =
      false) ∧
    (∃  (s : State), s.dev.coreRuns = true) ∧
    (∃  (s : State), s.dev.sys.core = .halted) :=
  ⟨⟨dsc [(2, 7)], ⟨having {} ([(GLB_BOOT_STATUS_RECOVERY, 0)]), []⟩, by decide +kernel⟩,
   ⟨dsc [(2, 7), (18, 1)], ⟨having {} ([(GLB_BOOT_STATUS_RECOVERY, 0)]), []⟩, by decide +kernel⟩,
   ⟨dsc [(2, 7), (18, 2), (20, 5)], ⟨having {} ([(GLB_BOOT_STATUS_RECOVERY, 0)]), []⟩, by decide +kernel⟩,
   ⟨dsc [(2, 7), (18, 2), (20, 5)], ⟨(fun b : Dev =>
     { b.modPwr fun w => { w with hold := true } with waits := [(.enter, dsc [(2, 7), (18, 2), (20, 5)])] }) (having {}
     ([(PWR_STATE_STATE, 0)])), []⟩, by decide +kernel⟩,
   ⟨dsc [(2, 7), (16, 1), (17, 8), (18, 1)], 3, ⟨(fun b : Dev =>
     { (b.modFd 3 fun f => { f with diag := false }).modLink 3 (fun l => { l with stopping := none }) with waits := [] })
     (having {} ([(GLB_BOOT_STATUS_RECOVERY, 0), (LPn_LINK_STATUS_LINK_STATE 3, 0), (PWR_DOZE_IN_DOZE, 0),
     (THM_STATUS_STATE, 0)])), []⟩, by decide +kernel⟩,
   ⟨3, ⟨(fun b : Dev => { (b.modLink 3 fun l => { l with stopping := none }).setDozing 3 true with waits := [] }) (({} :
     Dev)), []⟩, by decide +kernel⟩,
   ⟨dsc [(2, 7), (16, 1), (17, 8)], 3, ⟨(fun b : Dev => { b.modFd 3 fun f => { f with diag := false } with waits := [] })
     (having {} ([(GLB_BOOT_STATUS_RECOVERY, 0), (PWR_DOZE_IN_DOZE, 8), (THM_STATUS_STATE, 0)])), []⟩, by decide +kernel⟩,
   ⟨3, ⟨(fun b : Dev => (b.modLink 3 fun l => { l with stopping := none }).setWaking 3 true) (having {}
     ([(PWR_DOZE_IN_DOZE, 8 * 1), (PWR_DOZE_REQ, 0)])), []⟩, by decide +kernel⟩,
   ⟨0, 7, 8, dsc [(2, 7), (16, 1), (17, 8), (18, 1)], ⟨(fun b : Dev =>
     { b with waits := [(.doze 8, dsc [(2, 7), (16, 1), (17, 8), (18, 1)])] }) (({} : Dev)), []⟩, by decide +kernel⟩,
   ⟨dsc [(4, 64)], ⟨(fun b : Dev => { b with ctx := [] }) (having {} ([(GLB_BOOT_STATUS_RECOVERY, 0)])), []⟩,
     by decide +kernel⟩,
   ⟨⟨(fun b : Dev => b.modSys fun y => { y with core := .running }) (({} : Dev)), []⟩, by decide +kernel⟩,
   ⟨⟨(fun b : Dev => b.modSys fun y => { y with core := .halted }) (({} : Dev)), []⟩, by decide +kernel⟩⟩

theorem witness_ThermalModelAndReports :
    (∃  (s : State), s.dev.coreRuns = true ∧ s.dev.get PWR_STATE_STATE ≤ 1 ∧ s.dev.thm.first = true) ∧
    (∃  (s : State), s.dev.get THM_CTRL_REF_SRC = 1 ∧ s.dev.thm.report.isSome = true) ∧
    (∃  (s : State), s.dev.coreRuns = false ∧ s.dev.sys.core ≠ .off ∧ s.dev.get PWR_STATE_STATE ≤ 1) ∧
    (∃ (z : Int) (s : State), s.dev.sys.core = .halted ∧ s.dev.get PWR_STATE_STATE ≤ 1 ∧ s.dev.thm.report = none ∧
      s.dev.caseRef = some z ∧ s.dev.get THM_STATUS_STATE ≤ 3 ∧ deci 1180 ≤ z + s.dev.thm.par.steady s.dev.quenchPower
      (hottest fun k => z + s.dev.thm.par.steady s.dev.quenchPower k)) ∧
    (∃ (n : Nat) (s : State), s.dev.throttled = true ∧ allZones.any (fun z => decide (deci 1080 ≤ s.dev.zoneTemp z) &&
      decide (deci 1080 ≤ s.dev.thm.ref + (s.dev.zone z).dss)) = true ∧ s.dev.shedNext 14 = some n ∧ n ≤ 5) ∧
    (∃ (n : Nat) (l : List Nat) (s : State), s.dev.throttled = false ∧ s.dev.thm.coolAt.isSome = true ∧
      s.dev.shed.applied = n :: l ∧ 1 ≤ n ∧ n ≤ 5 ∧ s.dev.shed.cap = 0 ∧ s.dev.shed.thr = n) ∧
    (∃ (k : Nat) (s : State), s.dev.get PWR_STATE_STATE = 2 ∧ s.dev.pwr.entry = 0 ∧ s.dev.get THM_WAKE_WAKE_CODE ≠ 0 ∧ k
      ≤ s.dev.get THM_WAKE_WAKE_CODE ∧ s.dev.thm.caseLow = 1) ∧
    (∃ (c : Desc) (s : State), s.dev.Acts c ∧ c.length = 64 ∧ (s.dev.ring c.ring).owner = 0) ∧
    (∃ (c : Desc) (s : State), s.dev.Acts c ∧ -400 ≤ signedOf 16 (c.bytes 16 2) ∧ signedOf 16 (c.bytes 16 2) ≤ 1250 ∧
      s.dev.get THM_CTRL_REF_SRC = 1) :=
  ⟨⟨⟨(fun b : Dev => (b.modSys fun y => { y with core := .running }).modThm fun t =>
     { t with first := true, zone := Vector.replicate 12 { valid := 205 } }) (having {} ([(PWR_STATE_STATE, 0)])), []⟩,
     by decide +kernel⟩,
   ⟨⟨(fun b : Dev => b.modThm fun t => { t with report := some (300, 5) }) (having {} ([(THM_CTRL_REF_SRC, 1)])), []⟩,
     by decide +kernel⟩,
   ⟨⟨(fun b : Dev => b.modSys fun y => { y with core := .halted }) (having {} ([(PWR_STATE_STATE, 0)])), []⟩,
     by decide +kernel⟩,
   ⟨0, ⟨(fun b : Dev => ((b.modSys fun y => { y with core := .halted }).modIn 3 fun n =>
     { n with valid := true, oor := false }).modThm fun t =>
     { t with report := none, zone := Vector.replicate 12 { valid := 65000 }, par := { t.par with caseTable := List.replicate 17 0, thetaCommon := 3000, thetaSelf := List.replicate 12 1000 } })
     (having {} ([(PWR_STATE_STATE, 0), (THM_CTRL_REF_SRC, 0), (THM_STATUS_STATE, 0), (THM_CTRL_CASE_INPUT, 3),
     (MON_INm_VAL_COARSE 3, 0)])), []⟩, by decide +kernel⟩,
   ⟨5, ⟨(fun b : Dev =>
     { b.modThm fun t => { t with ref := deci 1090, zone := Vector.replicate 12 { throttle := true } } with shed := {} })
     (having {} ((List.range 8).flatMap (fun p => [(LPn_LINK_STATUS_LINK_STATE (Fin.ofNat 8 p), 0)]) ++ [(MON_CTRL_LP_SW,
     0), (MON_CTRL_LP_GUARD, 0)])), []⟩, by decide +kernel⟩,
   ⟨2, [1], ⟨(fun b : Dev =>
     { b.modThm fun t => { t with coolAt := some 5, zone := Vector.replicate 12 {} } with shed := { applied := [2, 1], cap := 0, thr := 2 } })
     (({} : Dev)), []⟩, by decide +kernel⟩,
   ⟨5, ⟨(fun b : Dev => (b.modPwr fun w => { w with entry := 0 }).modThm fun t => { t with caseLow := 1 }) (having {}
     ([(PWR_STATE_STATE, 2), (THM_WAKE_WAKE_CODE, 9)])), []⟩, by decide +kernel⟩,
   ⟨dsc [(4, 64)], ⟨(fun b : Dev => { b with ctx := [] }) (having {} ([(GLB_BOOT_STATUS_RECOVERY, 0)])), []⟩,
     by decide +kernel⟩,
   ⟨dsc [(16, 0xF0), (17, 0xFF)], ⟨having {} ([(GLB_BOOT_STATUS_RECOVERY, 0), (THM_CTRL_REF_SRC, 1)]), []⟩,
     by decide +kernel⟩⟩

theorem witness_QuenchSequence :
    (∃  (s : State), s.dev.thm.orderly = 2 ∧ (∀ l : LoopNo, s.dev.loopState l = 0)) ∧
    (∃  (s : State), s.dev.thm.orderly = 4) ∧
    (∃  (s : State), s.dev.get THM_STATUS_STATE = 5 ∧ s.dev.thm.below95.isSome = true) :=
  ⟨⟨⟨(fun b : Dev => b.modThm fun t => { t with orderly := 2 }) (having {} ((List.range 16).map fun l =>
     (BCE_LOOPn_STATE_STATE (Fin.ofNat 16 l), 0))), []⟩, by decide +kernel⟩,
   ⟨⟨(fun b : Dev => b.modThm fun t => { t with orderly := 4 }) (({} : Dev)), []⟩, by decide +kernel⟩,
   ⟨⟨(fun b : Dev => b.modThm fun t => { t with below95 := some 7 }) (having {} ([(THM_STATUS_STATE, 5)])), []⟩,
     by decide +kernel⟩⟩

theorem witness_RecorderCommands :
    (∃  (s : State), s.dev.evr.buf ≠ []) ∧
    (∃  (s : State), s.dev.evr.powerFail = false) ∧
    (∃  (s : State), s.dev.evr.powerFail = true ∧ s.dev.sys.brownout = false ∧ s.dev.hasFlash = true) ∧
    (∃  (s : State), s.dev.sys.powered = true) ∧
    (∃  (s : State), s.dev.hasFlash = true) ∧
    (∃ (c : Desc) (n : Nat) (s : State), s.dev.Acts c ∧ c.length % 64 = 0 ∧ 0 < c.length ∧ (s.dev.ring c.ring).owner = 0
      ∧ c.data = .first ∧ c.bytes 16 4 ≠ 0xFFFFFFFF ∧ s.dev.fresh.newestSeq = some n) ∧
    (∃ (c : Desc) (s : State), s.dev.Acts c) ∧
    (∃ (c : Desc) (s : State), s.dev.Acts c) ∧
    (∃  (s : State), s.dev.get EVR_STATUS_FROZEN = 1) ∧
    (∃ (c : Desc) (s : State), s.dev.Acts c ∧ c.byte 16 = 0xC1 ∧ s.dev.get EVR_STATUS_FROZEN = 0 ∧ s.dev.evr.powerFail =
      false ∧ s.dev.hasFlash = true ∧ s.dev.evr.clear = 0) ∧
    (∃ (c : Desc) (s : State), s.dev.Acts c ∧ c.length = 32 ∧ c.bytes 16 2 % 4096 = 0 ∧ (s.dev.ring c.ring).owner = 0 ∧
      (lookWord s.dev.mem [] 1 (0x4000 + 4 * ((s.dev.get EVR_STATUS_TRACE_NEXT + 8191) % 4096))).valid = true ∧
      (s.dev.fresh.readMem 1 (0x20000 + 32 * ((s.dev.get EVR_STATUS_TRACE_NEXT + 8191) % 4096)) 32).2.2 = .first) :=
  ⟨⟨⟨(fun b : Dev => b.modEvr fun e => { e with due := false, buf := [entry 3] }) (({} : Dev)), []⟩, by decide +kernel⟩,
   ⟨⟨(fun b : Dev => b.modEvr fun e => { e with powerFail := false }) (({} : Dev)), []⟩, by decide +kernel⟩,
   ⟨⟨(fun b : Dev => (b.modEvr fun e => { e with powerFail := true }).modSys fun y => { y with brownout := false })
     (having {} ([(GLB_BOOT_STATUS_STRAP, 0)])), []⟩, by decide +kernel⟩,
   ⟨⟨(fun b : Dev => b.modSys fun y => { y with powered := true }) (({} : Dev)), []⟩, by decide +kernel⟩,
   ⟨⟨having {} ([(GLB_BOOT_STATUS_STRAP, 1)]), []⟩, by decide +kernel⟩,
   ⟨dsc [(4, 128), (16, 1)], 2, ⟨(fun b : Dev =>
     { b with ctx := [], mem := {}, writes := [], evr := { b.evr with buf := [entry 0, entry 1, entry 2] } }) (having {}
     ([(GLB_BOOT_STATUS_RECOVERY, 0), (EVR_SEQ_VALUE, 0)])), []⟩, by decide +kernel⟩,
   ⟨dsc [(2, 7), (16, 1)], ⟨having {} ([(GLB_BOOT_STATUS_RECOVERY, 0)]), []⟩, by decide +kernel⟩,
   ⟨dsc [(2, 7)], ⟨having {} ([(GLB_BOOT_STATUS_RECOVERY, 0)]), []⟩, by decide +kernel⟩,
   ⟨⟨having {} ([(EVR_STATUS_FROZEN, 1)]), []⟩, by decide +kernel⟩,
   ⟨dsc [(2, 7), (16, 0xC1)], ⟨(fun b : Dev => b.modEvr fun e => { e with powerFail := false, clear := 0 }) (having {}
     ([(GLB_BOOT_STATUS_RECOVERY, 0), (EVR_STATUS_FROZEN, 0), (GLB_BOOT_STATUS_STRAP, 0)])), []⟩, by decide +kernel⟩,
   ⟨dsc [(4, 32)], ⟨(fun b : Dev =>
     { b with ctx := [], mem := { b.mem with die := vmod b.mem.die 1 fun _ => ((List.range 4).map fun k => (0x4000 + 20 + k, MWord.full 7)) } })
     (having {} ([(GLB_BOOT_STATUS_RECOVERY, 0), (EVR_STATUS_TRACE_NEXT, 6)])), []⟩, by decide +kernel⟩⟩

theorem witness_CalendarAndClocks :
    (∃  (s : State), s.dev.get GLB_HW_STATUS_XTAL_OK = 1) ∧
    (∃  (s : State), s.dev.get GLB_HW_STATUS_XTAL_OK = 1) ∧
    (∃ (c : Desc) (s : State), s.dev.Acts c ∧ c.flag 24 0 = true ∧ c.flag 24 1 = false ∧ c.flag 24 2 = false ∧ (calOf
      c).exists = true) ∧
    (∃ (c : Desc) (s : State), s.dev.Acts c ∧ c.length = 16 ∧ (s.dev.ring c.ring).owner = 0) ∧
    (∃ (x : RefClk) (s : State), s.dev.get PWR_STATE_STATE = 0 ∧ s.dev.get (refOk x) = 1) ∧
    (∃ (x : RefClk) (s : State), s.dev.hold.get (refIdx x) = some false) :=
  ⟨⟨⟨having {} ([(GLB_HW_STATUS_XTAL_OK, 1), (RTC_SEC_VALUE, 0xFFFFFFFF - 1)]), []⟩, by decide +kernel⟩,
   ⟨⟨having {} ([(GLB_HW_STATUS_XTAL_OK, 1)]), []⟩, by decide +kernel⟩,
   ⟨dsc [(2, 7), (16, 30), (17, 45), (18, 12), (19, 29), (20, 2), (21, 24), (24, 1)], ⟨having {}
     ([(GLB_BOOT_STATUS_RECOVERY, 0)]), []⟩, by decide +kernel⟩,
   ⟨dsc [(4, 16)], ⟨(fun b : Dev => { b with ctx := [] }) (having {} ([(GLB_BOOT_STATUS_RECOVERY, 0)])), []⟩,
     by decide +kernel⟩,
   ⟨.host, ⟨having {} ([(PWR_STATE_STATE, 0), (GLB_HW_STATUS_REFCLK_HOST_OK, 1)]), []⟩, by decide +kernel⟩,
   ⟨.line, ⟨(fun b : Dev => { b with hold := vmod b.hold 0 fun _ => some false }) (({} : Dev)), []⟩, by decide +kernel⟩⟩

theorem witness_ResetsAndBoot :
    (∃  (s : State), s.dev.sys.core = .off) ∧
    (∃  (s : State), s.dev.hardBusy 1 = false) ∧
    (∃  (s : State), s.dev.sys.brownout = true) ∧
    (∃  (s : State), s.dev.get GLB_TRANSPORT_BOOT = 0 ∨ s.dev.get GLB_TRANSPORT_PCIE_EN = 1 ∧ s.dev.hardBusy 2 = false) ∧
    (∃  (s : State), s.dev.sys.core = .booting ∧ s.dev.sys.inReset = true) ∧
    (∃  (s : State), s.dev.sys.core = .booting ∧ s.dev.sys.inReset = false ∧ s.dev.get GLB_BOOT_STATUS_BOOT_DONE = 0 ∧
      s.dev.get MON_STATUS_STATE = 0 ∧ s.dev.hasFlash = false) ∧
    (∃  (s : State), s.dev.get MON_STATUS_STATE = 1 ∧ s.dev.sys.core = .booting ∧ s.dev.get GLB_BOOT_STATUS_BOOT_DONE = 0
      ∧ s.dev.get GLB_BOOT_STATUS_RECOVERY = 0) ∧
    (∃ (c : Desc) (s : State), s.dev.Acts c ∧ c.byte 16 = 0x5A ∧ c.ring.val = 0 ∧ s.dev.sys.load = false ∧
      s.dev.sys.switch = none ∧ s.dev.sys.restart = none) ∧
    (∃ (n : Nat) (s : State), s.dev.sys.restart = some (.core n) ∧ s.dev.get GLB_BOOT_STATUS_RECOVERY = 0) ∧
    (∃  (s : State), s.dev.coreRuns = true ∧ s.dev.get GLB_WDT_WDT_EN = 1 ∧ s.dev.get GLB_BOOT_STATUS_RECOVERY = 0 ∧
      s.dev.sys.restart = none) ∧
    (∃  (s : State), s.dev.get PWR_STATE_STATE = 0 ∧ s.dev.sys.brownout = false) :=
  ⟨⟨⟨(fun b : Dev => b.modSys fun y => { y with core := .off }) (({} : Dev)), []⟩, by decide +kernel⟩,
   ⟨⟨having {} ([(GLB_BOOT_STATUS_BOOT_DONE, 1)]), []⟩, by decide +kernel⟩,
   ⟨⟨(fun b : Dev => b.modSys fun y => { y with brownout := true }) (({} : Dev)), []⟩, by decide +kernel⟩,
   ⟨⟨having {} ([(GLB_BOOT_STATUS_BOOT_DONE, 1), (GLB_TRANSPORT_PCIE_EN, 1)]), []⟩, by decide +kernel⟩,
   ⟨⟨(fun b : Dev => b.modSys fun y => { y with core := .booting, inReset := true }) (({} : Dev)), []⟩,
     by decide +kernel⟩,
   ⟨⟨(fun b : Dev => b.modSys fun y => { y with core := .booting, inReset := false }) (having {}
     ([(GLB_BOOT_STATUS_BOOT_DONE, 0), (GLB_BOOT_STATUS_STRAP, 4), (MON_STATUS_STATE, 0)])), []⟩, by decide +kernel⟩,
   ⟨⟨(fun b : Dev => b.modSys fun y => { y with core := .booting, inReset := false }) (having {}
     ([(GLB_BOOT_STATUS_BOOT_DONE, 0), (GLB_BOOT_STATUS_RECOVERY, 0), (MON_STATUS_STATE, 1), (THM_QREC_VALID, 0)])), []⟩,
     by decide +kernel⟩,
   ⟨dsc [(2, 7), (16, 0x5A)], ⟨(fun b : Dev => b.modSys fun y =>
     { y with core := .running, load := false, switch := none, restart := none }) (having {} ([(GLB_BOOT_STATUS_RECOVERY,
     0)])), []⟩, by decide +kernel⟩,
   ⟨2, ⟨(fun b : Dev => b.modSys fun y => { y with core := .resetting, restart := some (.core 2) }) (having {}
     ([(GLB_BOOT_STATUS_RECOVERY, 0), (GLB_BOOT_STATUS_STRAP, 4)])), []⟩, by decide +kernel⟩,
   ⟨⟨(fun b : Dev => b.modSys fun y => { y with core := .running, restart := none }) (having {}
     ([(GLB_BOOT_STATUS_RECOVERY, 0), (GLB_WDT_WDT_EN, 1)])), []⟩, by decide +kernel⟩,
   ⟨⟨(fun b : Dev => b.modSys fun y => { y with brownout := false }) (having {} ([(PWR_STATE_STATE, 0)])), []⟩,
     by decide +kernel⟩⟩

theorem witness_BlocksAndFirmware :
    (∃ (n : Nat) (s : State), s.dev.sys.cfgDirty.contains n = true ∧ s.dev.hasFlash = true ∧ s.dev.get
      GLB_BOOT_STATUS_BOOT_DONE = 1 ∧ cfgReserved n = false) ∧
    (∃ (c : Desc) (s : State), s.dev.Acts c ∧ 8 ≤ c.byte 16 ∧ c.byte 16 ≤ 15 ∧ 1 ≤ c.length ∧ c.length ≤ 4064 ∧
      (s.dev.ring c.ring).owner = 0 ∧ c.data = .first ∧ s.dev.hasFlash = true) ∧
    (∃ (c : Desc) (s : State), s.dev.Acts c ∧ cfgReserved (c.byte 16) = false ∧ c.flag 17 0 = false ∧ c.length =
      (s.dev.cfgPayload (c.byte 16)).length ∧ (s.dev.ring c.ring).owner = 0) ∧
    (∃ (c : Desc) (s : State), s.dev.Acts c ∧ c.bytes 16 4 % 256 = 0 ∧ c.length % 256 = 0 ∧ 0 < c.length ∧ c.length ≤
      65536 ∧ c.bytes 16 4 + c.length ≤ 1572864 ∧ s.dev.get GLB_BOOT_STATUS_TRIAL = 0 ∧ s.dev.sys.load = false ∧
      s.dev.sys.switch = none ∧ (s.dev.ring c.ring).owner = 0 ∧ c.data = .first ∧ s.dev.hasFlash = true) ∧
    (∃ (c : Desc) (s : State), s.dev.Acts c ∧ c.bytes 16 4 % 256 = 0 ∧ c.length % 256 = 0 ∧ c.length ≤ 65536 ∧ c.bytes 16
      4 + c.length ≤ 1572864 ∧ c.flag 20 0 = false ∧ s.dev.get GLB_BOOT_STATUS_TRIAL = 0 ∧ s.dev.sys.load = false ∧
      s.dev.sys.switch = none ∧ (s.dev.ring c.ring).owner = 0 ∧ c.data = .first ∧ s.dev.hasFlash = false) ∧
    (∃ (c : Desc) (s : State), s.dev.Acts c ∧ s.dev.sys.load = false ∧ s.dev.sys.switch = none) ∧
    (∃ (c : Desc) (s : State), s.dev.Acts c ∧ s.dev.sys.load = false ∧ s.dev.sys.switch = none) ∧
    (∃ (x : SlotCheck) (w : Switch) (s : State), s.dev.sys.switch = some w ∧ w.step = 1 ∧ s.dev.fresh.slotFault
      s.dev.freeSlot x = 0) ∧
    (∃ (w : Switch) (s : State), s.dev.sys.switch = some w ∧ w.step = 3) ∧
    (∃ (w : Switch) (c : Desc) (s : State), s.dev.sys.switch = some w ∧ w.step = 4 ∧ w.commit = false ∧ s.dev.hasFlash =
      true ∧ s.dev.waits = [(.fwActivate, c)] ∧ c.data = .first) ∧
    (∃ (c : Desc) (s : State), s.dev.Acts c ∧ s.dev.sys.load = false ∧ s.dev.sys.switch = none ∧ s.dev.hasFlash = true) ∧
    (∃ (c : Desc) (s : State), s.dev.Acts c ∧ s.dev.get GLB_BOOT_STATUS_TRIAL = 0 ∧ s.dev.sys.load = false ∧
      s.dev.sys.switch = none) ∧
    (∃ (o : FlashOp) (s : State), s.dev.get PWR_STATE_STATE = 0 ∧ s.dev.sys.ops = [o] ∧ o.use = .cfgAuto ∧ o.data = none
      ∧ s.dev.evr.powerFail = false ∧ s.dev.evr.due = false ∧ s.dev.evr.lifeDue = false ∧ s.dev.evr.clear = 0 ∧ s.dev.get
      EVR_STATUS_FROZEN = 0) :=
  ⟨⟨2, ⟨(fun b : Dev => b.modSys fun y => { y with cfgDirty := [0, 2] }) (having {} ([(GLB_BOOT_STATUS_BOOT_DONE, 1),
     (GLB_BOOT_STATUS_STRAP, 0)])), []⟩, by decide +kernel⟩,
   ⟨dsc [(2, 7), (4, 40), (16, 9)], ⟨(fun b : Dev => { b with ctx := [] }) (having {} ([(GLB_BOOT_STATUS_RECOVERY, 0),
     (GLB_BOOT_STATUS_STRAP, 0)])), []⟩, by decide +kernel⟩,
   ⟨dsc [(2, 7), (4, 32), (16, 2)], ⟨(fun b : Dev => { b with ctx := [] }) (having {} ([(GLB_BOOT_STATUS_RECOVERY, 0)])),
     []⟩, by decide +kernel⟩,
   ⟨dsc [(2, 7), (5, 2), (17, 16)], ⟨(fun b : Dev =>
     { b.modSys fun y => { y with load := false, switch := none } with ctx := [] }) (having {}
     ([(GLB_BOOT_STATUS_RECOVERY, 0), (GLB_BOOT_STATUS_STRAP, 0), (GLB_BOOT_STATUS_TRIAL, 0)])), []⟩, by decide +kernel⟩,
   ⟨dsc [(2, 7), (5, 2), (17, 2)], ⟨(fun b : Dev =>
     { b.modSys fun y => { y with load := false, switch := none } with ctx := [] }) (having {}
     ([(GLB_BOOT_STATUS_RECOVERY, 0), (GLB_BOOT_STATUS_STRAP, 4), (GLB_BOOT_STATUS_TRIAL, 0)])), []⟩, by decide +kernel⟩,
   ⟨dsc [(2, 7)], ⟨(fun b : Dev => b.modSys fun y => { y with load := false, switch := none }) (having {}
     ([(GLB_BOOT_STATUS_RECOVERY, 0)])), []⟩, by decide +kernel⟩,
   ⟨dsc [(2, 7), (16, 1)], ⟨(fun b : Dev => b.modSys fun y => { y with load := false, switch := none }) (having {}
     ([(GLB_BOOT_STATUS_RECOVERY, 0)])), []⟩, by decide +kernel⟩,
   ⟨{ key := true, sig := true, hash := true }, { commit := true, step := 1, again := false, version := 0 }, ⟨(fun b :
     Dev => b.modSys fun y =>
     { y with otp := 0, header := [0x4F, 0x4D, 0x4C, 0x52, 9, 9, 9, 9, 0, 0, 1, 0, 8, 0, 0, 0], switch := some { commit := true, step := 1, again := false, version := 0 } })
     (having {} ([(GLB_BOOT_STATUS_STRAP, 4)])), []⟩, by decide +kernel⟩,
   ⟨{ commit := true, step := 3, again := false, version := 0 }, ⟨(fun b : Dev => b.modSys fun y =>
     { y with switch := some { commit := true, step := 3, again := false, version := 0 } }) (having {}
     ([(GLB_BOOT_STATUS_STRAP, 4)])), []⟩, by decide +kernel⟩,
   ⟨{ commit := false, step := 4, again := false, version := 77 }, dsc [(2, 7), (16, 1)], ⟨(fun b : Dev =>
     { b.modSys fun y => { y with core := .switching, switch := some { commit := false, step := 4, again := false, version := 77 } } with waits := [(.fwActivate, dsc [(2, 7), (16, 1)])] })
     (having {} ([(GLB_BOOT_STATUS_STRAP, 0)])), []⟩, by decide +kernel⟩,
   ⟨dsc [(2, 7), (16, 2)], ⟨(fun b : Dev => b.modSys fun y => { y with load := false, switch := none }) (having {}
     ([(GLB_BOOT_STATUS_RECOVERY, 0), (GLB_BOOT_STATUS_STRAP, 0)])), []⟩, by decide +kernel⟩,
   ⟨dsc [(2, 7), (16, 3)], ⟨(fun b : Dev => b.modSys fun y =>
     { y with load := false, switch := none, otp := 3, rollback := 2 }) (having {} ([(GLB_BOOT_STATUS_RECOVERY, 0),
     (GLB_BOOT_STATUS_TRIAL, 0)])), []⟩, by decide +kernel⟩,
   ⟨{ use := .cfgAuto, addr := 0x312345, data := none }, ⟨(fun b : Dev =>
     { (b.modSys fun y => { y with ops := [{ use := .cfgAuto, addr := 0x312345, data := none }] }).modEvr (fun e => { e with powerFail := false, due := false, lifeDue := false, clear := 0 }) with mem := { b.mem with flash := [(0x311FFF, 1), (0x312003, 3), (0x313000, 4)] } })
     (having {} ([(PWR_STATE_STATE, 0), (EVR_STATUS_FROZEN, 0)])), []⟩, by decide +kernel⟩⟩

theorem witness_JtagInstructions :
    (∃  (s : State), s.dev.sys.brownout = false) ∧
    (∃  (s : State), s.dev.sys.brownout = false) ∧
    (∃  (s : State), s.dev.sys.brownout = false) ∧
    (∃  (s : State), s.dev.sys.brownout = false) ∧
    (∃  (s : State), s.dev.sys.brownout = false) ∧
    (∃  (s : State), s.dev.sys.brownout = false) ∧
    (∃  (s : State), s.dev.sys.brownout = false) ∧
    (∃  (s : State), s.dev.sys.brownout = false) :=
  ⟨⟨⟨(fun b : Dev => b.modSys fun y => { y with brownout := false }) (({} : Dev)), []⟩, by decide +kernel⟩,
   ⟨⟨(fun b : Dev => b.modSys fun y => { y with brownout := false }) (({} : Dev)), []⟩, by decide +kernel⟩,
   ⟨⟨(fun b : Dev => b.modSys fun y => { y with brownout := false }) (({} : Dev)), []⟩, by decide +kernel⟩,
   ⟨⟨(fun b : Dev => b.modSys fun y => { y with brownout := false }) (({} : Dev)), []⟩, by decide +kernel⟩,
   ⟨⟨(fun b : Dev => b.modSys fun y => { y with brownout := false }) (({} : Dev)), []⟩, by decide +kernel⟩,
   ⟨⟨(fun b : Dev => b.modSys fun y => { y with brownout := false }) (({} : Dev)), []⟩, by decide +kernel⟩,
   ⟨⟨(fun b : Dev => b.modSys fun y => { y with brownout := false }) (({} : Dev)), []⟩, by decide +kernel⟩,
   ⟨⟨(fun b : Dev => b.modSys fun y => { y with brownout := false }) (({} : Dev)), []⟩, by decide +kernel⟩⟩

theorem witness_CompletionsGoToTheirRing :
    (∃ (c : Desc) (q : RingCtx) (s : State), s.dev.Acts c ∧ (s.dev.ring c.ring).live = true ∧ s.dev.ring (s.dev.ring
      c.ring).cq = q ∧ q.live = true ∧ q.owner = 0 ∧ q.full = false ∧ q.tail < q.size ∧ (s.dev.ring c.ring).cq ≠
      c.ring.val ∧ s.dev.heldCpl.any (fun h => h.1 == (s.dev.ring c.ring).cq) = false) ∧
    (∃ (c : Desc) (s : State), s.dev.Acts c ∧ c.cr = false ∧ c.again = false ∧ (s.dev.ring c.ring).cq ≠ c.ring.val) :=
  ⟨⟨dsc [(0, 0xEE), (2, 7)],
     { base := 0x1000, sizeLog2 := 4, typ := 1, tail := 15, head := 3, irqEn := true, weight := 1 }, ⟨(fun b : Dev =>
     { b with heldCpl := [], ctx := [(0, { sizeLog2 := 4, typ := 0, cq := 1 }), (1, { base := 0x1000, sizeLog2 := 4, typ := 1, tail := 15, head := 3, irqEn := true, weight := 1 })] })
     (having {} ([(GLB_BOOT_STATUS_RECOVERY, 0)])), []⟩, by decide +kernel⟩,
   ⟨dsc [(2, 7)], ⟨(fun b : Dev =>
     { b with ctx := [(0, { sizeLog2 := 4, typ := 0, cq := 1 }), (1, { sizeLog2 := 4, typ := 1 })] }) (having {}
     ([(GLB_BOOT_STATUS_RECOVERY, 0)])), []⟩, by decide +kernel⟩⟩

theorem witness_EventsBecomeRecords :
    ∃ s : Dev, s.get PWR_STATE_STATE < 2 ∧ s.evr.buf.length = 64 ∧ ∃ a e b, s.evr.buf = a ++ e :: b ∧ e.sev < 2 ∧ ∀ x ∈
      a, 2 ≤ x.sev :=
  ⟨{ evr := { buf := List.replicate 64 (entry 0) } }, by decide, by decide, [], entry 0, List.replicate 63 (entry 0),
    rfl, by decide, by simp⟩

theorem witness_ReservedBitsAreIgnored :
    ∃ (s : State) (t : Transport) (off : BitVec 16) (v w : BitVec 32), v ≠ w ∧ s.dev.Serving t ∧ off.toNat % 4 = 0 ∧ ¬
      (0x800 ≤ off.toNat ∧ off.toNat < 0xE00) ∧ ∀ f ∈ fieldsAt off.toNat, v.toNat / 2 ^ f.lsb % 2 ^ f.width = w.toNat / 2
      ^ f.lsb % 2 ^ f.width :=
  ⟨⟨serving {}, []⟩, .pcie, 0x0010, 3, 1, by decide, by decide +kernel, rfl, by decide, by decide +kernel⟩

theorem witness_PortResetReturnsClassP :
    ∃ (c : Desc) (s : State), s.dev.Acts c ∧ s.dev.atRest (Desc.port c) = true ∧ s.dev.sys.restart = none :=
  ⟨dsc [(2, 7), (16, 3)], ⟨(fun b : Dev => (b.modSys fun y => { y with restart := none }).modPwr fun w =>
    { w with dozing := Vector.replicate 8 false, waking := Vector.replicate 8 false }) (having {}
    ([(GLB_BOOT_STATUS_RECOVERY, 0), (LPn_LINK_STATUS_LINK_STATE 3, 0), (LPn_LINK_COUNT_LINK_DOWNS 3, 5)])), []⟩,
    by decide +kernel⟩

end Sys2Proof.Tests
end

/-! A write of a register that a transport serves depends on what it writes only through the register's fields (00 R13). -/

namespace Sys2Proof.Machine

open Reg

/-! ## Values that agree in every field of a register -/

/-- Two values hold the same in every field of the register at an offset; its reserved bits may differ. -/
def FieldsAgree (off v w : Nat) : Prop :=
  ∀ f ∈ fieldsAt off, v / 2 ^ f.lsb % 2 ^ f.width = w / 2 ^ f.lsb % 2 ^ f.width

theorem FieldsAgree.bitOf_eq {off v w : Nat} (h : FieldsAgree off v w) {f : Fld} (hf : f ∈ fieldsAt off)
    (h1 : f.width = 1) : bitOf v f.lsb = bitOf w f.lsb := by
  have e := h f hf
  rw [h1, pow_one] at e
  rw [bitOf, bitOf, e]

/-- A field of 32 bits leaves no bit of its register reserved. -/
theorem FieldsAgree.eq_of_full {off v w : Nat} (h : FieldsAgree off v w) (hv : v < 2 ^ 32) (hw : w < 2 ^ 32) {f : Fld}
    (hf : f ∈ fieldsAt off) (h32 : f.width = 32) : v = w := by
  have hl : f.lsb = 0 := by
    have := ((fieldsAt_all off).1 f hf).2.1
    omega
  have e := h f hf
  rwa [hl, h32, pow_zero, Nat.div_one, Nat.div_one, Nat.mod_eq_of_lt hv, Nat.mod_eq_of_lt hw] at e

/-! ## The registers whose write looks at the value beside storing it -/

theorem fecSelClear_mem_fieldsAt (p : Port) : LPn_FEC_SEL_CLEAR p ∈ fieldsAt (0x450C + 0x800 * p) := by
  revert p
  decide

theorem wakeReq_mem_fieldsAt : PWR_STATE_WAKE_REQ ∈ fieldsAt 0x1000 := by decide

theorem cursor_mem_fieldsAt : EVR_CURSOR_CURSOR ∈ fieldsAt 0xD01C := by decide

theorem valueLo_mem_fieldsAt (k : Chan) : CHK_CKn_VALUE_LO_VALUE k ∈ fieldsAt (0x311C + 0x40 * k) := by
  revert k
  decide

theorem valueHi_mem_fieldsAt (k : Chan) : CHK_CKn_VALUE_HI_VALUE k ∈ fieldsAt (0x3120 + 0x40 * k) := by
  revert k
  decide

theorem eq_of_portAt {off r : Nat} (hp : inPorts off = true) (hr : (portAt off).2 = r) :
    off = 0x4000 + r + 0x800 * (portAt off).1.val := by
  simp only [inPorts, Bool.and_eq_true, decide_eq_true_eq] at hp
  simp only [portAt, Fin.val_ofNat] at hr ⊢
  omega

theorem eq_of_chanAt {off r : Nat} (hc : inChans off = true) (hr : (chanAt off).2 = r) :
    off = 0x3100 + r + 0x40 * (chanAt off).1.val := by
  simp only [inChans, Bool.and_eq_true, decide_eq_true_eq] at hc
  simp only [chanAt, Fin.val_ofNat] at hr ⊢
  omega

/-! ## What a write does, by the value's fields -/

theorem Dev.writeField_congr (s : Dev) {f : Fld} {v w : Nat}
    (h : v / 2 ^ f.lsb % 2 ^ f.width = w / 2 ^ f.lsb % 2 ^ f.width) : s.writeField v f = s.writeField w f := by
  unfold Dev.writeField
  rw [h]

theorem Dev.writeFields_congr (s : Dev) {l : List Fld} {v w : Nat}
    (h : ∀ f ∈ l, v / 2 ^ f.lsb % 2 ^ f.width = w / 2 ^ f.lsb % 2 ^ f.width) :
    (s.each l fun s f => s.writeField v f) = s.each l fun s f => s.writeField w f :=
  List.foldl_ext _ _ s fun d f hf => d.writeField_congr (h f hf)

/-- Of a port's registers only LPn_FEC_SEL looks at what was written, at CLEAR (07 R267). -/
theorem Dev.portWritten_congr (s old : Dev) (p : Port) {r v w : Nat} (h : r = 0x50C → bitOf v 31 = bitOf w 31) :
    s.portWritten old p r v = s.portWritten old p r w := by
  unfold Dev.portWritten
  split
  any_goals rfl
  rw [h rfl]

theorem Dev.regWritten_congr (s old : Dev) {off v w : Nat} (h : FieldsAgree off v w) (hv : v < 2 ^ 32) (hw : w < 2 ^ 32) :
    s.regWritten old off v = s.regWritten old off w := by
  unfold Dev.regWritten
  split
  next hp =>
    refine s.portWritten_congr old _ fun hr => ?_
    have hmem := fecSelClear_mem_fieldsAt (portAt off).1
    rw [← eq_of_portAt hp hr] at hmem
    exact h.bitOf_eq hmem rfl
  next =>
    split
    · rfl
    · split
      · rfl
      · split
        any_goals rfl
        · rw [h.bitOf_eq wakeReq_mem_fieldsAt rfl]
        · rw [h.eq_of_full hv hw cursor_mem_fieldsAt rfl]

/-- A half of a check channel's VALUE is one field of 32 bits. -/
theorem FieldsAgree.eq_of_value {off v w : Nat} (h : FieldsAgree off v w) (hv : v < 2 ^ 32) (hw : w < 2 ^ 32)
    (hc : inChans off = true) (hr : (chanAt off).2 = 0x1C ∨ (chanAt off).2 = 0x20) : v = w := by
  rcases hr with hr | hr
  · have hmem := valueLo_mem_fieldsAt (chanAt off).1
    rw [← eq_of_chanAt hc hr] at hmem
    exact h.eq_of_full hv hw hmem rfl
  · have hmem := valueHi_mem_fieldsAt (chanAt off).1
    rw [← eq_of_chanAt hc hr] at hmem
    exact h.eq_of_full hv hw hmem rfl

/-- A write of a set-up register depends on the value only through the register's fields (00 R13). -/
theorem Dev.writeReg_congr (s : Dev) {off v w : Nat} (h : FieldsAgree off v w) (hv : v < 2 ^ 32) (hw : w < 2 ^ 32) :
    s.writeReg off v = s.writeReg off w := by
  unfold Dev.writeReg
  split
  next hc => rw [h.eq_of_value hv hw hc.1 hc.2]
  next =>
    split
    · rfl
    · rw [s.writeFields_congr h]
      exact Dev.regWritten_congr _ s h hv hw

/-! ## A served write reaches the register -/

/-- The device in which a served write of a register acts: as any access by the transport leaves it, but for an SPI frame
within the hearth registers, which casts no vote (16 Table 16.2). -/
def Dev.reached (s : Dev) (t : Transport) (off : Nat) : Dev :=
  if t = .spi ∧ isHearth off = true then s else s.served t

theorem Dev.serialWrites_hearth {s : Dev} {t : Transport} (he : s.enabled t = true) {off : Nat} (h4 : off % 4 = 0)
    (hh : isHearth off = true) (v : Nat) : s.serialWrites t (writesOf t off (bytesOf 4 v)) = s.writeReg off (v % 2 ^ 32) := by
  have hl : off < 0x10000 := by
    simp only [isHearth, Bool.and_eq_true, decide_eq_true_eq] at hh
    omega
  have e4 : ofBytes (bytesOf 4 v) = v % 2 ^ 32 := ofBytes_bytesOf 4 v
  have hw : s.writeArrives ⟨t, off, bytesOf 4 v⟩ = s.writeReg off (v % 2 ^ 32) := by
    unfold Dev.writeArrives
    rw [if_pos hh]
    unfold Dev.writeActs
    rw [if_pos hl, e4]
  rw [writesOf_register t h4 hl, Dev.serialWrites, he]
  exact hw

/-- A write of a hearth register by a transport that the device serves acts at once (16 R535). -/
theorem Dev.busWrite_hearth {s : Dev} {t : Transport} (h : s.Serving t) {off : Nat} (h4 : off % 4 = 0)
    (hh : isHearth off = true) (v : Nat) : s.busWrite t off v = (s.reached t off).writeReg off (v % 2 ^ 32) := by
  obtain ⟨hc, hb, hs, he⟩ := h
  have hd : s.deaf = false := by simp [Dev.deaf, hc]
  have hr : 0x1000 ≤ off ∧ off < 0x1020 := by simpa [isHearth] using hh
  cases t with
  | pcie =>
    have hbo : s.booted = true := by simp [Dev.booted, hb]
    have h16 : off % 2 ^ 16 = off := Nat.mod_eq_of_lt (by omega)
    have hn : decide (0x10000 ≤ off) = false := by simp; omega
    have hm : decide (off < 0xE00) = false := by simp; omega
    show s.pcieArrives _ = s.writeReg off _
    unfold Dev.pcieArrives
    rw [if_neg (by simp [hd, hbo]), if_pos (by rw [BitVec.toNat_ofNat, h16, hh, hn]; rfl)]
    unfold Dev.pcieServe
    simp only [BitVec.toNat_ofNat, h16, hn, he, h4, hm, beq_self_eq_true, Bool.not_true, Bool.and_true, Bool.and_false,
      Bool.false_eq_true, if_false]
  | spi =>
    have hx : hearthSpan off (bytesOf 4 v).length = true := by
      rw [length_bytesOf]
      simp only [hearthSpan, Bool.and_eq_true, decide_eq_true_eq]
      omega
    show s.spiWrite off _ = _
    unfold Dev.spiWrite Dev.spiFrame
    rw [if_neg (by simp [hd]), hx, Dev.reached, if_pos ⟨rfl, hh⟩]
    exact Dev.serialWrites_hearth he h4 hh v
  | mdio =>
    show s.mdioFrame _ = _
    unfold Dev.mdioFrame
    rw [if_neg (by simp [hd]), Dev.serialFrame_active hs]
    exact Dev.serialWrites_hearth (s := s.served .spi) (t := .mdio) he h4 hh v

/-- A served write of a register, hearth or not, is a write of that register. -/
theorem Dev.busWrite_register {s : Dev} {t : Transport} (h : s.Serving t) {off : Nat} (h4 : off % 4 = 0)
    (hl : off < 0x10000) (hm : ¬ (0x800 ≤ off ∧ off < 0xE00)) (v : Nat) :
    s.busWrite t off v = (s.reached t off).writeReg off (v % 2 ^ 32) := by
  cases hh : isHearth off with
  | true => exact Dev.busWrite_hearth h h4 hh v
  | false =>
    rw [Dev.reached, if_neg (by simp [hh])]
    exact Dev.busWrite_serving h h4 hl hh hm v

/-- REGISTER_WRITE of a register, while the device serves the transport. -/
theorem exec_registerWrite_setup {s : State} {t : Transport} (h : s.dev.Serving t) {off : BitVec 16}
    (h4 : off.toNat % 4 = 0) (hm : ¬ (0x800 ≤ off.toNat ∧ off.toNat < 0xE00)) (v : BitVec 32) :
    exec (.registerWrite t (.setup off) v) s = run s fun d => (d.reached t off.toNat).writeReg off.toNat v.toNat := by
  have hb := Dev.busWrite_register (s := s.dev.fresh) h h4 off.isLt hm v.toNat
  rw [Nat.mod_eq_of_lt v.isLt] at hb
  show run s (fun d => d.busWrite t off.toNat v.toNat) = _
  rw [run_eq, run_eq, hb]

/-- Settles O58: a served write is a write of its register, which stores and sets going by the register's fields alone. -/
theorem reservedBitsAreIgnored : Obligations.ReservedBitsAreIgnored := by
  intro s t off v w h h4 hm hvw
  rw [exec_registerWrite_setup h h4 hm, exec_registerWrite_setup h h4 hm, run_eq, run_eq,
    Dev.writeReg_congr _ hvw v.isLt w.isLt]

end Sys2Proof.Machine

/-! While CORE is on, a logged event takes the next SEQ and joins the volatile buffer, or a full buffer discards a record
(18 R575, R581). -/

namespace Sys2Proof.Machine

open Reg

/-! ## What the notices, the trace log and the rings leave of the recorder -/

/-- The recorder's registers that an event changes: the next SEQ, and what a discard counts and sets (18 R581). -/
def recorderFlds : List Fld := [EVR_SEQ_VALUE, EVR_COUNT_BUF_DROPS, EVR_EVENTS_BUF_FULL]

/-- Two devices hold the same records in the buffer, the same next SEQ and the same marks of discards. -/
def Dev.SameRecords (a b : Dev) : Prop := a.evr.buf = b.evr.buf ∧ ∀ f ∈ recorderFlds, a.get f = b.get f

theorem Dev.SameRecords.refl (a : Dev) : a.SameRecords a := ⟨rfl, fun _ _ => rfl⟩

theorem Dev.SameRecords.trans {a b c : Dev} (h : a.SameRecords b) (k : b.SameRecords c) : a.SameRecords c :=
  ⟨h.1.trans k.1, fun f hf => (h.2 f hf).trans (k.2 f hf)⟩

theorem Dev.sameRecords_of_eq {a b : Dev} (he : a.evr.buf = b.evr.buf) (hr : a.regs = b.regs) : a.SameRecords b :=
  ⟨he, fun f _ => Dev.get_eq hr f⟩

theorem Dev.set_sameRecords (s : Dev) {f : Fld} (v : Nat) (h : ∀ g ∈ recorderFlds, f.key ≠ g.key) :
    (s.set f v).SameRecords s :=
  ⟨rfl, fun g hg => Dev.get_set_ne s v (h g hg)⟩

theorem Dev.each_sameRecords {α : Type} (l : List α) (g : Dev → α → Dev) (h : ∀ s x, (g s x).SameRecords s) (s : Dev) :
    (s.each l g).SameRecords s := by
  induction l generalizing s with
  | nil => exact .refl s
  | cons x l ih => exact (ih (g s x)).trans (h s x)

theorem Dev.iff_sameRecords (s : Dev) (b : Bool) (g : Dev → Dev) (h : ∀ s, (g s).SameRecords s) :
    (s.iff b g).SameRecords s := by
  cases b
  · exact .refl s
  · exact h s

theorem Dev.signalMsix_sameRecords (s : Dev) (v : Nat) : (s.signalMsix v).SameRecords s := by
  unfold Dev.signalMsix
  split
  · simp only []
    split <;> exact Dev.sameRecords_of_eq rfl rfl
  · exact .refl s

theorem Dev.signalPin_sameRecords (s : Dev) (v : Nat) : (s.signalPin v).SameRecords s := by
  unfold Dev.signalPin
  split
  · exact s.set_sameRecords _ (by decide)
  · exact s.set_sameRecords _ (by decide)

theorem Dev.signalRing_sameRecords (s : Dev) (o v : Nat) : (s.signalRing o v).SameRecords s := by
  unfold Dev.signalRing
  split
  · exact s.signalMsix_sameRecords v
  · exact s.signalPin_sameRecords v

theorem Dev.write_sameRecords (s : Dev) (w : MemWrite) : (s.write w).SameRecords s := Dev.sameRecords_of_eq rfl rfl

theorem Dev.putWord_sameRecords (s : Dev) (i : MemId) (w : Nat) (x : MWord) : (s.putWord i w x).SameRecords s :=
  s.write_sameRecords _

theorem Dev.setRing_sameRecords (s : Dev) (r : Nat) (c : RingCtx) : (s.setRing r c).SameRecords s :=
  (Dev.each_sameRecords _ _ (fun s k => by
    split
    · exact .refl s
    · exact s.putWord_sameRecords _ _ _) _).trans (Dev.sameRecords_of_eq rfl rfl)

theorem Dev.hostWrite_sameRecords (s : Dev) (a : Nat) (l : List Byte) : (s.hostWrite a l).SameRecords s :=
  Dev.each_sameRecords _ _ (fun s _ => s.write_sameRecords _) s

theorem Dev.ramWords_sameRecords (s : Dev) (a : Nat) (l : List Byte) : (s.ramWords a l).SameRecords s :=
  Dev.each_sameRecords _ _ (fun s _ => s.putWord_sameRecords _ _ _) s

theorem Dev.putEntry_sameRecords (s : Dev) (r : Nat) (e : Bool → List Byte) : (s.putEntry r e).SameRecords s := by
  unfold Dev.putEntry
  refine (Dev.setRing_sameRecords _ _ _).trans ?_
  split
  · exact s.hostWrite_sameRecords _ _
  · exact s.ramWords_sameRecords _ _

theorem Dev.coalesce_sameRecords (s : Dev) (r : Nat) : (s.coalesce r).SameRecords s := by
  unfold Dev.coalesce
  simp only []
  split
  · exact (Dev.signalRing_sameRecords _ _ _).trans (s.setRing_sameRecords _ _)
  · exact s.setRing_sameRecords _ _

theorem Dev.writeCpl_sameRecords (s : Dev) (r : Nat) (c : Cpl) : (s.writeCpl r c).SameRecords s :=
  (Dev.coalesce_sameRecords _ r).trans (s.putEntry_sameRecords r _)

theorem Dev.notice_sameRecords (s : Dev) (t : Transport) (sev source seq : Nat) :
    (s.notice t sev source seq).SameRecords s := by
  unfold Dev.notice
  split
  · exact .refl s
  · split
    · exact .refl s
    · simp only []
      split
      · exact (Dev.writeCpl_sameRecords _ _ _).trans (Dev.sameRecords_of_eq rfl rfl)
      · split
        · exact Dev.sameRecords_of_eq rfl rfl
        · exact (Dev.set_sameRecords _ _ (by decide)).trans (Dev.sameRecords_of_eq rfl rfl)

theorem Dev.trace_sameRecords (s : Dev) (source bit sev cat : Nat) (ev : Bool) (l : List Byte) :
    (s.trace source bit sev cat ev l).SameRecords s :=
  (Dev.set_sameRecords _ _ (by decide)).trans (Dev.each_sameRecords _ _ (fun s _ => s.putWord_sameRecords _ _ _) s)

/-! ## A record discarded from the buffer -/

@[simp] theorem Dev.bufDrop_evr (s : Dev) : s.bufDrop.evr = s.evr := rfl

@[simp] theorem Dev.get_bufDrop_full (s : Dev) : s.bufDrop.get EVR_EVENTS_BUF_FULL = 1 := Dev.get_set_self _ _ _

@[simp] theorem Dev.get_bufDrop_drops (s : Dev) :
    s.bufDrop.get EVR_COUNT_BUF_DROPS = (s.inc EVR_COUNT_BUF_DROPS).get EVR_COUNT_BUF_DROPS :=
  Dev.get_set_ne _ _ (by decide)

@[simp] theorem Dev.get_bufDrop_seq (s : Dev) : s.bufDrop.get EVR_SEQ_VALUE = s.get EVR_SEQ_VALUE :=
  (Dev.get_set_ne _ _ (by decide)).trans (Dev.get_set_ne _ _ (by decide))

/-- What a count reads after it is raised depends on the count alone. -/
theorem Dev.get_inc_congr {s t : Dev} {f : Fld} (h : s.get f = t.get f) : (s.inc f).get f = (t.inc f).get f := by
  simp only [Dev.inc, Dev.add, Dev.get_set_self, h]

/-! ## A record offered to the buffer -/

@[simp] theorem Dev.setBuf_buf (s : Dev) (l : List EvRec) : (s.setBuf l).evr.buf = l := rfl

theorem Dev.get_setBuf (s : Dev) (l : List EvRec) {f : Fld} (hf : f ∈ recorderFlds) : (s.setBuf l).get f = s.get f :=
  (Dev.set_sameRecords _ _ (by decide)).2 f hf

/-- No record of a list is the first of severity 0 or 1, if every one has severity 2 or 3. -/
theorem findIdx?_minor_eq_none {l : List EvRec} (h : ∀ e ∈ l, 2 ≤ e.sev) : l.findIdx? (fun e => e.sev < 2) = none :=
  List.findIdx?_eq_none_iff.2 fun e he => decide_eq_false (Nat.not_lt.2 (h e he))

/-- The first record of severity 0 or 1 stands where only records of severity 2 and 3 precede it. -/
theorem findIdx?_minor_eq_length {a b : List EvRec} {e : EvRec} (ha : ∀ x ∈ a, 2 ≤ x.sev) (he : e.sev < 2) :
    (a ++ e :: b).findIdx? (fun e => e.sev < 2) = some a.length := by
  rw [List.findIdx?_append, findIdx?_minor_eq_none ha, List.findIdx?_cons, if_pos (decide_eq_true he)]
  simp

section
variable {s : Dev} {r : EvRec}

theorem Dev.buffer_of_room (h : s.evr.buf.length < 64) : s.buffer r = s.setBuf (s.evr.buf ++ [r]) := by
  unfold Dev.buffer
  exact if_pos h

variable (h : 64 ≤ s.evr.buf.length)
include h

theorem Dev.buffer_full_of_minor (hr : r.sev < 2) : s.buffer r = s.bufDrop := by
  unfold Dev.buffer
  rw [if_neg h.not_gt, if_pos hr]

theorem Dev.buffer_full_of_findIdx?_none (hr : 2 ≤ r.sev) (hi : s.evr.buf.findIdx? (fun e => e.sev < 2) = none) :
    s.buffer r = s.bufDrop := by
  unfold Dev.buffer
  rw [if_neg h.not_gt, if_neg hr.not_gt, hi]

theorem Dev.buffer_full_of_findIdx?_some (hr : 2 ≤ r.sev) {i : Nat}
    (hi : s.evr.buf.findIdx? (fun e => e.sev < 2) = some i) :
    s.buffer r = (s.setBuf (s.evr.buf.eraseIdx i ++ [r])).bufDrop := by
  unfold Dev.buffer
  rw [if_neg h.not_gt, if_neg hr.not_gt, hi]
  rfl

/-- A full buffer of records of severity 2 and 3 discards what comes (18 R581). -/
theorem Dev.buffer_full_of_all_major (hr : 2 ≤ r.sev) (hb : ∀ e ∈ s.evr.buf, 2 ≤ e.sev) : s.buffer r = s.bufDrop :=
  Dev.buffer_full_of_findIdx?_none h hr (findIdx?_minor_eq_none hb)

/-- In a full buffer a record of severity 2 or 3 displaces the oldest of severity 0 or 1 (18 R581). -/
theorem Dev.buffer_full_displaces (hr : 2 ≤ r.sev) {a b : List EvRec} {e : EvRec} (hb : s.evr.buf = a ++ e :: b)
    (he : e.sev < 2) (ha : ∀ x ∈ a, 2 ≤ x.sev) : s.buffer r = (s.setBuf (a ++ b ++ [r])).bufDrop := by
  have hx : s.evr.buf.eraseIdx a.length = a ++ b := by
    rw [hb, List.eraseIdx_append_of_length_le le_rfl, Nat.sub_self, List.eraseIdx_cons_zero]
  rw [Dev.buffer_full_of_findIdx?_some h hr (hb ▸ findIdx?_minor_eq_length ha he), hx]

/-- Whatever comes, a full buffer discards one record (18 R581). -/
theorem Dev.buffer_full_drops (r : EvRec) :
    ∃ t : Dev, s.buffer r = t.bufDrop ∧ ∀ f ∈ recorderFlds, t.get f = s.get f := by
  rcases Nat.lt_or_ge r.sev 2 with hr | hr
  · exact ⟨s, Dev.buffer_full_of_minor h hr, fun _ _ => rfl⟩
  · cases hi : s.evr.buf.findIdx? (fun e => e.sev < 2) with
    | none => exact ⟨s, Dev.buffer_full_of_findIdx?_none h hr hi, fun _ _ => rfl⟩
    | some i => exact ⟨_, Dev.buffer_full_of_findIdx?_some h hr hi, fun _ hf => s.get_setBuf _ hf⟩

theorem Dev.get_buffer_full_flag (r : EvRec) : (s.buffer r).get EVR_EVENTS_BUF_FULL = 1 := by
  obtain ⟨t, ht, -⟩ := Dev.buffer_full_drops h r
  rw [ht, Dev.get_bufDrop_full]

theorem Dev.get_buffer_full_drops (r : EvRec) :
    (s.buffer r).get EVR_COUNT_BUF_DROPS = (s.inc EVR_COUNT_BUF_DROPS).get EVR_COUNT_BUF_DROPS := by
  obtain ⟨t, ht, hg⟩ := Dev.buffer_full_drops h r
  rw [ht, Dev.get_bufDrop_drops]
  exact Dev.get_inc_congr (hg _ (by decide))

end

/-- The buffer does not give out SEQs, so a discarded record's SEQ is not given again (18 R581). -/
theorem Dev.get_buffer_seq (s : Dev) (r : EvRec) : (s.buffer r).get EVR_SEQ_VALUE = s.get EVR_SEQ_VALUE := by
  have hm : EVR_SEQ_VALUE ∈ recorderFlds := by decide
  rcases Nat.lt_or_ge s.evr.buf.length 64 with h | h
  · rw [Dev.buffer_of_room h, s.get_setBuf _ hm]
  · obtain ⟨t, ht, hg⟩ := Dev.buffer_full_drops h r
    rw [ht, Dev.get_bufDrop_seq, hg _ hm]

/-! ## An event logged -/

/-- The record of an event logged now (18 Table 18.1), with the next SEQ. -/
def Dev.eventRec (s : Dev) (source bit sev : Nat) (payload : List Byte) : EvRec :=
  { seq := s.get EVR_SEQ_VALUE, hours := s.get EVR_HOURS_VALUE, cycles := s.get EVR_CYCLES_VALUE, cal := s.rtc.cal
    sub := min s.rtc.sub 32767, sev := sev, rtcValid := s.on RTC_STATUS_RTC_VALID, deferred := false
    bit := bit, source := source, payload := payload }

/-- SEQ raised, as an event takes it. -/
def Dev.takeSeq (s : Dev) : Dev := s.set EVR_SEQ_VALUE (s.get EVR_SEQ_VALUE + 1)

@[simp] theorem Dev.takeSeq_evr (s : Dev) : s.takeSeq.evr = s.evr := rfl

theorem Dev.get_takeSeq_seq (s : Dev) : s.takeSeq.get EVR_SEQ_VALUE = (s.get EVR_SEQ_VALUE + 1) % 2 ^ 32 :=
  Dev.get_set_self _ _ _

theorem Dev.get_takeSeq_drops (s : Dev) : s.takeSeq.get EVR_COUNT_BUF_DROPS = s.get EVR_COUNT_BUF_DROPS :=
  Dev.get_set_ne _ _ (by decide)

theorem Dev.due_sameRecords (s : Dev) : (s.modEvr fun e => { e with due := true }).SameRecords s :=
  Dev.sameRecords_of_eq rfl rfl

/-- Of what an event does, taking SEQ and offering the record to the buffer are all that touches the records (18 R575). -/
theorem Dev.logRec_sameRecords (s : Dev) (r : EvRec) :
    (s.logRec r).SameRecords (s.takeSeq.buffer { r with seq := s.get EVR_SEQ_VALUE }) := by
  unfold Dev.logRec
  refine (Dev.iff_sameRecords _ _ _ fun s => s.due_sameRecords).trans ?_
  exact (Dev.each_sameRecords _ _ (fun s _ => s.notice_sameRecords _ _ _ _) _).trans
    (Dev.trace_sameRecords _ _ _ _ _ _ _)

/-- While CORE is on an event is logged at once. -/
theorem Dev.logRaw_sameRecords {s : Dev} (h : s.get PWR_STATE_STATE < 2) (source bit sev : Nat) (l : List Byte) :
    (s.logRaw source bit sev l).SameRecords (s.takeSeq.buffer (s.eventRec source bit sev l)) := by
  unfold Dev.logRaw
  rw [if_neg (by omega)]
  exact s.logRec_sameRecords _

/-- Settles O57: what an event does to the records is what the buffer does with the event's record, after SEQ is taken. -/
theorem eventsBecomeRecords : Obligations.EventsBecomeRecords := by
  intro s source bit sev l hs
  obtain ⟨hbuf, hget⟩ := Dev.logRaw_sameRecords hs source bit sev l
  refine ⟨?_, s.eventRec source bit sev l, rfl, rfl, rfl, rfl, rfl, fun hroom => ?_, fun hfull => ⟨?_, ?_, ?_, ?_⟩⟩
  · rw [hget _ (by decide), Dev.get_buffer_seq, Dev.get_takeSeq_seq]
  · rw [hbuf, Dev.buffer_of_room (s := s.takeSeq) hroom, Dev.setBuf_buf, Dev.takeSeq_evr]
  · rw [hget _ (by decide), Dev.get_buffer_full_flag (s := s.takeSeq) hfull.ge]
  · rw [hget _ (by decide), Dev.get_buffer_full_drops (s := s.takeSeq) hfull.ge]
    exact Dev.get_inc_congr s.get_takeSeq_drops
  · intro hkeep
    have hdrop : s.takeSeq.buffer (s.eventRec source bit sev l) = s.takeSeq.bufDrop := by
      rcases Nat.lt_or_ge sev 2 with hsev | hsev
      · exact Dev.buffer_full_of_minor hfull.ge hsev
      · exact Dev.buffer_full_of_all_major hfull.ge hsev (hkeep.resolve_left (by omega))
    rw [hbuf, hdrop, Dev.bufDrop_evr, Dev.takeSeq_evr]
  · intro a e b hsev hab he ha
    rw [hbuf, Dev.buffer_full_displaces (s := s.takeSeq) hfull.ge hsev hab he ha, Dev.bufDrop_evr, Dev.setBuf_buf]

end Sys2Proof.Machine

/-! Reading a register field after a write of another one, and after what only keeps books. The families of fields that the
register tables give take an instance number, and a pair's fields take the pair too: what is asked of a family is asked of
every instance, and so is decided. -/

namespace Sys2Proof.Machine

open Reg

/-! ## A command that runs -/

/-- A command answers with what its effect leaves once its writes have settled. -/
theorem answers_of_run {c : Instr} {s : State} {P : Dev → Prop} {g : Dev → Dev} (h : exec c s = run s g)
    (hp : P ((g s.dev.fresh).settle s.dev.mem)) : Answers c s P :=
  ⟨_, h, rfl, hp⟩

/-- A descriptor that acts answers with what its action leaves on the device as opened for it (13 R463). -/
theorem answers_of_descriptor {c : Instr} {d : Desc} {s : State} {P : Dev → Prop} {act : Dev → Desc → Dev}
    (h : exec c s = run s fun x => x.descriptor d act) (ha : s.dev.Acts d)
    (hp : P (((act (s.dev.fresh.opened d) (Desc.stamp d s.dev.timebase)).busyWith none).settle s.dev.mem)) :
    Answers c s P :=
  answers_of_run h (by rwa [Dev.descriptor_acts (s := s.dev.fresh) ha])

/-- A command that has written nothing leaves nothing to settle. -/
theorem Dev.settle_mem_of_no_writes (s : Dev) (h : s.writes = []) : s.settle s.mem = s := by
  cases s
  cases h
  rfl

/-! ## A write of another field -/

section
variable {m n : Nat} (s : Dev) (v : Nat) {F G : Nat → Fld} {F2 G2 : Nat → Pair → Fld} {f g : Fld}

@[simp low] theorem Dev.get_set_fld_fld (h : f.key ≠ g.key) : (s.set f v).get g = s.get g := Dev.get_set_ne s v h

@[simp low] theorem Dev.get_set_inst_fld {p : Fin m} (h : ∀ p : Fin m, (F p).key ≠ g.key) :
    (s.set (F p) v).get g = s.get g := Dev.get_set_ne s v (h p)

@[simp low] theorem Dev.get_set_fld_inst {q : Fin n} (h : ∀ q : Fin n, f.key ≠ (G q).key) :
    (s.set f v).get (G q) = s.get (G q) := Dev.get_set_ne s v (h q)

@[simp low] theorem Dev.get_set_inst_inst {p : Fin m} {q : Fin n}
    (h : ∀ (p : Fin m) (q : Fin n), (F p).key ≠ (G q).key) : (s.set (F p) v).get (G q) = s.get (G q) :=
  Dev.get_set_ne s v (h p q)

@[simp low] theorem Dev.get_set_pair_inst {p : Fin m} {x : Pair} {q : Fin n}
    (h : ∀ (p : Fin m) (q : Fin n), (F2 p .a).key ≠ (G q).key ∧ (F2 p .b).key ≠ (G q).key) :
    (s.set (F2 p x) v).get (G q) = s.get (G q) :=
  Dev.get_set_ne s v (by cases x; exacts [(h p q).1, (h p q).2])

@[simp low] theorem Dev.get_set_inst_pair {p : Fin m} {q : Fin n} {y : Pair}
    (h : ∀ (p : Fin m) (q : Fin n), (F p).key ≠ (G2 q .a).key ∧ (F p).key ≠ (G2 q .b).key) :
    (s.set (F p) v).get (G2 q y) = s.get (G2 q y) :=
  Dev.get_set_ne s v (by cases y; exacts [(h p q).1, (h p q).2])

@[simp low] theorem Dev.get_set_pair_pair {p : Fin m} {x : Pair} {q : Fin n} {y : Pair}
    (h : ∀ (p : Fin m) (q : Fin n), ((F2 p .a).key ≠ (G2 q .a).key ∧ (F2 p .a).key ≠ (G2 q .b).key) ∧
      (F2 p .b).key ≠ (G2 q .a).key ∧ (F2 p .b).key ≠ (G2 q .b).key) :
    (s.set (F2 p x) v).get (G2 q y) = s.get (G2 q y) := by
  obtain ⟨⟨haa, hab⟩, hba, hbb⟩ := h p q
  cases x <;> cases y <;> exact Dev.get_set_ne s v ‹_›

end

/-! ## A write of the field itself, of a value that fits -/

section
variable {n : Nat} (s : Dev) {v : Nat} {f : Fld} {F : Nat → Fld} {F2 : Nat → Pair → Fld}

theorem Dev.get_set_of_lt (h : v < 2 ^ f.width) : (s.set f v).get f = v :=
  (Dev.get_set_self s f v).trans (Nat.mod_eq_of_lt h)

@[simp high] theorem Dev.get_set_fld_of_lt (h : v < 2 ^ f.width) : (s.set f v).get f = v := Dev.get_set_of_lt s h

@[simp high] theorem Dev.get_set_inst_of_lt {p : Fin n} (h : ∀ p : Fin n, v < 2 ^ (F p).width) :
    (s.set (F p) v).get (F p) = v := Dev.get_set_of_lt s (h p)

@[simp high] theorem Dev.get_set_pair_of_lt {p : Fin n} {x : Pair}
    (h : ∀ p : Fin n, v < 2 ^ (F2 p .a).width ∧ v < 2 ^ (F2 p .b).width) : (s.set (F2 p x) v).get (F2 p x) = v :=
  Dev.get_set_of_lt s (by cases x; exacts [(h p).1, (h p).2])

variable {b : Bool}

theorem bnat_lt_two_pow {w : Nat} (b : Bool) (h : w ≠ 0) : bnat b < 2 ^ w := by
  have := Nat.one_lt_two_pow h
  cases b <;> simp [this]

@[simp high] theorem Dev.get_set_fld_bnat (h : f.width ≠ 0) : (s.set f (bnat b)).get f = bnat b :=
  Dev.get_set_of_lt s (bnat_lt_two_pow b h)

@[simp high] theorem Dev.get_set_inst_bnat {p : Fin n} (h : ∀ p : Fin n, (F p).width ≠ 0) :
    (s.set (F p) (bnat b)).get (F p) = bnat b := Dev.get_set_of_lt s (bnat_lt_two_pow b (h p))

end

/-! ## Book-keeping -/

/-- Whether no book-keeping writes a field. -/
def Fld.isPlain (f : Fld) : Bool :=
  decide (f.lsb < 32 ∧ f.off ∉ [0x34, 0x38, 0x44, 0x48, 0xD004, 0xD008, 0xD00C, 0xD010] ∧ (f.off < 0xC000 ∨ 0xD000 ≤ f.off))

theorem Fld.isPlain_iff {f : Fld} : f.isPlain = true ↔ f.plain := decide_eq_true_iff

/-- Both pairs' fields of an instance are plain. -/
def arePlain (F : Pair → Fld) : Bool := (F .a).isPlain && (F .b).isPlain

theorem plain_of_arePlain {F : Pair → Fld} (h : arePlain F = true) (x : Pair) : (F x).plain := by
  obtain ⟨ha, hb⟩ := Bool.and_eq_true_iff.1 h
  cases x
  exacts [Fld.isPlain_iff.1 ha, Fld.isPlain_iff.1 hb]

section
variable {a b : Dev} (h : a.Like b) {n : Nat} {f : Fld} {F : Nat → Fld} {F2 : Nat → Pair → Fld}
include h
theorem Dev.Like.get_fld (hf : f.isPlain = true) : a.get f = b.get f := h.2 f (Fld.isPlain_iff.1 hf)
theorem Dev.Like.get_inst (hf : ∀ p : Fin n, (F p).isPlain = true) (p : Fin n) : a.get (F p) = b.get (F p) :=
  h.2 _ (Fld.isPlain_iff.1 (hf p))
theorem Dev.Like.get_pair (hf : ∀ p : Fin n, arePlain (F2 p) = true) (p : Fin n) (x : Pair) :
    a.get (F2 p x) = b.get (F2 p x) :=
  h.2 _ (plain_of_arePlain (hf p) x)
end

section
variable (s : Dev) {f : Fld} (hf : f.isPlain = true)
include hf
@[simp low] theorem Dev.get_log_fld (r : Fld) (v : Nat) (l : List Byte) : (s.log r v l).get f = s.get f :=
  (s.log_like r v l).get_fld hf
@[simp low] theorem Dev.get_logPlain_fld (b v : Nat) (l : List Byte) : (s.logPlain b v l).get f = s.get f :=
  (s.logPlain_like b v l).get_fld hf
@[simp low] theorem Dev.get_count_fld (c i k : Nat) : (s.count c i k).get f = s.get f := (s.count_like c i k).get_fld hf
@[simp low] theorem Dev.get_finish_fld (d : Desc) (st res : Nat) : (s.finish d st res).get f = s.get f :=
  (s.finish_like d st res).get_fld hf
@[simp low] theorem Dev.get_opened_fld (d : Desc) : (s.opened d).get f = s.get f := (s.opened_like d).get_fld hf
end

section
variable (s : Dev) {n : Nat} {F : Nat → Fld} (hf : ∀ p : Fin n, (F p).isPlain = true) {p : Fin n}
include hf
@[simp low] theorem Dev.get_log_inst (r : Fld) (v : Nat) (l : List Byte) : (s.log r v l).get (F p) = s.get (F p) :=
  (s.log_like r v l).get_inst hf p
@[simp low] theorem Dev.get_count_inst (c i k : Nat) : (s.count c i k).get (F p) = s.get (F p) :=
  (s.count_like c i k).get_inst hf p
@[simp low] theorem Dev.get_sample_inst (c i q : Nat) : (s.sample c i q).get (F p) = s.get (F p) :=
  (s.sample_like c i q).get_inst hf p
@[simp low] theorem Dev.get_finish_inst (d : Desc) (st res : Nat) : (s.finish d st res).get (F p) = s.get (F p) :=
  (s.finish_like d st res).get_inst hf p
@[simp low] theorem Dev.get_opened_inst (d : Desc) : (s.opened d).get (F p) = s.get (F p) :=
  (s.opened_like d).get_inst hf p
end

section
variable (s : Dev) {n : Nat} {F : Nat → Pair → Fld} (hf : ∀ p : Fin n, arePlain (F p) = true) {p : Fin n} {x : Pair}
include hf
@[simp low] theorem Dev.get_log_pair (r : Fld) (v : Nat) (l : List Byte) : (s.log r v l).get (F p x) = s.get (F p x) :=
  (s.log_like r v l).get_pair hf p x
@[simp low] theorem Dev.get_count_pair (c i k : Nat) : (s.count c i k).get (F p x) = s.get (F p x) :=
  (s.count_like c i k).get_pair hf p x
@[simp low] theorem Dev.get_opened_pair (d : Desc) : (s.opened d).get (F p x) = s.get (F p x) :=
  (s.opened_like d).get_pair hf p x
end

@[simp] theorem Dev.fireCapture_keeps (s : Dev) (p : Port) (k : Nat) : (s.fireCapture p k).Keeps s :=
  (s.fireCapture_like p k).keeps

@[simp] theorem Dev.raise_eq (s : Dev) (f : Fld) (sev : Nat) (l : List Byte) :
    s.raise f sev l = (s.set f 1).log f sev l := rfl

/-! ## A step that a condition guards -/

section
variable (s : Dev) (b : Bool) (g : Dev → Dev)
@[simp] theorem Dev.get_iff (f : Fld) : (s.iff b g).get f = if b then (g s).get f else s.get f := by cases b <;> rfl
@[simp] theorem Dev.prt_iff (p : Port) : (s.iff b g).prt p = if b then (g s).prt p else s.prt p := by cases b <;> rfl
@[simp] theorem Dev.lane_iff : (s.iff b g).lane = if b then (g s).lane else s.lane := by cases b <;> rfl
@[simp] theorem Dev.waits_iff : (s.iff b g).waits = if b then (g s).waits else s.waits := by cases b <;> rfl
@[simp] theorem Dev.timebase_iff : (s.iff b g).timebase = if b then (g s).timebase else s.timebase := by
  cases b <;> rfl
@[simp] theorem Dev.sys_iff : (s.iff b g).sys = if b then (g s).sys else s.sys := by cases b <;> rfl
@[simp] theorem Dev.thm_iff : (s.iff b g).thm = if b then (g s).thm else s.thm := by cases b <;> rfl
end

end Sys2Proof.Machine

/-! What every step keeps: each command answers a next state, with the queue as it was, the memories in canonical form and
no write pending (95, 15 R505). -/

namespace Sys2Proof.Machine

open Reg

/-! ## Every command's effect -/

/-- An outcome that is a next state with the queue of s, no write pending, and memories as canonical as those of s. -/
def Settles (s : State) (o : Host.Outcome State Fault Refusal) : Prop :=
  ∃ t, o = .next t ∧ t.pending = s.pending ∧ t.dev.writes = [] ∧ (s.dev.mem.wf → t.dev.mem.wf)

theorem run_settles (s : State) (g : Dev → Dev) : Settles s (run s g) :=
  ⟨_, rfl, rfl, rfl, fun h => Mem.commit_wf h _⟩

theorem settles_ite {s : State} {p : Prop} [Decidable p] {a b : Host.Outcome State Fault Refusal} (ha : Settles s a)
    (hb : Settles s b) : Settles s (if p then a else b) := by
  split
  · exact ha
  · exact hb

theorem actLow_settles (c : Desc) (s : State) : Settles s (actLow c s) := by
  unfold actLow
  split
  case h_17 => split <;> exact run_settles s _
  case h_20 => split <;> exact run_settles s _
  all_goals exact run_settles s _

theorem actMiddle_settles (c : Desc) (s : State) : Settles s (actMiddle c s) := by
  unfold actMiddle
  split
  case h_5 => split <;> exact run_settles s _
  case h_9 => split <;> exact run_settles s _
  case h_11 => split <;> exact run_settles s _
  case h_13 => split <;> exact run_settles s _
  all_goals exact run_settles s _

theorem actHigh_settles (c : Desc) (s : State) : Settles s (actHigh c s) := by
  unfold actHigh
  split
  case h_2 => split <;> exact run_settles s _
  case h_7 =>
    split
    · exact run_settles s _
    · split
      · split <;> exact run_settles s _
      · split <;> exact run_settles s _
  case h_13 => split <;> exact run_settles s _
  case h_17 => split <;> exact run_settles s _
  case h_18 => split <;> exact run_settles s _
  case h_19 => split <;> exact run_settles s _
  all_goals exact run_settles s _

theorem actOf_settles (c : Desc) (s : State) : Settles s (actOf c s) :=
  settles_ite (actLow_settles c s) (settles_ite (actMiddle_settles c s) (actHigh_settles c s))

/-- A fetch settles its own writes, then the descriptor's action phase settles its own (13 R462, R463). -/
theorem execDescriptorFetch_settles (a rd : Attempt) (s : State) : Settles s (execDescriptorFetch a rd s) := by
  unfold execDescriptorFetch
  dsimp only
  split
  next => exact ⟨_, rfl, rfl, rfl, fun h => Mem.commit_wf h _⟩
  next c _ =>
    obtain ⟨t, ht, hp, hw, hm⟩ := actOf_settles c { s with dev := (s.dev.fresh.fetch a rd).1.settle s.dev.mem }
    exact ⟨t, ht, hp, hw, fun h => hm (Mem.commit_wf h _)⟩

theorem exec_settles (c : Instr) (s : State) : Settles s (exec c s) := by
  unfold exec
  cases c
  case descriptorFetch a rd => exact execDescriptorFetch_settles a rd s
  all_goals exact run_settles s _

theorem step_cons (c : Instr) (r : List Instr) (s : State) :
    step { s with pending := c :: r } = exec c { s with pending := r } := rfl

theorem step_nil {s : State} (h : s.pending = []) : step s = run s fun d => d.tick := by
  unfold step idle
  rw [h]

/-- Every step settles, from the queue without the command it runs. -/
theorem step_settles (s : State) : ∃ r, Settles { s with pending := r } (step s) := by
  unfold step
  split
  next h => exact ⟨[], _, rfl, h, rfl, fun h => Mem.commit_wf h _⟩
  next c r _ => exact ⟨r, exec_settles c _⟩

/-- Settles O5: every step ends by settling its writes, which keeps the memories' canonical form. -/
theorem stepKeepsSafe : Obligations.StepKeepsSafe := by
  intro s t hs hst
  obtain ⟨r, u, hu, -, hw, hm⟩ := step_settles s
  obtain rfl : t = u := by simpa [Steps, hu] using hst.symm
  exact ⟨hm hs.1, hw⟩

/-- Settles O1: a step is by definition the front command's effect. -/
theorem stepRunsFront : Obligations.StepRunsFront := step_cons

/-- Settles O2: every command settles. -/
theorem everyCommandAnswers : Obligations.EveryCommandAnswers := fun c s =>
  let ⟨t, ht, hp, hw, _⟩ := exec_settles c s
  ⟨t, ht, hp, hw⟩

/-- Settles O4: the reset state's memories list nothing. -/
theorem resetIsSafe : Obligations.ResetIsSafe := by
  refine ⟨⟨fun i => ?_, ⟨.nil, by simp [State.reset]⟩, ⟨.nil, by simp [State.reset]⟩, by simp [State.reset]⟩, rfl⟩
  have hi : State.reset.dev.mem.die.get i = [] := by simp [State.reset, Vector.get_eq_getElem]
  rw [hi]
  exact ⟨⟨.nil, by simp⟩, by simp⟩

/-! ## A step that runs no command (16, log entry 3) -/

theorem Dev.Like.timebase_eq {a b : Dev} (h : a.Like b) : a.timebase = b.timebase := (congrArg Dev.timebase h.1 :)

theorem Dev.iff_timebase (s : Dev) (b : Bool) (g : Dev → Dev) (h : ∀ s, (g s).timebase = s.timebase) :
    (s.iff b g).timebase = s.timebase := by
  cases b
  · rfl
  · exact h s

theorem Dev.govMaxCheck_timebase (s : Dev) : s.govMaxCheck.timebase = s.timebase :=
  Dev.iff_timebase (s.flag _ _) _ _ fun _ => rfl

theorem Dev.govSlipStep_timebase (s : Dev) : s.govSlipStep.timebase = s.timebase := by
  unfold Dev.govSlipStep
  split
  · exact Dev.govMaxCheck_timebase _
  · rfl

theorem Dev.stepIssue_timebase (s : Dev) (code : Nat) (retry : Bool) : (s.stepIssue code retry).timebase = s.timebase :=
  (Dev.count_like _ _ _ _).timebase_eq

theorem Dev.govStep_timebase (s : Dev) : s.govStep.timebase = s.timebase := by
  unfold Dev.govStep
  split
  · dsimp only
    split
    · exact Dev.stepIssue_timebase _ _ _
    · split
      · exact Dev.stepIssue_timebase _ _ _
      · rfl
  · rfl

theorem Dev.tickGov_timebase (s : Dev) : s.tickGov.timebase = s.timebase := by
  unfold Dev.tickGov
  split
  · exact (Dev.govStep_timebase _).trans (Dev.govSlipStep_timebase s)
  · rfl

theorem Dev.tickCore_like (s : Dev) : s.tickCore.Like s := by
  unfold Dev.tickCore
  split
  · exact (Dev.each_like _ _ (fun s _ _ => s.count_like _ _ _) _).trans s.draw_like
  · exact .refl s

theorem Dev.tickCounters_like (s : Dev) : s.tickCounters.Like s :=
  Dev.each_like _ _ (fun s m hm => by
    split
    · exact s.ctrAdd_like (List.mem_range.1 hm) 1
    · exact .refl s) s

theorem Dev.tickCrystal_timebase (s : Dev) : s.tickCrystal.timebase = s.timebase := by
  unfold Dev.tickCrystal
  dsimp only
  split
  · rfl
  · split
    · rfl
    · split <;> rfl

theorem Dev.tick_timebase (s : Dev) : s.tick.timebase =
    if s.sys.core = .off ∨ 2 ≤ s.get PWR_STATE_STATE then s.timebase else (s.timebase + 1) % 2 ^ 64 := by
  have hbooks : s.tickCrystal.tickCounters.tickCore.timebase = s.timebase :=
    (Dev.tickCore_like _).timebase_eq.trans ((Dev.tickCounters_like _).timebase_eq.trans s.tickCrystal_timebase)
  unfold Dev.tick
  split
  · rfl
  · dsimp only
    split
    · exact (Dev.count_like _ _ _ _).timebase_eq.trans ((Dev.tickGov_timebase _).trans (by rw [← hbooks]))
    · exact (Dev.tickGov_timebase _).trans (by rw [← hbooks])

/-- Settles O3: on an empty queue the block's clock ticks. -/
theorem emptyQueuePassesTime : Obligations.EmptyQueuePassesTime := fun _ h =>
  ⟨_, step_nil h, h, Dev.tick_timebase _⟩

/-! ## Registers at power-on (00 Table 0.5) -/

theorem sumNat_eq_sum (l : List Nat) : sumNat l = l.sum := List.sum_eq_foldl_nat.symm

/-- The reset state stores no field, so each reads its reset value. -/
theorem get_reset (f : Fld) : State.reset.dev.get f = f.reset := rfl

/-- Settles O6: a register is made up of its fields, and at power-on each reads its reset value. -/
theorem resetValuesOfRegisters : Obligations.ResetValuesOfRegisters := fun off => by
  unfold Dev.regValue
  rw [sumNat_eq_sum]
  simp only [get_reset]

end Sys2Proof.Machine

/-! The test access port (20 R635–R637, Table 20.14), and the command that a fetched descriptor's opcode names
(13 Table 13.10). -/

namespace Sys2Proof.Machine

open Reg

/-! ## The test access port -/

section
variable {s : Dev} (h : s.sys.brownout = false)
include h

theorem Dev.tap_eq (g : Jtag → Jtag) : s.tap g = { s with jtag := g s.jtag } := if_neg (by simp [h])

theorem Dev.tapOut_eq (l : List Byte) : s.tapOut l = { s with readData := l } := if_neg (by simp [h])

end

/-- A tap's effect, with the rails in range, as a command leaves it. -/
theorem answers_tap {c : Instr} {s : State} {P : Dev → Prop} (h : s.dev.sys.brownout = false) {g : Jtag → Jtag}
    (hc : exec c s = run s fun d => d.tap g)
    (hp : P ({ s.dev.fresh with jtag := g s.dev.jtag } : Dev)) : Answers c s P := by
  refine answers_of_run hc ?_
  rwa [Dev.tap_eq (s := s.dev.fresh) h]

/-- The same where the port also shifts out. -/
theorem answers_tapOut {c : Instr} {s : State} {P : Dev → Prop} (h : s.dev.sys.brownout = false) {g : Jtag → Jtag}
    {l : List Byte} (hc : exec c s = run s fun d => (d.tap g).tapOut l)
    (hp : P ({ s.dev.fresh with jtag := g s.dev.jtag, readData := l } : Dev)) : Answers c s P := by
  refine answers_of_run hc ?_
  rwa [Dev.tap_eq (s := s.dev.fresh) h, Dev.tapOut_eq (by exact h)]

/-- Settles O44: each instruction is a tap, which with the rails in range sets the port's own registers. -/
theorem jtagInstructions : Obligations.JtagInstructions :=
  ⟨fun _ => answers_of_run (g := fun d => { d with jtag := { d.jtag with ir := .idcode } }) rfl ⟨rfl, rfl⟩,
   fun _ h => answers_tapOut h rfl ⟨rfl, rfl⟩,
   fun _ _ _ h => answers_tap h rfl ⟨rfl, rfl, rfl, rfl⟩,
   fun _ _ h => answers_tap h rfl ⟨rfl, rfl, rfl⟩,
   fun _ _ h => answers_tap h rfl ⟨rfl, rfl, rfl⟩,
   fun _ _ _ h => answers_tapOut h rfl ⟨rfl, rfl, rfl, rfl, rfl⟩,
   fun _ h => answers_tap h rfl ⟨rfl, rfl⟩,
   fun _ _ h => answers_tap h rfl ⟨rfl, rfl⟩,
   fun _ _ _ h => answers_tap h rfl ⟨rfl, rfl⟩⟩

/-- The device with the port's registers and what it shifts out as another has them. -/
def Dev.portOf (d s : Dev) : Dev := { d with jtag := s.jtag, readData := s.readData }

theorem Dev.tap_portOf (s t : Dev) (g : Jtag → Jtag) : (s.tap g).portOf t = s.portOf t := by
  unfold Dev.tap
  split <;> rfl

theorem Dev.tapOut_portOf (s t : Dev) (l : List Byte) : (s.tapOut l).portOf t = s.portOf t := by
  unfold Dev.tapOut
  split <;> rfl

/-- A command's effect that leaves everything but the port leaves no write to settle. -/
theorem answers_portOf {c : Instr} {s : State} {g : Dev → Dev} (hc : exec c s = run s g)
    (hg : (g s.dev.fresh).portOf s.dev = s.dev.fresh) :
    Answers c s fun d => d.portOf s.dev = s.dev.fresh := by
  refine answers_of_run hc ?_
  have hw : (g s.dev.fresh).writes = [] := (congrArg Dev.writes hg :)
  have hm : (g s.dev.fresh).mem = s.dev.mem := (congrArg Dev.mem hg :)
  rw [← hm, Dev.settle_mem_of_no_writes _ hw, hg]

theorem execTap_portOf {c : Instr} {s : State} {g : Jtag → Jtag} (hc : exec c s = run s fun d => d.tap g) :
    Answers c s fun d => d.portOf s.dev = s.dev.fresh :=
  answers_portOf hc (Dev.tap_portOf _ _ _)

theorem execTapOut_portOf {c : Instr} {s : State} {g : Jtag → Jtag} {l : List Byte}
    (hc : exec c s = run s fun d => (d.tap g).tapOut l) :
    Answers c s fun d => d.portOf s.dev = s.dev.fresh :=
  answers_portOf hc ((Dev.tapOut_portOf _ _ _).trans (Dev.tap_portOf _ _ _))

/-- Settles O55: an instruction of the port is a tap, which leaves everything but the port. -/
theorem testAccessTouchesNothingElse : Obligations.TestAccessTouchesNothingElse := by
  intro i s
  cases i
  case jtagReset => exact answers_portOf (g := fun d => { d with jtag := { d.jtag with ir := .idcode } }) rfl rfl
  case idcode => exact execTapOut_portOf rfl
  case samplePreload => exact execTapOut_portOf rfl
  case highz => exact execTap_portOf rfl
  case clamp => exact execTap_portOf rfl
  case extest => exact execTap_portOf rfl
  case extestPulse => exact execTap_portOf rfl
  case extestTrain => exact execTap_portOf rfl
  case bypass => exact execTap_portOf rfl
  all_goals exact trivial

/-! ## Descriptors by opcode -/

/-- Settles O60: an opcode, with its action, selects the arm of actOf that is its command's. -/
theorem descriptorsActByOpcode : Obligations.DescriptorsActByOpcode := by
  intro c s
  repeat' apply And.intro
  all_goals
    intro h
    simp +contextual [actOf, actLow, actMiddle, actHigh, h]
    intros
    rfl

end Sys2Proof.Machine

/-! A served write of a register that sets nothing going (00 R10–R13). -/

namespace Sys2Proof.Machine

open Reg

theorem not_value_of_quiet {off : Nat} (h : setsGoing off = false) :
    ¬ (inChans off ∧ ((chanAt off).2 = 0x1C ∨ (chanAt off).2 = 0x20)) := by
  rintro ⟨hc, hr⟩
  have hc' := hc
  simp only [inChans, Bool.and_eq_true, decide_eq_true_eq] at hc'
  have hp : inPorts off = false := by simp [inPorts]; omega
  have hl : inLanes off = false := by simp [inLanes]; omega
  rw [setsGoing, hp, hl, hc] at h
  rcases hr with hr | hr <;> simp [hr] at h

/-- A write of a register that sets nothing going writes its fields. -/
theorem Dev.writeReg_quiet (s : Dev) {off : Nat} (h : setsGoing off = false) (v : Nat) :
    s.writeReg off v = s.each (fieldsAt off) fun s f => s.writeField v f := by
  unfold Dev.writeReg
  rw [if_neg (not_value_of_quiet h)]
  split
  next hf => rw [hf]; rfl
  next => exact Dev.regWritten_quiet _ s off v h

/-- A write of a register's fields leaves those of every other register. -/
theorem Dev.writeFields_elsewhere (s : Dev) (v : Nat) {off : Nat} {g : Fld} (hl : g.lsb < 32) (ho : g.off ≠ off) :
    (s.each (fieldsAt off) fun s f => s.writeField v f).get g = s.get g :=
  s.writeFields_other v _ fun _ hf => fieldsAt_key_ne hf hl ho

theorem Dev.served_fresh_writes (s : Dev) (t : Transport) : (s.fresh.served t).writes = [] := by cases t <;> rfl

theorem Dev.get_served (s : Dev) (t : Transport) (f : Fld) : (s.served t).get f = s.get f := by cases t <;> rfl

theorem Dev.served_mem (s : Dev) (t : Transport) : (s.served t).mem = s.mem := by cases t <;> rfl

/-- What settles after an effect that differs from a device in registers alone. -/
theorem Dev.settle_of_regs {a b : Dev} {m : Mem} (h : ({ a with regs := [] } : Dev) = { b with regs := [] })
    (hw : b.writes = []) (hm : b.mem = m) :
    ({ a.settle m with regs := [] } : Dev) = { b with regs := [] } := by
  have hs : ({ a.settle m with regs := [] } : Dev) = Dev.settle { b with regs := [] } m :=
    congrArg (fun d : Dev => d.settle m) h
  subst hm
  rw [hs, Dev.settle_mem_of_no_writes (s := { b with regs := [] }) hw, hw]

/-- Settles O7: a served write of such a register is a write of its fields, each by its access code. -/
theorem registerWriteByAccessCode : Obligations.RegisterWriteByAccessCode := by
  intro s t off v h h4 hh hm hq
  refine answers_of_run (exec_registerWrite_setup h h4 hm v) ?_
  have hf : s.dev.fresh.reached t off.toNat = s.dev.fresh.served t := if_neg (by simp [hh])
  rw [hf, Dev.writeReg_quiet _ hq]
  have hget : ∀ f, (s.dev.fresh.served t).get f = s.dev.get f := fun f => s.dev.fresh.get_served t f
  refine ⟨fun f hf => ?_, fun g hl ho => ?_, ?_⟩
  · rw [Dev.get_settle, Dev.writeFields_at _ _ _ hf, hget]
  · rw [Dev.get_settle, Dev.writeFields_elsewhere _ _ hl ho, hget]
  · refine (Dev.settle_of_regs (Dev.writeFields_core _ v.toNat _) (s.dev.served_fresh_writes t)
      (s.dev.fresh.served_mem t)).trans ?_
    cases t <;> rfl

end Sys2Proof.Machine

/-! Received signal strength and the gain loop (03 R84–R89). -/

namespace Sys2Proof.Machine

open Reg

theorem rssi_fits (p : Port) (x : Pair) (code : Nat) : min code 127 < 2 ^ (LPn_RSSI_RSSI p x).width := by
  cases x
  · show min code 127 < 128; omega
  · show min code 127 < 128; omega

section
variable {s : State} {p : Port} {x : Pair} {code : Nat} (hp : s.dev.powered p x = true)
  (ha : s.dev.get (LPn_RXFE_STATUS_AGC p x) = agcFast)
include hp ha

/-- A code that reaches SD_THRESH sets SIG_DET (03 R85). -/
theorem rssiUpdate_detects (h : s.dev.get (LPn_SIGDET_SD_THRESH p) ≤ min code 127) :
    Answers (.rssiUpdate p x code) s fun d =>
      d.get (LPn_RSSI_RSSI p x) = min code 127 ∧ d.get (LPn_RXFE_STATUS_SIG_DET p x) = 1 := by
  have hp' : s.dev.fresh.powered p x = true := hp
  refine answers_of_run rfl ?_
  simp (disch := decide) [hp', ha, h, agcFast, agcTrack, agcFrozen, agcHold, Dev.get_set_of_lt _ (rssi_fits p x code)]

/-- A code below SD_THRESH by more than SD_HYST does not set it (03 R85). -/
theorem rssiUpdate_stays_clear (hd : s.dev.get (LPn_RXFE_STATUS_SIG_DET p x) = 0)
    (h : min code 127 + s.dev.get (LPn_SIGDET_SD_HYST p) < s.dev.get (LPn_SIGDET_SD_THRESH p)) :
    Answers (.rssiUpdate p x code) s fun d =>
      d.get (LPn_RSSI_RSSI p x) = min code 127 ∧ d.get (LPn_RXFE_STATUS_SIG_DET p x) = 0 := by
  have hp' : s.dev.fresh.powered p x = true := hp
  have hn : ¬ s.dev.get (LPn_SIGDET_SD_THRESH p) ≤ min code 127 := by omega
  refine answers_of_run rfl ?_
  simp (disch := decide) [hp', ha, hd, h, hn, agcFast, agcTrack, agcFrozen, agcHold, Dev.disturb, Dev.disturbCal,
    Dev.get_set_of_lt _ (rssi_fits p x code)]

end

theorem Dev.get_disturb (s : Dev) (p : Port) (x : Pair) (f : Fld) : (s.disturb p x).get f = s.get f := rfl

/-- A new gain code is put into effect (03 R83). -/
theorem Dev.get_setGain (s : Dev) (p : Port) (x : Pair) {g : Nat} (hg : g ≤ 96) :
    (s.setGain p x g).get (LPn_RXFE_STATUS_GAIN p x) = g := by
  have hw : g < 2 ^ (LPn_RXFE_STATUS_GAIN p x).width := by
    cases x
    · show g < 128; omega
    · show g < 128; omega
  have hc : (clampInt 0 96 (g : Int)).toNat = g := by simp [clampInt]; omega
  unfold Dev.setGain
  rw [hc]
  dsimp only
  split
  next h => exact h
  next => simp (disch := decide) [Dev.get_disturb, Dev.get_set_of_lt _ hw]

/-- A step down from above the lower limit leads one code lower (03 R93). -/
theorem Dev.gainStep_down {s : Dev} {p : Port} {x : Pair} {g : Nat} (hg : s.get (LPn_RXFE_STATUS_GAIN p x) = g + 1)
    (hmin : s.gainMin p ≤ g) : s.gainStep p x (-1) = g := by
  unfold Dev.gainStep
  simp only [hg]
  omega

/-- In TRACK a mean square more than 0.5 dB above the target lowers the gain by one code (03 R89). -/
theorem gainLoopUpdate_lowers {s : State} {p : Port} {x : Pair} {sumSq n g : Nat} (hp : s.dev.powered p x = true)
    (ha : s.dev.get (LPn_RXFE_STATUS_AGC p x) = agcTrack) (hn : n ≠ 0)
    (hg : s.dev.get (LPn_RXFE_STATUS_GAIN p x) = g + 1) (hmin : s.dev.gainMin p ≤ g) (hmax : g < 96)
    (hr : ratioAtLeast sumSq (n * (max (s.dev.get (LPn_RXFE_CTRL_AGC_TARGET p)) 16) ^ 2) 1 20 = true) :
    Answers (.gainLoopUpdate p x sumSq n 0) s fun d => d.get (LPn_RXFE_STATUS_GAIN p x) = g := by
  have hp' : s.dev.fresh.powered p x = true := hp
  have hstep : s.dev.fresh.gainStep p x (-1) = g := Dev.gainStep_down (s := s.dev.fresh) hg hmin
  refine answers_of_run rfl ?_
  simp (disch := decide) [hp', ha, hn, hr, hstep, agcFast, agcTrack, agcManual, Dev.overrideRefresh,
    Dev.get_setGain _ p x hmax.le]

/-- Settles O8, a clause for each of the three updates. -/
theorem signalStrengthAndGain : Obligations.SignalStrengthAndGain :=
  ⟨fun _ _ _ _ hp ha h => rssiUpdate_detects hp ha h,
   fun _ _ _ _ hp ha hd h => rssiUpdate_stays_clear hp ha hd h,
   fun _ _ _ _ _ _ hp ha hn hg hmin hmax hr => gainLoopUpdate_lowers hp ha hn hg hmin hmax hr⟩

end Sys2Proof.Machine

/-! What the shared operations of the blocks leave alone: operations that write registers and nothing else, and operations
that write of the ports' registers no field but some families'. -/

namespace Sys2Proof.Machine

open Reg

/-! ## Registers alone -/

/-- Two devices differ in their registers alone. -/
def Dev.OnlyRegs (a b : Dev) : Prop := ({ a with regs := [] } : Dev) = { b with regs := [] }

theorem Dev.OnlyRegs.refl (a : Dev) : a.OnlyRegs a := rfl

theorem Dev.OnlyRegs.trans {a b c : Dev} (h : a.OnlyRegs b) (k : b.OnlyRegs c) : a.OnlyRegs c := Eq.trans h k

theorem Dev.each_onlyRegs {α : Type} {g : Dev → α → Dev} (h : ∀ s x, (g s x).OnlyRegs s) (l : List α) (s : Dev) :
    (s.each l g).OnlyRegs s := by
  induction l generalizing s with
  | nil => rfl
  | cons x l ih => exact (ih (g s x)).trans (h s x)

/-- What two devices that differ in their registers alone have in common. -/
abbrev Dev.SameParts (a b : Dev) : Prop :=
  a.timebase = b.timebase ∧ a.mem = b.mem ∧ a.writes = b.writes ∧ a.msixPend = b.msixPend ∧ a.msix = b.msix ∧
  a.msg = b.msg ∧ a.hiLatch = b.hiLatch ∧ a.readData = b.readData ∧ a.mdio = b.mdio ∧ a.ctx = b.ctx ∧
  a.heldCpl = b.heldCpl ∧ a.streams = b.streams ∧ a.target = b.target ∧ a.turn = b.turn ∧ a.admin = b.admin ∧
  a.cur = b.cur ∧ a.waits = b.waits ∧ a.lastCpl = b.lastCpl ∧ a.draws = b.draws ∧ a.ctr = b.ctr ∧ a.chk = b.chk ∧
  a.gov = b.gov ∧ a.shed = b.shed ∧ (∀ p, a.prt p = b.prt p) ∧ a.lane = b.lane ∧ a.host = b.host ∧ a.loop = b.loop ∧
  a.bceCap = b.bceCap ∧ a.aux = b.aux ∧ a.mon = b.mon ∧ a.pwr = b.pwr ∧ a.thm = b.thm ∧ a.evr = b.evr ∧
  a.rtc = b.rtc ∧ a.sys = b.sys ∧ a.jtag = b.jtag ∧ a.hold = b.hold

theorem Dev.OnlyRegs.sameParts {a b : Dev} (h : a.OnlyRegs b) : a.SameParts b := by
  have hp := fun p => (congrArg (fun d : Dev => d.prt p) h :)
  exact ⟨(congrArg Dev.timebase h :), (congrArg Dev.mem h :), (congrArg Dev.writes h :), (congrArg Dev.msixPend h :),
    (congrArg Dev.msix h :), (congrArg Dev.msg h :), (congrArg Dev.hiLatch h :), (congrArg Dev.readData h :),
    (congrArg Dev.mdio h :), (congrArg Dev.ctx h :), (congrArg Dev.heldCpl h :), (congrArg Dev.streams h :),
    (congrArg Dev.target h :), (congrArg Dev.turn h :), (congrArg Dev.admin h :), (congrArg Dev.cur h :),
    (congrArg Dev.waits h :), (congrArg Dev.lastCpl h :), (congrArg Dev.draws h :), (congrArg Dev.ctr h :),
    (congrArg Dev.chk h :), (congrArg Dev.gov h :), (congrArg Dev.shed h :), hp, (congrArg Dev.lane h :),
    (congrArg Dev.host h :), (congrArg Dev.loop h :), (congrArg Dev.bceCap h :), (congrArg Dev.aux h :),
    (congrArg Dev.mon h :), (congrArg Dev.pwr h :), (congrArg Dev.thm h :), (congrArg Dev.evr h :),
    (congrArg Dev.rtc h :), (congrArg Dev.sys h :), (congrArg Dev.jtag h :), (congrArg Dev.hold h :)⟩

/-! ## Families of registers -/

/-- Where a field lies in the block of its port, or of its loop, output or input; a field of no such block stands for itself. -/
def Fld.relKey (f : Fld) : Nat :=
  if inPorts f.off then 32 * ((f.off - 0x4000) % 0x800) + f.lsb
  else if 0x9100 ≤ f.off ∧ 0x100 ≤ f.off % 0x1000 then 65536 + 32 * (f.off / 0x1000 * 0x1000 + f.off % 0x10) + f.lsb
  else 65536 + 32 * f.off + f.lsb

/-- What stands in a list for every field of the ports' blocks. -/
def portsAll : Fld := ⟨0x4000, 2 ^ 20, 0, .ro, .h, 0, false⟩

/-- Whether a list takes a field by itself or by its family. -/
def Fld.among (l : List Fld) (f : Fld) : Bool :=
  l.any fun g => g.relKey == f.relKey || (g.relKey == portsAll.relKey && inPorts f.off)

/-- Whether a field is a host lane's, an on-die memory's, or of the family of one of the fields listed. -/
def Fld.touched (l : List Fld) (f : Fld) : Bool :=
  inLanes f.off || (decide (0x2000 ≤ f.off) && decide (f.off < 0x3000)) || f.among l

/-- Whether a field is neither book-keeping's nor touched. -/
def Fld.spared (l : List Fld) (f : Fld) : Bool := f.isPlain && !f.touched l

/-- What a device's registers hold in the fields that are spared. -/
def Dev.view (l : List Fld) (s : Dev) (f : Fld) : Nat := if f.spared l then s.get f else 0

/-- Every family of one list is one of another. -/
def famSub (k l : List Fld) : Bool :=
  k.all fun g => l.any fun e => e.relKey == g.relKey || (e.relKey == portsAll.relKey && inPorts g.off && decide (g.lsb < 32))

section
variable {l k : List Fld} {a b : Dev}

theorem Dev.view_congr (h : ∀ f : Fld, f.spared l = true → a.get f = b.get f) : a.view l = b.view l := by
  funext f
  unfold Dev.view
  split
  next hf => exact h f hf
  next => rfl

theorem Fld.inPorts_of_relKey {f g : Fld} (h : g.relKey = f.relKey) (hg : inPorts g.off = true) (hl : g.lsb < 32) :
    inPorts f.off = true := by
  by_contra hf
  simp only [Fld.relKey, hg, hf, if_true, if_false] at h
  split at h <;> omega

theorem Fld.among_mono (h : famSub k l = true) {f : Fld} (hf : f.among k = true) : f.among l = true := by
  simp only [Fld.among, famSub, Bool.or_eq_true, Bool.and_eq_true, List.all_eq_true, List.any_eq_true, beq_iff_eq,
    decide_eq_true_eq] at *
  obtain ⟨g, hg, e⟩ := hf
  obtain ⟨g', hg', e'⟩ := h g hg
  refine ⟨g', hg', ?_⟩
  rcases e with e | ⟨e, hp⟩ <;> rcases e' with e' | ⟨⟨e', hp'⟩, hl⟩
  · exact .inl (e'.trans e)
  · exact .inr ⟨e', Fld.inPorts_of_relKey e hp' hl⟩
  · exact .inr ⟨e'.trans e, hp⟩
  · exact .inr ⟨e', hp⟩

theorem Fld.touched_mono (h : famSub k l = true) {f : Fld} (hf : f.touched k = true) : f.touched l = true := by
  simp only [Fld.touched, Bool.or_eq_true] at *
  exact hf.imp_right (Fld.among_mono h)

theorem Fld.spared_mono (h : famSub k l = true) {f : Fld} (hf : f.spared l = true) : f.spared k = true := by
  simp only [Fld.spared, Bool.and_eq_true, Bool.not_eq_true'] at *
  exact ⟨hf.1, Bool.eq_false_iff.2 fun ht => Bool.eq_false_iff.1 hf.2 (Fld.touched_mono h ht)⟩

theorem Dev.get_of_view (h : a.view l = b.view l) {f : Fld} (hf : f.spared l = true) : a.get f = b.get f := by
  simpa [Dev.view, hf] using congrFun h f

theorem Dev.view_mono (h : a.view k = b.view k) (hs : famSub k l = true) : a.view l = b.view l :=
  Dev.view_congr fun _ hf => Dev.get_of_view h (Fld.spared_mono hs hf)

theorem Dev.Like.view_eq (h : a.Like b) (l : List Fld) : a.view l = b.view l := Dev.view_congr fun f hf => by
  simp only [Fld.spared, Bool.and_eq_true] at hf
  exact h.2 f (Fld.isPlain_iff.1 hf.1)

end

theorem Fld.spared_key_ne {l : List Fld} {f g : Fld} (hf : f.spared l = true) (hg : g.lsb < 32 ∧ g.touched l = true) :
    g.key ≠ f.key := by
  intro e
  simp only [Fld.spared, Bool.and_eq_true, Bool.not_eq_true'] at hf
  have hfl : f.lsb < 32 := (Fld.isPlain_iff.1 hf.1).1
  have ho : f.off = g.off := by unfold Fld.key at e; omega
  have hb : f.lsb = g.lsb := by unfold Fld.key at e; omega
  have ht : f.touched l = g.touched l := by simp only [Fld.touched, Fld.among, Fld.relKey, ho, hb]
  rw [ht, hg.2] at hf
  exact absurd hf.2 (by decide)

/-! ## The view after each operation -/

section
variable {l : List Fld} (s : Dev) (v : Nat)

@[simp] theorem Dev.view_set_fld {f : Fld} (h : f.lsb < 32 ∧ f.touched l = true) : (s.set f v).view l = s.view l :=
  Dev.view_congr fun _ hf => Dev.get_set_ne s v (Fld.spared_key_ne hf h)

@[simp] theorem Dev.view_set_inst {n : Nat} {F : Nat → Fld} {p : Fin n}
    (h : ∀ p : Fin n, (F p).lsb < 32 ∧ (F p).touched l = true) : (s.set (F p) v).view l = s.view l :=
  s.view_set_fld v (h p)

@[simp] theorem Dev.view_set_pair {n : Nat} {F : Nat → Pair → Fld} {p : Fin n} {x : Pair}
    (h : ∀ p : Fin n, ((F p .a).lsb < 32 ∧ (F p .a).touched l = true) ∧ (F p .b).lsb < 32 ∧ (F p .b).touched l = true) :
    (s.set (F p x) v).view l = s.view l := by
  cases x
  exacts [s.view_set_fld v (h p).1, s.view_set_fld v (h p).2]

end

section
variable (l : List Fld) (s : Dev)
@[simp] theorem Dev.view_iff (b : Bool) (g : Dev → Dev) : (s.iff b g).view l = if b then (g s).view l else s.view l := by
  cases b <;> rfl
@[simp] theorem Dev.view_ite (c : Prop) [Decidable c] (a b : Dev) :
    (if c then a else b).view l = if c then a.view l else b.view l := apply_ite (Dev.view l) c a b
@[simp] theorem Dev.view_write (w : MemWrite) : (s.write w).view l = s.view l := rfl
@[simp] theorem Dev.view_draw : s.draw.view l = s.view l := rfl
@[simp] theorem Dev.view_fresh : s.fresh.view l = s.view l := rfl
@[simp] theorem Dev.view_settle (m : Mem) : (s.settle m).view l = s.view l := rfl
@[simp] theorem Dev.view_busyWith (c : Option (Nat × Nat)) : (s.busyWith c).view l = s.view l := rfl
@[simp] theorem Dev.view_park (k : WaitKind) (d : Desc) : (s.park k d).view l = s.view l := rfl
@[simp] theorem Dev.view_modPort (p : Port) (g : PortSt → PortSt) : (s.modPort p g).view l = s.view l := rfl
@[simp] theorem Dev.view_modLane (k : Lane) (g : HLane → HLane) : (s.modLane k g).view l = s.view l := rfl
@[simp] theorem Dev.view_modGov (g : Gov → Gov) : (s.modGov g).view l = s.view l := rfl
@[simp] theorem Dev.view_modSys (g : Sys → Sys) : (s.modSys g).view l = s.view l := rfl
@[simp] theorem Dev.view_modPwr (g : Pwr → Pwr) : (s.modPwr g).view l = s.view l := rfl
@[simp] theorem Dev.view_log (f : Fld) (v : Nat) (b : List Byte) : (s.log f v b).view l = s.view l :=
  (s.log_like f v b).view_eq l
@[simp] theorem Dev.view_logRaw (i j k : Nat) (b : List Byte) : (s.logRaw i j k b).view l = s.view l :=
  (s.logRaw_like i j k b).view_eq l
@[simp] theorem Dev.view_logPlain (i v : Nat) (b : List Byte) : (s.logPlain i v b).view l = s.view l :=
  (s.logPlain_like i v b).view_eq l
@[simp] theorem Dev.view_count (c i n : Nat) : (s.count c i n).view l = s.view l := (s.count_like c i n).view_eq l
@[simp] theorem Dev.view_signal (v : Nat) : (s.signal v).view l = s.view l := (s.signal_like v).view_eq l
@[simp] theorem Dev.view_retried : s.retried.view l = s.view l := s.retried_like.view_eq l
@[simp] theorem Dev.view_fireCapture (p : Port) (k : Nat) : (s.fireCapture p k).view l = s.view l :=
  (s.fireCapture_like p k).view_eq l
@[simp] theorem Dev.view_hostWrite (a : Nat) (b : List Byte) : (s.hostWrite a b).view l = s.view l :=
  (s.hostWrite_like a b).view_eq l
@[simp] theorem Dev.view_putWord (i : MemId) (w : Nat) (x : MWord) : (s.putWord i w x).view l = s.view l :=
  (s.putWord_like i w x).view_eq l
@[simp] theorem Dev.view_finish (d : Desc) (st r : Nat) : (s.finish d st r).view l = s.view l :=
  (s.finish_like d st r).view_eq l

theorem Dev.view_each {l : List Fld} {α : Type} {g : Dev → α → Dev} (h : ∀ s x, (g s x).view l = s.view l) (xs : List α)
    (s : Dev) : (s.each xs g).view l = s.view l := by
  induction xs generalizing s with
  | nil => rfl
  | cons x xs ih => exact (ih (g s x)).trans (h s x)

theorem Dev.each_pairs (g : Dev → Pair → Dev) : s.each bothPairs g = g (g s .a) .b := rfl
end

/-! ## Reading what is spared -/

section
variable {l : List Fld} {a b : Dev} (h : a.view l = b.view l) {n : Nat} {F : Nat → Fld} {F2 : Nat → Pair → Fld}
include h
theorem Dev.get_inst_of_view (hf : ∀ p : Fin n, (F p).spared l = true) (p : Fin n) : a.get (F p) = b.get (F p) :=
  Dev.get_of_view h (hf p)
theorem Dev.get_pair_of_view (hf : ∀ p : Fin n, (F2 p .a).spared l = true ∧ (F2 p .b).spared l = true) (p : Fin n)
    (x : Pair) : a.get (F2 p x) = b.get (F2 p x) := by
  cases x
  exacts [Dev.get_of_view h (hf p).1, Dev.get_of_view h (hf p).2]
end

end Sys2Proof.Machine

/-! Background calibration of the interleaved ADC (03 R98–R109, R119). -/

namespace Sys2Proof.Machine

open Reg

/-! ## Slices -/

theorem getD_set! {α : Type} {n : Nat} (v : Vector α n) {i : Nat} (h : i < n) (x d : α) :
    (v.set! i x).toList.getD i d = x := by
  simp [h]

@[simp] theorem Adc.at_mod (a : Adc) {n : Nat} (h : n < 66) (g : Slice → Slice) : (a.mod n g).at n = g (a.at n) :=
  getD_set! _ h _ _

/-- A changed slice reads so whatever else of the ADC changes beside it. -/
theorem Adc.at_mk_mod (a : Adc) {n : Nat} (h : n < 66) (g : Slice → Slice) {pl fr st ab cy si ri rf mo} :
    (Adc.mk (a.mod n g).slices pl fr st ab cy si ri rf mo).at n = g (a.at n) :=
  a.at_mod h g

@[simp] theorem Adc.placed_mod (a : Adc) (n : Nat) (g : Slice → Slice) (pos : Nat) : (a.mod n g).placed pos = a.placed pos :=
  rfl
@[simp] theorem Adc.step_mod (a : Adc) (n : Nat) (g : Slice → Slice) : (a.mod n g).step = a.step := rfl

@[simp] theorem Adc.free_mod (a : Adc) (n : Nat) (g : Slice → Slice) : (a.mod n g).free = a.free := rfl

/-! ## The reported state -/

theorem Dev.calRefresh_onlyRegs (s : Dev) (p : Port) : (s.calRefresh p).OnlyRegs s := by
  refine Dev.each_onlyRegs (fun s x => ?_) _ s
  rfl

@[simp] theorem Dev.calRefresh_parts (s : Dev) (p : Port) : (s.calRefresh p).SameParts s :=
  (s.calRefresh_onlyRegs p).sameParts

/-- The fields in which background calibration reports its state. -/
def calFlds : List Fld :=
  [LPn_ADC_CAL_STATUS_STATE_A 0, LPn_ADC_CAL_STATUS_STATE_B 0, LPn_ADC_CAL_STATUS_FREE_A 0, LPn_ADC_CAL_STATUS_FREE_B 0,
   LPn_ADC_CAL_STATUS_DEGRADED_A 0, LPn_ADC_CAL_STATUS_DEGRADED_B 0]

theorem Dev.view_calRefresh (s : Dev) (p : Port) : (s.calRefresh p).view calFlds = s.view calFlds :=
  Dev.view_each (fun s x => by simp (disch := decide)) _ s

@[simp low] theorem Dev.get_calRefresh_inst (s : Dev) (q : Port) {n : Nat} {F : Nat → Fld} {p : Fin n}
    (h : ∀ p : Fin n, (F p).spared calFlds = true) : (s.calRefresh q).get (F p) = s.get (F p) :=
  Dev.get_inst_of_view (s.view_calRefresh q) h p

/-! ## Steps, windows and the ramp -/

theorem Dev.calMay_of {s : Dev} {p : Port} {x : Pair} (hl : s.linkState p = 3 ∨ s.linkState p = 4)
    (hp : s.powered p x = true) (hd : s.get (LPn_RXFE_STATUS_SIG_DET p x) = 1)
    (he : s.get (LPn_ADC_CAL_CTRL_CAL_EN p) = 1) (hh : s.get (LPn_ADC_CAL_STATUS_HOLD_ACTIVE p) = 0)
    (hf : (s.adcOf p x).free ≠ []) (hs : (s.adcOf p x).step = none) (hc : s.coreRuns = true) : s.calMay p x = true := by
  rcases hl with hl | hl <;> simp [Dev.calMay, hl, hp, hd, he, hh, hf, hs, hc]

/-- A step that may begin does: at its first attempt, on the head of the free queue. -/
theorem Dev.calBegin_of_may {s : Dev} {p : Port} {x : Pair} (h : s.calMay p x = true) :
    ∃ c, ((s.calBegin p x).adcOf p x).step = some c ∧ c.slice = (s.adcOf p x).free.headD 0 ∧ c.attempt = 1 ∧ c.got = [] ∧
      c.target = none := by
  unfold Dev.calBegin
  rw [if_pos h]
  simp [Dev.adcOf]

theorem calStepStart_begins {s : State} {p : Port} {x : Pair} (h : s.dev.calMay p x = true) :
    Answers (.calStepStart p x) s fun d => ∃ c, (d.adcOf p x).step = some c ∧ c.slice = (s.dev.adcOf p x).free.headD 0 ∧
      c.attempt = 1 ∧ c.got = [] ∧ c.target = none :=
  answers_of_run rfl (Dev.calBegin_of_may (s := s.dev.fresh) h)

section
variable {s : State} {p : Port} {x : Pair} {m : CalSums} {c : CalStep} (hs : (s.dev.adcOf p x).step = some c)
  (ht : c.target = none) (hu : c.disturbed = false) (hd : s.dev.get (LPn_RXFE_STATUS_SIG_DET p x) = 1)
include hs ht hu hd

/-- An undisturbed first window keeps its measurement (03 R98). -/
theorem calWindowEnd_keeps (hg : c.got = []) :
    Answers (.calWindowEnd p x m) s fun d => (d.adcOf p x).step = some { c with got := [s.dev.calMeas p m] } := by
  have hs' : (s.dev.fresh.adcOf p x).step = some c := hs
  have hm : s.dev.fresh.calMeas p m = s.dev.calMeas p m := rfl
  refine answers_of_run (rfl : _ = execCalWindowEnd p x m s) ?_
  simp only [hs']
  simp [ht, hu, hd, hg, hm, Dev.adcOf]

/-- A second one that agrees gives the targets (03 R99, R100). -/
theorem calWindowEnd_targets {m0 : CalMeas} (hg : c.got = [m0]) (ha : calAgree m0 (s.dev.calMeas p m) = true)
    (hn : c.slice < 66) :
    Answers (.calWindowEnd p x m) s fun d => (d.adcOf p x).step = some
      { c with got := [], target := some (calTarget ((s.dev.adcOf p x).at c.slice) m0 (s.dev.calMeas p m)) } ∧
      ((d.adcOf p x).at c.slice).attempts = c.attempt := by
  have hs' : (s.dev.fresh.adcOf p x).step = some c := hs
  have hm : s.dev.fresh.calMeas p m = s.dev.calMeas p m := rfl
  refine answers_of_run (rfl : _ = execCalWindowEnd p x m s) ?_
  simp only [hs']
  simp [ht, hu, hd, hg, hm, ha, Dev.adcOf, hn, calTarget, Adc.at_mk_mod]

end

/-- A tick short of the target moves each of the three trims by one (03 R103). -/
theorem temperTick_moves {s : State} {p : Port} {x : Pair} {c : CalStep} {o g k : Int}
    (hs : (s.dev.adcOf p x).step = some c) (ht : c.target = some (o, g, k)) (hn : c.slice < 66)
    (ho : temper ((s.dev.adcOf p x).at c.slice).off o ≠ o) :
    Answers (.temperTick p x) s fun d =>
      ((d.adcOf p x).at c.slice).off = temper ((s.dev.adcOf p x).at c.slice).off o ∧
      ((d.adcOf p x).at c.slice).gain = temper ((s.dev.adcOf p x).at c.slice).gain g ∧
      ((d.adcOf p x).at c.slice).skew = temper ((s.dev.adcOf p x).at c.slice).skew k ∧ (d.adcOf p x).step = some c := by
  have hs' : (s.dev.fresh.adcOf p x).step = some c := hs
  have ho' : temper (((s.dev.prt p).adc.get x.idx).at c.slice).off o ≠ o := ho
  have hs'' : ((s.dev.prt p).adc.get x.idx).step = some c := hs
  refine answers_of_run (rfl : _ = execTemperTick p x s) ?_
  simp only [hs', ht]
  simp [Dev.adcOf, hn, ho', hs'']

/-! ## Health and holds -/

/-- A slice in service that gives only one code is noted, and stays (03 R106). -/
theorem healthWindowEnd_notes {s : State} {p : Port} {x : Pair} {e : HealthStat} (hp : s.dev.powered p x = true)
    (hd : s.dev.get (LPn_RXFE_STATUS_SIG_DET p x) = 1) (he : e.pos < 64) (hc : e.lo = e.hi)
    (hn : (s.dev.adcOf p x).placed e.pos < 66)
    (hf : ((s.dev.adcOf p x).at ((s.dev.adcOf p x).placed e.pos)).failed = false)
    (hb : ((s.dev.adcOf p x).at ((s.dev.adcOf p x).placed e.pos)).bad = 0) :
    Answers (.healthWindowEnd p x [e]) s fun d =>
      ((d.adcOf p x).at ((s.dev.adcOf p x).placed e.pos)).bad = 1 ∧
      (d.adcOf p x).placed e.pos = (s.dev.adcOf p x).placed e.pos := by
  have hp' : s.dev.fresh.powered p x = true := hp
  have ha : s.dev.fresh.adcOf p x = s.dev.adcOf p x := rfl
  refine answers_of_run (rfl : _ = execHealthWindowEnd p x [e] s) ?_
  simp [hp', hd, he, hc, ha, hf, hb, Dev.each]
  simp [Dev.adcOf] at hn ⊢
  simp [hn]

/-- A hold that expires ends, and HOLD reads 0 (03 R119). -/
theorem adcHoldExpire_ends {s : State} {p : Port} (h : s.dev.get (LPn_ADC_CAL_STATUS_HOLD_ACTIVE p) = 1) :
    Answers (.adcHoldExpire p) s fun d => d.get (LPn_ADC_CAL_STATUS_HOLD_ACTIVE p) = 0 ∧
      d.get (LPn_ADC_CAL_CTRL_HOLD p) = 0 ∧ d.get (LPn_RX_EVENTS_HOLD_EXPIRED p) = 1 := by
  refine answers_of_run (rfl : _ = execAdcHoldExpire p s) ?_
  simp (disch := decide) [h, Dev.holdEnd, Dev.each, bothPairs]

/-- Settles O9, a clause for each moment of background calibration. -/
theorem backgroundCalibration : Obligations.BackgroundCalibration :=
  ⟨fun _ _ _ hl hp hd he hh hf hs hc => calStepStart_begins (Dev.calMay_of hl hp hd he hh hf hs hc),
   fun _ _ _ _ _ hs ht hu hg hd => calWindowEnd_keeps hs ht hu hd hg,
   fun _ _ _ _ _ _ hs ht hu hg hd ha hn => calWindowEnd_targets hs ht hu hd hg ha hn,
   fun _ _ _ _ _ _ _ hs ht hn ho => temperTick_moves hs ht hn ho,
   fun _ _ _ _ hp hd he hc hn hf hb => healthWindowEnd_notes hp hd he hc hn hf hb,
   fun _ _ h => adcHoldExpire_ends h⟩

end Sys2Proof.Machine

/-! Entry of a port to a link state (09 Table 9.1), and what follows it on the transmitters, the host lanes, the
calibration's report and the boundaries' slack: which parts of the device it leaves alone. -/

namespace Sys2Proof.Machine

-- One theorem at a time: side by side they ask for more memory than a check may have.
set_option Elab.async false

open Reg

/-! ## The parts that no operation on a link changes -/

/-- The device without its books, its registers, its ports and lanes and what goes with them. -/
def Dev.rim (s : Dev) : Dev :=
  { s.core with port := Vector.replicate 8 {}, lane := Vector.replicate 16 {}, host := {}, gov := {}, mdio := {} }

/-- What two devices with the same rim have in common. -/
abbrev Dev.SameRim (a b : Dev) : Prop :=
  a.timebase = b.timebase ∧ a.mem = b.mem ∧ a.msix = b.msix ∧ a.hiLatch = b.hiLatch ∧ a.readData = b.readData ∧
  a.streams = b.streams ∧ a.turn = b.turn ∧ a.admin = b.admin ∧ a.cur = b.cur ∧ a.waits = b.waits ∧
  a.lastCpl = b.lastCpl ∧ a.chk = b.chk ∧ a.shed = b.shed ∧ a.loop = b.loop ∧ a.bceCap = b.bceCap ∧ a.aux = b.aux ∧
  a.mon = b.mon ∧ a.thm = b.thm ∧ a.rtc = b.rtc ∧ a.sys = b.sys ∧ a.jtag = b.jtag ∧ a.hold = b.hold ∧
  a.pwr.dozing = b.pwr.dozing ∧ a.pwr.waking = b.pwr.waking ∧ a.pwr.hold = b.pwr.hold ∧
  a.pwr.entry = b.pwr.entry ∧ a.pwr.gated = b.pwr.gated

theorem Dev.sameRim {a b : Dev} (h : a.rim = b.rim) : a.SameRim b :=
  ⟨(congrArg Dev.timebase h :), (congrArg Dev.mem h :), (congrArg Dev.msix h :), (congrArg Dev.hiLatch h :),
    (congrArg Dev.readData h :), (congrArg Dev.streams h :), (congrArg Dev.turn h :), (congrArg Dev.admin h :),
    (congrArg Dev.cur h :), (congrArg Dev.waits h :), (congrArg Dev.lastCpl h :), (congrArg Dev.chk h :),
    (congrArg Dev.shed h :), (congrArg Dev.loop h :), (congrArg Dev.bceCap h :), (congrArg Dev.aux h :),
    (congrArg Dev.mon h :), (congrArg Dev.thm h :), (congrArg Dev.rtc h :), (congrArg Dev.sys h :),
    (congrArg Dev.jtag h :), (congrArg Dev.hold h :), (congrArg (fun d : Dev => d.pwr.dozing) h :),
    (congrArg (fun d : Dev => d.pwr.waking) h :), (congrArg (fun d : Dev => d.pwr.hold) h :), (congrArg (fun d : Dev => d.pwr.entry) h :),
    (congrArg (fun d : Dev => d.pwr.gated) h :)⟩

/-- The rim without the gating of the ports' supplies, which a port's way out of FAULT ends. -/
def Dev.ungated (s : Dev) : Dev := { s.rim with pwr := { s.rim.pwr with gated := Vector.replicate 8 false } }

theorem Dev.ungated_of_rim {a b : Dev} (h : a.rim = b.rim) : a.ungated = b.ungated :=
  congrArg (fun d : Dev => ({ d with pwr := { d.pwr with gated := Vector.replicate 8 false } } : Dev)) h

/-- A pair's transmitter without its DAC codes. -/
def TxPair.codeless (q : TxPair) : TxPair := { q with dac := [] }

/-- Entry to a link state changes of a port's record only these parts: the capture, the message channel, the DAC codes,
the local fault stream, the transmit clock, and the times and counts of Lull. -/
def PortSt.rest (q : PortSt) : PortSt :=
  { q with cap := {}, lmc := {}
           tx := { q.tx with pair := q.tx.pair.map TxPair.codeless, fill := {}, hostOut := false, onRef := false
                             returning := false }
           link := { q.link with lullNs := 0, lullAt := 0, refreshes := 0, kinds := (0, 0), wakeSent := 0, upSince := 0 } }

/-- The ports' records without those parts. -/
def Dev.rests (s : Dev) : Vector PortSt 8 := s.port.map PortSt.rest

/-- What two devices whose ports' records have the same rest have in common. -/
abbrev Dev.SameRests (a b : Dev) : Prop :=
  (∀ p, (a.prt p).freq = (b.prt p).freq) ∧ (∀ p, (a.prt p).adc = (b.prt p).adc) ∧ (∀ p, (a.prt p).eq = (b.prt p).eq) ∧
  (∀ p, (a.prt p).echo = (b.prt p).echo) ∧ (∀ p, (a.prt p).fd = (b.prt p).fd) ∧ (∀ p, (a.prt p).fec = (b.prt p).fec) ∧
  (∀ p, (a.prt p).acq = (b.prt p).acq) ∧ (∀ p, (a.prt p).slips = (b.prt p).slips) ∧
  (∀ p, (a.prt p).slipRx = (b.prt p).slipRx) ∧ (∀ p, (a.prt p).slipTx = (b.prt p).slipTx) ∧
  (∀ p, (a.prt p).tx.driver = (b.prt p).tx.driver) ∧ (∀ p, (a.prt p).tx.delay = (b.prt p).tx.delay) ∧
  (∀ p, (a.prt p).tx.stopping = (b.prt p).tx.stopping) ∧ (∀ p, (a.prt p).tx.precodeReq = (b.prt p).tx.precodeReq) ∧
  (∀ p, (a.prt p).tx.quenchLf = (b.prt p).tx.quenchLf) ∧ (∀ p, (a.prt p).tx.data = (b.prt p).tx.data) ∧
  (∀ p, (a.prt p).tx.idle = (b.prt p).tx.idle) ∧ (∀ p, (a.prt p).link.stopping = (b.prt p).link.stopping) ∧
  (∀ p, (a.prt p).link.cfgMode = (b.prt p).link.cfgMode) ∧ (∀ p, (a.prt p).link.eqSet = (b.prt p).link.eqSet) ∧
  (∀ p, (a.prt p).link.term = (b.prt p).link.term) ∧ (∀ p, (a.prt p).link.mode = (b.prt p).link.mode) ∧
  (∀ p, (a.prt p).link.lanes = (b.prt p).link.lanes) ∧ (∀ p, (a.prt p).link.inner = (b.prt p).link.inner) ∧
  (∀ p, (a.prt p).link.reqKind = (b.prt p).link.reqKind) ∧ (∀ p, (a.prt p).link.backoff = (b.prt p).link.backoff) ∧
  (∀ p, (a.prt p).link.enter = (b.prt p).link.enter) ∧ (∀ p, (a.prt p).link.wakePending = (b.prt p).link.wakePending) ∧
  (∀ p, (a.prt p).link.markWake = (b.prt p).link.markWake) ∧ (∀ p, (a.prt p).link.burst = (b.prt p).link.burst) ∧
  (∀ p, (a.prt p).link.mdioReset = (b.prt p).link.mdioReset) ∧ (∀ p, (a.prt p).link.flaps = (b.prt p).link.flaps)

theorem Dev.rest_prt {a b : Dev} (h : a.rests = b.rests) (p : Port) : (a.prt p).rest = (b.prt p).rest := by
  have := congrArg (fun v : Vector PortSt 8 => v.get p) h
  simpa [Dev.rests, Vector.get_eq_getElem, Dev.prt] using this

theorem Dev.txPair_rest {a b : Dev} (h : a.rests = b.rests) (p : Port) (x : Pair) :
    (a.txPairOf p x).codeless = (b.txPairOf p x).codeless := by
  have := congrArg (fun q : PortSt => q.tx.pair.get x.idx) (Dev.rest_prt h p)
  simpa [PortSt.rest, Vector.get_eq_getElem, Dev.txPairOf] using this

theorem Dev.sameRests {a b : Dev} (h : a.rests = b.rests) : a.SameRests b := by
  have h := Dev.rest_prt h
  exact ⟨fun p => (congrArg PortSt.freq (h p) :), fun p => (congrArg PortSt.adc (h p) :),
    fun p => (congrArg PortSt.eq (h p) :), fun p => (congrArg PortSt.echo (h p) :), fun p => (congrArg PortSt.fd (h p) :),
    fun p => (congrArg PortSt.fec (h p) :), fun p => (congrArg PortSt.acq (h p) :),
    fun p => (congrArg PortSt.slips (h p) :), fun p => (congrArg PortSt.slipRx (h p) :),
    fun p => (congrArg PortSt.slipTx (h p) :), fun p => (congrArg (fun q : PortSt => q.tx.driver) (h p) :),
    fun p => (congrArg (fun q : PortSt => q.tx.delay) (h p) :),
    fun p => (congrArg (fun q : PortSt => q.tx.stopping) (h p) :),
    fun p => (congrArg (fun q : PortSt => q.tx.precodeReq) (h p) :),
    fun p => (congrArg (fun q : PortSt => q.tx.quenchLf) (h p) :),
    fun p => (congrArg (fun q : PortSt => q.tx.data) (h p) :), fun p => (congrArg (fun q : PortSt => q.tx.idle) (h p) :),
    fun p => (congrArg (fun q : PortSt => q.link.stopping) (h p) :),
    fun p => (congrArg (fun q : PortSt => q.link.cfgMode) (h p) :),
    fun p => (congrArg (fun q : PortSt => q.link.eqSet) (h p) :),
    fun p => (congrArg (fun q : PortSt => q.link.term) (h p) :),
    fun p => (congrArg (fun q : PortSt => q.link.mode) (h p) :),
    fun p => (congrArg (fun q : PortSt => q.link.lanes) (h p) :),
    fun p => (congrArg (fun q : PortSt => q.link.inner) (h p) :),
    fun p => (congrArg (fun q : PortSt => q.link.reqKind) (h p) :),
    fun p => (congrArg (fun q : PortSt => q.link.backoff) (h p) :),
    fun p => (congrArg (fun q : PortSt => q.link.enter) (h p) :),
    fun p => (congrArg (fun q : PortSt => q.link.wakePending) (h p) :),
    fun p => (congrArg (fun q : PortSt => q.link.markWake) (h p) :),
    fun p => (congrArg (fun q : PortSt => q.link.burst) (h p) :),
    fun p => (congrArg (fun q : PortSt => q.link.mdioReset) (h p) :),
    fun p => (congrArg (fun q : PortSt => q.link.flaps) (h p) :)⟩

/-! ## Rim and rests after the updates of the device -/

theorem Dev.Like.rim {a b : Dev} (h : a.Like b) : a.rim = b.rim :=
  congrArg (fun d : Dev => ({ d with port := Vector.replicate 8 {}, lane := Vector.replicate 16 {}, host := {}, gov := {}, mdio := {} } : Dev)) h.1

theorem Dev.Like.rests {a b : Dev} (h : a.Like b) : a.rests = b.rests := by
  have e : (PortSt.rest ∘ fun q => { q with cap := {} }) = PortSt.rest := rfl
  have : a.core.port.map PortSt.rest = b.core.port.map PortSt.rest := congrArg (fun d : Dev => d.port.map PortSt.rest) h.1
  simpa only [Dev.core, Dev.rests, Vector.map_map, e] using this

theorem map_vmod {α β : Type} {n : Nat} {f : α → β} {g : α → α} (h : ∀ q, f (g q) = f q) (v : Vector α n) (i : Fin n) :
    (vmod v i g).map f = v.map f := by
  apply Vector.ext
  intro k hk
  by_cases e : i.val = k
  · subst e; simp [vmod, Vector.get_eq_getElem, h]
  · simp [vmod, e]

/-- Every step of a fold keeps what one step keeps. -/
theorem Dev.each_keep {α β : Type} {π : Dev → β} {g : Dev → α → Dev} (h : ∀ s x, π (g s x) = π s) (l : List α) (s : Dev) :
    π (s.each l g) = π s := by
  induction l generalizing s with
  | nil => rfl
  | cons x l ih => exact (ih (g s x)).trans (h s x)

section
variable (s : Dev)
@[simp] theorem Dev.rim_set (f : Fld) (v : Nat) : (s.set f v).rim = s.rim := rfl
@[simp] theorem Dev.rim_modPort (p : Port) (g : PortSt → PortSt) : (s.modPort p g).rim = s.rim := by
  simp only [Dev.rim, Dev.core, Dev.modPort]
@[simp] theorem Dev.rim_modLane (l : Lane) (g : HLane → HLane) : (s.modLane l g).rim = s.rim := rfl
@[simp] theorem Dev.rim_modGov (g : Gov → Gov) : (s.modGov g).rim = s.rim := rfl
@[simp] theorem Dev.ungated_modPwr (g : Pwr → Vector Bool 8) :
    (s.modPwr fun w => { w with gated := g w }).ungated = s.ungated := rfl
@[simp] theorem Dev.rim_draw : s.draw.rim = s.rim := rfl
@[simp] theorem Dev.rim_count (c i n : Nat) : (s.count c i n).rim = s.rim := (s.count_like c i n).rim
@[simp] theorem Dev.rim_log (f : Fld) (v : Nat) (l : List Byte) : (s.log f v l).rim = s.rim := (s.log_like f v l).rim
@[simp] theorem Dev.rim_logPlain (b v : Nat) (l : List Byte) : (s.logPlain b v l).rim = s.rim :=
  (s.logPlain_like b v l).rim
@[simp] theorem Dev.rim_logRaw (a b c : Nat) (l : List Byte) : (s.logRaw a b c l).rim = s.rim :=
  (s.logRaw_like a b c l).rim
@[simp] theorem Dev.rim_signal (v : Nat) : (s.signal v).rim = s.rim := (s.signal_like v).rim
@[simp] theorem Dev.rim_hostWrite (a : Nat) (l : List Byte) : (s.hostWrite a l).rim = s.rim := (s.hostWrite_like a l).rim
@[simp] theorem Dev.rim_putWord (i : MemId) (w : Nat) (x : MWord) : (s.putWord i w x).rim = s.rim :=
  (s.putWord_like i w x).rim
@[simp] theorem Dev.rim_iff (b : Bool) (g : Dev → Dev) : (s.iff b g).rim = if b then (g s).rim else s.rim := by
  cases b <;> rfl
@[simp] theorem Dev.rim_ite (c : Prop) [Decidable c] (a b : Dev) :
    (if c then a else b).rim = if c then a.rim else b.rim := apply_ite Dev.rim c a b

@[simp] theorem Dev.ungated_set (f : Fld) (v : Nat) : (s.set f v).ungated = s.ungated := rfl
@[simp] theorem Dev.ungated_modPort (p : Port) (g : PortSt → PortSt) : (s.modPort p g).ungated = s.ungated :=
  Dev.ungated_of_rim (s.rim_modPort p g)
@[simp] theorem Dev.ungated_count (c i n : Nat) : (s.count c i n).ungated = s.ungated := Dev.ungated_of_rim (s.rim_count c i n)
@[simp] theorem Dev.ungated_log (f : Fld) (v : Nat) (l : List Byte) : (s.log f v l).ungated = s.ungated :=
  Dev.ungated_of_rim (s.rim_log f v l)
@[simp] theorem Dev.ungated_iff (b : Bool) (g : Dev → Dev) : (s.iff b g).ungated = if b then (g s).ungated else s.ungated := by
  cases b <;> rfl
@[simp] theorem Dev.rests_set (f : Fld) (v : Nat) : (s.set f v).rests = s.rests := rfl
theorem Dev.rests_modPort (p : Port) {g : PortSt → PortSt} (h : ∀ q, (g q).rest = q.rest) :
    (s.modPort p g).rests = s.rests := map_vmod h _ _
@[simp] theorem Dev.rests_modLane (l : Lane) (g : HLane → HLane) : (s.modLane l g).rests = s.rests := rfl
@[simp] theorem Dev.rests_modGov (g : Gov → Gov) : (s.modGov g).rests = s.rests := rfl
@[simp] theorem Dev.rests_modPwr (g : Pwr → Pwr) : (s.modPwr g).rests = s.rests := rfl
@[simp] theorem Dev.rests_draw : s.draw.rests = s.rests := rfl
@[simp] theorem Dev.rests_count (c i n : Nat) : (s.count c i n).rests = s.rests := (s.count_like c i n).rests
@[simp] theorem Dev.rests_log (f : Fld) (v : Nat) (l : List Byte) : (s.log f v l).rests = s.rests := (s.log_like f v l).rests
@[simp] theorem Dev.rests_iff (b : Bool) (g : Dev → Dev) : (s.iff b g).rests = if b then (g s).rests else s.rests := by
  cases b <;> rfl
@[simp] theorem Dev.rests_ite (c : Prop) [Decidable c] (a b : Dev) :
    (if c then a else b).rests = if c then a.rests else b.rests := apply_ite Dev.rests c a b

theorem Dev.rests_modLink (p : Port) {g : Link → Link} (h : ∀ q : PortSt, ({ q with link := g q.link } : PortSt).rest = q.rest) :
    (s.modLink p g).rests = s.rests := s.rests_modPort p h
theorem Dev.rests_modTx (p : Port) {g : Tx → Tx} (h : ∀ q : PortSt, ({ q with tx := g q.tx } : PortSt).rest = q.rest) :
    (s.modTx p g).rests = s.rests := s.rests_modPort p h
@[simp] theorem Dev.rests_modLmc (p : Port) (g : Lmc → Lmc) : (s.modLmc p g).rests = s.rests :=
  s.rests_modPort p fun _ => rfl
theorem Dev.rests_modTxPair (p : Port) (x : Pair) {g : TxPair → TxPair}
    (h : ∀ q, (g q).codeless = q.codeless) : (s.modTxPair p x g).rests = s.rests :=
  s.rests_modPort p fun q => by simp only [PortSt.rest, map_vmod h]

@[simp] theorem Dev.view_modTx (l : List Fld) (p : Port) (g : Tx → Tx) : (s.modTx p g).view l = s.view l := rfl
@[simp] theorem Dev.rim_modTx (p : Port) (g : Tx → Tx) : (s.modTx p g).rim = s.rim := s.rim_modPort p _
@[simp] theorem Dev.rim_modTxPair (p : Port) (x : Pair) (g : TxPair → TxPair) : (s.modTxPair p x g).rim = s.rim :=
  s.rim_modPort p _
@[simp] theorem Dev.rim_modLink (p : Port) (g : Link → Link) : (s.modLink p g).rim = s.rim := s.rim_modPort p _
@[simp] theorem Dev.rim_modLmc (p : Port) (g : Lmc → Lmc) : (s.modLmc p g).rim = s.rim := s.rim_modPort p _
end

/-! ## Messages -/

section
variable (s : Dev) (p : Port)

theorem Dev.lmcTell_of_up {s : Dev} {p : Port} (h : s.lmcUp p = true) (typ : Nat) (l : List Byte) :
    s.lmcTell p typ l = (s.lmcQueue p typ l).1 := if_pos h

@[simp] theorem Dev.view_lmcTell (l : List Fld) (typ : Nat) (b : List Byte) : (s.lmcTell p typ b).view l = s.view l := by
  unfold Dev.lmcTell
  split <;> rfl
@[simp] theorem Dev.rim_lmcTell (typ : Nat) (b : List Byte) : (s.lmcTell p typ b).rim = s.rim := by
  unfold Dev.lmcTell
  split
  · exact (Dev.rim_modPort _ _ _).trans (Dev.rim_modPort _ _ _)
  · rfl
@[simp] theorem Dev.rests_lmcTell (typ : Nat) (b : List Byte) : (s.lmcTell p typ b).rests = s.rests := by
  unfold Dev.lmcTell
  split
  · exact (Dev.rests_modLmc _ _ _).trans (Dev.rests_modLmc _ _ _)
  · rfl
@[simp] theorem Dev.get_lmcTell (typ : Nat) (b : List Byte) (f : Fld) : (s.lmcTell p typ b).get f = s.get f := by
  unfold Dev.lmcTell
  split <;> rfl

/-! ## Transmitters -/

/-- The registers of a port's transmitters that their causes set. -/
def txFlds : List Fld :=
  [LPn_TX_STATUS_TXS 0 .a, LPn_TX_STATUS_TXS 0 .b, LPn_TX_EVENTS_QUENCH 0, LPn_TX_STATUS_DRV_EN 0,
   LPn_LINK_STATUS_ELIGIBLE 0]

@[simp] theorem Dev.rests_eligRefresh : (s.eligRefresh p).rests = s.rests := rfl
@[simp] theorem Dev.rim_eligRefresh : (s.eligRefresh p).rim = s.rim := rfl
@[simp] theorem Dev.view_eligRefresh {l : List Fld} (h : famSub txFlds l = true) : (s.eligRefresh p).view l = s.view l :=
  Dev.view_mono (by simp (disch := decide) [Dev.eligRefresh] : _ = s.view txFlds) h

/-- A pair's transmitter put into the state that its causes give. -/
def Dev.txPut (s : Dev) (p : Port) (x : Pair) : Dev :=
  let st := s.txTarget p x
  (s.set (LPn_TX_STATUS_TXS p x) st).modTxPair p x fun q =>
    { q with dac := if st = txOff then [] else if st = txSquelch ∨ st = txIdle then List.replicate 256 0 else q.dac }

/-- Entry of a port's transmitters to local fault is counted, and the partner told. -/
def Dev.lfBegin (s : Dev) (p : Port) : Dev :=
  ((s.count 0x2E p).modTx p fun t => { t with fill := {} }).lmcTell p mtNotice
    (if (s.prt p).tx.quenchLf then pay 2 ++ pay 3 else pay 1 ++ pay 1)

/-- Both pairs take their states; then what follows them is reported. -/
theorem Dev.txRefresh_eq (b : Bool) : ∃ c e : Bool, s.txRefresh p b =
    if s.quenching && !b && !s.sys.brownout then s
    else (((((s.txPut p .a).txPut p .b).iff c fun s => s.flag (LPn_TX_EVENTS_QUENCH p) true).flag (LPn_TX_STATUS_DRV_EN p)
      (!((((s.txPut p .a).txPut p .b).iff c fun s => s.flag (LPn_TX_EVENTS_QUENCH p) true).txPortOff p))).iff e
        (·.lfBegin p)).eligRefresh p :=
  ⟨_, _, rfl⟩

@[simp] theorem Dev.rests_txPut (x : Pair) : (s.txPut p x).rests = s.rests := Dev.rests_modTxPair _ p x fun _ => rfl
@[simp] theorem Dev.rim_txPut (x : Pair) : (s.txPut p x).rim = s.rim := Dev.rim_modTxPair _ p x _
@[simp] theorem Dev.rests_lfBegin : (s.lfBegin p).rests = s.rests :=
  (Dev.rests_lmcTell ..).trans ((Dev.rests_modTx _ p fun _ => rfl).trans (s.rests_count ..))
@[simp] theorem Dev.rim_lfBegin : (s.lfBegin p).rim = s.rim := by simp [Dev.lfBegin]

@[simp] theorem Dev.rests_txRefresh (b : Bool) : (s.txRefresh p b).rests = s.rests := by
  obtain ⟨c, e, h⟩ := s.txRefresh_eq p b
  simp [h]
@[simp] theorem Dev.rim_txRefresh (b : Bool) : (s.txRefresh p b).rim = s.rim := by
  obtain ⟨c, e, h⟩ := s.txRefresh_eq p b
  simp [h]

section
variable {l : List Fld} (h : famSub txFlds l = true)
include h
@[simp] theorem Dev.view_txPut (x : Pair) : (s.txPut p x).view l = s.view l :=
  Dev.view_mono ((Dev.view_modPort ..).trans (by simp (disch := decide)) : _ = s.view txFlds) h
@[simp] theorem Dev.view_lfBegin : (s.lfBegin p).view l = s.view l :=
  Dev.view_mono (by simp (disch := decide) [Dev.lfBegin] : _ = s.view txFlds) h
@[simp] theorem Dev.view_txRefresh (b : Bool) : (s.txRefresh p b).view l = s.view l := by
  refine Dev.view_mono (?_ : _ = s.view txFlds) h
  obtain ⟨c, e, h⟩ := s.txRefresh_eq p b
  simp (disch := decide) [h]
end

/-! ## Host lanes -/

/-- The registers by which a port's line side sees a loss of its host lanes. -/
def hostFlds : List Fld := [LPn_TX_STATUS_HOST_LOST 0, LPn_TX_EVENTS_HOST_LOSS 0]

theorem Dev.rests_modTx_clock (b c : Bool) : (s.modTx p fun t => { t with onRef := b, returning := c }).rests = s.rests :=
  s.rests_modTx p fun _ => rfl
theorem Dev.rests_modTx_lost (a b c : Bool) :
    (s.modTx p fun t => { t with hostOut := a, onRef := b, returning := c }).rests = s.rests := s.rests_modTx p fun _ => rfl

@[simp] theorem Dev.rests_hostLossBegin : (s.hostLossBegin p).rests = s.rests := by
  simp [Dev.hostLossBegin, Dev.rests_modTx_lost, -Dev.modTx_eq]
@[simp] theorem Dev.rim_hostLossBegin : (s.hostLossBegin p).rim = s.rim := by
  simp [Dev.hostLossBegin]
@[simp] theorem Dev.view_hostLossBegin {l : List Fld} (h : famSub hostFlds l = true) :
    (s.hostLossBegin p).view l = s.view l :=
  Dev.view_mono (by simp (disch := decide) [Dev.hostLossBegin] : _ = s.view hostFlds) h

/-- A lane of a group that loses alignment. -/
def Dev.laneLost (s : Dev) (l : Lane) : Dev :=
  let s := (((s.inc (HLn_COUNT_AM_LOSSES l)).flag (HLn_EVENTS_AM_LOST l) true).count 0x51 l).flag (HLn_STATUS_ALIGNED l) false
  s.iff (s.get (HLn_STATUS_RXS l) == 4) fun s => s.set (HLn_STATUS_RXS l) 3

/-- The moment of a group's loss of alignment. -/
def Dev.noteLost (s : Dev) (p : Port) : Dev :=
  { s with host := { s.host with lostAt := s.host.lostAt.set p (some s.timebase) } }

theorem Dev.groupLost_eq : s.groupLost p =
    if (s.group p).any fun l => s.on (HLn_STATUS_ALIGNED l) then
      ((s.each (s.group p) fun s l => s.laneLost l).noteLost p).hostLossBegin p
    else s := rfl

@[simp] theorem Dev.view_noteLost (l : List Fld) : (s.noteLost p).view l = s.view l := rfl
@[simp] theorem Dev.rests_noteLost : (s.noteLost p).rests = s.rests := rfl
@[simp] theorem Dev.rim_noteLost : (s.noteLost p).rim = s.rim := rfl
@[simp] theorem Dev.rests_laneLost (k : Lane) : (s.laneLost k).rests = s.rests := by simp [Dev.laneLost]
@[simp] theorem Dev.rim_laneLost (k : Lane) : (s.laneLost k).rim = s.rim := by simp [Dev.laneLost]
@[simp] theorem Dev.view_laneLost (k : Lane) {l : List Fld} (h : famSub hostFlds l = true) :
    (s.laneLost k).view l = s.view l :=
  Dev.view_mono (by simp (disch := decide) [Dev.laneLost] : _ = s.view hostFlds) h

@[simp] theorem Dev.rests_groupLost : (s.groupLost p).rests = s.rests := by
  simp [Dev.groupLost_eq, Dev.each_keep (π := Dev.rests) fun s k => Dev.rests_laneLost s k]
@[simp] theorem Dev.rim_groupLost : (s.groupLost p).rim = s.rim := by
  simp [Dev.groupLost_eq, Dev.each_keep (π := Dev.rim) fun s k => Dev.rim_laneLost s k]
@[simp] theorem Dev.view_groupLost {l : List Fld} (h : famSub hostFlds l = true) : (s.groupLost p).view l = s.view l := by
  simp [Dev.groupLost_eq, h, Dev.view_each fun s k => Dev.view_laneLost s k h]

@[simp] theorem Dev.rests_laneClockLost (k : Lane) : (s.laneClockLost k).rests = s.rests := by
  unfold Dev.laneClockLost
  split
  · rfl
  · exact s.rests_modTx_clock _ _ _
@[simp] theorem Dev.rim_laneClockLost (k : Lane) : (s.laneClockLost k).rim = s.rim := by
  unfold Dev.laneClockLost
  split
  · rfl
  · exact s.rim_modTx _ _
@[simp] theorem Dev.view_laneClockLost (k : Lane) (l : List Fld) : (s.laneClockLost k).view l = s.view l := by
  unfold Dev.laneClockLost
  split <;> rfl

/-- A lane's transmitter state, and whether an exit from electrical idle is due. -/
def Dev.laneTx (s : Dev) (k : Lane) (n : Nat) (due : Bool) : Dev :=
  (s.set (HLn_STATUS_TXS k) n).modLane k fun h => { h with exitDue := due }

/-- A lane's transmitter put into the state that Table 10.2 gives it. -/
def Dev.laneTxPut (s : Dev) (k : Lane) : Dev :=
  let target := s.laneTarget k
  let now := s.get (HLn_STATUS_TXS k)
  let s := if target = 0 ∨ target = 1 then s.laneTx k target false
    else if now = 0 ∨ now = 1 then s.laneTx k 1 true
    else if now = 2 then s
    else s.laneTx k target false
  s.iff (s.get (HLn_STATUS_TXS k) == 4 || s.get (HLn_STATUS_TXS k) == 2) fun s =>
    s.modLane k fun h => { h with onRef := true, returning := false }

/-- A lane's receiver put into the state that Table 10.3 gives it. -/
def Dev.laneRxPut (s : Dev) (k : Lane) : Dev :=
  if s.laneOff k then
    let lost := s.on (HLn_STATUS_ALIGNED k)
    let s := match s.groupOf k with
      | some p => s.iff lost (·.groupLost p)
      | none => s
    ((s.set (HLn_STATUS_RXS k) 0).flag (HLn_STATUS_ALIGNED k) false).laneClockLost k
  else s.iff (s.get (HLn_STATUS_RXS k) == 0) fun s => s.set (HLn_STATUS_RXS k) 1

theorem Dev.laneRefresh_eq (k : Lane) : s.laneRefresh k = (s.laneTxPut k).laneRxPut k := rfl

@[simp] theorem Dev.rests_laneTxPut (k : Lane) : (s.laneTxPut k).rests = s.rests := by simp [Dev.laneTxPut, Dev.laneTx]
@[simp] theorem Dev.rim_laneTxPut (k : Lane) : (s.laneTxPut k).rim = s.rim := by simp [Dev.laneTxPut, Dev.laneTx]
@[simp] theorem Dev.view_laneTxPut (k : Lane) {l : List Fld} (h : famSub hostFlds l = true) :
    (s.laneTxPut k).view l = s.view l :=
  Dev.view_mono (by simp (disch := decide) [Dev.laneTxPut, Dev.laneTx] : _ = s.view hostFlds) h

@[simp] theorem Dev.rests_laneRxPut (k : Lane) : (s.laneRxPut k).rests = s.rests := by
  unfold Dev.laneRxPut
  cases s.groupOf k <;> simp
@[simp] theorem Dev.rim_laneRxPut (k : Lane) : (s.laneRxPut k).rim = s.rim := by
  unfold Dev.laneRxPut
  cases s.groupOf k <;> simp
@[simp] theorem Dev.view_laneRxPut (k : Lane) {l : List Fld} (h : famSub hostFlds l = true) :
    (s.laneRxPut k).view l = s.view l := by
  refine Dev.view_mono (?_ : _ = s.view hostFlds) h
  unfold Dev.laneRxPut
  cases s.groupOf k <;> simp (disch := decide)

@[simp] theorem Dev.rests_groupRefresh : (s.groupRefresh p).rests = s.rests :=
  Dev.each_keep (fun s k => by simp [Dev.laneRefresh_eq]) _ s
@[simp] theorem Dev.rim_groupRefresh : (s.groupRefresh p).rim = s.rim :=
  Dev.each_keep (fun s k => by simp [Dev.laneRefresh_eq]) _ s
@[simp] theorem Dev.view_groupRefresh {l : List Fld} (h : famSub hostFlds l = true) :
    (s.groupRefresh p).view l = s.view l :=
  Dev.view_each (fun s k => by simp [Dev.laneRefresh_eq, h]) _ s

/-! ## The report of calibration and of the boundaries' slack -/

@[simp] theorem Dev.rests_calRefresh : (s.calRefresh p).rests = s.rests := (congrArg Dev.rests (s.calRefresh_onlyRegs p) :)
@[simp] theorem Dev.rim_calRefresh : (s.calRefresh p).rim = s.rim := (congrArg Dev.rim (s.calRefresh_onlyRegs p) :)

/-- The registers of a port's slack. -/
def slackFlds : List Fld := [LPn_SLACK_ADC 0 .a, LPn_SLACK_ADC 0 .b, LPn_SLACK_DAC 0 .a, LPn_SLACK_DAC 0 .b]

/-- A boundary's slack lies in a field of a port's pair or of a lane. -/
theorem boundFld_cases {P : Fld → Prop} (b : Bound) (ha : ∀ (p : Fin 8) x, P (LPn_SLACK_ADC p x))
    (hd : ∀ (p : Fin 8) x, P (LPn_SLACK_DAC p x)) (hr : ∀ l : Fin 16, P (HLn_SLACK_RX l))
    (ht : ∀ l : Fin 16, P (HLn_SLACK_TX l)) : P (boundFld b) := by
  unfold boundFld
  split
  next h =>
    have hp : b.val / 4 < 8 := by omega
    split
    · exact ha ⟨_, hp⟩ _
    · exact hd ⟨_, hp⟩ _
  next =>
    have hl : (b.val - 32) / 2 < 16 := by omega
    split
    · exact hr ⟨_, hl⟩
    · exact ht ⟨_, hl⟩

theorem pairs_touched {l : List Fld} {F : Pair → Fld}
    (h : ((F .a).lsb < 32 ∧ (F .a).touched l = true) ∧ (F .b).lsb < 32 ∧ (F .b).touched l = true) (x : Pair) :
    (F x).lsb < 32 ∧ (F x).touched l = true := by
  cases x
  exacts [h.1, h.2]

theorem boundFld_touched (b : Bound) : (boundFld b).lsb < 32 ∧ (boundFld b).touched slackFlds = true :=
  boundFld_cases (P := fun f => f.lsb < 32 ∧ f.touched slackFlds = true) b
    (fun p => pairs_touched ((by decide : ∀ p : Fin 8, ((LPn_SLACK_ADC p .a).lsb < 32 ∧ (LPn_SLACK_ADC p .a).touched slackFlds = true) ∧
      (LPn_SLACK_ADC p .b).lsb < 32 ∧ (LPn_SLACK_ADC p .b).touched slackFlds = true) p))
    (fun p => pairs_touched ((by decide : ∀ p : Fin 8, ((LPn_SLACK_DAC p .a).lsb < 32 ∧ (LPn_SLACK_DAC p .a).touched slackFlds = true) ∧
      (LPn_SLACK_DAC p .b).lsb < 32 ∧ (LPn_SLACK_DAC p .b).touched slackFlds = true) p)) (by decide) (by decide)

@[simp] theorem Dev.rests_slackRefreshOne (b : Bound) : (s.slackRefreshOne b).rests = s.rests := by
  unfold Dev.slackRefreshOne
  split
  · exact Dev.rests_set ..
  · exact (Dev.rests_set ..).trans (Dev.rests_modGov ..)
@[simp] theorem Dev.rim_slackRefreshOne (b : Bound) : (s.slackRefreshOne b).rim = s.rim := by
  unfold Dev.slackRefreshOne
  split
  · exact Dev.rim_set ..
  · exact (Dev.rim_set ..).trans (Dev.rim_modGov ..)
@[simp] theorem Dev.view_slackRefreshOne (b : Bound) : (s.slackRefreshOne b).view slackFlds = s.view slackFlds := by
  unfold Dev.slackRefreshOne
  split
  · exact Dev.view_set_fld _ _ (boundFld_touched b)
  · exact (Dev.view_set_fld _ _ (boundFld_touched b)).trans (Dev.view_modGov ..)

@[simp] theorem Dev.rests_slackRefresh : (s.slackRefresh p).rests = s.rests :=
  Dev.each_keep (fun s b => s.rests_slackRefreshOne b) _ s
@[simp] theorem Dev.rim_slackRefresh : (s.slackRefresh p).rim = s.rim :=
  Dev.each_keep (fun s b => s.rim_slackRefreshOne b) _ s
@[simp] theorem Dev.view_slackRefresh {l : List Fld} (h : famSub slackFlds l = true) :
    (s.slackRefresh p).view l = s.view l :=
  Dev.view_mono (Dev.view_each (fun s b => s.view_slackRefreshOne b) _ s) h

/-! ## Entry to a link state -/

/-- The registers that follow a link state. -/
def followFlds : List Fld := txFlds ++ hostFlds ++ calFlds ++ slackFlds

/-- The registers that an entry to a link state writes. -/
def linkFlds : List Fld :=
  [LPn_LINK_STATUS_LINK_STATE 0, LPn_LINK_STATUS_LOCAL_FAULT 0, LPn_LINK_STATUS_FAULT_CAUSE 0, LPn_LULL_COUNT_LULL_ENTRIES 0,
   LPn_LINK_EVENTS_LINK_UP 0] ++ followFlds

@[simp] theorem Dev.view_calRefresh_of {l : List Fld} (h : famSub calFlds l = true) : (s.calRefresh p).view l = s.view l :=
  Dev.view_mono (s.view_calRefresh p) h

/-- A link state's entry notes the state, and then the transmitters, the lanes and the reports follow. -/
theorem Dev.linkTo_eq (st : Nat) : ∃ t : Dev,
    s.linkTo p st = ((((t.txRefresh p).groupRefresh p).calRefresh p).slackRefresh p).eligRefresh p ∧
    t.ungated = s.ungated ∧ t.rests = s.rests ∧ t.view linkFlds = s.view linkFlds ∧
    t.get (LPn_LINK_STATUS_LINK_STATE p) = st % 8 := by
  refine ⟨_, rfl, ?_, ?_, ?_, ?_⟩
  · simp
  · have hl : ∀ (s : Dev) (n : Nat), (s.modLink p fun l => { l with lullNs := l.lullNs + (n - l.lullAt), kinds := (0, 0), wakeSent := 0 }).rests = s.rests :=
      fun s n => s.rests_modLink p fun _ => rfl
    have he : ∀ (s : Dev) (n : Nat), (s.modLink p fun l => { l with lullAt := n, refreshes := 0 }).rests = s.rests :=
      fun s n => s.rests_modLink p fun _ => rfl
    have hu : ∀ (s : Dev) (n : Nat), (s.modLink p fun l => { l with upSince := n }).rests = s.rests :=
      fun s n => s.rests_modLink p fun _ => rfl
    simp [-Dev.modLink_eq, hl, he, hu]
  · simp (disch := decide)
  · simp (disch := decide)
    rfl

@[simp] theorem Dev.ungated_linkTo (st : Nat) : (s.linkTo p st).ungated = s.ungated := by
  obtain ⟨t, ht, hr, -, -, -⟩ := s.linkTo_eq p st
  rw [ht, ← hr]
  exact Dev.ungated_of_rim (by simp)

@[simp] theorem Dev.rests_linkTo (st : Nat) : (s.linkTo p st).rests = s.rests := by
  obtain ⟨t, ht, -, hr, -, -⟩ := s.linkTo_eq p st
  simp [ht, hr]

@[simp] theorem Dev.view_linkTo (st : Nat) {l : List Fld} (h : famSub linkFlds l = true) :
    (s.linkTo p st).view l = s.view l := by
  obtain ⟨t, ht, -, -, hv, -⟩ := s.linkTo_eq p st
  refine Dev.view_mono (?_ : _ = s.view linkFlds) h
  simp (disch := decide) [ht, hv]

theorem Dev.linkState_linkTo_mod (st : Nat) : (s.linkTo p st).linkState p = st % 8 := by
  obtain ⟨t, ht, -, -, -, hs⟩ := s.linkTo_eq p st
  have hv : (s.linkTo p st).view followFlds = t.view followFlds := by simp (disch := decide) [ht]
  exact (Dev.get_inst_of_view hv (by decide) p).trans hs

/-- A port is in the link state that it has entered. -/
@[simp] theorem Dev.linkState_linkTo {st : Nat} (h : st < 8) : (s.linkTo p st).linkState p = st :=
  (s.linkState_linkTo_mod p st).trans (Nat.mod_eq_of_lt h)

@[simp] theorem Dev.txRefresh_sameRim (b : Bool) : (s.txRefresh p b).SameRim s := Dev.sameRim (s.rim_txRefresh p b)
@[simp] theorem Dev.txRefresh_sameRests (b : Bool) : (s.txRefresh p b).SameRests s := Dev.sameRests (s.rests_txRefresh p b)
@[simp] theorem Dev.groupRefresh_sameRim : (s.groupRefresh p).SameRim s := Dev.sameRim (s.rim_groupRefresh p)

/-- A field that an entry to a link state does not write. -/
@[simp low] theorem Dev.get_linkTo_inst (st : Nat) {n : Nat} {F : Nat → Fld} {q : Fin n}
    (h : ∀ q : Fin n, (F q).spared linkFlds = true) : (s.linkTo p st).get (F q) = s.get (F q) :=
  Dev.get_inst_of_view (s.view_linkTo p st (by decide)) h q
@[simp low] theorem Dev.get_txRefresh_inst (b : Bool) {n : Nat} {F : Nat → Fld} {q : Fin n}
    (h : ∀ q : Fin n, (F q).spared txFlds = true) : (s.txRefresh p b).get (F q) = s.get (F q) :=
  Dev.get_inst_of_view (s.view_txRefresh p (by decide) b) h q

/-! ## The states that transmitters take -/

theorem Dev.txPortOff_txPut (x : Pair) : (s.txPut p x).txPortOff p = s.txPortOff p := by
  simp (disch := decide) [Dev.txPut, Dev.txPortOff, Dev.linkState, -List.reduceReplicate]

theorem Dev.txTarget_txPut (x y : Pair) : (s.txPut p y).txTarget p x = s.txTarget p x := by
  have hd := congrArg TxPair.dacOff (Dev.txPair_rest (s.rests_txPut p y) p x)
  simp only [TxPair.codeless, Dev.txPairOf] at hd
  simp only [Dev.txTarget]
  rw [s.txPortOff_txPut, hd]
  simp (disch := decide) [Dev.txPut, Dev.on, Dev.linkState, Dev.mode, -List.reduceReplicate]

/-- What follows the transmitters' states writes only these. -/
def txAfterFlds : List Fld := [LPn_TX_EVENTS_QUENCH 0, LPn_TX_STATUS_DRV_EN 0, LPn_LINK_STATUS_ELIGIBLE 0]

theorem Dev.txTarget_lt (x : Pair) : s.txTarget p x < 8 := by
  unfold Dev.txTarget
  simp only [txOff, txSquelch, txLf, txIdle, txData, txTrain]
  repeat' split
  all_goals decide

@[simp] theorem Dev.get_txs_txPut (x : Pair) : (s.txPut p x).get (LPn_TX_STATUS_TXS p x) = s.txTarget p x := by
  have h : (s.txPut p x).get (LPn_TX_STATUS_TXS p x) = s.txTarget p x % 2 ^ (LPn_TX_STATUS_TXS p x).width :=
    Dev.get_set_self _ _ _
  have hl := s.txTarget_lt p x
  rw [h]
  cases x <;> exact Nat.mod_eq_of_lt hl

theorem Dev.get_txs_txPut_both (x : Pair) :
    ((s.txPut p .a).txPut p .b).get (LPn_TX_STATUS_TXS p x) = s.txTarget p x := by
  cases x
  · have h : ((s.txPut p .a).txPut p .b).get (LPn_TX_STATUS_TXS p .a) = (s.txPut p .a).get (LPn_TX_STATUS_TXS p .a) :=
      Dev.get_set_ne _ _ ((by decide : ∀ p : Fin 8, (LPn_TX_STATUS_TXS p .b).key ≠ (LPn_TX_STATUS_TXS p .a).key) p)
    rw [h, s.get_txs_txPut]
  · rw [Dev.get_txs_txPut, s.txTarget_txPut]

/-- Outside a Quench, or in a brown-out, each pair takes the state of its highest-ranked cause. -/
theorem Dev.get_txs_txRefresh (h : s.quenching = false ∨ s.sys.brownout = true) (b : Bool) (x : Pair) :
    (s.txRefresh p b).get (LPn_TX_STATUS_TXS p x) = s.txTarget p x := by
  obtain ⟨c, e, hs⟩ := s.txRefresh_eq p b
  have hn : ¬ (s.quenching && !b && !s.sys.brownout) = true := by rcases h with h | h <;> simp [h]
  rw [if_neg hn] at hs
  have hv : (s.txRefresh p b).view txAfterFlds = ((s.txPut p .a).txPut p .b).view txAfterFlds := by
    rw [hs]
    simp (disch := decide) [Dev.eligRefresh, Dev.lfBegin]
  rw [Dev.get_pair_of_view hv (by decide), s.get_txs_txPut_both]

/-- DRV_EN follows the causes that put a whole port off. -/
theorem Dev.get_drvEn_txRefresh (h : s.quenching = false ∨ s.sys.brownout = true) (b : Bool) :
    (s.txRefresh p b).get (LPn_TX_STATUS_DRV_EN p) = bnat (!s.txPortOff p) := by
  obtain ⟨c, e, hs⟩ := s.txRefresh_eq p b
  have hn : ¬ (s.quenching && !b && !s.sys.brownout) = true := by rcases h with h | h <;> simp [h]
  rw [if_neg hn] at hs
  have ho : ∀ t : Dev, (t.iff c fun s => s.flag (LPn_TX_EVENTS_QUENCH p) true).txPortOff p = t.txPortOff p := by
    intro t
    cases c
    · rfl
    · simp (disch := decide) [Dev.txPortOff, Dev.linkState]
  rw [hs, ho, Dev.txPortOff_txPut, Dev.txPortOff_txPut]
  cases e <;> simp (disch := decide) [Dev.eligRefresh, Dev.lfBegin]

end
end Sys2Proof.Machine

/-! A port's search, rest and data mode: which parts of the device the operations that lead there leave alone. -/

namespace Sys2Proof.Machine

-- One theorem at a time: side by side they ask for more memory than a check may have.
set_option Elab.async false

open Reg

/-! ## Data written at a descriptor's Address -/

section
variable (s : Dev) {l : List Fld}

theorem famSub_nil (l : List Fld) : famSub [] l = true := rfl

@[simp] theorem Dev.rim_correctable (i : MemId) (w : Nat) (y : BitVec 8) : (s.correctable i w y).rim = s.rim := by
  simp [Dev.correctable]
@[simp] theorem Dev.view_correctable (i : MemId) (w : Nat) (y : BitVec 8) : (s.correctable i w y).view l = s.view l :=
  Dev.view_mono (by simp (disch := decide) [Dev.correctable] : _ = s.view []) (famSub_nil l)
@[simp] theorem Dev.rim_lasting (i : MemId) (w : Nat) (y : BitVec 8) : (s.lasting i w y).rim = s.rim := by
  simp [Dev.lasting]
@[simp] theorem Dev.view_lasting (i : MemId) (w : Nat) (y : BitVec 8) : (s.lasting i w y).view l = s.view l :=
  Dev.view_mono (by simp (disch := decide) [Dev.lasting] : _ = s.view []) (famSub_nil l)

@[simp] theorem Dev.rim_mergeWord (i : MemId) (w k : Nat) (b : List Byte) : (s.mergeWord i w k b).1.rim = s.rim := by
  unfold Dev.mergeWord
  dsimp only
  split <;> simp
@[simp] theorem Dev.view_mergeWord (i : MemId) (w k : Nat) (b : List Byte) :
    (s.mergeWord i w k b).1.view l = s.view l := by
  refine Dev.view_mono (?_ : _ = s.view []) (famSub_nil l)
  unfold Dev.mergeWord
  dsimp only
  split <;> simp (disch := decide)

theorem foldl_fst_keep {α β γ δ : Type} {π : δ → β} {g : δ × γ → α → δ × γ} (h : ∀ a x, π (g a x).1 = π a.1) (l : List α)
    (a : δ × γ) : π (l.foldl g a).1 = π a.1 := by
  induction l generalizing a with
  | nil => rfl
  | cons x l ih => exact (ih (g a x)).trans (h a x)

/-- What the writes of words and their merges keep, a write of bytes keeps. -/
theorem Dev.writeMem_keep {β : Type} {π : Dev → β} (hm : ∀ s i w k b, π (Dev.mergeWord s i w k b).1 = π s)
    (hp : ∀ s i w x, π (Dev.putWord s i w x) = π s) (i : MemId) (off : Nat) (b : List Byte) :
    π (s.writeMem i off b).1 = π s := by
  unfold Dev.writeMem
  dsimp only
  refine (foldl_fst_keep (fun a x => ?_) _ _).trans ?_
  · split
    · rfl
    · split
      · exact hp ..
      · exact hm ..
  · split
    · rfl
    · exact hm ..

@[simp] theorem Dev.rim_writeMem (i : MemId) (off : Nat) (b : List Byte) : (s.writeMem i off b).1.rim = s.rim :=
  s.writeMem_keep (fun s => s.rim_mergeWord) (fun s => s.rim_putWord) i off b
@[simp] theorem Dev.view_writeMem (i : MemId) (off : Nat) (b : List Byte) : (s.writeMem i off b).1.view l = s.view l :=
  s.writeMem_keep (π := Dev.view l) (fun s => s.view_mergeWord) (fun s => s.view_putWord l) i off b

@[simp] theorem Dev.rim_putData (d : Desc) (off : Nat) (b : List Byte) : (s.putData d off b).1.rim = s.rim := by
  unfold Dev.putData
  split
  · rfl
  · split
    · exact s.rim_hostWrite _ _
    · exact s.rim_writeMem _ _ _
@[simp] theorem Dev.view_putData (d : Desc) (off : Nat) (b : List Byte) : (s.putData d off b).1.view l = s.view l := by
  unfold Dev.putData
  split
  · rfl
  · split
    · exact s.view_hostWrite _ _ _
    · exact s.view_writeMem _ _ _
end

/-! ## What also a completion leaves alone -/

/-- The rim without the descriptors that wait, the last that completed, and the gating of the ports' supplies. -/
def Dev.outer (s : Dev) : Dev := { s.ungated with waits := [], lastCpl := none }

/-- What two devices with the same outer rim have in common. -/
abbrev Dev.SameOuter (a b : Dev) : Prop :=
  a.timebase = b.timebase ∧ a.mem = b.mem ∧ a.msix = b.msix ∧ a.hiLatch = b.hiLatch ∧ a.readData = b.readData ∧
  a.streams = b.streams ∧ a.turn = b.turn ∧ a.admin = b.admin ∧ a.cur = b.cur ∧ a.chk = b.chk ∧ a.shed = b.shed ∧
  a.loop = b.loop ∧ a.bceCap = b.bceCap ∧ a.aux = b.aux ∧ a.mon = b.mon ∧ a.thm = b.thm ∧ a.rtc = b.rtc ∧
  a.sys = b.sys ∧ a.jtag = b.jtag ∧ a.hold = b.hold ∧ a.pwr.dozing = b.pwr.dozing ∧ a.pwr.waking = b.pwr.waking ∧
  a.pwr.hold = b.pwr.hold ∧ a.pwr.entry = b.pwr.entry

theorem Dev.sameOuter {a b : Dev} (h : a.outer = b.outer) : a.SameOuter b :=
  ⟨(congrArg Dev.timebase h :), (congrArg Dev.mem h :), (congrArg Dev.msix h :), (congrArg Dev.hiLatch h :),
    (congrArg Dev.readData h :), (congrArg Dev.streams h :), (congrArg Dev.turn h :), (congrArg Dev.admin h :),
    (congrArg Dev.cur h :), (congrArg Dev.chk h :), (congrArg Dev.shed h :), (congrArg Dev.loop h :),
    (congrArg Dev.bceCap h :), (congrArg Dev.aux h :), (congrArg Dev.mon h :), (congrArg Dev.thm h :),
    (congrArg Dev.rtc h :), (congrArg Dev.sys h :), (congrArg Dev.jtag h :), (congrArg Dev.hold h :),
    (congrArg (fun d : Dev => d.pwr.dozing) h :), (congrArg (fun d : Dev => d.pwr.waking) h :),
    (congrArg (fun d : Dev => d.pwr.hold) h :), (congrArg (fun d : Dev => d.pwr.entry) h :)⟩

theorem Dev.outer_of_ungated {a b : Dev} (h : a.ungated = b.ungated) : a.outer = b.outer :=
  congrArg (fun d : Dev => ({ d with waits := [], lastCpl := none } : Dev)) h

theorem Dev.outer_of_rim {a b : Dev} (h : a.rim = b.rim) : a.outer = b.outer := Dev.outer_of_ungated (Dev.ungated_of_rim h)

section
variable (s : Dev) {l : List Fld}
@[simp] theorem Dev.outer_waits (w : List (WaitKind × Desc)) : ({ s with waits := w } : Dev).outer = s.outer := rfl
@[simp] theorem Dev.view_waits (w : List (WaitKind × Desc)) : ({ s with waits := w } : Dev).view l = s.view l := rfl
@[simp] theorem Dev.outer_finish (d : Desc) (st r : Nat) : (s.finish d st r).outer = s.outer :=
  (Dev.outer_of_rim (s.finish_like d st r).rim).trans rfl
@[simp] theorem Dev.outer_wakeOne (k : WaitKind) (st r : Nat) : (s.wakeOne k st r).outer = s.outer := by
  unfold Dev.wakeOne
  split
  · rfl
  · exact (Dev.outer_finish _ _ _ _).trans (s.outer_waits _)
@[simp] theorem Dev.view_wakeOne (k : WaitKind) (st r : Nat) : (s.wakeOne k st r).view l = s.view l := by
  unfold Dev.wakeOne
  split
  · rfl
  · exact (Dev.view_finish _ _ _ _ _).trans (s.view_waits _)
@[simp] theorem Dev.outer_wakeAll (f : WaitKind → Bool) (st : Nat) (r : WaitKind → Nat) :
    (s.wakeAll f st r).outer = s.outer :=
  (Dev.each_keep (π := Dev.outer) (fun s _ => s.outer_finish _ _ _) _ _).trans (s.outer_waits _)
@[simp] theorem Dev.view_wakeAll (f : WaitKind → Bool) (st : Nat) (r : WaitKind → Nat) :
    (s.wakeAll f st r).view l = s.view l :=
  (Dev.view_each (fun s _ => s.view_finish _ _ _ _) _ _).trans (s.view_waits _)
@[simp] theorem Dev.rests_waits (w : List (WaitKind × Desc)) : ({ s with waits := w } : Dev).rests = s.rests := rfl
@[simp] theorem Dev.rests_lastCpl (c : Option (Nat × Cpl)) : ({ s with lastCpl := c } : Dev).rests = s.rests := rfl
@[simp] theorem Dev.rests_finish (d : Desc) (st r : Nat) : (s.finish d st r).rests = s.rests :=
  (s.finish_like d st r).rests.trans (s.rests_lastCpl _)
@[simp] theorem Dev.rests_wakeAll (f : WaitKind → Bool) (st : Nat) (r : WaitKind → Nat) :
    (s.wakeAll f st r).rests = s.rests :=
  (Dev.each_keep (π := Dev.rests) (fun s _ => s.rests_finish _ _ _) _ _).trans (s.rests_waits _)
end

/-! ## The loops of a pair -/

/-- The registers of a pair's gain loop. -/
def agcFlds : List Fld :=
  [LPn_RXFE_STATUS_AGC 0 .a, LPn_RXFE_STATUS_AGC 0 .b, LPn_RXFE_STATUS_GAIN 0 .a, LPn_RXFE_STATUS_GAIN 0 .b,
   LPn_RSSI_REF 0 .a, LPn_RSSI_REF 0 .b, LPn_RXFE_STATUS_OVERRIDE_LIVE 0]
/-- The registers of a pair's equaliser and cancellers. -/
def adaptFlds : List Fld :=
  [LPn_EQ_STATUS_ADAPT 0 .a, LPn_EQ_STATUS_ADAPT 0 .b, LPn_EQ_STATUS_CONV 0 .a, LPn_EQ_STATUS_CONV 0 .b,
   LPn_EQ_STATUS_WARM_USED 0, LPn_EQ_STATUS_FREEZE_LIVE 0, LPn_FD_STATUS_ECHO 0 .a, LPn_FD_STATUS_ECHO 0 .b,
   LPn_FD_EVENTS_ECHO_RECOVER 0]
/-- The registers of a pair's phase loop. -/
def cdrFlds : List Fld := [LPn_CDR_STATUS_LOCK 0 .a, LPn_CDR_STATUS_LOCK 0 .b]

section
variable (s : Dev) (p : Port) (x : Pair) {l : List Fld}

@[simp] theorem Dev.view_modAdc (l : List Fld) (g : Adc → Adc) : (s.modAdc p x g).view l = s.view l := rfl
@[simp] theorem Dev.view_modEq (l : List Fld) (g : Eq → Eq) : (s.modEq p x g).view l = s.view l := rfl
@[simp] theorem Dev.view_modEcho (l : List Fld) (g : Echo → Echo) : (s.modEcho p x g).view l = s.view l := rfl

@[simp] theorem Dev.rim_setGain (g : Int) : (s.setGain p x g).rim = s.rim := by
  simp [Dev.setGain, Dev.disturb, Dev.disturbCal]
@[simp] theorem Dev.view_setGain (g : Int) (h : famSub agcFlds l = true) : (s.setGain p x g).view l = s.view l :=
  Dev.view_mono (by simp (disch := decide) [Dev.setGain, Dev.disturb, Dev.disturbCal] : _ = s.view agcFlds) h

@[simp] theorem Dev.rim_agcEnter (st : Nat) : (s.agcEnter p x st).rim = s.rim := by
  simp [Dev.agcEnter, Dev.overrideRefresh]
@[simp] theorem Dev.view_agcEnter (st : Nat) (h : famSub agcFlds l = true) : (s.agcEnter p x st).view l = s.view l :=
  Dev.view_mono (by simp (disch := decide) [Dev.agcEnter, Dev.overrideRefresh] : _ = s.view agcFlds) h
@[simp] theorem Dev.rim_agcTo (st : Nat) : (s.agcTo p x st).rim = s.rim := by
  simp [Dev.agcTo, Dev.overrideRefresh]
@[simp] theorem Dev.view_agcTo (st : Nat) (h : famSub agcFlds l = true) : (s.agcTo p x st).view l = s.view l :=
  Dev.view_mono (by simp (disch := decide) [Dev.agcTo, Dev.overrideRefresh] : _ = s.view agcFlds) h

@[simp] theorem Dev.rim_putTaps (t : Taps) : (s.putTaps p x t).rim = s.rim := s.rim_modPort p _
@[simp] theorem Dev.view_putTaps (l : List Fld) (t : Taps) : (s.putTaps p x t).view l = s.view l := rfl
@[simp] theorem Dev.rim_eqShape : (s.eqShape p x).rim = s.rim := s.rim_modPort p _
@[simp] theorem Dev.view_eqShape (l : List Fld) : (s.eqShape p x).view l = s.view l := rfl

@[simp] theorem Dev.rim_eqPreset : (s.eqPreset p x).rim = s.rim := by simp [Dev.eqPreset]
@[simp] theorem Dev.view_eqPreset (h : famSub adaptFlds l = true) : (s.eqPreset p x).view l = s.view l :=
  Dev.view_mono (by simp (disch := decide) [Dev.eqPreset] : _ = s.view adaptFlds) h

@[simp] theorem Dev.rim_echoFollow (st : Nat) : (s.echoFollow p x st).rim = s.rim := by
  simp [Dev.echoFollow]
@[simp] theorem Dev.view_echoFollow (st : Nat) (h : famSub adaptFlds l = true) : (s.echoFollow p x st).view l = s.view l :=
  Dev.view_mono (by simp (disch := decide) [Dev.echoFollow] : _ = s.view adaptFlds) h

@[simp] theorem Dev.rim_adaptTo (st : Nat) : (s.adaptTo p x st).rim = s.rim := by
  simp [Dev.adaptTo, Dev.freezeRefresh]
@[simp] theorem Dev.view_adaptTo (st : Nat) (h : famSub adaptFlds l = true) : (s.adaptTo p x st).view l = s.view l :=
  Dev.view_mono (by simp (disch := decide) [Dev.adaptTo, Dev.freezeRefresh] : _ = s.view adaptFlds) h

@[simp] theorem Dev.rim_lineClockLost : (s.lineClockLost p).rim = s.rim := Dev.each_keep (fun s l => s.rim_modLane l _) _ s
@[simp] theorem Dev.view_lineClockLost (l : List Fld) : (s.lineClockLost p).view l = s.view l :=
  Dev.view_each (fun s k => s.view_modLane l k _) _ s
@[simp] theorem Dev.rests_lineClockLost : (s.lineClockLost p).rests = s.rests :=
  Dev.each_keep (fun s l => s.rests_modLane l _) _ s

@[simp] theorem Dev.rim_cdrStart : (s.cdrStart p x).rim = s.rim := by
  simp [Dev.cdrStart]
@[simp] theorem Dev.view_cdrStart (h : famSub cdrFlds l = true) : (s.cdrStart p x).view l = s.view l :=
  Dev.view_mono (by simp (disch := decide) [Dev.cdrStart] : _ = s.view cdrFlds) h
end

end Sys2Proof.Machine

/-! A port's search, rest, training and data mode (08 Table 8.3, 09 Table 9.1): the states that it reaches, and what it
leaves alone. -/

namespace Sys2Proof.Machine

-- One theorem at a time: side by side they ask for more memory than a check may have.
set_option Elab.async false

open Reg

/-! ## The end of a link -/

/-- The registers of the mode in force. -/
def modeFlds : List Fld :=
  [LPn_FEC_STATUS_TERM_RX 0, LPn_FEC_STATUS_TERM_TX 0, LPn_EQ_STATUS_DET_ACTIVE 0, LPn_EQ_EVENTS_DET_FORCED 0] ++
  agcFlds ++ adaptFlds ++ cdrFlds ++ calFlds

/-- The registers that the end of a link clears or counts. -/
def dropFlds : List Fld :=
  [LPn_ACQ_STATUS_RESOLVED 0, LPn_ACQ_STATUS_PARTNER_SK 0, LPn_ACQ_STATUS_SUBCH_ON 0, LPn_ACQ_STATUS_PARALLEL 0,
   LPn_ACQ_STATUS_TRAIN_SK 0, LPn_ACQ_STATUS_CAND_CLASS 0, LPn_ACQ_STATUS_CAND_METRIC 0, LPn_ACQ_STATUS_MARKERS 0,
   LPn_AN_PARTNER_PART 0, LPn_AN_PARTNER_REV_MAJ 0, LPn_AN_PARTNER_REV_MIN 0, LPn_AN_PARTNER_PAGE 0,
   LPn_AN_PARTNER_FD200 0, LPn_AN_PARTNER_FD100 0, LPn_AN_PARTNER_FD_PREF 0, LPn_AN_PARTNER_EXT 0,
   LPn_AN_PARTNER_SUBCH 0, LPn_AN_PARTNER_LULL_SK 0, LPn_EQ_STATUS_PRECODE 0, LPn_EQ_STATUS_DET_ACTIVE 0,
   LPn_TX_STATUS_PRECODE_ACT 0, LPn_TX_STATUS_HOST_LOST 0, LPn_FEC_STATUS_FRAME_LOCK 0, LPn_FEC_STATUS_INNER_ON 0,
   LPn_FD_STATUS_ROLE 0, LPn_LINK_STATUS_LULL_KIND 0, LPn_FEC_STATUS_ITER_LIMIT 0, LPn_SLACK_ITER_HELD 0,
   LPn_SLIP_SLIP_COUNT 0, LPn_SLIP_LAST_MARKED 0, LPn_SLIP_LAST_SRC 0, LPn_SLIP_SLIP 0]

section
variable (s : Dev) (p : Port) {l : List Fld}

@[simp] theorem Dev.outer_set (f : Fld) (v : Nat) : (s.set f v).outer = s.outer := rfl
@[simp] theorem Dev.outer_draw : s.draw.outer = s.outer := rfl
@[simp] theorem Dev.outer_modPort (g : PortSt → PortSt) : (s.modPort p g).outer = s.outer :=
  Dev.outer_of_rim (s.rim_modPort p g)
@[simp] theorem Dev.outer_count (c i n : Nat) : (s.count c i n).outer = s.outer := Dev.outer_of_rim (s.rim_count c i n)
@[simp] theorem Dev.outer_log (f : Fld) (v : Nat) (b : List Byte) : (s.log f v b).outer = s.outer :=
  Dev.outer_of_rim (s.rim_log f v b)
@[simp] theorem Dev.outer_iff (b : Bool) (g : Dev → Dev) : (s.iff b g).outer = if b then (g s).outer else s.outer := by
  cases b <;> rfl
@[simp] theorem Dev.outer_ite (c : Prop) [Decidable c] (a b : Dev) :
    (if c then a else b).outer = if c then a.outer else b.outer := apply_ite Dev.outer c a b
@[simp] theorem Dev.outer_agcTo (x : Pair) (st : Nat) : (s.agcTo p x st).outer = s.outer :=
  Dev.outer_of_rim (s.rim_agcTo p x st)
@[simp] theorem Dev.outer_adaptTo (x : Pair) (st : Nat) : (s.adaptTo p x st).outer = s.outer :=
  Dev.outer_of_rim (s.rim_adaptTo p x st)
@[simp] theorem Dev.outer_linkTo (st : Nat) : (s.linkTo p st).outer = s.outer := Dev.outer_of_ungated (s.ungated_linkTo p st)
@[simp] theorem Dev.linkTo_sameOuter (st : Nat) : (s.linkTo p st).SameOuter s := Dev.sameOuter (s.outer_linkTo p st)
@[simp] theorem Dev.outer_calRefresh : (s.calRefresh p).outer = s.outer := Dev.outer_of_rim (s.rim_calRefresh p)
@[simp] theorem Dev.outer_lineClockLost : (s.lineClockLost p).outer = s.outer := Dev.outer_of_rim (s.rim_lineClockLost p)

@[simp] theorem Dev.outer_iterRefresh : (s.iterRefresh p).outer = s.outer := by simp [Dev.iterRefresh]
@[simp] theorem Dev.view_iterRefresh (h : famSub dropFlds l = true) : (s.iterRefresh p).view l = s.view l :=
  Dev.view_mono (by simp (disch := decide) [Dev.iterRefresh] : _ = s.view dropFlds) h

@[simp] theorem Dev.outer_eyeEnd (x : Pair) (st : Nat) : (s.eyeEnd p x st).outer = s.outer := by
  unfold Dev.eyeEnd
  split
  · rfl
  · exact (Dev.outer_wakeOne _ _ _ _).trans ((Dev.outer_of_rim (Dev.rim_putData _ _ _ _)).trans (s.outer_modPort p _))
@[simp] theorem Dev.view_eyeEnd (x : Pair) (st : Nat) (l : List Fld) : (s.eyeEnd p x st).view l = s.view l := by
  unfold Dev.eyeEnd
  split
  · rfl
  · exact (Dev.view_wakeOne _ _ _ _).trans ((Dev.view_putData _ _ _ _).trans (s.view_modPort l p _))

@[simp] theorem Dev.outer_lmcDrop : (s.lmcDrop p).outer = s.outer :=
  (Dev.outer_wakeAll _ _ _ _).trans (s.outer_modPort p _)
@[simp] theorem Dev.view_lmcDrop (l : List Fld) : (s.lmcDrop p).view l = s.view l :=
  (Dev.view_wakeAll _ _ _ _).trans (s.view_modPort l p _)

@[simp] theorem Dev.outer_slipDone (r : SlipRun) : (s.slipDone p r).outer = s.outer := by
  simp [Dev.slipDone, Dev.logPlain, Dev.outer_of_rim (Dev.rim_logRaw _ _ _ _ _)]
@[simp] theorem Dev.view_slipDone (r : SlipRun) (h : famSub dropFlds l = true) : (s.slipDone p r).view l = s.view l :=
  Dev.view_mono (by simp (disch := decide) [Dev.slipDone] : _ = s.view dropFlds) h
@[simp] theorem Dev.outer_slipsEnd : (s.slipsEnd p).outer = s.outer :=
  (Dev.outer_modPort _ p _).trans (Dev.each_keep (fun s r => s.outer_slipDone p r) _ s)
@[simp] theorem Dev.view_slipsEnd (h : famSub dropFlds l = true) : (s.slipsEnd p).view l = s.view l :=
  (Dev.view_modPort l _ p _).trans (Dev.view_each (fun s r => s.view_slipDone p r h) _ s)

theorem Dev.each_nil {α : Type} (s : Dev) (g : Dev → α → Dev) : s.each [] g = s := rfl
theorem Dev.each_cons {α : Type} (s : Dev) (x : α) (xs : List α) (g : Dev → α → Dev) :
    s.each (x :: xs) g = (g s x).each xs g := rfl

theorem Dev.each_sets_outer (fs : List Fld) : (s.each fs fun s f => s.set f 0).outer = s.outer :=
  Dev.each_keep (fun s f => s.outer_set f 0) fs s

@[simp] theorem Dev.outer_dropLink : (s.dropLink p).outer = s.outer := by
  have he : ∀ s : Dev, (s.each bothPairs fun s x => (s.modAdc p x fun a => { a with step := none }).eyeEnd p x stAborted).outer =
      s.outer := fun s => Dev.each_keep (fun s x => (Dev.outer_eyeEnd _ p x _).trans (s.outer_modPort p _)) _ s
  unfold Dev.dropLink
  simp only [Dev.outer_slipsEnd, Dev.outer_iterRefresh, Dev.each_sets_outer, Dev.modLink_eq, Dev.modTx_eq, Dev.modFec_eq,
    Dev.modFd_eq, Dev.modAcq_eq, Dev.outer_modPort, Dev.outer_lmcDrop, he]

@[simp] theorem Dev.view_dropLink (h : famSub dropFlds l = true) : (s.dropLink p).view l = s.view l := by
  have he : ∀ s : Dev, (s.each bothPairs fun s x => (s.modAdc p x fun a => { a with step := none }).eyeEnd p x stAborted).view
      dropFlds = s.view dropFlds := fun s => Dev.view_each (fun s x => (Dev.view_eyeEnd _ p x _ _).trans (s.view_modAdc p x _ _)) _ s
  refine Dev.view_mono (?_ : _ = s.view dropFlds) h
  unfold Dev.dropLink
  simp (disch := decide) only [Dev.view_slipsEnd, Dev.view_iterRefresh, Dev.each_cons, Dev.each_nil,
    Dev.view_set_inst, Dev.modLink_eq, Dev.modTx_eq, Dev.modFec_eq,
    Dev.modFd_eq, Dev.modAcq_eq, Dev.view_modPort, Dev.view_lmcDrop, he]

/-! ## The mode in force -/

@[simp] theorem Dev.outer_termRefresh : (s.termRefresh p).outer = s.outer := rfl
@[simp] theorem Dev.view_termRefresh (h : famSub modeFlds l = true) : (s.termRefresh p).view l = s.view l :=
  Dev.view_mono (by simp (disch := decide) [Dev.termRefresh] : _ = s.view modeFlds) h

/-- A pair takes the shape of a mode that receives on it, or goes off. -/
def Dev.pairMode (s : Dev) (p : Port) (m : Nat) (x : Pair) : Dev :=
  if (rxPairs m).contains x then s.eqShape p x
  else ((s.agcTo p x agcOff).adaptTo p x adOff).flag (LPn_CDR_STATUS_LOCK p x) false

theorem Dev.useMode_eq (m : Nat) : s.useMode p m =
    ((((s.modLink p fun l => { l with mode := m }).termRefresh p).each bothPairs fun s x => s.pairMode p m x).calRefresh p) :=
  rfl

@[simp] theorem Dev.outer_pairMode (m : Nat) (x : Pair) : (s.pairMode p m x).outer = s.outer := by
  simp [Dev.pairMode, Dev.eqShape]
@[simp] theorem Dev.view_pairMode (m : Nat) (x : Pair) (h : famSub modeFlds l = true) :
    (s.pairMode p m x).view l = s.view l :=
  Dev.view_mono (by simp (disch := decide) [Dev.pairMode] : _ = s.view modeFlds) h

@[simp] theorem Dev.outer_useMode (m : Nat) : (s.useMode p m).outer = s.outer := by
  simp [Dev.useMode_eq, Dev.each_pairs]
@[simp] theorem Dev.view_useMode (m : Nat) (h : famSub modeFlds l = true) : (s.useMode p m).view l = s.view l :=
  Dev.view_mono (by simp (disch := decide) [Dev.useMode_eq, Dev.each_pairs] : _ = s.view modeFlds) h

@[simp] theorem Dev.outer_detRefresh (b : Bool) : (s.detRefresh p b).outer = s.outer := by
  simp [Dev.detRefresh, Dev.each_pairs, Dev.putTaps]
@[simp] theorem Dev.view_detRefresh (b : Bool) (h : famSub modeFlds l = true) : (s.detRefresh p b).view l = s.view l :=
  Dev.view_mono (by simp (disch := decide) [Dev.detRefresh, Dev.each_pairs] : _ = s.view modeFlds) h

/-! ## Search, rest and fault -/

/-- A pair's loops start the search. -/
def Dev.pairSearch (s : Dev) (p : Port) (x : Pair) : Dev := ((s.agcTo p x agcFast).adaptTo p x adPreset).cdrStart p x
/-- A pair's loops go off. -/
def Dev.pairOff (s : Dev) (p : Port) (x : Pair) : Dev :=
  (((s.agcTo p x agcOff).adaptTo p x adOff).flag (LPn_CDR_STATUS_LOCK p x) false).calAbandon p x false

@[simp] theorem Dev.view_pairSearch (x : Pair) (h : famSub modeFlds l = true) : (s.pairSearch p x).view l = s.view l :=
  Dev.view_mono (by simp (disch := decide) [Dev.pairSearch] : _ = s.view modeFlds) h
@[simp] theorem Dev.outer_pairOff (x : Pair) : (s.pairOff p x).outer = s.outer := by
  simp [Dev.pairOff, Dev.calAbandon]
@[simp] theorem Dev.view_pairOff (x : Pair) (h : famSub modeFlds l = true) : (s.pairOff p x).view l = s.view l :=
  Dev.view_mono (by simp (disch := decide) [Dev.pairOff, Dev.calAbandon] : _ = s.view modeFlds) h

/-- The registers that entry to search or to rest writes. -/
def searchFlds : List Fld :=
  [LPn_ACQ_STATUS_ACQ_STATE 0, LPn_FD_STATUS_FDS 0] ++ dropFlds ++ modeFlds ++ linkFlds

theorem Dev.toSearch_eq : ∃ t : Dev,
    s.toSearch p = ((t.each (t.rx p) fun s x => s.pairSearch p x).linkTo p lsAcquiring) ∧ t.outer = s.outer ∧
    t.view searchFlds = s.view searchFlds ∧ t.get (LPn_ACQ_STATUS_ACQ_STATE p) = 2 := by
  refine ⟨_, rfl, ?_, ?_, ?_⟩
  · simp
  · simp (disch := decide)
  · simp (disch := decide)

@[simp] theorem Dev.view_toSearch (h : famSub searchFlds l = true) : (s.toSearch p).view l = s.view l := by
  obtain ⟨t, ht, -, hv, -⟩ := s.toSearch_eq p
  refine Dev.view_mono (?_ : _ = s.view searchFlds) h
  have he := Dev.view_each (fun s x => Dev.view_pairSearch s p x (l := searchFlds) (by decide)) (t.rx p) t
  simp (disch := decide) [ht, he, hv]
@[simp] theorem Dev.linkState_toSearch : (s.toSearch p).linkState p = 2 := by
  obtain ⟨t, ht, -⟩ := s.toSearch_eq p
  rw [ht]
  exact Dev.linkState_linkTo _ p (by decide)
@[simp] theorem Dev.acqState_toSearch : (s.toSearch p).acqState p = 2 := by
  obtain ⟨t, ht, -, -, ha⟩ := s.toSearch_eq p
  have he := Dev.view_each (fun s x => Dev.view_pairSearch s p x (l := modeFlds) (by decide)) (t.rx p) t
  rw [ht]
  exact (Dev.get_linkTo_inst _ p _ (by decide)).trans ((Dev.get_inst_of_view he (by decide) p).trans ha)

@[simp low] theorem Dev.get_toSearch_inst {n : Nat} {F : Nat → Fld} {q : Fin n}
    (h : ∀ q : Fin n, (F q).spared searchFlds = true) : (s.toSearch p).get (F q) = s.get (F q) :=
  Dev.get_inst_of_view (s.view_toSearch p (by decide)) h q

@[simp] theorem Dev.outer_portIdle : (s.portIdle p).outer = s.outer := by
  have h : ∀ t : Dev, (t.each bothPairs fun s x => s.pairOff p x).outer = t.outer := fun t =>
    Dev.each_keep (fun s x => s.outer_pairOff p x) _ t
  refine (h _).trans ?_
  simp
@[simp] theorem Dev.view_portIdle (h : famSub searchFlds l = true) : (s.portIdle p).view l = s.view l := by
  refine Dev.view_mono (?_ : _ = s.view searchFlds) h
  have h : ∀ t : Dev, (t.each bothPairs fun s x => s.pairOff p x).view searchFlds = t.view searchFlds := fun t =>
    Dev.view_each (fun s x => s.view_pairOff p x (by decide)) _ t
  refine (h _).trans ?_
  simp (disch := decide)
@[simp] theorem Dev.portIdle_sameOuter : (s.portIdle p).SameOuter s := Dev.sameOuter (s.outer_portIdle p)

/-! ## Link losses -/

/-- MDIO's link bit latched low (13 R445). -/
def Dev.latchLow (s : Dev) (p : Port) : Dev := { s with mdio := { s.mdio with linkLow := s.mdio.linkLow.set p true } }

@[simp] theorem Dev.get_latchLow (f : Fld) : (s.latchLow p).get f = s.get f := rfl
@[simp] theorem Dev.prt_latchLow (q : Port) : (s.latchLow p).prt q = s.prt q := rfl
@[simp] theorem Dev.view_latchLow (l : List Fld) : (s.latchLow p).view l = s.view l := rfl
@[simp] theorem Dev.outer_latchLow : (s.latchLow p).outer = s.outer := rfl

/-- A link loss is noted, and then the port goes to FAULT or searches. -/
theorem Dev.linkLoss_eq (r : Nat) (hs : s.linkState p = 4 ∨ s.linkState p = 5) : ∃ fl : List Nat, s.linkLoss p r =
    let t := ((((((s.inc (LPn_LINK_COUNT_LINK_DOWNS p)).set (LPn_LINK_STATUS_LAST_DOWN p) r).raise (LPn_LINK_EVENTS_LINK_DOWN p) 2
      (pay r)).count 0x39 p).iff (r == 6) fun s => s.flag (LPn_LINK_EVENTS_LULL_LOST p) true).latchLow p).modLink p fun l =>
      { l with flaps := fl }
    if t.on (LPn_LINK_CTRL_FLAP_HOLD p) && decide (max (t.get (LPn_LINK_CTRL_FLAP_LIMIT p)) 1 ≤ fl.length) then
      (t.toFault p 2).log (LPn_LINK_EVENTS_FAULT p) 2 (pay 2)
    else t.toSearch p :=
  ⟨_, if_pos hs⟩

/-- A link loss with no flap limit in force is counted with its reason, and the port searches (09 R316, R321). -/
theorem Dev.linkLoss_searches {s : Dev} {p : Port} {r : Nat} (hs : s.linkState p = 4 ∨ s.linkState p = 5) (hr : r < 8)
    (hf : s.get (LPn_LINK_CTRL_FLAP_HOLD p) = 0) :
    (s.linkLoss p r).get (LPn_LINK_STATUS_LAST_DOWN p) = r ∧ (s.linkLoss p r).get (LPn_LINK_EVENTS_LINK_DOWN p) = 1 ∧
    (r = 6 → (s.linkLoss p r).get (LPn_LINK_EVENTS_LULL_LOST p) = 1) ∧ (s.linkLoss p r).linkState p = 2 := by
  obtain ⟨fl, hl⟩ := s.linkLoss_eq p r hs
  rw [hl]
  have hw : ∀ p : Fin 8, r < 2 ^ (LPn_LINK_STATUS_LAST_DOWN p).width := fun _ =>
    Nat.lt_of_lt_of_le hr (by decide : 8 ≤ 2 ^ 4)
  simp (disch := decide) [hf, Dev.get_set_inst_of_lt _ hw]
  intro h
  simp [h]
/-! ## Full-duplex start-up abandoned, and loss of lock -/

/-- The registers of an abandoned start-up besides those of the search. -/
def abandonFlds : List Fld :=
  [LPn_FD_STATUS_LAST_REASON 0, LPn_FD_EVENTS_ABANDON 0, LPn_FD_COUNT_ABANDONS 0, LPn_FD_EVENTS_FALLBACK 0] ++ searchFlds

/-- An abandoned start-up shows its reason, and the port searches (05 R197). -/
theorem Dev.fdAbandonment_eq {r : Nat} (hr : r < 16) : ∃ t : Dev, s.fdAbandonment p r = t.toSearch p ∧ t.outer = s.outer ∧
    t.view abandonFlds = s.view abandonFlds ∧ t.get (LPn_FD_STATUS_LAST_REASON p) = r ∧
    t.get (LPn_FD_EVENTS_ABANDON p) = 1 := by
  have hw : ∀ p : Fin 8, r < 2 ^ (LPn_FD_STATUS_LAST_REASON p).width := fun _ => hr
  refine ⟨_, rfl, ?_, ?_, ?_, ?_⟩
  · simp [Dev.lmcFrame]
  · simp (disch := decide) [Dev.lmcFrame]
  · simp (disch := decide) [Dev.lmcFrame, Dev.get_set_inst_of_lt _ hw]
  · simp (disch := decide) [Dev.lmcFrame]

theorem Dev.fdAbandonment_abandons {r : Nat} (hr : r < 16) :
    (s.fdAbandonment p r).get (LPn_FD_STATUS_LAST_REASON p) = r ∧ (s.fdAbandonment p r).get (LPn_FD_EVENTS_ABANDON p) = 1 ∧
    (s.fdAbandonment p r).linkState p = 2 := by
  obtain ⟨t, ht, -, -, hl, ha⟩ := s.fdAbandonment_eq p hr
  simp (disch := decide) [ht, hl, ha]

/-- Loss of lock in training is flagged, and the port searches (08 R285). -/
theorem Dev.lockLoss_searches {s : Dev} {p : Port} (h : s.acqState p = 5) :
    (s.lockLoss p).get (LPn_ACQ_EVENTS_LOCK_LOSS p) = 1 ∧ (s.lockLoss p).acqState p = 2 ∧ (s.lockLoss p).linkState p = 2 := by
  simp (disch := decide) [Dev.lockLoss, h]

/-! ## Resolution and training -/

/-- The registers of a resolved mode besides those of the mode in force. -/
def resolveFlds : List Fld :=
  [LPn_ACQ_STATUS_RESOLVED 0, LPn_ACQ_STATUS_TRAIN_SK 0, LPn_FEC_STATUS_INNER_ON 0, LPn_FEC_STATUS_ITER_LIMIT 0,
   LPn_SLACK_ITER_HELD 0] ++ modeFlds ++ hostFlds

@[simp] theorem Dev.outer_laneClockLost (k : Lane) : (s.laneClockLost k).outer = s.outer :=
  Dev.outer_of_rim (s.rim_laneClockLost k)
@[simp] theorem Dev.outer_groupLost : (s.groupLost p).outer = s.outer := Dev.outer_of_rim (s.rim_groupLost p)
@[simp] theorem Dev.outer_modLane (k : Lane) (g : HLane → HLane) : (s.modLane k g).outer = s.outer := rfl

/-- A lane's tests end and it goes to the new rate. -/
def Dev.laneToRate (s : Dev) (rate : Nat) (l : Lane) : Dev :=
  let s := ((s.testsEnd l).set (HLn_STATUS_RATE l) rate).flag (HLn_EVENTS_RATE_CHANGE l) true
  let s := s.modLane l fun h => { h with rateChange := true, warm := none, sweep := none, exitDue := false }
  ((s.set (HLn_STATUS_RXS l) 1).set (HLn_STATUS_TXS l) 1).laneClockLost l

@[simp] theorem Dev.outer_laneToRate (r : Nat) (k : Lane) : (s.laneToRate r k).outer = s.outer := by
  simp [Dev.laneToRate, Dev.testsEnd]
@[simp] theorem Dev.view_laneToRate (r : Nat) (k : Lane) : (s.laneToRate r k).view l = s.view l :=
  Dev.view_mono (by simp (disch := decide) [Dev.laneToRate, Dev.testsEnd] : _ = s.view []) (famSub_nil l)

@[simp] theorem Dev.outer_rateChange (r : Nat) : (s.rateChange p r).outer = s.outer := by
  unfold Dev.rateChange
  dsimp only
  split
  · rfl
  · refine (Dev.outer_log _ _ _ _).trans ?_
    exact (Dev.each_keep (π := Dev.outer) (fun s k => s.outer_laneToRate r k) _ _).trans (s.outer_groupLost p)
@[simp] theorem Dev.view_rateChange (r : Nat) (h : famSub hostFlds l = true) : (s.rateChange p r).view l = s.view l := by
  unfold Dev.rateChange
  dsimp only
  split
  · rfl
  · refine (Dev.view_log _ _ _ _ _).trans ?_
    exact (Dev.view_each (fun s k => s.view_laneToRate r k) _ _).trans (s.view_groupLost p h)

theorem Dev.resolve_eq (m : Nat) (b : Bool) : ∃ t : Dev,
    s.resolve p m b = (match rateOf m (t.prt p).link.lanes with | some r => t.rateChange p r | none => t) ∧
    t.outer = s.outer ∧ t.view resolveFlds = s.view resolveFlds := by
  refine ⟨_, rfl, ?_, ?_⟩
  · simp
  · simp (disch := decide) [Dev.iterRefresh]
@[simp] theorem Dev.view_resolve (m : Nat) (b : Bool) (h : famSub resolveFlds l = true) :
    (s.resolve p m b).view l = s.view l := by
  obtain ⟨t, ht, -, hv⟩ := s.resolve_eq p m b
  refine Dev.view_mono (?_ : _ = s.view resolveFlds) h
  rw [ht]
  split
  · exact (Dev.view_rateChange _ _ _ (by decide)).trans hv
  · exact hv

/-- The registers that entry to training writes. -/
def trainFlds : List Fld := LPn_ACQ_STATUS_ACQ_STATE 0 :: linkFlds

@[simp] theorem Dev.view_toTrain (h : famSub trainFlds l = true) : (s.toTrain p).view l = s.view l :=
  Dev.view_mono (by simp (disch := decide) [Dev.toTrain] : _ = s.view trainFlds) h
@[simp] theorem Dev.acqState_toTrain : (s.toTrain p).acqState p = 5 := by
  simp (disch := decide) [Dev.toTrain, Dev.acqState]

/-! ## Data mode -/

/-- The registers that data mode's start writes. -/
def dataFlds : List Fld :=
  [LPn_ACQ_STATUS_ACQ_STATE 0, LPn_ACQ_STATUS_SUBCH_ON 0, LPn_FD_STATUS_FDS 0, LPn_FD_COUNT_FD_UPS 0, LPn_FD_EVENTS_FD_UP 0,
   LPn_SLACK_ITER_SET 0, LPn_FEC_STATUS_ITER_LIMIT 0, LPn_SLACK_ITER_HELD 0] ++ adaptFlds ++ linkFlds

/-- A port's record without what data mode's start changes. -/
def PortSt.base (q : PortSt) : PortSt :=
  { q.rest with adc := Vector.replicate 2 {}, eq := Vector.replicate 2 {}, echo := Vector.replicate 2 {}, fd := {} }
def Dev.bases (s : Dev) : Vector PortSt 8 := s.port.map PortSt.base

theorem Dev.bases_of_rests {a b : Dev} (h : a.rests = b.rests) : a.bases = b.bases := by
  have := congrArg (Vector.map fun q : PortSt => q.base) h
  have e : ((fun q => q.base) ∘ PortSt.rest) = PortSt.base := by
    funext q
    simp only [Function.comp, PortSt.base, PortSt.rest, Vector.map_map]
    rfl
  simpa only [Dev.rests, Dev.bases, Vector.map_map, e] using this
theorem Dev.bases_modPort {g : PortSt → PortSt} (h : ∀ q, (g q).base = q.base) : (s.modPort p g).bases = s.bases :=
  map_vmod h _ _
@[simp] theorem Dev.bases_set (f : Fld) (v : Nat) : (s.set f v).bases = s.bases := rfl
@[simp] theorem Dev.bases_modEq (x : Pair) (g : Eq → Eq) : (s.modEq p x g).bases = s.bases := s.bases_modPort p fun _ => rfl
@[simp] theorem Dev.bases_modEcho (x : Pair) (g : Echo → Echo) : (s.modEcho p x g).bases = s.bases :=
  s.bases_modPort p fun _ => rfl
@[simp] theorem Dev.bases_modFd (g : Fd → Fd) : (s.modFd p g).bases = s.bases := s.bases_modPort p fun _ => rfl
@[simp] theorem Dev.bases_count (c i n : Nat) : (s.count c i n).bases = s.bases := Dev.bases_of_rests (s.rests_count c i n)
@[simp] theorem Dev.bases_linkTo (st : Nat) : (s.linkTo p st).bases = s.bases := Dev.bases_of_rests (s.rests_linkTo p st)
@[simp] theorem Dev.bases_wakeAll (f : WaitKind → Bool) (st : Nat) (r : WaitKind → Nat) :
    (s.wakeAll f st r).bases = s.bases := Dev.bases_of_rests (s.rests_wakeAll f st r)
@[simp] theorem Dev.bases_hostLossBegin : (s.hostLossBegin p).bases = s.bases :=
  Dev.bases_of_rests (s.rests_hostLossBegin p)
@[simp] theorem Dev.bases_iff (b : Bool) (g : Dev → Dev) : (s.iff b g).bases = if b then (g s).bases else s.bases := by
  cases b <;> rfl
@[simp] theorem Dev.bases_ite (c : Prop) [Decidable c] (a b : Dev) :
    (if c then a else b).bases = if c then a.bases else b.bases := apply_ite Dev.bases c a b

@[simp] theorem Dev.bases_eqPreset (x : Pair) : (s.eqPreset p x).bases = s.bases := by
  simp [Dev.eqPreset, Dev.eqShape, Dev.putTaps, -Dev.modEq_eq]
@[simp] theorem Dev.bases_adaptTo (x : Pair) (st : Nat) : (s.adaptTo p x st).bases = s.bases := by
  simp [Dev.adaptTo, Dev.echoFollow, Dev.freezeRefresh, -Dev.modEq_eq, -Dev.modEcho_eq]

theorem Dev.base_prt {a b : Dev} (h : a.bases = b.bases) (p : Port) : (a.prt p).base = (b.prt p).base := by
  have := congrArg (fun v : Vector PortSt 8 => v.get p) h
  simpa [Dev.bases, Vector.get_eq_getElem, Dev.prt] using this

/-- A pair that receives goes to data mode. -/
def Dev.pairData (s : Dev) (p : Port) (x : Pair) : Dev :=
  let ec := s.get (LPn_FD_STATUS_ECHO p x)
  let s := s.iff (ec == ecCoarse) fun s => s.set (LPn_FD_STATUS_ECHO p x) ecFine
  let s := s.iff (ec == ecFrozen) fun s => s.modEcho p x fun e => { e with frozeFrom := ecFine }
  (s.modEq p x fun e => { e with low := 0, conv := Vector.replicate 4 (0, 0) }).adaptTo p x adFine

@[simp] theorem Dev.view_pairData (x : Pair) (h : famSub adaptFlds l = true) : (s.pairData p x).view l = s.view l :=
  Dev.view_mono (by simp (disch := decide) [Dev.pairData] : _ = s.view adaptFlds) h
@[simp] theorem Dev.bases_pairData (x : Pair) : (s.pairData p x).bases = s.bases := by
  simp [Dev.pairData, -Dev.modEq_eq, -Dev.modEcho_eq]

/-- Full duplex is up. -/
def Dev.fdUp (s : Dev) (p : Port) : Dev :=
  ((s.set (LPn_FD_STATUS_FDS p) 5).inc (LPn_FD_COUNT_FD_UPS p)).flag (LPn_FD_EVENTS_FD_UP p) true

@[simp] theorem Dev.outer_hostLossBegin : (s.hostLossBegin p).outer = s.outer := Dev.outer_of_rim (s.rim_hostLossBegin p)

/-- Data mode begins with the pairs that receive; then the port is UP and the waits for it are over. -/
theorem Dev.enterData_eq : ∃ (t : Dev) (b c : Bool) (g : Dev → Dev),
    s.enterData p = (((((((t.each (t.rx p) fun s x => s.pairData p x).iff b (·.fdUp p)).modFd p fun f => { f with attempts := 0 }).iff
      c g).recentreRx p).linkTo p lsUp).wakeAll (fun w => w == .portUp p || w == .startProbe p) stOk) ∧
    (t.outer = s.outer ∧ t.bases = s.bases ∧ t.view dataFlds = s.view dataFlds ∧ t.get (LPn_ACQ_STATUS_ACQ_STATE p) = 7) ∧
    (∀ s, (g s).outer = s.outer) ∧ (∀ s, (g s).bases = s.bases) ∧ ∀ s, (g s).view hostFlds = s.view hostFlds := by
  unfold Dev.enterData
  refine ⟨_, _, _, _, rfl, ⟨?_, ?_, ?_, ?_⟩, fun s => ?_, fun s => ?_, fun s => ?_⟩
  · simp
  · simp
  · simp (disch := decide)
  · simp (disch := decide)
  · exact (Dev.outer_modPort _ p _).trans (s.outer_hostLossBegin p)
  · exact (Dev.bases_of_rests (Dev.rests_modTx _ p fun _ => rfl)).trans (s.bases_hostLossBegin p)
  · exact (Dev.view_modTx _ _ p _).trans (s.view_hostLossBegin p (by decide))

@[simp] theorem Dev.bases_enterData : (s.enterData p).bases = s.bases := by
  have hb := fun (t : Dev) l => Dev.each_keep (π := Dev.bases) (fun s x => Dev.bases_pairData s p x) l t
  obtain ⟨t, b, c, g, ht, ⟨-, hs, -⟩, -, hg, -⟩ := s.enterData_eq p
  simp [ht, hs, hb, hg, Dev.fdUp, Dev.recentreRx, Dev.iterRefresh, -Dev.modFd_eq]

/-- Data mode's start without the state itself. -/
def afterDataFlds : List Fld := dataFlds.drop 1

theorem Dev.get_wakeAll (f : WaitKind → Bool) (st : Nat) (r : WaitKind → Nat) {n : Nat} {F : Nat → Fld} {q : Fin n}
    (h : ∀ q : Fin n, (F q).spared [] = true) : (s.wakeAll f st r).get (F q) = s.get (F q) :=
  Dev.get_inst_of_view (s.view_wakeAll f st r) h q

@[simp] theorem Dev.acqState_enterData : (s.enterData p).acqState p = 7 := by
  have hv := fun (t : Dev) l => Dev.view_each (fun s x => Dev.view_pairData s p x (l := afterDataFlds) (by decide)) l t
  obtain ⟨t, b, c, g, ht, ⟨-, -, -, ha⟩, -, -, hg⟩ := s.enterData_eq p
  have hg' := fun s => Dev.view_mono (hg s) (by decide : famSub hostFlds afterDataFlds = true)
  have he : (s.enterData p).view afterDataFlds = t.view afterDataFlds := by
    simp (disch := decide) [ht, hv, hg', Dev.fdUp, Dev.recentreRx, Dev.iterRefresh]
  exact (Dev.get_inst_of_view he (by decide) p).trans ha
@[simp] theorem Dev.linkState_enterData : (s.enterData p).linkState p = 4 := by
  obtain ⟨t, b, c, g, ht, -⟩ := s.enterData_eq p
  rw [ht]
  exact (Dev.get_wakeAll _ _ _ _ (by decide)).trans (Dev.linkState_linkTo _ p (by decide))
end

end Sys2Proof.Machine

/-! Derived conditions of a device as a command finds it, and as a descriptor's action phase finds it. -/

namespace Sys2Proof.Machine

-- One theorem at a time: side by side they ask for more memory than a check may have.
set_option Elab.async false

open Reg

section
variable (s : Dev) (p : Port) (x : Pair)
@[simp] theorem Dev.linkState_fresh : s.fresh.linkState p = s.linkState p := rfl
@[simp] theorem Dev.acqState_fresh : s.fresh.acqState p = s.acqState p := rfl
@[simp] theorem Dev.mode_fresh : s.fresh.mode p = s.mode p := rfl
@[simp] theorem Dev.rx_fresh : s.fresh.rx p = s.rx p := rfl
@[simp] theorem Dev.running_fresh : s.fresh.running p = s.running p := rfl
@[simp] theorem Dev.powered_fresh : s.fresh.powered p x = s.powered p x := rfl
@[simp] theorem Dev.coreRuns_fresh : s.fresh.coreRuns = s.coreRuns := rfl
@[simp] theorem Dev.adcOf_fresh : s.fresh.adcOf p x = s.adcOf p x := rfl
@[simp] theorem Dev.eqOf_fresh : s.fresh.eqOf p x = s.eqOf p x := rfl
@[simp] theorem Dev.echoOf_fresh : s.fresh.echoOf p x = s.echoOf p x := rfl
@[simp] theorem Dev.txPairOf_fresh : s.fresh.txPairOf p x = s.txPairOf p x := rfl
@[simp] theorem Dev.waiting_fresh (k : WaitKind) : s.fresh.waiting k = s.waiting k := rfl
@[simp] theorem Dev.lmcUp_fresh : s.fresh.lmcUp p = s.lmcUp p := rfl
@[simp] theorem Dev.quenching_fresh : s.fresh.quenching = s.quenching := rfl
@[simp] theorem Dev.group_fresh : s.fresh.group p = s.group p := rfl
@[simp] theorem Dev.groupOf_fresh (l : Lane) : s.fresh.groupOf l = s.groupOf l := rfl

variable (d : Desc)
@[simp] theorem Dev.linkState_opened : (s.opened d).linkState p = s.linkState p := by
  simp (disch := decide) [Dev.linkState]
@[simp] theorem Dev.acqState_opened : (s.opened d).acqState p = s.acqState p := by
  simp (disch := decide) [Dev.acqState]
@[simp] theorem Dev.mode_opened : (s.opened d).mode p = s.mode p := by simp [Dev.mode]
@[simp] theorem Dev.rx_opened : (s.opened d).rx p = s.rx p := by simp [Dev.rx]
@[simp] theorem Dev.running_opened : (s.opened d).running p = s.running p := by simp [Dev.running]
@[simp] theorem Dev.powered_opened : (s.opened d).powered p x = s.powered p x := by simp [Dev.powered]
@[simp] theorem Dev.coreRuns_opened : (s.opened d).coreRuns = s.coreRuns := by simp [Dev.coreRuns]
@[simp] theorem Dev.adcOf_opened : (s.opened d).adcOf p x = s.adcOf p x := by simp [Dev.adcOf]
@[simp] theorem Dev.eqOf_opened : (s.opened d).eqOf p x = s.eqOf p x := by simp [Dev.eqOf]
@[simp] theorem Dev.waiting_opened (k : WaitKind) : (s.opened d).waiting k = s.waiting k := by simp [Dev.waiting]
@[simp] theorem Dev.quenching_opened : (s.opened d).quenching = s.quenching := by
  simp (disch := decide) [Dev.quenching]
@[simp] theorem Dev.spanBad_opened (n : Nat) (h : (s.ring d.ring).owner = 0) (t : Nat) :
    (s.opened d).spanBad (Desc.stamp d t) n = false := by
  simp [Dev.spanBad, Dev.ownerOf, h]
end

section
variable (s : Dev) (m : Mem) (p : Port) (x : Pair)
@[simp] theorem Dev.linkState_settle : (s.settle m).linkState p = s.linkState p := rfl
@[simp] theorem Dev.acqState_settle : (s.settle m).acqState p = s.acqState p := rfl
@[simp] theorem Dev.mode_settle : (s.settle m).mode p = s.mode p := rfl
@[simp] theorem Dev.adcOf_settle : (s.settle m).adcOf p x = s.adcOf p x := rfl
@[simp] theorem Dev.eqOf_settle : (s.settle m).eqOf p x = s.eqOf p x := rfl
@[simp] theorem Dev.echoOf_settle : (s.settle m).echoOf p x = s.echoOf p x := rfl
@[simp] theorem Dev.txPairOf_settle : (s.settle m).txPairOf p x = s.txPairOf p x := rfl
variable (c : Option (Nat × Nat))
@[simp] theorem Dev.linkState_busyWith : (s.busyWith c).linkState p = s.linkState p := rfl
@[simp] theorem Dev.acqState_busyWith : (s.busyWith c).acqState p = s.acqState p := rfl
@[simp] theorem Dev.mode_busyWith : (s.busyWith c).mode p = s.mode p := rfl
@[simp] theorem Dev.adcOf_busyWith : (s.busyWith c).adcOf p x = s.adcOf p x := rfl
@[simp] theorem Dev.eqOf_busyWith : (s.busyWith c).eqOf p x = s.eqOf p x := rfl
@[simp] theorem Dev.echoOf_busyWith : (s.busyWith c).echoOf p x = s.echoOf p x := rfl
@[simp] theorem Dev.txPairOf_busyWith : (s.busyWith c).txPairOf p x = s.txPairOf p x := rfl
variable (k : WaitKind) (d : Desc)
@[simp] theorem Dev.linkState_park : (s.park k d).linkState p = s.linkState p := rfl
@[simp] theorem Dev.acqState_park : (s.park k d).acqState p = s.acqState p := rfl
@[simp] theorem Dev.mode_park : (s.park k d).mode p = s.mode p := rfl
@[simp] theorem Dev.adcOf_park : (s.park k d).adcOf p x = s.adcOf p x := rfl
@[simp] theorem Dev.powered_park : (s.park k d).powered p x = s.powered p x := rfl
@[simp] theorem Dev.eqOf_park : (s.park k d).eqOf p x = s.eqOf p x := rfl
end

/-! ## Data written at Address, on a ring in host memory -/

/-- On a ring in host memory the data goes to the descriptor's Address there (13 R442). -/
theorem Dev.putData_host {s : Dev} {d : Desc} (h : (s.ring d.ring).owner = 0) (off : Nat) (b : List Byte) :
    s.putData d off b = (if b = [] then s else s.hostWrite (d.address + off) b, .first) := by
  unfold Dev.putData
  split
  · rfl
  · rw [if_pos (show s.ownerOf d = 0 from h)]

theorem Dev.putData_opened {s : Dev} {d : Desc} (h : (s.ring d.ring).owner = 0) (t off : Nat) (b : List Byte) :
    (s.opened d).putData (Desc.stamp d t) off b = ((s.opened d).hostWrite (d.address + off) b, .first) := by
  rw [Dev.putData_host (by simpa using h)]
  split
  next h => rw [h]; rfl
  next => rfl

/-! ## A descriptor that waits alone -/

section
variable {s : Dev} {k : WaitKind} {d : Desc}

theorem Dev.waiting_of_waits {l : List (WaitKind × Desc)} (h : s.waits = (k, d) :: l) : s.waiting k = some d := by
  simp [Dev.waiting, h]

/-- The one descriptor that waits completes, and none waits any more. -/
theorem Dev.wakeOne_alone (h : s.waits = [(k, d)]) (st r : Nat) : (s.wakeOne k st r).waits = [] ∧
    (s.wakeOne k st r).lastCpl = some (d.ring.val, completionOf d st r s.timebase) := by
  unfold Dev.wakeOne
  rw [Dev.waiting_of_waits h]
  simp [h]

theorem Dev.waits_wakeOne (h : s.waits = [(k, d)]) (st r : Nat) : (s.wakeOne k st r).waits = [] :=
  (Dev.wakeOne_alone h st r).1
theorem Dev.completed_wakeOne (h : s.waits = [(k, d)]) (st r : Nat) : (s.wakeOne k st r).Completed d st r :=
  ⟨_, (Dev.wakeOne_alone h st r).2⟩

theorem Dev.wakeOne_of_waiting (h : s.waiting k = some d) (st r : Nat) :
    s.wakeOne k st r = { s with waits := s.waits.eraseP fun w => w.1 == k }.finish d st r := by
  unfold Dev.wakeOne
  rw [h]
end

/-! ## What completions of descriptors that wait leave alone -/

/-- What two devices have in common that differ in their books and in the descriptors that wait. -/
abbrev Dev.KeepsButWaits (a b : Dev) : Prop :=
  a.timebase = b.timebase ∧ a.mem = b.mem ∧ a.msix = b.msix ∧ a.hiLatch = b.hiLatch ∧ a.readData = b.readData ∧
  a.mdio = b.mdio ∧ a.streams = b.streams ∧ a.turn = b.turn ∧ a.admin = b.admin ∧ a.cur = b.cur ∧
  a.chk = b.chk ∧ a.gov = b.gov ∧ a.shed = b.shed ∧ a.lane = b.lane ∧ a.host = b.host ∧ a.loop = b.loop ∧
  a.bceCap = b.bceCap ∧ a.aux = b.aux ∧ a.mon = b.mon ∧ a.thm = b.thm ∧ a.rtc = b.rtc ∧ a.sys = b.sys ∧
  a.jtag = b.jtag ∧ a.hold = b.hold ∧
  (∀ p, (a.prt p).freq = (b.prt p).freq) ∧ (∀ p, (a.prt p).adc = (b.prt p).adc) ∧ (∀ p, (a.prt p).eq = (b.prt p).eq) ∧
  (∀ p, (a.prt p).echo = (b.prt p).echo) ∧ (∀ p, (a.prt p).fd = (b.prt p).fd) ∧ (∀ p, (a.prt p).tx = (b.prt p).tx) ∧
  (∀ p, (a.prt p).fec = (b.prt p).fec) ∧ (∀ p, (a.prt p).acq = (b.prt p).acq) ∧ (∀ p, (a.prt p).lmc = (b.prt p).lmc) ∧
  (∀ p, (a.prt p).link = (b.prt p).link) ∧ (∀ p, (a.prt p).slips = (b.prt p).slips) ∧
  (∀ p, (a.prt p).slipRx = (b.prt p).slipRx) ∧ (∀ p, (a.prt p).slipTx = (b.prt p).slipTx) ∧
  a.pwr.hold = b.pwr.hold ∧ a.pwr.linger = b.pwr.linger ∧ a.pwr.entry = b.pwr.entry ∧ a.pwr.heldWake = b.pwr.heldWake ∧
  a.pwr.again = b.pwr.again ∧ a.pwr.held = b.pwr.held ∧
  a.pwr.retainNs = b.pwr.retainNs ∧ a.pwr.retainAt = b.pwr.retainAt ∧ a.pwr.failed = b.pwr.failed ∧
  a.pwr.dozing = b.pwr.dozing ∧ a.pwr.waking = b.pwr.waking ∧ a.pwr.gated = b.pwr.gated ∧
  a.pwr.entries = b.pwr.entries ∧ a.pwr.refused = b.pwr.refused ∧ a.pwr.aborted = b.pwr.aborted ∧
  a.evr.slot = b.evr.slot ∧ a.evr.newest = b.evr.newest ∧ a.evr.powerFail = b.evr.powerFail ∧ a.evr.clear = b.evr.clear ∧
  a.evr.lifeDue = b.evr.lifeDue

/-- The device without its books, the descriptors that wait, and the last that completed. -/
def Dev.noWaits (s : Dev) : Dev := { s.core with waits := [], lastCpl := none }

theorem Dev.keepsButWaits {a b : Dev} (h : a.noWaits = b.noWaits) : a.KeepsButWaits b := by
  have hp : ∀ p, ({ a.prt p with cap := {} } : PortSt) = { b.prt p with cap := {} } := fun p => by
    rw [← Dev.prt_core, ← Dev.prt_core]
    exact (congrArg (fun d : Dev => d.prt p) h :)
  have hw : a.core.pwr = b.core.pwr := (congrArg Dev.pwr h :)
  have he : a.core.evr = b.core.evr := (congrArg Dev.evr h :)
  exact ⟨(congrArg Dev.timebase h :), (congrArg Dev.mem h :), (congrArg Dev.msix h :), (congrArg Dev.hiLatch h :),
    (congrArg Dev.readData h :), (congrArg Dev.mdio h :), (congrArg Dev.streams h :), (congrArg Dev.turn h :), (congrArg Dev.admin h :),
    (congrArg Dev.cur h :), (congrArg Dev.chk h :), (congrArg Dev.gov h :), (congrArg Dev.shed h :),
    (congrArg Dev.lane h :), (congrArg Dev.host h :), (congrArg Dev.loop h :), (congrArg Dev.bceCap h :), (congrArg Dev.aux h :),
    (congrArg Dev.mon h :), (congrArg Dev.thm h :), (congrArg Dev.rtc h :), (congrArg Dev.sys h :), (congrArg Dev.jtag h :),
    (congrArg Dev.hold h :), fun p => (congrArg PortSt.freq (hp p) :), fun p => (congrArg PortSt.adc (hp p) :),
    fun p => (congrArg PortSt.eq (hp p) :), fun p => (congrArg PortSt.echo (hp p) :), fun p => (congrArg PortSt.fd (hp p) :),
    fun p => (congrArg PortSt.tx (hp p) :), fun p => (congrArg PortSt.fec (hp p) :), fun p => (congrArg PortSt.acq (hp p) :),
    fun p => (congrArg PortSt.lmc (hp p) :), fun p => (congrArg PortSt.link (hp p) :), fun p => (congrArg PortSt.slips (hp p) :),
    fun p => (congrArg PortSt.slipRx (hp p) :), fun p => (congrArg PortSt.slipTx (hp p) :), (congrArg Pwr.hold hw :),
    (congrArg Pwr.linger hw :), (congrArg Pwr.entry hw :), (congrArg Pwr.heldWake hw :), (congrArg Pwr.again hw :),
    (congrArg Pwr.held hw :), (congrArg Pwr.retainNs hw :), (congrArg Pwr.retainAt hw :),
    (congrArg Pwr.failed hw :), (congrArg Pwr.dozing hw :), (congrArg Pwr.waking hw :), (congrArg Pwr.gated hw :), (congrArg Pwr.entries hw :),
    (congrArg Pwr.refused hw :), (congrArg Pwr.aborted hw :), (congrArg Evr.slot he :), (congrArg Evr.newest he :),
    (congrArg Evr.powerFail he :), (congrArg Evr.clear he :), (congrArg Evr.lifeDue he :)⟩

section
variable (s : Dev)
theorem Dev.Like.noWaits {a b : Dev} (h : a.Like b) : a.noWaits = b.noWaits :=
  congrArg (fun d : Dev => ({ d with waits := [], lastCpl := none } : Dev)) h.1
theorem Dev.noWaits_waits (w : List (WaitKind × Desc)) : ({ s with waits := w } : Dev).noWaits = s.noWaits := rfl
theorem Dev.noWaits_lastCpl (c : Option (Nat × Cpl)) : ({ s with lastCpl := c } : Dev).noWaits = s.noWaits := rfl
theorem Dev.noWaits_finish (d : Desc) (st r : Nat) : (s.finish d st r).noWaits = s.noWaits :=
  (s.finish_like d st r).noWaits.trans (s.noWaits_lastCpl _)
theorem Dev.noWaits_wakeOne (k : WaitKind) (st r : Nat) : (s.wakeOne k st r).noWaits = s.noWaits := by
  unfold Dev.wakeOne
  split
  · rfl
  · exact (Dev.noWaits_finish _ _ _ _).trans (s.noWaits_waits _)
theorem Dev.noWaits_wakeAll (f : WaitKind → Bool) (st : Nat) (r : WaitKind → Nat) :
    (s.wakeAll f st r).noWaits = s.noWaits :=
  (Dev.each_keep (π := Dev.noWaits) (fun s _ => s.noWaits_finish _ _ _) _ _).trans (s.noWaits_waits _)
@[simp] theorem Dev.wakeOne_keeps (k : WaitKind) (st r : Nat) : (s.wakeOne k st r).KeepsButWaits s :=
  Dev.keepsButWaits (s.noWaits_wakeOne k st r)
@[simp] theorem Dev.wakeAll_keeps (f : WaitKind → Bool) (st : Nat) (r : WaitKind → Nat) :
    (s.wakeAll f st r).KeepsButWaits s := Dev.keepsButWaits (s.noWaits_wakeAll f st r)

variable {n : Nat} {f : Fld} {F : Nat → Fld} {F2 : Nat → Pair → Fld} {p : Fin n} {x : Pair}

theorem Dev.get_wakeOne_plain (k : WaitKind) (st r : Nat) (h : f.plain) : (s.wakeOne k st r).get f = s.get f := by
  unfold Dev.wakeOne
  split
  · rfl
  · exact Dev.get_finish _ h _ _ _
theorem Dev.get_wakeAll_plain (g : WaitKind → Bool) (st : Nat) (r : WaitKind → Nat) (h : f.plain) :
    (s.wakeAll g st r).get f = s.get f :=
  (Dev.each_keep (π := fun s : Dev => s.get f) (fun s _ => Dev.get_finish s h _ _ _) _ _).trans rfl
@[simp low] theorem Dev.get_wakeOne_fld (k : WaitKind) (st r : Nat) (h : f.isPlain = true) :
    (s.wakeOne k st r).get f = s.get f := s.get_wakeOne_plain k st r (Fld.isPlain_iff.1 h)
@[simp low] theorem Dev.get_wakeAll_fld (g : WaitKind → Bool) (st : Nat) (r : WaitKind → Nat) (h : f.isPlain = true) :
    (s.wakeAll g st r).get f = s.get f := s.get_wakeAll_plain g st r (Fld.isPlain_iff.1 h)
@[simp low] theorem Dev.get_wakeOne_inst (k : WaitKind) (st r : Nat) (h : ∀ p : Fin n, (F p).isPlain = true) :
    (s.wakeOne k st r).get (F p) = s.get (F p) := s.get_wakeOne_plain k st r (Fld.isPlain_iff.1 (h p))
@[simp low] theorem Dev.get_wakeAll_inst (g : WaitKind → Bool) (st : Nat) (r : WaitKind → Nat)
    (h : ∀ p : Fin n, (F p).isPlain = true) : (s.wakeAll g st r).get (F p) = s.get (F p) :=
  s.get_wakeAll_plain g st r (Fld.isPlain_iff.1 (h p))
end

end Sys2Proof.Machine

/-! ADC_CAL and start-up calibration (03 R116–R124). -/

namespace Sys2Proof.Machine

-- One theorem at a time: side by side they ask for more memory than a check may have.
set_option Elab.async false

open Reg

/-- An ADC_CAL that acts and names a pair answers with what its action leaves. -/
theorem answers_of_adcCal {i : Instr} {s : State} {c : Desc} {act : Dev → Desc → Port → Dev} {P : Dev → Prop}
    (h : exec i s = run s fun d => d.adcCal c act) (ha : s.dev.Acts c) (hc : calPairs c ≠ [])
    (hp : P (((act (s.dev.fresh.opened c) (Desc.stamp c s.dev.timebase) (Desc.port c)).busyWith none).settle s.dev.mem)) :
    Answers i s P := by
  refine answers_of_descriptor h ha ?_
  rwa [if_neg (show ¬ calPairs (Desc.stamp c s.dev.timebase) = [] from hc)]

section
variable {s : State} {c : Desc} (ha : s.dev.Acts c) (hc : calPairs c ≠ [])
include ha hc

theorem adcCalStatus_completes :
    Answers (.adcCalStatus c) s fun d => d.Completed c stOk (s.dev.calStatusWord (Desc.port c)) := by
  refine answers_of_adcCal (rfl : _ = execAdcCalStatus c s) ha hc ?_
  simp (disch := decide) [Dev.calStatusWord]

theorem adcCalHold_holds (h0 : 0 < c.bytes 20 2) (h1 : c.bytes 20 2 ≤ 10000)
    (hr : s.dev.get (LPn_ADC_CAL_STATUS_REHOLD_BLOCK (Desc.port c)) = 0) :
    Answers (.adcCalHold c) s fun d => d.Completed c stOk (c.bytes 20 2) ∧
      d.get (LPn_ADC_CAL_STATUS_HOLD_ACTIVE (Desc.port c)) = 1 := by
  refine answers_of_adcCal (rfl : _ = execAdcCalHold c s) ha hc ?_
  simp (disch := decide) [hr, Nat.min_eq_left h1, Nat.ne_of_gt h0, Dev.holdStart]

theorem adcCalRelease_releases :
    Answers (.adcCalRelease c) s fun d => d.Completed c stOk 0 ∧
      d.get (LPn_ADC_CAL_STATUS_HOLD_ACTIVE (Desc.port c)) = 0 := by
  refine answers_of_adcCal (rfl : _ = execAdcCalRelease c s) ha hc ?_
  simp (disch := decide) [Dev.holdEnd]

theorem adcCalTrimDump_completes (hl : c.length = 528 * (calPairs c).length) (ho : (s.dev.ring c.ring).owner = 0) :
    Answers (.adcCalTrimDump c) s fun d => d.Completed c stOk (528 * (calPairs c).length) := by
  refine answers_of_adcCal (rfl : _ = execAdcCalTrimDump c s) ha hc ?_
  have hp : calPairs (Desc.stamp c s.dev.timebase) = calPairs c := rfl
  have hn : 528 * (calPairs c).length ≠ 0 := by simp [hc]
  simp [hp, hl, ho, hc, Dev.putData_opened, statusOf]
end

/-! ## A rotation -/

section
variable (s : Dev) (p : Port) (x : Pair)

/-- A pair's rotation set to go. -/
def Dev.cycleSet (s : Dev) (p : Port) (x : Pair) (n : Nat) : Dev := s.modAdc p x fun a => { a with cycle := some (n, 0, 0) }

theorem Dev.cycle_cycleSet (n : Nat) : ((s.cycleSet p x n).adcOf p x).cycle = some (n, 0, 0) := by
  simp [Dev.cycleSet, Dev.adcOf]
theorem Dev.free_cycleSet (n : Nat) : ((s.cycleSet p x n).adcOf p x).free = (s.adcOf p x).free := by
  simp [Dev.cycleSet, Dev.adcOf]
theorem Dev.calMay_cycleSet (n : Nat) : (s.cycleSet p x n).calMay p x = s.calMay p x := by
  simp [Dev.cycleSet, Dev.calMay, Dev.adcOf, Dev.on, Dev.linkState, Dev.powered, Dev.running, Dev.rx, Dev.mode, Dev.coreRuns]
  rfl
theorem Dev.calMay_park (k : WaitKind) (d : Desc) : (s.park k d).calMay p x = s.calMay p x := rfl
theorem Dev.calMay_opened (d : Desc) : (s.opened d).calMay p x = s.calMay p x := by
  simp (disch := decide) [Dev.calMay, Dev.on]
theorem Dev.cycle_calBegin : ((s.calBegin p x).adcOf p x).cycle = (s.adcOf p x).cycle := by
  unfold Dev.calBegin
  split
  · simp [Dev.adcOf]
  · rfl

/-- A rotation with steps to go is not over. -/
theorem Dev.cycleCheck_of_busy {s : Dev} {p : Port} {x : Pair} {c : Nat × Nat × Nat} (h : (s.adcOf p x).cycle = some c)
    (hc : c.1 ≠ 0) : s.cycleCheck p = s := by
  unfold Dev.cycleCheck
  rw [if_neg]
  simp only [bothPairs, List.filterMap_cons, List.filterMap_nil]
  cases x
  · rw [h]
    simp [hc]
  · rw [h]
    cases (s.adcOf p .a).cycle <;> simp [hc]

/-- A CYCLE of one pair that may calibrate sets it a full rotation to go, and begins the first step (03 R124). -/
theorem adcCalCycle_begins {s : State} {c : Desc} {x : Pair} (ha : s.dev.Acts c) (hx : calPairs c = [x])
    (hl : s.dev.linkState (Desc.port c) = 4) (hh : s.dev.get (LPn_ADC_CAL_STATUS_HOLD_ACTIVE (Desc.port c)) = 0)
    (hw : s.dev.waiting (.adcCycle (Desc.port c)) = none) (hp : s.dev.powered (Desc.port c) x = true)
    (hf : (s.dev.adcOf (Desc.port c) x).free ≠ []) (hm : s.dev.calMay (Desc.port c) x = true)
    (hr : s.dev.rotation (Desc.port c) x ≠ 0) :
    Answers (.adcCalCycle c) s fun d =>
      ((d.adcOf (Desc.port c) x).cycle = some (s.dev.rotation (Desc.port c) x, 0, 0)) ∧
      ((d.adcOf (Desc.port c) x).step.map fun e => e.slice) = some ((s.dev.adcOf (Desc.port c) x).free.headD 0) := by
  refine answers_of_adcCal (rfl : _ = execAdcCalCycle c s) ha (by simp [hx]) ?_
  have hx' : calPairs (Desc.stamp c s.dev.timebase) = [x] := hx
  let t := (s.dev.fresh.opened c).park (.adcCycle (Desc.port c)) (Desc.stamp c s.dev.timebase)
  have hrot : t.rotation (Desc.port c) x = s.dev.rotation (Desc.port c) x := by
    simp (disch := decide) [t, Dev.rotation, Dev.retired]
  have hmay : (t.cycleSet (Desc.port c) x (t.rotation (Desc.port c) x)).calMay (Desc.port c) x = true := by
    rw [Dev.calMay_cycleSet, Dev.calMay_park, Dev.calMay_opened]
    exact hm
  obtain ⟨e, he, hs, -⟩ := Dev.calBegin_of_may hmay
  have hc := (Dev.cycle_calBegin _ (Desc.port c) x).trans (t.cycle_cycleSet (Desc.port c) x (t.rotation (Desc.port c) x))
  have hb := Dev.cycleCheck_of_busy hc (hrot ▸ hr)
  have hn : (t.rotation (Desc.port c) x != 0) = true := by simpa [hrot] using hr
  simp (disch := decide) [hl, hh, hw, hx', hp, hf, Dev.each_cons, Dev.each_nil, -Dev.modAdc_eq, -Option.map_eq_some_iff]
  change ((((t.cycleSet (Desc.port c) x (t.rotation (Desc.port c) x)).iff (t.rotation (Desc.port c) x != 0)
      (·.calBegin (Desc.port c) x)).cycleCheck (Desc.port c)).adcOf (Desc.port c) x).cycle = _ ∧
    ((((t.cycleSet (Desc.port c) x (t.rotation (Desc.port c) x)).iff (t.rotation (Desc.port c) x != 0)
      (·.calBegin (Desc.port c) x)).cycleCheck (Desc.port c)).adcOf (Desc.port c) x).step.map _ = _
  rw [hn, Dev.iff_true, hb, he, hc, hrot, Option.map_some, hs, Dev.free_cycleSet]
  exact ⟨rfl, by simp [t]⟩
end

theorem adcCalRequalify_waits {s : State} {c : Desc} {x : Pair} (ha : s.dev.Acts c) (hx : calPairs c = [x])
    (hr : (s.dev.retired (Desc.port c) x).contains (c.bits 19 6 0) = true) (hl : s.dev.linkState (Desc.port c) = 0) :
    Answers (.adcCalRequalify c) s fun d =>
      d.waits = s.dev.waits ++ [(.adcRequal (Desc.port c), Desc.stamp c s.dev.timebase)] := by
  refine answers_of_adcCal (rfl : _ = execAdcCalRequalify c s) ha (by simp [hx]) ?_
  have hx' : calPairs (Desc.stamp c s.dev.timebase) = [x] := hx
  have hr' : ((s.dev.fresh.opened c).retired (Desc.port c) x).contains (c.bits 19 6 0) = true := by
    simpa (disch := decide) [Dev.retired] using hr
  simp only [stamp_bits, hx', hr']
  simp [hl]

/-- Start-up calibration at a start leads to the search (03 R116, 08 Table 8.3). -/
theorem startupCalDone_searches {s : State} {p : Port} {l : List SliceRun} (h : s.dev.linkState p = 1) :
    Answers (.startupCalDone p l) s fun d => d.linkState p = 2 ∧ d.acqState p = 2 := by
  refine answers_of_run (rfl : _ = execStartupCalDone p l s) ?_
  simp [h]

/-! ## Requalification -/

/-- A slice that passes both times is not suspect, and the free queue is as it was (03 R116). -/
theorem Dev.startupSlice_good {s : Dev} {p : Port} {r : SliceRun} (hr : r.slice < 66)
    (h1 : (calPass ((s.adcOf p r.pair).at r.slice) (s.calPassMeas p r.pass1)).2 = false)
    (h2 : (calPass (calPass ((s.adcOf p r.pair).at r.slice) (s.calPassMeas p r.pass1)).1 (s.calPassMeas p r.pass2)).2 = false) :
    (((s.startupSlice p r).adcOf p r.pair).at r.slice).suspect = false ∧
    ((s.startupSlice p r).adcOf p r.pair).free = (s.adcOf p r.pair).free ∧ (s.startupSlice p r).waits = s.waits := by
  have ha : (s.startupSlice p r).adcOf p r.pair = (s.adcOf p r.pair).mod r.slice fun _ =>
      { (calPass (calPass ((s.adcOf p r.pair).at r.slice) (s.calPassMeas p r.pass1)).1 (s.calPassMeas p r.pass2)).1 with
        age := 0, bad := 0, suspect := false } := by
    unfold Dev.startupSlice
    simp only [h1, h2, Bool.false_eq_true, if_false]
    simp [Dev.adcOf, Dev.add]
  rw [ha, Adc.at_mod _ hr]
  exact ⟨rfl, rfl, by simp [Dev.startupSlice, Dev.add]⟩

theorem startupCalDone_requalifies {s : State} {p : Port} {c : Desc} {r : SliceRun} (hl : s.dev.linkState p = 0)
    (hw : s.dev.waits = [(.adcRequal p, c)]) (hp : r.pair = if c.flag 17 0 then Pair.a else .b) (hs : r.slice = c.bits 19 6 0)
    (hn : r.slice < 66) (h1 : (calPass ((s.dev.adcOf p r.pair).at r.slice) (s.dev.calPassMeas p r.pass1)).2 = false)
    (h2 : (calPass (calPass ((s.dev.adcOf p r.pair).at r.slice) (s.dev.calPassMeas p r.pass1)).1 (s.dev.calPassMeas p
      r.pass2)).2 = false) :
    Answers (.startupCalDone p [r]) s fun d => (d.adcOf p r.pair).free = (s.dev.adcOf p r.pair).free ++ [r.slice] ∧
      d.Completed c stOk 0 ∧ d.waits = [] := by
  refine answers_of_run (rfl : _ = execStartupCalDone p [r] s) ?_
  obtain ⟨hg, hf, hws⟩ := Dev.startupSlice_good (s := s.dev.fresh) hn h1 h2
  have hf' : (((s.dev.fresh.startupSlice p r).prt p).adc.get r.pair.idx).free = ((s.dev.prt p).adc.get r.pair.idx).free := hf
  have hc : s.dev.waiting (.adcCycle p) = none := by simp [Dev.waiting, hw]
  have hq : s.dev.waiting (.adcRequal p) = some c := Dev.waiting_of_waits hw
  simp only [Dev.linkState_fresh, hl, Dev.waiting_fresh, hc, hq]
  simp [← hp, ← hs, hg]
  split <;>
    simp [Dev.adcOf, Dev.cfgChanged, Dev.waits_wakeOne (d := c), Dev.completed_wakeOne (d := c), hws, hw, ← hf']

/-- Settles O10, a clause for each action and each end of start-up calibration. -/
theorem adcCalActions : Obligations.AdcCalActions :=
  ⟨fun _ _ ha hc => adcCalStatus_completes ha hc,
   fun _ _ _ ha hx hl hh hw hp hf hm hr => adcCalCycle_begins ha hx hl hh hw hp hf hm hr,
   fun _ _ ha hc h0 h1 hr => adcCalHold_holds ha hc h0 h1 hr,
   fun _ _ ha hc => adcCalRelease_releases ha hc,
   fun _ _ _ ha hx hr hl => adcCalRequalify_waits ha hx hr hl,
   fun _ _ _ _ hl hw hr h1 h2 => startupCalDone_requalifies hl hw hr.1 hr.2.1 hr.2.2 h1 h2,
   fun _ _ ha hc hl ho => adcCalTrimDump_completes ha hc hl ho,
   fun _ _ _ h => startupCalDone_searches h⟩

end Sys2Proof.Machine

/-! Equaliser, phase loop and link metrics (04 R144–R158). -/

namespace Sys2Proof.Machine

-- One theorem at a time: side by side they ask for more memory than a check may have.
set_option Elab.async false

open Reg

/-! ## Snapshot and recovery -/

/-- A snapshot of a converged pair holds the taps in use, and goes to the coefficient store (04 R144, R150). -/
theorem eqSnapshotTimer_stores {s : State} {p : Port} {x : Pair} (hc : s.dev.get (LPn_EQ_STATUS_CONV p x) = 1)
    (hm : isFd (s.dev.mode p) = false) :
    Answers (.eqSnapshotTimer p x) s fun d => (d.eqOf p x).snap = some (s.dev.eqOf p x).taps ∧ (d.eqOf p x).stored =
      some (s.dev.mode p, (s.dev.prt p).link.eqSet.1, (s.dev.prt p).link.eqSet.2.1, (s.dev.eqOf p x).taps) := by
  refine answers_of_run (rfl : _ = execEqSnapshotTimer p x s) ?_
  have hm' : isFd (s.dev.prt p).link.mode = false := hm
  simp [hc, hm', Dev.snapshot, Dev.storePair, Dev.eqOf, Dev.mode]

/-- What follows the adaptation state writes only these. -/
def afterAdaptFlds : List Fld := adaptFlds.drop 2

/-- With nothing that holds it, a pair's equaliser is in FINE as it moves there (04 Table 4.2). -/
theorem Dev.adaptTo_fine {s : Dev} {p : Port} {x : Pair} (hw : (s.eqOf p x).recoverWait = 0) (hc : s.coreRuns = true)
    (hf : s.get (LPn_EQ_CTRL_SW_FREEZE p) = 0) : (s.adaptTo p x adFine).get (LPn_EQ_STATUS_ADAPT p x) = adFine := by
  have h : ∃ t : Dev, s.adaptTo p x adFine = t ∧ t.view afterAdaptFlds = (s.set (LPn_EQ_STATUS_ADAPT p x) adFine).view afterAdaptFlds := by
    refine ⟨_, rfl, ?_⟩
    simp (disch := decide) [Dev.adaptTo, hw, hc, Dev.frozen, hf, Dev.echoFollow, Dev.freezeRefresh, adFine, adRecover, adPreset]
  obtain ⟨t, ht, hv⟩ := h
  rw [ht, Dev.get_pair_of_view hv (by decide)]
  simp (disch := decide) [adFine]

/-- After a takeover RECOVER ends slow, and the pair is in FINE (04 R146). -/
theorem recoverTimeout_slow {s : State} {p : Port} {x : Pair} (ha : s.dev.get (LPn_EQ_STATUS_ADAPT p x) = adRecover)
    (hr : (s.dev.eqOf p x).recover = 1) (hw : (s.dev.eqOf p x).recoverWait = 0) (hc : s.dev.coreRuns = true)
    (hf : s.dev.get (LPn_EQ_CTRL_SW_FREEZE p) = 0) :
    Answers (.recoverTimeout p x) s fun d => d.get (LPn_EQ_STATUS_ADAPT p x) = adFine ∧
      d.get (LPn_EQ_EVENTS_EQ_SLOW p) = 1 := by
  refine answers_of_run (rfl : _ = execRecoverTimeout p x s) ?_
  have hr' : ((s.dev.prt p).eq.get x.idx).recover = 1 := hr
  have hw' : ((s.dev.prt p).eq.get x.idx).recoverWait = 0 := hw
  let t := s.dev.fresh.modEq p x fun e => { e with recover := 0 }
  have ht := Dev.adaptTo_fine (s := t) (p := p) (x := x) (by simpa [t, Dev.eqOf] using hw') (by simpa [t, Dev.coreRuns] using hc)
    (by simpa [t] using hf)
  simp (disch := decide) [ha, hr', Dev.eqOf]
  exact ht

/-! ## A block -/

/-- What the phase loop of a port on pair B alone goes by: the frequency estimate, the mode, a quiet window, and the pair's
remainder and clamped blocks. -/
def Dev.blockState (s : Dev) (p : Port) : Int × Nat × Bool × Int × Nat :=
  ((s.prt p).freq, (s.prt p).link.mode, (s.prt p).fd.inWin, ((s.prt p).eq.get Pair.b.idx).carry,
    ((s.prt p).eq.get Pair.b.idx).clamps)

/-- What a block writes before the phase loop. -/
def blockFlds : List Fld :=
  [LPn_EQ_COUNT_SKIPPED 0, LPn_EQ_EVENTS_TAP_SAT 0, LPn_CAP_STATUS_BLOCKS 0]

/-- A block's work before the phase loop keeps the loop's state and all registers but a few. -/
def Dev.KeepsLoop (a b : Dev) (p : Port) : Prop := a.blockState p = b.blockState p ∧ a.view blockFlds = b.view blockFlds

section
variable (s : Dev) (p : Port)

theorem Dev.KeepsLoop.refl : s.KeepsLoop s p := ⟨rfl, rfl⟩

variable {s p}

theorem Dev.KeepsLoop.trans {a b c : Dev} (h : a.KeepsLoop b p) (k : b.KeepsLoop c p) : a.KeepsLoop c p :=
  ⟨h.1.trans k.1, h.2.trans k.2⟩

theorem Dev.blockState_of_rests {a b : Dev} (h : a.rests = b.rests) : a.blockState p = b.blockState p := by
  obtain ⟨hf, -, he, -, hd, -, -, -, -, -, -, -, -, -, -, -, -, -, -, -, -, hm, -⟩ := Dev.sameRests h
  simp only [Dev.blockState, hf, he, hd, hm]

theorem Dev.Like.keepsLoop {a b : Dev} (h : a.Like b) : a.KeepsLoop b p :=
  ⟨Dev.blockState_of_rests h.rests, h.view_eq _⟩

theorem Dev.set_keepsLoop {F : Nat → Fld} {v : Nat} (h : ∀ p : Port, (F p).lsb < 32 ∧ (F p).touched blockFlds = true) :
    (s.set (F p) v).KeepsLoop s p := ⟨rfl, Dev.view_set_fld _ _ (h p)⟩

/-- An update of the port's record that leaves the loop's state. -/
theorem Dev.modPort_keepsLoop {g : PortSt → PortSt} (hf : (g (s.prt p)).freq = (s.prt p).freq)
    (hm : (g (s.prt p)).link.mode = (s.prt p).link.mode) (hw : (g (s.prt p)).fd.inWin = (s.prt p).fd.inWin)
    (hc : ((g (s.prt p)).eq.get Pair.b.idx).carry = ((s.prt p).eq.get Pair.b.idx).carry)
    (hl : ((g (s.prt p)).eq.get Pair.b.idx).clamps = ((s.prt p).eq.get Pair.b.idx).clamps) :
    (s.modPort p g).KeepsLoop s p := by
  refine ⟨?_, s.view_modPort _ p g⟩
  simp [Dev.blockState, hf, hm, hw, hc, hl]

/-- An update of a pair's equaliser that leaves the remainder and the clamped blocks. -/
theorem Dev.modEq_keepsLoop {g : Eq → Eq} (x : Pair) (hc : ∀ e, (g e).carry = e.carry) (hl : ∀ e, (g e).clamps = e.clamps) :
    (s.modEq p x g).KeepsLoop s p := by
  cases x
  · exact Dev.modPort_keepsLoop rfl rfl rfl (congrArg Eq.carry (vmod_other _ _ (by decide))) (congrArg Eq.clamps (vmod_other _ _ (by decide)))
  · exact Dev.modPort_keepsLoop rfl rfl rfl ((congrArg Eq.carry (vmod_same _ _ _)).trans (hc _))
      ((congrArg Eq.clamps (vmod_same _ _ _)).trans (hl _))

theorem Dev.each_keepsLoop {α : Type} {g : Dev → α → Dev} (h : ∀ s x, (g s x).KeepsLoop s p) (l : List α) (s : Dev) :
    (s.each l g).KeepsLoop s p :=
  ⟨Dev.each_keep (π := fun d => d.blockState p) (fun s x => (h s x).1) l s, Dev.each_keep (π := Dev.view blockFlds) (fun s x => (h s x).2) l s⟩

theorem Dev.iff_keepsLoop {g : Dev → Dev} (b : Bool) (h : (g s).KeepsLoop s p) : (s.iff b g).KeepsLoop s p := by
  cases b
  · exact .refl s p
  · exact h

theorem Dev.segmentBlock_keepsLoop (x : Pair) (b : Bool) : (s.segmentBlock p x b).KeepsLoop s p := by
  have h (s : Dev) (g : TxPair → TxPair) : (s.modTxPair p x g).KeepsLoop s p := Dev.modPort_keepsLoop rfl rfl rfl rfl rfl
  simp only [Dev.segmentBlock]
  split
  · exact h _ _
  · split
    · exact ((h _ _).trans (h _ _)).trans (Dev.modPort_keepsLoop rfl rfl rfl rfl rfl)
    · exact (h _ _).trans (h _ _)

theorem Dev.txBlock_keepsLoop (x : Pair) : (s.txBlock p x).KeepsLoop s p := by
  simp only [Dev.txBlock]
  split
  · exact Dev.segmentBlock_keepsLoop x _
  · split
    · exact Dev.KeepsLoop.trans (Dev.modPort_keepsLoop rfl rfl rfl rfl rfl) (Dev.segmentBlock_keepsLoop x _)
    · exact .refl s p

theorem Dev.inc_keepsLoop {F : Nat → Fld} (h : ∀ p : Port, (F p).lsb < 32 ∧ (F p).touched blockFlds = true) :
    (s.inc (F p)).KeepsLoop s p := Dev.set_keepsLoop h

theorem Dev.flag_keepsLoop {F : Nat → Fld} {b : Bool} (h : ∀ p : Port, (F p).lsb < 32 ∧ (F p).touched blockFlds = true) :
    (s.flag (F p) b).KeepsLoop s p := Dev.set_keepsLoop h

theorem Dev.adaptBlock_keepsLoop (x : Pair) (cfg : EqCfg) (k : Bool) (hist : List Int) (n : Nat) (done : List Decided) :
    (s.adaptBlock p x cfg k hist n done).KeepsLoop s p := by
  have hs (s : Dev) : (s.inc (LPn_EQ_COUNT_SKIPPED p)).KeepsLoop s p := Dev.inc_keepsLoop (F := LPn_EQ_COUNT_SKIPPED) (by decide)
  have ht (s : Dev) : (s.flag (LPn_EQ_EVENTS_TAP_SAT p) true).KeepsLoop s p :=
    Dev.flag_keepsLoop (F := LPn_EQ_EVENTS_TAP_SAT) (by decide)
  have hc (s : Dev) (c i n : Nat) : (s.count c i n).KeepsLoop s p := (s.count_like c i n).keepsLoop
  unfold Dev.adaptBlock
  extract_lets st
  split
  · exact .refl s p
  · split
    · exact (hc _ _ _ _).trans (hs s)
    · refine Dev.KeepsLoop.trans (Dev.iff_keepsLoop _ ?_) ?_
      · exact (hc _ _ _ _).trans (ht _)
      · exact Dev.modEq_keepsLoop x (fun _ => rfl) fun _ => rfl

theorem Dev.eyeBlock_keepsLoop (x : Pair) (cfg : EqCfg) (l t : List Int) (done : List Decided) :
    (s.eyeBlock p x cfg l t done).KeepsLoop s p := by
  simp only [Dev.eyeBlock]
  split
  · exact Dev.modEq_keepsLoop x (fun _ => rfl) fun _ => rfl
  · split <;> exact Dev.modEq_keepsLoop x (fun _ => rfl) fun _ => rfl

theorem Dev.rxFeed_keepsLoop (x : Pair) (hm : isFd (s.prt p).link.mode = false) (o : List (Int × Bool)) (done : List Decided) :
    (s.rxFeed p x o done).KeepsLoop s p := by
  have hq (s : Dev) (g : Eq → Eq) (hc : ∀ e, (g e).carry = e.carry) (hl : ∀ e, (g e).clamps = e.clamps) :
    (s.modEq p x g).KeepsLoop s p := Dev.modEq_keepsLoop x hc hl
  have hf (s : Dev) (g : Fec → Fec) : (s.modFec p g).KeepsLoop s p := Dev.modPort_keepsLoop rfl rfl rfl rfl rfl
  unfold Dev.rxFeed
  split
  · extract_lets e ys dec bits t
    have ht : t.KeepsLoop s p := hq _ _ (fun _ => rfl) fun _ => rfl
    have htm : isFd (t.mode p) = false := by
      have := congrArg (fun v => v.2.1) ht.1
      exact (congrArg isFd this).trans hm
    split
    · exact (hf _ _).trans ht
    · split
      · exact (Dev.modPort_keepsLoop rfl rfl rfl rfl rfl).trans ht
      · rename_i r u _ _
        have hu : u.KeepsLoop t p := hq _ _ (fun _ => rfl) fun _ => rfl
        have hum : ¬ isFd (u.mode p) = true := by
          have := congrArg (fun v => v.2.1) hu.1
          rw [show u.mode p = t.mode p from this, htm]; decide
        rw [if_neg hum]
        exact ((hf _ _).trans hu).trans ht
  · exact .refl s p

theorem Dev.modCap_keepsLoop (g : Capture → Capture) : (s.modCap p g).KeepsLoop s p := Dev.modPort_keepsLoop rfl rfl rfl rfl rfl

theorem Dev.capStore_keepsLoop (l : List Byte) : (s.capStore p l).KeepsLoop s p := by
  unfold Dev.capStore
  extract_lets c sh st
  split
  · rename_i base m rest t u _
    have hu : u.KeepsLoop s p := by
      refine Dev.KeepsLoop.trans (b := t) (Dev.modCap_keepsLoop _) ?_
      refine Dev.KeepsLoop.trans (Dev.each_keepsLoop (fun s e => ?_) _ _) (Dev.iff_keepsLoop _ ⟨rfl, rfl⟩)
      exact ⟨rfl, Dev.view_putWord _ _ _ _ _⟩
    exact (Dev.set_keepsLoop (F := LPn_CAP_STATUS_BLOCKS) (by decide)).trans hu
  · exact .refl s p

theorem Dev.capBlock_keepsLoop (l : List BlkOut) : (s.capBlock p l).KeepsLoop s p := by
  unfold Dev.capBlock
  extract_lets c st
  split
  · rename_i skip t _ _
    have ht : t.KeepsLoop s p := Dev.modPort_keepsLoop rfl rfl rfl rfl rfl
    split
    · exact ht
    · exact (Dev.each_keepsLoop (fun s e => Dev.capStore_keepsLoop _) _ _).trans ht
  · exact .refl s p

/-- Outside full duplex a block of a pair that adapts leaves the phase loop's state, and its sum is bounded (04 R151). -/
theorem Dev.eqBlock_keepsLoop (x : Pair) (b : Blk) (hm : isFd (s.prt p).link.mode = false)
    (ha : s.get (LPn_EQ_STATUS_ADAPT p x) ≠ adOff) : ∃ (t : Dev) (o : BlkOut), s.eqBlock p x b = (t, some o) ∧
      t.KeepsLoop s p ∧ o.pair = x ∧ -256 ≤ o.sum ∧ o.sum ≤ 256 := by
  unfold Dev.eqBlock
  extract_lets st
  rw [if_neg ha]
  rename_i e blk raws n skip starts xs cfg r0 r done outs llr u t1 t2 t3 t4 t5
  refine ⟨t5, _, rfl, ?_, rfl, ?_⟩
  · have h1 : t1.KeepsLoop s p := Dev.modEq_keepsLoop x (fun _ => rfl) fun _ => rfl
    have h2 : t2.KeepsLoop s p := by
      refine Dev.KeepsLoop.trans (b := t1) (Dev.KeepsLoop.trans (b := t1.draw) (Dev.iff_keepsLoop _ ?_) ⟨rfl, rfl⟩) h1
      exact Dev.modEq_keepsLoop x (fun _ => rfl) fun _ => rfl
    have h3 : t3.KeepsLoop s p := (Dev.adaptBlock_keepsLoop x _ _ _ _ _).trans h2
    have hm3 : isFd (t3.prt p).link.mode = false := (congrArg (fun v => isFd v.2.1) h3.1).trans hm
    have h4 : t4 = t3 := by
      have : t3.mode p = (t3.prt p).link.mode := rfl
      simp [t4, Dev.echoBlock, this, hm3]
    have h4' : t4.KeepsLoop s p := h4 ▸ h3
    have he : (t4.eyeBlock p x cfg b.samples b.tail done).KeepsLoop s p := (Dev.eyeBlock_keepsLoop x _ _ _ _).trans h4'
    exact (Dev.rxFeed_keepsLoop x ((congrArg (fun v => isFd v.2.1) he.1).trans hm) _ _).trans he
  · have hc (a : Int) : -256 ≤ clampInt (-256) 256 a ∧ clampInt (-256) 256 a ≤ 256 := by
      simp only [clampInt]; omega
    exact hc _

/-- The registers of the phases. -/
def phaseFlds : List Fld := [LPn_CDR_STATUS_PHASE 0 .a, LPn_CDR_STATUS_PHASE 0 .b]

/-- A block's step of the phase loop, the loop locked, moves pair B's phase, and leaves the estimate, the mode and the window
(04 R152). -/
theorem Dev.phaseStep_moves (u : Int) (hmv : s.loopMoves p .b = true) (hk : s.get (LPn_CDR_STATUS_LOCK p .b) = 1)
    (hm : isFd (s.prt p).link.mode = false) (hc : ((s.prt p).eq.get Pair.b.idx).clamps = 0) :
    ∃ t, s.phaseStep p .b u = t ∧ t.view phaseFlds = s.view phaseFlds ∧
      (t.get (LPn_CDR_STATUS_PHASE p .b) : Int) = (s.get (LPn_CDR_STATUS_PHASE p .b) + clampInt (-4) 4
        (roundDiv u (2 ^ s.get (LPn_CDR_CTRL_KP_TRACK p)) + ((s.prt p).freq + ((s.prt p).eq.get Pair.b.idx).carry) /
          (40000000 * perSymbol (s.prt p).link.mode : Nat))) % 128 ∧
      (t.prt p).freq = (s.prt p).freq ∧ ((t.prt p).eq.get Pair.b.idx).clamps < 64 := by
  have hon : s.on (LPn_CDR_STATUS_LOCK p .b) = true := by simp [hk]
  unfold Dev.phaseStep
  rw [if_pos hmv]
  extract_lets lock kp e den tot f want lim step t1 t2 t3 ph put
  have hst : step = clampInt (-4) 4 (roundDiv u (2 ^ s.get (LPn_CDR_CTRL_KP_TRACK p)) +
      ((s.prt p).freq + ((s.prt p).eq.get Pair.b.idx).carry) / (40000000 * perSymbol (s.prt p).link.mode : Nat)) := by
    simp only [step, lim, want, kp, show lock = true from hon, if_true]
    rfl
  have hb : ¬ 4 < step.natAbs := by
    rw [hst]; simp only [clampInt]; omega
  have h3 : t3 = t2 := by simp only [t3, decide_eq_false hb, Dev.iff_false]
  have hm3 : isFd (t3.mode p) = false := by
    have : t3.mode p = (s.prt p).link.mode := by simp [h3, t2, t1, Dev.mode]
    rw [this, hm]
  refine ⟨t3, if_neg (by simp [hm3]), ?_, ?_, ?_, ?_⟩
  · simp (disch := decide) [h3, t2, t1]
  · have hlt : (((s.get (LPn_CDR_STATUS_PHASE p .b) : Int) + step) % 128).toNat < 2 ^ 7 := by omega
    have ht : t3.get (LPn_CDR_STATUS_PHASE p .b) = (((s.get (LPn_CDR_STATUS_PHASE p .b) : Int) + step) % 128).toNat := by
      rw [h3]
      exact Dev.get_set_of_lt _ hlt
    rw [ht, ← hst]
    omega
  · simp [h3, t2, t1]
  · simp [h3, t2, t1, hc]
    split <;> omega

/-- A block of pair B alone moves the phase by its sum and the frequency term, and the estimate by its sum (04 R152). -/
theorem Dev.phaseBlock_steps {o : BlkOut} (ho : o.pair = .b) (ha : s.get (LPn_EQ_STATUS_ADAPT p .b) = adFine)
    (hk : s.get (LPn_CDR_STATUS_LOCK p .b) = 1) (hl : s.linkState p = 4) (hm : isFd (s.prt p).link.mode = false)
    (hw : (s.prt p).fd.inWin = false) (hc : ((s.prt p).eq.get Pair.b.idx).clamps = 0) :
    ∃ t, s.phaseBlock p [o] = t ∧
      (t.prt p).freq = clampInt (-262144000) 262144000
        ((s.prt p).freq + roundDiv (o.sum * 65536) (2 ^ s.get (LPn_CDR_CTRL_KI_TRACK p))) ∧
      (t.get (LPn_CDR_STATUS_PHASE p .b) : Int) = (s.get (LPn_CDR_STATUS_PHASE p .b) + clampInt (-4) 4
        (roundDiv o.sum (2 ^ s.get (LPn_CDR_CTRL_KP_TRACK p)) + ((s.prt p).freq + ((s.prt p).eq.get Pair.b.idx).carry) /
          (40000000 * perSymbol (s.prt p).link.mode : Nat))) % 128 := by
  have hmv : s.loopMoves p .b = true := by
    simp [Dev.loopMoves, ha, hl, Dev.ownWindow, hw, adFine, adOff]
  obtain ⟨t, ht, hv, hph, hf, hcl⟩ := Dev.phaseStep_moves o.sum hmv hk hm hc
  have hlt : t.linkState p ≠ 5 := by
    have : t.linkState p = s.linkState p := Dev.get_inst_of_view (F := LPn_LINK_STATUS_LINK_STATE) hv (by decide) p
    omega
  have hkt : t.get (LPn_CDR_STATUS_LOCK p .b) = 1 := by rw [Dev.get_pair_of_view hv (by decide), hk]
  have hki : t.get (LPn_CDR_CTRL_KI_TRACK p) = s.get (LPn_CDR_CTRL_KI_TRACK p) := Dev.get_inst_of_view hv (by decide) p
  refine ⟨_, rfl, ?_⟩
  simp only [Dev.phaseBlock, List.filter_cons, List.filter_nil, ho, hmv, if_true, Dev.each_cons, Dev.each_nil, ht, hlt, if_false,
    beq_self_eq_true, Bool.true_or, List.cons_ne_nil]
  have hno : ¬ 64 ≤ ((t.prt p).eq.get Pair.b.idx).clamps := by omega
  simp (disch := decide) [hkt, hki, hf, Dev.eqOf, hno, hph, sumInt]
end

/-- A block of pair B alone in data mode moves its phase and the port's estimate (04 R151–R153). -/
theorem cdrUpdate_moves {s : State} {p : Port} {k : Blk} (hl : s.dev.linkState p = 4) (hb : s.dev.powered p .b = true)
    (hq : s.dev.acqState p = 7) (hm : isFd (s.dev.mode p) = false) (hw : (s.dev.prt p).fd.inWin = false)
    (ha : s.dev.get (LPn_EQ_STATUS_ADAPT p .b) = adFine) (hk : s.dev.get (LPn_CDR_STATUS_LOCK p .b) = 1)
    (hc : (s.dev.eqOf p .b).clamps = 0) :
    Answers (.cdrUpdate p none (some k)) s fun d => ∃ u : Int, -256 ≤ u ∧ u ≤ 256 ∧ (d.prt p).freq = clampInt
      (-262144000) 262144000 ((s.dev.prt p).freq + roundDiv (u * 65536) (2 ^ s.dev.get (LPn_CDR_CTRL_KI_TRACK p))) ∧
      (d.get (LPn_CDR_STATUS_PHASE p .b) : Int) = (s.dev.get (LPn_CDR_STATUS_PHASE p .b) + clampInt (-4) 4 (roundDiv u (2
      ^ s.dev.get (LPn_CDR_CTRL_KP_TRACK p)) + ((s.dev.prt p).freq + (s.dev.eqOf p .b).carry) / (40000000 * perSymbol
      (s.dev.mode p) : Nat))) % 128 := by
  refine answers_of_run (rfl : _ = execCdrUpdate p none (some k) s) ?_
  let t0 := (s.dev.fresh.each (txPairs (s.dev.mode p)) fun d x => d.txBlock p x)
  have k0 : t0.KeepsLoop s.dev p := Dev.each_keepsLoop (fun _ x => Dev.txBlock_keepsLoop x) _ _
  have hm0 : isFd (t0.prt p).link.mode = false := (congrArg (fun v => isFd v.2.1) k0.1).trans hm
  have ha0 : t0.get (LPn_EQ_STATUS_ADAPT p .b) = adFine := by rw [Dev.get_pair_of_view k0.2 (by decide), ha]
  obtain ⟨t1, o, h1, k1, ho, hlo, hhi⟩ := Dev.eqBlock_keepsLoop .b k hm0 (by rw [ha0]; decide)
  have k2 : (t1.capBlock p [o]).KeepsLoop s.dev p := (Dev.capBlock_keepsLoop _).trans (k1.trans k0)
  have e2 := k2.1
  simp only [Dev.blockState, Prod.mk.injEq] at e2
  obtain ⟨hf2, hm2, hw2, hr2, hc2⟩ := e2
  obtain ⟨t3, h3, hfreq, hph⟩ := Dev.phaseBlock_steps ho (by rw [Dev.get_pair_of_view k2.2 (by decide), ha])
    (by rw [Dev.get_pair_of_view k2.2 (by decide), hk])
    ((Dev.get_inst_of_view (F := LPn_LINK_STATUS_LINK_STATE) k2.2 (by decide) p).trans hl)
    ((congrArg isFd hm2).trans hm) (hw2.trans hw) (hc2.trans hc)
  rw [hf2, Dev.get_inst_of_view k2.2 (by decide)] at hfreq
  rw [hf2, hr2, hm2, Dev.get_inst_of_view k2.2 (by decide), Dev.get_pair_of_view k2.2 (by decide)] at hph
  refine ⟨o.sum, hlo, hhi, ?_⟩
  have hl' : 2 ≤ s.dev.fresh.linkState p ∧ s.dev.fresh.linkState p ≤ 5 := by
    have : s.dev.fresh.linkState p = 4 := hl
    omega
  have hb' : s.dev.fresh.powered p .b = true := hb
  have hq' : s.dev.fresh.acqState p = 7 := hq
  have hli : t0.linesIn p none (some k) = t0 := if_neg (by rw [show t0.mode p = (t0.prt p).link.mode from rfl, hm0]; decide)
  have ht0 : (s.dev.fresh.each (txPairs (s.dev.fresh.mode p)) fun d x => d.txBlock p x).linesIn p none (some k) = t0 := hli
  have htr : (s.dev.fresh.acqState p == 6 || s.dev.fresh.acqState p == 5 && s.dev.fresh.on (LPn_ACQ_STATUS_TRAIN_SK p)) = false := by
    simp [hq']
  simp only [Option.map_none, Option.map_some, Option.toList_none, Option.toList_some, List.nil_append, List.filter_cons,
    hb', if_pos, List.filter_nil, List.foldl_cons, List.foldl_nil, ht0, h1, htr, Bool.false_and, Bool.false_eq_true, if_false,
    List.flatMap_nil, bne_self_eq_false, Dev.iff_false, if_pos hl', h3]
  exact ⟨hfreq, hph⟩

/-! ## Metrics -/

theorem logCode_le (k top num den : Nat) : logCode k top num den ≤ top := by
  have h (l : List Nat) : l.foldr (fun b c => if c + 2 ^ b ≤ top ∧ ratioAtLeast num den (2 * (c + 2 ^ b) - 1 : Nat) (2 * k)
      then c + 2 ^ b else c) 0 ≤ top := by
    induction l with
    | nil => exact Nat.zero_le _
    | cons b l ih =>
      rw [List.foldr_cons]
      split
      · next hc => exact hc.1
      · exact ih
  unfold logCode
  split
  · exact le_refl _
  · exact h _

/-- Where every level of the mode was seen, the mean noise has no free value in it (04 R155). -/
theorem meanNoise_of_seen {nrz : Bool} {w : Vector (Nat × Nat) 4} (free : Nat)
    (h : (levelsOf nrz).all (fun k => (w.toList.getD k (0, 0)).1 != 0) = true) : meanNoise free nrz w = meanNoise 0 nrz w := by
  have hl : (levelsOf nrz).map (levelNoise free w) = (levelsOf nrz).map (levelNoise 0 w) :=
    List.map_congr_left fun k hk => by
      have := List.all_eq_true.1 h k hk
      simp only [bne_iff_ne, ne_eq] at this
      simp only [levelNoise, this, if_false]
  simp only [meanNoise, hl]

/-- A window's figures of pair B shown, and its sums closed (04 R155–R158). -/
def Dev.metricShown (d : Dev) (p : Port) (level : Nat → Nat) (all est meas : Nat) : Dev :=
  let d := (((d.set (LPn_SNR p .b 3) (level 3)).set (LPn_SNR p .b 2) (level 2)).set (LPn_SNR p .b 1) (level 1)).set
    (LPn_SNR p .b 0) (level 0)
  let d := (d.set (LPn_EQ_STATUS_SNR_ALL p .b) all).modEq p .b fun e => { e with metDone := e.met, met := Vector.replicate 4 (0, 0) }
  (d.set (LPn_BER_BER_EST p) est).set (LPn_BER_BER_MEAS p) meas

section
variable {d : Dev} {p : Port} {level : Nat → Nat} {all est meas : Nat}

/-- What the registers and the equaliser's record show then. -/
theorem Dev.metricShown_shows (m : Mem) (h : all < 2 ^ 8) :
    ((d.metricShown p level all est 0).draw.settle m).get (LPn_EQ_STATUS_SNR_ALL p .b) = all ∧
    ((d.metricShown p level all est 0).draw.settle m).get (LPn_BER_BER_MEAS p) = 0 ∧
    (((d.metricShown p level all est 0).draw.settle m).eqOf p .b).metDone = (d.eqOf p .b).met ∧
    (((d.metricShown p level all est 0).draw.settle m).eqOf p .b).met = Vector.replicate 4 (0, 0) := by
  have hw : ∀ p : Fin 8, all < 2 ^ (LPn_EQ_STATUS_SNR_ALL p .a).width ∧ all < 2 ^ (LPn_EQ_STATUS_SNR_ALL p .b).width :=
    fun _ => ⟨h, h⟩
  simp (disch := decide) [Dev.metricShown, Dev.eqOf, Dev.get_set_pair_of_lt _ hw]

end

/-- A metric window of pair B shows its SNR, and starts afresh (04 R155–R158). -/
theorem metricWindowEnd_shows {s : State} {p : Port} (hp : s.dev.powered p .b = true) (hm : isFd (s.dev.mode p) = false)
    (hl : (levelsOf (isNrz (s.dev.mode p))).all (fun k => ((s.dev.eqOf p .b).met.toList.getD k (0, 0)).1 != 0) = true)
    (hi : s.dev.get (LPn_FEC_STATUS_INNER_ON p) = 0) :
    Answers (.metricWindowEnd p) s fun d => d.get (LPn_EQ_STATUS_SNR_ALL p .b) = snrCode (isNrz (s.dev.mode p))
      (meanNoise 0 (isNrz (s.dev.mode p)) (s.dev.eqOf p .b).met) ∧ d.get (LPn_BER_BER_MEAS p) = 0 ∧
      (d.eqOf p .b).metDone = (s.dev.eqOf p .b).met ∧ (d.eqOf p .b).met = Vector.replicate 4 (0, 0) := by
  refine answers_of_run (rfl : _ = execMetricWindowEnd p s) ?_
  have hpairs : (s.dev.fresh.rx p).filter (s.dev.fresh.powered p ·) = [.b] := by
    have hrx : s.dev.fresh.rx p = [.b] := by simp [Dev.rx, rxPairs, hm]
    have hb : s.dev.fresh.powered p .b = true := hp
    rw [hrx, List.filter_cons, if_pos hb, List.filter_nil]
  have hcode (n : Nat × Nat) : snrCode (isNrz (s.dev.mode p)) n < 2 ^ 8 := Nat.lt_succ_of_le (logCode_le _ _ _ _)
  have hn := meanNoise_of_seen (2 * s.dev.draws + Pair.b.idx.val) hl
  have hoff : s.dev.fresh.on (LPn_FEC_STATUS_INNER_ON p) = false := by simp [hi]
  simp only [hpairs, Dev.each_cons, Dev.each_nil, List.cons_ne_nil, if_false, hoff, Bool.false_eq_true]
  generalize logCode 100 0xFFFE _ _ = est
  have hall : snrCode (isNrz (s.dev.fresh.mode p)) (meanNoise (2 * s.dev.fresh.draws + Pair.b.idx.val)
      (isNrz (s.dev.fresh.mode p)) (s.dev.fresh.eqOf p .b).met) =
      snrCode (isNrz (s.dev.mode p)) (meanNoise 0 (isNrz (s.dev.mode p)) (s.dev.eqOf p .b).met) := by
    rw [← hn]; rfl
  rw [hall]
  let level := fun k => if (levelsOf (isNrz (s.dev.fresh.mode p))).contains k then snrCode (isNrz (s.dev.fresh.mode p))
    (levelNoise (2 * s.dev.fresh.draws + Pair.b.idx.val) (s.dev.fresh.eqOf p .b).met k) else 0
  obtain ⟨ha, hb, hc, hd⟩ := Dev.metricShown_shows (d := s.dev.fresh.modFec p fun f => { f with ber := (0, 0) }) (p := p)
    (level := level) (est := est) s.dev.mem
    (hcode (meanNoise 0 (isNrz (s.dev.mode p)) (s.dev.eqOf p .b).met))
  have hmet : ((s.dev.fresh.modFec p fun f => { f with ber := (0, 0) }).eqOf p .b).met = (s.dev.eqOf p .b).met := by simp [Dev.eqOf]
  exact ⟨ha, hb, hc.trans hmet, hd⟩

/-- Settles O11, clause by clause. -/
theorem equaliserAndPhaseLoop : Obligations.EqualiserAndPhaseLoop :=
  ⟨fun _ _ _ => eqSnapshotTimer_stores, fun _ _ _ => recoverTimeout_slow, fun _ _ _ => cdrUpdate_moves,
    fun _ _ => metricWindowEnd_shows⟩

end Sys2Proof.Machine

/-! The calendar clock and the reference clocks (18 R590–R595, 20 R621, R622), and what a wake source leaves alone
(16 R538–R540). -/

namespace Sys2Proof.Machine

-- One theorem at a time: side by side they ask for more memory than a check may have.
set_option Elab.async false

open Reg

/-! ## A record at Address, in host memory -/

/-- A descriptor that answers a record to host memory completes OK. -/
theorem Dev.completed_answer {s : Dev} {c : Desc} (h : (s.ring c.ring).owner = 0) (l : List Byte) (t r : Nat) :
    ((s.opened c).answer (Desc.stamp c t) l r).Completed c stOk r := by
  unfold Dev.answer
  by_cases hl : c.length = 0 <;> simp [hl, Dev.putData_opened h, statusOf]

/-! ## Registers after an update of the device's other parts -/

section
variable {l : List Fld} (s : Dev)
@[simp] theorem Dev.view_modLoop (i : LoopNo) (g : Loop → Loop) : (s.modLoop i g).view l = s.view l := rfl
@[simp] theorem Dev.view_modAux (c : AuxCh) (g : Aux → Aux) : (s.modAux c g).view l = s.view l := rfl
@[simp] theorem Dev.view_modMon (g : Mon → Mon) : (s.modMon g).view l = s.view l := rfl
@[simp] theorem Dev.view_modThm (g : Thm → Thm) : (s.modThm g).view l = s.view l := rfl
@[simp] theorem Dev.view_modEvr (g : Evr → Evr) : (s.modEvr g).view l = s.view l := rfl
@[simp] theorem Dev.view_modShed (g : Shed → Shed) : (s.modShed g).view l = s.view l := rfl
@[simp] theorem Dev.view_modChk (g : Chk → Chk) : (s.modChk g).view l = s.view l := rfl
@[simp] theorem Dev.view_modCtr (g : Ctrs → Ctrs) : (s.modCtr g).view l = s.view l := rfl
end

/-! ## A wake source -/

/-- The registers that a wake source writes, in ENTERING or in RETAIN. -/
def wakeFlds : List Fld :=
  [PWR_STATE_STATE, PWR_STATE_WAKE_STEP, PWR_STATE_LAST_WAKE, PWR_STATE_LAST_PORT, PWR_CORE_COUNT_ABORTED,
   PWR_CORE_LAST_LAST_ABORTER, PWR_EVENTS_ABORTED, PWR_EVENTS_LINK_WAKE]

section
variable (s : Dev) {l : List Fld}

@[simp] theorem Dev.view_entryAbort (n : Nat) (h : famSub wakeFlds l = true) : (s.entryAbort n).view l = s.view l :=
  Dev.view_mono (k := wakeFlds) (by simp (disch := decide) [Dev.entryAbort]) h

@[simp] theorem Dev.view_wakeBegin (code port : Nat) (h : famSub wakeFlds l = true) :
    (s.wakeBegin code port).view l = s.view l :=
  Dev.view_mono (k := wakeFlds) (by simp (disch := decide) [Dev.wakeBegin]) h

@[simp] theorem Dev.view_linkWoke (code port : Nat) (h : famSub wakeFlds l = true) :
    (s.linkWoke code port).view l = s.view l := by
  refine Dev.view_mono (k := wakeFlds) ?_ h
  unfold Dev.linkWoke
  split
  · simp (disch := decide)
  · rfl

@[simp] theorem Dev.view_wakeSource (code port : Nat) (h : famSub wakeFlds l = true) :
    (s.wakeSource code port).view l = s.view l := by
  refine Dev.view_mono (k := wakeFlds) ?_ h
  unfold Dev.wakeSource
  split
  · simp (disch := decide)
  · split
    · simp (disch := decide)
    · split <;> simp (disch := decide)
  · rfl

@[simp] theorem Dev.rtc_entryAbort (n : Nat) : (s.entryAbort n).rtc = s.rtc := by
  simp [Dev.entryAbort]

@[simp] theorem Dev.rtc_linkWoke (code port : Nat) : (s.linkWoke code port).rtc = s.rtc := by
  unfold Dev.linkWoke
  split
  · simp
  · rfl

@[simp] theorem Dev.rtc_wakeSource (code port : Nat) : (s.wakeSource code port).rtc = s.rtc := by
  unfold Dev.wakeSource
  split
  · simp
  · split
    · simp [Dev.wakeBegin]
    · split <;> simp
  · rfl

end

/-! ## The alarm -/

/-- The registers that the alarm writes. -/
def alarmFlds : List Fld := RTC_CTRL_ALARM_EN :: RTC_STATUS_ALARM :: wakeFlds

section
variable (s : Dev) {l : List Fld}

@[simp] theorem Dev.view_alarmCheck (h : famSub alarmFlds l = true) : s.alarmCheck.view l = s.view l := by
  refine Dev.view_mono (k := alarmFlds) ?_ h
  unfold Dev.alarmCheck
  split
  · simp (disch := decide)
  · rfl

theorem Dev.rtc_of_iff {s : Dev} {b : Bool} {g : Dev → Dev} (h : ∀ t, (g t).rtc = t.rtc) : (s.iff b g).rtc = s.rtc := by
  cases b
  · rfl
  · exact h s

@[simp] theorem Dev.rtc_alarmCheck : s.alarmCheck.rtc = s.rtc := by
  unfold Dev.alarmCheck
  split
  · have h (t : Dev) (b : Bool) : (t.iff b (·.wakeSource 4 0)).rtc = t.rtc := Dev.rtc_of_iff fun t => t.rtc_wakeSource 4 0
    simp [h]
  · rfl

end

/-! ## The clock -/

/-- A time put into the calendar, at its start. -/
def Dev.calPut (s : Dev) (c : Cal) : Dev := { s with rtc := { s.rtc with cal := c, sub := 0 } }

section
variable (s : Dev) (c : Cal)
theorem Dev.mk_calPut : ({ s with rtc := { s.rtc with cal := c, sub := 0 } } : Dev) = s.calPut c := rfl
@[simp] theorem Dev.get_calPut (f : Fld) : (s.calPut c).get f = s.get f := rfl
@[simp] theorem Dev.rtc_calPut : (s.calPut c).rtc = { s.rtc with cal := c, sub := 0 } := rfl
end

section
variable {s : State}

/-- A second of the calendar (18 R590, R592). -/
theorem rtcSecond_counts (h : s.dev.get GLB_HW_STATUS_XTAL_OK = 1) :
    Answers .rtcSecond s fun d => d.get RTC_SEC_VALUE = (s.dev.get RTC_SEC_VALUE + 1) % 2 ^ 32 ∧ d.rtc.cal =
      s.dev.rtc.cal.next := by
  refine answers_of_run (rfl : _ = execRtcSecond s) ?_
  have hv (t : Dev) : t.alarmCheck.get RTC_SEC_VALUE = t.get RTC_SEC_VALUE :=
    Dev.get_of_view (t.view_alarmCheck (l := alarmFlds) (by decide)) (by decide)
  simp [h, hv]
  rfl

/-- The correction of the crystal's count (18 R591). -/
theorem rtcCorrection_counts (h : s.dev.get GLB_HW_STATUS_XTAL_OK = 1) :
    Answers .rtcCorrection s fun d => if s.dev.geti RTC_CTRL_CORR < 0 then d.rtc.skip = s.dev.rtc.skip + (s.dev.geti
      RTC_CTRL_CORR).natAbs ∧ d.rtc.sub = s.dev.rtc.sub else d.rtc.sub = s.dev.rtc.sub + (s.dev.geti
      RTC_CTRL_CORR).natAbs ∧ d.rtc.skip = s.dev.rtc.skip := by
  refine answers_of_run (rfl : _ = execRtcCorrection s) ?_
  have hg : s.dev.fresh.geti RTC_CTRL_CORR = s.dev.geti RTC_CTRL_CORR := rfl
  simp only [Dev.on_eq, Dev.get_fresh, h, hg]
  split <;> simp

variable {c : Desc}

/-- A time that exists is set (18 R594, R595). -/
theorem rtcSet_sets (ha : s.dev.Acts c) (hf : c.flag 24 0 = true ∧ c.flag 24 1 = false ∧ c.flag 24 2 = false)
    (he : (calOf c).exists = true) :
    Answers (.rtcSet c) s fun d => d.Completed c stOk ((calOf c).seconds % 2 ^ 32) ∧ d.rtc.cal = calOf c ∧ d.rtc.sub = 0
      ∧ d.get RTC_SEC_VALUE = (calOf c).seconds % 2 ^ 32 ∧ d.get RTC_STATUS_RTC_VALID = 1 := by
  refine answers_of_descriptor (rfl : _ = execRtcSet c s) ha ?_
  obtain ⟨h0, h1, h2⟩ := hf
  have hc : calOf (Desc.stamp c s.dev.timebase) = calOf c := rfl
  have hv (t : Dev) : t.alarmCheck.get RTC_SEC_VALUE = t.get RTC_SEC_VALUE :=
    Dev.get_of_view (t.view_alarmCheck (l := alarmFlds) (by decide)) (by decide)
  have hw (t : Dev) : t.alarmCheck.get RTC_STATUS_RTC_VALID = t.get RTC_STATUS_RTC_VALID :=
    Dev.get_of_view (t.view_alarmCheck (l := alarmFlds) (by decide)) (by decide)
  simp only [stamp_flag, h0, h1, h2, hc, he, Dev.iff_true, Dev.iff_false, Dev.mk_calPut]
  have hsec (n : Nat) : n % 2 ^ RTC_SEC_VALUE.width = n % 4294967296 := rfl
  simp (disch := decide) [hv, hw, hsec]

/-- The clock's record, to host memory (18 R595). -/
theorem rtcGet_answers (ha : s.dev.Acts c) (hl : c.length = 16) (ho : (s.dev.ring c.ring).owner = 0) :
    Answers (.rtcGet c) s fun d => d.Completed c stOk (s.dev.get RTC_SEC_VALUE) := by
  refine answers_of_descriptor (rfl : _ = execRtcGet c s) ha ?_
  have hb := Dev.spanBad_opened (s := s.dev.fresh) (d := c) 16 ho s.dev.timebase
  have hr := Dev.completed_answer (s := s.dev.fresh) ho ((s.dev.fresh.opened c).clockRecord) s.dev.timebase (s.dev.get RTC_SEC_VALUE)
  simp (disch := decide) [hl, hb, hr]

/-! ## The crystal and the reference clocks -/

theorem xtalStopped_stops : Answers .xtalStopped s fun d => d.get GLB_HW_STATUS_XTAL_OK = 0 ∧
    d.get GLB_HW_EVENTS_XTAL_STOPPED = 1 ∧ d.get RTC_STATUS_RTC_VALID = 0 ∧ d.get RTC_SEC_VALUE = s.dev.get RTC_SEC_VALUE := by
  refine answers_of_run (rfl : _ = execXtalStopped s) ?_
  simp (disch := decide)

theorem xtalRestart_starts : Answers .xtalRestart s fun d => d.get GLB_HW_STATUS_XTAL_OK = 1 ∧
    d.get RTC_STATUS_RTC_VALID = s.dev.get RTC_STATUS_RTC_VALID := by
  refine answers_of_run (rfl : _ = execXtalRestart s) ?_
  simp (disch := decide)

/-- What holds shows: whether any reference's PLLs do. -/
theorem Dev.get_setHold (d : Dev) (x : RefClk) (h : Option Bool) :
    (d.setHold x h).get GLB_HW_STATUS_PLL_HOLD = bnat ((d.hold.set (refIdx x) h).any Option.isSome) := by
  rw [← Vector.any_toList]
  unfold Dev.setHold
  exact Dev.get_set_fld_bnat _ (by decide)

theorem Dev.hold_setHold (d : Dev) (x : RefClk) (h : Option Bool) : (d.setHold x h).hold.get (refIdx x) = h := by
  change (d.hold.set (refIdx x) h).get (refIdx x) = h
  simp [Vector.get_eq_getElem]

theorem Dev.get_setHold_fld (d : Dev) (x : RefClk) (h : Option Bool) {f : Fld} (hf : GLB_HW_STATUS_PLL_HOLD.key ≠ f.key) :
    (d.setHold x h).get f = d.get f := (Dev.get_set_ne _ _ hf).trans rfl

/-- One reference that holds is enough. -/
theorem any_hold (v : Vector (Option Bool) 2) (i : Fin 2) (b : Bool) : (v.set i (some b)).any Option.isSome = true := by
  rw [← Vector.any_toList]
  refine List.any_eq_true.2 ⟨some b, Vector.mem_toList_iff.2 ?_, rfl⟩
  have h := Vector.getElem_mem (xs := v.set i (some b)) i.isLt
  rwa [Vector.getElem_set_self] at h

variable {x : RefClk}

theorem refclkLost_holds (hp : s.dev.get PWR_STATE_STATE = 0) (hr : s.dev.get (refOk x) = 1) :
    Answers (.refclkLost x) s fun d => d.get (refOk x) = 0 ∧ d.get (refLock x) = 0 ∧ d.get GLB_HW_STATUS_PLL_HOLD = 1 ∧
      d.hold.get (refIdx x) = some false := by
  refine answers_of_run (rfl : _ = execRefclkLost x s) ?_
  have hh (d : Dev) := d.hold_setHold x (some false)
  cases x <;> simp only [refOk] at hr <;>
    simp (disch := decide) [hp, hr, Dev.get_setHold_fld, Dev.get_setHold, any_hold, refOk, refLock, hh]

theorem refclkHoldAged_ages (hh : s.dev.hold.get (refIdx x) = some false) :
    Answers (.refclkHoldAged x) s fun d => d.hold.get (refIdx x) = some true ∧ d.get GLB_HW_STATUS_PLL_HOLD = 1 := by
  refine answers_of_run (rfl : _ = execRefclkHoldAged x s) ?_
  have h' : s.dev.fresh.hold.get (refIdx x) = some false := hh
  rw [if_pos h']
  exact ⟨Dev.hold_setHold .., (Dev.get_setHold ..).trans (congrArg bnat (any_hold ..))⟩

theorem refclkReturn_returns :
    Answers (.refclkReturn x) s fun d => d.get (refOk x) = 1 ∧ d.get (refLock x) = 1 ∧ d.hold.get (refIdx x) = none := by
  refine answers_of_run (rfl : _ = execRefclkReturn x s) ?_
  have hh (d : Dev) := d.hold_setHold x none
  cases x <;> simp (disch := decide) [Dev.get_setHold_fld, refOk, refLock, hh]
end

/-- Settles O41, a clause for each command of the clocks. -/
theorem calendarAndClocks : Obligations.CalendarAndClocks :=
  ⟨fun _ => rtcSecond_counts, fun _ => rtcCorrection_counts, fun _ _ => rtcSet_sets, fun _ _ => rtcGet_answers,
    fun _ => xtalStopped_stops, fun _ => xtalRestart_starts, fun _ _ => refclkLost_holds, fun _ _ => refclkHoldAged_ages,
    fun _ _ => refclkReturn_returns⟩

end Sys2Proof.Machine

/-! Entry to RETAIN and the wake sequence (16 R536–R546, Tables 16.3, 16.5). -/

namespace Sys2Proof.Machine

-- One theorem at a time: side by side they ask for more memory than a check may have.
set_option Elab.async false

open Reg

/-! ## Entry -/

section
variable {s : State}

theorem Dev.powerSync_of_no_votes {d : Dev} (h : d.votes = 0) : d.powerSync = d := by
  simp [Dev.powerSync, h]

theorem retainEntryBegin_enters (hp : s.dev.get PWR_STATE_STATE = 0) (hv : s.dev.votes = 0) :
    Answers .retainEntryBegin s fun d => d.get PWR_STATE_STATE = 1 ∧ d.pwr.entry = 2 := by
  refine answers_of_run (rfl : _ = execRetainEntryBegin s) ?_
  have hv' : s.dev.fresh.votes = 0 := hv
  simp (disch := decide) [hp, hv']

/-- The image of a port is written to its coefficient store alone. -/
theorem Dev.saveImage_onlyMem (s : Dev) (p : Port) : (s.saveImage p).regs = s.regs ∧ (s.saveImage p).pwr = s.pwr := by
  have hr (t : Dev) (w : MemWrite) : (t.write w).regs = t.regs := rfl
  have hp (t : Dev) (w : MemWrite) : (t.write w).pwr = t.pwr := rfl
  unfold Dev.saveImage
  exact ⟨Dev.each_keep (π := Dev.regs) (fun t _ => hr t _) _ s, Dev.each_keep (π := Dev.pwr) (fun t _ => hp t _) _ s⟩

theorem Dev.saveImages_onlyMem (s : Dev) (l : List Port) :
    (s.each l (·.saveImage ·)).regs = s.regs ∧ (s.each l (·.saveImage ·)).pwr = s.pwr :=
  ⟨Dev.each_keep (π := Dev.regs) (fun s p => (s.saveImage_onlyMem p).1) l s,
    Dev.each_keep (π := Dev.pwr) (fun s p => (s.saveImage_onlyMem p).2) l s⟩

theorem retainSaveDone_signs (hp : s.dev.get PWR_STATE_STATE = 1) (hv : s.dev.votes = 0) (he : s.dev.pwr.entry = 2) :
    Answers .retainSaveDone s fun d => d.get PWR_STATE_STATE = 1 ∧ d.pwr.entry = 3 ∧ d.chk.sigBusy = true := by
  refine answers_of_run (rfl : _ = execRetainSaveDone s) ?_
  have hs : s.dev.fresh.powerSync = s.dev.fresh := Dev.powerSync_of_no_votes hv
  obtain ⟨hr, hw⟩ := s.dev.fresh.saveImages_onlyMem (allPorts.filter fun p => !s.dev.fresh.inDoze p)
  have hg := Dev.get_eq hr PWR_STATE_STATE
  have he' : s.dev.fresh.pwr.entry = 2 := he
  rw [hs, if_pos ⟨hp, he'⟩]
  simp [hg, hp]

/-- A vote aborts the entry (16 R538). -/
theorem Dev.entryAbort_aborts (d : Dev) (n : Nat) (hn : n < 2 ^ 5) : (d.entryAbort n).get PWR_STATE_STATE = 0 ∧
    (d.entryAbort n).pwr.entry = 0 ∧ (d.entryAbort n).get PWR_EVENTS_ABORTED = 1 ∧
    (d.entryAbort n).get PWR_CORE_LAST_LAST_ABORTER = n := by
  have hw : n < 2 ^ PWR_CORE_LAST_LAST_ABORTER.width := hn
  simp (disch := decide) [Dev.entryAbort, Nat.mod_eq_of_lt hw]

theorem lowClient_lt (m n : Nat) (hn : n < 32) : lowClient m n < 2 ^ 5 := by
  unfold lowClient
  cases h : (List.range 16).find? (bitOf m) with
  | none => exact hn
  | some k =>
    have := List.mem_range.1 (List.mem_of_find?_eq_some h)
    show k < 2 ^ 5
    omega

theorem retainSaveDone_aborts (hp : s.dev.get PWR_STATE_STATE = 1) (hv : s.dev.votes ≠ 0) :
    Answers .retainSaveDone s fun d => d.get PWR_STATE_STATE = 0 ∧ d.pwr.entry = 0 ∧ d.get PWR_EVENTS_ABORTED = 1 ∧ d.get
      PWR_CORE_LAST_LAST_ABORTER = lowClient s.dev.votes 16 := by
  refine answers_of_run (rfl : _ = execRetainSaveDone s) ?_
  have hs : s.dev.fresh.powerSync = s.dev.fresh.entryAbort (lowClient s.dev.votes 16) := if_pos ⟨hp, hv⟩
  obtain ⟨h0, h1, h2, h3⟩ := s.dev.fresh.entryAbort_aborts _ (lowClient_lt s.dev.votes 16 (by decide))
  rw [hs, if_neg fun h => by rw [h0] at h; exact absurd h.1 (by decide)]
  exact ⟨h0, h1, h2, h3⟩

theorem retainPowerDownDone_ends (hp : s.dev.get PWR_STATE_STATE = 2) (he : s.dev.pwr.entry = 4) (hw : s.dev.pwr.heldWake = none) :
    Answers .retainPowerDownDone s fun d => d.get PWR_STATE_STATE = 2 ∧ d.pwr.entry = 0 ∧ d.get PWR_GOV_STATUS_VCMD = 0 := by
  refine answers_of_run (rfl : _ = execRetainPowerDownDone s) ?_
  simp (disch := decide) [hp, he, hw]

/-- What the commit leaves (16 R550). -/
theorem Dev.retained (t : Dev) {m : Mem} (g : Pwr → Pwr) (hg : ∀ w, (g w).entry = 4) :
    ((((t.set PWR_STATE_STATE 2).flag PWR_EVENTS_ENTERED true).inc PWR_CORE_COUNT_ENTRIES).modPwr g |>.settle m).get PWR_STATE_STATE = 2 ∧
    ((((t.set PWR_STATE_STATE 2).flag PWR_EVENTS_ENTERED true).inc PWR_CORE_COUNT_ENTRIES).modPwr g |>.settle m).pwr.entry = 4 ∧
    ((((t.set PWR_STATE_STATE 2).flag PWR_EVENTS_ENTERED true).inc PWR_CORE_COUNT_ENTRIES).modPwr g |>.settle m).get PWR_EVENTS_ENTERED = 1 := by
  simp (disch := decide) [hg]

theorem retainSignaturesDone_retains (hp : s.dev.get PWR_STATE_STATE = 1) (hv : s.dev.votes = 0) (he : s.dev.pwr.entry = 3) :
    Answers .retainSignaturesDone s fun d => d.get PWR_STATE_STATE = 2 ∧ d.pwr.entry = 4 ∧ d.get PWR_EVENTS_ENTERED = 1 := by
  refine answers_of_run (rfl : _ = execRetainSignaturesDone s) ?_
  have hs : s.dev.fresh.powerSync = s.dev.fresh := Dev.powerSync_of_no_votes hv
  have he' : s.dev.fresh.pwr.entry = 3 := he
  rw [hs, if_pos ⟨hp, he'⟩]
  exact Dev.retained _ _ fun _ => rfl

/-! ## Wake -/

/-- A wake source in RETAIN, with no entry under way, starts the wake sequence. -/
theorem Dev.wakeSource_begins {d : Dev} (hp : d.get PWR_STATE_STATE = 2) (he : d.pwr.entry = 0) {code port : Nat} (hc : code < 8)
    (hq : port < 8) : (d.wakeSource code port).get PWR_STATE_STATE = 3 ∧ (d.wakeSource code port).get PWR_STATE_WAKE_STEP = 1 ∧
    (d.wakeSource code port).get PWR_STATE_LAST_WAKE = code ∧ (d.wakeSource code port).get PWR_STATE_LAST_PORT = port := by
  have hwc : code < 2 ^ PWR_STATE_LAST_WAKE.width := hc
  have hwq : port < 2 ^ PWR_STATE_LAST_PORT.width := hq
  have hw : d.wakeSource code port = (d.wakeBegin code port).linkWoke code port := by
    simp [Dev.wakeSource, hp, he]
  rw [hw]
  unfold Dev.linkWoke
  split <;> simp (disch := decide) [Dev.wakeBegin, Nat.mod_eq_of_lt hwc, Nat.mod_eq_of_lt hwq]

/-! ### A port leaves DOZE -/

/-- The registers of a port's doze request. -/
def dozeFlds : List Fld := [PWR_DOZE_REQ, PWR_DOZE_SHED, PWR_DOZE_STARTED]

@[simp] theorem Dev.view_setDozing (d : Dev) (l : List Fld) (p : Port) (b : Bool) : (d.setDozing p b).view l = d.view l := rfl
@[simp] theorem Dev.view_setWaking (d : Dev) (l : List Fld) (p : Port) (b : Bool) : (d.setWaking p b).view l = d.view l := rfl

@[simp] theorem Dev.view_dozeCut (d : Dev) (l : List Fld) (p : Port) (n : Nat) : (d.dozeCut p n).view l = d.view l := by
  simp [Dev.dozeCut]

@[simp] theorem Dev.view_dozeWake (d : Dev) {l : List Fld} (p : Port) (n : Nat) (h : famSub dozeFlds l = true) :
    (d.dozeWake p n).view l = d.view l := by
  refine Dev.view_mono (k := dozeFlds) ?_ h
  unfold Dev.dozeWake
  simp only
  split
  · simp (disch := decide)
  · split <;> simp (disch := decide)

theorem linkWakeDetect_wakes {p : Port} (hp : s.dev.get PWR_STATE_STATE = 2) (he : s.dev.pwr.entry = 0)
    (hl : s.dev.getBit PWR_WAKE_EN_LINK_EN p = true) :
    Answers (.linkWakeDetect p) s fun d => d.get PWR_STATE_STATE = 3 ∧ d.get PWR_STATE_WAKE_STEP = 1 ∧ d.get
      PWR_STATE_LAST_WAKE = 1 ∧ d.get PWR_STATE_LAST_PORT = p.val := by
  refine answers_of_run (rfl : _ = execLinkWakeDetect p s) ?_
  have hl' : s.dev.fresh.getBit PWR_WAKE_EN_LINK_EN p = true := hl
  have he' : s.dev.fresh.pwr.entry = 0 := he
  obtain ⟨h0, h1, h2, h3⟩ := Dev.wakeSource_begins (d := s.dev.fresh) hp he' (code := 1) (by decide) p.isLt
  rw [if_pos hl']
  have hv (b : Bool) (t : Dev) : (t.iff b (·.dozeWake p 0)).view dozeFlds = t.view dozeFlds := by
    simp (disch := decide)
  have hg (b : Bool) (t : Dev) (f : Fld) (hf : f.spared dozeFlds = true) : (t.iff b (·.dozeWake p 0)).get f = t.get f :=
    Dev.get_of_view (hv b t) hf
  simp (disch := decide) only [Dev.get_settle, hg, h0, h1, h2, h3, and_self]

/-! ### Steps -/

section
variable (d : Dev)

theorem Dev.wakeStep_iff (n : Nat) : d.wakeStep n = true ↔ d.get PWR_STATE_STATE = 3 ∧ d.get PWR_STATE_WAKE_STEP = n := by
  simp [Dev.wakeStep]

/-- The registers that the governor's demand writes. -/
def demandFlds : List Fld := [PWR_GOV_STATUS_VDEMAND, PWR_GOV_STATUS_OVER_SWMAX, PWR_GOV_EVENTS_SW_MAX_EXCEEDED]

@[simp] theorem Dev.view_govDemand {l : List Fld} (n : Nat) (h : famSub demandFlds l = true) : (d.govDemand n).view l = d.view l :=
  Dev.view_mono (k := demandFlds) (by simp (disch := decide) [Dev.govDemand, Dev.govMaxCheck]) h

@[simp] theorem Dev.view_govStart {l : List Fld} (h : famSub demandFlds l = true) : d.govStart.view l = d.view l :=
  Dev.view_mono (k := demandFlds) (by simp (disch := decide) [Dev.govStart, Dev.avsIssue]) h

/-- A step that is ready goes on to the next. -/
theorem Dev.get_stepReady {n : Nat} (h : n < 8) : (d.stepReady n).get PWR_STATE_WAKE_STEP = n := by
  have hw : n < 2 ^ PWR_STATE_WAKE_STEP.width := h
  simp (disch := decide) [Dev.stepReady, Nat.mod_eq_of_lt hw]

end

theorem vddCoreReady_steps (h : s.dev.wakeStep 1 = true) :
    Answers .vddCoreReady s fun d => d.get PWR_STATE_WAKE_STEP = 2 ∧ (s.dev.get PWR_GOV_STATUS_VCMD = 0 → d.get
      PWR_GOV_STATUS_VCMD = min (s.dev.get PWR_GOV_CTRL_VSTART) 50) := by
  refine answers_of_run (rfl : _ = execVddCoreReady s) ?_
  have h' : s.dev.fresh.wakeStep 1 = true := h
  have hm : min (s.dev.get PWR_GOV_CTRL_VSTART) 50 < 2 ^ PWR_GOV_STATUS_VCMD.width := by
    have : 2 ^ PWR_GOV_STATUS_VCMD.width = 64 := by decide
    omega
  have hv (t : Dev) : t.govStart.view demandFlds = t.view demandFlds := t.view_govStart (by decide)
  have hg (t : Dev) (f : Fld) (hf : f.spared demandFlds = true) : t.govStart.get f = t.get f := Dev.get_of_view (hv t) hf
  rw [if_pos h']
  have h2 (t : Dev) : (t.stepReady 2).get PWR_STATE_WAKE_STEP = 2 := t.get_stepReady (by decide)
  simp (disch := decide) [hg, h2, Nat.mod_eq_of_lt hm]

theorem pllReady_steps (h : s.dev.wakeStep 2 = true) : Answers .pllReady s fun d => d.get PWR_STATE_WAKE_STEP = 3 := by
  refine answers_of_run (rfl : _ = execPllReady s) ?_
  have h' : s.dev.fresh.wakeStep 2 = true := h
  have h3 (t : Dev) : (t.stepReady 3).get PWR_STATE_WAKE_STEP = 3 := t.get_stepReady (by decide)
  rw [if_pos h', Dev.get_settle]
  exact h3 _

theorem memReady_steps (l : List Upset) (h : s.dev.wakeStep 3 = true) :
    Answers (.memReady l) s fun d => d.get PWR_STATE_WAKE_STEP = 4 := by
  refine answers_of_run (rfl : _ = execMemReady l s) ?_
  have h' : s.dev.fresh.wakeStep 3 = true := h
  rw [if_pos h', Dev.get_settle]
  exact Dev.get_set_of_lt _ (by decide)

theorem wakeStepTimeout_repeats (h : s.dev.wakeStep 1 = true ∨ s.dev.wakeStep 2 = true) (ha : s.dev.pwr.again = false) :
    Answers .wakeStepTimeout s fun d => d.pwr.again = true ∧ d.get PWR_STATE_STATE = 3 := by
  refine answers_of_run (rfl : _ = execWakeStepTimeout s) ?_
  simp only [Dev.wakeStep_iff] at h
  rcases h with ⟨h3, hn⟩ | ⟨h3, hn⟩ <;> simp [h3, hn, ha]

theorem wakeStepTimeout_faults {k : Nat} (h : s.dev.wakeStep k = true) (hk : k = 1 ∨ k = 2) (ha : s.dev.pwr.again = true) :
    Answers .wakeStepTimeout s fun d => d.get PWR_STATE_STATE = 2 ∧ d.get PWR_STATE_WAKE_FAULT = k ∧ d.get
      PWR_EVENTS_WAKE_FAULT = 1 ∧ d.pwr.again = false := by
  refine answers_of_run (rfl : _ = execWakeStepTimeout s) ?_
  rw [Dev.wakeStep_iff] at h
  obtain ⟨h3, hn⟩ := h
  rcases hk with rfl | rfl <;> simp (disch := decide) [h3, hn, ha]

/-! ### ACTIVE again -/

/-- The registers of a port's capture. -/
def capFlds : List Fld := [LPn_CAP_STATUS_STATE 0, LPn_CAP_STATUS_BLOCKS 0, LPn_CAP_STATUS_TRIG_BLOCK 0]

/-- The registers of the monitor's state. -/
def monFlds : List Fld :=
  [MON_STATUS_STATE, MON_STATUS_LP_SHED, MON_STATUS_IN_SERVICE, MON_STATUS_SPARE_FREE, MON_STATUS_SHADOW]

section
variable (d : Dev) {l : List Fld}

theorem memPos_touched (m : MemId) (l : List Fld) : (MEM_m_POS_POS m).lsb < 32 ∧ (MEM_m_POS_POS m).touched l = true := by
  have h : ∀ m : MemId, (MEM_m_POS_POS m).lsb < 32 ∧ 0x2000 ≤ (MEM_m_POS_POS m).off ∧ (MEM_m_POS_POS m).off < 0x3000 := by decide
  obtain ⟨h0, h1, h2⟩ := h m
  exact ⟨h0, by simp [Fld.touched, h1, h2]⟩

@[simp] theorem Dev.view_captureLost (p : Port) (h : famSub capFlds l = true) : (d.captureLost p).view l = d.view l := by
  refine Dev.view_mono (k := capFlds) ?_ h
  unfold Dev.captureLost
  refine (Dev.view_set_fld _ _ (memPos_touched _ _)).trans ?_
  simp (disch := decide)

@[simp] theorem Dev.view_monStartup (h : famSub monFlds l = true) : d.monStartup.view l = d.view l :=
  Dev.view_mono (k := monFlds) (by simp (disch := decide) [Dev.monStartup, Dev.monRefresh]) h

theorem Dev.get_monStartup : d.monStartup.get MON_STATUS_STATE = 1 := by
  simp (disch := decide) [Dev.monStartup, Dev.monRefresh]

end

/-- What is held for LOGIC_READY, and the time. -/
def Dev.heldPart (d : Dev) : List EarlyWrite × List PcieReq × Nat := (d.pwr.early, d.pwr.held, d.timebase)

/-- With no bank failed and nothing held, the device is ACTIVE again, and its timebase has gone on (16 R542). -/
theorem Dev.logicReady_wakes (d : Dev) (n : Nat) (hf : d.pwr.failed = []) (he : d.pwr.early = []) (hh : d.pwr.held = []) :
    ∃ t, d.logicReady n Dev.heldAct = t ∧ t.get PWR_STATE_STATE = 0 ∧ t.get PWR_EVENTS_WOKE = 1 ∧
      t.timebase = d.timebase + (roundDiv (n * 1000000000) 32768).toNat ∧ t.get MON_STATUS_STATE = 1 := by
  have hset (t : Dev) : (((t.set PWR_STATE_STATE 0).set PWR_STATE_WAKE_STEP 0).set PWR_STATE_WAKE_FAULT 0).get PWR_STATE_STATE = 0 := by
    simp (disch := decide)
  unfold Dev.logicReady
  extract_lets t0 stay failed late fault t1 t2 t3 t4 t5 t6 t7 t8 t9
  have hlog (t : Dev) (a b c : Nat) (l : List Byte) : (t.logRaw a b c l).heldPart = t.heldPart := by simp [Dev.heldPart]
  have hcap (t : Dev) (p : Port) : (t.captureLost p).heldPart = t.heldPart := by simp [Dev.heldPart, Dev.captureLost]
  have hq : t5.heldPart = t3.heldPart :=
    (Dev.each_keep (π := Dev.heldPart) (fun _ _ => hlog _ _ _ _ _) _ t4).trans
      (Dev.each_keep (π := Dev.heldPart) (fun _ _ => hcap _ _) _ t3)
  have hv : t5.view capFlds = t3.view capFlds :=
    (Dev.each_keep (π := Dev.view capFlds) (fun t e => Dev.view_logRaw _ t _ _ _ _) _ t4).trans
      (Dev.each_keep (π := Dev.view capFlds) (fun t p => t.view_captureLost p (by decide)) _ t3)
  have hst : t5.get PWR_STATE_STATE = 0 := by
    rw [Dev.get_of_view hv (by decide)]
    have g3 : t3.get PWR_STATE_STATE = t2.get PWR_STATE_STATE := Dev.get_modThm ..
    have g2 : t2.get PWR_STATE_STATE = t1.get PWR_STATE_STATE := Dev.get_modPwr ..
    have g1 : t1.get PWR_STATE_STATE = 0 := hset t0
    rw [g3, g2, g1]
  have hfail : failed = [] := hf
  have hkeep (t : Dev) (a : Pwr → Pwr) (b : Thm → Thm) (ha : ∀ w, (a w).early = w.early ∧ (a w).held = w.held) :
      ((t.modPwr a).modThm b).heldPart = t.heldPart := by
    simp [Dev.heldPart, ha]
  have hsets (t : Dev) : (((t.set PWR_STATE_STATE 0).set PWR_STATE_WAKE_STEP 0).set PWR_STATE_WAKE_FAULT 0).heldPart =
    t.heldPart := rfl
  have h3 : t3.heldPart = t1.heldPart := by
    refine hkeep t1 _ _ fun w => ?_
    exact ⟨rfl, rfl⟩
  have h1 : t1.heldPart = t0.heldPart := hsets t0
  have h0 : t0.heldPart = (d.pwr.early, d.pwr.held, d.timebase + (roundDiv (n * 1000000000) 32768).toNat) := rfl
  have hq := ((hq.trans h3).trans h1).trans h0
  simp only [Dev.heldPart, Prod.mk.injEq, he, hh] at hq
  obtain ⟨hqe', hqh', hqt⟩ := hq
  clear_value t5 failed late fault stay
  subst hfail
  have h8 : t8 = (t5.modPwr fun w => { w with early := [], earlyFull := false, held := [] }).monStartup := by
    have h : t5.heldAct = t5.modPwr fun w => { w with early := [], earlyFull := false, held := [] } := by
      simp only [Dev.heldAct, hqe', hqh', Dev.each_nil]
    exact congrArg Dev.monStartup h
  have hvm (t : Dev) (f : Fld) (hf : f.spared monFlds = true) : t.monStartup.get f = t.get f :=
    Dev.get_of_view (t.view_monStartup (by decide)) hf
  have htm (t : Dev) : t.monStartup.timebase = t.timebase := by
    simp [Dev.monStartup, Dev.monRefresh]
  refine ⟨_, rfl, ?_⟩
  clear_value t8
  subst h8
  simp (disch := decide) [t9, hvm, hst, htm, Dev.get_monStartup, hqt]

theorem logicReady_wakes {n : Nat} (h : s.dev.wakeStep 4 = true)
    (hh : s.dev.pwr.failed = [] ∧ s.dev.pwr.early = [] ∧ s.dev.pwr.held = []) :
    Answers (.logicReady n) s fun d => d.get PWR_STATE_STATE = 0 ∧ d.get PWR_EVENTS_WOKE = 1 ∧ d.timebase =
      s.dev.timebase + (roundDiv (n * 1000000000) 32768).toNat ∧ d.get MON_STATUS_STATE = 1 := by
  refine answers_of_run (rfl : _ = execLogicReady n s) ?_
  have h' : s.dev.fresh.wakeStep 4 = true := h
  obtain ⟨hf, he, hd⟩ := hh
  obtain ⟨t, ht, h0, h1, h2, h3⟩ := s.dev.fresh.logicReady_wakes n hf he hd
  rw [if_pos h', ht]
  exact ⟨h0, h1, h2, h3⟩

theorem spiLingerExpire_ends : Answers .spiLingerExpire s fun d => d.pwr.linger = false ∧ d.pwr.serialWaived = false :=
  answers_of_run (rfl : _ = execSpiLingerExpire s) ⟨rfl, rfl⟩

end

/-- Settles O36, a clause for each step of the entry and of the wake sequence. -/
theorem retainEntryAndWake : Obligations.RetainEntryAndWake :=
  ⟨fun _ => retainEntryBegin_enters, fun _ => retainSaveDone_signs, fun _ => retainSaveDone_aborts,
    fun _ => retainSignaturesDone_retains, fun _ => retainPowerDownDone_ends, fun _ _ => linkWakeDetect_wakes,
    fun _ => vddCoreReady_steps, fun _ => pllReady_steps, fun _ l => memReady_steps l, fun _ => wakeStepTimeout_repeats,
    fun _ _ => wakeStepTimeout_faults, fun _ _ => logicReady_wakes, fun _ => spiLingerExpire_ends⟩

end Sys2Proof.Machine

/-! What counting, signalling, completing and opening a descriptor leave of the recorder, of the memory that holds the trace
log, and of the rings: of the books only the logs change these. -/

namespace Sys2Proof.Machine

-- One theorem at a time: side by side they ask for more memory than a check may have.
set_option Elab.async false

open Reg

/-- Whether a field is the recorder's. -/
def Fld.isRec (f : Fld) : Bool := decide (0xD000 ≤ f.off) && decide (f.off < 0xD040) && decide (f.lsb < 32)

/-- What the recorder's registers hold. -/
def Dev.recRegs (s : Dev) (f : Fld) : Nat := if f.isRec then s.get f else 0

/-- The recorder, the memory of the trace log, the flash, and the owners of the rings. -/
structure Desk where
  regs : Fld → Nat
  evr : Evr
  mem1 : Nat → MWord
  flash : Nat → Byte
  owner : Nat → Nat

def Dev.desk (s : Dev) : Desk where
  regs := s.recRegs
  evr := s.evr
  mem1 := fun w => lookWord s.mem s.writes 1 w
  flash := s.flashByte
  owner := fun r => (s.ring r).owner

/-- What two devices with the same desk have in common. -/
theorem Dev.recRegs_of_desk {a b : Dev} (h : a.desk = b.desk) {f : Fld} (hf : f.isRec = true) : a.get f = b.get f := by
  have := congrFun (congrArg Desk.regs h) f
  simpa [Dev.desk, Dev.recRegs, hf] using this
theorem Dev.evr_of_desk {a b : Dev} (h : a.desk = b.desk) : a.evr = b.evr := (congrArg Desk.evr h :)
theorem Dev.owner_of_desk {a b : Dev} (h : a.desk = b.desk) (r : Nat) : (a.ring r).owner = (b.ring r).owner :=
  (congrFun (congrArg Desk.owner h) r :)
theorem Dev.mem1_of_desk {a b : Dev} (h : a.desk = b.desk) (w : Nat) :
    lookWord a.mem a.writes 1 w = lookWord b.mem b.writes 1 w := (congrFun (congrArg Desk.mem1 h) w :)

theorem Dev.flash_of_desk {a b : Dev} (h : a.desk = b.desk) : a.flashByte = b.flashByte := (congrArg Desk.flash h :)

/-! ## Operations that leave the desk alone -/

/-- A memory write elsewhere than in the memory of the trace log and in flash. -/
def MemWrite.elsewhere : MemWrite → Bool
  | .word i _ _ => i != 1
  | .invalidate i _ _ => i != 1
  | .host .. => true
  | _ => false

theorem lookWord_elsewhere (m : Mem) (l : List MemWrite) {x : MemWrite} (h : x.elsewhere = true) (w : Nat) :
    lookWord m (x :: l) 1 w = lookWord m l 1 w := by
  cases x <;> simp_all [lookWord, MemWrite.elsewhere]

theorem lookFlash_elsewhere (m : Mem) (l : List MemWrite) {x : MemWrite} (h : x.elsewhere = true) (a : Nat) :
    lookFlash m (x :: l) a = lookFlash m l a := by
  cases x <;> simp_all [lookFlash, MemWrite.elsewhere]

section
variable (s : Dev)

theorem Dev.desk_set {f : Fld} (v : Nat) (h : f.off < 0xD000 ∧ f.lsb < 32) : (s.set f v).desk = s.desk := by
  have hr : (s.set f v).recRegs = s.recRegs := by
    funext g
    unfold Dev.recRegs
    split
    next hg =>
      simp only [Fld.isRec, Bool.and_eq_true, decide_eq_true_eq] at hg
      exact Dev.get_set_ne s v (by unfold Fld.key; omega)
    next => rfl
  unfold Dev.desk
  rw [hr]
  rfl

theorem Dev.desk_iff {g : Dev → Dev} (h : ∀ s, (g s).desk = s.desk) (b : Bool) : (s.iff b g).desk = s.desk := by
  cases b
  exacts [rfl, h s]

theorem Dev.desk_each {α : Type} {g : Dev → α → Dev} (l : List α) (h : ∀ s, ∀ x ∈ l, (g s x).desk = s.desk) :
    (s.each l g).desk = s.desk := by
  induction l generalizing s with
  | nil => rfl
  | cons x l ih => exact (ih _ fun s x hx => h s x (.tail _ hx)).trans (h s x (.head _))

theorem Dev.desk_write {x : MemWrite} (h : x.elsewhere = true) : (s.write x).desk = s.desk := by
  have (w : Nat) : lookWord (s.write x).mem (s.write x).writes 1 w = lookWord s.mem s.writes 1 w :=
    lookWord_elsewhere s.mem s.writes h w
  have hf (a : Nat) : (s.write x).flashByte a = s.flashByte a := lookFlash_elsewhere s.mem s.writes h a
  unfold Dev.desk
  rw [funext this, funext hf]
  rfl

theorem Dev.desk_putWord {i : MemId} (h : i ≠ 1) (w : Nat) (x : MWord) : (s.putWord i w x).desk = s.desk :=
  s.desk_write (by simpa [MemWrite.elsewhere] using h)

theorem Dev.desk_hostWrite (a : Nat) (b : List Byte) : (s.hostWrite a b).desk = s.desk :=
  s.desk_each _ fun s _ _ => s.desk_write rfl

theorem Dev.desk_setRing {r : Nat} {c : RingCtx} (h : c.owner = (s.ring r).owner) : (s.setRing r c).desk = s.desk := by
  refine (Dev.desk_each _ _ fun s k _ => ?_).trans ?_
  · split
    · rfl
    · exact s.desk_putWord (by decide) _ _
  · have ho (q : Nat) : (Dev.ring { s with ctx := sput {} s.ctx r c } q).owner = (s.ring q).owner := by
      by_cases hq : r = q
      · subst hq
        simpa [Dev.ring] using h
      · simp [Dev.ring, sget_sput_ne _ _ _ hq]
    unfold Dev.desk
    rw [funext ho]
    rfl

theorem Dev.desk_ramWords (a : Nat) (b : List Byte) : (s.ramWords a b).desk = s.desk :=
  s.desk_each _ fun s _ _ => s.desk_putWord (by decide) _ _

theorem Dev.desk_modCtr (g : Ctrs → Ctrs) : (s.modCtr g).desk = s.desk := rfl
theorem Dev.desk_busyWith (c : Option (Nat × Nat)) : (s.busyWith c).desk = s.desk := rfl
theorem Dev.desk_lastCpl (c : Option (Nat × Cpl)) : ({ s with lastCpl := c } : Dev).desk = s.desk := rfl

/-! ## Signals and counters -/

theorem Dev.desk_signalMsix (v : Nat) : (s.signalMsix v).desk = s.desk := by
  unfold Dev.signalMsix
  split
  · simp only []
    split <;> rfl
  · rfl

theorem Dev.desk_signalPin (v : Nat) : (s.signalPin v).desk = s.desk := by
  unfold Dev.signalPin
  split <;> exact s.desk_set _ (by decide)

theorem Dev.desk_signalRing (o v : Nat) : (s.signalRing o v).desk = s.desk := by
  unfold Dev.signalRing
  split
  · exact s.desk_signalMsix v
  · exact s.desk_signalPin v

theorem Dev.desk_signal (v : Nat) : (s.signal v).desk = s.desk :=
  (Dev.desk_iff _ (fun s => s.desk_signalPin v) _).trans (s.desk_iff (fun s => s.desk_signalMsix v) _)

theorem Dev.desk_fireCapture (p : Port) (k : Nat) : (s.fireCapture p k).desk = s.desk := by
  unfold Dev.fireCapture
  split <;> rfl

theorem Dev.desk_ctrSample (m : Nat) (z : Bool) : (s.ctrSample m z).desk = s.desk := by
  unfold Dev.ctrSample
  simp only []
  split
  · exact (Dev.desk_set _ _ (by decide)).trans rfl
  · exact (Dev.desk_set _ _ (by decide)).trans ((Dev.desk_set _ _ (by decide)).trans rfl)

theorem Dev.desk_ctrOverflow {m : Nat} (hm : m < 64) : (s.ctrOverflow m).desk = s.desk := by
  unfold Dev.ctrOverflow
  refine (Dev.desk_each _ _ fun s p _ => s.desk_iff (fun s => s.desk_fireCapture p 6) _).trans ?_
  refine (Dev.desk_iff _ (fun s => s.desk_signal _) _).trans ?_
  refine (Dev.desk_iff _ (fun s => s.desk_ctrSample _ _) _).trans ?_
  refine (Dev.desk_iff _ (fun s => (Dev.desk_set _ _ (by decide)).trans ((Dev.desk_set _ _ (by decide)).trans
    (s.desk_set _ (by decide)))) _).trans ?_
  refine (Dev.desk_set _ _ (by simp [CTR_m_OVF_COUNT_OVF_COUNT]; omega)).trans ?_
  split <;> exact s.desk_set _ (by decide)

theorem Dev.desk_setCtrValue {m : Nat} (hm : m < 64) (v : Nat) : (s.setCtrValue m v).desk = s.desk :=
  (Dev.desk_set _ _ (by simp [CTR_m_VAL_HI_VALUE]; omega)).trans (Dev.desk_set _ _ (by simp [CTR_m_VAL_LO_VALUE]; omega))

theorem Dev.desk_ctrAdd {m : Nat} (hm : m < 64) (n : Nat) : (s.ctrAdd m n).desk = s.desk := by
  have sat := fun (s : Dev) => s.desk_iff (g := fun s => (s.flag (CTR_m_CFG_SAT m) true).flag CTR_EVENTS_SAT true) fun s =>
    (Dev.desk_set _ _ (by decide)).trans (s.desk_set _ (by simp [CTR_m_CFG_SAT]; omega))
  unfold Dev.ctrAdd
  split
  · rfl
  · simp only []
    split
    · refine (Dev.desk_ctrOverflow _ hm).trans ((Dev.desk_iff _ (fun s => s.desk_modCtr _) _).trans ?_)
      exact (Dev.desk_setCtrValue _ hm _).trans (sat s _)
    · exact (Dev.desk_setCtrValue _ hm _).trans (sat s _)

theorem Dev.desk_count (code inst : Nat) (n : Nat := 1) : (s.count code inst n).desk = s.desk :=
  Dev.desk_each _ _ fun s m hm => by
    split
    · exact s.desk_ctrAdd (List.mem_range.1 hm) n
    · rfl

theorem Dev.desk_sample (code inst q : Nat) : (s.sample code inst q).desk = s.desk :=
  Dev.desk_each _ _ fun s m hm => by
    have hm := List.mem_range.1 hm
    simp only
    split
    · split
      · exact s.desk_ctrAdd hm _
      · split
        · exact s.desk_ctrAdd hm _
        · rfl
      · split
        · exact s.desk_ctrAdd hm _
        · rfl
      · exact s.desk_ctrAdd hm _
      · rfl
    · rfl

theorem Dev.desk_retried : s.retried.desk = s.desk := (Dev.desk_count _ _ _ _).trans (s.desk_set _ (by decide))

/-! ## Rings and completions -/

theorem Dev.desk_putEntry (r : Nat) (e : Bool → List Byte) : (s.putEntry r e).desk = s.desk := by
  unfold Dev.putEntry
  simp only []
  split
  · refine (Dev.desk_setRing _ ?_).trans (s.desk_hostWrite _ _)
    exact (Dev.owner_of_desk (s.desk_hostWrite _ _) r).symm
  · refine (Dev.desk_setRing _ ?_).trans (s.desk_ramWords _ _)
    exact (Dev.owner_of_desk (s.desk_ramWords _ _) r).symm

theorem Dev.desk_coalesce (r : Nat) : (s.coalesce r).desk = s.desk := by
  unfold Dev.coalesce
  simp only []
  split
  · exact (Dev.desk_signalRing _ _ _).trans (s.desk_setRing rfl)
  · exact s.desk_setRing rfl

theorem Dev.desk_writeCpl (r : Nat) (c : Cpl) : (s.writeCpl r c).desk = s.desk :=
  (Dev.desk_coalesce _ r).trans (s.desk_putEntry r _)

theorem Dev.desk_postCpl (r : Nat) (c : Cpl) : (s.postCpl r c).desk = s.desk := by
  unfold Dev.postCpl
  simp only []
  split
  · rfl
  · split
    · rfl
    · exact s.desk_writeCpl r c

theorem Dev.desk_finish (d : Desc) (st res : Nat) : (s.finish d st res).desk = s.desk := by
  unfold Dev.finish
  refine (Dev.desk_sample _ _ _ _).trans ((Dev.desk_count _ _ _ _).trans ?_)
  refine (Dev.desk_lastCpl _ _).trans ?_
  cases (s.ring d.ring).live
  · rw [Dev.iff_false]
  · rw [Dev.iff_true]
    refine (Dev.desk_iff _ (fun s => s.desk_postCpl _ _) _).trans (s.desk_setRing ?_)
    rfl

theorem Dev.desk_opened (d : Desc) : (s.opened d).desk = s.desk := by
  unfold Dev.opened
  refine (Dev.desk_busyWith _ _).trans ?_
  cases (s.ring d.ring).live
  · rw [Dev.iff_false]
  · rw [Dev.iff_true]
    refine s.desk_setRing ?_
    rfl

end

end Sys2Proof.Machine

/-! Reads of the memory of the trace log: how a read goes depends on the words, the leaky bucket and the trace log's place
alone, so it goes the same on a device that differs in its other books (15 R506, R507). -/

namespace Sys2Proof.Machine

-- One theorem at a time: side by side they ask for more memory than a check may have.
set_option Elab.async false

open Reg

/-! ## What logs leave alone -/

section
variable (s : Dev)

theorem Dev.desk_target (v : Vector (Option EvTarget) 3) : ({ s with target := v } : Dev).desk = s.desk := rfl

theorem Dev.desk_notice (t : Transport) (sev source seq : Nat) : (s.notice t sev source seq).desk = s.desk := by
  unfold Dev.notice
  split
  · rfl
  · split
    · rfl
    · simp only []
      split
      · exact (Dev.desk_writeCpl _ _ _).trans (s.desk_target _)
      · split
        · exact s.desk_target _
        · exact (Dev.desk_set _ _ (by decide)).trans (s.desk_target _)

end

/-! ## Twins -/

/-- Two devices whose reads of the memory of the trace log go the same. -/
structure Dev.Twin (a b : Dev) : Prop where
  words (w : Nat) : lookWord a.mem a.writes 1 w = lookWord b.mem b.writes 1 w
  level : a.get (MEM_m_BUCKET_LEVEL 1) = b.get (MEM_m_BUCKET_LEVEL 1)
  capacity : a.get (MEM_m_BUCKET_CAPACITY 1) = b.get (MEM_m_BUCKET_CAPACITY 1)
  power : a.get PWR_STATE_STATE = b.get PWR_STATE_STATE
  next : a.get EVR_STATUS_TRACE_NEXT = b.get EVR_STATUS_TRACE_NEXT
  time : a.timebase = b.timebase
  second : a.get RTC_SEC_VALUE = b.get RTC_SEC_VALUE

/-- The registers that tell twins. -/
def twinFlds : List Fld :=
  [MEM_m_BUCKET_LEVEL 1, MEM_m_BUCKET_CAPACITY 1, PWR_STATE_STATE, EVR_STATUS_TRACE_NEXT, RTC_SEC_VALUE]

theorem Dev.Twin.of_parts {a b : Dev} (hw : ∀ w, lookWord a.mem a.writes 1 w = lookWord b.mem b.writes 1 w)
    (ht : a.timebase = b.timebase) (hg : ∀ f ∈ twinFlds, a.get f = b.get f) : a.Twin b :=
  ⟨hw, hg _ (by simp [twinFlds]), hg _ (by simp [twinFlds]), hg _ (by simp [twinFlds]), hg _ (by simp [twinFlds]), ht,
    hg _ (by simp [twinFlds])⟩

theorem Dev.Twin.get {a b : Dev} (h : a.Twin b) {f : Fld} (hf : f ∈ twinFlds) : a.get f = b.get f := by
  simp only [twinFlds, List.mem_cons, List.not_mem_nil, or_false] at hf
  rcases hf with rfl | rfl | rfl | rfl | rfl
  exacts [h.level, h.capacity, h.power, h.next, h.second]

theorem Dev.Twin.trans {a b c : Dev} (h : a.Twin b) (k : b.Twin c) : a.Twin c :=
  .of_parts (fun w => (h.words w).trans (k.words w)) (h.time.trans k.time) fun _ hf => (h.get hf).trans (k.get hf)

theorem Dev.Twin.symm {a b : Dev} (h : a.Twin b) : b.Twin a :=
  .of_parts (fun w => (h.words w).symm) h.time.symm fun _ hf => (h.get hf).symm

/-- Books apart, and with the same desk, two devices are twins. -/
theorem Dev.twin_of_like {a b : Dev} (hl : a.Like b) (hd : a.desk = b.desk) : a.Twin b :=
  ⟨Dev.mem1_of_desk hd, hl.2 _ (by unfold Fld.plain; decide), hl.2 _ (by unfold Fld.plain; decide),
    hl.2 _ (by unfold Fld.plain; decide), Dev.recRegs_of_desk hd (by decide), hl.keeps.1, hl.2 _ (by unfold Fld.plain; decide)⟩

theorem Dev.twin_set (s : Dev) {f : Fld} (v : Nat) (h : ∀ g ∈ twinFlds, f.key ≠ g.key) : (s.set f v).Twin s :=
  .of_parts (fun _ => rfl) rfl fun _ hg => Dev.get_set_ne s v (h _ hg)

/-- The same field given the same value in twins leaves them twins. -/
theorem Dev.Twin.set {a b : Dev} (h : a.Twin b) {f : Fld} (v : Nat) (hf : ∀ g ∈ twinFlds, f.key = g.key → f = g) :
    (a.set f v).Twin (b.set f v) := by
  refine .of_parts (fun w => h.words w) h.time fun g hg => ?_
  by_cases hk : f.key = g.key
  · rw [← hf g hg hk, Dev.get_set_self, Dev.get_set_self]
  · rw [Dev.get_set_ne _ _ hk, Dev.get_set_ne _ _ hk, h.get hg]

theorem lookWord_word (m : Mem) (l : List MemWrite) (i : MemId) (v w : Nat) (x : MWord) :
    lookWord m (.word i v x :: l) i w = if v = w then x else lookWord m l i w := by
  simp [lookWord]

theorem Dev.Twin.putWord {a b : Dev} (h : a.Twin b) (v : Nat) (x : MWord) : (a.putWord 1 v x).Twin (b.putWord 1 v x) := by
  refine .of_parts (fun w => ?_) h.time fun _ hg => h.get hg
  have (t : Dev) : lookWord (t.putWord 1 v x).mem (t.putWord 1 v x).writes 1 w = if v = w then x else lookWord t.mem t.writes 1 w :=
    lookWord_word ..
  rw [this, this, h.words]

theorem Dev.Twin.each {α : Type} {g : Dev → α → Dev} (hg : ∀ (a b : Dev) (x : α), a.Twin b → (g a x).Twin (g b x)) (l : List α)
    {a b : Dev} (h : a.Twin b) : (a.each l g).Twin (b.each l g) := by
  induction l generalizing a b with
  | nil => exact h
  | cons x l ih => exact ih (hg a b x h)

theorem Dev.Twin.trace {a b : Dev} (h : a.Twin b) (source bit sev cat : Nat) (e : Bool) (l : List Byte) :
    (a.trace source bit sev cat e l).Twin (b.trace source bit sev cat e l) := by
  unfold Dev.trace
  simp only []
  rw [h.next, h.time, h.second]
  have he := h.each (g := fun s (x : List Byte × Nat) => s.putWord 1 (0x4000 + 4 * (b.get EVR_STATUS_TRACE_NEXT % 4096) + x.2)
    (.full (BitVec.ofNat 64 (ofBytes x.1)))) (fun a b x k => k.putWord _ _)
  exact (he _).set _ (by decide)

/-! ## Logs -/

theorem Dev.twin_buffer (s : Dev) (r : EvRec) : (s.buffer r).Twin s := by
  have hp (t : Dev) (l : List EvRec) : ((t.modEvr fun e => { e with buf := l }).set EVR_STATUS_BUFFERED l.length).Twin t :=
    (Dev.twin_set _ _ (by decide)).trans (.of_parts (fun _ => rfl) rfl fun _ _ => rfl)
  have hd (t : Dev) : t.bufDrop.Twin t := (Dev.twin_set _ _ (by decide)).trans (t.twin_set _ (by decide))
  unfold Dev.buffer
  simp only []
  split
  · exact hp ..
  · split
    · exact hd s
    · split
      · exact (hd _).trans (hp ..)
      · exact hd s

theorem Dev.twin_notice (s : Dev) (t : Transport) (sev source seq : Nat) : (s.notice t sev source seq).Twin s :=
  Dev.twin_of_like (s.notice_like t sev source seq) (s.desk_notice t sev source seq)

theorem Dev.twin_notices (s : Dev) (sev source seq : Nat) :
    (s.each [Transport.pcie, .spi, .mdio] fun s t => s.notice t sev source seq).Twin s :=
  ((Dev.twin_notice _ _ _ _ _).trans (Dev.twin_notice _ _ _ _ _)).trans (Dev.twin_notice _ _ _ _ _)

theorem Dev.twin_due (s : Dev) (b : Bool) : (s.iff b fun s => s.modEvr fun e => { e with due := true }).Twin s := by
  cases b <;> exact .of_parts (fun _ => rfl) rfl fun _ _ => rfl

theorem Dev.Twin.logRec {a b : Dev} (h : a.Twin b) {q r : EvRec} (hs : q.source = r.source) (hb : q.bit = r.bit)
    (hv : q.sev = r.sev) (hp : q.payload = r.payload) : (a.logRec q).Twin (b.logRec r) := by
  unfold Dev.logRec
  simp only []
  rw [hs, hb, hv, hp]
  refine (Dev.twin_due _ _).trans (.trans ?_ (Dev.twin_due _ _).symm)
  refine (Dev.twin_notices _ _ _ _).trans (.trans ?_ (Dev.twin_notices _ _ _ _).symm)
  refine Dev.Twin.trace ?_ _ _ _ _ _ _
  refine (Dev.twin_buffer _ _).trans (.trans ?_ (Dev.twin_buffer _ _).symm)
  exact (a.twin_set _ (by decide)).trans (h.trans (b.twin_set _ (by decide)).symm)

theorem Dev.Twin.logRaw {a b : Dev} (h : a.Twin b) (source bit sev : Nat) (l : List Byte) :
    (a.logRaw source bit sev l).Twin (b.logRaw source bit sev l) := by
  unfold Dev.logRaw
  rw [h.power]
  split
  · exact .of_parts (fun w => h.words w) h.time fun _ hg => h.get hg
  · exact h.logRec rfl rfl rfl rfl

/-! ## Reads -/

theorem Dev.twin_count (s : Dev) (c i n : Nat) : (s.count c i n).Twin s :=
  Dev.twin_of_like (s.count_like c i n) (s.desk_count c i n)
theorem Dev.twin_signal (s : Dev) (v : Nat) : (s.signal v).Twin s := Dev.twin_of_like (s.signal_like v) (s.desk_signal v)
theorem Dev.twin_retried (s : Dev) : s.retried.Twin s := Dev.twin_of_like s.retried_like s.desk_retried

theorem Dev.twin_signalIf (s : Dev) (b : Bool) (v : Dev → Nat) : (s.iff b fun s => s.signal (v s)).Twin s := by
  cases b
  · exact .of_parts (fun _ => rfl) rfl fun _ _ => rfl
  · exact s.twin_signal _

/-- The bucket of the trace log's memory raised by one error (15 R513). -/
def Dev.bucketRaise (s : Dev) : Dev :=
  let level := s.get (MEM_m_BUCKET_LEVEL (1 : MemId))
  if max (s.get (MEM_m_BUCKET_CAPACITY (1 : MemId))) 1 < level + 1 then
    let s := ((s.set (MEM_m_BUCKET_LEVEL (1 : MemId)) 0).inc (MEM_m_COUNT_OVERFLOWS (1 : MemId))).putBit MEM_BUCKET_OVF_MASK
      (1 : MemId) true
    let s := s.iff (s.on MEM_INT_IRQ_EN) fun s => s.signal (s.get MEM_INT_VECTOR)
    s.logRaw (MEM_BUCKET_OVF_MASK.off / 4) (1 : MemId) 1 (pay (1 : MemId))
  else s.set (MEM_m_BUCKET_LEVEL (1 : MemId)) (level + 1)

theorem Dev.correctable_eq (s : Dev) (w : Nat) (y : BitVec 8) : s.correctable 1 w y =
    (((((s.inc (MEM_m_COUNT_CE_COUNT (1 : MemId))).count 0x09 0).set (MEM_m_LAST_ADDR (1 : MemId)) w).set
      (MEM_m_LAST_SYNDROME (1 : MemId)) y.toNat).set (MEM_m_POS_LAST_UE (1 : MemId)) 0).bucketRaise := rfl

theorem Dev.Twin.bucketRaise {a b : Dev} (h : a.Twin b) : a.bucketRaise.Twin b.bucketRaise := by
  have hl : a.get (MEM_m_BUCKET_LEVEL (1 : MemId)) = b.get (MEM_m_BUCKET_LEVEL (1 : MemId)) := h.level
  have hc : a.get (MEM_m_BUCKET_CAPACITY (1 : MemId)) = b.get (MEM_m_BUCKET_CAPACITY (1 : MemId)) := h.capacity
  have hf (s : Dev) : (((s.set (MEM_m_BUCKET_LEVEL (1 : MemId)) 0).inc (MEM_m_COUNT_OVERFLOWS (1 : MemId))).putBit
      MEM_BUCKET_OVF_MASK (1 : MemId) true).Twin (s.set (MEM_m_BUCKET_LEVEL (1 : MemId)) 0) :=
    (Dev.twin_set _ _ (by decide)).trans (Dev.twin_set _ _ (by decide))
  unfold Dev.bucketRaise
  simp only []
  rw [hl, hc]
  split
  · refine Dev.Twin.logRaw ?_ _ _ _ _
    refine (Dev.twin_signalIf _ _ _).trans (.trans ?_ (Dev.twin_signalIf _ _ _).symm)
    exact (hf a).trans ((h.set _ (by decide)).trans (hf b).symm)
  · exact h.set _ (by decide)

theorem Dev.Twin.correctable {a b : Dev} (h : a.Twin b) (w : Nat) (y : BitVec 8) :
    (a.correctable 1 w y).Twin (b.correctable 1 w y) := by
  have hb (s : Dev) : (((((s.inc (MEM_m_COUNT_CE_COUNT (1 : MemId))).count 0x09 0).set (MEM_m_LAST_ADDR (1 : MemId)) w).set
      (MEM_m_LAST_SYNDROME (1 : MemId)) y.toNat).set (MEM_m_POS_LAST_UE (1 : MemId)) 0).Twin s :=
    (Dev.twin_set _ _ (by decide)).trans ((Dev.twin_set _ _ (by decide)).trans ((Dev.twin_set _ _ (by decide)).trans
      ((Dev.twin_count _ _ _ _).trans (s.twin_set _ (by decide)))))
  rw [Dev.correctable_eq, Dev.correctable_eq]
  exact ((hb a).trans (h.trans (hb b).symm)).bucketRaise

/-- A read of a word stored as x and seen as y (15 R506). -/
def Dev.readAs (s : Dev) (w : Nat) (x y : MWord) : Dev × BitVec 64 × Attempt :=
  let fix := fun (s : Dev) (x : MWord) => (s.putWord 1 w (.full x.value)).correctable 1 w x.syndrome
  match eccClass y.syndrome with
  | .clean => (s, y.value, .first)
  | .correctable => (fix s y, y.value, .first)
  | .uncorrectable =>
    match eccClass x.syndrome with
    | .clean => (s.retried, x.value, .second)
    | .correctable => ((fix s x).retried, x.value, .second)
    | .uncorrectable => (s.lasting 1 w x.syndrome, 0, .failed)

theorem Dev.readWord_eq (s : Dev) (w : Nat) (g : BitVec 72) : s.readWord 1 w g =
    let x := lookWord s.mem s.writes 1 w
    s.readAs w x (if x.valid then ⟨x.data ^^^ g.setWidth 64, x.check ^^^ (g >>> 64).setWidth 8, true⟩ else x) := rfl

/-- A read of a word goes the same in twins; one that gives the word leaves them twins. -/
theorem Dev.Twin.readAs {a b : Dev} (h : a.Twin b) (w : Nat) (x y : MWord) :
    (a.readAs w x y).2 = (b.readAs w x y).2 ∧ ((a.readAs w x y).2.2 ≠ .failed → (a.readAs w x y).1.Twin (b.readAs w x y).1) := by
  have hf (z : MWord) := (h.putWord w (.full z.value)).correctable w z.syndrome
  have hr {a b : Dev} (h : a.Twin b) : a.retried.Twin b.retried := (Dev.twin_retried a).trans (h.trans (Dev.twin_retried b).symm)
  unfold Dev.readAs
  cases eccClass y.syndrome <;> dsimp only
  case clean => exact ⟨rfl, fun _ => h⟩
  case correctable => exact ⟨rfl, fun _ => hf y⟩
  case uncorrectable =>
    cases eccClass x.syndrome <;> dsimp only
    case clean => exact ⟨rfl, fun _ => hr h⟩
    case correctable => exact ⟨rfl, fun _ => hr (hf x)⟩
    case uncorrectable => exact ⟨rfl, fun hn => absurd rfl hn⟩

theorem Dev.Twin.readWord {a b : Dev} (h : a.Twin b) (w : Nat) (g : BitVec 72) :
    (a.readWord 1 w g).2 = (b.readWord 1 w g).2 ∧
    ((a.readWord 1 w g).2.2 ≠ .failed → (a.readWord 1 w g).1.Twin (b.readWord 1 w g).1) := by
  rw [Dev.readWord_eq, Dev.readWord_eq, h.words]
  exact h.readAs w _ _

/-- One word more of a read, and how it goes (15 R506). -/
def Dev.readStep (first : Nat) (g : Option (Nat × BitVec 72)) (a : Dev × List Byte × Attempt) (k : Nat) :
    Dev × List Byte × Attempt :=
  match a.2.2 with
  | .failed => a
  | t =>
    let flips := match g with
      | some g => if g.1 = first + k then g.2 else 0
      | none => 0
    let r := a.1.readWord 1 (first + k) flips
    match r.2.2 with
    | .failed => (r.1, a.2.1, .failed)
    | u => (r.1, a.2.1 ++ bytesOf 8 r.2.1.toNat, Attempt.worse t u)

theorem Dev.readMem_eq (s : Dev) (off n : Nat) (g : Option (Nat × BitVec 72)) : s.readMem 1 off n g =
    if n = 0 then (s, [], .first)
    else
      let r := (List.range ((off + n - 1) / 8 + 1 - off / 8)).foldl (Dev.readStep (off / 8) g) (s, [], .first)
      (r.1, (r.2.1.drop (off % 8)).take n, r.2.2) := rfl

/-- Two reads so far that went the same. -/
def SameRead (a b : Dev × List Byte × Attempt) : Prop := a.2 = b.2 ∧ (a.2.2 ≠ .failed → a.1.Twin b.1)

/-- The bytes so far with one word more, given how its read went. -/
def readOn (l : List Byte) (t : Attempt) (r : Dev × BitVec 64 × Attempt) : Dev × List Byte × Attempt :=
  match r.2.2 with
  | .failed => (r.1, l, .failed)
  | u => (r.1, l ++ bytesOf 8 r.2.1.toNat, Attempt.worse t u)

theorem SameRead.readOn {a b : Dev × BitVec 64 × Attempt} (h : a.2 = b.2) (k : a.2.2 ≠ .failed → a.1.Twin b.1)
    (l : List Byte) (t : Attempt) : SameRead (readOn l t a) (readOn l t b) := by
  obtain ⟨a, v, u⟩ := a
  obtain ⟨b, w⟩ := b
  obtain rfl : (v, u) = w := h
  cases u with
  | failed => exact ⟨rfl, fun h => absurd rfl h⟩
  | first => exact ⟨rfl, fun _ => k (by simp)⟩
  | second => exact ⟨rfl, fun _ => k (by simp)⟩

theorem SameRead.step {a b : Dev × List Byte × Attempt} (h : SameRead a b) (first : Nat) (g : Option (Nat × BitVec 72)) (k : Nat) :
    SameRead (Dev.readStep first g a k) (Dev.readStep first g b k) := by
  obtain ⟨a, l, t⟩ := a
  obtain ⟨b, w⟩ := b
  obtain ⟨he, ht⟩ := h
  obtain rfl : (l, t) = w := he
  have hr (hf : t ≠ .failed) (y : BitVec 72) := (ht hf).readWord (first + k) y
  cases t with
  | failed => exact ⟨rfl, fun h => absurd rfl h⟩
  | first => exact SameRead.readOn (hr (by simp) _).1 (hr (by simp) _).2 l .first
  | second => exact SameRead.readOn (hr (by simp) _).1 (hr (by simp) _).2 l .second

theorem SameRead.foldl (first : Nat) (g : Option (Nat × BitVec 72)) (l : List Nat) {a b : Dev × List Byte × Attempt}
    (h : SameRead a b) : SameRead (l.foldl (Dev.readStep first g) a) (l.foldl (Dev.readStep first g) b) := by
  induction l generalizing a b with
  | nil => exact h
  | cons x l ih => exact ih (h.step first g x)

/-- A read of bytes of the trace log's memory goes the same in twins. -/
theorem Dev.Twin.readMem {a b : Dev} (h : a.Twin b) (off n : Nat) (g : Option (Nat × BitVec 72)) :
    (a.readMem 1 off n g).2 = (b.readMem 1 off n g).2 := by
  rw [Dev.readMem_eq, Dev.readMem_eq]
  split
  · rfl
  · have hr := SameRead.foldl (off / 8) g (List.range ((off + n - 1) / 8 + 1 - off / 8)) (a := (a, [], .first))
      (b := (b, [], .first)) ⟨rfl, fun _ => h⟩
    simp only [hr.1]

/-- A descriptor opened on a device that has written nothing finds a twin of it. -/
theorem Dev.twin_opened (s : Dev) (d : Desc) : (s.opened d).Twin s :=
  (Dev.twin_of_like (s.opened_like d) ((s.desk_opened d).trans (s.desk_busyWith _).symm)).trans
    (.of_parts (fun _ => rfl) rfl fun _ _ => rfl)

/-! ## The owners of the rings -/

/-- The owners of the rings. -/
def Dev.owners (s : Dev) (r : Nat) : Nat := (s.ring r).owner

theorem Dev.owners_of_desk {a b : Dev} (h : a.desk = b.desk) : a.owners = b.owners := funext (Dev.owner_of_desk h)

theorem Dev.owner_of_owners {a b : Dev} (h : a.owners = b.owners) (r : Nat) : (a.ring r).owner = (b.ring r).owner :=
  congrFun h r

theorem Dev.owners_iff {s : Dev} {g : Dev → Dev} (h : ∀ s, (g s).owners = s.owners) (b : Bool) : (s.iff b g).owners = s.owners := by
  cases b
  exacts [rfl, h s]

section
variable (s : Dev)

@[simp] theorem Dev.owners_set (f : Fld) (v : Nat) : (s.set f v).owners = s.owners := rfl
@[simp] theorem Dev.owners_putWord (i : MemId) (w : Nat) (x : MWord) : (s.putWord i w x).owners = s.owners := rfl
@[simp] theorem Dev.owners_count (c i n : Nat) : (s.count c i n).owners = s.owners := Dev.owners_of_desk (s.desk_count c i n)
@[simp] theorem Dev.owners_signal (v : Nat) : (s.signal v).owners = s.owners := Dev.owners_of_desk (s.desk_signal v)
@[simp] theorem Dev.owners_retried : s.retried.owners = s.owners := Dev.owners_of_desk s.desk_retried
@[simp] theorem Dev.owners_opened (d : Desc) : (s.opened d).owners = s.owners := Dev.owners_of_desk (s.desk_opened d)

@[simp] theorem Dev.owners_modEvr (g : Evr → Evr) : (s.modEvr g).owners = s.owners := rfl

theorem Dev.owners_trace (a b c e : Nat) (f : Bool) (l : List Byte) : (s.trace a b c e f l).owners = s.owners := by
  unfold Dev.trace
  exact Dev.each_keep (π := Dev.owners) (fun s _ => s.owners_putWord _ _ _) _ s

theorem Dev.owners_buffer (r : EvRec) : (s.buffer r).owners = s.owners := by
  unfold Dev.buffer
  simp only []
  split
  · rfl
  · split
    · rfl
    · split <;> rfl

theorem Dev.owners_logRec (r : EvRec) : (s.logRec r).owners = s.owners := by
  unfold Dev.logRec
  simp only []
  refine (Dev.owners_iff (fun s => s.owners_modEvr _) _).trans ?_
  refine (Dev.each_keep (π := Dev.owners) (fun s t => Dev.owners_of_desk (s.desk_notice t _ _ _)) _ _).trans ?_
  exact (Dev.owners_trace _ _ _ _ _ _ _).trans (Dev.owners_buffer _ _)

@[simp] theorem Dev.owners_logRaw (a b c : Nat) (l : List Byte) : (s.logRaw a b c l).owners = s.owners := by
  unfold Dev.logRaw
  split
  · rfl
  · exact s.owners_logRec _

@[simp] theorem Dev.owners_correctable (i : MemId) (w : Nat) (y : BitVec 8) : (s.correctable i w y).owners = s.owners := by
  have hs (s : Dev) (b : Bool) : (s.iff b fun s => s.signal (s.get MEM_INT_VECTOR)).owners = s.owners :=
    Dev.owners_iff (fun s => s.owners_signal _) b
  unfold Dev.correctable
  simp only []
  split <;> simp [hs]

@[simp] theorem Dev.owners_lasting (i : MemId) (w : Nat) (y : BitVec 8) : (s.lasting i w y).owners = s.owners := by
  simp [Dev.lasting]

theorem Dev.owners_readWord (i : MemId) (w : Nat) (g : BitVec 72) : (s.readWord i w g).1.owners = s.owners := by
  unfold Dev.readWord
  simp only []
  split
  · rfl
  · simp
  · split <;> simp

/-- What the reads of words keep, a read of bytes keeps. -/
theorem Dev.readMem_keep {β : Type} {π : Dev → β} (h : ∀ s i w g, π (Dev.readWord s i w g).1 = π s) (i : MemId) (off n : Nat)
    (g : Option (Nat × BitVec 72)) : π (s.readMem i off n g).1 = π s := by
  unfold Dev.readMem
  split
  · rfl
  · dsimp only
    refine foldl_fst_keep (fun a k => ?_) _ (s, _, _)
    split
    · rfl
    · split <;> exact h _ _ _ _

theorem Dev.owners_readMem (i : MemId) (off n : Nat) (g : Option (Nat × BitVec 72)) :
    (s.readMem i off n g).1.owners = s.owners := s.readMem_keep (fun s => s.owners_readWord) i off n g
end

end Sys2Proof.Machine

/-! The recorder (18 R576–R588). -/

namespace Sys2Proof.Machine

-- One theorem at a time: side by side they ask for more memory than a check may have.
set_option Elab.async false

open Reg

/-! ## The recorder's registers -/

section
variable (s : Dev) {f : Fld}

theorem Dev.get_finish_rec (h : f.isRec = true) (d : Desc) (st r : Nat) : (s.finish d st r).get f = s.get f :=
  Dev.recRegs_of_desk (s.desk_finish d st r) h
theorem Dev.get_opened_rec (h : f.isRec = true) (d : Desc) : (s.opened d).get f = s.get f :=
  Dev.recRegs_of_desk (s.desk_opened d) h

/-- The recorder's registers that a log writes. -/
def logFlds : List Fld :=
  [EVR_SEQ_VALUE, EVR_STATUS_BUFFERED, EVR_COUNT_BUF_DROPS, EVR_EVENTS_BUF_FULL, EVR_STATUS_TRACE_NEXT]

/-- Of the recorder's registers a log writes a few alone (18 R575, R580, R589). -/
theorem Dev.get_logRaw_rec (h : f.isRec = true ∧ ∀ g ∈ logFlds, g.key ≠ f.key) (a b c : Nat) (l : List Byte) :
    (s.logRaw a b c l).get f = s.get f := by
  obtain ⟨hr, hk⟩ := h
  have hs {g : Fld} (hg : g ∈ logFlds) (s : Dev) (v : Nat) : (s.set g v).get f = s.get f := Dev.get_set_ne s v (hk g hg)
  have hb (s : Dev) (r : EvRec) : (s.buffer r).get f = s.get f := by
    have hd (s : Dev) : s.bufDrop.get f = s.get f :=
      (hs (g := EVR_EVENTS_BUF_FULL) (by decide) _ _).trans (hs (g := EVR_COUNT_BUF_DROPS) (by decide) s _)
    have hp (s : Dev) (l : List EvRec) : ((s.modEvr fun e => { e with buf := l }).set EVR_STATUS_BUFFERED l.length).get f = s.get f :=
      hs (by decide) _ _
    unfold Dev.buffer
    simp only []
    split
    · exact hp ..
    · split
      · exact hd s
      · split
        · exact (hd _).trans (hp ..)
        · exact hd s
  have ht (s : Dev) (a b c e : Nat) (z : Bool) (l : List Byte) : (s.trace a b c e z l).get f = s.get f := by
    have hw (s : Dev) (i : MemId) (w : Nat) (x : MWord) : (s.putWord i w x).get f = s.get f := rfl
    unfold Dev.trace
    exact (hs (by decide) _ _).trans (Dev.each_keep (π := fun s : Dev => s.get f) (fun s _ => hw s _ _ _) _ s)
  have hn (s : Dev) (t : Transport) (a b c : Nat) : (s.notice t a b c).get f = s.get f :=
    Dev.recRegs_of_desk (s.desk_notice t a b c) hr
  have hi (s : Dev) (b : Bool) (g : Evr → Evr) : (s.iff b fun s => s.modEvr g).get f = s.get f := by cases b <;> rfl
  unfold Dev.logRaw
  split
  · rfl
  · unfold Dev.logRec
    simp only []
    refine (hi _ _ _).trans ((Dev.each_keep (π := fun s : Dev => s.get f) (fun s t => hn s t _ _ _) _ _).trans ?_)
    exact (ht _ _ _ _ _ _ _).trans ((hb _ _).trans (hs (by decide) _ _))

theorem Dev.get_logPlain_rec (h : f.isRec = true ∧ ∀ g ∈ logFlds, g.key ≠ f.key) (b c : Nat) (l : List Byte) :
    (s.logPlain b c l).get f = s.get f := s.get_logRaw_rec h _ b c l
end

/-! ## Flush, power fail and freeze -/

section
variable {s : State}

theorem Dev.flushDue_dues {d : Dev} (h : d.evr.buf ≠ []) (f : Bool) :
    d.flushDue f = d.modEvr fun e => { e with due := true, force := e.force || f } := if_neg h

theorem evrFlushTimer_dues (hb : s.dev.evr.buf ≠ []) :
    Answers .evrFlushTimer s fun d => d.evr.due = true ∧ d.evr.buf = s.dev.evr.buf := by
  refine answers_of_run (rfl : _ = execEvrFlushTimer s) ?_
  rw [Dev.flushDue_dues (d := s.dev.fresh) hb]
  exact ⟨rfl, rfl⟩

theorem powerFail_begins (h : s.dev.evr.powerFail = false) :
    Answers .powerFail s fun d => d.evr.powerFail = true ∧ d.evr.lifeDue = true ∧ d.evr.failAt = s.dev.timebase := by
  refine answers_of_run (rfl : _ = execPowerFail s) ?_
  have hf : s.dev.fresh.evr.powerFail = false := h
  unfold Dev.powerFailBegin
  rw [hf]
  exact ⟨rfl, rfl, rfl⟩

/-- The queue of flash operations keeps no register and not the recorder. -/
theorem Dev.get_flashQueue (d : Dev) (l : List FlashOp) (f : Fld) : (d.flashQueue l).get f = d.get f := rfl
theorem Dev.evr_flashQueue (d : Dev) (l : List FlashOp) : (d.flashQueue l).evr = d.evr := rfl

theorem powerFailEnd_ends (h : s.dev.evr.powerFail = true) (hb : s.dev.sys.brownout = false) (hf : s.dev.hasFlash = true) :
    Answers .powerFailEnd s fun d => d.evr.powerFail = false ∧ d.get EVR_EVENTS_POWER_FAIL = 1 := by
  refine answers_of_run (rfl : _ = execPowerFailEnd s) ?_
  rw [if_pos ⟨h, by simp [hb]⟩]
  generalize hd : (s.dev.fresh.modEvr fun e => { e with powerFail := false }).modSys _ = d
  have he : d.evr.powerFail = false := by rw [← hd]; rfl
  have hh : d.hasFlash = true := by rw [← hd]; exact hf
  dsimp only
  rw [hh, Dev.iff_true, Dev.get_settle, Dev.get_logPlain_rec _ (by decide)]
  simp (disch := decide) [Dev.evr_flashQueue, he]

theorem hoursTick_counts (h : s.dev.sys.powered = true) :
    Answers .hoursTick s fun d => d.get EVR_HOURS_VALUE = (s.dev.get EVR_HOURS_VALUE + 1) % 2 ^ 32 := by
  refine answers_of_run (rfl : _ = execHoursTick s) ?_
  rw [if_pos (show s.dev.fresh.sys.powered = true from h)]
  exact Dev.get_set_self _ _ _

theorem lifetimeWriteTimer_dues (h : s.dev.hasFlash = true) :
    Answers .lifetimeWriteTimer s fun d => d.evr.lifeDue = true := by
  refine answers_of_run (rfl : _ = execLifetimeWriteTimer s) ?_
  rw [show s.dev.fresh.hasFlash = true from h]
  rfl

theorem evrFreezeExpire_thaws (h : s.dev.get EVR_STATUS_FROZEN = 1) :
    Answers .evrFreezeExpire s fun d => d.get EVR_STATUS_FROZEN = 0 ∧ d.get EVR_EVENTS_FREEZE_EXPIRED = 1 := by
  refine answers_of_run (rfl : _ = execEvrFreezeExpire s) ?_
  simp (disch := decide) [Dev.on_eq, h, Dev.unfreeze, Dev.get_flashQueue]

end

section
variable {s : State} {c : Desc} (ha : s.dev.Acts c)
include ha

theorem evrFreeze_freezes : Answers (.evrFreeze c) s fun d => d.Completed c stOk 1 ∧ d.get EVR_STATUS_FROZEN = 1 := by
  refine answers_of_descriptor (rfl : _ = execEvrFreeze c s) ha ?_
  simp (disch := decide) [Dev.get_finish_rec]

theorem evrRelease_thaws : Answers (.evrRelease c) s fun d => d.Completed c stOk 0 ∧ d.get EVR_STATUS_FROZEN = 0 := by
  refine answers_of_descriptor (rfl : _ = execEvrRelease c s) ha ?_
  simp (disch := decide) [Dev.unfreeze, Dev.get_flashQueue, Dev.get_finish_rec]

/-! ## Clear and reads -/

theorem evrClear_begins (hk : c.byte 16 = 0xC1) (hz : s.dev.get EVR_STATUS_FROZEN = 0) (hp : s.dev.evr.powerFail = false)
    (hf : s.dev.hasFlash = true) (hc : s.dev.evr.clear = 0) :
    Answers (.evrClear c) s fun d => d.evr.clear = 256 ∧ d.waits = s.dev.waits ++ [(.evrClear,
      { Desc.stamp c s.dev.timebase with data := .first })] := by
  refine answers_of_descriptor (rfl : _ = execEvrClear c s) ha ?_
  have hk' : (Desc.stamp c s.dev.timebase).byte 16 = 0xC1 := hk
  have hf' : (s.dev.fresh.opened c).hasFlash = true := by
    rw [← hf]
    simp (disch := decide) [Dev.hasFlash]
  simp (disch := decide) [hk', hf', hz, hp, hc, Dev.get_opened_rec]

end

/-- Opening a descriptor leaves the records held. -/
theorem Dev.heldRecs_opened (d : Dev) (c : Desc) : (d.opened c).heldRecs = d.heldRecs := by
  have he : (d.opened c).evr = d.evr := Dev.evr_of_desk (d.desk_opened c)
  have hb : (d.opened c).flashByte = d.flashByte := Dev.flash_of_desk (d.desk_opened c)
  have hm : (d.opened c).mem = d.mem := by simp
  simp only [Dev.heldRecs, Dev.storeRecs, Dev.flashGroups, Dev.flashBytes, hb, he, hm]

theorem Dev.newestSeq_opened (d : Dev) (c : Desc) : (d.opened c).newestSeq = d.newestSeq := by
  simp only [Dev.newestSeq, Dev.heldSeqs, Dev.heldRecs_opened]

section
variable {s : State} {c : Desc} (ha : s.dev.Acts c)
include ha

/-- EVR_READ gives the records from First on, as many as fit (18 R586). -/
theorem evrRead_reads {n : Nat} (hl : c.length % 64 = 0 ∧ 0 < c.length) (hr : (s.dev.ring c.ring).owner = 0)
    (hd : c.data = .first) (hf : c.bytes 16 4 ≠ 0xFFFFFFFF) (hn : s.dev.fresh.newestSeq = some n) :
    Answers (.evrRead c) s fun d => d.Completed c stOk (min (c.length / 64)
      (s.dev.fresh.heldRecs.filter fun e => c.bytes 16 4 ≤ e.1 && e.1 ≤ n).length) := by
  obtain ⟨hl, h0⟩ := hl
  refine answers_of_descriptor (rfl : _ = execEvrRead c s) ha ?_
  have hb : (s.dev.fresh.opened c).spanBad (Desc.stamp c s.dev.timebase) (Desc.stamp c s.dev.timebase).length = false := by
    exact Dev.spanBad_opened (s := s.dev.fresh) (d := c) _ hr _
  have hl' : ¬ ((Desc.stamp c s.dev.timebase).length % 64 ≠ 0 ∨
      (s.dev.fresh.opened c).spanBad (Desc.stamp c s.dev.timebase) (Desc.stamp c s.dev.timebase).length = true) := by
    rw [hb]
    simp [hl]
  have h0' : (Desc.stamp c s.dev.timebase).length ≠ 0 := Nat.pos_iff_ne_zero.1 h0
  have hf' : (Desc.stamp c s.dev.timebase).bytes 16 4 ≠ 0xFFFFFFFF := hf
  have hd' : (Desc.stamp c s.dev.timebase).data = .first := hd
  dsimp only
  rw [if_neg hl', if_neg h0', if_neg hf', Dev.newestSeq_opened, Dev.heldRecs_opened, hn, hd']
  simp [show (Attempt.first == Attempt.second) = false from rfl, Dev.putData_opened (s := s.dev.fresh) hr, statusOf,
    List.length_take]
  exact Dev.finish_completed ..

/-- TRACE_READ of one entry gives it (18 R589). -/
theorem traceRead_reads (hl : c.length = 32 ∧ c.bytes 16 2 % 4096 = 0) (hr : (s.dev.ring c.ring).owner = 0)
    (hv : (lookWord s.dev.mem [] 1 (0x4000 + 4 * ((s.dev.get EVR_STATUS_TRACE_NEXT + 8191) % 4096))).valid = true)
    (ht : (s.dev.fresh.readMem 1 (0x20000 + 32 * ((s.dev.get EVR_STATUS_TRACE_NEXT + 8191) % 4096)) 32).2.2 = .first) :
    Answers (.traceRead c) s fun d => d.Completed c stOk 1 := by
  obtain ⟨hl, h0⟩ := hl
  refine answers_of_descriptor (rfl : _ = execTraceRead c s) ha ?_
  have hb (n : Nat) : (s.dev.fresh.opened c).spanBad (Desc.stamp c s.dev.timebase) n = false :=
    Dev.spanBad_opened (s := s.dev.fresh) (d := c) _ hr _
  have hl' : (Desc.stamp c s.dev.timebase).length = 32 := hl
  have h0' : (Desc.stamp c s.dev.timebase).bytes 16 2 % 4096 = 0 := h0
  have hx : (s.dev.fresh.opened c).get EVR_STATUS_TRACE_NEXT = s.dev.get EVR_STATUS_TRACE_NEXT :=
    Dev.get_opened_rec _ (by decide) c
  have hw (w : Nat) : lookWord (s.dev.fresh.opened c).mem (s.dev.fresh.opened c).writes 1 w = lookWord s.dev.mem [] 1 w :=
    Dev.mem1_of_desk (s.dev.fresh.desk_opened c) w
  have hm := (s.dev.fresh.twin_opened c).readMem (0x20000 + 32 * ((s.dev.get EVR_STATUS_TRACE_NEXT + 8191) % 4096)) 32 none
  have ho := Dev.owner_of_owners (((s.dev.fresh.opened c).owners_readMem 1
    (0x20000 + 32 * ((s.dev.get EVR_STATUS_TRACE_NEXT + 8191) % 4096)) 32 none).trans (Dev.owners_opened _ _)) c.ring
  rw [← hm] at ht
  simp only [hl', hb, h0', hx, hw]
  generalize s.dev.get EVR_STATUS_TRACE_NEXT + 8191 = k at *
  have hn : ((List.range (min (32 / 32) (4096 - 0))).find? fun j =>
      !(lookWord s.dev.mem [] 1 (0x4000 + 4 * ((k - 0 - j) % 4096))).valid).getD
      (min (32 / 32) (4096 - 0)) = 1 := by
    rw [show List.range (min (32 / 32) (4096 - 0)) = [0] from rfl]
    simp [hv]
  have h0 : k - 0 - 0 = k := by omega
  obtain ⟨R, hR⟩ : ∃ R, (s.dev.fresh.opened c).readMem 1 (0x20000 + 32 * (k % 4096)) 32 = R := ⟨_, rfl⟩
  rw [hR] at ht ho
  rw [hn]
  generalize hf : List.foldl _ (s.dev.fresh.opened c, ([] : List Byte), Attempt.first) (List.range 1) = r
  rw [show List.range 1 = [0] from rfl, List.foldl_cons, List.foldl_nil, h0, hR] at hf
  have hf1 : r.2.2 = .first := by rw [← hf, ht]; rfl
  have hf2 : (r.1.ring c.ring).owner = 0 := by rw [← hf]; exact ho.trans hr
  clear hf
  rw [hf1, if_neg (by simp), if_neg (by simp)]
  have hp : (r.1.putData (Desc.stamp c s.dev.timebase) 0 r.2.1).2 = .first := by
    rw [Dev.putData_host (d := Desc.stamp c s.dev.timebase) hf2]
  rw [Dev.completed_settle, Dev.completed_busyWith]
  dsimp only
  rw [hp]
  exact Dev.finish_completed ..
end

/-- Settles O40, clause by clause: what a log, a completion or an opened descriptor leaves of the recorder decides the freeze,
and that a read of the trace log goes the same once its descriptor is opened decides the last. -/
theorem recorderCommands : Obligations.RecorderCommands :=
  ⟨fun _ => evrFlushTimer_dues, fun _ => powerFail_begins, fun _ => powerFailEnd_ends, fun _ => hoursTick_counts,
    fun _ => lifetimeWriteTimer_dues, fun _ _ _ ha hl hr => evrRead_reads ha hl hr, fun _ _ => evrFreeze_freezes, fun _ _ => evrRelease_thaws,
    fun _ => evrFreezeExpire_thaws, fun _ _ => evrClear_begins, fun _ _ => traceRead_reads⟩

end Sys2Proof.Machine

/-! The bias loops' shared operations: which registers and which parts of the device they leave alone (11 R394–R409). -/

namespace Sys2Proof.Machine

-- One theorem at a time: side by side they ask for more memory than a check may have.
set_option Elab.async false

open Reg

/-! ## The device beside its loops -/

/-- The device without its books, its registers, its loops and outputs, and the descriptors that wait. -/
def Dev.aside (s : Dev) : Dev :=
  { s.core with loop := Vector.replicate 16 {}, bceCap := {}, aux := Vector.replicate 24 {}, waits := [], lastCpl := none }

theorem Dev.Like.aside {a b : Dev} (h : a.Like b) : a.aside = b.aside :=
  congrArg (fun d : Dev => ({ d with loop := Vector.replicate 16 {}, bceCap := {}, aux := Vector.replicate 24 {}, waits := []
                                     lastCpl := none } : Dev)) h.1

section
variable (s : Dev)
@[simp] theorem Dev.aside_set (f : Fld) (v : Nat) : (s.set f v).aside = s.aside := rfl
@[simp] theorem Dev.aside_modLoop (l : LoopNo) (g : Loop → Loop) : (s.modLoop l g).aside = s.aside := rfl
@[simp] theorem Dev.aside_modAux (c : AuxCh) (g : Aux → Aux) : (s.modAux c g).aside = s.aside := rfl
@[simp] theorem Dev.aside_waits (w : List (WaitKind × Desc)) : ({ s with waits := w } : Dev).aside = s.aside := rfl
@[simp] theorem Dev.aside_bceCap (c : BceCap) : ({ s with bceCap := c } : Dev).aside = s.aside := rfl
@[simp] theorem Dev.aside_finish (d : Desc) (st r : Nat) : (s.finish d st r).aside = s.aside := (s.finish_like d st r).aside
@[simp] theorem Dev.aside_iff (b : Bool) (g : Dev → Dev) : (s.iff b g).aside = if b then (g s).aside else s.aside := by
  cases b <;> rfl
@[simp] theorem Dev.aside_wakeOne (k : WaitKind) (st r : Nat) : (s.wakeOne k st r).aside = s.aside := by
  unfold Dev.wakeOne
  split
  · rfl
  · exact (Dev.aside_finish _ _ _ _).trans (s.aside_waits _)
@[simp] theorem Dev.aside_wakeOk (k : WaitKind) (r : Nat) : (s.wakeOk k r).aside = s.aside := by
  unfold Dev.wakeOk
  split
  · rfl
  · exact s.aside_wakeOne _ _ _
@[simp] theorem Dev.aside_wakeAll (f : WaitKind → Bool) (st : Nat) (r : WaitKind → Nat) : (s.wakeAll f st r).aside = s.aside :=
  (Dev.each_keep (π := Dev.aside) (fun s _ => s.aside_finish _ _ _) _ _).trans (s.aside_waits _)
end

/-! ## The registers of loops and outputs -/

/-- The registers that the loops' and the outputs' shared operations write. -/
def loopFlds : List Fld :=
  [BCE_LOOPn_STATE_STATE 0, BCE_LOOPn_STATE_CAUSE 0, BCE_LOOPn_STATE_INJ 0, BCE_LOOPn_STATE_SWAP_PEND 0, BCE_LOOPn_INTEG_VALUE 0,
   BCE_LOOPn_FB_TARGET 0, BCE_STATUS_RUN_MASK, BCE_STATUS_FAULT_MASK, BCE_EVENTS_SWAP_DONE, BCE_EVENTS_CAP_DONE,
   AUX_CHm_STATUS_TARGET 0, AUX_CHm_STATUS_CODE 0, AUX_CHm_STATUS_SLEWING 0, AUX_CHm_QUEUE_FILL 0, AUX_STATUS_OWNED]

section
variable (s : Dev) {k : List Fld}

@[simp] theorem Dev.view_bceCap (l : List Fld) (c : BceCap) : ({ s with bceCap := c } : Dev).view l = s.view l := rfl
@[simp] theorem Dev.view_wakeOk (l : List Fld) (w : WaitKind) (r : Nat) : (s.wakeOk w r).view l = s.view l := by
  unfold Dev.wakeOk
  split
  · rfl
  · exact s.view_wakeOne _ _ _

@[simp] theorem Dev.aside_auxRefresh (c : AuxCh) : (s.auxRefresh c).aside = s.aside := rfl
@[simp] theorem Dev.view_auxRefresh (c : AuxCh) (h : famSub loopFlds k = true) : (s.auxRefresh c).view k = s.view k :=
  Dev.view_mono (by simp (disch := decide) [Dev.auxRefresh] : _ = s.view loopFlds) h

@[simp] theorem Dev.aside_auxTarget (c : AuxCh) (v : Nat) : (s.auxTarget c v).aside = s.aside := by simp [Dev.auxTarget]
@[simp] theorem Dev.view_auxTarget (c : AuxCh) (v : Nat) (h : famSub loopFlds k = true) :
    (s.auxTarget c v).view k = s.view k :=
  Dev.view_mono (by simp (disch := decide) [Dev.auxTarget] : _ = s.view loopFlds) h

@[simp] theorem Dev.aside_loopTarget (l : LoopNo) (v : Nat) : (s.loopTarget l v).aside = s.aside := by simp [Dev.loopTarget]
@[simp] theorem Dev.view_loopTarget (l : LoopNo) (v : Nat) (h : famSub loopFlds k = true) :
    (s.loopTarget l v).view k = s.view k :=
  Dev.view_mono (by simp (disch := decide) [Dev.loopTarget] : _ = s.view loopFlds) h

@[simp] theorem Dev.aside_bceRefresh (l : LoopNo) : (s.bceRefresh l).aside = s.aside := rfl
@[simp] theorem Dev.view_bceRefresh (l : LoopNo) (h : famSub loopFlds k = true) : (s.bceRefresh l).view k = s.view k :=
  Dev.view_mono (by simp (disch := decide) [Dev.bceRefresh] : _ = s.view loopFlds) h

@[simp] theorem Dev.aside_bceCapEnd (st : Nat) : (s.bceCapEnd st).aside = s.aside := by simp [Dev.bceCapEnd]
@[simp] theorem Dev.view_bceCapEnd (st : Nat) (h : famSub loopFlds k = true) : (s.bceCapEnd st).view k = s.view k :=
  Dev.view_mono (by simp (disch := decide) [Dev.bceCapEnd] : _ = s.view loopFlds) h

@[simp] theorem Dev.aside_injectEnd (l : LoopNo) : (s.injectEnd l).aside = s.aside := by
  unfold Dev.injectEnd
  split <;> simp
@[simp] theorem Dev.view_injectEnd (l : LoopNo) (h : famSub loopFlds k = true) : (s.injectEnd l).view k = s.view k := by
  refine Dev.view_mono (?_ : _ = s.view loopFlds) h
  unfold Dev.injectEnd
  split <;> simp (disch := decide)

@[simp] theorem Dev.aside_swapTake (l : LoopNo) (b : Bool) : (s.swapTake l b).aside = s.aside := by
  unfold Dev.swapTake
  split <;> simp
@[simp] theorem Dev.view_swapTake (l : LoopNo) (b : Bool) (h : famSub loopFlds k = true) : (s.swapTake l b).view k = s.view k := by
  refine Dev.view_mono (?_ : _ = s.view loopFlds) h
  unfold Dev.swapTake
  split <;> simp (disch := decide)

@[simp] theorem Dev.aside_tableTake (l : LoopNo) : (s.tableTake l).aside = s.aside := by
  unfold Dev.tableTake
  split <;> simp
@[simp] theorem Dev.view_tableTake (m : List Fld) (l : LoopNo) : (s.tableTake l).view m = s.view m := by
  unfold Dev.tableTake
  split <;> simp

/-- A loop out of RUN drops its injection, its part of a capture, and its pending bank and table (11 R401, R404, R409). -/
def Dev.loopLeave (s : Dev) (l : LoopNo) : Dev :=
  let s := s.injectEnd l
  let s := s.iff (s.bceCap.on && s.bceCap.loop == l.val) (·.bceCapEnd stAborted)
  ((s.swapTake l false).tableTake l).modLoop l fun q => { q with result := none, hist := [], invalid := 0 }

@[simp] theorem Dev.aside_loopLeave (l : LoopNo) : (s.loopLeave l).aside = s.aside := by simp [Dev.loopLeave]
@[simp] theorem Dev.view_loopLeave (l : LoopNo) (h : famSub loopFlds k = true) : (s.loopLeave l).view k = s.view k := by
  simp [Dev.loopLeave, h]

/-- A loop's entry to a state, before the descriptors that wait for it complete. -/
def Dev.loopEnter (s : Dev) (l : LoopNo) (st cause : Nat) : Dev :=
  let s := s.iff (s.loopState l == blRun && st != blRun) (·.loopLeave l)
  ((s.set (BCE_LOOPn_STATE_STATE l) st).set (BCE_LOOPn_STATE_CAUSE l) cause).bceRefresh l

theorem Dev.loopTo_eq (l : LoopNo) (st cause : Nat) : s.loopTo l st cause =
    if s.loopState l = blArming ∧ st ≠ blArming then
      (if st = blRun then (s.loopEnter l st cause).wakeOk (.loopStart l) st
       else (s.loopEnter l st cause).wakeAll (fun w => w == .loopStart l)
         (if st = blFaultHold ∨ st = blFaultClear then stTimeout else stAborted) (fun _ => st))
    else s.loopEnter l st cause := rfl

@[simp] theorem Dev.aside_loopEnter (l : LoopNo) (st cause : Nat) : (s.loopEnter l st cause).aside = s.aside := by
  simp [Dev.loopEnter]
@[simp] theorem Dev.view_loopEnter (l : LoopNo) (st cause : Nat) (h : famSub loopFlds k = true) :
    (s.loopEnter l st cause).view k = s.view k :=
  Dev.view_mono (by simp (disch := decide) [Dev.loopEnter] : _ = s.view loopFlds) h

@[simp] theorem Dev.aside_loopTo (l : LoopNo) (st cause : Nat) : (s.loopTo l st cause).aside = s.aside := by
  rw [Dev.loopTo_eq]
  split
  · split <;> simp
  · simp
@[simp] theorem Dev.view_loopTo (l : LoopNo) (st cause : Nat) (h : famSub loopFlds k = true) :
    (s.loopTo l st cause).view k = s.view k := by
  rw [Dev.loopTo_eq]
  split
  · split <;> simp [h]
  · simp [h]

@[simp] theorem Dev.aside_loopStop (l : LoopNo) (cause : Nat) : (s.loopStop l cause).aside = s.aside := by simp [Dev.loopStop]
@[simp] theorem Dev.view_loopStop (l : LoopNo) (cause : Nat) (h : famSub loopFlds k = true) :
    (s.loopStop l cause).view k = s.view k := by simp [Dev.loopStop, h]

/-- The loops of a port that goes off (11 R406). -/
@[simp] theorem Dev.aside_bcePortOff (p : Port) : (s.bcePortOff p).aside = s.aside :=
  Dev.each_keep (π := Dev.aside) (fun s l => by simp) _ s
@[simp] theorem Dev.view_bcePortOff (p : Port) (h : famSub loopFlds k = true) : (s.bcePortOff p).view k = s.view k :=
  Dev.view_each (fun s l => by simp [h]) _ s

end

end Sys2Proof.Machine

/-! The steps of an orderly Quench (17 Table 17.3, R570). -/

namespace Sys2Proof.Machine

-- One theorem at a time: side by side they ask for more memory than a check may have.
set_option Elab.async false

open Reg

/-! ## The gating of the ports' supplies -/

/-- The ports whose supply is gated. -/
def Dev.gates (s : Dev) : Vector Bool 8 := s.pwr.gated

theorem Dev.gates_of_rim {a b : Dev} (h : a.rim = b.rim) : a.gates = b.gates := (congrArg (fun d : Dev => d.pwr.gated) h :)
theorem Dev.gates_of_aside {a b : Dev} (h : a.aside = b.aside) : a.gates = b.gates := (congrArg (fun d : Dev => d.pwr.gated) h :)

section
variable (s : Dev) (p : Port)
theorem Dev.gates_modPort (g : PortSt → PortSt) : (s.modPort p g).gates = s.gates := rfl
theorem Dev.gates_set (f : Fld) (v : Nat) : (s.set f v).gates = s.gates := rfl
theorem Dev.gates_wakeOne (k : WaitKind) (st r : Nat) : (s.wakeOne k st r).gates = s.gates :=
  Dev.gates_of_aside (s.aside_wakeOne k st r)
theorem Dev.gates_wakeAll (f : WaitKind → Bool) (st : Nat) (r : WaitKind → Nat) : (s.wakeAll f st r).gates = s.gates :=
  Dev.gates_of_aside (s.aside_wakeAll f st r)

theorem Dev.gates_eyeEnd (x : Pair) (st : Nat) : (s.eyeEnd p x st).gates = s.gates := by
  unfold Dev.eyeEnd
  split
  · rfl
  · exact (Dev.gates_wakeOne _ _ _ _).trans (Dev.gates_of_rim (Dev.rim_putData _ _ _ _))

theorem Dev.gates_iterRefresh : (s.iterRefresh p).gates = s.gates := Dev.gates_of_rim (by simp [Dev.iterRefresh])

theorem Dev.gates_slipsEnd : (s.slipsEnd p).gates = s.gates :=
  (Dev.gates_modPort _ p _).trans (Dev.each_keep (π := Dev.gates) (fun s r => Dev.gates_of_rim (by simp [Dev.slipDone])) _ s)

theorem Dev.gates_dropLink : (s.dropLink p).gates = s.gates := by
  have he : ∀ s : Dev, (s.each bothPairs fun s x => (s.modAdc p x fun a => { a with step := none }).eyeEnd p x stAborted).gates =
      s.gates := fun s => Dev.each_keep (fun s x => (Dev.gates_eyeEnd _ p x _).trans (s.gates_modPort p _)) _ s
  have hs (s : Dev) (fs : List Fld) : (s.each fs fun s f => s.set f 0).gates = s.gates :=
    Dev.each_keep (fun s f => s.gates_set f 0) fs s
  have hd (s : Dev) : (s.lmcDrop p).gates = s.gates := (Dev.gates_wakeAll _ _ _ _).trans (s.gates_modPort p _)
  unfold Dev.dropLink
  simp only [Dev.gates_slipsEnd, Dev.gates_iterRefresh, hs, Dev.modLink_eq, Dev.modTx_eq, Dev.modFec_eq, Dev.modFd_eq,
    Dev.modAcq_eq, Dev.gates_modPort, hd, he]

theorem Dev.gates_portIdle : (s.portIdle p).gates = s.gates := by
  have h : ∀ t : Dev, (t.each bothPairs fun s x => s.pairOff p x).gates = t.gates := fun t =>
    Dev.each_keep (fun s x => Dev.gates_of_rim (by simp [Dev.pairOff, Dev.calAbandon])) _ t
  have hl (t : Dev) : (t.lineClockLost p).gates = t.gates := Dev.gates_of_rim (t.rim_lineClockLost p)
  refine (h _).trans ?_
  rw [hl, Dev.gates_set, Dev.gates_set, Dev.gates_dropLink]

/-- An entry to FAULT keeps the gating. -/
theorem Dev.gates_linkTo_fault : (s.linkTo p lsFault).gates = s.gates := by
  refine Dev.gates_of_rim ?_
  unfold Dev.linkTo
  simp [lsFault, -Dev.modLink_eq]

theorem Dev.gates_toFault (n : Nat) : (s.toFault p n).gates = s.gates := by
  unfold Dev.toFault
  simp only [Dev.flag_eq, Dev.gates_linkTo_fault, Dev.gates_set, Dev.gates_portIdle]

theorem Dev.gates_txRefresh (b : Bool) : (s.txRefresh p b).gates = s.gates := Dev.gates_of_rim (s.rim_txRefresh p b)
theorem Dev.gates_groupRefresh : (s.groupRefresh p).gates = s.gates := Dev.gates_of_rim (s.rim_groupRefresh p)
theorem Dev.gates_ceilNone : (s.ceilNone p).gates = s.gates := (Dev.gates_iterRefresh _ p).trans rfl
theorem Dev.gates_captureLost : (s.captureLost p).gates = s.gates := rfl
theorem Dev.gates_dozeChecks : s.dozeChecks.gates = s.gates := Dev.gates_wakeAll _ _ _ _

theorem Dev.gates_testsEnd (l : Lane) : (s.testsEnd l).gates = s.gates := by
  unfold Dev.testsEnd
  split <;> rfl

theorem Dev.gates_dozeCut (n : Nat) : (s.dozeCut p n).gates = s.gates := by
  unfold Dev.dozeCut
  simp only []
  rw [Dev.gates_wakeAll]
  rfl
theorem Dev.gates_setWaking (b : Bool) : (s.setWaking p b).gates = s.gates := rfl

theorem Dev.gates_dozeQuench : (s.dozeQuench p).gates = s.gates := by
  unfold Dev.dozeQuench
  simp only []
  split
  · simp only [Dev.putBit_eq, Dev.gates_set, Dev.gates_dozeCut]
  · split
    · simp only [Dev.putBit_eq, Dev.gates_set, Dev.gates_dozeChecks, Dev.gates_setWaking]
    · rfl

/-! ## A port's part in a Quench -/

/-- The registers that a port's power-down in a Quench writes beside its link state and its fault's cause. -/
def downFlds : List Fld :=
  [LPn_ACQ_STATUS_ACQ_STATE 0, LPn_FD_STATUS_FDS 0, LPn_SLACK_GOV_CEIL 0, LPn_LINK_EVENTS_FAULT 0, LPn_LINK_STATUS_LOCAL_FAULT 0] ++
  dropFlds ++ modeFlds ++ followFlds ++ dozeFlds ++ capFlds

/-- Rest as a port in FAULT has it writes no link state. -/
theorem Dev.view_portIdle_down : (s.portIdle p).view downFlds = s.view downFlds := by
  have h : ∀ t : Dev, (t.each bothPairs fun s x => s.pairOff p x).view downFlds = t.view downFlds := fun t =>
    Dev.view_each (fun s x => s.view_pairOff p x (by decide)) _ t
  refine (h _).trans ?_
  simp (disch := decide)

theorem Dev.view_linkTo_fault : (s.linkTo p lsFault).view downFlds = (s.set (LPn_LINK_STATUS_LINK_STATE p) 7).view downFlds := by
  unfold Dev.linkTo
  simp (disch := decide) [lsFault, lsUp, lsLull]

/-- A port in FAULT, with the cause and its supply gated. -/
def Dev.Down (s : Dev) (p : Port) : Prop :=
  s.linkState p = 7 ∧ s.get (LPn_LINK_STATUS_FAULT_CAUSE p) = 1 ∧ s.pwr.gated.get p = true

theorem linkState_key_ne : ∀ p q : Port, p ≠ q → (LPn_LINK_STATUS_LINK_STATE p).key ≠ (LPn_LINK_STATUS_LINK_STATE q).key := by
  decide
theorem faultCause_key_ne : ∀ p q : Port, p ≠ q → (LPn_LINK_STATUS_FAULT_CAUSE p).key ≠ (LPn_LINK_STATUS_FAULT_CAUSE q).key := by
  decide

/-- What leaves the link states, their causes and the gating alone leaves a port down. -/
theorem Dev.Down.of_view {a b : Dev} {p : Port} {l : List Fld} (h : b.Down p) (hv : a.view l = b.view l) (hg : a.gates = b.gates)
    (hl : (∀ p : Fin 8, (LPn_LINK_STATUS_LINK_STATE p).spared l = true) ∧
      ∀ p : Fin 8, (LPn_LINK_STATUS_FAULT_CAUSE p).spared l = true) : a.Down p := by
  obtain ⟨hs, hc, hb⟩ := h
  have hg' : a.pwr.gated = b.pwr.gated := hg
  exact ⟨(Dev.get_inst_of_view hv hl.1 p).trans hs, (Dev.get_inst_of_view hv hl.2 p).trans hc, by rw [hg', hb]⟩

/-- A port's entry to FAULT by a Quench, as far as the link states and their causes go. -/
theorem Dev.view_toFault : ∃ t : Dev, (s.toFault p 1).view downFlds = (t.set (LPn_LINK_STATUS_LINK_STATE p) 7).view downFlds ∧
    t.get (LPn_LINK_STATUS_FAULT_CAUSE p) = 1 ∧ ∀ q, q ≠ p → t.linkState q = s.linkState q ∧
      t.get (LPn_LINK_STATUS_FAULT_CAUSE q) = s.get (LPn_LINK_STATUS_FAULT_CAUSE q) := by
  have hv := s.view_portIdle_down p
  refine ⟨_, Dev.view_linkTo_fault _ p, ?_, fun q hq => ⟨?_, ?_⟩⟩
  · simp (disch := decide)
  · simp (disch := decide) [Dev.linkState]
    exact Dev.get_inst_of_view hv (by decide) q
  · simp (disch := decide) [Dev.get_set_ne _ _ (faultCause_key_ne p q (Ne.symm hq))]
    exact Dev.get_inst_of_view hv (by decide) q

theorem Dev.linkState_toFault : (s.toFault p 1).linkState p = 7 := by
  obtain ⟨t, hv, -⟩ := s.view_toFault p
  exact (Dev.get_inst_of_view hv (by decide) p).trans (Dev.get_set_inst_of_lt (n := 8) t (by decide))

theorem Dev.faultCause_toFault : (s.toFault p 1).get (LPn_LINK_STATUS_FAULT_CAUSE p) = 1 := by
  obtain ⟨t, hv, hc, -⟩ := s.view_toFault p
  exact (Dev.get_inst_of_view hv (by decide) p).trans ((Dev.get_set_inst_inst t 7 (by decide)).trans hc)

theorem Dev.toFault_other {q : Port} (h : q ≠ p) : (s.toFault p 1).linkState q = s.linkState q ∧
    (s.toFault p 1).get (LPn_LINK_STATUS_FAULT_CAUSE q) = s.get (LPn_LINK_STATUS_FAULT_CAUSE q) := by
  obtain ⟨t, hv, -, ho⟩ := s.view_toFault p
  obtain ⟨hs, hc⟩ := ho q h
  exact ⟨(Dev.get_inst_of_view hv (by decide) q).trans ((Dev.get_set_ne t 7 (linkState_key_ne p q h.symm)).trans hs),
    (Dev.get_inst_of_view hv (by decide) q).trans ((Dev.get_set_inst_inst t 7 (by decide)).trans hc)⟩

/-- A port powered down by a Quench, up to its entry to FAULT (17 R567). -/
def Dev.quenchDown (s : Dev) (p : Port) : Dev :=
  let s := s.dozeQuench p
  let s := s.iff ((s.prt p).link.stopping == some .doze) fun s =>
    (s.modLink p fun l => { l with stopping := none }).modTx p fun t => { t with stopping := false }
  let s := s.modTx p fun t => { t with driver := false, delay := false, quenchLf := false }
  ((s.ceilNone p).captureLost p).each (s.group p) (·.testsEnd ·)

/-- A port's supply gated. -/
def Dev.gate (s : Dev) (p : Port) : Dev := s.modPwr fun w => { w with gated := w.gated.set p true }

theorem Dev.portsQuench_eq : s.portsQuench =
    (s.each (allPorts.filter fun p => !s.inDoze p && !s.pwr.gated.get p) fun s p => ((s.quenchDown p).gate p).toFault p 1).each
      allPorts fun s p => (s.txRefresh p true).groupRefresh p := rfl

theorem Dev.view_ceilNone : (s.ceilNone p).view downFlds = s.view downFlds := by
  simp (disch := decide) [Dev.ceilNone]
theorem Dev.view_testsEnd (l : List Fld) (k : Lane) : (s.testsEnd k).view l = s.view l := by
  refine Dev.view_mono (k := []) ?_ (famSub_nil l)
  unfold Dev.testsEnd
  split <;> simp (disch := decide)
theorem Dev.view_dozeQuench : (s.dozeQuench p).view downFlds = s.view downFlds := by
  unfold Dev.dozeQuench
  simp only []
  split
  · simp (disch := decide)
  · split
    · simp (disch := decide) [Dev.dozeChecks]
    · rfl

theorem Dev.view_quenchDown : (s.quenchDown p).view downFlds = s.view downFlds := by
  unfold Dev.quenchDown
  refine (Dev.view_each (fun s k => s.view_testsEnd downFlds k) _ _).trans ?_
  simp (disch := decide) [Dev.view_ceilNone, Dev.view_dozeQuench]

theorem Dev.gates_quenchDown : (s.quenchDown p).gates = s.gates := by
  have hi (t : Dev) (b : Bool) : (t.iff b fun s => (s.modLink p fun l => { l with stopping := none }).modTx p fun t =>
      { t with stopping := false }).gates = t.gates := by cases b <;> rfl
  unfold Dev.quenchDown
  refine (Dev.each_keep (π := Dev.gates) (fun s k => s.gates_testsEnd k) _ _).trans ?_
  rw [Dev.gates_captureLost, Dev.gates_ceilNone, Dev.modTx_eq, Dev.gates_modPort, hi, Dev.gates_dozeQuench]

/-- A Quench takes a port down, and one that is down stays down. -/
theorem Dev.down_step (q : Port) (h : q = p ∨ s.Down q) : (((s.quenchDown p).gate p).toFault p 1).Down q := by
  have hg : (((s.quenchDown p).gate p).toFault p 1).pwr.gated = s.pwr.gated.set p true := by
    refine (Dev.gates_toFault _ _ _).trans ?_
    show (s.quenchDown p).gates.set p true = _
    rw [Dev.gates_quenchDown]
    rfl
  by_cases hq : q = p
  · subst hq
    exact ⟨Dev.linkState_toFault _ q, Dev.faultCause_toFault _ q, by rw [hg]; simp [Vector.get_eq_getElem]⟩
  · obtain ⟨hs, hc, hb⟩ := h.resolve_left hq
    obtain ⟨h1, h2⟩ := ((s.quenchDown p).gate p).toFault_other p hq
    have hv : ((s.quenchDown p).gate p).view downFlds = s.view downFlds := s.view_quenchDown p
    refine ⟨h1.trans ((Dev.get_inst_of_view hv (by decide) q).trans hs), h2.trans ((Dev.get_inst_of_view hv (by decide) q).trans hc), ?_⟩
    have : p.val ≠ q.val := fun e => hq (Fin.ext e.symm)
    rw [hg]
    simpa [Vector.get_eq_getElem, Vector.getElem_set_ne _ _ this] using hb

/-- What each step establishes or keeps for an item holds of the whole list for every item in it. -/
theorem Dev.each_all {α : Type} {P : Dev → α → Prop} {g : Dev → α → Dev} (h : ∀ s x y, y = x ∨ P s y → P (g s x) y)
    (l : List α) (s : Dev) {y : α} (hy : y ∈ l ∨ P s y) : P (s.each l g) y := by
  induction l generalizing s with
  | nil => exact hy.resolve_left List.not_mem_nil
  | cons x l ih =>
    refine ih (g s x) ?_
    rcases hy with hy | hy
    · rcases List.mem_cons.1 hy with rfl | hy
      · exact .inr (h s y y (.inl rfl))
      · exact .inl hy
    · exact .inr (h s x y (.inr hy))

theorem Dev.down_portsQuench (hd : s.inDoze p = false) (hg : s.pwr.gated.get p = false) : s.portsQuench.Down p := by
  have hl : p ∈ allPorts.filter fun p => !s.inDoze p && !s.pwr.gated.get p := by simp [allPorts, hd, hg]
  have h := Dev.each_all (P := Dev.Down) (fun s x y => s.down_step x y) _ s (.inl hl)
  rw [Dev.portsQuench_eq]
  refine h.of_view (l := downFlds) ?_ ?_ (by decide)
  · exact Dev.view_each (fun s p => by simp (disch := decide)) _ _
  · exact Dev.each_keep (π := Dev.gates) (fun s p => by rw [Dev.gates_groupRefresh, Dev.gates_txRefresh]) _ _
end

/-! ## What a Quench leaves of the thermal model -/

theorem Dev.thm_of_aside {a b : Dev} (h : a.aside = b.aside) : a.thm = b.thm := (congrArg Dev.thm h :)
theorem Dev.thm_of_rim {a b : Dev} (h : a.rim = b.rim) : a.thm = b.thm := (congrArg Dev.thm h :)

section
variable (s : Dev) (p : Port)
theorem Dev.thm_set (f : Fld) (v : Nat) : (s.set f v).thm = s.thm := rfl

theorem Dev.thm_auxHeldRefresh : s.auxHeldRefresh.thm = s.thm := by
  unfold Dev.auxHeldRefresh
  simp only [Dev.flag_eq, Dev.thm_set]
  exact Dev.each_keep (π := Dev.thm) (fun s c => s.thm_set _ _) _ s

theorem Dev.thm_dozeQuench : (s.dozeQuench p).thm = s.thm := by
  unfold Dev.dozeQuench Dev.dozeCut Dev.dozeChecks Dev.setWaking Dev.setDozing
  simp only []
  split
  · simp
  · split
    · simp
    · rfl

theorem Dev.thm_ceilNone : (s.ceilNone p).thm = s.thm :=
  (congrArg Dev.thm (Dev.outer_iterRefresh _ p) :)

theorem Dev.thm_quenchDown : (s.quenchDown p).thm = s.thm := by
  have ht (t : Dev) (k : Lane) : (t.testsEnd k).thm = t.thm := by
    unfold Dev.testsEnd
    split <;> rfl
  have hc (t : Dev) : (t.captureLost p).thm = t.thm := rfl
  unfold Dev.quenchDown
  refine (Dev.each_keep (π := Dev.thm) (fun s k => ht s k) _ _).trans ?_
  simp [hc, Dev.thm_ceilNone, Dev.thm_dozeQuench]

theorem Dev.thm_toFault (n : Nat) : (s.toFault p n).thm = s.thm := by simp [Dev.toFault]

theorem Dev.thm_portsQuench : s.portsQuench.thm = s.thm := by
  rw [Dev.portsQuench_eq]
  refine (Dev.each_keep (π := Dev.thm) (fun s p => by simp) _ _).trans ?_
  refine Dev.each_keep (π := Dev.thm) (fun s p => ?_) _ _
  exact (Dev.thm_toFault _ p 1).trans (s.thm_quenchDown p)
end

/-! ## The obligation -/

section
variable {s : State}

theorem Dev.each_id {α : Type} {g : Dev → α → Dev} (l : List α) (s : Dev) (h : l = []) : s.each l g = s := by
  subst h
  rfl

theorem quenchLfTimeEnd_flushes (h : s.dev.thm.orderly = 2) (hl : ∀ l : LoopNo, s.dev.loopState l = 0) :
    Answers .quenchLfTimeEnd s fun d => d.thm.orderly = 4 ∧ d.evr.due = true := by
  refine answers_of_run (rfl : _ = execQuenchLfTimeEnd s) ?_
  have ho : s.dev.fresh.thm.orderly = 2 := h
  have hn : ∀ t : Dev, t.regs = s.dev.regs → t.ramping = [] := fun t ht => by
    have (l : LoopNo) : t.loopState l = 0 := (Dev.get_eq ht _).trans (hl l)
    simp [Dev.ramping, this, blRamp]
  rw [if_pos ho]
  unfold Dev.rampStart
  extract_lets a b
  have hb : b = a := Dev.each_id _ _ <| by
    have (l : LoopNo) : a.loopState l = 0 := hl l
    simp [this, blRun, blArming, blFaultHold, blFaultClear]
  have hr : a.ramping = [] := hn a rfl
  have h3 : a.thm.orderly = 3 := rfl
  rw [hb]
  unfold Dev.rampCheck Dev.rampEnd
  simp [hr, h3, Dev.each_nil]

theorem quenchFlushDone_ends (h : s.dev.thm.orderly = 4) :
    Answers .quenchFlushDone s fun d => d.thm.orderly = 0 ∧ d.get THM_STATUS_STATE = 5 ∧ ∀ p : Port, s.dev.inDoze p =
      false → s.dev.pwr.gated.get p = false → d.linkState p = 7 ∧ d.get (LPn_LINK_STATUS_FAULT_CAUSE p) = 1 ∧
      d.pwr.gated.get p = true := by
  refine answers_of_run (rfl : _ = execQuenchFlushDone s) ?_
  rw [if_pos (show s.dev.fresh.thm.orderly = 4 from h)]
  unfold Dev.orderlyEnd
  extract_lets l a
  generalize hz : a.each l (·.bcePortOff ·) = z
  have hv : z.view loopFlds = a.view loopFlds := by
    rw [← hz]
    exact Dev.view_each (fun s p => s.view_bcePortOff p (by decide)) l a
  have ha : z.aside = a.aside := by
    rw [← hz]
    exact Dev.each_keep (π := Dev.aside) (fun s p => s.aside_bcePortOff p) l a
  have ht : z.thm = a.thm := Dev.thm_of_aside ha
  have h5 : (z.set THM_STATUS_STATE 5).get THM_STATUS_STATE = 5 := Dev.get_set_of_lt z (by decide)
  refine ⟨?_, by rw [Dev.get_settle, h5], fun p hd hg => ?_⟩
  · have hq : a.thm = (s.dev.fresh.modThm fun t => { t with orderly := 0 }).thm := Dev.thm_portsQuench _
    show z.thm.orderly = 0
    rw [ht, hq]
    rfl
  · have hp : a.Down p := Dev.down_portsQuench _ p hd hg
    have hz : z.Down p := hp.of_view hv (Dev.gates_of_aside ha) (by decide)
    exact hz.of_view (a := (z.set THM_STATUS_STATE 5).settle s.dev.mem) (l := [THM_STATUS_STATE])
      ((Dev.view_settle _ _ _).trans (Dev.view_set_fld (f := THM_STATUS_STATE) z 5 (by decide))) rfl (by decide)

theorem quenchHoldEnd_ends (h : s.dev.get THM_STATUS_STATE = 5) (hb : s.dev.thm.below95.isSome = true) :
    Answers .quenchHoldEnd s fun d => d.thm.hard = false ∧ d.get THM_STATUS_STATE = (if s.dev.throttled then 2 else if
      s.dev.warned then 1 else 0) := by
  refine answers_of_run (rfl : _ = execQuenchHoldEnd s) ?_
  rw [if_pos ⟨h, hb⟩]
  extract_lets a b
  have ha : a.thm = (s.dev.fresh.modThm fun t => { t with hard := false, below95 := none }).thm := Dev.thm_auxHeldRefresh _
  have hz : a.thm.zone = s.dev.thm.zone := by
    rw [ha]
    rfl
  have hh : b.thm.hard = false := by
    show a.thm.hard = false
    rw [ha]
    rfl
  have hk : (b.each allPorts fun d p => d.txRefresh p).rim = b.rim := Dev.each_keep (fun s p => s.rim_txRefresh p false) _ b
  have hv : (b.each allPorts fun d p => d.txRefresh p).view txFlds = b.view txFlds :=
    Dev.view_each (fun s p => by simp (disch := decide)) _ b
  have hth : (b.each allPorts fun d p => d.txRefresh p).thm = b.thm := Dev.thm_of_rim hk
  have hw : a.throttled = s.dev.throttled ∧ a.warned = s.dev.warned := by
    simp only [Dev.throttled, Dev.warned, hz]
    exact ⟨trivial, trivial⟩
  generalize (b.each allPorts fun d p => d.txRefresh p) = z at *
  refine ⟨by rw [Dev.settle_thm, hth, hh], ?_⟩
  rw [Dev.get_settle, Dev.get_of_view hv (by decide)]
  refine (Dev.get_set_of_lt a ?_).trans ?_
  · split
    · decide
    · split <;> decide
  · rw [hw.1, hw.2]
end

/-- Settles O39: a port that a Quench takes down stays down through the steps for the other ports. -/
theorem quenchSequence : Obligations.QuenchSequence :=
  ⟨fun _ => quenchLfTimeEnd_flushes, fun _ => quenchFlushDone_ends, fun _ => quenchHoldEnd_ends⟩

end Sys2Proof.Machine

/-! The general counters (14 R484–R497): what counting leaves alone, and the descriptors of the counters. -/

namespace Sys2Proof.Machine

-- One theorem at a time: side by side they ask for more memory than a check may have.
set_option Elab.async false

open Reg

/-! ## What a counter's step leaves alone -/

/-- A field that counting on counter m does not write, if the counter does not freeze: one of the counters' blocks that is not
its VALUE, OVF_COUNT or SAT, or one of the counters' status beside the number of samples. -/
def Fld.awayFrom (m : Nat) (f : Fld) : Prop :=
  f.lsb < 32 ∧ (f.off = 0xC000 ∧ f.lsb ≠ 22 ∨ 0xC100 ≤ f.off) ∧ f.off ≠ 0xC10C + 0x20 * m ∧ f.off ≠ 0xC110 + 0x20 * m ∧
  f.off ≠ 0xC114 + 0x20 * m ∧ ¬ (f.off = 0xC100 + 0x20 * m ∧ f.lsb = 8)

theorem Dev.get_iff_of {f : Fld} {g : Dev → Dev} (h : ∀ s, (g s).get f = s.get f) (b : Bool) (s : Dev) :
    (s.iff b g).get f = s.get f := by
  cases b
  exacts [rfl, h s]

section
variable (s : Dev) {m : Nat} {f : Fld}

/-- A write of a field outside the counters' blocks. -/
theorem Dev.get_set_low {g : Fld} (v : Nat) (hf : f.awayFrom m)
    (hg : g.lsb < 32 ∧ g.off < 0xC100 ∧ (g.off = 0xC000 → g.lsb = 22)) : (s.set g v).get f = s.get f := by
  obtain ⟨h1, h2, -⟩ := hf
  exact Dev.get_set_ne s v (by unfold Fld.key; omega)

theorem Dev.get_setCtrValue (v : Nat) (hf : f.awayFrom m) : (s.setCtrValue m v).get f = s.get f := by
  obtain ⟨h1, -, h2, h3, -⟩ := hf
  unfold Dev.setCtrValue
  rw [Dev.get_set_ne _ _ (by simp only [Fld.key, CTR_m_VAL_HI_VALUE]; omega),
    Dev.get_set_ne _ _ (by simp only [Fld.key, CTR_m_VAL_LO_VALUE]; omega)]

theorem Dev.get_set_ovf (v : Nat) (hf : f.awayFrom m) : (s.set (CTR_m_OVF_COUNT_OVF_COUNT m) v).get f = s.get f := by
  obtain ⟨h1, -, -, -, h2, -⟩ := hf
  exact Dev.get_set_ne _ _ (by simp only [Fld.key, CTR_m_OVF_COUNT_OVF_COUNT]; omega)

theorem Dev.get_set_sat (v : Nat) (hf : f.awayFrom m) : (s.set (CTR_m_CFG_SAT m) v).get f = s.get f := by
  obtain ⟨h1, -, -, -, -, h2⟩ := hf
  exact Dev.get_set_ne _ _ (by simp only [Fld.key, CTR_m_CFG_SAT]; omega)

theorem Dev.get_signal_away (v : Nat) (hf : f.awayFrom m) : (s.signal v).get f = s.get f := by
  have hm (s : Dev) : (s.signalMsix v).get f = s.get f := by
    unfold Dev.signalMsix
    split
    · simp only []
      split <;> rfl
    · rfl
  have hp (s : Dev) : (s.signalPin v).get f = s.get f := by
    unfold Dev.signalPin
    split <;> exact s.get_set_low _ hf (by decide)
  exact (Dev.get_iff_of (fun s => hp s) _ _).trans (Dev.get_iff_of (fun s => hm s) _ _)

theorem Dev.get_ctrSample (z : Bool) (hf : f.awayFrom m) : (s.ctrSample m z).get f = s.get f := by
  unfold Dev.ctrSample
  simp only []
  split
  · exact Dev.get_set_low _ _ hf (by decide)
  · exact (Dev.get_set_low _ _ hf (by decide)).trans (Dev.get_set_low _ _ hf (by decide))

theorem Dev.get_fireCaptures (k : Nat) : (s.each allPorts fun s p => s.iff ((s.prt p).cap.pc == m) (·.fireCapture p k)).get f =
    s.get f :=
  Dev.each_keep (π := fun s : Dev => s.get f) (fun s p => Dev.get_iff_of (fun s => by
    unfold Dev.fireCapture
    split <;> rfl) _ _) _ s

theorem freezeOnOvf_away (m : Nat) : (CTR_m_CFG_FREEZE_ON_OVF m).awayFrom m := by
  simp only [Fld.awayFrom, CTR_m_CFG_FREEZE_ON_OVF]
  omega

theorem Dev.get_ctrOverflow (hf : f.awayFrom m) (hz : s.get (CTR_m_CFG_FREEZE_ON_OVF m) = 0 ∨ f.off ≠ 0xC000) :
    (s.ctrOverflow m).get f = s.get f := by
  have hl {f g : Fld} (hf : f.awayFrom m) (hg : g.lsb < 32 ∧ g.off < 0xC100 ∧ (g.off = 0xC000 → g.lsb = 22)) (s : Dev) (v : Nat) :
      (s.set g v).get f = s.get f := s.get_set_low v hf hg
  unfold Dev.ctrOverflow
  extract_lets a b froze c d
  have hb {f : Fld} (hf : f.awayFrom m) : b.get f = s.get f := by
    refine (Dev.get_set_ovf a _ hf).trans ?_
    simp only [a]
    split <;> exact hl hf (by decide) _ _
  have hc : c.get f = b.get f := by
    rcases hz with hz | hz
    · have : froze = false := by simp [froze, hb (freezeOnOvf_away m), hz]
      simp only [c, this, Dev.iff_false]
    · obtain ⟨h1, h2, -⟩ := hf
      have hn {g : Fld} (hg : g.lsb < 32 ∧ g.off < 0xC100) (s : Dev) (v : Nat) : (s.set g v).get f = s.get f :=
        Dev.get_set_ne s v (by unfold Fld.key; omega)
      exact Dev.get_iff_of (fun s => (hn (by decide) _ _).trans ((hn (by decide) _ _).trans (hn (by decide) s _))) _ _
  refine (Dev.get_fireCaptures _ 6).trans ((Dev.get_iff_of (fun s => s.get_signal_away _ hf) _ _).trans ?_)
  exact (Dev.get_iff_of (fun s => s.get_ctrSample _ hf) _ _).trans (hc.trans (hb hf))

/-- Counting on a counter leaves the other counters' fields, and of its own all but VALUE, OVF_COUNT and SAT; and where it does
not freeze on overflow, the freeze as it is. -/
theorem Dev.get_ctrAdd (n : Nat) (hf : f.awayFrom m) (hz : s.get (CTR_m_CFG_FREEZE_ON_OVF m) = 0 ∨ f.off ≠ 0xC000) :
    (s.ctrAdd m n).get f = s.get f := by
  have hsat {f : Fld} (hf : f.awayFrom m) (s : Dev) (b : Bool) :
      (s.iff b fun s => (s.flag (CTR_m_CFG_SAT m) true).flag CTR_EVENTS_SAT true).get f = s.get f :=
    Dev.get_iff_of (fun s => (Dev.get_set_low _ _ hf (by decide)).trans (s.get_set_sat _ hf)) _ _
  have hd (f : Fld) (s : Dev) (b : Bool) (g : Ctrs → Ctrs) : (s.iff b fun s => s.modCtr g).get f = s.get f :=
    Dev.get_iff_of (g := fun s => s.modCtr g) (fun _ => rfl) _ _
  unfold Dev.ctrAdd
  split
  · rfl
  · extract_lets v top a v' limit reload done b c
    have hc {f : Fld} (hf : f.awayFrom m) : c.get f = s.get f :=
      (hd _ _ _ _).trans ((Dev.get_setCtrValue _ _ hf).trans (hsat hf _ _))
    split
    · exact (Dev.get_ctrOverflow c hf (hz.imp_left ((hc (freezeOnOvf_away m)).trans ·))).trans (hc hf)
    · exact (Dev.get_setCtrValue _ _ hf).trans (hsat hf _ _)

/-- While the counters are frozen nothing counts (14 R492). -/
theorem Dev.ctrAdd_frozen (n : Nat) (h : s.on CTR_STATUS_FROZEN = true) : s.ctrAdd m n = s := by
  unfold Dev.ctrAdd
  rw [if_pos (.inr h)]

end

/-! ## The snapshot and the samples -/

/-- The snapshot stays, and the samples taken stay first. -/
def Dev.SamplesFrom (a b : Dev) : Prop := a.ctr.snap = b.ctr.snap ∧ b.ctr.samples <+: a.ctr.samples

theorem Dev.SamplesFrom.of_ctr {a b : Dev} (h : a.ctr = b.ctr) : a.SamplesFrom b := by
  rw [Dev.SamplesFrom, h]
  exact ⟨rfl, List.prefix_rfl⟩

theorem Dev.SamplesFrom.trans {a b c : Dev} (h : a.SamplesFrom b) (k : b.SamplesFrom c) : a.SamplesFrom c :=
  ⟨h.1.trans k.1, k.2.trans h.2⟩

theorem Dev.ctr_of_iff {g : Dev → Dev} (h : ∀ s, (g s).ctr = s.ctr) (b : Bool) (s : Dev) : (s.iff b g).ctr = s.ctr := by
  cases b
  exacts [rfl, h s]

theorem Dev.SamplesFrom.of_iff {g : Dev → Dev} (h : ∀ s, (g s).SamplesFrom s) (b : Bool) (s : Dev) : (s.iff b g).SamplesFrom s := by
  cases b
  exacts [.of_ctr rfl, h s]

section
variable (s : Dev)

theorem Dev.ctr_signalMsix (v : Nat) : (s.signalMsix v).ctr = s.ctr := by
  unfold Dev.signalMsix
  split
  · simp only []
    split <;> rfl
  · rfl

theorem Dev.ctr_signalPin (v : Nat) : (s.signalPin v).ctr = s.ctr := by
  unfold Dev.signalPin
  split <;> rfl

theorem Dev.ctr_signal (v : Nat) : (s.signal v).ctr = s.ctr :=
  (Dev.ctr_of_iff (fun s => s.ctr_signalPin v) _ _).trans (Dev.ctr_of_iff (fun s => s.ctr_signalMsix v) _ _)

theorem Dev.ctr_fireCaptures (m k : Nat) : (s.each allPorts fun s p => s.iff ((s.prt p).cap.pc == m) (·.fireCapture p k)).ctr = s.ctr :=
  Dev.each_keep (π := Dev.ctr) (fun s p => Dev.ctr_of_iff (fun s => by
    unfold Dev.fireCapture
    split <;> rfl) _ _) _ s

theorem Dev.samples_ctrSample (m : Nat) (z : Bool) : (s.ctrSample m z).SamplesFrom s := by
  unfold Dev.ctrSample
  simp only []
  split
  · exact ⟨rfl, List.prefix_append _ _⟩
  · exact .of_ctr rfl

theorem Dev.samples_ctrOverflow (m : Nat) : (s.ctrOverflow m).SamplesFrom s := by
  unfold Dev.ctrOverflow
  extract_lets a b froze c d
  have hc : c.ctr = s.ctr := by
    refine (Dev.ctr_of_iff (g := fun s => ((s.flag CTR_STATUS_FROZEN true).set CTR_STATUS_FREEZE_CAUSE 2).flag CTR_EVENTS_FREEZE_OVF
      true) (fun _ => rfl) _ _).trans ?_
    show a.ctr = s.ctr
    simp only [a]
    split <;> rfl
  refine .trans (.of_ctr ((Dev.ctr_fireCaptures _ m 6).trans (Dev.ctr_of_iff (fun s => s.ctr_signal _) _ _))) ?_
  exact .trans (.of_iff (fun s => s.samples_ctrSample m froze) _ _) (.of_ctr hc)

theorem Dev.samples_ctrAdd (m n : Nat) : (s.ctrAdd m n).SamplesFrom s := by
  have hd (s : Dev) (b : Bool) :
      (s.iff b fun s => s.modCtr fun c => { c with done := c.done.set (Fin.ofNat 64 m) true }).SamplesFrom s :=
    .of_iff (g := fun s => s.modCtr fun c => { c with done := c.done.set (Fin.ofNat 64 m) true })
      (fun s => ⟨rfl, List.prefix_rfl⟩) _ _
  have hs (s : Dev) (b : Bool) : (s.iff b fun s => (s.flag (CTR_m_CFG_SAT m) true).flag CTR_EVENTS_SAT true).ctr = s.ctr :=
    Dev.ctr_of_iff (g := fun s => (s.flag (CTR_m_CFG_SAT m) true).flag CTR_EVENTS_SAT true) (fun _ => rfl) _ _
  have hv (s : Dev) (v : Nat) : (s.setCtrValue m v).ctr = s.ctr := rfl
  unfold Dev.ctrAdd
  split
  · exact .of_ctr rfl
  · extract_lets v top a v' limit reload done b c
    split
    · exact (c.samples_ctrOverflow m).trans ((hd _ _).trans (.of_ctr ((hv _ _).trans (hs _ _))))
    · exact .of_ctr ((hv _ _).trans (hs _ _))
end

/-! ## Counting by all the counters that watch a source -/

/-- What every step on a counter that watches the source keeps, counting keeps. -/
theorem Dev.count_keep {P : Dev → Prop} {code inst n : Nat} (h : ∀ s m, m < 64 → s.get (CTR_m_CFG_EVENT m) = code → P s → P (s.ctrAdd m n))
    {s : Dev} (hs : P s) : P (s.count code inst n) := by
  have hl : ∀ (l : List Nat) (s : Dev), (∀ m ∈ l, m < 64) → P s → P (s.each l fun s m =>
      if s.ctrMatches m code inst ∧ s.get (CTR_m_CFG_MODE m) = 0 then s.ctrAdd m n else s) := by
    intro l
    induction l with
    | nil => exact fun _ _ hs => hs
    | cons m l ih =>
      intro s hl hs
      refine ih _ (fun k hk => hl k (.tail _ hk)) ?_
      dsimp only
      split
      next hm =>
        have he : s.get (CTR_m_CFG_EVENT m) = code := by
          have := hm.1
          simp only [Dev.ctrMatches, Bool.and_eq_true, beq_iff_eq] at this
          exact this.1
        exact h s m (hl m (.head _)) he hs
      next => exact hs
  exact hl _ s (fun m hm => List.mem_range.1 hm) hs

theorem Dev.sample_keep {P : Dev → Prop} {code inst q : Nat} (h : ∀ s m n, m < 64 → s.get (CTR_m_CFG_EVENT m) = code → P s → P (s.ctrAdd m n))
    {s : Dev} (hs : P s) : P (s.sample code inst q) := by
  have hl : ∀ (l : List Nat) (s : Dev), (∀ m ∈ l, m < 64) → P s → P (s.each l fun s m =>
      if s.ctrMatches m code inst then
        let n := s.get (CTR_m_N_VALUE m)
        match s.get (CTR_m_CFG_MODE m) with
        | 0 => s.ctrAdd m 1
        | 1 => if n < q then s.ctrAdd m 1 else s
        | 2 => if q < n then s.ctrAdd m 1 else s
        | 3 => s.ctrAdd m q
        | _ => s
      else s) := by
    intro l
    induction l with
    | nil => exact fun _ _ hs => hs
    | cons m l ih =>
      intro s hl hs
      refine ih _ (fun k hk => hl k (.tail _ hk)) ?_
      dsimp only
      split
      next hm =>
        have he : s.get (CTR_m_CFG_EVENT m) = code := by
          simp only [Dev.ctrMatches, Bool.and_eq_true, beq_iff_eq] at hm
          exact hm.1
        have ha (n : Nat) : P (s.ctrAdd m n) := h s m n (hl m (.head _)) he hs
        split
        · exact ha 1
        · split
          exacts [ha 1, hs]
        · split
          exacts [ha 1, hs]
        · exact ha q
        · exact hs
      next => exact hs
  exact hl _ s (fun m hm => List.mem_range.1 hm) hs

/-! ## Completions -/

/-- Two devices with the same counters. -/
def Dev.Tally (a b : Dev) : Prop := (∀ f : Fld, 0xC000 ≤ f.off ∧ f.lsb < 32 → a.get f = b.get f) ∧ a.ctr = b.ctr

theorem Dev.Tally.trans {a b c : Dev} (h : a.Tally b) (k : b.Tally c) : a.Tally c :=
  ⟨fun f hf => (h.1 f hf).trans (k.1 f hf), h.2.trans k.2⟩
theorem Dev.Tally.of_regs {a b : Dev} (h : a.regs = b.regs) (k : a.ctr = b.ctr) : a.Tally b := ⟨fun f _ => Dev.get_eq h f, k⟩

theorem Dev.Tally.of_iff {g : Dev → Dev} (h : ∀ s, (g s).Tally s) (b : Bool) (s : Dev) : (s.iff b g).Tally s := by
  cases b
  exacts [.of_regs rfl rfl, h s]

theorem Dev.Tally.of_each {α : Type} {g : Dev → α → Dev} (h : ∀ s x, (g s x).Tally s) (l : List α) (s : Dev) : (s.each l g).Tally s := by
  induction l generalizing s with
  | nil => exact .of_regs rfl rfl
  | cons x l ih => exact (ih _).trans (h s x)

section
variable (s : Dev)
theorem Dev.tally_set {g : Fld} (v : Nat) (hg : g.off < 0xC000 ∧ g.lsb < 32) : (s.set g v).Tally s :=
  ⟨fun f hf => Dev.get_set_ne s v (by unfold Fld.key; omega), rfl⟩
theorem Dev.tally_putWord (i : MemId) (w : Nat) (x : MWord) : (s.putWord i w x).Tally s := .of_regs rfl rfl
theorem Dev.tally_write (w : MemWrite) : (s.write w).Tally s := .of_regs rfl rfl
theorem Dev.tally_busyWith (c : Option (Nat × Nat)) : (s.busyWith c).Tally s := .of_regs rfl rfl
theorem Dev.tally_lastCpl (c : Option (Nat × Cpl)) : ({ s with lastCpl := c } : Dev).Tally s := .of_regs rfl rfl
theorem Dev.tally_hostWrite (a : Nat) (b : List Byte) : (s.hostWrite a b).Tally s := .of_each (fun s _ => s.tally_write _) _ s
theorem Dev.tally_setRing (r : Nat) (c : RingCtx) : (s.setRing r c).Tally s := by
  refine (Dev.Tally.of_each (fun s k => ?_) _ _).trans (.of_regs rfl rfl)
  split
  exacts [.of_regs rfl rfl, s.tally_putWord _ _ _]
theorem Dev.tally_signalRing (o v : Nat) : (s.signalRing o v).Tally s := by
  unfold Dev.signalRing
  split
  · unfold Dev.signalMsix
    split
    · simp only []
      split <;> exact .of_regs rfl rfl
    · exact .of_regs rfl rfl
  · unfold Dev.signalPin
    split <;> exact s.tally_set _ (by decide)
theorem Dev.tally_coalesce (r : Nat) : (s.coalesce r).Tally s := by
  unfold Dev.coalesce
  simp only []
  split
  · exact (Dev.tally_signalRing _ _ _).trans (s.tally_setRing _ _)
  · exact s.tally_setRing _ _
theorem Dev.tally_putEntry (r : Nat) (e : Bool → List Byte) : (s.putEntry r e).Tally s := by
  unfold Dev.putEntry
  simp only []
  refine (Dev.tally_setRing _ _ _).trans ?_
  split
  · exact s.tally_hostWrite _ _
  · exact .of_each (fun s _ => s.tally_putWord _ _ _) _ s
theorem Dev.tally_postCpl (r : Nat) (c : Cpl) : (s.postCpl r c).Tally s := by
  unfold Dev.postCpl
  simp only []
  split
  · exact .of_regs rfl rfl
  · split
    · exact .of_regs rfl rfl
    · exact (Dev.tally_coalesce _ r).trans (s.tally_putEntry r _)
theorem Dev.tally_opened (d : Desc) : (s.opened d).Tally s := by
  unfold Dev.opened
  exact (Dev.tally_busyWith _ _).trans (.of_iff (fun s => s.tally_setRing _ _) _ s)

/-- A completion leaves the counters as they are but for its own count and its time. -/
theorem Dev.finish_tally (d : Desc) (st r : Nat) : ∃ (t : Dev) (q : Nat), s.finish d st r = (t.count 0x05 0).sample 0x07 0 q ∧ t.Tally s := by
  refine ⟨_, _, rfl, ?_⟩
  refine (Dev.tally_lastCpl _ _).trans (.of_iff (fun s => ?_) _ s)
  exact (Dev.Tally.of_iff (fun s => s.tally_postCpl _ _) _ _).trans (s.tally_setRing _ _)
end

/-- What counting on a counter that watches completions keeps, a completion keeps. -/
theorem Dev.finish_keep {P : Dev → Prop} (hp : ∀ a b : Dev, a.Tally b → P b → P a)
    (h : ∀ s m n, m < 64 → s.get (CTR_m_CFG_EVENT m) = 0x05 ∨ s.get (CTR_m_CFG_EVENT m) = 0x07 → P s → P (s.ctrAdd m n))
    {s : Dev} (hs : P s) (d : Desc) (st r : Nat) : P (s.finish d st r) := by
  obtain ⟨t, q, he, ht⟩ := s.finish_tally d st r
  rw [he]
  exact Dev.sample_keep (fun s m n hm hv => h s m n hm (.inr hv))
    (Dev.count_keep (fun s m hm hv => h s m _ hm (.inl hv)) (hp t s ht hs))

end Sys2Proof.Machine

/-! The descriptors of the general counters (14 R493–R497). -/

namespace Sys2Proof.Machine

-- One theorem at a time: side by side they ask for more memory than a check may have.
set_option Elab.async false

open Reg

/-! ## What a completion leaves of the counters -/

section
variable {s : Dev} (d : Desc) (st r : Nat)

/-- A field of a counter's configuration, or of another counter. -/
theorem Dev.get_finish_ctr {f : Fld} (hf : ∀ m < 64, f.awayFrom m) (h : f.off ≠ 0xC000) : (s.finish d st r).get f = s.get f := by
  have ho : 0xC000 ≤ f.off ∧ f.lsb < 32 := by
    obtain ⟨h1, h2, -⟩ := hf 0 (by decide)
    omega
  refine Dev.finish_keep (P := fun t => t.get f = s.get f) (fun a b h hb => (h.1 f ho).trans hb) (fun t m n hm _ ht => ?_) rfl d st r
  exact (t.get_ctrAdd n (hf m hm) (.inr h)).trans ht

/-- A counter that watches a source of 0x20 or above counts no completion. -/
theorem Dev.value_finish {j : Nat} (he : 0x20 ≤ s.get (CTR_m_CFG_EVENT j)) :
    (s.finish d st r).ctrValue j = s.ctrValue j ∧
    (s.finish d st r).get (CTR_m_OVF_COUNT_OVF_COUNT j) = s.get (CTR_m_OVF_COUNT_OVF_COUNT j) := by
  have ho : ∀ f ∈ [CTR_m_CFG_EVENT j, CTR_m_VAL_LO_VALUE j, CTR_m_VAL_HI_VALUE j, CTR_m_OVF_COUNT_OVF_COUNT j],
      0xC000 ≤ f.off ∧ f.lsb < 32 := by
    simp [CTR_m_CFG_EVENT, CTR_m_VAL_LO_VALUE, CTR_m_VAL_HI_VALUE, CTR_m_OVF_COUNT_OVF_COUNT]
    omega
  have ha : ∀ m, m ≠ j → ∀ f ∈ [CTR_m_CFG_EVENT j, CTR_m_VAL_LO_VALUE j, CTR_m_VAL_HI_VALUE j, CTR_m_OVF_COUNT_OVF_COUNT j],
      f.awayFrom m ∧ f.off ≠ 0xC000 := by
    intro m hm
    simp only [List.mem_cons, List.not_mem_nil, or_false, forall_eq_or_imp, forall_eq, Fld.awayFrom, CTR_m_CFG_EVENT,
      CTR_m_VAL_LO_VALUE, CTR_m_VAL_HI_VALUE, CTR_m_OVF_COUNT_OVF_COUNT]
    omega
  have hk := Dev.finish_keep (s := s) (P := fun t => ∀ f ∈ [CTR_m_CFG_EVENT j, CTR_m_VAL_LO_VALUE j, CTR_m_VAL_HI_VALUE j,
    CTR_m_OVF_COUNT_OVF_COUNT j], t.get f = s.get f) (fun a b h hb f hf => (h.1 f (ho f hf)).trans (hb f hf))
    (fun t m n _ hm ht f hf => by
      have hne : m ≠ j := by
        rintro rfl
        have := ht _ (.head _)
        omega
      obtain ⟨hx, hy⟩ := ha m hne f hf
      exact (t.get_ctrAdd n hx (.inr hy)).trans (ht f hf)) (fun _ _ => rfl) d st r
  simp only [List.mem_cons, List.not_mem_nil, or_false, forall_eq_or_imp, forall_eq] at hk
  obtain ⟨-, hl, hh, hv⟩ := hk
  exact ⟨by simp only [Dev.ctrValue, hl, hh], hv⟩

/-- The snapshot stays, and the samples taken stay first. -/
theorem Dev.samples_finish (s : Dev) (d : Desc) (st r : Nat) : (s.finish d st r).SamplesFrom s :=
  Dev.finish_keep (P := fun t => t.SamplesFrom s) (fun _ _ h hb => (Dev.SamplesFrom.of_ctr h.2).trans hb)
    (fun t m n _ _ ht => (t.samples_ctrAdd m n).trans ht) (.of_ctr rfl) d st r

/-- A freeze of the counters lasts through a completion. -/
theorem Dev.frozen_finish (h : s.get CTR_STATUS_FROZEN = 1) : (s.finish d st r).get CTR_STATUS_FROZEN = 1 ∧
    (s.finish d st r).get CTR_STATUS_FREEZE_CAUSE = s.get CTR_STATUS_FREEZE_CAUSE := by
  refine Dev.finish_keep (P := fun t => t.get CTR_STATUS_FROZEN = 1 ∧ t.get CTR_STATUS_FREEZE_CAUSE = s.get CTR_STATUS_FREEZE_CAUSE)
    (fun a b h ⟨h1, h2⟩ => ⟨(h.1 _ (by decide)).trans h1, (h.1 _ (by decide)).trans h2⟩) (fun t m n _ _ ht => ?_) ⟨h, rfl⟩ d st r
  rwa [t.ctrAdd_frozen n (by simp [ht.1])]

/-- Where no counter freezes on overflow, a completion leaves the freeze as it is. -/
theorem Dev.unfrozen_finish (h : ∀ m, m < 64 → s.get (CTR_m_CFG_FREEZE_ON_OVF m) = 0) {f : Fld}
    (hf : f = CTR_STATUS_FROZEN ∨ f = CTR_STATUS_FREEZE_CAUSE) : (s.finish d st r).get f = s.get f := by
  have ho : 0xC000 ≤ f.off ∧ f.lsb < 32 := by rcases hf with rfl | rfl <;> decide
  have ha (m : Nat) : f.awayFrom m := by
    rcases hf with rfl | rfl <;> simp [Fld.awayFrom, CTR_STATUS_FROZEN, CTR_STATUS_FREEZE_CAUSE] <;> omega
  have hz (m : Nat) : 0xC000 ≤ (CTR_m_CFG_FREEZE_ON_OVF m).off ∧ (CTR_m_CFG_FREEZE_ON_OVF m).lsb < 32 := by
    simp [CTR_m_CFG_FREEZE_ON_OVF]
    omega
  have hw (m k : Nat) : (CTR_m_CFG_FREEZE_ON_OVF m).awayFrom k ∧ (CTR_m_CFG_FREEZE_ON_OVF m).off ≠ 0xC000 := by
    simp only [Fld.awayFrom, CTR_m_CFG_FREEZE_ON_OVF]
    omega
  refine (Dev.finish_keep (P := fun t => (∀ m, m < 64 → t.get (CTR_m_CFG_FREEZE_ON_OVF m) = 0) ∧ t.get f = s.get f)
    (fun a b h ⟨h1, h2⟩ => ⟨fun m hm => (h.1 _ (hz m)).trans (h1 m hm), (h.1 _ ho).trans h2⟩) (fun t m n hm _ ht => ?_) ⟨h, rfl⟩ d st r).2
  obtain ⟨h1, h2⟩ := ht
  exact ⟨fun k hk => (t.get_ctrAdd n (hw k m).1 (.inr (hw k m).2)).trans (h1 k hk),
    (t.get_ctrAdd n (ha m) (.inl (h1 m hm))).trans h2⟩

end

/-! ## A counter cleared -/

section
variable (s : Dev) (m : Nat)

theorem Dev.get_ctrZero {f : Fld} (hf : f.awayFrom m) : (s.ctrZero m).get f = s.get f :=
  (Dev.get_set_sat _ 0 hf).trans ((Dev.get_set_ovf _ 0 hf).trans (s.get_setCtrValue 0 hf))

theorem Dev.ctrValue_setCtrValue (v : Nat) (h : v < 2 ^ 64) : (s.setCtrValue m v).ctrValue m = v := by
  have hne : (CTR_m_VAL_HI_VALUE m).key ≠ (CTR_m_VAL_LO_VALUE m).key := by
    simp only [Fld.key, CTR_m_VAL_HI_VALUE, CTR_m_VAL_LO_VALUE]
    omega
  have hw : (CTR_m_VAL_HI_VALUE m).width = 32 ∧ (CTR_m_VAL_LO_VALUE m).width = 32 := ⟨rfl, rfl⟩
  simp only [Dev.ctrValue, Dev.setCtrValue, Dev.get_set_self, Dev.get_set_ne _ _ hne, hw]
  omega

theorem Dev.ctrValue_of_gets {a b : Dev} (h : ∀ f ∈ [CTR_m_VAL_LO_VALUE m, CTR_m_VAL_HI_VALUE m], a.get f = b.get f) :
    a.ctrValue m = b.ctrValue m := by
  simp only [List.mem_cons, List.not_mem_nil, or_false, forall_eq_or_imp, forall_eq] at h
  simp only [Dev.ctrValue, h]

theorem Dev.zero_ctrZero : (s.ctrZero m).ctrValue m = 0 ∧ (s.ctrZero m).get (CTR_m_OVF_COUNT_OVF_COUNT m) = 0 := by
  have hs : ∀ f ∈ [CTR_m_VAL_LO_VALUE m, CTR_m_VAL_HI_VALUE m, CTR_m_OVF_COUNT_OVF_COUNT m], (CTR_m_CFG_SAT m).key ≠ f.key := by
    simp only [List.mem_cons, List.not_mem_nil, or_false, forall_eq_or_imp, forall_eq, Fld.key, CTR_m_VAL_LO_VALUE,
      CTR_m_VAL_HI_VALUE, CTR_m_OVF_COUNT_OVF_COUNT, CTR_m_CFG_SAT]
    omega
  have ho : ∀ f ∈ [CTR_m_VAL_LO_VALUE m, CTR_m_VAL_HI_VALUE m], (CTR_m_OVF_COUNT_OVF_COUNT m).key ≠ f.key := by
    simp only [List.mem_cons, List.not_mem_nil, or_false, forall_eq_or_imp, forall_eq, Fld.key, CTR_m_VAL_LO_VALUE,
      CTR_m_VAL_HI_VALUE, CTR_m_OVF_COUNT_OVF_COUNT]
    omega
  constructor
  · refine (Dev.ctrValue_of_gets m (b := s.setCtrValue m 0) fun f hf => ?_).trans (s.ctrValue_setCtrValue m 0 (by decide))
    have hf' : f ∈ [CTR_m_VAL_LO_VALUE m, CTR_m_VAL_HI_VALUE m, CTR_m_OVF_COUNT_OVF_COUNT m] := by
      simp only [List.mem_cons, List.not_mem_nil, or_false] at hf ⊢
      exact hf.imp_right .inl
    exact ((s.setCtrValue m 0).set (CTR_m_OVF_COUNT_OVF_COUNT m) 0).get_set_ne (bnat false) (hs f hf') |>.trans (Dev.get_set_ne _ _ (ho f hf))
  · exact (((s.setCtrValue m 0).set (CTR_m_OVF_COUNT_OVF_COUNT m) 0).get_set_ne (bnat false) (hs _ (by simp))).trans
      (Dev.get_set_self _ _ _)

/-- A register past the counters' status is read alike once the descriptor is open. -/
theorem Dev.get_opened_ctr (d : Desc) {f : Fld} (h : 0xC000 ≤ f.off ∧ f.lsb < 32) : (s.opened d).get f = s.get f :=
  (s.tally_opened d).1 f h

theorem Dev.ctrValue_opened (d : Desc) : (s.opened d).ctrValue m = s.ctrValue m :=
  Dev.ctrValue_of_gets m fun f hf => s.get_opened_ctr d (by
    simp only [List.mem_cons, List.not_mem_nil, or_false] at hf
    rcases hf with rfl | rfl <;> simp only [CTR_m_VAL_LO_VALUE, CTR_m_VAL_HI_VALUE] <;> omega)
end

/-- What is configured of a counter is no counter's running state. -/
theorem cfg_awayFrom (k m : Nat) : (CTR_m_CFG_EVENT m).awayFrom k ∧ (CTR_m_CFG_MODE m).awayFrom k ∧ (CTR_m_LIMIT_VALUE m).awayFrom k := by
  simp only [Fld.awayFrom, CTR_m_CFG_EVENT, CTR_m_CFG_MODE, CTR_m_LIMIT_VALUE]
  omega

/-- A completion's result has 32 bits. -/
theorem completed_mod {s : Dev} {c : Desc} {st r : Nat} (h : s.Completed c st r) : s.Completed c st (r % 2 ^ 32) := by
  obtain ⟨t, h⟩ := h
  exact ⟨t, by rw [h]; simp only [completionOf, Nat.mod_mod]⟩

section
variable (s : Dev) (m : Mem) (c : Option (Nat × Nat)) (k : Nat)
theorem Dev.ctrValue_settle : (s.settle m).ctrValue k = s.ctrValue k := rfl
theorem Dev.ctrValue_busyWith : (s.busyWith c).ctrValue k = s.ctrValue k := rfl
theorem Dev.ctr_settle : (s.settle m).ctr = s.ctr := rfl
theorem Dev.ctr_busyWith : (s.busyWith c).ctr = s.ctr := rfl
end

/-- A mask of n bits that is not 0 has one of them. -/
theorem maskList_ne_nil {n k : Nat} (h : k ≠ 0) (hk : k < 2 ^ n) : maskList n k ≠ [] := by
  obtain ⟨i, hi⟩ := Nat.exists_testBit_of_ne_zero h
  refine List.ne_nil_of_mem (a := i) (List.mem_filter.2 ⟨List.mem_range.2 ?_, ?_⟩)
  · by_contra hn
    rw [Nat.testBit_eq_false_of_lt (hk.trans_le (Nat.pow_le_pow_right (by decide) (by omega)))] at hi
    cases hi
  · rw [Nat.testBit_eq_decide_div_mod_eq] at hi
    simpa [bitOf] using hi

/-! ## A snapshot -/

/-- What a step does for one entry of a list, and every step keeps, holds in the end. -/
theorem Dev.each_of_mem {α : Type} {P : Dev → Prop} {g : Dev → α → Dev} {a : α} (h : ∀ s, P (g s a)) (hk : ∀ s x, P s → P (g s x))
    {l : List α} (ha : a ∈ l) (s : Dev) : P (s.each l g) := by
  have hkeep (l : List α) : ∀ s : Dev, P s → P (s.each l g) := by
    induction l with
    | nil => exact fun s hs => hs
    | cons x l ih => exact fun s hs => ih _ (hk s x hs)
  induction l generalizing s with
  | nil => exact absurd ha List.not_mem_nil
  | cons x l ih =>
    rcases List.mem_cons.1 ha with rfl | ha
    · exact hkeep l _ (h s)
    · exact ih ha _

/-- A counter's value and overflow count set to 0. -/
def Dev.ctrNull (s : Dev) (m : Nat) : Dev := (s.setCtrValue m 0).set (CTR_m_OVF_COUNT_OVF_COUNT m) 0

/-- The counters' values and overflow counts. -/
def Dev.ctrBank (s : Dev) : Vector (Nat × Nat) 64 :=
  Vector.ofFn fun i => (s.ctrValue i.val, s.get (CTR_m_OVF_COUNT_OVF_COUNT i.val))

/-- The time and the number of a snapshot. -/
def Dev.snapStamp (s : Dev) : Dev :=
  let s := (s.set CTR_SNAP_TIME_LO_TIME s.timebase).set CTR_SNAP_TIME_HI_TIME (s.timebase / 2 ^ 32)
  s.set CTR_STATUS_SNAP_SEQ (s.get CTR_STATUS_SNAP_SEQ + 1)

/-- The device with the counters copied, at the time and with the number of the snapshot. -/
def Dev.snapped (s : Dev) : Dev := (s.modCtr fun c => { c with snap := s.ctrBank }).snapStamp

theorem Dev.ctrSnap_eq (s : Dev) (clear : Bool) : s.ctrSnap clear = s.snapped.iff clear fun s => s.each (List.range 64) Dev.ctrNull := rfl

section
variable (s : Dev)

theorem Dev.get_ctrNull (m : Nat) {f : Fld} (hf : f.awayFrom m) : (s.ctrNull m).get f = s.get f :=
  (Dev.get_set_ovf _ 0 hf).trans (s.get_setCtrValue 0 hf)

theorem Dev.null_ctrNull (m : Nat) : (s.ctrNull m).ctrValue m = 0 ∧ (s.ctrNull m).get (CTR_m_OVF_COUNT_OVF_COUNT m) = 0 := by
  refine ⟨(Dev.ctrValue_of_gets m fun f hf => ?_).trans (s.ctrValue_setCtrValue m 0 (by decide)),
    (Dev.get_set_self (s.setCtrValue m 0) _ 0).trans (Nat.zero_mod _)⟩
  refine Dev.get_set_ne _ _ ?_
  simp only [List.mem_cons, List.not_mem_nil, or_false] at hf
  rcases hf with rfl | rfl <;> simp only [Fld.key, CTR_m_VAL_LO_VALUE, CTR_m_VAL_HI_VALUE, CTR_m_OVF_COUNT_OVF_COUNT] <;> omega

/-- The running state of a counter is none of another. -/
theorem state_awayFrom {k m : Nat} (h : k ≠ m) : (CTR_m_VAL_LO_VALUE m).awayFrom k ∧ (CTR_m_VAL_HI_VALUE m).awayFrom k ∧
    (CTR_m_OVF_COUNT_OVF_COUNT m).awayFrom k := by
  simp only [Fld.awayFrom, CTR_m_VAL_LO_VALUE, CTR_m_VAL_HI_VALUE, CTR_m_OVF_COUNT_OVF_COUNT]
  omega

theorem Dev.null_of_each {i : Nat} (hi : i < 64) : (s.each (List.range 64) Dev.ctrNull).ctrValue i = 0 ∧
    (s.each (List.range 64) Dev.ctrNull).get (CTR_m_OVF_COUNT_OVF_COUNT i) = 0 := by
  refine Dev.each_of_mem (a := i) (g := Dev.ctrNull) (P := fun s => s.ctrValue i = 0 ∧ s.get (CTR_m_OVF_COUNT_OVF_COUNT i) = 0)
    (fun s => s.null_ctrNull i) (fun s k hs => ?_) (List.mem_range.2 hi) s
  by_cases hk : k = i
  · exact hk ▸ s.null_ctrNull k
  · obtain ⟨hl, hh, ho⟩ := state_awayFrom hk
    exact ⟨(Dev.ctrValue_of_gets i fun f hf => by
      simp only [List.mem_cons, List.not_mem_nil, or_false] at hf
      rcases hf with rfl | rfl
      exacts [s.get_ctrNull k hl, s.get_ctrNull k hh]).trans hs.1, (s.get_ctrNull k ho).trans hs.2⟩

theorem Dev.get_snapStamp {f : Fld} (h : 0xC100 ≤ f.off ∧ f.lsb < 32) : s.snapStamp.get f = s.get f := by
  have hk : ∀ g ∈ [CTR_SNAP_TIME_LO_TIME, CTR_SNAP_TIME_HI_TIME, CTR_STATUS_SNAP_SEQ], g.key ≠ f.key := by
    simp only [List.mem_cons, List.not_mem_nil, or_false, forall_eq_or_imp, forall_eq, Fld.key, CTR_SNAP_TIME_LO_TIME,
      CTR_SNAP_TIME_HI_TIME, CTR_STATUS_SNAP_SEQ]
    omega
  unfold Dev.snapStamp
  dsimp only
  rw [Dev.get_set_ne _ _ (hk _ (by simp)), Dev.get_set_ne _ _ (hk _ (by simp)), Dev.get_set_ne _ _ (hk _ (by simp))]

theorem Dev.regs_modCtr (g : Ctrs → Ctrs) : (s.modCtr g).regs = s.regs := rfl

theorem Dev.get_snapped {f : Fld} (h : 0xC100 ≤ f.off ∧ f.lsb < 32) : s.snapped.get f = s.get f :=
  (Dev.get_snapStamp _ h).trans (Dev.get_eq (s.regs_modCtr _) f)

theorem Dev.seq_snapStamp : s.snapStamp.get CTR_STATUS_SNAP_SEQ = (s.get CTR_STATUS_SNAP_SEQ + 1) % 2 ^ 16 := by
  unfold Dev.snapStamp
  dsimp only
  rw [Dev.get_set_self, Dev.get_set_ne _ _ (by decide), Dev.get_set_ne _ _ (by decide)]
  simp only [show CTR_STATUS_SNAP_SEQ.width = 16 from rfl]

theorem Dev.seq_snapped : s.snapped.get CTR_STATUS_SNAP_SEQ = (s.get CTR_STATUS_SNAP_SEQ + 1) % 2 ^ 16 := by
  rw [Dev.snapped, Dev.seq_snapStamp, Dev.get_eq (s.regs_modCtr _) CTR_STATUS_SNAP_SEQ]

theorem Dev.ctr_each_null (l : List Nat) : (s.each l Dev.ctrNull).ctr = s.ctr :=
  Dev.each_keep (π := Dev.ctr) (g := Dev.ctrNull) (fun _ _ => rfl) l s

theorem Dev.ctr_snapStamp : s.snapStamp.ctr = s.ctr := rfl

theorem Dev.snap_snapped : s.snapped.ctr.snap = s.ctrBank := by
  rw [Dev.snapped, Dev.ctr_snapStamp]
  rfl

theorem Dev.ctrBank_get (i : Fin 64) : s.ctrBank.get i = (s.ctrValue i.val, s.get (CTR_m_OVF_COUNT_OVF_COUNT i.val)) := by
  simp [Dev.ctrBank]

/-- The counters are the same once the descriptor is open. -/
theorem Dev.ctrBank_opened (d : Desc) : (s.opened d).ctrBank = s.ctrBank := by
  unfold Dev.ctrBank
  congr 1
  funext i
  rw [Dev.ctrValue_opened, Dev.get_opened_ctr _ _ (by simp only [CTR_m_OVF_COUNT_OVF_COUNT]; omega)]
end

/-! ## The clauses -/

section
variable {s : State} {c : Desc} (ha : s.dev.Acts c)
include ha

theorem ctrConfigWrite_writes {m : Nat} (hm : m = c.bits 16 5 0) (hb : ctrBad c = false) :
    Answers (.ctrConfigWrite c) s fun d => d.Completed c stOk 0 ∧ (0x20 ≤ c.byte 18 → d.ctrValue m = 0 ∧ d.get
      (CTR_m_OVF_COUNT_OVF_COUNT m) = 0) ∧ d.get (CTR_m_CFG_EVENT m) = c.byte 18 ∧ d.get (CTR_m_CFG_MODE m) = c.bits 20 2
      0 ∧ d.get (CTR_m_LIMIT_VALUE m) = c.bytes 28 4 := by
  refine answers_of_descriptor (rfl : _ = execCtrConfigWrite c s) ha ?_
  have hb' : ctrBad (Desc.stamp c s.dev.timebase) = false := hb
  have hm' : ctrNo (Desc.stamp c s.dev.timebase) = m := hm.symm
  dsimp only
  rw [hb', hm', if_neg (by decide)]
  generalize hz : (s.dev.fresh.opened c).ctrZero m = z
  have hm64 : m < 64 := by rw [hm]; exact Nat.mod_lt _ (by decide)
  have hzero := (s.dev.fresh.opened c).zero_ctrZero m
  rw [hz] at hzero
  generalize hw : Dev.set _ (CTR_m_LIMIT_VALUE m) _ = w
  have hg : w.get (CTR_m_CFG_EVENT m) = c.byte 18 ∧ w.get (CTR_m_CFG_MODE m) = c.bits 20 2 0 ∧
      w.get (CTR_m_LIMIT_VALUE m) = c.bytes 28 4 ∧ w.get (CTR_m_VAL_LO_VALUE m) = z.get (CTR_m_VAL_LO_VALUE m) ∧
      w.get (CTR_m_VAL_HI_VALUE m) = z.get (CTR_m_VAL_HI_VALUE m) ∧
      w.get (CTR_m_OVF_COUNT_OVF_COUNT m) = z.get (CTR_m_OVF_COUNT_OVF_COUNT m) := by
    subst hw
    simp (disch := (simp only [Fld.key, CTR_m_CFG_EVENT, CTR_m_CFG_INSTANCE, CTR_m_CFG_MODE, CTR_m_CFG_OVF_IRQ, CTR_m_CFG_RELOAD,
      CTR_m_CFG_SAMPLE_EN, CTR_m_CFG_FREEZE_ON_OVF, CTR_m_N_VALUE, CTR_m_LIMIT_VALUE, CTR_m_VAL_LO_VALUE, CTR_m_VAL_HI_VALUE,
      CTR_m_OVF_COUNT_OVF_COUNT]; omega)) only [Dev.flag, Dev.get_set_ne, Dev.get_set_self, and_true]
    exact ⟨Nat.mod_eq_of_lt (Nat.mod_lt _ (by decide)), Nat.mod_eq_of_lt (Nat.mod_lt _ (by decide)),
      Nat.mod_eq_of_lt (Nat.mod_lt _ (by decide))⟩
  clear hw
  obtain ⟨hev, hmo, hli, hlo, hhi, hov⟩ := hg
  simp only [Dev.completed_settle, Dev.completed_busyWith, Dev.get_settle, Dev.get_busyWith, Dev.ctrValue_settle, Dev.ctrValue_busyWith]
  refine ⟨Dev.finish_completed _ _ _ _ _, fun he => ?_, ?_, ?_, ?_⟩
  · obtain ⟨h1, h2⟩ := Dev.value_finish (Desc.stamp c s.dev.timebase) stOk 0 (s := w) (j := m) (by rwa [hev])
    have hv : w.ctrValue m = z.ctrValue m := by simp only [Dev.ctrValue, hlo, hhi]
    exact ⟨h1.trans (hv.trans hzero.1), h2.trans (hov.trans hzero.2)⟩
  · exact (Dev.get_finish_ctr _ _ _ (fun k _ => cfg_awayFrom k m |>.1) (by simp [CTR_m_CFG_EVENT]; omega)).trans hev
  · exact (Dev.get_finish_ctr _ _ _ (fun k _ => cfg_awayFrom k m |>.2.1) (by simp [CTR_m_CFG_MODE]; omega)).trans hmo
  · exact (Dev.get_finish_ctr _ _ _ (fun k _ => cfg_awayFrom k m |>.2.2) (by simp [CTR_m_LIMIT_VALUE]; omega)).trans hli

theorem ctrConfigClear_clears {m : Nat} (hm : m = c.bits 16 5 0) (hb : ctrBad c = false) :
    Answers (.ctrConfigClear c) s fun d => d.Completed c stOk 0 ∧ (0x20 ≤ s.dev.get (CTR_m_CFG_EVENT m) → d.ctrValue m =
      0) ∧ d.get (CTR_m_CFG_EVENT m) = s.dev.get (CTR_m_CFG_EVENT m) := by
  refine answers_of_descriptor (rfl : _ = execCtrConfigClear c s) ha ?_
  have hb' : ctrBad (Desc.stamp c s.dev.timebase) = false := hb
  have hm' : ctrNo (Desc.stamp c s.dev.timebase) = m := hm.symm
  rw [hb', hm', if_neg (by decide)]
  have hev : ((s.dev.fresh.opened c).ctrZero m).get (CTR_m_CFG_EVENT m) = s.dev.get (CTR_m_CFG_EVENT m) :=
    (Dev.get_ctrZero _ _ (cfg_awayFrom m m).1).trans (Dev.get_opened_ctr s.dev.fresh c (by simp only [CTR_m_CFG_EVENT]; omega))
  have hzero := ((s.dev.fresh.opened c).zero_ctrZero m).1
  generalize (s.dev.fresh.opened c).ctrZero m = z at hev hzero ⊢
  simp only [Dev.completed_settle, Dev.completed_busyWith, Dev.get_settle, Dev.get_busyWith, Dev.ctrValue_settle, Dev.ctrValue_busyWith]
  refine ⟨Dev.finish_completed _ _ _ _ _, fun he => ?_, ?_⟩
  · exact (Dev.value_finish (Desc.stamp c s.dev.timebase) stOk 0 (s := z) (j := m) (by rwa [hev])).1.trans hzero
  · exact (Dev.get_finish_ctr _ _ _ (fun k _ => (cfg_awayFrom k m).1) (by simp [CTR_m_CFG_EVENT]; omega)).trans hev

theorem ctrSnapshot_snaps (h : c.bits 16 2 0 ≤ 3) :
    Answers (.ctrSnapshot c) s fun d => d.Completed c stOk ((s.dev.get CTR_STATUS_SNAP_SEQ + 1) % 2 ^ 16) ∧ ∀ i : Fin 64,
      d.ctr.snap.get i = (s.dev.ctrValue i.val, s.dev.get (CTR_m_OVF_COUNT_OVF_COUNT i.val)) := by
  refine answers_of_descriptor (rfl : _ = execCtrSnapshot c s) ha ?_
  have h' : ¬ 4 ≤ (Desc.stamp c s.dev.timebase).bits 16 2 0 := by
    change ¬ 4 ≤ c.bits 16 2 0
    omega
  dsimp only
  rw [if_neg h', Dev.ctrSnap_eq, Dev.iff_false]
  have hb := (Dev.snap_snapped (s.dev.fresh.opened c)).trans (Dev.ctrBank_opened _ _)
  have hq := (Dev.seq_snapped (s.dev.fresh.opened c)).trans
    (by rw [Dev.get_opened_ctr s.dev.fresh c (f := CTR_STATUS_SNAP_SEQ) (by decide)])
  generalize (s.dev.fresh.opened c).snapped = z at hb hq ⊢
  simp only [Dev.completed_settle, Dev.completed_busyWith, Dev.ctr_settle, Dev.ctr_busyWith]
  refine ⟨hq ▸ Dev.finish_completed _ _ _ _ _, fun i => ?_⟩
  rw [(Dev.samples_finish _ _ _ _).1, hb]
  exact s.dev.ctrBank_get i

theorem ctrSnapshotClear_clears :
    Answers (.ctrSnapshotClear c) s fun d => d.Completed c stOk ((s.dev.get CTR_STATUS_SNAP_SEQ + 1) % 2 ^ 16) ∧ ∀ i :
      Fin 64, d.ctr.snap.get i = (s.dev.ctrValue i.val, s.dev.get (CTR_m_OVF_COUNT_OVF_COUNT i.val)) ∧ (0x20 ≤ s.dev.get
      (CTR_m_CFG_EVENT i.val) → d.ctrValue i.val = 0 ∧ d.get (CTR_m_OVF_COUNT_OVF_COUNT i.val) = 0) := by
  refine answers_of_descriptor (rfl : _ = execCtrSnapshotClear c s) ha ?_
  dsimp only
  rw [Dev.ctrSnap_eq, Dev.iff_true]
  have hz (i : Nat) (hi : i < 64) := Dev.null_of_each (s.dev.fresh.opened c).snapped hi
  have hf (f : Fld) (h : ∀ m, f.awayFrom m) : ((s.dev.fresh.opened c).snapped.each (List.range 64) Dev.ctrNull).get f =
      (s.dev.fresh.opened c).snapped.get f := Dev.each_keep (π := fun s : Dev => s.get f) (fun s m => s.get_ctrNull m (h m)) _ _
  have hq := (hf CTR_STATUS_SNAP_SEQ (by simp [Fld.awayFrom, CTR_STATUS_SNAP_SEQ]; omega)).trans (Dev.seq_snapped _)
  have he (i : Nat) := ((hf _ fun m => (cfg_awayFrom m i).1).trans (Dev.get_snapped _ (by simp only [CTR_m_CFG_EVENT]; omega))).trans
    (Dev.get_opened_ctr s.dev.fresh c (by simp only [CTR_m_CFG_EVENT]; omega))
  rw [Dev.get_opened_ctr s.dev.fresh c (f := CTR_STATUS_SNAP_SEQ) (by decide)] at hq
  have hb : ((s.dev.fresh.opened c).snapped.each (List.range 64) Dev.ctrNull).ctr.snap = s.dev.fresh.ctrBank := by
    rw [Dev.ctr_each_null, Dev.snap_snapped, Dev.ctrBank_opened]
  generalize (s.dev.fresh.opened c).snapped.each (List.range 64) Dev.ctrNull = z at hb hq hz he ⊢
  simp only [Dev.completed_settle, Dev.completed_busyWith, Dev.ctr_settle, Dev.ctr_busyWith, Dev.get_settle, Dev.get_busyWith,
    Dev.ctrValue_settle, Dev.ctrValue_busyWith]
  refine ⟨hq ▸ Dev.finish_completed _ _ _ _ _, fun i => ⟨?_, fun h => ?_⟩⟩
  · rw [(Dev.samples_finish _ _ _ _).1, hb]
    exact s.dev.ctrBank_get i
  · obtain ⟨h1, h2⟩ := Dev.value_finish (Desc.stamp c s.dev.timebase) stOk (z.get CTR_STATUS_SNAP_SEQ) (s := z) (j := i.val) (by rwa [he])
    exact ⟨h1.trans (hz i i.isLt).1, h2.trans (hz i i.isLt).2⟩

theorem ctrFreeze_freezes (h : s.dev.get CTR_STATUS_FROZEN = 0) :
    Answers (.ctrFreeze c) s fun d => d.Completed c stOk (s.dev.get CTR_STATUS_SNAP_SEQ % 2 ^ 32) ∧ d.get
      CTR_STATUS_FROZEN = 1 ∧ d.get CTR_STATUS_FREEZE_CAUSE = 1 := by
  refine answers_of_descriptor (rfl : _ = execCtrFreeze c s) ha ?_
  have hf : (s.dev.fresh.opened c).on CTR_STATUS_FROZEN = false := by
    simp only [Dev.on, Dev.get_opened_ctr s.dev.fresh c (f := CTR_STATUS_FROZEN) (by decide), Dev.get_fresh, h]
    rfl
  dsimp only
  rw [hf, Bool.not_false, Dev.iff_true]
  generalize hz : ((s.dev.fresh.opened c).flag CTR_STATUS_FROZEN true).set CTR_STATUS_FREEZE_CAUSE 1 = z
  have hg : z.get CTR_STATUS_FROZEN = 1 ∧ z.get CTR_STATUS_FREEZE_CAUSE = 1 ∧ z.get CTR_STATUS_SNAP_SEQ = s.dev.get CTR_STATUS_SNAP_SEQ := by
    subst hz
    refine ⟨?_, ?_, ?_⟩
    · rw [Dev.get_set_ne _ _ (by decide)]
      exact Dev.get_set_of_lt _ (by decide)
    · exact Dev.get_set_of_lt _ (by decide)
    · rw [Dev.get_set_ne _ _ (by decide)]
      exact (Dev.get_set_ne _ _ (by decide)).trans (Dev.get_opened_ctr s.dev.fresh c (by decide))
  obtain ⟨hfr, hca, hse⟩ := hg
  clear hz
  have hk := Dev.frozen_finish (Desc.stamp c s.dev.timebase) stOk (z.get CTR_STATUS_SNAP_SEQ) hfr
  simp only [Dev.completed_settle, Dev.completed_busyWith, Dev.get_settle, Dev.get_busyWith]
  exact ⟨hse ▸ completed_mod (Dev.finish_completed _ _ _ _ _), hk.1, hk.2.trans hca⟩

theorem ctrUnfreeze_thaws :
    Answers (.ctrUnfreeze c) s fun d => d.Completed c stOk (s.dev.get CTR_STATUS_SNAP_SEQ % 2 ^ 32) ∧ ((∀ m, m < 64 →
      s.dev.get (CTR_m_CFG_FREEZE_ON_OVF m) = 0) → d.get CTR_STATUS_FROZEN = 0 ∧ d.get CTR_STATUS_FREEZE_CAUSE = 0) := by
  refine answers_of_descriptor (rfl : _ = execCtrUnfreeze c s) ha ?_
  dsimp only
  generalize hz : ((s.dev.fresh.opened c).flag CTR_STATUS_FROZEN false).set CTR_STATUS_FREEZE_CAUSE 0 = z
  have hg : z.get CTR_STATUS_FROZEN = 0 ∧ z.get CTR_STATUS_FREEZE_CAUSE = 0 ∧ z.get CTR_STATUS_SNAP_SEQ = s.dev.get CTR_STATUS_SNAP_SEQ ∧
      ∀ m, z.get (CTR_m_CFG_FREEZE_ON_OVF m) = s.dev.get (CTR_m_CFG_FREEZE_ON_OVF m) := by
    subst hz
    refine ⟨?_, ?_, ?_, fun m => ?_⟩
    · rw [Dev.get_set_ne _ _ (by decide)]
      exact Dev.get_set_of_lt _ (by decide)
    · exact Dev.get_set_of_lt _ (by decide)
    · rw [Dev.get_set_ne _ _ (by decide)]
      exact (Dev.get_set_ne _ _ (by decide)).trans (Dev.get_opened_ctr s.dev.fresh c (by decide))
    · have hk : ∀ f ∈ [CTR_STATUS_FROZEN, CTR_STATUS_FREEZE_CAUSE], f.key ≠ (CTR_m_CFG_FREEZE_ON_OVF m).key := by
        simp only [List.mem_cons, List.not_mem_nil, or_false, forall_eq_or_imp, forall_eq, Fld.key, CTR_STATUS_FROZEN,
          CTR_STATUS_FREEZE_CAUSE, CTR_m_CFG_FREEZE_ON_OVF]
        omega
      rw [Dev.get_set_ne _ _ (hk _ (by simp))]
      exact (Dev.get_set_ne _ (bnat false) (hk _ (by simp))).trans (Dev.get_opened_ctr s.dev.fresh c (by
        simp only [CTR_m_CFG_FREEZE_ON_OVF]
        omega))
  obtain ⟨hfr, hca, hse, hon⟩ := hg
  clear hz
  simp only [Dev.completed_settle, Dev.completed_busyWith, Dev.get_settle, Dev.get_busyWith]
  refine ⟨hse ▸ completed_mod (Dev.finish_completed _ _ _ _ _), fun h => ?_⟩
  have hk {f : Fld} := Dev.unfrozen_finish (Desc.stamp c s.dev.timebase) stOk (z.get CTR_STATUS_SNAP_SEQ) (s := z) (f := f)
    fun m hm => (hon m).trans (h m hm)
  exact ⟨(hk (.inl rfl)).trans hfr, (hk (.inr rfl)).trans hca⟩

theorem ctrReadCounters_reads (hx : c.bits 16 1 0 ≤ 2) (hk : c.bytes 24 8 ≠ 0) (hl : c.length = 16 * (maskList 64 (c.bytes 24 8)).length)
    (ho : (s.dev.ring c.ring).owner = 0) : Answers (.ctrReadCounters c) s fun d => d.Completed c stOk c.length := by
  refine answers_of_descriptor (rfl : _ = execCtrReadCounters c s) ha ?_
  have hsel : maskList 64 (c.bytes 24 8) ≠ [] := maskList_ne_nil hk (Nat.mod_lt _ (by decide))
  have hn : c.length ≠ 0 := by
    have := List.length_pos_of_ne_nil hsel
    omega
  have hs : (s.dev.fresh.opened c).spanBad (Desc.stamp c s.dev.timebase) c.length = false :=
    Dev.spanBad_opened (s := s.dev.fresh) (d := c) c.length ho s.dev.timebase
  have hx' : (Desc.stamp c s.dev.timebase).bits 16 1 0 ≠ 3 := by
    change c.bits 16 1 0 ≠ 3
    omega
  have hbytes : (Desc.stamp c s.dev.timebase).bytes 24 8 = c.bytes 24 8 := rfl
  have hlen : (Desc.stamp c s.dev.timebase).length = c.length := rfl
  dsimp only
  simp only [hbytes, hlen]
  rw [if_neg (by rintro (h | h | ⟨-, h⟩ | h); exacts [hx' h, hsel h, h hl, by simp [hs] at h]), if_neg hn,
    Dev.putData_opened (s := s.dev.fresh) ho, ← hl]
  generalize (s.dev.fresh.opened c).hostWrite _ _ = z
  simp only [Dev.completed_settle, Dev.completed_busyWith]
  exact Dev.finish_completed _ _ _ _ _

theorem ctrReadSamples_reads (hl : 0 < c.length ∧ c.length ≤ 2048 ∧ c.length % 32 = 0) (ho : (s.dev.ring c.ring).owner = 0) :
    Answers (.ctrReadSamples c) s fun d => d.Completed c stOk (32 * min (c.length / 32) s.dev.ctr.samples.length) ∧
      (s.dev.ctr.samples.drop (c.length / 32)) <+: d.ctr.samples := by
  refine answers_of_descriptor (rfl : _ = execCtrReadSamples c s) ha ?_
  have hs : (s.dev.fresh.opened c).spanBad (Desc.stamp c s.dev.timebase) c.length = false :=
    Dev.spanBad_opened (s := s.dev.fresh) (d := c) c.length ho s.dev.timebase
  have hlen : (Desc.stamp c s.dev.timebase).length = c.length := rfl
  obtain ⟨h0, h1, h2⟩ := hl
  dsimp only
  simp only [hlen]
  rw [if_neg (by simp [hs, h1, h2]), if_neg (by omega), Dev.putData_opened (s := s.dev.fresh) ho]
  have hc (l : List Byte) (n : Nat) : ((s.dev.fresh.opened c).hostWrite n l).ctr = s.dev.ctr :=
    (Dev.tally_hostWrite _ _ _).2.trans (s.dev.fresh.tally_opened c).2
  have hq : List.drop (min (c.length / 32) s.dev.ctr.samples.length) s.dev.ctr.samples = List.drop (c.length / 32) s.dev.ctr.samples :=
    List.drop_eq_drop_iff.2 (by simp)
  have hn : (List.take (c.length / 32) s.dev.ctr.samples).length = min (c.length / 32) s.dev.ctr.samples.length := List.length_take
  have hd : (s.dev.fresh.opened c).ctr = s.dev.ctr := (s.dev.fresh.tally_opened c).2
  simp only [hc, hd, hn, hq]
  generalize (s.dev.fresh.opened c).hostWrite _ _ = z
  simp only [Dev.completed_settle, Dev.completed_busyWith, Dev.ctr_settle, Dev.ctr_busyWith]
  generalize hy : Dev.set _ CTR_STATUS_SAMPLES _ = y
  have hy' : y.ctr.samples = s.dev.ctr.samples.drop (c.length / 32) := by
    subst hy
    rfl
  exact ⟨Dev.finish_completed _ _ _ _ _, hy' ▸ (y.samples_finish _ _ _).2⟩
end

/-- Settles O33, clause by clause: a completion counts on the counters that watch completions alone. -/
theorem generalCounters : Obligations.GeneralCounters :=
  ⟨fun _ _ _ ha hm hb => ctrConfigWrite_writes ha hm hb, fun _ _ _ ha hm hb => ctrConfigClear_clears ha hm hb, fun _ _ => ctrSnapshot_snaps,
    fun _ _ => ctrSnapshotClear_clears, fun _ _ => ctrFreeze_freezes, fun _ _ => ctrUnfreeze_thaws,
    fun _ _ => ctrReadCounters_reads, fun _ _ => ctrReadSamples_reads⟩

end Sys2Proof.Machine

/-! The check engine (15 R518–R527). -/

namespace Sys2Proof.Machine

-- One theorem at a time: side by side they ask for more memory than a check may have.
set_option Elab.async false

open Reg

/-! ## Data read from host memory -/

/-- A descriptor of a ring in host memory, whose data reads at the first attempt, reads it without an effect (13 R442, R469). -/
theorem Dev.getData_host {s : Dev} {d : Desc} (h : (s.ring d.ring).owner = 0) (hd : d.data = .first) (off n : Nat) :
    (s.getData d off n).1 = s ∧ (s.getData d off n).2.2 = .first := by
  unfold Dev.getData
  split
  · exact ⟨rfl, rfl⟩
  · dsimp only
    rw [if_pos (show s.ownerOf d = 0 from h), hd]
    exact ⟨rfl, rfl⟩

/-- A run over data of a ring in host memory reads it without an effect. -/
theorem Dev.ckRead_host {s : Dev} {c : Desc} (h : (s.ring c.ring).owner = 0) (hd : c.data = .first) (hs : c.bits 19 1 0 = 0) (off n : Nat) :
    s.ckRead c off n = (s, (s.getData c off n).2.1, .first) := by
  obtain ⟨h1, h2⟩ := Dev.getData_host h hd off n
  simp only [Dev.ckRead, hs]
  exact Prod.ext h1 (Prod.ext rfl h2)

/-! ## Runs -/

section
variable (c : Desc) (t : Nat) (s : Dev)
@[simp] theorem ckChan_stamp : ckChan (Desc.stamp c t) = ckChan c := rfl
@[simp] theorem Dev.ckUse_stamp : s.ckUse (Desc.stamp c t) = s.ckUse c := rfl
@[simp] theorem Dev.ckUse_fresh : s.fresh.ckUse c = s.ckUse c := rfl
@[simp] theorem Dev.ckUse_opened (d : Desc) : (s.opened d).ckUse c = s.ckUse c := by simp [Dev.ckUse]
@[simp] theorem Dev.ckBusy_fresh (k : Chan) : s.fresh.ckBusy k = s.ckBusy k := rfl
@[simp] theorem Dev.ckBusy_opened (d : Desc) (k : Chan) : (s.opened d).ckBusy k = s.ckBusy k := by simp [Dev.ckBusy]
end

/-- A run leaves a channel's width. -/
theorem CkImage.runOver_width (k : CkImage) (a b : Bool) (l : List Byte) : (k.runOver a b l).width = k.width := rfl

/-- The fields of a run that starts from INIT with a preset, and is finalised, over data of the ring's owner. -/
abbrev ckPlain (c : Desc) : Prop := c.bits 19 1 0 = 0 ∧ c.bits 18 1 0 ≠ 0 ∧ c.flag 18 2 = false ∧ c.flag 18 3 = true

/-- A run that may start waits for its end on its channel. -/
theorem checkRun_starts {s : Dev} {c : Desc} (h : ckPlain c) (hl : 0 < c.length) (ho : (s.ring c.ring).owner = 0) (hc : ckChan c ≠ 3)
    (hb : s.ckBusy (ckChan c) = false) (t a : Nat) :
    (s.opened c).checkRun (Desc.stamp c t) a = (s.opened c).park (.check (ckChan c)) (Desc.stamp c t) := by
  obtain ⟨hspace, hpre, hcont, hfin⟩ := h
  have hspan (n : Nat) := Dev.spanBad_opened s c n ho t
  simp [Dev.checkRun, hspace, hpre, hcont, hfin, hspan, Nat.ne_of_gt hl, hc, hb]

/-- A run over no bytes ends at once. -/
theorem checkRun_empty {s : Dev} {c : Desc} (h : ckPlain c) (hl : c.length = 0) (t a : Nat) :
    (s.opened c).checkRun (Desc.stamp c t) a =
      ((s.opened c).modChk fun q => { q with ch := q.ch.set (ckChan c) ((s.ckUse c).runOver false true []) }).finish (Desc.stamp c t)
        stOk ((s.ckUse c).runOver false true []).value.toNat := by
  obtain ⟨hspace, hpre, hcont, hfin⟩ := h
  have hspan : (s.opened c).spanBad (Desc.stamp c t) 0 = false := by simp [Dev.spanBad]
  simp [Dev.checkRun, hspace, hpre, hcont, hfin, hspan, hl]

/-! ## The clauses -/

section
variable {s : State} {c : Desc} (ha : s.dev.Acts c)
include ha

/-- An action of CHECK_RUN whose run may start. -/
theorem checkRun_waits {i : Instr} {a : Nat} (hi : exec i s = run s fun d => d.descriptor c fun d c => d.checkRun c a) (h : ckPlain c)
    (hl : 0 < c.length) (ho : (s.dev.ring c.ring).owner = 0) (hc : ckChan c ≠ 3) (hb : s.dev.ckBusy (ckChan c) = false) :
    Answers i s fun d => d.ckBusy (ckChan c) = true ∧ d.chk = s.dev.chk ∧ d.waits = s.dev.waits ++
      [(.check (ckChan c), Desc.stamp c s.dev.timebase)] := by
  refine answers_of_descriptor hi ha ?_
  rw [checkRun_starts (s := s.dev.fresh) h hl ho hc hb]
  simp [Dev.ckBusy]

theorem checkRunVerifyParam_empty (h : ckPlain c) (hl : c.length = 0) :
    Answers (.checkRunVerifyParam c) s fun d => d.Completed c stOk ((s.dev.ckUse c).runOver false true []).value.toNat ∧
      d.chk.ch.get (ckChan c) = (s.dev.ckUse c).runOver false true [] := by
  refine answers_of_descriptor (rfl : _ = execCheckRunVerifyParam c s) ha ?_
  rw [checkRun_empty (s := s.dev.fresh) h hl]
  simp [Vector.get_eq_getElem]

theorem checkContextSave_saves (hf : c.flag 17 7 = false) (hc : ckChan c ≠ 3) (hb : s.dev.ckBusy (ckChan c) = false) :
    Answers (.checkContextSave c) s fun d => d.Completed c stOk (c.bits 17 3 0) ∧ d.chk.slots.get (Fin.ofNat 16 (c.bits
      17 3 0)) = some (s.dev.chk.ch.get (ckChan c)) := by
  refine answers_of_descriptor (rfl : _ = execCheckContextSave c s) ha ?_
  simp [hf, hc, hb, statusOf, Vector.get_eq_getElem]

theorem checkContextLoad_loads {k : CkImage} (hf : c.flag 17 7 = false) (hc : ckChan c ≠ 3) (hb : s.dev.ckBusy (ckChan c) = false)
    (hk : s.dev.chk.slots.get (Fin.ofNat 16 (c.bits 17 3 0)) = some k) (hg : k.good = true) :
    Answers (.checkContextLoad c) s fun d => d.Completed c stOk (c.bits 17 3 0) ∧ d.chk.ch.get (ckChan c) = k := by
  refine answers_of_descriptor (rfl : _ = execCheckContextLoad c s) ha ?_
  have hk' : (s.dev.fresh.opened c).chk.slots.get (Fin.ofNat 16 ((Desc.stamp c s.dev.timebase).bits 17 3 0)) = some k := by simpa using hk
  rw [if_neg (by simp [hf]), hk']
  simp [hc, hb, hg, statusOf, Vector.get_eq_getElem]
end

section
variable {s : State} {c : Desc} {k : Chan} (hw : s.dev.waits = [(.check k, c)]) (ho : (s.dev.ring c.ring).owner = 0) (hd : c.data = .first)
include hw ho hd

theorem checkRunEnd_computes (h : c.bits 17 1 0 = 0 ∧ c.bits 19 1 0 = 0) :
    Answers (.checkRunEnd k none) s fun d => d.chk.ch.get k = (s.dev.ckUse c).runOver (c.flag 18 2) (c.flag 18 3)
      (s.dev.fresh.getData c 0 c.length).2.1 ∧ d.waits = [] ∧ d.Completed c stOk ((s.dev.ckUse c).runOver (c.flag 18 2)
      (c.flag 18 3) (s.dev.fresh.getData c 0 c.length).2.1).value.toNat := by
  refine answers_of_run (rfl : _ = execCheckRunEnd k none s) ?_
  rw [Dev.waiting_of_waits (s := s.dev.fresh) hw]
  dsimp only
  rw [Dev.ckRead_host (s := s.dev.fresh) ho hd h.2, h.1]
  dsimp only
  generalize (s.dev.fresh.getData c 0 c.length).2.1 = l
  generalize hz : s.dev.fresh.modChk _ = z
  have hch : z.chk.ch.get k = (s.dev.ckUse c).runOver (c.flag 18 2) (c.flag 18 3) l := by
    subst hz
    simp [Vector.get_eq_getElem]
  have hwz : z.waits = [(.check k, c)] := by
    subst hz
    exact hw
  simp only [Dev.settle_chk, Dev.settle_waits, Dev.completed_settle, z.wakeOne_keeps, hch, Dev.waits_wakeOne hwz, true_and]
  exact Dev.completed_wakeOne hwz _ _

theorem checkRunEnd_fails (h : c.bits 17 1 0 = 2 ∧ c.bits 19 1 0 = 0) (hv : c.bytes 24 8 % 2 ^ (s.dev.ckUse c).width ≠ ((s.dev.ckUse
      c).runOver (c.flag 18 2) (c.flag 18 3) (s.dev.fresh.getData c 0 c.length).2.1).value.toNat) :
    Answers (.checkRunEnd k none) s fun d => d.chk.ch.get k = s.dev.chk.ch.get k ∧ d.get CHK_EVENTS_CHECK_FAIL = 1 ∧
      d.Completed c stCheckFail (s.dev.chk.ch.get k).value.toNat := by
  refine answers_of_run (rfl : _ = execCheckRunEnd k none s) ?_
  rw [Dev.waiting_of_waits (s := s.dev.fresh) hw]
  dsimp only
  rw [Dev.ckRead_host (s := s.dev.fresh) ho hd h.2, h.1]
  simp only []
  rw [CkImage.runOver_width, Dev.ckUse_fresh, if_neg hv]
  generalize hz : Dev.raise _ CHK_EVENTS_CHECK_FAIL 2 = z
  have hch : z.chk = s.dev.chk := by
    subst hz
    simp
  have hf : z.get CHK_EVENTS_CHECK_FAIL = 1 := by
    subst hz
    simp (disch := decide)
  have hwz : z.waits = [(.check k, c)] := by
    subst hz
    simpa using hw
  simp (disch := decide) only [Dev.settle_chk, Dev.completed_settle, Dev.get_settle, Dev.get_wakeOne_fld, z.wakeOne_keeps, hch, hf, true_and]
  exact Dev.completed_wakeOne hwz _ _
end

/-- Settles O35, clause by clause. -/
theorem checkEngine : Obligations.CheckEngine :=
  ⟨fun _ _ ha => checkRun_waits ha rfl, fun _ _ ha => checkRun_waits ha rfl, fun _ _ ha => checkRun_waits ha rfl,
    fun _ _ ha => checkRun_waits ha rfl, fun _ _ => checkRunVerifyParam_empty, fun _ _ _ hw h ho hd => checkRunEnd_computes hw ho hd h,
    fun _ _ _ hw h ho hd => checkRunEnd_fails hw ho hd h, fun _ _ => checkContextSave_saves,
    fun _ _ _ ha => checkContextLoad_loads ha⟩

end Sys2Proof.Machine

/-! The bias loops (11 R384–R405). -/

namespace Sys2Proof.Machine

-- One theorem at a time: side by side they ask for more memory than a check may have.
set_option Elab.async false

open Reg

/-- A device whose loop 0 runs on input 0 of the monitor, with a bank whose clamp of the integrator is 2^32 at both ends. -/
def wideClamp : State :=
  { dev := (({ } : Dev).set (BCE_LOOPn_STATE_PERIOD 0) 5 |>.set (BCE_LOOPn_STATE_STATE 0) 2).modLoop 0 (fun q =>
      { q with coarse := true, bank := { q.bank with iMin := 2 ^ 32, iMax := 2 ^ 32 } }) |>.modMon fun m =>
        { m with inp := vmod m.inp 0 fun i => { i with valid := true } } }

/-- Refutes O26: a bank's clamp of the integrator is not held to 32 bits, so an integrator of 2^32 enters u as it is, and INTEG shows it cut
to 32 bits. -/
theorem not_biasLoops : ¬ Obligations.BiasLoops := by
  rintro ⟨h, -⟩
  obtain ⟨t, ht, -, -, -, hu⟩ := h wideClamp 0 0 (by decide) (by decide) (by decide) (by decide) (by decide) (by decide) (by decide)
    (by decide) (by decide)
  cases ht
  revert hu
  decide

end Sys2Proof.Machine

/-! Eye-margin scans and captures (04 R159–R168). -/

namespace Sys2Proof.Machine

-- One theorem at a time: side by side they ask for more memory than a check may have.
set_option Elab.async false

open Reg

@[simp] theorem port_stamp (c : Desc) (t : Nat) : Desc.port (Desc.stamp c t) = Desc.port c := rfl
@[simp] theorem eyePair_stamp (c : Desc) (t : Nat) : eyePair (Desc.stamp c t) = eyePair c := rfl
@[simp] theorem eyePoints_stamp (c : Desc) (t : Nat) (b : Bool) : eyePoints (Desc.stamp c t) b = eyePoints c b := rfl

theorem padBytes_length (k : Nat) (l : List Byte) : (padBytes k l).length = k := by
  simp [padBytes]
  omega

theorem Dev.readMem_nothing (s : Dev) (i : MemId) (off : Nat) (g : Option (Nat × BitVec 72)) : s.readMem i off 0 g = (s, [], .first) := rfl

theorem Attempt.worse_first : Attempt.first.worse .first = .first := rfl

theorem Dev.completed_finish (s : Dev) (d : Desc) (st r : Nat) : (s.finish d st r).Completed d st r := ⟨s.timebase, by simp⟩

theorem Dev.completed_wakeOne_of_waiting {s : Dev} {k : WaitKind} {d : Desc} (h : s.waiting k = some d) (st r : Nat) :
    (s.wakeOne k st r).Completed d st r := by
  rw [Dev.wakeOne_of_waiting h]
  exact Dev.completed_finish _ _ _ _

/-! ## Scans -/

section
variable {s : State} {c : Desc} (ha : s.dev.Acts c)
include ha

theorem eyeScan_begins (hrx : (s.dev.rx (Desc.port c)).contains (eyePair c) = true) (hph : 1 ≤ c.bits 17 4 0 ∧ c.bits 17 4 0 ≤ 16)
    (hv : 1 ≤ c.bits 19 6 0 ∧ c.bits 19 6 0 ≤ 64) (h21 : c.bits 21 3 0 ≤ 10) (hprod : c.bits 17 4 0 * c.bits 18 5 0 ≤ 64)
    (hn : 0 < eyePoints c (isNrz (s.dev.mode (Desc.port c)))) (hlen : c.length = 4 * eyePoints c (isNrz (s.dev.mode (Desc.port c))))
    (ho : (s.dev.ring c.ring).owner = 0) (hl : s.dev.linkState (Desc.port c) = 4)
    (hf : 2 ≤ (s.dev.adcOf (Desc.port c) (eyePair c)).free.length) (he : (s.dev.eqOf (Desc.port c) (eyePair c)).eye = none) :
    Answers (.eyeScan c) s fun d => (d.eqOf (Desc.port c) (eyePair c)).eye = some
      { desc := Desc.stamp c s.dev.timebase, pts := [] } ∧ d.waits = s.dev.waits ++ [(.eyeScan (Desc.port c) (eyePair c),
      Desc.stamp c s.dev.timebase)] := by
  refine answers_of_descriptor (rfl : _ = execEyeScan c s) ha ?_
  have hs : (s.dev.fresh.opened c).spanBad (Desc.stamp c s.dev.timebase) c.length = false :=
    Dev.spanBad_opened (s := s.dev.fresh) (d := c) c.length ho s.dev.timebase
  have hrx' : ((s.dev.fresh.opened c).rx (Desc.port c)).contains (eyePair c) = true := by rwa [Dev.rx_opened]
  have h0 : c.length ≠ 0 := by omega
  dsimp only
  rw [if_neg]
  · simp [h0, hl, he, Nat.not_lt.2 hf]
    simp [Dev.eqOf]
  · rw [port_stamp, eyePair_stamp, stamp_length, eyePoints_stamp, Dev.mode_opened, Dev.mode_fresh, hrx', hs, hlen]
    simp only [Bool.not_true, Bool.false_or, Bool.or_false, bne_self_eq_false, Bool.and_false, Bool.not_eq_true, Bool.or_eq_false_iff,
      beq_eq_false_iff_ne, decide_eq_false_iff_not]
    simp only [stamp_bits]
    omega

end

theorem eyeScanPointEnd_records {s : State} {p : Port} {x : Pair} {r : EyeRun} (he : (s.dev.eqOf p x).eye = some r)
    (hs : (s.dev.adcOf p x).step = none) (hf : 2 ≤ (s.dev.adcOf p x).free.length)
    (hn : r.pts.length + 1 < eyePoints r.desc (isNrz (s.dev.mode p))) :
    Answers (.eyeScanPointEnd p x) s fun d => (d.eqOf p x).eye = some { r with pts := r.pts ++ [r.hits], hits := 0, taken := 0 } := by
  have he' : (s.dev.fresh.eqOf p x).eye = some r := he
  have hs' : (s.dev.fresh.adcOf p x).step = none := hs
  have hf' : 2 ≤ (s.dev.fresh.adcOf p x).free.length := hf
  refine answers_of_run (rfl : _ = execEyeScanPointEnd p x s) ?_
  rw [he']
  dsimp only
  rw [hs', if_neg (by simp; omega)]
  have hm : ∀ g : Eq → Eq, (s.dev.fresh.modEq p x g).mode p = s.dev.mode p := fun g => by simp [Dev.mode]
  rw [if_neg (by rw [hm]; simp; omega)]
  simp [Dev.eqOf]

/-! ## Captures -/

section
variable {s : State} {c : Desc} (ha : s.dev.Acts c)
include ha

theorem captureAdc_arms (h6 : c.bits 17 2 0 < 6) (hx : (if c.bits 17 2 0 % 3 = 0 then [Pair.a] else if c.bits 17 2 0 % 3 = 1 then [.b]
      else [.a, .b]).all (fun x => (s.dev.rx (Desc.port c)).contains x) = true) (h0 : s.dev.linkState (Desc.port c) ≠ 0)
    (hd : s.dev.linkState (Desc.port c) ≠ 6) (hc : s.dev.get (LPn_CAP_STATUS_STATE (Desc.port c)) = 0) :
    Answers (.captureAdc c) s fun d => d.waits = s.dev.waits ++ [(.capture (Desc.port c), Desc.stamp c s.dev.timebase)] ∧
      d.get (LPn_CAP_STATUS_STATE (Desc.port c)) = 1 := by
  refine answers_of_descriptor (rfl : _ = execCaptureAdc c s) ha ?_
  have hst : (((s.dev.fresh.opened c).linkState (Desc.port c) == 0) || (s.dev.fresh.opened c).linkState (Desc.port c) == 6) = false := by
    simp [h0, hd]
  dsimp only
  rw [if_neg, if_neg]
  · simp (disch := decide) [hc]
  · rw [port_stamp, hst]
    decide
  · rw [port_stamp, hst]
    simp only [Bool.or_eq_true, decide_eq_true_eq, not_or, Bool.not_eq_true', Bool.not_eq_false]
    refine ⟨Nat.not_le.2 h6, ?_⟩
    rw [if_neg (c := false = true) (by decide), Dev.mode_opened]
    exact hx

theorem captureRead_reads (h0 : c.length ≠ 0) (hb : c.bytes 20 4 + c.length ≤ 2097152) (ho : (s.dev.ring c.ring).owner = 0)
    (hc : s.dev.get (LPn_CAP_STATUS_STATE (Desc.port c)) = 0) : Answers (.captureRead c) s fun d => d.Completed c stOk c.length := by
  refine answers_of_descriptor (rfl : _ = execCaptureRead c s) ha ?_
  have hs : (s.dev.fresh.opened c).spanBad (Desc.stamp c s.dev.timebase) c.length = false :=
    Dev.spanBad_opened (s := s.dev.fresh) (d := c) c.length ho s.dev.timebase
  have hown : ((s.dev.fresh.opened c).ownerOf (Desc.stamp c s.dev.timebase)) = 0 := by simpa [Dev.ownerOf] using ho
  simp (disch := decide) [hs, h0, hc, Nat.not_lt.2 hb, Dev.readMem_nothing, Attempt.worse_first, Dev.putCounted, hown, padBytes_length, statusOf]

end

section
variable {s : State} {p : Port}

theorem captureTrigger_fills (h1 : s.dev.get (LPn_CAP_STATUS_STATE p) = 1) (hf : (s.dev.prt p).cap.fired = true) :
    Answers (.captureTrigger p) s fun d => d.get (LPn_CAP_STATUS_STATE p) = 2 ∧ d.get (LPn_CAP_TIME_LO_TIME_LO p) =
      s.dev.timebase % 2 ^ 32 := by
  refine answers_of_run (rfl : _ = execCaptureTrigger p s) ?_
  have hw : (LPn_CAP_TIME_LO_TIME_LO p).width = 32 := rfl
  simp (disch := decide) [h1, hf, hw]

theorem captureStop_ends (h1 : s.dev.get (LPn_CAP_STATUS_STATE p) = 2) (hf : (s.dev.prt p).cap.left = 0) :
    Answers (.captureStop p) s fun d => d.get (LPn_CAP_STATUS_STATE p) = 3 ∧ d.get (LPn_EQ_EVENTS_CAP_DONE p) = 1 := by
  refine answers_of_run (rfl : _ = execCaptureStop p s) ?_
  simp (disch := decide) [h1, hf]

theorem captureTimeout_ends {c : Desc} (h1 : s.dev.get (LPn_CAP_STATUS_STATE p) = 1) (ht : (s.dev.prt p).cap.timeout ≠ 0)
    (hw : s.dev.waiting (.capture p) = some c) :
    Answers (.captureTimeout p) s fun d => d.get (LPn_CAP_STATUS_STATE p) = 4 ∧ d.Completed c stTimeout 0 := by
  refine answers_of_run (rfl : _ = execCaptureTimeout p s) ?_
  have hw' : (s.dev.fresh.set (LPn_CAP_STATUS_STATE p) 4).waiting (.capture p) = some c := hw
  simp (disch := decide) [h1, ht, Dev.completed_wakeOne_of_waiting hw']
end

/-- Settles O12, clause by clause. -/
theorem eyeScanAndCapture : Obligations.EyeScanAndCapture :=
  ⟨fun _ _ => eyeScan_begins, fun _ _ _ _ => eyeScanPointEnd_records, fun _ _ => captureAdc_arms, fun _ _ => captureTrigger_fills,
    fun _ _ => captureStop_ends, fun _ _ _ => captureTimeout_ends, fun _ _ => captureRead_reads⟩

end Sys2Proof.Machine

/-! The link message channel's shared operations: a frame queued, told and accepted (08 R302, R308), and what they leave alone. -/

namespace Sys2Proof.Machine

-- One theorem at a time: side by side they ask for more memory than a check may have.
set_option Elab.async false

open Reg

/-- What a message adds to the channel's record: a queue of frames to send, and counts; the messages received and the frames
that wait for their acknowledgement stay. -/
def Lmc.Sends (a b : Lmc) (types : List Nat) : Prop :=
  (a.out.map TxFrame.typ) = (b.out.map TxFrame.typ) ++ types ∧ a.inq = b.inq ∧ a.wait = b.wait

/-- Two devices that differ in the message channel of one port alone, which has frames of some types more to send. -/
def Dev.Tells (a b : Dev) (p : Port) (types : List Nat) : Prop :=
  a.regs = b.regs ∧ a.rim = b.rim ∧ a.rests = b.rests ∧ (a.prt p).lmc.Sends (b.prt p).lmc types

section
variable {a b c : Dev} {p : Port} {k l : List Nat}

theorem Dev.Tells.refl (a : Dev) (p : Port) : a.Tells a p [] := ⟨rfl, rfl, rfl, by simp, rfl, rfl⟩

theorem Dev.Tells.trans (h : a.Tells b p k) (g : b.Tells c p l) : a.Tells c p (l ++ k) := by
  obtain ⟨h1, h2, h3, h4, h5, h6⟩ := h
  obtain ⟨g1, g2, g3, g4, g5, g6⟩ := g
  exact ⟨h1.trans g1, h2.trans g2, h3.trans g3, by rw [h4, g4, List.append_assoc], h5.trans g5, h6.trans g6⟩

theorem Dev.Tells.get (h : a.Tells b p k) (f : Fld) : a.get f = b.get f := Dev.get_eq h.1 f

theorem Dev.Tells.sameRim (h : a.Tells b p k) : a.SameRim b := Dev.sameRim h.2.1

theorem Dev.Tells.sameRests (h : a.Tells b p k) : a.SameRests b := Dev.sameRests h.2.2.1

theorem Dev.Tells.linkState (h : a.Tells b p k) (q : Port) : a.linkState q = b.linkState q := h.get _

theorem Dev.Tells.acqState (h : a.Tells b p k) (q : Port) : a.acqState q = b.acqState q := h.get _

theorem Dev.Tells.lmcUp (h : a.Tells b p k) (q : Port) : a.lmcUp q = b.lmcUp q := by
  simp only [Dev.lmcUp, h.acqState, Dev.on, h.get]

theorem Dev.Tells.waiting (h : a.Tells b p k) (w : WaitKind) : a.waiting w = b.waiting w := by
  simp only [Dev.waiting, h.sameRim]

theorem Dev.Tells.mode (h : a.Tells b p k) (q : Port) : a.mode q = b.mode q := by
  simp only [Dev.mode, h.sameRests]

theorem Dev.Tells.out (h : a.Tells b p k) : ((a.prt p).lmc.out.map TxFrame.typ) = ((b.prt p).lmc.out.map TxFrame.typ) ++ k := h.2.2.2.1
theorem Dev.Tells.inq (h : a.Tells b p k) : (a.prt p).lmc.inq = (b.prt p).lmc.inq := h.2.2.2.2.1
end

section
variable (s : Dev) (p : Port) (typ : Nat)

/-- An update of the channel's record alone. -/
theorem Dev.tells_modLmc {g : Lmc → Lmc} {k : List Nat} (h : (g (s.prt p).lmc).Sends (s.prt p).lmc k) : (s.modLmc p g).Tells s p k := by
  refine ⟨rfl, s.rim_modLmc p g, s.rests_modLmc p g, ?_⟩
  simpa using h

theorem Dev.tells_lmcQueue (l : List Byte) (ack user : Bool) : (s.lmcQueue p typ l ack user).1.Tells s p [typ] := by
  have h1 : (s.lmcFrame p typ l ack user).1.Tells s p [] := s.tells_modLmc p ⟨by simp, rfl, rfl⟩
  refine Dev.Tells.trans (Dev.tells_modLmc _ p ?_) h1
  exact ⟨by simp [Dev.lmcFrame], rfl, rfl⟩

theorem Dev.tells_lmcTell {s : Dev} {p : Port} (h : s.lmcUp p = true) (l : List Byte) : (s.lmcTell p typ l).Tells s p [typ] := by
  rw [Dev.lmcTell_of_up h]
  exact s.tells_lmcQueue p typ l false false

/-- Acceptance of a frame sends at most its acknowledgement. -/
theorem Dev.tells_lmcAccept (f : Frame) : ∃ k, (s.lmcAccept p typ f).1.Tells s p k ∧ (f.ackReq = false → k = []) := by
  have h1 (q : Lmc → List (Nat × Nat × Nat)) : (s.modLmc p fun m => { m with last := q m }).Tells s p [] :=
    s.tells_modLmc p ⟨(List.append_nil _).symm, rfl, rfl⟩
  have h2 : ∀ (t : Dev) (l : List Byte), ∃ k, (t.lmcTell p mtAck l).Tells t p k := by
    intro t l
    cases hu : t.lmcUp p
    · refine ⟨[], ?_⟩
      unfold Dev.lmcTell
      rw [if_neg (by rw [hu]; decide)]
      exact .refl t p
    · exact ⟨_, Dev.tells_lmcTell _ hu l⟩
  unfold Dev.lmcAccept
  dsimp only
  cases f.ackReq
  · rw [Dev.iff_false]
    exact ⟨[], h1 _, fun _ => rfl⟩
  · rw [Dev.iff_true]
    obtain ⟨k, hk⟩ := h2 _ _
    exact ⟨_, hk.trans (h1 _), fun h => Bool.noConfusion h⟩
end

end Sys2Proof.Machine

/-! The link message channel's messages (08 R301–R313, 09 R317). -/

namespace Sys2Proof.Machine

-- One theorem at a time: side by side they ask for more memory than a check may have.
set_option Elab.async false

open Reg

section
variable {s : State} {p : Port}

/-! ## Messages received -/

section
variable {f : Frame} (hu : s.dev.lmcUp p = true)
include hu

theorem remoteSnr_shows (u v k : Nat) (ha : (s.dev.lmcAccept p mtRemoteSnr f).2 = true) :
    Answers (.remoteSnr p f u v k) s fun d => d.get (LPn_LMC_REMOTE_REM_SNR_A p) = u % 256 ∧ d.get
      (LPn_LMC_REMOTE_REM_SNR_B p) = v % 256 ∧ d.get (LPn_LMC_REMOTE_REM_BER p) = k % 65536 := by
  refine answers_of_run (rfl : _ = execRemoteSnr p f u v k s) ?_
  rw [if_pos (show s.dev.fresh.lmcUp p = true from hu)]
  dsimp only
  rw [if_pos (show (s.dev.fresh.lmcAccept p mtRemoteSnr f).2 = true from ha)]
  generalize (s.dev.fresh.lmcAccept p mtRemoteSnr f).1 = d
  have hw : (LPn_LMC_REMOTE_REM_SNR_A p).width = 8 ∧ (LPn_LMC_REMOTE_REM_SNR_B p).width = 8 ∧ (LPn_LMC_REMOTE_REM_BER p).width = 16 :=
    ⟨rfl, rfl, rfl⟩
  simp (disch := decide) [hw]

theorem eventNotice_shows (v : Nat) (ha : (s.dev.lmcAccept p mtNotice f).2 = true) :
    Answers (.eventNotice p f 1 v) s fun d => d.get (LPn_REMOTE_EVENT_CODE p) = 1 ∧ d.get (LPn_LINK_STATUS_REMOTE_FAULT
      p) = 1 ∧ d.get (LPn_LINK_EVENTS_REMOTE_FAULT p) = 1 ∧ d.get (LPn_ACQ_EVENTS_NOTICE p) = 1 := by
  refine answers_of_run (rfl : _ = execEventNotice p f 1 v s) ?_
  rw [if_pos (show s.dev.fresh.lmcUp p = true from hu)]
  dsimp only
  rw [if_pos (show (s.dev.fresh.lmcAccept p mtNotice f).2 = true from ha)]
  generalize (s.dev.fresh.lmcAccept p mtNotice f).1 = d
  simp (disch := decide)

theorem lmcFrameDiscard_flags : Answers (.lmcFrameDiscard p .crc) s fun d => d.get (LPn_ACQ_EVENTS_LMC_CRC p) = 1 := by
  refine answers_of_run (rfl : _ = execLmcFrameDiscard p .crc s) ?_
  rw [if_pos (show s.dev.fresh.lmcUp p = true from hu)]
  simp (disch := decide)

theorem lmcUserMessage_keeps {k : Nat} {l : List Byte} (hk : 0x40 ≤ k ∧ k ≤ 0x7F) (hl : l.length ≤ 64)
    (ha : (s.dev.lmcAccept p k f).2 = true) (hw : s.dev.waiting (.lmcReceive p) = none) (hn : (s.dev.prt p).lmc.inq.length < 4) :
    Answers (.lmcUserMessage p f k l) s fun d => (d.prt p).lmc.inq = (s.dev.prt p).lmc.inq ++ [(k, f.seq.toNat, l)] := by
  refine answers_of_run (rfl : _ = execLmcUserMessage p f k l s) ?_
  rw [if_pos (by simp [hu, hk, hl])]
  dsimp only
  rw [if_pos (show (s.dev.fresh.lmcAccept p k f).2 = true from ha)]
  obtain ⟨m, ht, -⟩ := s.dev.fresh.tells_lmcAccept p k f
  generalize (s.dev.fresh.lmcAccept p k f).1 = d at ht ⊢
  have hi : (d.prt p).lmc.inq = (s.dev.prt p).lmc.inq := ht.inq
  rw [(ht.waiting _).trans hw]
  simp [hi, hn]

end

theorem remoteFaultExpire_ends : Answers (.remoteFaultExpire p) s fun d => d.get (LPn_LINK_STATUS_REMOTE_FAULT p) = 0 := by
  refine answers_of_run (rfl : _ = execRemoteFaultExpire p s) ?_
  simp (disch := decide)

/-! ## Messages sent -/

theorem lmcKeepalive_queues (hu : s.dev.lmcUp p = true) (h7 : s.dev.acqState p ≠ 7) (hs : s.dev.lmcSends p = true) :
    Answers (.lmcKeepalive p) s fun d => ((d.prt p).lmc.out.map fun e => e.typ) = ((s.dev.prt p).lmc.out.map fun e =>
      e.typ) ++ [mtRemoteSnr] := by
  refine answers_of_run (rfl : _ = execLmcKeepalive p s) ?_
  have hs' : s.dev.fresh.lmcSends p = true := hs
  rw [if_neg (by simp [h7, hs'])]
  exact (Dev.tells_lmcTell (s := s.dev.fresh) _ hu _).out

theorem remoteSnrPeriod_queues (h7 : s.dev.acqState p = 7) (hu : s.dev.get (LPn_ACQ_STATUS_SUBCH_ON p) = 1)
    (hs : s.dev.get (LPn_ACQ_CTRL_SNR_SHARE p) = 1) :
    Answers (.remoteSnrPeriod p) s fun d => ((d.prt p).lmc.out.map fun e => e.typ) = ((s.dev.prt p).lmc.out.map fun e =>
      e.typ) ++ [mtRemoteSnr] := by
  refine answers_of_run (rfl : _ = execRemoteSnrPeriod p s) ?_
  rw [if_pos (by simp [h7, Dev.on, hs])]
  exact (Dev.tells_lmcTell (s := s.dev.fresh) _ (by simp [Dev.lmcUp, h7, Dev.on, hu]) _).out

theorem lmcFrameSent_leaves {t : TxFrame} {l : List TxFrame} (ho : (s.dev.prt p).lmc.out = t :: l) (hu : t.user = false)
    (hs : s.dev.lmcSends p = true) :
    Answers (.lmcFrameSent p) s fun d => (d.prt p).lmc.out = l ∧ (d.prt p).lmc.sent = some t := by
  refine answers_of_run (rfl : _ = execLmcFrameSent p s) ?_
  have ho' : (s.dev.fresh.prt p).lmc.out = t :: l := ho
  have hs' : s.dev.fresh.lmcSends p = true := hs
  rw [ho']
  simp [hu, hs']

theorem ack_completes {t : TxFrame} {c : Desc} (hw : (s.dev.prt p).lmc.wait = [t]) (ha : t.again = false)
    (hc : s.dev.waiting (.lmcSend p t.typ t.seq) = some c) (hd : c.data = .first) :
    Answers (.ack p t.typ t.seq) s fun d => (d.prt p).lmc.wait = [] ∧ d.Completed c stOk t.seq := by
  refine answers_of_run (rfl : _ = execAck p t.typ t.seq s) ?_
  have hw' : (s.dev.fresh.prt p).lmc.wait = [t] := hw
  have hf : [t].find? (fun u => u.typ == t.typ && u.seq == t.seq) = some t := by simp
  rw [hw', hf]
  dsimp only
  generalize hz : s.dev.fresh.modLmc p _ = z
  have hwz : z.waiting (.lmcSend p t.typ t.seq) = some c := by
    subst hz
    exact hc
  have hz' : (z.prt p).lmc.wait = [] := by
    subst hz
    simp [hw]
  have hst : (if ((z.waiting (.lmcSend p t.typ t.seq)).map fun (c : Desc) => c.data == Attempt.second).getD false && stOk == stOk then
      stRetriedOk else stOk) = stOk := by
    rw [hwz]
    simp [hd]
  rw [if_neg (by simp [ha]), Dev.sendDone]
  rw [hst]
  simp only [Dev.prt_settle, Dev.completed_settle, z.wakeOne_keeps, hz', true_and]
  exact Dev.completed_wakeOne_of_waiting hwz _ _

theorem lmcAckTimeout_repeats {t : TxFrame} {l : List TxFrame} (hw : (s.dev.prt p).lmc.wait = t :: l) (ha : t.again = false) :
    Answers (.lmcAckTimeout p) s fun d => (d.prt p).lmc.wait = l ∧ (d.prt p).lmc.out = (s.dev.prt p).lmc.out ++
      [{ t with again := true }] := by
  refine answers_of_run (rfl : _ = execLmcAckTimeout p s) ?_
  have hw' : (s.dev.fresh.prt p).lmc.wait = t :: l := hw
  rw [hw']
  simp [ha]

theorem lmcReceiveTimeout_ends {c : Desc} (hw : s.dev.waits = [(.lmcReceive p, c)]) (hb : c.bytes 20 2 ≠ 0) :
    Answers (.lmcReceiveTimeout p) s fun d => d.waits = [] ∧ d.Completed c stTimeout 0 := by
  refine answers_of_run (rfl : _ = execLmcReceiveTimeout p s) ?_
  simp [hw, hb, Dev.completed_finish]
end

section
variable {s : State} {c : Desc} (ha : s.dev.Acts c)
include ha

theorem lmcSend_queues (h6 : s.dev.acqState (Desc.port c) = 6) (ht : 0x40 ≤ c.byte 17 ∧ c.byte 17 ≤ 0x7F) (hl : c.length ≤ 64)
    (ho : (s.dev.ring c.ring).owner = 0) (hd : c.data = .first)
    (hn : ((s.dev.prt (Desc.port c)).lmc.out.filter fun e => e.user).length < 4) :
    Answers (.lmcSend c) s fun d => ((d.prt (Desc.port c)).lmc.out.map fun e => e.typ) = ((s.dev.prt (Desc.port
      c)).lmc.out.map fun e => e.typ) ++ [c.byte 17] ∧ d.waits.length = s.dev.waits.length + 1 := by
  refine answers_of_descriptor (rfl : _ = execLmcSend c s) ha ?_
  have hs : (s.dev.fresh.opened c).spanBad (Desc.stamp c s.dev.timebase) c.length = false :=
    Dev.spanBad_opened (s := s.dev.fresh) (d := c) c.length ho s.dev.timebase
  have hg := Dev.getData_host (s := s.dev.fresh.opened c) (d := Desc.stamp c s.dev.timebase) (by simpa using ho) hd 0 c.length
  have hn' : ¬ 4 ≤ (((s.dev.fresh.opened c).prt (Desc.port c)).lmc.out.filter fun e => e.user).length := by simpa using hn
  have h6' : (s.dev.fresh.opened c).acqState (Desc.port c) = 6 := by simpa using h6
  dsimp only
  rw [port_stamp, h6', if_neg (by simp), if_neg, if_neg (by decide), if_neg hn', stamp_length, hg.2, hg.1]
  · have ht := (s.dev.fresh.opened c).tells_lmcQueue (Desc.port c) ((Desc.stamp c s.dev.timebase).byte 17)
      ((s.dev.fresh.opened c).getData (Desc.stamp c s.dev.timebase) 0 c.length).2.1 ((Desc.stamp c s.dev.timebase).flag 18 0) true
    generalize (s.dev.fresh.opened c).lmcQueue _ _ _ _ _ = r at ht ⊢
    have ho := ht.out
    have hr := ht.sameRim
    clear ht
    simp only [stamp_byte, Dev.opened_keeps, Dev.prt_busyWith, Dev.prt_fresh] at ho
    simp [ho, hr]
  · rw [stamp_length, hs, Bool.or_false]
    simp only [Bool.or_eq_true, decide_eq_true_eq]
    simp only [stamp_byte]
    omega

theorem lmcReceive_posts (hl : c.length = 68) (ho : (s.dev.ring c.ring).owner = 0)
    (hn : (s.dev.waits.filter fun w => w.1 == WaitKind.lmcReceive (Desc.port c)).length < 8)
    (hi : (s.dev.prt (Desc.port c)).lmc.inq = []) :
    Answers (.lmcReceive c) s fun d => d.waits = s.dev.waits ++ [(.lmcReceive (Desc.port c), Desc.stamp c
      s.dev.timebase)] := by
  refine answers_of_descriptor (rfl : _ = execLmcReceive c s) ha ?_
  have hs : (s.dev.fresh.opened c).spanBad (Desc.stamp c s.dev.timebase) c.length = false :=
    Dev.spanBad_opened (s := s.dev.fresh) (d := c) c.length ho s.dev.timebase
  have hi' : ((s.dev.fresh.opened c).prt (Desc.port c)).lmc.inq = [] := by simpa using hi
  rw [hl] at hs
  simp [hl, hs]
  rw [if_neg (by omega), hi]
  simp
end

/-- Settles O18, clause by clause. -/
theorem linkMessages : Obligations.LinkMessages :=
  ⟨fun _ _ _ u v k hu => remoteSnr_shows hu u v k, fun _ _ _ v hu => eventNotice_shows hu v, fun _ _ _ => remoteFaultExpire_ends,
    fun _ _ => lmcFrameDiscard_flags, fun _ _ => lmcKeepalive_queues, fun _ _ => remoteSnrPeriod_queues,
    fun _ _ _ _ => lmcFrameSent_leaves, fun _ _ _ _ => ack_completes, fun _ _ _ _ => lmcAckTimeout_repeats, fun _ _ => lmcSend_queues,
    fun _ _ _ _ _ hu => lmcUserMessage_keeps hu, fun _ _ => lmcReceive_posts, fun _ _ _ => lmcReceiveTimeout_ends⟩

end Sys2Proof.Machine

/-! The fabric's governor (02 R57–R66) and the on-die memories (15 R501–R517). -/

namespace Sys2Proof.Machine

-- One theorem at a time: side by side they ask for more memory than a check may have.
set_option Elab.async false

open Reg

/-- A device at the ceiling whose port 0 is below the watermark, with its inner code in use and a governor ceiling of 9, which the
three bits of GOV_CEIL cannot hold. -/
def wideCeiling : State :=
  { dev :=
      { regs := [((LPn_FEC_STATUS_INNER_ON 0).key, 1), ((LPn_SLACK_GOV_CEIL 0).key, 9), (PWR_GOV_STATUS_AT_CEILING.key, 1)]
        gov := { lowering := true, lowPorts := [0] } } }

/-- Refutes O21: GOV_CEILING_LOWER from a ceiling of 9 stores 8 in a field of three bits, which then reads 0. -/
theorem not_clocksAndGovernor : ¬ Obligations.ClocksAndGovernor := by
  rintro ⟨-, -, -, -, -, -, -, -, -, h, -⟩
  obtain ⟨t, ht, -, hceil, -⟩ := h wideCeiling 0 7 (by decide) (by decide) (by decide) (by decide) (by decide)
  cases ht
  revert hceil
  decide

/-- A device whose scrubber of memory 1 stands at the next entry of the trace log, one correctable error before its bucket overflows. -/
def scrubbedTrace : State :=
  { dev := { (({ } : Dev).set (MEM_m_SCRUB_SCRUB_EN 1) 1 |>.set (MEM_m_POS_POS 1) 0x4000 |>.set (MEM_m_BUCKET_LEVEL 1) 255) with
      mem := { die := (Vector.replicate 20 []).set 1 [(0x4000, .full 1)] } } }

/-- The first word of the trace log after a step. -/
def traceWordAfter : Host.Outcome State Fault Refusal → MWord
  | .next t => sget {} (t.dev.mem.die.get 1) 0x4000
  | _ => {}

theorem scrubbedTrace_word : traceWordAfter (exec (.scrubTick 1 (BitVec.ofNat 72 (2 ^ 0)) 0) scrubbedTrace) ≠ .full 1 := by
  decide +kernel

/-- Refutes O34: a flipped bit in the trace log fills the leaky bucket of memory 1, and the entry that logs the overflow is written over
the word that has just been corrected. -/
theorem not_onDieMemories : ¬ Obligations.OnDieMemories := by
  rintro ⟨-, h, -⟩
  obtain ⟨t, ht, -, hword, -⟩ := h scrubbedTrace 1 0 (.full 1) (by decide) (by decide) (by decide) (by decide) (by decide) (by decide)
  have hafter := scrubbedTrace_word
  rw [ht] at hafter
  exact hafter hword

end Sys2Proof.Machine

/-! The thermal model (17 R555–R573). -/

namespace Sys2Proof.Machine

-- One theorem at a time: side by side they ask for more memory than a check may have.
set_option Elab.async false

open Reg

/-- A device in the hold of a Quench before the model's first evaluation: its zones have no valid reading, and thermal parameters have been
written whose rated powers are all 0. -/
def parametersWritten : State :=
  { dev := { (({ } : Dev).set THM_STATUS_STATE 5) with
      sys := { core := .running }
      thm := { zone := Vector.replicate 12 { subst := true }, nextPar := some { pmax := [] } } } }

/-- The states of zone 0 after a step, together. -/
def zoneRiseAfter : Host.Outcome State Fault Refusal → Int
  | .next t => (t.dev.zone 0).x1 + (t.dev.zone 0).x2
  | _ => 0

theorem parametersWritten_rise : zoneRiseAfter (exec .thermalModelUpdate parametersWritten) = 0 := by decide +kernel

/-- Refutes O38: the parameters that wait take force before the powers are read, so a zone without a reading counts the rated power of the
new parameters and not of those in force before. -/
theorem not_thermalModelAndReports : ¬ Obligations.ThermalModelAndReports := by
  rintro ⟨-, h, -⟩
  obtain ⟨t, ht, -, -, hrise⟩ := h parametersWritten (by decide) (by decide) (by decide)
  have hzero := parametersWritten_rise
  rw [ht] at hzero
  exact absurd ((hrise 0).symm.trans hzero) (by decide +kernel)

end Sys2Proof.Machine

/-! Resets and boot (19 R596–R614). -/

namespace Sys2Proof.Machine

-- One theorem at a time: side by side they ask for more memory than a check may have.
set_option Elab.async false

open Reg

/-- A SOFT_RESET with its key on ring 0. -/
def softResetDesc : Desc := { ring := 0, body := BitVec.ofNat 256 (0x5A * 256 ^ 16) }

/-- A device on whose list of waiting descriptors a SOFT_RESET stands with no restart under way. -/
def softResetWaits : State := { dev := { waits := [(.softReset, softResetDesc)] } }

/-- The number of descriptors that wait after a step. -/
def waitsAfter : Host.Outcome State Fault Refusal → Nat
  | .next t => t.dev.waits.length
  | _ => 0

theorem softResetWaits_waits : waitsAfter (exec (.softReset softResetDesc) softResetWaits) = 2 := by decide +kernel

/-- Refutes O42: a SOFT_RESET that waits already, though no restart is under way, goes on waiting beside the new one. -/
theorem not_resetsAndBoot : ¬ Obligations.ResetsAndBoot := by
  rintro ⟨-, -, -, -, -, -, -, -, h, -⟩
  obtain ⟨t, ht, -, -, -, hwaits⟩ := h softResetWaits softResetDesc (by decide +kernel) (by decide +kernel) (by decide +kernel)
  have htwo := softResetWaits_waits
  rw [ht] at htwo
  exact absurd ((congrArg List.length hwaits).symm.trans htwo) (by decide)

end Sys2Proof.Machine

/-! The monitor's descriptors (12 R419, R424, R427, R432, R434, R438, R439). -/

namespace Sys2Proof.Machine

-- One theorem at a time: side by side they ask for more memory than a check may have.
set_option Elab.async false

open Reg

/-! ## Host memory, as a descriptor's action phase finds it -/

/-- Host memory, byte by byte. -/
def Dev.hostBytes (s : Dev) : Nat → Byte := s.hostByte

section
variable (s : Dev)

theorem Dev.hostBytes_putWord (i : MemId) (w : Nat) (x : MWord) : (s.putWord i w x).hostBytes = s.hostBytes := rfl

theorem Dev.hostBytes_setRing (r : Nat) (c : RingCtx) : (s.setRing r c).hostBytes = s.hostBytes := by
  unfold Dev.setRing
  refine Dev.each_keep (π := Dev.hostBytes) (fun s k => ?_) _ _
  split
  exacts [rfl, s.hostBytes_putWord _ _ _]

theorem Dev.hostBytes_iff {g : Dev → Dev} (h : ∀ s, (g s).hostBytes = s.hostBytes) (b : Bool) :
    (s.iff b g).hostBytes = s.hostBytes := by
  cases b
  exacts [rfl, h s]

theorem Dev.hostBytes_opened (d : Desc) : (s.opened d).hostBytes = s.hostBytes := by
  have hb (t : Dev) (c : Option (Nat × Nat)) : (t.busyWith c).hostBytes = t.hostBytes := rfl
  exact (hb _ _).trans (s.hostBytes_iff (fun s => s.hostBytes_setRing _ _) _)

/-- The bytes of a descriptor's data in host memory. -/
theorem Dev.getData_bytes {s : Dev} {d : Desc} (ho : (s.ring d.ring).owner = 0) (hd : d.data = .first) (off n : Nat) :
    s.getData d off n = (s, (List.range n).map fun i => s.hostByte ((d.address + off + i) % 2 ^ 64), .first) := by
  unfold Dev.getData
  split
  next h => rw [h]; rfl
  next =>
    dsimp only
    rw [if_pos (show s.ownerOf d = 0 from ho), hd]

/-- What a descriptor reads from host memory does not depend on its being open. -/
theorem Dev.getData_opened {s : Dev} {d : Desc} (ho : (s.ring d.ring).owner = 0) (hd : d.data = .first) (t off n : Nat) :
    (s.opened d).getData (Desc.stamp d t) off n = (s.opened d, (s.getData d off n).2.1, .first) := by
  have hb : ∀ a, (s.opened d).hostByte a = s.hostByte a := congrFun (s.hostBytes_opened d)
  rw [Dev.getData_bytes ho hd, Dev.getData_bytes (s := s.opened d) (d := Desc.stamp d t) (by simpa using ho) hd]
  simp [hb]

theorem Dev.getData_length {s : Dev} {d : Desc} (ho : (s.ring d.ring).owner = 0) (hd : d.data = .first) (off n : Nat) :
    (s.getData d off n).2.1.length = n := by
  simp [Dev.getData_bytes ho hd]

end

theorem Dev.each_keep_mem {α β : Type} {π : Dev → β} {g : Dev → α → Dev} {l : List α} (h : ∀ s, ∀ x ∈ l, π (g s x) = π s)
    (s : Dev) : π (s.each l g) = π s := by
  induction l generalizing s with
  | nil => rfl
  | cons x l ih => exact (ih (fun s y hy => h s y (.tail _ hy)) (g s x)).trans (h s x (.head _))

/-! ## What the monitor's operations leave alone -/

section
variable {l : List Fld} (s : Dev)

@[simp] theorem Dev.view_monRefresh (h : famSub monFlds l = true) : s.monRefresh.view l = s.view l :=
  Dev.view_mono (k := monFlds) (by simp (disch := decide) [Dev.monRefresh]) h

@[simp] theorem Dev.view_monMode (h : famSub monFlds l = true) : s.monMode.view l = s.view l := by
  refine Dev.view_mono (k := monFlds) ?_ h
  unfold Dev.monMode
  refine (Dev.view_monRefresh _ (by decide)).trans ?_
  rw [Dev.view_iff, Dev.view_wakeAll, Dev.view_modMon, ite_self]

theorem Dev.shed_monMode : s.monMode.shed = s.shed := by
  have hw (t : Dev) (f : WaitKind → Bool) (st : Nat) (r : WaitKind → Nat) : (t.wakeAll f st r).shed = t.shed := by simp
  have hi (b : Bool) (g : Dev → Dev) (h : ∀ t, (g t).shed = t.shed) : (s.iff b g).shed = s.shed := by
    cases b
    exacts [rfl, h s]
  exact hi _ _ fun t => hw _ _ _ _

end

/-! ## The clauses -/

section
variable {s : State} {c : Desc}

theorem monConfigInput_sets {i : InputNo} (ha : s.dev.Acts c) (hi : c.bits 17 4 0 = i.val)
    (hv : c.bytes 19 2 % 4096 ≤ c.bytes 21 2 % 4096) (hb : c.bits 18 2 1 = 0 ∧ c.bits 23 4 0 ≤ 23) (he : c.flag 18 0 = true) :
    Answers (.monConfigInput c) s fun d => d.Completed c stOk 0 ∧ d.get (MON_INm_CFG_EN i) = 1 ∧ d.get (MON_INm_LIM_VLO
      i) = c.bytes 19 2 % 4096 ∧ d.get (MON_INm_LIM_VHI i) = c.bytes 21 2 % 4096 ∧ d.get (MON_INm_CFG_COARSE_K i) =
      c.bits 18 5 3 := by
  refine answers_of_descriptor (rfl : _ = execMonConfigInput c s) ha ?_
  have hi' : Fin.ofNat 32 (c.bits 17 4 0) = i := by rw [hi]; exact Fin.ofNat_val_eq_self i
  obtain ⟨hbias, hrb⟩ := hb
  have hw (i : InputNo) : (MON_INm_LIM_VLO i).width = 12 ∧ (MON_INm_LIM_VHI i).width = 12 ∧ (MON_INm_CFG_COARSE_K i).width = 3 :=
    ⟨rfl, rfl, rfl⟩
  have hk : c.bits 18 5 3 < 8 := Nat.mod_lt _ (by decide)
  dsimp only [stamp_bits, stamp_bytes, stamp_flag]
  rw [hi', if_neg (by rw [hbias]; omega), if_neg (by simp [he])]
  simp (disch := decide) [he, hw, hk]

theorem monConfigSlots_keeps (ha : s.dev.Acts c) (hl : 1 ≤ c.length ∧ c.length ≤ 64) (ho : (s.dev.ring c.ring).owner = 0)
    (hd : c.data = .first) (hb : (s.dev.fresh.getData c 0 c.length).2.1.all (fun x => decide (x.toNat ≤ 31)) = true)
    (hs : ∀ l : LoopNo, s.dev.loopState l = 0) :
    Answers (.monConfigSlots c) s fun d => d.Completed c stOk c.length ∧ d.mon.nextSlots = some ((s.dev.fresh.getData c 0
      c.length).2.1.map BitVec.toNat) ∧ d.mon.slots = s.dev.mon.slots := by
  refine answers_of_descriptor (rfl : _ = execMonConfigSlots c s) ha ?_
  have hspan := Dev.spanBad_opened (s := s.dev.fresh) (d := c) c.length ho s.dev.timebase
  have hg := Dev.getData_opened (s := s.dev.fresh) (d := c) ho hd s.dev.timebase 0 c.length
  have hst (l : LoopNo) : (s.dev.fresh.opened c).get (BCE_LOOPn_STATE_STATE l) = 0 := by
    rw [Dev.get_opened_inst _ (by decide)]
    exact hs l
  have hcic (k : Nat) : (s.dev.fresh.opened c).cicUsed k = false := by simp [Dev.cicUsed, hst]
  have hin (i : Nat) : (s.dev.fresh.opened c).inputUsed i = false := by simp [Dev.inputUsed, hst, hcic]
  generalize (s.dev.fresh.getData c 0 c.length).2.1 = l at hb hg ⊢
  have hany : ((l.map BitVec.toNat).any fun i => decide (31 < i)) = false := by
    simp only [List.all_eq_true, decide_eq_true_eq] at hb
    simpa using hb
  dsimp only
  rw [stamp_length, hspan, if_neg (by simp; omega), if_neg (by omega), hg]
  simp only [hany, hin, Bool.false_and]
  simp [statusOf]

theorem monConfigPower_sets (ha : s.dev.Acts c) :
    Answers (.monConfigPower c) s fun d => d.get MON_CTRL_LP_SW = bnat (c.flag 17 0) ∧ d.get MON_CTRL_LP_GUARD = bnat
      (c.flag 17 1) ∧ d.Completed c stOk (bnat (c.flag 17 0 || s.dev.shedAt 5)) := by
  refine answers_of_descriptor (rfl : _ = execMonConfigPower c s) ha ?_
  have hg (t : Dev) {f : Fld} (hf : f.spared monFlds = true) : t.monMode.get f = t.get f :=
    Dev.get_of_view (t.view_monMode (by decide)) hf
  have hb (b : Bool) : (bnat b != 0) = b := by cases b <;> rfl
  simp (disch := decide) [hg, Dev.shed_monMode, Dev.monLp, Dev.shedAt, hb]

theorem monConfigCalCycle_starts {l r : List Nat} (ha : s.dev.Acts c) (hp : s.dev.monLp = false) (hr : s.dev.monRuns = true)
    (hl : s.dev.mon.inServ = l) (hn : l ≠ []) (hf : s.dev.mon.free = r) (hm : r ≠ []) (hc : s.dev.mon.cycle = none) :
    Answers (.monConfigCalCycle c) s fun d => d.mon.cycle = some (r.headD 0 :: l, [], 1, 0) ∧ d.waits = s.dev.waits ++
      [(.monCycle, Desc.stamp c s.dev.timebase)] := by
  refine answers_of_descriptor (rfl : _ = execMonConfigCalCycle c s) ha ?_
  obtain ⟨f, fs, rfl⟩ := List.exists_cons_of_ne_nil hm
  obtain ⟨a, as, rfl⟩ := List.exists_cons_of_ne_nil hn
  have hp' : (s.dev.fresh.opened c).monLp = false := by
    rw [← hp]
    simp (disch := decide) [Dev.monLp, Dev.shedAt]
  have hr' : (s.dev.fresh.opened c).monRuns = true := by
    rw [← hr]
    simp (disch := decide) [Dev.monRuns]
  have hmon : (s.dev.fresh.opened c).mon = s.dev.mon := by simp
  have hw : (s.dev.fresh.opened c).waits = s.dev.waits := by simp
  rw [hp', hr', hmon, hl, hf, hc, if_neg (by simp; omega), if_neg (by simp)]
  generalize s.dev.fresh.opened c = t at hmon hw
  constructor
  · change t.monCycleStart.mon.cycle = _
    unfold Dev.monCycleStart
    dsimp only
    rw [hmon, hf, hl]
    rfl
  · change t.waits ++ _ = _
    rw [hw]

/-- An input cleared among others has no sum and no count. -/
theorem Dev.monClear_each {l : List Nat} {i : Nat} (hi : i ∈ l) (t : Dev) :
    ((t.each l Dev.monClear).mon.inp.get (Fin.ofNat 32 i)).sum = 0 ∧
    ((t.each l Dev.monClear).mon.inp.get (Fin.ofNat 32 i)).count = 0 := by
  have hs (t : Dev) : ((t.monClear i).mon.inp.get (Fin.ofNat 32 i)).sum = 0 ∧
      ((t.monClear i).mon.inp.get (Fin.ofNat 32 i)).count = 0 :=
    ⟨congrArg MonIn.sum (vmod_same _ _ _), congrArg MonIn.count (vmod_same _ _ _)⟩
  refine Dev.each_of_mem (P := fun t => (t.mon.inp.get (Fin.ofNat 32 i)).sum = 0 ∧ (t.mon.inp.get (Fin.ofNat 32 i)).count = 0)
    (g := Dev.monClear) hs (fun t k ht => ?_) hi t
  by_cases hk : Fin.ofNat 32 k = Fin.ofNat 32 i
  · have he : t.monClear k = t.monClear i := by
      unfold Dev.monClear
      rw [hk]
    exact he ▸ hs t
  · have he : (t.monClear k).mon.inp.get (Fin.ofNat 32 i) = t.mon.inp.get (Fin.ofNat 32 i) := vmod_other _ _ hk
    exact he.symm ▸ ht

theorem monRead_clears (ha : s.dev.Acts c) (hf : c.flag 16 0 = false ∧ c.flag 17 0 = true) (hk : c.bytes 20 4 ≠ 0)
    (hl : c.length = 32 * (maskList 32 (c.bytes 20 4)).length) (ho : (s.dev.ring c.ring).owner = 0) :
    Answers (.monRead c) s fun d => d.Completed c stOk c.length ∧ ∀ i ∈ maskList 32 (c.bytes 20 4), (d.mon.inp.get
      (Fin.ofNat 32 i)).sum = 0 ∧ (d.mon.inp.get (Fin.ofNat 32 i)).count = 0 := by
  refine answers_of_descriptor (rfl : _ = execMonRead c s) ha ?_
  obtain ⟨hcic, hclr⟩ := hf
  have hsel : maskList 32 (c.bytes 20 4) ≠ [] := maskList_ne_nil hk (Nat.mod_lt _ (by decide))
  have hn : c.length ≠ 0 := by
    rw [hl]
    have := List.length_pos_of_ne_nil hsel
    omega
  have hspan := Dev.spanBad_opened (s := s.dev.fresh) (d := c) c.length ho s.dev.timebase
  have hput := Dev.putData_opened (s := s.dev.fresh) (d := c) ho s.dev.timebase 0
  dsimp only
  rw [stamp_length, stamp_bytes, stamp_flag, stamp_flag, hcic, hclr, hspan, if_neg (by simp [hk, hl]), if_neg hn, hput]
  generalize (s.dev.fresh.opened c).hostWrite _ _ = t
  exact ⟨by simp [statusOf, hl], fun i hi => by simpa [statusOf] using Dev.monClear_each hi t⟩

theorem Dev.cicUsed_opened (t : Dev) (d : Desc) (k : Nat) : (t.opened d).cicUsed k = t.cicUsed k := by
  simp (disch := decide) [Dev.cicUsed]

theorem Dev.inputUsed_opened (t : Dev) (d : Desc) (i : Nat) : (t.opened d).inputUsed i = t.inputUsed i := by
  have hf (k : Nat) (hk : k < 8) : (t.opened d).get (MON_CICk_CFG_INPUT k) = t.get (MON_CICk_CFG_INPUT k) :=
    Dev.get_opened_inst (F := MON_CICk_CFG_INPUT) (p := ⟨k, hk⟩) t (by decide) d
  have ha : (List.range 8).any (fun k => (t.opened d).get (MON_CICk_CFG_INPUT k) == i && t.cicUsed k) =
      (List.range 8).any fun k => t.get (MON_CICk_CFG_INPUT k) == i && t.cicUsed k := by
    rw [Bool.eq_iff_iff]
    simp only [List.any_eq_true, List.mem_range]
    exact exists_congr fun k => and_congr_right fun hk => by rw [hf k hk]
  unfold Dev.inputUsed
  simp only [Dev.cicUsed_opened, ha]
  simp (disch := decide)

theorem monSyscal_acts {i : Instr} {act : Dev → Desc → Dev} {P : Dev → Prop} (ha : s.dev.Acts c)
    (hi : exec i s = run s fun d => d.syscal c act) (hv : c.bits 18 2 0 ≤ 4) (hk : c.bits 17 1 0 ≠ 3)
    (hz : c.bits 17 1 0 = 1 → (s.dev.mon.inp.get (Desc.input c)).zero.isSome = true)
    (hu : s.dev.inputUsed (Desc.input c) = false)
    (hp : P (((act (s.dev.fresh.opened c) (Desc.stamp c s.dev.timebase)).busyWith none).settle s.dev.mem)) :
    Answers i s P := by
  refine answers_of_descriptor hi ha ?_
  have hin (i : Nat) : (s.dev.fresh.opened c).inputUsed i = s.dev.inputUsed i := s.dev.fresh.inputUsed_opened c i
  have hc : Desc.input (Desc.stamp c s.dev.timebase) = Desc.input c := rfl
  have hmon : (s.dev.fresh.opened c).mon = s.dev.mon := by simp
  rw [stamp_bits, stamp_bits, hc, hmon, if_neg (by omega), if_neg, hin, hu, if_neg (by decide)]
  · exact hp
  · rintro ⟨h1, h2⟩
    have := hz h1
    simp_all

theorem syscalStart_starts {t : Dev} {d : Desc} (target : Option Nat) (hn : (t.mon.inp.get (Desc.input d)).syscal = none) :
    ((t.syscalStart d target).mon.inp.get (Desc.input d)).syscal = some { target := target, avg := d.bits 18 2 0 } ∧
    (t.syscalStart d target).waits = t.waits ++ [(.syscal (Desc.input d), d)] := by
  unfold Dev.syscalStart
  dsimp only
  rw [hn, if_neg (by decide)]
  exact ⟨congrArg MonIn.syscal (vmod_same _ _ _), rfl⟩

theorem monSyscal_starts {i : Instr} {target : Option Nat} (ha : s.dev.Acts c)
    (hi : exec i s = run s fun d => d.syscal c fun d c => d.syscalStart c (target.map fun _ => c.bytes 20 2))
    (hv : c.bits 18 2 0 ≤ 4) (hk : c.bits 17 1 0 ≠ 3)
    (hz : c.bits 17 1 0 = 1 → (s.dev.mon.inp.get (Desc.input c)).zero.isSome = true)
    (hu : s.dev.inputUsed (Desc.input c) = false) (hn : (s.dev.mon.inp.get (Desc.input c)).syscal = none) :
    Answers i s fun d => (d.mon.inp.get (Desc.input c)).syscal = some
        { target := target.map fun _ => c.bytes 20 2, avg := c.bits 18 2 0 } ∧
      d.waits = s.dev.waits ++ [(.syscal (Desc.input c), Desc.stamp c s.dev.timebase)] := by
  refine monSyscal_acts ha hi hv hk hz hu ?_
  have hmon : (s.dev.fresh.opened c).mon = s.dev.mon := by simp
  have hw : (s.dev.fresh.opened c).waits = s.dev.waits := by simp
  have h := syscalStart_starts (t := s.dev.fresh.opened c) (d := Desc.stamp c s.dev.timebase)
    (target.map fun _ => c.bytes 20 2) (by rw [hmon]; exact hn)
  rw [hw] at h
  exact h

/-- The registers that say how a channel's outputs stand. -/
def cicFlds : List Fld := [MON_CICk_OUT_VALID 0, MON_CICk_OUT_UP_ARMED 0, MON_CICk_OUT_LO_ARMED 0]

theorem Dev.view_cicSync (t : Dev) {k : Nat} (hk : k < 8) : (t.cicSync k).view cicFlds = t.view cicFlds := by
  obtain ⟨j, rfl⟩ : ∃ j : Fin 8, k = j.val := ⟨⟨k, hk⟩, rfl⟩
  simp (disch := decide) [Dev.cicSync]

theorem Dev.view_cicSyncInput (t : Dev) (i : Nat) : (t.cicSyncInput i).view cicFlds = t.view cicFlds :=
  Dev.each_keep_mem (π := Dev.view cicFlds) (fun t _ hk => t.view_cicSync (List.mem_range.1 (List.mem_of_mem_filter hk))) t

theorem monSyscalDefault_clears (ha : s.dev.Acts c) (hv : c.bits 18 2 0 ≤ 4 ∧ c.bits 17 1 0 = 2)
    (hu : s.dev.inputUsed (Desc.input c) = false) :
    Answers (.monSyscalDefault c) s fun d => d.Completed c stOk 0x40000000 ∧ d.get (MON_INm_CAL_OFFSET (Desc.input c)) =
      0 ∧ d.get (MON_INm_CAL_GAIN (Desc.input c)) = 0x4000 := by
  obtain ⟨hv, hk⟩ := hv
  refine monSyscal_acts ha (rfl : _ = execMonSyscalDefault c s) hv (by omega) (by omega) hu ?_
  have ho (t : Dev) (i : InputNo) (n : Nat) : (t.cicSyncInput n).get (MON_INm_CAL_OFFSET i) = t.get (MON_INm_CAL_OFFSET i) :=
    Dev.get_inst_of_view (t.view_cicSyncInput n) (by decide) i
  have hn (t : Dev) (i : InputNo) (n : Nat) : (t.cicSyncInput n).get (MON_INm_CAL_GAIN i) = t.get (MON_INm_CAL_GAIN i) :=
    Dev.get_inst_of_view (t.view_cicSyncInput n) (by decide) i
  have hc : Desc.input (Desc.stamp c s.dev.timebase) = Desc.input c := rfl
  simp (disch := decide) [Dev.monCoefs, Dev.cfgChanged, ho, hn, hc]

theorem cicConfig_sets {k : Nat} (ha : s.dev.Acts c) (hk : k = c.bits 16 2 0) (hw : c.flag 17 0 = true)
    (ho : 3 ≤ c.bits 19 2 0 ∧ c.bits 19 2 0 ≤ 5) (hd : 4 ≤ c.bytes 20 2 % 8192 ∧ c.bytes 20 2 % 8192 ≤ 4096)
    (ht : c.bytes 24 2 ≤ c.bytes 22 2) (hu : s.dev.cicUsed k = false) :
    Answers (.cicConfig c) s fun d => d.Completed c stOk 0 ∧ d.get (MON_CICk_CFG_ORDER k) = c.bits 19 2 0 ∧ d.get
      (MON_CICk_CFG_DEC k) = c.bytes 20 2 % 8192 ∧ d.get (MON_CICk_TH_UTH k) = c.bytes 22 2 ∧ d.get (MON_CICk_TH_LTH k) =
      c.bytes 24 2 ∧ d.get (MON_CICk_CFG_EN k) = bnat (c.flag 28 3) := by
  refine answers_of_descriptor (rfl : _ = execCicConfig c s) ha ?_
  have hlt : k < 8 := by rw [hk]; exact Nat.mod_lt _ (by decide)
  obtain ⟨j, hj⟩ : ∃ j : Fin 8, k = j.val := ⟨⟨k, hlt⟩, rfl⟩
  have hu' : (s.dev.fresh.opened c).cicUsed k = false := by
    rw [← hu]
    simp (disch := decide) [Dev.cicUsed]
  dsimp only
  rw [show (Desc.stamp c s.dev.timebase).bits 16 2 0 = k from hk.symm, stamp_flag, hw]
  rw [if_neg (by simp only [stamp_bits, stamp_bytes]; omega), hu', if_neg (by simp)]
  subst hj
  have hb : c.bits 19 2 0 < 8 ∧ c.bytes 22 2 < 2 ^ 16 ∧ c.bytes 24 2 < 2 ^ 16 :=
    ⟨Nat.mod_lt _ (by decide), Nat.mod_lt _ (by decide), Nat.mod_lt _ (by decide)⟩
  have hwd (k : Fin 8) : (MON_CICk_CFG_ORDER k).width = 3 ∧ (MON_CICk_CFG_DEC k).width = 13 ∧ (MON_CICk_TH_UTH k).width = 16 ∧
      (MON_CICk_TH_LTH k).width = 16 := ⟨rfl, rfl, rfl, rfl⟩
  have hv (b : Bool) (t : Dev) : (t.iff b (·.cicSync j)).view cicFlds = t.view cicFlds := by
    rw [Dev.view_iff, t.view_cicSync j.isLt, ite_self]
  have hg (b : Bool) (t : Dev) {F : Nat → Fld} (hf : ∀ j : Fin 8, (F j).spared cicFlds = true) :
      (t.iff b (·.cicSync j)).get (F j) = t.get (F j) := Dev.get_inst_of_view (hv b t) hf j
  simpa (disch := decide) [hg, hwd] using hb

end

/-- Settles O29, a clause for each of the monitor's descriptors. -/
theorem monitorDescriptors : Obligations.MonitorDescriptors :=
  ⟨fun _ _ _ => monConfigInput_sets, fun _ _ ha hl ho => monConfigSlots_keeps ha hl ho, fun _ _ => monConfigPower_sets,
    fun _ _ _ _ => monConfigCalCycle_starts, fun _ _ => monRead_clears,
    fun _ _ ha ⟨hv, hk⟩ => monSyscal_starts (target := none) ha rfl hv (by omega) (by omega),
    fun _ c ha ⟨hv, hk⟩ hz => monSyscal_starts (target := some (c.bytes 20 2)) ha rfl hv (by omega) (fun _ => hz),
    fun _ _ => monSyscalDefault_clears, fun _ _ _ => cicConfig_sets⟩

end Sys2Proof.Machine

/-! The monitor's conversions, its health windows and its calibrations (12 R413–R421, R429–R432, R434). -/

namespace Sys2Proof.Machine

-- One theorem at a time: side by side they ask for more memory than a check may have.
set_option Elab.async false

open Reg

/-! ## What a decimation channel leaves alone -/

/-- The registers that a sample in a channel writes. -/
def feedFlds : List Fld :=
  [MON_CICk_OUT_OUT 0, MON_CICk_OUT_OOR 0, MON_EVENTS_OOR, MON_EVENTS_CIC_UPPER, MON_EVENTS_CIC_LOWER] ++ cicFlds

/-- The registers that a channel does not write, and the monitor's inputs and place in the table. -/
def Dev.unfed (s : Dev) : (Fld → Nat) × Vector MonIn 32 × Nat := (s.view feedFlds, s.mon.inp, s.mon.pos)

section
variable (s : Dev) (k : Fin 8)

theorem Dev.unfed_of {a b : Dev} (h : a.view feedFlds = b.view feedFlds) (hm : a.mon = b.mon) : a.unfed = b.unfed := by
  rw [Dev.unfed, Dev.unfed, h, hm]

theorem Dev.unfed_iff {g : Dev → Dev} (h : ∀ s, (g s).unfed = s.unfed) (b : Bool) : (s.iff b g).unfed = s.unfed := by
  cases b
  exacts [rfl, h s]

theorem Dev.unfed_fire (f : Fld) (hf : f.lsb < 32 ∧ f.touched feedFlds = true) (b : Bool) (l : List Byte) :
    ((s.flag f true).iff b fun s => s.log f 1 l).unfed = s.unfed :=
  (Dev.unfed_iff _ (fun t => Dev.unfed_of (t.view_log _ _ _ _) (by simp)) b).trans
    (Dev.unfed_of (s.view_set_fld _ hf) rfl)

theorem Dev.unfed_set {F : Nat → Fld} (h : ∀ p : Fin 8, (F p).lsb < 32 ∧ (F p).touched feedFlds = true) (v : Nat) :
    (s.set (F k) v).unfed = s.unfed := Dev.unfed_of (s.view_set_inst v h) rfl

theorem Dev.unfed_cicCompare : (s.cicCompare k).unfed = s.unfed := by
  have hup (b : Bool) (t : Dev) := t.unfed_set k (F := MON_CICk_OUT_UP_ARMED) (by decide) (bnat b)
  have hlo (b : Bool) (t : Dev) := t.unfed_set k (F := MON_CICk_OUT_LO_ARMED) (by decide) (bnat b)
  have hfu (b : Bool) (l : List Byte) (t : Dev) := t.unfed_fire MON_EVENTS_CIC_UPPER (by decide) b l
  have hfl (b : Bool) (l : List Byte) (t : Dev) := t.unfed_fire MON_EVENTS_CIC_LOWER (by decide) b l
  unfold Dev.cicCompare
  extract_lets out hys fire upper
  have hu : upper.unfed = s.unfed := by
    unfold upper
    split
    · split
      exacts [(hfu _ _ _).trans (hup _ _), rfl]
    · exact Dev.unfed_iff _ (fun t => hup _ t) _
  split
  · rfl
  · split
    · exact Dev.unfed_of (s.view_set_fld _ (by decide)) rfl
    · split
      · split
        exacts [((hfl _ _ _).trans (hlo _ _)).trans hu, hu]
      · exact (Dev.unfed_iff _ (fun t => hlo _ t) _).trans hu

theorem Dev.unfed_cicFeed (v : Nat) (o : Bool) : (s.cicFeed k v o).unfed = s.unfed := by
  unfold Dev.cicFeed
  extract_lets N D c0 c put out t1 t2
  have hp (t : Dev) (c : CicSt) : (put t c).unfed = t.unfed := rfl
  split
  · refine (t2.set (MON_CICk_OUT_OOR k) _).unfed_cicCompare k |>.trans ?_
    refine (t2.unfed_set k (F := MON_CICk_OUT_OOR) (by decide) _).trans ?_
    refine (Dev.unfed_set _ k (F := MON_CICk_OUT_VALID) (by decide) _).trans ?_
    exact (Dev.unfed_set _ k (F := MON_CICk_OUT_OUT) (by decide) _).trans (hp _ _)
  · exact hp _ _

theorem Dev.unfed_feeds (P : Nat → Bool) (v : Nat) (o : Bool) :
    (s.each ((List.range 8).filter P) fun s k => s.cicFeed k v o).unfed = s.unfed :=
  Dev.each_keep_mem (π := Dev.unfed) (fun s x hx => s.unfed_cicFeed ⟨x, List.mem_range.1 (List.mem_of_mem_filter hx)⟩ v o) s

end

section
variable (s : Dev) (i : InputNo) (g : MonIn → MonIn)
theorem Dev.inp_modIn : (s.modIn i g).mon.inp.get i = g (s.mon.inp.get i) := vmod_same _ _ _
theorem Dev.get_modIn (f : Fld) : (s.modIn i g).get f = s.get f := rfl
theorem Dev.mon_set (f : Fld) (v : Nat) : (s.set f v).mon = s.mon := rfl
end

/-- A conversion's result in range: LAST, and one more conversion counted (12 R418, R421). -/
theorem Dev.monResult_in_range (s : Dev) (i : InputNo) (c16 : Int) {v : Nat} (hv : v < 2 ^ 16) :
    (s.monResult i c16 v false).get (MON_INm_VAL_LAST i) = v ∧
    ((s.monResult i c16 v false).mon.inp.get i).count = min ((s.mon.inp.get i).count + 1) (2 ^ 32 - 1) ∧
    ((s.monResult i c16 v false).mon.inp.get i).oorCount = (s.mon.inp.get i).oorCount ∧
    (s.monResult i c16 v false).mon.pos = s.mon.pos := by
  unfold Dev.monResult
  extract_lets t a b n y y' d e
  generalize hP : (fun k : Nat => e.on (MON_CICk_CFG_EN k) && e.get (MON_CICk_CFG_INPUT k) == i.val) = P
  have hf := e.unfed_feeds P v false
  generalize (e.each ((List.range 8).filter P) fun s k => s.cicFeed k v false) = r at hf
  obtain ⟨hview, hinp, hpos⟩ : r.view feedFlds = e.view feedFlds ∧ r.mon.inp = e.mon.inp ∧ r.mon.pos = e.mon.pos := by
    simpa [Dev.unfed] using hf
  have hg : r.get (MON_INm_VAL_LAST i) = e.get (MON_INm_VAL_LAST i) := Dev.get_inst_of_view hview (by decide) i
  rw [hg, hinp, hpos]
  have hw : (MON_INm_VAL_LAST i).width = 16 := rfl
  have ha : b.mon.inp.get i = { s.mon.inp.get i with syscal := (s.mon.inp.get i).syscal.map (·.take c16 false), time := t } :=
    (Dev.inp_modIn _ i _).trans (congrArg (fun n : MonIn => { n with time := t }) (Dev.inp_modIn s i _))
  have he : e = d.set (MON_INm_VAL_COARSE i) y'.toNat := rfl
  have hd : d.mon.inp.get i = _ := Dev.inp_modIn b i _
  have hl : d.get (MON_INm_VAL_LAST i) = v := by
    rw [Dev.get_modIn, Dev.get_modIn]
    exact Dev.get_set_of_lt _ (by rw [hw]; exact hv)
  rw [he, Dev.mon_set, hd, ha]
  refine ⟨(Dev.get_set_inst_inst _ _ (by decide)).trans hl, rfl, rfl, rfl⟩

/-! ## The clauses -/

section
variable {s : State}

theorem clampInt_toNat_le (n : Nat) (v : Int) : (clampInt 0 n v).toNat ≤ n := by
  unfold clampInt
  omega

theorem monConversion_counts {z : Int} {i : InputNo} {k : Nat} (hr : s.dev.monRuns = true) (hn : s.dev.mon.inServ ≠ [])
    (hk : s.dev.nextSlot s.dev.mon.slots s.dev.mon.pos = some k) (hi : i = Fin.ofNat 32 (s.dev.mon.slots.getD k 0))
    (hf : (s.dev.mon.slice.get (Fin.ofNat 5 (s.dev.slotSlice k))).flagged = false)
    (hv : s.dev.get (MON_INm_LIM_VLO i) ≤ (clampInt 0 4095 z).toNat ∧ (clampInt 0 4095 z).toNat ≤ s.dev.get (MON_INm_LIM_VHI i)) :
    Answers (.monConversion z) s fun d => d.get (MON_INm_VAL_LAST i) = s.dev.monValue i (trimmed (s.dev.mon.slice.get
      (Fin.ofNat 5 (s.dev.slotSlice k))) (clampInt 0 4095 z).toNat) ∧ (d.mon.inp.get i).count = min ((s.dev.mon.inp.get
      i).count + 1) (2 ^ 32 - 1) ∧ (d.mon.inp.get i).oorCount = (s.dev.mon.inp.get i).oorCount ∧ d.mon.pos = k + 1 := by
  refine answers_of_run (rfl : _ = execMonConversion z s) ?_
  have hrun : s.dev.fresh.monRuns = true ∧ s.dev.fresh.mon.inServ ≠ [] := ⟨hr, hn⟩
  have hk' : s.dev.fresh.nextSlot s.dev.fresh.mon.slots s.dev.fresh.mon.pos = some k := hk
  have hi' : Fin.ofNat 32 (s.dev.fresh.mon.slots.getD k 0) = i := hi.symm
  have hf' : (s.dev.fresh.mon.slice.get (Fin.ofNat 5 (s.dev.fresh.slotSlice k))).flagged = false := hf
  have hv' : s.dev.fresh.get (MON_INm_LIM_VLO i) ≤ (clampInt 0 4095 z).toNat ∧
    (clampInt 0 4095 z).toNat ≤ s.dev.fresh.get (MON_INm_LIM_VHI i) := hv
  rw [if_pos hrun, hk']
  dsimp only
  rw [hi', hf', Bool.false_or, decide_eq_false (Nat.not_lt.2 hv'.1), decide_eq_false (Nat.not_lt.2 hv'.2), Bool.or_false]
  refine Dev.monResult_in_range _ i _ ?_
  exact Nat.lt_succ_of_le (clampInt_toNat_le 65535 _)

/-- The health check gone on to the next slice in service. -/
def Dev.monNext (d : Dev) : Dev :=
  d.modMon fun m => { m with health := (d.mon.health % max d.mon.inServ.length 1 + 1) % max m.inServ.length 1 }

/-- The verdict of a window on a slice (12 R430, R431). -/
def Dev.monJudge (d : Dev) (n : Nat) (codes : List (Nat × Nat)) : Dev :=
  if monWindowFails (d.mon.slice.get (Fin.ofNat 5 n)) (d.mon.slice.get (Fin.ofNat 5 (d.mon.free.headD 0))) codes then
    let bad := (d.mon.slice.get (Fin.ofNat 5 n)).bad + 1
    let d := (d.modSlice n fun z => { z with bad := bad, flagged := true }).inc MON_SLICE_HLTH_FAILS
    if 2 ≤ bad then ((d.raise MON_EVENTS_SLICE_FAIL 2 (pay n)).monRetire n).monCycleStart else d.monRefresh
  else (d.modSlice n fun z => { z with bad := 0, flagged := false }).monRefresh

theorem Dev.slice_modSlice (t : Dev) (n : Nat) (g : MonSlice → MonSlice) :
    (t.modSlice n g).mon.slice.get (Fin.ofNat 5 n) = g (t.mon.slice.get (Fin.ofNat 5 n)) := vmod_same _ _ _
theorem Dev.parts_modSlice (t : Dev) (n : Nat) (g : MonSlice → MonSlice) : (t.modSlice n g).mon.health = t.mon.health ∧
    (t.modSlice n g).mon.inServ = t.mon.inServ := ⟨rfl, rfl⟩
theorem Dev.get_modSlice (t : Dev) (n : Nat) (g : MonSlice → MonSlice) (f : Fld) : (t.modSlice n g).get f = t.get f := rfl
theorem Dev.mon_monRefresh (t : Dev) : t.monRefresh.mon = t.mon := rfl

section
variable {n : Nat} {codes : List (Nat × Nat)} (h : s.dev.monHealthOn = true) (hl : s.dev.mon.health < s.dev.mon.inServ.length)
  (hn : s.dev.mon.inServ[s.dev.mon.health]? = some n)
include h hl hn

/-- The window of a running check judges the slice in service at its place. -/
theorem monHealthWindowEnd_judges {P : Dev → Prop} (hp : P ((s.dev.fresh.monNext.monJudge n codes).settle s.dev.mem)) :
    Answers (.monHealthWindowEnd codes) s P := by
  refine answers_of_run (rfl : _ = execMonHealthWindowEnd codes s) ?_
  have hk : s.dev.fresh.mon.health % max s.dev.fresh.mon.inServ.length 1 = s.dev.mon.health := by
    change s.dev.mon.health % max s.dev.mon.inServ.length 1 = _
    rw [Nat.max_eq_left (by omega)]
    exact Nat.mod_eq_of_lt hl
  have h' : s.dev.fresh.monHealthOn = true := h
  have hn' : s.dev.fresh.mon.inServ[s.dev.fresh.mon.health % max s.dev.fresh.mon.inServ.length 1]? = some n := by
    rw [hk]
    exact hn
  dsimp only
  rw [h', hn']
  exact hp

omit h hn in
theorem Dev.health_monNext : s.dev.fresh.monNext.mon.health = (s.dev.mon.health + 1) % s.dev.mon.inServ.length := by
  change (s.dev.mon.health % max s.dev.mon.inServ.length 1 + 1) % max s.dev.mon.inServ.length 1 = _
  rw [Nat.max_eq_left (by omega), Nat.mod_eq_of_lt hl]

theorem monHealthWindowEnd_passes (hf : monWindowFails (s.dev.mon.slice.get (Fin.ofNat 5 n)) (s.dev.mon.slice.get (Fin.ofNat 5
      (s.dev.mon.free.headD 0))) codes = false) :
    Answers (.monHealthWindowEnd codes) s fun d => (d.mon.slice.get (Fin.ofNat 5 n)).flagged = false ∧ (d.mon.slice.get
      (Fin.ofNat 5 n)).bad = 0 ∧ d.mon.health = (s.dev.mon.health + 1) % s.dev.mon.inServ.length := by
  refine monHealthWindowEnd_judges h hl hn ?_
  have hsl : s.dev.fresh.monNext.mon.slice = s.dev.mon.slice := rfl
  have hfr : s.dev.fresh.monNext.mon.free = s.dev.mon.free := rfl
  have hh := Dev.health_monNext hl
  generalize s.dev.fresh.monNext = d at hsl hfr hh
  unfold Dev.monJudge
  rw [hsl, hfr, hf, if_neg (by decide)]
  simp only [Dev.settle_mon, Dev.mon_monRefresh, Dev.slice_modSlice, Dev.parts_modSlice, hh, and_self]

theorem monHealthWindowEnd_flags (hb : (s.dev.mon.slice.get (Fin.ofNat 5 n)).bad = 0)
    (hf : monWindowFails (s.dev.mon.slice.get (Fin.ofNat 5 n)) (s.dev.mon.slice.get (Fin.ofNat 5 (s.dev.mon.free.headD 0))) codes = true) :
    Answers (.monHealthWindowEnd codes) s fun d => (d.mon.slice.get (Fin.ofNat 5 n)).flagged = true ∧ (d.mon.slice.get
      (Fin.ofNat 5 n)).bad = 1 ∧ d.get MON_SLICE_HLTH_FAILS = min (s.dev.get MON_SLICE_HLTH_FAILS + 1) 255 ∧ d.mon.inServ
      = s.dev.mon.inServ := by
  refine monHealthWindowEnd_judges h hl hn ?_
  have hsl : s.dev.fresh.monNext.mon.slice = s.dev.mon.slice := rfl
  have hfr : s.dev.fresh.monNext.mon.free = s.dev.mon.free := rfl
  have hs : s.dev.fresh.monNext.mon.inServ = s.dev.mon.inServ := rfl
  have hg : s.dev.fresh.monNext.get MON_SLICE_HLTH_FAILS = s.dev.get MON_SLICE_HLTH_FAILS := rfl
  generalize s.dev.fresh.monNext = d at hsl hfr hs hg
  have hv (t : Dev) : t.monRefresh.get MON_SLICE_HLTH_FAILS = t.get MON_SLICE_HLTH_FAILS :=
    Dev.get_of_view (t.view_monRefresh (l := monFlds) (by decide)) (by decide)
  have hm : min (s.dev.get MON_SLICE_HLTH_FAILS + 1) 255 < 2 ^ MON_SLICE_HLTH_FAILS.width := by
    have : 2 ^ MON_SLICE_HLTH_FAILS.width = 256 := by decide
    omega
  unfold Dev.monJudge
  dsimp only
  rw [hsl, hfr, hf, if_pos rfl, hb, if_neg (by decide)]
  have hw : (2 : Nat) ^ MON_SLICE_HLTH_FAILS.width - 1 = 255 := by decide
  have hc : ((d.modSlice n fun z => { z with bad := 0 + 1, flagged := true }).inc MON_SLICE_HLTH_FAILS).get MON_SLICE_HLTH_FAILS =
      min (s.dev.get MON_SLICE_HLTH_FAILS + 1) 255 := by
    rw [Dev.inc_eq, hw, Dev.get_modSlice, hg]
    exact Dev.get_set_of_lt _ hm
  simp only [Dev.settle_mon, Dev.get_settle, Dev.mon_monRefresh, hv, hc]
  simp only [Dev.inc_eq, Dev.mon_set, Dev.slice_modSlice, Dev.parts_modSlice, hs, Nat.zero_add, and_self]
end

theorem monCalMeasureEnd_keeps {m : MonSums} {n a g : Nat} {r : List Nat} (hc : s.dev.mon.cycle = some (n :: r, [], a, g)) :
    Answers (.monCalMeasureEnd m) s fun d => d.mon.cycle = some (n :: r, [monMeas m], a, g) := by
  refine answers_of_run (rfl : _ = execMonCalMeasureEnd m s) ?_
  have hc' : s.dev.fresh.mon.cycle = some (n :: r, [], a, g) := hc
  dsimp only
  rw [hc']
  rfl

theorem monCalMeasureEnd_trims {m : MonSums} {w : MonMeas} {n a g k : Nat} {r : List Nat}
    (hc : s.dev.mon.cycle = some (n :: k :: r, [w], a, g)) (hw : monAgree w (monMeas m) = true) :
    Answers (.monCalMeasureEnd m) s fun d => d.mon.cycle = some (k :: r, [], 1, g) ∧ (d.mon.slice.get (Fin.ofNat 5
      n)).off = clampInt (-128) 127 (roundRat ((s.dev.mon.slice.get (Fin.ofNat 5 n)).off - 8 * (w.off + (monMeas
      m).off))) := by
  refine answers_of_run (rfl : _ = execMonCalMeasureEnd m s) ?_
  have hc' : s.dev.fresh.mon.cycle = some (n :: k :: r, [w], a, g) := hc
  dsimp only
  rw [hc']
  dsimp only
  rw [if_pos hw]
  exact ⟨rfl, congrArg MonSlice.off (vmod_same _ _ _)⟩

theorem monSyscalMeasureEnd_keeps {i : InputNo} {y : Syscal} (hy : (s.dev.mon.inp.get i).syscal = some y) (ho : y.oor = false)
    (ht : y.taken = 2 ^ (8 + y.avg)) (hg : y.got = []) :
    Answers (.monSyscalMeasureEnd i) s fun d => (d.mon.inp.get i).syscal = some
      { y with sum := 0, taken := 0, got := [(y.sum : Rat) / y.taken] } := by
  refine answers_of_run (rfl : _ = execMonSyscalMeasureEnd i s) ?_
  have hy' : (s.dev.fresh.mon.inp.get i).syscal = some y := hy
  dsimp only
  rw [hy']
  dsimp only
  rw [ho, if_neg (by decide), if_neg (by omega), hg]
  exact congrArg MonIn.syscal (Dev.inp_modIn _ i _)

theorem monSyscalMeasureEnd_zeroes {i : InputNo} {y : Syscal} {w : Rat} {c : Desc} (hy : (s.dev.mon.inp.get i).syscal = some y)
    (ho : y.oor = false) (ht : y.taken = 2 ^ (8 + y.avg)) (hg : y.target = none ∧ y.got = [w])
    (hw : within 8 w ((y.sum : Rat) / y.taken) = true) (hs : s.dev.waits = [(.syscal i, c)]) :
    Answers (.monSyscalMeasureEnd i) s fun d => (d.mon.inp.get i).syscal = none ∧ (d.mon.inp.get i).zero = some (roundRat
      ((w + (y.sum : Rat) / y.taken) / 2)) ∧ d.Completed c stOk (codeOf 32 (roundRat ((w + (y.sum : Rat) / y.taken) /
      2))) := by
  refine answers_of_run (rfl : _ = execMonSyscalMeasureEnd i s) ?_
  have hy' : (s.dev.fresh.mon.inp.get i).syscal = some y := hy
  obtain ⟨hn, hg⟩ := hg
  dsimp only
  rw [hy']
  dsimp only
  rw [ho, if_neg (by decide), if_neg (by omega), hg]
  dsimp only
  rw [hw, if_neg (by decide), hn]
  dsimp only
  generalize roundRat ((w + (y.sum : Rat) / y.taken) / 2) = m
  have hm (t : Dev) : (t.wakeOne (.syscal i) stOk (codeOf 32 m)).mon = t.mon := by simp
  have hinp : (((s.dev.fresh.modIn i fun n => { n with zero := some m }).modIn i fun n =>
      { n with syscal := none }).mon.inp.get i) = { s.dev.mon.inp.get i with zero := some m, syscal := none } :=
    (Dev.inp_modIn _ i _).trans (congrArg (fun n : MonIn => { n with syscal := none }) (Dev.inp_modIn _ i _))
  refine ⟨?_, ?_, Dev.completed_wakeOne (k := .syscal i) (d := c) (by exact hs) _ _⟩
  · exact (congrArg (fun q : Mon => (q.inp.get i).syscal) (hm _)).trans (congrArg MonIn.syscal hinp)
  · exact (congrArg (fun q : Mon => (q.inp.get i).zero) (hm _)).trans (congrArg MonIn.zero hinp)

end

/-- Settles O28, clause by clause. -/
theorem monitorConversions : Obligations.MonitorConversions :=
  ⟨fun _ _ _ _ => monConversion_counts, fun _ _ _ h hl hn _ => monHealthWindowEnd_passes h hl hn,
    fun _ _ _ h hl hn _ => monHealthWindowEnd_flags h hl hn, fun _ _ _ _ _ _ => monCalMeasureEnd_keeps,
    fun _ _ _ _ _ _ _ _ => monCalMeasureEnd_trims, fun _ _ _ => monSyscalMeasureEnd_keeps,
    fun _ _ _ _ _ => monSyscalMeasureEnd_zeroes⟩

end Sys2Proof.Machine

/-! Where a completion goes (13 R451, R466, R467, Table 13.8). -/

namespace Sys2Proof.Machine

-- One theorem at a time: side by side they ask for more memory than a check may have.
set_option Elab.async false

open Reg

/-! ## What counting leaves of the rings and the memories -/

/-- The rings' contexts, the memories and the writes noted. -/
def Dev.bulk (s : Dev) : Sparse RingCtx × Mem × List MemWrite := (s.ctx, s.mem, s.writes)

section
variable (s : Dev)

theorem Dev.bulk_iff {g : Dev → Dev} (h : ∀ s, (g s).bulk = s.bulk) (b : Bool) : (s.iff b g).bulk = s.bulk := by
  cases b
  exacts [rfl, h s]

theorem Dev.bulk_set (f : Fld) (v : Nat) : (s.set f v).bulk = s.bulk := rfl
theorem Dev.bulk_modCtr (g : Ctrs → Ctrs) : (s.modCtr g).bulk = s.bulk := rfl

theorem Dev.bulk_signalMsix (v : Nat) : (s.signalMsix v).bulk = s.bulk := by
  unfold Dev.signalMsix
  split
  · simp only []
    split <;> rfl
  · rfl

theorem Dev.bulk_signalPin (v : Nat) : (s.signalPin v).bulk = s.bulk := by
  unfold Dev.signalPin
  split <;> exact s.bulk_set _ _

theorem Dev.bulk_signalRing (o v : Nat) : (s.signalRing o v).bulk = s.bulk := by
  unfold Dev.signalRing
  split
  exacts [s.bulk_signalMsix v, s.bulk_signalPin v]

theorem Dev.bulk_signal (v : Nat) : (s.signal v).bulk = s.bulk :=
  (Dev.bulk_iff _ (fun s => s.bulk_signalPin v) _).trans (s.bulk_iff (fun s => s.bulk_signalMsix v) _)

theorem Dev.bulk_fireCapture (p : Port) (k : Nat) : (s.fireCapture p k).bulk = s.bulk := by
  unfold Dev.fireCapture
  split <;> rfl

theorem Dev.bulk_ctrSample (m : Nat) (z : Bool) : (s.ctrSample m z).bulk = s.bulk := by
  unfold Dev.ctrSample
  simp only []
  split <;> rfl

theorem Dev.bulk_ctrOverflow (m : Nat) : (s.ctrOverflow m).bulk = s.bulk := by
  unfold Dev.ctrOverflow
  refine (Dev.each_keep (π := Dev.bulk) (fun s p => s.bulk_iff (fun s => s.bulk_fireCapture p 6) _) _ _).trans ?_
  refine (Dev.bulk_iff _ (fun s => s.bulk_signal _) _).trans ?_
  refine (Dev.bulk_iff _ (fun s => s.bulk_ctrSample _ _) _).trans ?_
  refine (Dev.bulk_iff (g := fun s => ((s.flag CTR_STATUS_FROZEN true).set CTR_STATUS_FREEZE_CAUSE 2).flag CTR_EVENTS_FREEZE_OVF true)
    _ (fun _ => rfl) _).trans ?_
  refine (Dev.bulk_set _ _ _).trans ?_
  split <;> exact s.bulk_set _ _

theorem Dev.bulk_ctrAdd (m n : Nat) : (s.ctrAdd m n).bulk = s.bulk := by
  have sat := fun (s : Dev) => s.bulk_iff (g := fun s => (s.flag (CTR_m_CFG_SAT m) true).flag CTR_EVENTS_SAT true) fun _ => rfl
  have val (s : Dev) (v : Nat) : (s.setCtrValue m v).bulk = s.bulk := rfl
  unfold Dev.ctrAdd
  split
  · rfl
  · simp only []
    split
    · exact (Dev.bulk_ctrOverflow _ m).trans ((Dev.bulk_iff _ (fun s => s.bulk_modCtr _) _).trans ((val _ _).trans (sat s _)))
    · exact (val _ _).trans (sat s _)

theorem Dev.bulk_count (c i n : Nat) : (s.count c i n).bulk = s.bulk :=
  Dev.count_keep (P := fun t => t.bulk = s.bulk) (fun t m _ _ h => (t.bulk_ctrAdd m n).trans h) rfl

theorem Dev.bulk_sample (c i q : Nat) : (s.sample c i q).bulk = s.bulk :=
  Dev.sample_keep (P := fun t => t.bulk = s.bulk) (fun t m n _ _ h => (t.bulk_ctrAdd m n).trans h) rfl

/-- A ring's context once a descriptor of it has completed. -/
def Dev.closed (s : Dev) (d : Desc) (st : Nat) : RingCtx :=
  let q := s.ring d.ring
  let status := if d.again && st == stOk then stRetriedOk else st
  let ok := status == stOk || status == stRetriedOk
  { q with outstanding := q.outstanding - 1, chain := if d.chain then (if ok then .none else .failed) else q.chain }

/-- What a completion does to the rings and the memories: its ring's count falls, and the entry is posted where one is due. -/
theorem Dev.bulk_finish (d : Desc) (st r : Nat) : (s.finish d st r).bulk =
    (s.iff (s.ring d.ring).live fun t => (t.setRing d.ring (s.closed d st)).iff
      (d.cr || (completionOf d st r s.timebase).status != stOk)
      (·.postCpl (s.ring d.ring).cq (completionOf d st r s.timebase))).bulk := by
  have hl (t : Dev) (c : Option (Nat × Cpl)) : ({ t with lastCpl := c } : Dev).bulk = t.bulk := rfl
  unfold Dev.finish
  exact (Dev.bulk_sample _ _ _ _).trans ((Dev.bulk_count _ _ _ _).trans (hl _ _))

theorem Dev.ring_of_bulk {a b : Dev} (h : a.bulk = b.bulk) (r : Nat) : a.ring r = b.ring r :=
  congrArg (fun x : Sparse RingCtx × Mem × List MemWrite => sget ({} : RingCtx) x.1 r) h
theorem Dev.hostBytes_of_bulk {a b : Dev} (h : a.bulk = b.bulk) : a.hostBytes = b.hostBytes :=
  congrArg (fun x : Sparse RingCtx × Mem × List MemWrite => lookHost x.2.1 x.2.2) h

/-! ## An entry at the tail of a ring in host memory -/

theorem Dev.hostByte_write (b : Nat) (x : Byte) (a : Nat) :
    (s.write (.host b x)).hostByte a = if b = a then x else s.hostByte a := rfl

theorem Dev.hostByte_hostWrite_zipIdx (l : List Byte) : ∀ (s : Dev) (a k : Nat), k + l.length ≤ 2 ^ 64 →
    (∀ y, (∀ i, i < l.length → y ≠ (a + (k + i)) % 2 ^ 64) →
      (s.each (l.zipIdx k) fun s x => s.write (.host ((a + x.2) % 2 ^ 64) x.1)).hostByte y = s.hostByte y) ∧
    ∀ i, i < l.length → (s.each (l.zipIdx k) fun s x => s.write (.host ((a + x.2) % 2 ^ 64) x.1)).hostByte
      ((a + (k + i)) % 2 ^ 64) = l.getD i 0 := by
  induction l with
  | nil => exact fun s a k _ => ⟨fun _ _ => rfl, fun _ h => absurd h (Nat.not_lt_zero _)⟩
  | cons x l ih =>
    intro s a k hk
    obtain ⟨h1, h2⟩ := ih (s.write (.host ((a + k) % 2 ^ 64) x)) a (k + 1) (by simp at hk; omega)
    constructor
    · intro y hy
      refine (h1 y fun i hi => ?_).trans ?_
      · have := hy (i + 1) (by simpa using hi)
        rwa [show k + (i + 1) = k + 1 + i by omega] at this
      · rw [Dev.hostByte_write, if_neg fun e => hy 0 (by simp) e.symm]
    · intro i hi
      cases i with
      | zero =>
        refine (h1 _ fun i hi' => ?_).trans ?_
        · simp at hk
          omega
        · simp [Dev.hostByte_write]
      | succ i =>
        rw [show k + (i + 1) = k + 1 + i by omega]
        exact h2 i (by simpa using hi)

/-- Bytes written to host memory lie there, and every other byte stays. -/
theorem Dev.hostByte_hostWrite (a : Nat) {l : List Byte} (h : l.length ≤ 2 ^ 64) :
    (∀ y, (∀ i, i < l.length → y ≠ (a + i) % 2 ^ 64) → (s.hostWrite a l).hostByte y = s.hostByte y) ∧
    ∀ i, i < l.length → (s.hostWrite a l).hostByte ((a + i) % 2 ^ 64) = l.getD i 0 := by
  have := Dev.hostByte_hostWrite_zipIdx l s a 0 (by simpa using h)
  simp only [Nat.zero_add] at this
  exact this

theorem length_image (c : Cpl) (b : Bool) : (c.image b).length = 16 := by
  simp [Cpl.image]

theorem Dev.postCpl_of_room {s : Dev} {r : Nat} {q : RingCtx} (hq : s.ring r = q) (hl : q.live = true) (hf : q.full = false)
    (hh : s.heldCpl.any (fun h => h.1 == r) = false) (c : Cpl) : s.postCpl r c = s.writeCpl r c := by
  simp only [Dev.postCpl, hq, hl, hf, hh, Bool.not_true, Bool.or_false, Bool.false_eq_true, if_false]

/-- A completion written to a live ring in host memory: its bytes at the tail, and the tail and the phase gone on. -/
theorem Dev.writeCpl_host {r : Nat} {q : RingCtx} (hq : s.ring r = q) (ho : q.owner = 0) (c : Cpl) :
    (s.writeCpl r c).hostBytes = (s.hostWrite (q.base + 16 * q.tail) (c.image q.phase)).hostBytes ∧
    ((s.writeCpl r c).ring r).tail = (q.tail + 1) % q.size ∧
    ((s.writeCpl r c).ring r).phase = if (q.tail + 1) % q.size = 0 then !q.phase else q.phase := by
  have he : s.putEntry r c.image = (s.hostWrite (q.base + 16 * q.tail) (c.image q.phase)).setRing r
      { q with tail := (q.tail + 1) % q.size, phase := if (q.tail + 1) % q.size = 0 then !q.phase else q.phase,
               entries := (q.entries + 1) % 2 ^ 32 } := by
    unfold Dev.putEntry
    dsimp only
    rw [hq, if_pos ho, length_image]
  have hr := Dev.ring_setRing_self (s.hostWrite (q.base + 16 * q.tail) (c.image q.phase)) r
      { q with tail := (q.tail + 1) % q.size, phase := if (q.tail + 1) % q.size = 0 then !q.phase else q.phase,
               entries := (q.entries + 1) % 2 ^ 32 }
  have hh := Dev.hostBytes_setRing (s.hostWrite (q.base + 16 * q.tail) (c.image q.phase)) r
      { q with tail := (q.tail + 1) % q.size, phase := if (q.tail + 1) % q.size = 0 then !q.phase else q.phase,
               entries := (q.entries + 1) % 2 ^ 32 }
  rw [← he] at hr hh
  have hc (t : Dev) (k : Nat) : (t.setRing r { t.ring r with sinceSignal := k }).hostBytes = t.hostBytes ∧
      ((t.setRing r { t.ring r with sinceSignal := k }).ring r).tail = (t.ring r).tail ∧
      ((t.setRing r { t.ring r with sinceSignal := k }).ring r).phase = (t.ring r).phase := by
    rw [Dev.ring_setRing_self]
    exact ⟨t.hostBytes_setRing _ _, rfl, rfl⟩
  rw [← hh]
  have ht : (s.putEntry r c.image).ring r = _ := hr
  unfold Dev.writeCpl Dev.coalesce
  generalize s.putEntry r c.image = t at ht
  dsimp only
  split
  · obtain ⟨h1, h2, h3⟩ := hc t 0
    have hb := Dev.bulk_signalRing (t.setRing r { t.ring r with sinceSignal := 0 }) (t.ring r).owner (t.ring r).vector
    rw [Dev.hostBytes_of_bulk hb, Dev.ring_of_bulk hb, h1, h2, h3, ht]
    exact ⟨rfl, rfl, rfl⟩
  · obtain ⟨h1, h2, h3⟩ := hc t ((t.ring r).sinceSignal + 1)
    rw [h1, h2, h3, ht]
    exact ⟨rfl, rfl, rfl⟩

/-- The ring of an open descriptor is live as it was, and completes where it did. -/
theorem Dev.ring_opened (d : Desc) : ((s.opened d).ring d.ring).live = (s.ring d.ring).live ∧
    ((s.opened d).ring d.ring).cq = (s.ring d.ring).cq := by
  have h : ∀ (t : Dev) (c : Option (Nat × Nat)) (r : Nat), (t.busyWith c).ring r = t.ring r := fun _ _ _ => rfl
  unfold Dev.opened
  rw [h]
  cases hl : (s.ring d.ring).live
  · rw [Dev.iff_false]
    exact ⟨hl, rfl⟩
  · rw [Dev.iff_true, Dev.ring_setRing_self]
    exact ⟨hl, rfl⟩

theorem Dev.ring_opened_ne (d : Desc) {r : Nat} (hr : d.ring.val ≠ r) : (s.opened d).ring r = s.ring r := by
  have h : ∀ (t : Dev) (c : Option (Nat × Nat)) (r : Nat), (t.busyWith c).ring r = t.ring r := fun _ _ _ => rfl
  unfold Dev.opened
  rw [h]
  cases (s.ring d.ring).live
  · rw [Dev.iff_false]
  · rw [Dev.iff_true, Dev.ring_setRing_ne _ _ hr]

theorem Dev.heldCpl_setRing (r : Nat) (k : RingCtx) : (s.setRing r k).heldCpl = s.heldCpl := by
  unfold Dev.setRing
  refine Dev.each_keep (π := Dev.heldCpl) (fun s k => ?_) _ _
  split <;> rfl

theorem Dev.heldCpl_opened (d : Desc) : (s.opened d).heldCpl = s.heldCpl := by
  have h : ∀ (t : Dev) (c : Option (Nat × Nat)), (t.busyWith c).heldCpl = t.heldCpl := fun _ _ => rfl
  unfold Dev.opened
  rw [h]
  cases (s.ring d.ring).live
  · rw [Dev.iff_false]
  · rw [Dev.iff_true, Dev.heldCpl_setRing]

/-- Whether a write is of a word of an on-die memory. -/
def MemWrite.isWord : MemWrite → Bool
  | .word .. => true
  | _ => false

/-- Whether no write noted is of host memory or the flash. -/
def Dev.wordsOnly (s : Dev) : Bool := s.writes.all MemWrite.isWord

theorem host_commit_of_words (m : Mem) {l : List MemWrite} (h : l.all MemWrite.isWord = true) : (m.commit l).host = m.host := by
  induction l with
  | nil => rfl
  | cons w l ih =>
    rw [List.all_cons, Bool.and_eq_true] at h
    obtain ⟨hw, hl⟩ := h
    refine Eq.trans ?_ (ih hl)
    cases w with
    | word i k x =>
      change (Mem.apply (m.commit l) (.word i k x)).host = _
      unfold Mem.apply
      dsimp only
      split <;> rfl
    | host => cases hw
    | program => cases hw
    | erase => cases hw
    | invalidate => cases hw

theorem Dev.wordsOnly_of_bulk {a b : Dev} (h : a.bulk = b.bulk) : a.wordsOnly = b.wordsOnly :=
  congrArg (fun x : Sparse RingCtx × Mem × List MemWrite => x.2.2.all MemWrite.isWord) h

theorem Dev.wordsOnly_setRing (r : Nat) (k : RingCtx) : (s.setRing r k).wordsOnly = s.wordsOnly := by
  unfold Dev.setRing
  refine Dev.each_keep (π := Dev.wordsOnly) (fun s k => ?_) _ _
  split <;> rfl

theorem Dev.wordsOnly_iff {g : Dev → Dev} (b : Bool) (h : ∀ s, (g s).wordsOnly = s.wordsOnly) :
    (s.iff b g).wordsOnly = s.wordsOnly := by
  cases b
  exacts [rfl, h s]

theorem Dev.wordsOnly_opened (d : Desc) : (s.opened d).wordsOnly = s.wordsOnly := by
  have h : ∀ (t : Dev) (c : Option (Nat × Nat)), (t.busyWith c).wordsOnly = t.wordsOnly := fun _ _ => rfl
  exact (h _ _).trans (s.wordsOnly_iff _ fun s => s.wordsOnly_setRing _ _)

/-- Host memory once a command's writes are done. -/
theorem Dev.host_settle {u : Dev} {m : Mem} (h : u.mem = m) (a : Nat) : sget 0 (u.settle m).mem.host a = u.hostByte a := by
  subst h
  exact (lookHost_commit _ _ _).symm

end

/-! ## The clauses -/

section
variable {s : State} {c : Desc} (ha : s.dev.Acts c)
include ha

theorem unknownOpcode_completes {q : RingCtx} (hl : (s.dev.ring c.ring).live = true) (hq : s.dev.ring (s.dev.ring c.ring).cq = q)
    (hr : q.live = true ∧ q.owner = 0 ∧ q.full = false ∧ q.tail < q.size) (hn : (s.dev.ring c.ring).cq ≠ c.ring.val)
    (hh : s.dev.heldCpl.any (fun h => h.1 == (s.dev.ring c.ring).cq) = false) :
    Answers (.unknownOpcode c) s fun d => (∀ i, i < 16 → sget 0 d.mem.host ((q.base + 16 * q.tail + i) % 2 ^ 64) =
      ((completionOf c stNotSupported 0 s.dev.timebase).image q.phase).getD i 0) ∧ (∀ a, (∀ i, i < 16 → a ≠ (q.base + 16
      * q.tail + i) % 2 ^ 64) → sget 0 d.mem.host a = sget 0 s.dev.mem.host a) ∧ (d.ring (s.dev.ring c.ring).cq).tail =
      (q.tail + 1) % q.size ∧ (d.ring (s.dev.ring c.ring).cq).phase = (if (q.tail + 1) % q.size = 0 then !q.phase else
      q.phase) := by
  refine answers_of_descriptor (rfl : _ = execUnknownOpcode c s) ha ?_
  obtain ⟨hql, hqo, hqf, -⟩ := hr
  obtain ⟨hol, hoc⟩ := s.dev.fresh.ring_opened c
  have hoq := s.dev.fresh.ring_opened_ne c hn.symm
  have hoh := s.dev.fresh.heldCpl_opened c
  have hot : (s.dev.fresh.opened c).timebase = s.dev.timebase := by simp
  have hob := s.dev.fresh.hostBytes_opened c
  have hm : ((s.dev.fresh.opened c).finish (Desc.stamp c s.dev.timebase) stNotSupported 0).mem = s.dev.mem := by simp
  have hf := (s.dev.fresh.opened c).bulk_finish (Desc.stamp c s.dev.timebase) stNotSupported 0
  have hst : ((completionOf c stNotSupported 0 s.dev.timebase).status != stOk) = true := by
    simp [completionOf, stNotSupported, stOk]
  rw [stamp_ring, stamp_completion, hol, hoc, hot, show (s.dev.fresh.ring c.ring).live = true from hl, Dev.iff_true, hst, Bool.or_true,
    Dev.iff_true] at hf
  generalize (s.dev.fresh.opened c).closed (Desc.stamp c s.dev.timebase) stNotSupported = k at hf
  have hp : ((s.dev.fresh.opened c).setRing c.ring k).postCpl (s.dev.ring c.ring).cq (completionOf c stNotSupported 0 s.dev.timebase) =
      ((s.dev.fresh.opened c).setRing c.ring k).writeCpl (s.dev.ring c.ring).cq (completionOf c stNotSupported 0 s.dev.timebase) := by
    refine Dev.postCpl_of_room (q := q) ?_ hql hqf ?_ _
    · rw [Dev.ring_setRing_ne _ _ hn.symm, hoq]
      exact hq
    · rw [Dev.heldCpl_setRing, hoh]
      exact hh
  have hw := Dev.writeCpl_host ((s.dev.fresh.opened c).setRing c.ring k) (r := (s.dev.ring c.ring).cq) (q := q)
    (by rw [Dev.ring_setRing_ne _ _ hn.symm, hoq]; exact hq) hqo (completionOf c stNotSupported 0 s.dev.timebase)
  have hx := (Dev.hostBytes_setRing (s.dev.fresh.opened c) c.ring k).trans hob
  rw [show s.dev.fresh.ring c.ring = s.dev.ring c.ring from rfl, hp] at hf
  generalize (s.dev.fresh.opened c).setRing c.ring k = x at hf hw hx
  generalize (s.dev.fresh.opened c).finish (Desc.stamp c s.dev.timebase) stNotSupported 0 = u at hf hm
  obtain ⟨hb, htail, hphase⟩ := hw
  have hby (a : Nat) : sget 0 ((u.busyWith none).settle s.dev.mem).mem.host a =
      (x.hostWrite (q.base + 16 * q.tail) ((completionOf c stNotSupported 0 s.dev.timebase).image q.phase)).hostBytes a := by
    rw [Dev.host_settle (u := u.busyWith none) hm a, ← hb, ← Dev.hostBytes_of_bulk hf]
    rfl
  obtain ⟨hrest, hown⟩ := x.hostByte_hostWrite (q.base + 16 * q.tail)
    (l := (completionOf c stNotSupported 0 s.dev.timebase).image q.phase) (by rw [length_image]; decide)
  rw [length_image] at hrest hown
  have hring : ((u.busyWith none).settle s.dev.mem).ring (s.dev.ring c.ring).cq = _ := Dev.ring_of_bulk hf _
  rw [hring]
  refine ⟨fun i hi => ?_, fun a h => ?_, htail, hphase⟩
  · rw [hby]
    exact hown i hi
  · rw [hby]
    exact (hrest a h).trans (congrFun hx a)

theorem nop_leaves (hf : c.cr = false ∧ c.again = false) (hn : (s.dev.ring c.ring).cq ≠ c.ring.val) :
    Answers (.nop c) s fun d => d.mem.host = s.dev.mem.host ∧ d.ring (s.dev.ring c.ring).cq = s.dev.ring (s.dev.ring
      c.ring).cq ∧ d.Completed c stOk 0 := by
  refine answers_of_descriptor (rfl : _ = execNop c s) ha ?_
  obtain ⟨hcr, hagain⟩ := hf
  have hoq := s.dev.fresh.ring_opened_ne c hn.symm
  have hm : ((s.dev.fresh.opened c).finish (Desc.stamp c s.dev.timebase) stOk 0).mem = s.dev.mem := by simp
  have hf := (s.dev.fresh.opened c).bulk_finish (Desc.stamp c s.dev.timebase) stOk 0
  have hst (t : Nat) : ((completionOf c stOk 0 t).status != stOk) = false := by
    simp [completionOf, hagain]
  simp only [stamp_ring, stamp_completion, stamp_cr, hcr, hst, Bool.or_false, Dev.iff_false] at hf
  have hc : ((s.dev.fresh.opened c).finish (Desc.stamp c s.dev.timebase) stOk 0).Completed c stOk 0 := by simp
  generalize (s.dev.fresh.opened c).finish (Desc.stamp c s.dev.timebase) stOk 0 = u at hf hm hc
  refine ⟨?_, (Dev.ring_of_bulk hf _).trans ?_, hc⟩
  · have hw : u.wordsOnly = true := by
      rw [Dev.wordsOnly_of_bulk hf, Dev.wordsOnly_iff _ _ fun t => Dev.wordsOnly_setRing t _ _, Dev.wordsOnly_opened]
      rfl
    exact host_commit_of_words _ hw
  · cases ((s.dev.fresh.opened c).ring c.ring).live
    · rw [Dev.iff_false, hoq]
      rfl
    · rw [Dev.iff_true, Dev.ring_setRing_ne _ _ hn.symm, hoq]
      rfl

end

/-- Settles O56: a completion that is due, and one that is not. -/
theorem completionsGoToTheirRing : Obligations.CompletionsGoToTheirRing :=
  ⟨fun _ _ _ ha hl hq hr hn hh => unknownOpcode_completes ha hl hq hr hn hh, fun _ _ ha hf hn => nop_leaves ha hf hn⟩

end Sys2Proof.Machine

/-! SLIP faults and the power cap (02 R67–R73, R75–R80, 16 R552). -/

namespace Sys2Proof.Machine

-- One theorem at a time: side by side they ask for more memory than a check may have.
set_option Elab.async false

open Reg

/-! ## SLIP -/

/-- What a SLIP's beginning writes of a port late: its runs toward the host, and the substitute samples of pair B. -/
def Dev.slipPart (s : Dev) (p : Port) : List SlipRun × Nat × Nat × Nat :=
  ((s.prt p).slipRx, (s.eqOf p .b).subst, s.get (LPn_SLIP_SLIP_COUNT p), s.linkState p)

section
variable (s : Dev) (p : Port)

theorem Dev.slipPart_of {a b : Dev} (hp : (a.prt p).slipRx = (b.prt p).slipRx) (he : (a.prt p).eq = (b.prt p).eq)
    (hv : a.view demandFlds = b.view demandFlds) : a.slipPart p = b.slipPart p := by
  have hc := Dev.get_inst_of_view (F := LPn_SLIP_SLIP_COUNT) hv (by decide) p
  have hl := Dev.get_inst_of_view (F := LPn_LINK_STATUS_LINK_STATE) hv (by decide) p
  simp only [Dev.slipPart, hp, hc, Dev.eqOf, he, Dev.linkState, hl]

theorem Dev.slipPart_iff {g : Dev → Dev} (h : ∀ s, (g s).slipPart p = s.slipPart p) (b : Bool) :
    (s.iff b g).slipPart p = s.slipPart p := by
  cases b
  exacts [rfl, h s]

theorem Dev.slipPart_govDemand (n : Nat) : (s.govDemand n).slipPart p = s.slipPart p :=
  Dev.slipPart_of p (by simp [Dev.govDemand, Dev.govMaxCheck]) (by simp [Dev.govDemand, Dev.govMaxCheck]) (s.view_govDemand n (by decide))

theorem Dev.slipPart_modGov (g : Gov → Gov) : (s.modGov g).slipPart p = s.slipPart p := rfl

theorem Dev.slipPart_count (c i n : Nat) : (s.count c i n).slipPart p = s.slipPart p :=
  Dev.slipPart_of p (by simp) (by simp) (s.view_count _ c i n)

theorem Dev.slipPart_stepIssue (n : Nat) (b : Bool) : (s.stepIssue n b).slipPart p = s.slipPart p :=
  (Dev.slipPart_count _ p _ _ _).trans rfl

theorem Dev.slipPart_govRun : s.govRun.slipPart p = s.slipPart p := by
  have h1 (t : Dev) : t.govSlipStep.slipPart p = t.slipPart p := by
    unfold Dev.govSlipStep
    split
    exacts [Dev.slipPart_govDemand _ p _, rfl]
  have h2 (t : Dev) : t.govStep.slipPart p = t.slipPart p := by
    unfold Dev.govStep
    split
    · dsimp only
      split
      · exact t.slipPart_stepIssue p _ _
      · split
        exacts [t.slipPart_stepIssue p _ _, rfl]
    · rfl
  exact (h2 _).trans (h1 s)

theorem Dev.slipPart_set {f : Fld} (h : f.key ≠ (LPn_SLIP_SLIP_COUNT p).key ∧ f.key ≠ (LPn_LINK_STATUS_LINK_STATE p).key) (v : Nat) :
    (s.set f v).slipPart p = s.slipPart p := by
  have hc := s.get_set_ne v h.1
  have hl := s.get_set_ne v h.2
  simp [Dev.slipPart, hc, Dev.eqOf, Dev.linkState, hl]

/-- The watched ADC of pair B. -/
def adcB (p : Port) : Bound := Fin.ofNat 64 (4 * p.val + 1)

theorem adcB_is : (boundInput (adcB p) && boundRx (adcB p)) = true ∧ boundSrc (adcB p) = 1 ∧ boundPair (adcB p) = .b ∧ (adcB p).val < 32 ∧
    (adcB p).val % 4 = 1 ∧ (adcB p).val / 4 = p := by
  have h : ∀ p : Port, (boundInput (adcB p) && boundRx (adcB p)) = true ∧ boundSrc (adcB p) = 1 ∧ boundPair (adcB p) = .b ∧
    (adcB p).val < 32 ∧ (adcB p).val % 4 = 1 ∧ (adcB p).val / 4 = p := by decide
  exact h p

theorem Dev.slipPart_slackRefreshOne : (s.slackRefreshOne (adcB p)).slipPart p = s.slipPart p := by
  have h : ∀ p : Port, (boundFld (adcB p)).key ≠ (LPn_SLIP_SLIP_COUNT p).key ∧
    (boundFld (adcB p)).key ≠ (LPn_LINK_STATUS_LINK_STATE p).key := by decide
  unfold Dev.slackRefreshOne
  split
  exacts [s.slipPart_set p (h p) _, Dev.slipPart_set _ p (h p) _]

theorem Dev.slipPart_disturbCal (x : Pair) : (s.disturbCal p x).slipPart p = s.slipPart p := by
  simp [Dev.slipPart, Dev.disturbCal, Dev.eqOf, Dev.linkState]

theorem Dev.slipPart_slipFlush : (s.slipFlush p true).slipPart p = s.slipPart p := by
  have h : ∀ p : Port, ∀ f ∈ [LPn_SLACK_ITER_SET p, LPn_FEC_STATUS_ITER_LIMIT p, LPn_SLACK_ITER_HELD p],
    f.key ≠ (LPn_SLIP_SLIP_COUNT p).key ∧ f.key ≠ (LPn_LINK_STATUS_LINK_STATE p).key := by decide
  have hi (t : Dev) : (t.iterRefresh p).slipPart p = t.slipPart p := by
    unfold Dev.iterRefresh
    split <;> exact (Dev.slipPart_set _ p (h p _ (by simp)) _).trans (t.slipPart_set p (h p _ (by simp)) _)
  have hf (t : Dev) (g : Fec → Fec) : (t.modFec p g).slipPart p = t.slipPart p := by
    simp [Dev.slipPart, Dev.eqOf, Dev.linkState]
  unfold Dev.slipFlush
  exact (hi _).trans ((Dev.slipPart_set _ p (h p _ (by simp)) _).trans (hf s _))

/-- The substitute samples of a SLIP at the ADC of pair B pass through its equaliser. -/
theorem Dev.slipPart_slipSubst (n : Nat) : (s.slipSubst p (adcB p) n).slipPart p =
    Prod.map id (Prod.map (· + n) id) (s.slipPart p) := by
  obtain ⟨-, -, hx, h32, h4, -⟩ := adcB_is p
  have hm (t : Dev) (b : Bool) (g : Dev → PortSt → PortSt) (hg : ∀ t q, (g t q).slipRx = q.slipRx ∧ (g t q).eq = q.eq) :
      (t.iff b fun t => t.modPort p (g t)).slipPart p = t.slipPart p := by
    refine Dev.slipPart_iff _ p (fun t => ?_) b
    simp [Dev.slipPart, Dev.eqOf, Dev.linkState, hg]
  unfold Dev.slipSubst
  dsimp only
  rw [hm _ _ _ fun _ q => by split <;> exact ⟨rfl, rfl⟩]
  rw [hx, h4, decide_eq_true h32]
  simp [Dev.slipPart, Dev.eqOf, Dev.linkState]

end

section
variable {s : State} {p : Port}

theorem slip_begins {n : Nat} (hw : s.dev.watched (Fin.ofNat 64 (4 * p.val + 1)) = true) (hl : s.dev.linkState p = 4)
    (hr : (s.dev.prt p).slipRx = []) :
    Answers (.slip (Fin.ofNat 64 (4 * p.val + 1)) n) s fun d => (d.prt p).slipRx =
      [{ src := 1, data := true, marked := 0, subst := n }] ∧ (d.eqOf p .b).subst = (s.dev.eqOf p .b).subst + n ∧ d.get
      (LPn_SLIP_SLIP_COUNT p) = s.dev.get (LPn_SLIP_SLIP_COUNT p) := by
  refine answers_of_run (rfl : _ = execSlip (adcB p) n s) ?_
  obtain ⟨hio, hsrc, -, h32, -, hp⟩ := adcB_is p
  obtain ⟨hin, hrx⟩ := Bool.and_eq_true_iff.1 hio
  have hb : s.dev.fresh.boundPort (adcB p) = some p := by
    unfold Dev.boundPort
    rw [if_pos h32, hp]
    simp
  have hw' : s.dev.fresh.watched (adcB p) = true := hw
  dsimp only
  rw [hb]
  dsimp only
  rw [if_pos hw', hrx, hsrc]
  generalize hu : (Dev.modGov _ _).govRun = u
  have hu' : u.slipPart p = ([], (s.dev.eqOf p .b).subst + n, s.dev.get (LPn_SLIP_SLIP_COUNT p), 4) := by
    rw [← hu, Dev.slipPart_govRun, Dev.slipPart_modGov, Dev.slipPart_slipFlush, Dev.slipPart_slipSubst,
      Dev.each_keep (π := fun d : Dev => d.slipPart p) (fun d x => d.slipPart_disturbCal p x), Dev.slipPart_slackRefreshOne]
    have h0 : ((s.dev.fresh.count 0x20 p).fireCapture p 1).slipPart p = s.dev.fresh.slipPart p :=
      Dev.slipPart_of p (by simp) (by simp) (by simp)
    have hs : s.dev.fresh.slipPart p = ([], (s.dev.eqOf p .b).subst, s.dev.get (LPn_SLIP_SLIP_COUNT p), 4) := by
      rw [← hr, ← hl]
      rfl
    exact (congrArg (Prod.map id (Prod.map (· + n) id)) ((Dev.slipPart_modGov _ p _).trans (h0.trans hs))).trans rfl
  obtain ⟨h1, h2, h3, h4⟩ : (u.prt p).slipRx = [] ∧ (u.eqOf p .b).subst = (s.dev.eqOf p .b).subst + n ∧
      u.get (LPn_SLIP_SLIP_COUNT p) = s.dev.get (LPn_SLIP_SLIP_COUNT p) ∧ u.linkState p = 4 := by
    simpa [Dev.slipPart] using hu'
  rw [show u.linkState p = lsUp from h4, if_pos rfl]
  simp [h1, Dev.eqOf, h3]
  exact h2

theorem slipComplete_counts {q : SlipRun} {l : List SlipRun} (hr : (s.dev.prt p).slipRx = q :: l) (hq : q.marked ≤ 4095 ∧ q.src < 6)
    (hc : s.dev.get (LPn_SLIP_SLIP_COUNT p) < 65535) (hs : (s.dev.prt p).slips = []) :
    Answers (.slipComplete p true) s fun d => (d.prt p).slipRx = l ∧ d.get (LPn_SLIP_SLIP_COUNT p) = s.dev.get
      (LPn_SLIP_SLIP_COUNT p) + 1 ∧ d.get (LPn_SLIP_LAST_MARKED p) = q.marked ∧ d.get (LPn_SLIP_LAST_SRC p) = q.src ∧
      d.get (LPn_SLIP_SLIP p) = 1 := by
  refine answers_of_run (rfl : _ = execSlipComplete p true s) ?_
  have hr' : (s.dev.fresh.prt p).slipRx = q :: l := hr
  dsimp only
  rw [if_pos rfl, hr']
  obtain ⟨hm, hsrc⟩ := hq
  have hwc (p : Port) : (LPn_SLIP_SLIP_COUNT p).width = 16 ∧ (LPn_SLIP_LAST_MARKED p).width = 12 ∧
    (LPn_SLIP_LAST_SRC p).width = 3 := ⟨rfl, rfl, rfl⟩
  have hmin : min (s.dev.get (LPn_SLIP_SLIP_COUNT p) + 1) 65535 = s.dev.get (LPn_SLIP_SLIP_COUNT p) + 1 := by omega
  have hlt : s.dev.get (LPn_SLIP_SLIP_COUNT p) + 1 < 65536 ∧ min q.marked 4095 % 4096 = q.marked ∧ q.src < 8 := by omega
  simpa (disch := decide) [Dev.slipDone, hs, hwc, hmin] using hlt

/-! ## The power cap -/

/-- A wake of descriptors that none waits for changes nothing. -/
theorem Dev.wakeAll_of_none {d : Dev} {f : WaitKind → Bool} (h : ∀ w ∈ d.waits, f w.1 = false) (st : Nat) (r : WaitKind → Nat) :
    d.wakeAll f st r = d := by
  have h0 : d.waits.filter (fun w => f w.1) = [] := List.filter_eq_nil_iff.2 fun w hw => by simp [h w hw]
  have h1 : d.waits.filter (fun w => !f w.1) = d.waits := List.filter_eq_self.2 fun w hw => by simp [h w hw]
  unfold Dev.wakeAll
  rw [h0, h1]
  rfl

section
variable (d : Dev)

/-- The device's parts that the ports' limits and windows leave alone. -/
theorem Dev.parts_iterSparse (l : List Port) : (d.each l fun d p => (d.iterRefresh p).sparseRefresh p).shed = d.shed ∧
    (d.each l fun d p => (d.iterRefresh p).sparseRefresh p).waits = d.waits := by
  have h (d : Dev) (p : Port) : ((d.iterRefresh p).sparseRefresh p).shed = d.shed ∧
      ((d.iterRefresh p).sparseRefresh p).waits = d.waits := by
    unfold Dev.iterRefresh
    split <;> exact ⟨rfl, rfl⟩
  exact ⟨Dev.each_keep (π := Dev.shed) (g := fun d p => (d.iterRefresh p).sparseRefresh p) (fun d p => (h d p).1) l d,
    Dev.each_keep (π := Dev.waits) (g := fun d p => (d.iterRefresh p).sparseRefresh p) (fun d p => (h d p).2) l d⟩

/-- What follows from the sub-steps in force leaves them as they are. -/
theorem Dev.shed_shedRefresh : d.shedRefresh.shed = d.shed := by
  unfold Dev.shedRefresh
  rw [Dev.shed_monMode, (Dev.parts_iterSparse _ _).1]
  rfl

theorem Dev.waits_monMode (h : ∀ w ∈ d.waits, (w.1 == .monCycle) = false) : d.monMode.waits = d.waits := by
  unfold Dev.monMode
  change (Dev.iff d _ _).waits = _
  rw [Dev.waits_iff, Dev.wakeAll_of_none (d := d.modMon _) (f := fun w => w == .monCycle) h]
  split <;> rfl

/-- What follows from the sub-steps in force ends no other wait than a calibration cycle's. -/
theorem Dev.waits_shedRefresh (h : ∀ w ∈ d.waits, (w.1 == .monCycle) = false) : d.shedRefresh.waits = d.waits := by
  have hw (t : Dev) (l : List Port) (ht : t.waits = d.waits) :
      ((t.each l fun d p => (d.iterRefresh p).sparseRefresh p).monMode).waits = d.waits := by
    have := (t.parts_iterSparse l).2.trans ht
    rw [Dev.waits_monMode _ (by rwa [this]), this]
  exact hw _ _ rfl

end

/-- The registers that what follows from the sub-steps in force writes. -/
def shedFlds : List Fld :=
  [PWR_SHED_STATUS_ITER_CEIL, PWR_SHED_STATUS_SPARSE_OFF, PWR_SHED_STATUS_MON_LP, PWR_SHED_STATUS_LULL_SHED,
   PWR_SHED_STATUS_DOZE_SHED, PWR_SHED_STATUS_CAUSE_CAP, PWR_SHED_STATUS_CAUSE_THROTTLE, LPn_FD_STATUS_SPARSE_ON 0] ++ dropFlds ++ monFlds

theorem Dev.view_shedRefresh (d : Dev) : d.shedRefresh.view shedFlds = d.view shedFlds := by
  have hp (t : Dev) (p : Port) : ((t.iterRefresh p).sparseRefresh p).view shedFlds = t.view shedFlds := by
    simp (disch := decide) [Dev.sparseRefresh]
  unfold Dev.shedRefresh
  refine (Dev.view_monMode _ (by decide)).trans ((Dev.view_each hp _ _).trans ?_)
  simp (disch := decide)

theorem Dev.powerWithin_of_power {a b : Dev} (h : a.shed.power = b.shed.power) (mw x y : Nat) :
    a.powerWithin mw x y = b.powerWithin mw x y :=
  congrArg (fun l : List Nat => decide (sumNat (l.take 100) * y ≤ mw * x * (l.take 100).length)) h

/-- An evaluation that begins with its cap met ends at once, and its descriptor completes. -/
theorem Dev.capBegin_met {t : Dev} {v : Nat} {d : Desc} (hc : t.shed.capMw = some v) (hp : t.powerWithin v 1 1 = true)
    (hw : t.waits = [(.powerCap, d)]) : (∃ n, t.capBegin.Completed d stOk n) ∧ t.capBegin.shed.capMw = some v ∧
    t.capBegin.get PWR_CAP_CAP = t.get PWR_CAP_CAP := by
  unfold Dev.capBegin
  generalize hu : (t.modShed fun h => { h with cap := (h.applied.find? fun n => n ≤ 6).getD 0 }) = u
  have hs : u.shed.capMw = some v := by rw [← hu, ← hc]; rfl
  have hpo : u.shed.power = t.shed.power := by rw [← hu]; rfl
  have hus := u.shed_shedRefresh
  have hwu : u.waits = [(.powerCap, d)] := by rw [← hu]; exact hw
  have huw := (u.waits_shedRefresh (by rw [hwu]; simp)).trans hwu
  have hug := Dev.get_of_view u.view_shedRefresh (f := PWR_CAP_CAP) (by decide)
  have hz : u.shedRefresh.capStep = (u.shedRefresh.modShed fun h => { h with eval := false }, some stOk) := by
    have : u.shedRefresh.powerWithin v 1 1 = true := by
      rw [← hp]
      exact Dev.powerWithin_of_power (by rw [hus, hpo]) v 1 1
    unfold Dev.capStep
    rw [hus, hs, if_pos (by exact this)]
  have hk : Dev.capDone u.shedRefresh.capStep = (u.shedRefresh.modShed fun h => { h with eval := false }).wakeOne .powerCap stOk
      (u.shedRefresh.modShed fun h => { h with eval := false }).capResult := by
    rw [hz]
    rfl
  rw [hk]
  have hut : u.get PWR_CAP_CAP = t.get PWR_CAP_CAP := by rw [← hu]; rfl
  generalize u.shedRefresh = y at hus huw hug
  have hf : (y.modShed fun h => { h with eval := false }).shed.capMw = some v ∧
      (y.modShed fun h => { h with eval := false }).waits = [(.powerCap, d)] ∧
      (y.modShed fun h => { h with eval := false }).get PWR_CAP_CAP = t.get PWR_CAP_CAP :=
    ⟨(congrArg Shed.capMw hus).trans hs, huw, hug.trans hut⟩
  generalize y.modShed (fun h => { h with eval := false }) = x at hf
  obtain ⟨hx, hxw, hxg⟩ := hf
  exact ⟨⟨x.capResult, Dev.completed_wakeOne hxw stOk x.capResult⟩, by simpa using hx, by simpa (disch := decide) using hxg⟩

section
variable {c : Desc}

theorem powerCap_ends (ha : s.dev.Acts c) (hc : c.bytes 16 4 = 0) (hs : s.dev.shed.applied = []) (hw : s.dev.waits = []) :
    Answers (.powerCap c) s fun d => (∃ n, d.Completed c stOk n) ∧ d.shed.capMw = none ∧ d.get PWR_CAP_CAP = 0 := by
  refine answers_of_descriptor (rfl : _ = execPowerCap c s) ha ?_
  have hw' : (s.dev.fresh.opened c).waits = [] := by simpa using hw
  have hs' : (s.dev.fresh.opened c).shed = s.dev.shed := by simp
  dsimp only
  rw [stamp_bytes, hc, if_neg (by simp), if_pos rfl, Dev.wakeAll_of_none (by simp [hw])]
  have hn (t : Dev) (h : t.shed.applied = []) : t.capWithdraw = t := by
    simp [Dev.capWithdraw, Shed.top, h]
  rw [hn _ (by simpa [hs'] using hs)]
  have hf (t : Dev) (n : Nat) : (((t.finish (Desc.stamp c s.dev.timebase) stOk n).busyWith none).settle s.dev.mem).Completed c stOk n := by
    simp
  exact ⟨⟨_, hf _ _⟩, by simp, by simp (disch := decide); rfl⟩

theorem powerCap_begins {v : Nat} (ha : s.dev.Acts c) (hc : c.bytes 16 4 = v * 10) (hv : 500 ≤ v ∧ v ≤ 4000)
    (hp : s.dev.powerWithin (v * 10) 1 1 = true) (hw : s.dev.waits = []) :
    Answers (.powerCap c) s fun d => (∃ n, d.Completed c stOk n) ∧ d.shed.capMw = some (v * 10) ∧ d.get PWR_CAP_CAP = v := by
  refine answers_of_descriptor (rfl : _ = execPowerCap c s) ha ?_
  have hw' : (s.dev.fresh.opened c).waits = [] := by simpa using hw
  have hs' : (s.dev.fresh.opened c).shed = s.dev.shed := by simp
  dsimp only
  rw [stamp_bytes, hc, if_neg (by omega), if_neg (by omega), Dev.wakeAll_of_none (by simp [hw])]
  have hr : (roundDiv ((v * 10 : Nat) : Int) 10).toNat = v := by
    unfold roundDiv
    rw [if_neg (by omega), Int.toNat_natCast, Int.natAbs_natCast]
    omega
  have hwid : v < 2 ^ PWR_CAP_CAP.width := by
    have : 2 ^ PWR_CAP_CAP.width = 65536 := by decide
    omega
  have hpw : (s.dev.fresh.opened c).powerWithin (v * 10) 1 1 = true := by
    rw [← hp]
    exact Dev.powerWithin_of_power (by rw [hs']) _ 1 1
  have hcap := Dev.get_set_of_lt (s.dev.fresh.opened c) hwid
  rw [hr]
  generalize hu : (s.dev.fresh.opened c).set PWR_CAP_CAP v = u
  have hus : u.shed = s.dev.shed := by rw [← hu, ← hs']; rfl
  have huw : u.waits = [] := by rw [← hu, ← hw']; rfl
  have hup : u.powerWithin (v * 10) 1 1 = true := by rw [← hu, ← hpw]; rfl
  rw [hu] at hcap
  have hm := Dev.capBegin_met (t := (u.modShed fun h => { h with capMw := some (v * 10) }).park .powerCap
    { Desc.stamp c s.dev.timebase with data := .first }) (v := v * 10) (d := { Desc.stamp c s.dev.timebase with data := .first })
    rfl hup (congrArg (· ++ [_]) huw)
  generalize Dev.capBegin _ = y at hm
  obtain ⟨⟨n, hn⟩, hm, hg⟩ := hm
  exact ⟨⟨n, hn⟩, hm, hg.trans hcap⟩

theorem capEvalWindowEnd_ends {v : Nat} (he : s.dev.shed.eval = true) (hc : s.dev.shed.capMw = some v)
    (hp : s.dev.powerWithin v 1 1 = true) (hw : s.dev.waits = [(.powerCap, c)]) :
    Answers .capEvalWindowEnd s fun d => d.shed.eval = false ∧ d.waits = [] ∧ d.Completed c stOk s.dev.capResult := by
  refine answers_of_run (rfl : _ = execCapEvalWindowEnd s) ?_
  have he' : s.dev.fresh.shed.eval = true := he
  have hc' : s.dev.fresh.shed.capMw = some v := hc
  have hp' : s.dev.fresh.powerWithin v 1 1 = true := hp
  have hw' : s.dev.fresh.waits = [(.powerCap, c)] := hw
  rw [if_pos he']
  have hd : s.dev.fresh.capStep = (s.dev.fresh.modShed fun h => { h with eval := false }, some stOk) := by
    unfold Dev.capStep
    rw [hc', if_pos (by exact hp')]
  have hk : Dev.capDone s.dev.fresh.capStep = (s.dev.fresh.modShed fun h => { h with eval := false }).wakeOne .powerCap stOk
      s.dev.capResult := by
    rw [hd]
    rfl
  rw [hk]
  have hv : (s.dev.fresh.modShed fun h => { h with eval := false }).shed.eval = false := rfl
  have hz : (s.dev.fresh.modShed fun h => { h with eval := false }).waits = [(.powerCap, c)] := hw
  generalize s.dev.fresh.modShed (fun h => { h with eval := false }) = t at hv hz
  refine ⟨by simpa using hv, Dev.waits_wakeOne hz _ _, Dev.completed_wakeOne hz _ _⟩

end

theorem capWithdrawTimer_withdraws {n : Nat} {l : List Nat} (hc : s.dev.shed.capMw = none) (hs : s.dev.shed.applied = n :: l)
    (hn : 1 ≤ n ∧ n ≤ 5) (hcap : s.dev.shed.cap = n) (ht : s.dev.shed.thr = 0) :
    Answers .capWithdrawTimer s fun d => d.shed.applied = l ∧ d.shed.cap = l.headD 0 := by
  refine answers_of_run (rfl : _ = execCapWithdrawTimer s) ?_
  have hc' : s.dev.fresh.shed.capMw = none := hc
  have hs' : s.dev.fresh.shed.applied = n :: l := hs
  have hcap' : s.dev.fresh.shed.cap = n := hcap
  have ht' : s.dev.fresh.shed.thr = 0 := ht
  rw [hc']
  have hw (t : Dev) (h : t.shed.applied = n :: l) (hcl : t.shed.cap = l.headD 0) :
      t.shedWithdraw.shed.applied = l ∧ t.shedWithdraw.shed.cap = l.headD 0 := by
    unfold Dev.shedWithdraw
    rw [h]
    dsimp only
    rw [if_neg (by omega), if_neg (by omega), Dev.shed_shedRefresh]
    exact ⟨rfl, hcl⟩
  unfold Dev.capWithdraw
  dsimp only
  rw [ht', Shed.top, hs', hcap', if_pos (by simp; omega)]
  exact hw _ hs' (congrArg (fun l : List Nat => (l.drop 1).headD 0) hs')

end

/-- Settles O22, clause by clause. -/
theorem slipsAndPowerCap : Obligations.SlipsAndPowerCap :=
  ⟨fun _ _ _ => slip_begins, fun _ _ _ _ => slipComplete_counts, fun _ _ => powerCap_ends, fun _ _ _ => powerCap_begins,
    fun _ _ _ => capEvalWindowEnd_ends, fun _ _ _ => capWithdrawTimer_withdraws⟩

end Sys2Proof.Machine

/-! The host lanes (10): which fields of the lanes' registers, and which parts of the lanes' records, follow the states of
Tables 10.2 and 10.3, and which stay. -/

namespace Sys2Proof.Machine

-- One theorem at a time: side by side they ask for more memory than a check may have.
set_option Elab.async false

open Reg

/-- A condition on a step that keeps something keeps it too. -/
theorem Dev.iff_keep {β : Type} {π : Dev → β} {g : Dev → Dev} (h : ∀ s, π (g s) = π s) (b : Bool) (s : Dev) :
    π (s.iff b g) = π s := by
  cases b
  exacts [rfl, h s]

/-! ## The lanes' registers -/

/-- Whether a list names a host lane's field, at any lane. -/
def Fld.ofLane (l : List Fld) (f : Fld) : Bool := l.any fun g => g.off % 0x100 == f.off % 0x100 && g.lsb == f.lsb

/-- Whether a field is a host lane's, and of none of the kinds listed. -/
def Fld.laneSpared (l : List Fld) (f : Fld) : Bool := f.isPlain && inLanes f.off && !f.ofLane l

/-- What the lanes' registers hold in the fields that are spared. -/
def Dev.laneView (l : List Fld) (s : Dev) (f : Fld) : Nat := if f.laneSpared l then s.get f else 0

/-- Every kind of one list is one of another. -/
def kindSub (k l : List Fld) : Bool := k.all fun g => g.ofLane l

section
variable {l k : List Fld} {a b : Dev}

theorem Dev.laneView_congr (h : ∀ f : Fld, f.laneSpared l = true → a.get f = b.get f) : a.laneView l = b.laneView l := by
  funext f
  unfold Dev.laneView
  split
  next hf => exact h f hf
  next => rfl

theorem Dev.get_of_laneView (h : a.laneView l = b.laneView l) {f : Fld} (hf : f.laneSpared l = true) : a.get f = b.get f := by
  simpa [Dev.laneView, hf] using congrFun h f

theorem Fld.laneSpared_mono (h : kindSub k l = true) {f : Fld} (hf : f.laneSpared l = true) : f.laneSpared k = true := by
  simp only [Fld.laneSpared, Fld.ofLane, kindSub, Bool.and_eq_true, Bool.not_eq_true', List.all_eq_true, List.any_eq_true,
    List.any_eq_false, beq_iff_eq, not_and] at *
  refine ⟨hf.1, fun g hg e e' => ?_⟩
  obtain ⟨g', hg', o, b⟩ := h g hg
  exact hf.2 g' hg' (o.trans e) (b.trans e')

theorem Dev.laneView_mono (h : a.laneView k = b.laneView k) (hs : kindSub k l = true) : a.laneView l = b.laneView l :=
  Dev.laneView_congr fun _ hf => Dev.get_of_laneView h (Fld.laneSpared_mono hs hf)

theorem Dev.Like.laneView_eq (h : a.Like b) (l : List Fld) : a.laneView l = b.laneView l := Dev.laneView_congr fun f hf => by
  simp only [Fld.laneSpared, Bool.and_eq_true] at hf
  exact h.2 f (Fld.isPlain_iff.1 hf.1.1)

theorem Fld.laneSpared_key_ne {f g : Fld} (hf : f.laneSpared l = true)
    (hg : g.lsb < 32 ∧ (!inLanes g.off || g.ofLane l) = true) : g.key ≠ f.key := by
  intro e
  simp only [Fld.laneSpared, Bool.and_eq_true, Bool.not_eq_true'] at hf
  obtain ⟨⟨hp, hl⟩, hn⟩ := hf
  have hfl : f.lsb < 32 := (Fld.isPlain_iff.1 hp).1
  have ho : f.off = g.off := by unfold Fld.key at e; omega
  have hb : f.lsb = g.lsb := by unfold Fld.key at e; omega
  have ht : f.ofLane l = g.ofLane l := by simp only [Fld.ofLane, ho, hb]
  rw [ht] at hn
  rw [ho] at hl
  simp [hl, hn] at hg

end

section
variable {l : List Fld} (s : Dev) (v : Nat)

@[simp] theorem Dev.laneView_set_inst {n : Nat} {F : Nat → Fld} {p : Fin n}
    (h : ∀ p : Fin n, (F p).lsb < 32 ∧ (!inLanes (F p).off || (F p).ofLane l) = true) :
    (s.set (F p) v).laneView l = s.laneView l :=
  Dev.laneView_congr fun _ hf => Dev.get_set_ne s v (Fld.laneSpared_key_ne hf (h p))

@[simp] theorem Dev.laneView_set_pair {n : Nat} {F : Nat → Pair → Fld} {p : Fin n} {x : Pair}
    (h : ∀ p : Fin n, ((F p .a).lsb < 32 ∧ (!inLanes (F p .a).off || (F p .a).ofLane l) = true) ∧
      (F p .b).lsb < 32 ∧ (!inLanes (F p .b).off || (F p .b).ofLane l) = true) :
    (s.set (F p x) v).laneView l = s.laneView l := by
  cases x
  exacts [Dev.laneView_congr fun _ hf => Dev.get_set_ne s v (Fld.laneSpared_key_ne hf (h p).1),
    Dev.laneView_congr fun _ hf => Dev.get_set_ne s v (Fld.laneSpared_key_ne hf (h p).2)]

end

section
variable (l : List Fld) (s : Dev)
@[simp] theorem Dev.laneView_iff (b : Bool) (g : Dev → Dev) :
    (s.iff b g).laneView l = if b then (g s).laneView l else s.laneView l := by
  cases b <;> rfl
@[simp] theorem Dev.laneView_ite (c : Prop) [Decidable c] (a b : Dev) :
    (if c then a else b).laneView l = if c then a.laneView l else b.laneView l := apply_ite (Dev.laneView l) c a b
@[simp] theorem Dev.laneView_modPort (p : Port) (g : PortSt → PortSt) : (s.modPort p g).laneView l = s.laneView l := rfl
@[simp] theorem Dev.laneView_modTx (p : Port) (g : Tx → Tx) : (s.modTx p g).laneView l = s.laneView l := rfl
@[simp] theorem Dev.laneView_modTxPair (p : Port) (x : Pair) (g : TxPair → TxPair) :
    (s.modTxPair p x g).laneView l = s.laneView l := rfl
@[simp] theorem Dev.laneView_modLane (k : Lane) (g : HLane → HLane) : (s.modLane k g).laneView l = s.laneView l := rfl
@[simp] theorem Dev.laneView_log (f : Fld) (v : Nat) (b : List Byte) : (s.log f v b).laneView l = s.laneView l :=
  (s.log_like f v b).laneView_eq l
@[simp] theorem Dev.laneView_count (c i n : Nat) : (s.count c i n).laneView l = s.laneView l :=
  (s.count_like c i n).laneView_eq l
@[simp] theorem Dev.laneView_noteLost (p : Port) : (s.noteLost p).laneView l = s.laneView l := rfl
@[simp] theorem Dev.laneView_laneClockLost (k : Lane) : (s.laneClockLost k).laneView l = s.laneView l := by
  unfold Dev.laneClockLost
  split <;> rfl
@[simp] theorem Dev.laneView_lmcTell (p : Port) (typ : Nat) (b : List Byte) :
    (s.lmcTell p typ b).laneView l = s.laneView l :=
  Dev.laneView_congr fun _ _ => Dev.get_lmcTell ..
end

/-! ## The lanes' records -/

/-- A lane's record without what follows its transmitter's state. -/
def HLane.kept (h : HLane) : HLane := { h with exitDue := false, onRef := false, returning := false }

/-- The lanes' records without what follows the transmitters' states. -/
def Dev.lanesKept (s : Dev) : Vector HLane 16 := s.lane.map HLane.kept

theorem Dev.laneKept_of {a b : Dev} (h : a.lanesKept = b.lanesKept) (k : Lane) : (a.lane.get k).kept = (b.lane.get k).kept := by
  have := congrArg (fun v : Vector HLane 16 => v.get k) h
  simpa [Dev.lanesKept, Vector.get_eq_getElem] using this

theorem Dev.lane_hostLossBegin (s : Dev) (p : Port) : (s.hostLossBegin p).lane = s.lane := by
  unfold Dev.hostLossBegin
  split
  · simp
  · rfl

theorem Dev.lane_laneLost (s : Dev) (k : Lane) : (s.laneLost k).lane = s.lane := by simp [Dev.laneLost]

@[simp] theorem Dev.lane_groupLost (s : Dev) (p : Port) : (s.groupLost p).lane = s.lane := by
  rw [Dev.groupLost_eq]
  split
  · rw [Dev.lane_hostLossBegin]
    exact Dev.each_keep (π := Dev.lane) Dev.lane_laneLost _ _
  · rfl

@[simp] theorem Dev.lane_laneClockLost (s : Dev) (k : Lane) : (s.laneClockLost k).lane = s.lane := by
  unfold Dev.laneClockLost
  split <;> rfl

/-! ## What the states of the lanes leave alone -/

/-- The registers that say that a group is no longer aligned. -/
def lostFlds : List Fld := [HLn_STATUS_RXS 0, HLn_STATUS_ALIGNED 0, HLn_COUNT_AM_LOSSES 0, HLn_EVENTS_AM_LOST 0]

/-- The registers that follow the lanes' states. -/
def laneFlds : List Fld := HLn_STATUS_TXS 0 :: lostFlds

section
variable (s : Dev) (p : Port) (k : Lane)

@[simp] theorem Dev.laneView_hostLossBegin (l : List Fld) : (s.hostLossBegin p).laneView l = s.laneView l :=
  Dev.laneView_mono (k := []) (by simp (disch := decide) [Dev.hostLossBegin]) rfl

theorem Dev.laneView_laneLost : (s.laneLost k).laneView lostFlds = s.laneView lostFlds := by
  simp (disch := decide) [Dev.laneLost]

@[simp] theorem Dev.laneView_groupLost : (s.groupLost p).laneView lostFlds = s.laneView lostFlds := by
  simp [Dev.groupLost_eq, Dev.each_keep (π := Dev.laneView lostFlds) fun s k => Dev.laneView_laneLost s k]

@[simp] theorem Dev.laneView_laneTxPut : (s.laneTxPut k).laneView laneFlds = s.laneView laneFlds := by
  simp (disch := decide) [Dev.laneTxPut, Dev.laneTx]

@[simp] theorem Dev.laneView_laneRxPut : (s.laneRxPut k).laneView lostFlds = s.laneView lostFlds := by
  unfold Dev.laneRxPut
  cases s.groupOf k <;> simp (disch := decide)

@[simp] theorem Dev.laneView_laneRefresh : (s.laneRefresh k).laneView laneFlds = s.laneView laneFlds := by
  rw [Dev.laneRefresh_eq]
  exact (Dev.laneView_mono (Dev.laneView_laneRxPut _ k) (by decide)).trans (s.laneView_laneTxPut k)

@[simp] theorem Dev.lane_laneRxPut : (s.laneRxPut k).lane = s.lane := by
  unfold Dev.laneRxPut
  split
  · cases s.groupOf k <;> simp
  · simp

theorem Dev.lanesKept_modLane {g : HLane → HLane} (h : ∀ q, (g q).kept = q.kept) : (s.modLane k g).lanesKept = s.lanesKept :=
  map_vmod h _ _

theorem Dev.lanesKept_laneTx (n : Nat) (due : Bool) : (s.laneTx k n due).lanesKept = s.lanesKept :=
  Dev.lanesKept_modLane _ k fun _ => rfl

theorem Dev.lanesKept_laneTxPut : (s.laneTxPut k).lanesKept = s.lanesKept := by
  have h (t : Dev) : (t.modLane k fun h => { h with onRef := true, returning := false }).lanesKept = t.lanesKept :=
    t.lanesKept_modLane k fun _ => rfl
  unfold Dev.laneTxPut
  dsimp only
  unfold Dev.iff
  rw [apply_ite Dev.lanesKept, h, ite_self]
  repeat' split
  all_goals first | exact s.lanesKept_laneTx .. | rfl

theorem Dev.lanesKept_laneRefresh : (s.laneRefresh k).lanesKept = s.lanesKept := by
  rw [Dev.laneRefresh_eq]
  exact (congrArg (fun v : Vector HLane 16 => v.map HLane.kept) (Dev.lane_laneRxPut _ k)).trans (s.lanesKept_laneTxPut k)

/-- A lane's record but for its clock and the exit from electrical idle stays as its state follows the port's. -/
theorem Dev.kept_laneRefresh (j : Lane) : ((s.laneRefresh k).lane.get j).kept = (s.lane.get j).kept :=
  Dev.laneKept_of (s.lanesKept_laneRefresh k) j

/-- A lane's field that follows no state stays. -/
theorem Dev.get_laneRefresh {n : Nat} {F : Nat → Fld} (j : Fin n) (h : ∀ j : Fin n, (F j).laneSpared laneFlds = true) :
    (s.laneRefresh k).get (F j) = s.get (F j) :=
  Dev.get_of_laneView (s.laneView_laneRefresh k) (h j)

end
end Sys2Proof.Machine

/-! The host lanes' descriptors (10 R364–R373). -/

namespace Sys2Proof.Machine

-- One theorem at a time: side by side they ask for more memory than a check may have.
set_option Elab.async false

open Reg

/-! ## Settings -/

/-- The registers that follow a write of a lane's controls. -/
def ctrlFlds : List Fld := HLn_STATUS_CTLE_USED 0 :: laneFlds

section
variable (s : Dev) (l : Lane)

theorem Dev.laneView_laneCtrlWritten (b : Bool) : (s.laneCtrlWritten l b).laneView ctrlFlds = s.laneView ctrlFlds := by
  unfold Dev.laneCtrlWritten
  refine (Dev.laneView_mono (Dev.laneView_laneRefresh _ l) (by decide)).trans ?_
  simp (disch := decide) [Dev.useTxMode, Dev.useRxMode]

/-- The taps in use on a lane's transmitter. -/
def Dev.tapsOf (s : Dev) (l : Lane) : Vector Int 5 := (s.lane.get l).taps

theorem Dev.tapsOf_laneRefresh : (s.laneRefresh l).tapsOf l = s.tapsOf l :=
  (congrArg HLane.taps (s.kept_laneRefresh l l) :)

theorem Dev.tapsOf_iff {g : Dev → Dev} (h : ∀ s, (g s).tapsOf l = s.tapsOf l) (b : Bool) :
    (s.iff b g).tapsOf l = s.tapsOf l := Dev.iff_keep (π := fun d => d.tapsOf l) h b s

theorem Dev.tapsOf_laneCtrlWritten (b : Bool) : (s.laneCtrlWritten l b).tapsOf l = s.tapsOf l := by
  unfold Dev.laneCtrlWritten
  rw [Dev.tapsOf_laneRefresh, Dev.tapsOf_iff, Dev.tapsOf_iff, Dev.tapsOf_iff, Dev.tapsOf_iff]
  all_goals simp [Dev.tapsOf, Dev.useTxMode, Dev.useRxMode]

theorem Dev.laneTapSet_of_laneView {a b : Dev} (h : a.laneView ctrlFlds = b.laneView ctrlFlds) : a.laneTapSet l = b.laneTapSet l := by
  have h3 := Dev.get_of_laneView h ((by decide : ∀ l : Lane, (HLn_TX_FFE_PRE3 l).laneSpared ctrlFlds = true) l)
  have h2 := Dev.get_of_laneView h ((by decide : ∀ l : Lane, (HLn_TX_FFE_PRE2 l).laneSpared ctrlFlds = true) l)
  have h1 := Dev.get_of_laneView h ((by decide : ∀ l : Lane, (HLn_TX_FFE_PRE1 l).laneSpared ctrlFlds = true) l)
  have h0 := Dev.get_of_laneView h ((by decide : ∀ l : Lane, (HLn_TX_FFE_MAIN l).laneSpared ctrlFlds = true) l)
  have hp := Dev.get_of_laneView h ((by decide : ∀ l : Lane, (HLn_TX_POST_POST1 l).laneSpared ctrlFlds = true) l)
  simp only [Dev.laneTapSet, Dev.geti, h3, h2, h1, h0, hp]

/-- A valid tap set in the registers is put in use. -/
theorem Dev.txTapWritten_valid (h : laneTapsValid (s.laneTapSet l) = true) : s.txTapWritten l =
    (s.flag (HLn_TX_POST_TAP_BAD l) false).modLane l fun q => { q with taps := s.laneTapSet l } := if_pos h

end

theorem signedOf_mod (n : Nat) : signedOf 8 (n % 2 ^ 8) = signedOf 8 n := by
  unfold signedOf
  rw [Nat.mod_mod]

/-- The MAIN tap of a valid set is positive, and at most 64. -/
theorem main_of_valid {a b c m e : Int} (h : laneTapsValid #v[a, b, c, m, e] = true) : 32 ≤ m ∧ m ≤ 64 := by
  simp [laneTapsValid, sumNat] at h
  omega

theorem byte_of_signed {n : Nat} (hn : n < 256) (h : 32 ≤ signedOf 8 n ∧ signedOf 8 n ≤ 64) : n % 128 = n := by
  simp only [signedOf] at h
  split at h <;> omega

/-! ## Tests -/

/-- The registers that follow a write of a lane's test functions. -/
def testFlds : List Fld := [HLn_STATUS_RATE 0, HLn_EVENTS_TEST_ACTIVE 0] ++ laneFlds

theorem Dev.laneView_testSet (s : Dev) (l : Lane) (b : Bool) : (s.testSet l b).laneView testFlds = s.laneView testFlds := by
  have h (t : Dev) : (t.laneRefresh l).laneView testFlds = t.laneView testFlds :=
    Dev.laneView_mono (t.laneView_laneRefresh l) (by decide)
  simp (disch := decide) [Dev.testSet, h]

/-- A lane's field that its tests do not set stays. -/
theorem Dev.get_testSet (s : Dev) (l : Lane) (b : Bool) {n : Nat} {F : Nat → Fld} (j : Fin n)
    (h : ∀ j : Fin n, (F j).laneSpared testFlds = true) : (s.testSet l b).get (F j) = s.get (F j) :=
  Dev.get_of_laneView (s.laneView_testSet l b) (h j)

section
variable (s : Dev) (d : Desc) (l : Lane)

theorem Dev.groupOf_opened : (s.opened d).groupOf l = s.groupOf l := by
  simp (disch := decide) [Dev.groupOf]

theorem Dev.lanePowerOff_opened : (s.opened d).lanePowerOff l = s.lanePowerOff l := by
  unfold Dev.lanePowerOff
  rw [s.groupOf_opened]
  cases s.groupOf l <;> simp (disch := decide) [Dev.linkState]

theorem Dev.laneNoMode_opened : (s.opened d).laneNoMode l = s.laneNoMode l := by
  unfold Dev.laneNoMode
  rw [s.groupOf_opened]
  cases s.groupOf l <;> simp (disch := decide)

/-- A lane's checker counts are 0 once cleared. -/
theorem Dev.prbsClear_counts : ((s.prbsClear l).lane.get l).bits = 0 ∧ ((s.prbsClear l).lane.get l).errors = 0 ∧
    (s.prbsClear l).get (HLn_TEST_STATUS_LOCK_LOSSES l) = 0 := by
  simp (disch := decide) [Dev.prbsClear]

end

section
variable {s : State} {c : Desc} {l : Lane} (ha : s.dev.Acts c)
include ha

theorem hostLaneConfig_takes (hl : selLanes c = [l]) (hf : c.flag 18 0 = true ∧ c.flag 18 1 = false ∧ c.flag 18 2 = false)
    (ht : laneTapsValid #v[signedOf 8 (c.byte 19), signedOf 8 (c.byte 20), signedOf 8 (c.byte 21), signedOf 8 (c.byte 22),
      signedOf 8 (c.byte 23)] = true) :
    Answers (.hostLaneConfig c) s fun d => d.Completed c stOk 0 ∧ d.get (HLn_TX_POST_TAP_BAD l) = 0 ∧ d.get
      (HLn_TX_FFE_MAIN l) = c.byte 22 % 128 ∧ d.laneTapSet l = (d.lane.get l).taps := by
  refine answers_of_descriptor (rfl : _ = execHostLaneConfig c s) ha ?_
  have hl' : selLanes (Desc.stamp c s.dev.timebase) = [l] := hl
  have h22 : c.byte 22 < 256 := Nat.mod_lt _ (by decide)
  have hb : c.byte 22 % 128 = c.byte 22 := byte_of_signed h22 (main_of_valid ht)
  dsimp only
  rw [hl']
  simp only [stamp_flag, stamp_byte, stamp_bits, hf]
  rw [if_neg (by simp [ht])]
  simp only [Dev.each_cons, Dev.each_nil, Dev.iff, if_true, Bool.false_eq_true, if_false]
  generalize s.dev.fresh.opened c = t
  generalize hx : (Dev.flag _ (HLn_CTRL_FAULT_TX l) _) = u
  have hu : u.laneTapSet l = #v[signedOf 8 (c.byte 19), signedOf 8 (c.byte 20), signedOf 8 (c.byte 21), signedOf 8 (c.byte 22),
      signedOf 8 (c.byte 23)] := by
    rw [← hx]
    simp (disch := decide) [Dev.laneTapSet, Dev.geti, Dev.get_set_self]
    exact ⟨signedOf_mod _, signedOf_mod _, signedOf_mod _, signedOf_mod _, signedOf_mod _⟩
  have hm : u.get (HLn_TX_FFE_MAIN l) = c.byte 22 := by
    rw [← hx]
    simp (disch := decide) [Dev.get_set_self]
    exact Nat.mod_eq_of_lt h22
  rw [Dev.txTapWritten_valid u l (hu ▸ ht)]
  generalize hv : Dev.modLane _ l _ = v
  have hvb : v.get (HLn_TX_POST_TAP_BAD l) = 0 := by
    rw [← hv]
    simp (disch := decide)
  have hvm : v.get (HLn_TX_FFE_MAIN l) = c.byte 22 := by
    rw [← hv, ← hm]
    simp (disch := decide)
  have hvt : v.laneTapSet l = v.tapsOf l := by
    rw [← hv]
    simp (disch := decide) [Dev.laneTapSet, Dev.geti, Dev.tapsOf]
  have hw := v.laneView_laneCtrlWritten l (t.on (HLn_CTRL_RX_FREEZE l))
  have hwt := v.tapsOf_laneCtrlWritten l (t.on (HLn_CTRL_RX_FREEZE l))
  generalize v.laneCtrlWritten l _ = w at *
  have hwb := Dev.get_of_laneView hw ((by decide : ∀ l : Lane, (HLn_TX_POST_TAP_BAD l).laneSpared ctrlFlds = true) l)
  have hwm := Dev.get_of_laneView hw ((by decide : ∀ l : Lane, (HLn_TX_FFE_MAIN l).laneSpared ctrlFlds = true) l)
  have hws := (Dev.laneTapSet_of_laneView l hw).trans (hvt.trans hwt.symm)
  simp (disch := decide) only [Dev.completed_settle, Dev.completed_busyWith, Dev.get_settle, Dev.get_busyWith,
    Dev.get_finish_inst]
  refine ⟨Dev.finish_completed .., hwb.trans hvb, (hwm.trans hvm).trans hb.symm, ?_⟩
  simpa (disch := decide) [Dev.laneTapSet, Dev.geti, Dev.tapsOf] using hws

theorem hostLaneLoopback_takes (hl : selLanes c = [l]) (hg : (s.dev.groupOf l).isSome = true)
    (hm : (c.bits 18 1 0 = 3 ∧ s.dev.get (HLn_TEST_STATUS_GEN_ON l) = 0 ∧ s.dev.lanePowerOff l = false) ∨ c.bits 18 1 0 = 0) :
    Answers (.hostLaneLoopback c) s fun d => d.Completed c stOk 0 ∧ d.get (HLn_TEST_STATUS_LOOP l) = c.bits 18 1 0 := by
  refine answers_of_descriptor (rfl : _ = execHostLaneLoopback c s) ha ?_
  have hl' : selLanes (Desc.stamp c s.dev.timebase) = [l] := hl
  have hg' : ¬ s.dev.groupOf l = none := Option.isSome_iff_ne_none.1 hg
  have hp : s.dev.fresh.lanePowerOff l = s.dev.lanePowerOff l := rfl
  dsimp only
  rw [hl']
  rw [if_neg (by rcases hm with ⟨h, -, -⟩ | h <;> simp [Dev.groupOf_opened, hg', h]),
    if_neg (by rcases hm with ⟨h, hn, hf⟩ | h <;> simp (disch := decide) [Dev.lanePowerOff_opened, *])]
  simp only [stamp_bits, stamp_flag]
  have hb : c.bits 18 1 0 < 4 := by rcases hm with ⟨h, -, -⟩ | h <;> omega
  simp only [Dev.each_cons, Dev.each_nil]
  simp only [Dev.completed_settle, Dev.completed_busyWith, Dev.get_settle, Dev.get_busyWith]
  refine ⟨Dev.finish_completed .., ?_⟩
  simp (disch := decide) [Dev.get_testSet, Dev.get_set_self]
  exact Nat.mod_eq_of_lt hb

theorem hostLanePrbsSet_takes (hl : selLanes c = [l]) (hn : c.bits 20 2 0 ≤ 2) (hg : (s.dev.groupOf l).isSome = true)
    (hm : s.dev.laneNoMode l = false) (hp : s.dev.lanePowerOff l = false) (hp3 : s.dev.get (HLn_TEST_STATUS_LOOP l) ≠ 3) :
    Answers (.hostLanePrbsSet c) s fun d => d.Completed c stOk 0 ∧ d.get (HLn_TEST_STATUS_GEN_ON l) = bnat (c.flag 19 0)
      ∧ d.get (HLn_TEST_STATUS_CHK_ON l) = bnat (c.flag 19 1) ∧ d.get (HLn_TEST_STATUS_PATTERN l) = c.bits 20 2 0 := by
  refine answers_of_descriptor (rfl : _ = execHostLanePrbsSet c s) ha ?_
  have hl' : selLanes (Desc.stamp c s.dev.timebase) = [l] := hl
  have hg' : ¬ s.dev.groupOf l = none := Option.isSome_iff_ne_none.1 hg
  have hp' : s.dev.fresh.lanePowerOff l = false := hp
  have hm' : s.dev.fresh.laneNoMode l = false := hm
  have h3 : c.bits 20 2 0 ≠ 3 := by omega
  have h4 : c.bits 20 2 0 ≠ 4 := by omega
  have h4' : ¬ 4 < c.bits 20 2 0 := by omega
  dsimp only
  rw [hl']
  rw [if_neg (by simp [Dev.groupOf_opened, hg', h3, h4, h4', Dev.laneNoMode_opened, hm']),
    if_neg (by simp (disch := decide) [Dev.lanePowerOff_opened, hp', hp3])]
  simp only [stamp_bits, stamp_flag]
  simp only [Dev.each_cons, Dev.each_nil]
  simp only [Dev.completed_settle, Dev.completed_busyWith, Dev.get_settle, Dev.get_busyWith]
  refine ⟨Dev.finish_completed .., ?_⟩
  simp (disch := decide) [Dev.get_testSet, Dev.get_set_self]
  exact Nat.mod_eq_of_lt (lt_of_le_of_lt hn (by decide : 2 < 2 ^ 3))

theorem hostLanePrbsRead_reads (hl : selLanes c = [l]) (hc : c.length = 24) (hr : (s.dev.ring c.ring).owner = 0) :
    Answers (.hostLanePrbsRead c) s fun d => d.Completed c stOk 24 ∧ (d.lane.get l).bits = (s.dev.lane.get l).bits := by
  refine answers_of_descriptor (rfl : _ = execHostLanePrbsRead c s) ha ?_
  have hl' : selLanes (Desc.stamp c s.dev.timebase) = [l] := hl
  have hc' : (Desc.stamp c s.dev.timebase).length = 24 := hc
  have hb := Dev.spanBad_opened (s := s.dev.fresh) (d := c) 24 hr s.dev.timebase
  unfold Dev.prbsRead
  simp [hl', hc', hb, Dev.putData_opened (s := s.dev.fresh) hr, statusOf]

theorem hostLanePrbsReadClear_clears (hl : selLanes c = [l]) (hc : c.length = 24) (hr : (s.dev.ring c.ring).owner = 0) :
    Answers (.hostLanePrbsReadClear c) s fun d => d.Completed c stOk 24 ∧ (d.lane.get l).bits = 0 ∧ (d.lane.get l).errors
      = 0 := by
  refine answers_of_descriptor (rfl : _ = execHostLanePrbsReadClear c s) ha ?_
  have hl' : selLanes (Desc.stamp c s.dev.timebase) = [l] := hl
  have hc' : (Desc.stamp c s.dev.timebase).length = 24 := hc
  have hb := Dev.spanBad_opened (s := s.dev.fresh) (d := c) 24 hr s.dev.timebase
  unfold Dev.prbsRead
  simp [hl', hc', hb, Dev.putData_opened (s := s.dev.fresh) hr, statusOf, Dev.each_cons, Dev.each_nil, Dev.prbsClear_counts]

theorem hostLanePrbsClear_clears (hl : selLanes c = [l]) :
    Answers (.hostLanePrbsClear c) s fun d => d.Completed c stOk 0 ∧ (d.lane.get l).bits = 0 ∧ (d.lane.get l).errors = 0
      ∧ d.get (HLn_TEST_STATUS_LOCK_LOSSES l) = 0 := by
  refine answers_of_descriptor (rfl : _ = execHostLanePrbsClear c s) ha ?_
  have hl' : selLanes (Desc.stamp c s.dev.timebase) = [l] := hl
  simp (disch := decide) [hl', Dev.each_cons, Dev.each_nil, Dev.prbsClear_counts]

theorem hostLaneBitslip_slips (hl : l = Fin.ofNat 16 (c.bits 16 3 0)) (hg : s.dev.groupOf l = none) (hf : c.flag 17 0 = true) :
    Answers (.hostLaneBitslip c) s fun d => d.Completed c stOk ((s.dev.get (HLn_MAP_SLIP_TX l) + 1) % 256) ∧ d.get
      (HLn_MAP_SLIP_TX l) = (s.dev.get (HLn_MAP_SLIP_TX l) + 1) % 256 ∧ d.get (HLn_MAP_SLIP_RX l) = s.dev.get
      (HLn_MAP_SLIP_RX l) := by
  refine answers_of_descriptor (rfl : _ = execHostLaneBitslip c s) ha ?_
  have hg' : s.dev.fresh.groupOf l = none := hg
  have hw : (HLn_MAP_SLIP_TX l).width = 8 := rfl
  simp only [stamp_bits, ← hl, Dev.groupOf_opened, hg', stamp_flag, hf]
  simp (disch := decide) [Dev.get_set_self, hw]

end

/-! ## Lane map -/

section
variable (s : Dev) (d : Desc)

theorem Dev.laneSlot_opened (l : Lane) : (s.opened d).laneSlot l = s.laneSlot l := by
  simp (disch := decide) [Dev.laneSlot]

/-- A descriptor's end leaves the map as it is. -/
theorem Dev.laneSlot_closed (l : Lane) (st r : Nat) (m : Mem) :
    (((s.finish d st r).busyWith none).settle m).laneSlot l = s.laneSlot l := by
  simp (disch := decide) [Dev.laneSlot]

theorem Dev.groupGood_opened (slot : Lane → Option (Nat × Nat)) (p : Port) : (s.opened d).groupGood slot p = s.groupGood slot p := by
  simp (disch := decide) [Dev.groupGood]

/-- A lane's place in the map follows no state. -/
theorem Dev.laneSlot_laneRefresh (k l : Lane) : (s.laneRefresh k).laneSlot l = s.laneSlot l := by
  simp (disch := decide) [Dev.laneSlot, Dev.get_laneRefresh]

theorem Dev.laneSlot_put (l : Lane) (p : Port) :
    (((s.flag (HLn_MAP_VALID l) true).set (HLn_MAP_PORT l) p).set (HLn_MAP_POS l) 0).laneSlot l = some (p.val, 0) := by
  simp (disch := decide) [Dev.laneSlot, Dev.get_set_self]
  exact Nat.mod_eq_of_lt p.isLt

/-- A lane of no group takes the place that it is given. -/
theorem Dev.laneSlot_putLane (l : Lane) (p : Port) (h : s.laneSlot l = none) :
    (s.putLane l (some (p.val, 0))).laneSlot l = some (p.val, 0) := by
  have hg : s.groupOf l = none := by
    unfold Dev.laneSlot at h
    unfold Dev.groupOf
    split at h <;> simp_all
  unfold Dev.putLane
  rw [show (if s.on (HLn_MAP_VALID l) then some (s.get (HLn_MAP_PORT l), s.get (HLn_MAP_POS l)) else none) = none from h, hg]
  dsimp only
  rw [if_neg (by simp), Dev.laneSlot_laneRefresh]
  refine Eq.trans ?_ (Dev.laneSlot_put (s.iff (s.groupAligned (Fin.ofNat 8 p.val)) (·.groupLost (Fin.ofNat 8 p.val))) l p)
  simp (disch := decide) [Dev.laneSlot]

end

theorem lanes_where (l : Lane) : allLanes.filter (fun i => decide (i = l)) = [l] := by
  have h : ∀ l : Lane, allLanes.filter (fun i => decide (i = l)) = [l] := by decide
  exact h l

theorem lanes_bind_where (l : Lane) : allLanes.filterMap (fun i => if i = l then some 0 else none) = [0] := by
  have h : ∀ l : Lane, allLanes.filterMap (fun i => if i = l then some 0 else none) = [0] := by decide
  exact h l

/-- A map in which one lane alone has a place, the first of a port whose stored Mode is 0, is one that R33 accepts. -/
theorem Dev.groupGood_one (s : Dev) (l : Lane) (p q : Port) (h : s.get (LPn_PORT_CFG_MODE p) = 0) :
    s.groupGood (fun i => if i = l then some (p.val, 0) else none) q = true := by
  by_cases e : p = q
  · subst e
    have hk : (fun i : Lane => (if i = l then some (p.val, 0) else none).bind fun g : Nat × Nat => if g.1 = p.val then some g.2 else none) =
        fun i => if i = l then some 0 else none := by
      funext i
      split <;> simp
    simp [Dev.groupGood, hk, lanes_bind_where, h]
  · have hk : (fun i : Lane => (if i = l then some (p.val, 0) else none).bind fun g : Nat × Nat => if g.1 = q.val then some g.2 else none) =
        fun i => none := by
      funext i
      have : ¬ p.val = q.val := fun h => e (Fin.ext h)
      split <;> simp [this]
    simp [Dev.groupGood, hk]

section
variable {s : State} {c : Desc} {l : Lane} (ha : s.dev.Acts c)
include ha

theorem laneMap_keeps (hf : ∀ l : Lane, c.flag (16 + l.val) 6 = true) (hg : allPorts.all (s.dev.groupGood s.dev.laneSlot) = true) :
    Answers (.laneMap c) s fun d => d.Completed c stOk 0 ∧ d.laneSlot = s.dev.laneSlot ∧ d.host.defaultMap = false := by
  refine answers_of_descriptor (rfl : _ = execLaneMap c s) ha ?_
  have hs : (s.dev.fresh.opened c).mapSlot (Desc.stamp c s.dev.timebase) = (s.dev.fresh.opened c).laneSlot := by
    funext l
    exact if_pos (hf l)
  have ho : (s.dev.fresh.opened c).laneSlot = s.dev.laneSlot := funext fun l => Dev.laneSlot_opened ..
  have hp : allPorts.all ((s.dev.fresh.opened c).groupGood s.dev.laneSlot) = true := by
    rw [show (s.dev.fresh.opened c).groupGood s.dev.laneSlot = s.dev.groupGood s.dev.laneSlot from
      funext fun p => Dev.groupGood_opened ..]
    exact hg
  dsimp only
  rw [hs, ho, if_neg (by simp [hp])]
  simp only [bne_self_eq_false, List.filter_false, List.any_nil, Bool.false_and, Dev.each_nil, List.any_eq_true]
  rw [if_neg (by simp)]
  refine ⟨by simp, ?_, by simp⟩
  funext l
  exact (Dev.laneSlot_closed ..).trans (congrFun ho l)

theorem laneMap_puts {p : Port} (hi : ∀ i : Lane, i ≠ l → c.flag (16 + i.val) 6 = true ∧ s.dev.laneSlot i = none)
    (hb : c.byte (16 + l.val) = 128 + p.val) (hn : s.dev.laneSlot l = none) (hl : s.dev.linkState p = 0)
    (hm : s.dev.get (LPn_PORT_CFG_MODE p) = 0) :
    Answers (.laneMap c) s fun d => d.Completed c stOk 0 ∧ d.laneSlot l = some (p.val, 0) := by
  refine answers_of_descriptor (rfl : _ = execLaneMap c s) ha ?_
  have ho : (s.dev.fresh.opened c).laneSlot = fun _ => none := by
    funext i
    refine (Dev.laneSlot_opened ..).trans ?_
    by_cases h : i = l
    · exact h ▸ hn
    · exact (hi i h).2
  have hbits : ∀ p : Port, bitOf (128 + p.val) 6 = false ∧ bitOf (128 + p.val) 7 = true ∧ bitsOf (128 + p.val) 2 0 = p.val ∧
      bitsOf (128 + p.val) 4 3 = 0 := by decide
  have hs : (s.dev.fresh.opened c).mapSlot (Desc.stamp c s.dev.timebase) = fun i => if i = l then some (p.val, 0) else none := by
    obtain ⟨h6, h7, h20, h43⟩ := hbits p
    funext i
    rw [Dev.mapSlot, ho]
    by_cases h : i = l
    · subst h
      simp [Desc.flag, Desc.bits, hb, h6, h7, h20, h43]
    · simp [h, (hi i h).1]
  have hgood (q : Port) : (s.dev.fresh.opened c).groupGood (fun i => if i = l then some (p.val, 0) else none) q = true :=
    Dev.groupGood_one _ l p q (by simpa (disch := decide) using hm)
  dsimp only
  rw [hs, ho, if_neg (by simp [hgood])]
  have hc : (allLanes.filter fun i => (if i = l then some (p.val, 0) else none) != none) = [l] := by
    refine Eq.trans (congrArg (fun f => allLanes.filter f) (funext fun i => ?_)) (lanes_where l)
    by_cases h : i = l <;> simp [h]
  rw [hc, if_neg (by
    simp only [List.any_eq_true, not_exists, not_and]
    intro q _
    by_cases e : p = q
    · subst e
      have : s.dev.fresh.linkState p = 0 := hl
      simp [this]
    · have : ¬ p.val = q.val := fun h => e (Fin.ext h)
      simp [this])]
  simp only [Dev.each_cons, Dev.each_nil]
  simp only [Dev.completed_settle, Dev.completed_busyWith]
  refine ⟨Dev.finish_completed .., ?_⟩
  rw [Dev.laneSlot_closed, if_pos trivial]
  exact Dev.laneSlot_putLane _ l p (congrFun ho l)

end

/-- Settles O24, clause by clause. -/
theorem hostLaneDescriptors : Obligations.HostLaneDescriptors :=
  ⟨fun _ _ _ ha => hostLaneConfig_takes ha,
   fun _ _ _ ha => hostLaneLoopback_takes ha,
   fun _ _ _ ha => hostLanePrbsSet_takes ha,
   fun _ _ _ ha hl hc hr _ => hostLanePrbsRead_reads ha hl hc hr,
   fun _ _ _ ha hl hc hr _ => hostLanePrbsReadClear_clears ha hl hc hr,
   fun _ _ _ ha => hostLanePrbsClear_clears ha,
   fun _ _ _ ha => hostLaneBitslip_slips ha,
   fun _ _ ha => laneMap_keeps ha,
   fun _ _ _ _ ha => laneMap_puts ha⟩

end Sys2Proof.Machine

/-! What happens to a host lane (10): electrical idle, bursts, locks, alignment, sweeps, windows and checkers. -/

namespace Sys2Proof.Machine

-- One theorem at a time: side by side they ask for more memory than a check may have.
set_option Elab.async false

open Reg

/-! ## The lanes' registers as the transmitters of a port change -/

section
variable (s : Dev) (p : Port) (l : List Fld)

@[simp] theorem Dev.laneView_txPut (x : Pair) : (s.txPut p x).laneView l = s.laneView l :=
  Dev.laneView_mono (k := []) ((Dev.laneView_modPort ..).trans (by simp (disch := decide))) rfl
@[simp] theorem Dev.laneView_lfBegin : (s.lfBegin p).laneView l = s.laneView l := by simp [Dev.lfBegin]
@[simp] theorem Dev.laneView_txRefresh (b : Bool) : (s.txRefresh p b).laneView l = s.laneView l := by
  obtain ⟨c, e, h⟩ := s.txRefresh_eq p b
  refine Dev.laneView_mono (k := []) ?_ rfl
  simp (disch := decide) [h, Dev.eligRefresh]

end

/-! ## The state of a lane's transmitter -/

section
variable (s : Dev) (l : Lane)

theorem Dev.laneTarget_lt : s.laneTarget l < 8 ∧ s.laneTarget l ≠ 2 := by
  unfold Dev.laneTarget
  split
  · decide
  · dsimp only
    repeat' split
    all_goals decide

/-- The state that Table 10.2 gives does not depend on the state a lane is in. -/
theorem Dev.laneTarget_set_txs (v : Nat) : (s.set (HLn_STATUS_TXS l) v).laneTarget l = s.laneTarget l := by
  have hg : (s.set (HLn_STATUS_TXS l) v).groupOf l = s.groupOf l := by simp (disch := decide) [Dev.groupOf]
  have hl (p : Port) : (s.set (HLn_STATUS_TXS l) v).linkState p = s.linkState p := by
    simp (disch := decide) [Dev.linkState]
  have hc (p : Port) : (s.set (HLn_STATUS_TXS l) v).get (LPn_LINK_STATUS_FAULT_CAUSE p) = s.get (LPn_LINK_STATUS_FAULT_CAUSE p) := by
    simp (disch := decide)
  have ht : (s.set (HLn_STATUS_TXS l) v).testActive l = s.testActive l := by simp (disch := decide) [Dev.testActive]
  have hf : (s.set (HLn_STATUS_TXS l) v).on (HLn_CTRL_FAULT_TX l) = s.on (HLn_CTRL_FAULT_TX l) := by
    simp (disch := decide)
  have ho : (s.set (HLn_STATUS_TXS l) v).on (HLn_TEST_STATUS_GEN_ON l) = s.on (HLn_TEST_STATUS_GEN_ON l) := by
    simp (disch := decide)
  have hp : (s.set (HLn_STATUS_TXS l) v).get (HLn_TEST_STATUS_LOOP l) = s.get (HLn_TEST_STATUS_LOOP l) := by
    simp (disch := decide)
  have hoff : (s.set (HLn_STATUS_TXS l) v).laneOff l = s.laneOff l := by
    unfold Dev.laneOff
    simp only [hg, hl, hc, ht]
    rfl
  unfold Dev.laneTarget
  simp only [hg, hl, hf, ho, hp, hoff]
  rfl

/-- A transmitter in the state that Table 10.2 gives it stays there. -/
theorem Dev.txs_laneTxPut (h : s.get (HLn_STATUS_TXS l) = s.laneTarget l) :
    (s.laneTxPut l).get (HLn_STATUS_TXS l) = s.laneTarget l := by
  obtain ⟨hlt, h2⟩ := s.laneTarget_lt l
  have hw : (HLn_STATUS_TXS l).width = 3 := rfl
  have hm : s.laneTarget l % 8 = s.laneTarget l := Nat.mod_eq_of_lt hlt
  unfold Dev.laneTxPut Dev.laneTx
  rw [h]
  dsimp only
  split
  next => simp [Dev.get_set_self, hw, hm]
  next hn => simp [h2, Dev.get_set_self, hw, hm]

theorem Dev.txs_laneRxPut : (s.laneRxPut l).get (HLn_STATUS_TXS l) = s.get (HLn_STATUS_TXS l) :=
  Dev.get_of_laneView (s.laneView_laneRxPut l) ((by decide : ∀ l : Lane, (HLn_STATUS_TXS l).laneSpared lostFlds = true) l)

theorem Dev.txs_laneRefresh (h : s.get (HLn_STATUS_TXS l) = s.laneTarget l) :
    (s.laneRefresh l).get (HLn_STATUS_TXS l) = s.laneTarget l := by
  rw [Dev.laneRefresh_eq, Dev.txs_laneRxPut, s.txs_laneTxPut l h]

/-- A burst starts from the reference clock, and no exit from electrical idle is due (10 R353). -/
theorem Dev.laneBurst_starts : (s.laneBurst l).get (HLn_STATUS_TXS l) = 2 ∧ ((s.laneBurst l).lane.get l).onRef = true ∧
    ((s.laneBurst l).lane.get l).exitDue = false ∧ ((s.laneBurst l).lane.get l).rateChange = (s.lane.get l).rateChange := by
  simp (disch := decide) [Dev.laneBurst, Dev.laneDrive, Dev.useTxMode, txsBurst]

end

section
variable {s : State} {l : Lane}

theorem hostTxEiHoldEnd_bursts (h : s.dev.get (HLn_STATUS_TXS l) = 1) (hd : (s.dev.lane.get l).exitDue = true) :
    Answers (.hostTxEiHoldEnd l) s fun d => d.get (HLn_STATUS_TXS l) = 2 ∧ (d.lane.get l).onRef = true ∧ (d.lane.get
      l).exitDue = false := by
  refine answers_of_run (rfl : _ = execHostTxEiHoldEnd l s) ?_
  have h' : s.dev.fresh.get (HLn_STATUS_TXS l) = 1 ∧ (s.dev.fresh.lane.get l).exitDue = true := ⟨h, hd⟩
  rw [if_pos h']
  obtain ⟨h1, h2, h3, -⟩ := s.dev.fresh.laneBurst_starts l
  exact ⟨h1, h2, h3⟩

theorem hostBurstEnd_follows (h : s.dev.get (HLn_STATUS_TXS l) = 2) :
    Answers (.hostBurstEnd l) s fun d => d.get (HLn_STATUS_TXS l) = s.dev.laneTarget l := by
  refine answers_of_run (rfl : _ = execHostBurstEnd l s) ?_
  have h' : s.dev.fresh.get (HLn_STATUS_TXS l) = txsBurst := h
  have hw : (HLn_STATUS_TXS l).width = 3 := rfl
  have ht := s.dev.fresh.laneTarget_set_txs l (s.dev.fresh.laneTarget l)
  rw [if_pos h', Dev.get_settle, Dev.txs_laneRefresh _ l, ht]
  · rfl
  · rw [ht, Dev.get_set_self, hw]
    exact Nat.mod_eq_of_lt (Dev.laneTarget_lt _ l).1

theorem hostRxEiEnter_idles (h : 2 ≤ s.dev.get (HLn_STATUS_RXS l)) :
    Answers (.hostRxEiEnter l) s fun d => d.get (HLn_STATUS_RXS l) = 1 ∧ (d.lane.get l).sweep = none := by
  refine answers_of_run (rfl : _ = execHostRxEiEnter l s) ?_
  have h' : 2 ≤ s.dev.fresh.get (HLn_STATUS_RXS l) := h
  rw [if_pos h']
  simp (disch := decide)

theorem hostRxEiExit_acquires (h : s.dev.get (HLn_STATUS_RXS l) = 1) (hr : (s.dev.lane.get l).rateChange = false)
    (hm : s.dev.get (HLn_CTRL_CTLE_MAN l) = 0) (hw : (s.dev.lane.get l).warm = none) :
    Answers (.hostRxEiExit l) s fun d => d.get (HLn_STATUS_RXS l) = 2 ∧ d.get (HLn_EVENTS_EI_EXIT l) = 1 ∧ d.get
      (HLn_STATUS_CTLE_USED l) = 0 ∧ (d.lane.get l).sweep = some (0, 0, 0) := by
  refine answers_of_run (rfl : _ = execHostRxEiExit l s) ?_
  have h' : s.dev.fresh.get (HLn_STATUS_RXS l) = 1 ∧ ¬ (s.dev.fresh.lane.get l).rateChange = true :=
    ⟨h, Bool.eq_false_iff.1 hr⟩
  have hw' : (s.dev.fresh.lane.get l).warm = none := hw
  dsimp only
  rw [if_pos h', hw']
  simp (disch := decide) [Dev.useRxMode, hm]

theorem hostRxLock_locks (h : s.dev.get (HLn_STATUS_RXS l) = 2) :
    Answers (.hostRxLock l) s fun d => d.get (HLn_STATUS_RXS l) = 3 ∧ (d.lane.get l).warm = some (s.dev.get
      (HLn_STATUS_RATE l)) := by
  refine answers_of_run (rfl : _ = execHostRxLock l s) ?_
  simp (disch := decide) [h]

theorem hostCtleTrialEnd_goes_on {k i v n : Nat} (h : (s.dev.lane.get l).sweep = some (k, i, v)) (hk : 1 ≤ k ∧ k < 15) :
    Answers (.hostCtleTrialEnd l n) s fun d => d.get (HLn_STATUS_CTLE_USED l) = k + 1 ∧ (d.lane.get l).sweep = (if v <
      min n 255 then some (k + 1, k, min n 255) else some (k + 1, i, v)) := by
  refine answers_of_run (rfl : _ = execHostCtleTrialEnd l n s) ?_
  have h' : (s.dev.fresh.lane.get l).sweep = some (k, i, v) := h
  have hw : (HLn_STATUS_CTLE_USED l).width = 4 := rfl
  have hk0 : ¬ k = 0 := by omega
  have hk15 : ¬ 15 ≤ k := by omega
  dsimp only
  rw [h']
  dsimp only
  rw [if_neg hk15]
  simp only [hk0, false_or]
  refine ⟨?_, ?_⟩
  · simp [Dev.get_set_self, hw]
    omega
  · simp
    split <;> rfl

theorem hostCtleTrialEnd_ends {i v n : Nat} (h : (s.dev.lane.get l).sweep = some (15, i, v)) (hi : i < 15) :
    Answers (.hostCtleTrialEnd l n) s fun d => d.get (HLn_STATUS_CTLE_USED l) = (if v < min n 255 then 15 else i) ∧
      (d.lane.get l).sweep = none := by
  refine answers_of_run (rfl : _ = execHostCtleTrialEnd l n s) ?_
  have h' : (s.dev.fresh.lane.get l).sweep = some (15, i, v) := h
  have hw : (HLn_STATUS_CTLE_USED l).width = 4 := rfl
  dsimp only
  rw [h']
  dsimp only
  rw [if_pos (le_refl _)]
  refine ⟨?_, ?_⟩
  · simp [Dev.get_set_self, hw]
    split
    · rfl
    · exact Nat.mod_eq_of_lt (by omega)
  · simp

end

/-! ## Groups -/

/-- A lane of an aligned group. -/
def Dev.aligned (s : Dev) (k l : Lane) : Prop :=
  s.get (HLn_STATUS_ALIGNED l) = 1 ∧ s.get (HLn_STATUS_RXS l) = 4 ∧ s.get (HLn_STATUS_PCS0_LANE l) = k.val

theorem Dev.aligned_step (s : Dev) (k x l : Lane) (h : l = x ∨ s.aligned k l) :
    (((s.flag (HLn_STATUS_ALIGNED x) true).set (HLn_STATUS_RXS x) 4).set (HLn_STATUS_PCS0_LANE x) k).aligned k l := by
  have hw : (HLn_STATUS_PCS0_LANE l).width = 4 := rfl
  by_cases e : x = l
  · subst e
    refine ⟨by simp (disch := decide), by simp (disch := decide), ?_⟩
    rw [Dev.get_set_self, hw]
    exact Nat.mod_eq_of_lt k.isLt
  · obtain ⟨h1, h2, h3⟩ := h.resolve_left (Ne.symm e)
    have k1 := (by decide : ∀ x l : Lane, x ≠ l → (HLn_STATUS_ALIGNED x).key ≠ (HLn_STATUS_ALIGNED l).key) x l e
    have k2 := (by decide : ∀ x l : Lane, x ≠ l → (HLn_STATUS_RXS x).key ≠ (HLn_STATUS_RXS l).key) x l e
    have k3 := (by decide : ∀ x l : Lane, x ≠ l → (HLn_STATUS_PCS0_LANE x).key ≠ (HLn_STATUS_PCS0_LANE l).key) x l e
    refine ⟨?_, ?_, ?_⟩
    · exact (by simp (disch := decide) : _ = (s.set (HLn_STATUS_ALIGNED x) 1).get _).trans ((s.get_set_ne _ k1).trans h1)
    · exact (by simp (disch := decide) : _ = ((s.set (HLn_STATUS_ALIGNED x) 1).set (HLn_STATUS_RXS x) 4).get _).trans
        ((Dev.get_set_ne _ _ k2).trans ((by simp (disch := decide) : _ = s.get (HLn_STATUS_RXS l)).trans h2))
    · exact (Dev.get_set_ne _ _ k3).trans ((by simp (disch := decide) : _ = s.get (HLn_STATUS_PCS0_LANE l)).trans h3)

/-- A lane of a port's group belongs to that port. -/
theorem Dev.groupOf_of_mem (s : Dev) {p : Port} {l : Lane} (h : l ∈ s.group p) : s.groupOf l = some p := by
  simp only [Dev.group, List.mem_flatMap, List.mem_filter, Bool.and_eq_true, beq_iff_eq] at h
  obtain ⟨k, -, -, ⟨hv, hp⟩, -⟩ := h
  rw [Dev.groupOf, if_pos hv, hp]
  simp

/-- In a port that is UP a lane's transmitter is past electrical idle and the burst, unless it is OFF or changes its rate. -/
theorem Dev.laneTarget_up (s : Dev) {p : Port} {l : Lane} (hg : s.groupOf l = some p) (hu : s.linkState p = 4)
    (ho : s.laneOff l = false) (hr : (s.lane.get l).rateChange = false) : ¬ s.laneTarget l ≤ 1 := by
  simp only [Dev.laneTarget, hg, hu, ho, hr]
  simp
  split <;> decide

theorem Dev.laneLost_lost (s : Dev) (l : Lane) :
    (s.laneLost l).get (HLn_STATUS_ALIGNED l) = 0 ∧ (s.laneLost l).get (HLn_EVENTS_AM_LOST l) = 1 := by
  simp (disch := decide) [Dev.laneLost]

section
variable {s : State} {p : Port} {l : Lane}

theorem hostGroupAligned_aligns {k : Lane} (hk : k ∈ s.dev.group p)
    (hl : ∀ l ∈ s.dev.group p, 3 ≤ s.dev.get (HLn_STATUS_RXS l)) :
    Answers (.hostGroupAligned p k) s fun d => (∀ l ∈ s.dev.group p, d.get (HLn_STATUS_ALIGNED l) = 1 ∧ d.get
      (HLn_STATUS_RXS l) = 4 ∧ d.get (HLn_STATUS_PCS0_LANE l) = k.val) ∧ d.get (LPn_TX_STATUS_HOST_LOST p) = 0 := by
  refine answers_of_run (rfl : _ = execHostGroupAligned p k s) ?_
  have hc : ((s.dev.fresh.group p).contains k && (s.dev.fresh.group p).all fun l => decide (3 ≤ s.dev.fresh.get (HLn_STATUS_RXS l))) = true := by
    exact Bool.and_eq_true_iff.2 ⟨by simpa using hk, List.all_eq_true.2 fun x hx => decide_eq_true (hl x hx)⟩
  rw [if_pos hc]
  refine ⟨fun l hm => ?_, ?_⟩
  · have h := Dev.each_all (P := fun t : Dev => t.aligned k) (fun t x l => t.aligned_step k x l) _ s.dev.fresh (.inl hm)
    have hg : s.dev.fresh.group p = s.dev.group p := rfl
    rw [hg]
    generalize s.dev.fresh.each (s.dev.group p) _ = t at *
    generalize hu : Dev.txRefresh _ p = u
    have hv : u.laneView [] = t.laneView [] := by
      rw [← hu, Dev.laneView_txRefresh]
      exact (Dev.laneView_modTx ..).trans ((Dev.laneView_set_inst _ _ (by decide)).trans rfl)
    have h1 := Dev.get_of_laneView hv ((by decide : ∀ l : Lane, (HLn_STATUS_ALIGNED l).laneSpared [] = true) l)
    have h2 := Dev.get_of_laneView hv ((by decide : ∀ l : Lane, (HLn_STATUS_RXS l).laneSpared [] = true) l)
    have h3 := Dev.get_of_laneView hv ((by decide : ∀ l : Lane, (HLn_STATUS_PCS0_LANE l).laneSpared [] = true) l)
    exact ⟨h1.trans h.1, h2.trans h.2.1, h3.trans h.2.2⟩
  · simp (disch := decide)

theorem hostAlignmentLoss_notes (hg : s.dev.group p = [l]) (h : s.dev.get (HLn_STATUS_ALIGNED l) = 1) :
    Answers (.hostAlignmentLoss p) s fun d => d.get (HLn_STATUS_ALIGNED l) = 0 ∧ d.get (HLn_EVENTS_AM_LOST l) = 1 ∧
      d.host.lostAt.get p = some s.dev.fresh.timebase := by
  refine answers_of_run (rfl : _ = execHostAlignmentLoss p s) ?_
  have hg' : s.dev.fresh.group p = [l] := hg
  have ha : [l].any (fun l => s.dev.fresh.on (HLn_STATUS_ALIGNED l)) = true := by simp [h]
  rw [Dev.groupLost_eq, hg', if_pos ha]
  simp only [Dev.each_cons, Dev.each_nil]
  have hv := Dev.laneView_hostLossBegin (((s.dev.fresh.laneLost l).noteLost p)) p []
  have hh (t : Dev) : (t.hostLossBegin p).host = t.host := by
    unfold Dev.hostLossBegin
    split <;> simp
  have h1 := Dev.get_of_laneView hv ((by decide : ∀ l : Lane, (HLn_STATUS_ALIGNED l).laneSpared [] = true) l)
  have h2 := Dev.get_of_laneView hv ((by decide : ∀ l : Lane, (HLn_EVENTS_AM_LOST l).laneSpared [] = true) l)
  have hd := s.dev.fresh.laneLost_lost l
  have ht : (s.dev.fresh.laneLost l).timebase = s.dev.fresh.timebase := by simp [Dev.laneLost]
  generalize s.dev.fresh.laneLost l = t at *
  refine ⟨h1.trans ?_, h2.trans ?_, ?_⟩
  · exact hd.1
  · exact hd.2
  · simp [hh, Dev.noteLost, ht, Vector.get_eq_getElem]

theorem hostPllRetuneDone_bursts (hg : s.dev.group p = [l]) (hr : (s.dev.lane.get l).rateChange = true)
    (hu : s.dev.linkState p = 4) (ho : s.dev.laneOff l = false) :
    Answers (.hostPllRetuneDone p) s fun d => (d.lane.get l).rateChange = false ∧ d.get (HLn_STATUS_TXS l) = 2 := by
  refine answers_of_run (rfl : _ = execHostPllRetuneDone p s) ?_
  have hg' : s.dev.fresh.group p = [l] := hg
  have hf : [l].filter (fun l => (s.dev.fresh.lane.get l).rateChange) = [l] := by simp [hr]
  dsimp only
  rw [hg', hf]
  simp only [Dev.each_cons, Dev.each_nil]
  have hm := s.dev.fresh.groupOf_of_mem (p := p) (l := l) (by rw [hg']; exact List.mem_singleton.2 rfl)
  generalize ht : s.dev.fresh.modLane l _ = t
  have htr : (t.lane.get l).rateChange = false := by simp [← ht]
  have hto : t.laneOff l = false := by
    rw [← ht]
    exact ho
  have hn : ¬ t.laneTarget l ≤ 1 := t.laneTarget_up (p := p) (by rw [← ht]; exact hm) (by rw [← ht]; exact hu) hto htr
  obtain ⟨h1, -, -, h4⟩ := t.laneBurst_starts l
  rw [if_neg hn]
  exact ⟨h4.trans htr, h1⟩

end

section
variable {s : State} {l : Lane}

theorem hostRxSnrWindowEnd_reports {n : Nat} {rx : List Nat} (h : 2 ≤ s.dev.get (HLn_STATUS_RXS l)) :
    Answers (.hostRxSnrWindowEnd l n rx) s fun d => d.get (HLn_STATUS_RX_SNR l) = min n 255 := by
  refine answers_of_run (rfl : _ = execHostRxSnrWindowEnd l n rx s) ?_
  have h' : 2 ≤ s.dev.fresh.get (HLn_STATUS_RXS l) := h
  have hn : min n 255 % 2 ^ 8 = min n 255 := by omega
  dsimp only
  rw [if_pos h']
  generalize (s.dev.fresh.laneAdapt l).laneTake l rx = t
  repeat' split
  all_goals
    simp (disch := decide) only [Dev.get_settle, Dev.raise_eq, Dev.get_log_inst, Dev.get_set_inst_inst, Dev.get_modLane,
      Dev.get_sample_inst]
    exact (Dev.get_set_self ..).trans hn

theorem laneCdrLost_acquires (h : 3 ≤ s.dev.get (HLn_STATUS_RXS l)) :
    Answers (.laneCdrLost l) s fun d => d.get (HLn_STATUS_RXS l) = 2 ∧ d.get (HLn_EVENTS_CDR_LOST l) = 1 := by
  refine answers_of_run (rfl : _ = execLaneCdrLost l s) ?_
  have h' : 3 ≤ s.dev.fresh.get (HLn_STATUS_RXS l) := h
  dsimp only
  rw [if_pos h']
  simp (disch := decide)

theorem checkerLock_locks (h : s.dev.get (HLn_TEST_STATUS_CHK_ON l) = 1) :
    Answers (.checkerLock l) s fun d => d.get (HLn_TEST_STATUS_LOCK l) = 1 := by
  refine answers_of_run (rfl : _ = execCheckerLock l s) ?_
  simp (disch := decide) [h]

theorem checkerLockLoss_counts {n k : Nat} (h : s.dev.get (HLn_TEST_STATUS_CHK_ON l) = 1)
    (hl : s.dev.get (HLn_TEST_STATUS_LOCK l) = 1) :
    Answers (.checkerLockLoss l n k) s fun d => d.get (HLn_TEST_STATUS_LOCK l) = 0 ∧ (d.lane.get l).bits = min
      ((s.dev.lane.get l).bits + n) (2 ^ 64 - 1) ∧ (d.lane.get l).errors = min ((s.dev.lane.get l).errors + k) (2 ^ 64 -
      1) := by
  refine answers_of_run (rfl : _ = execCheckerLockLoss l n k s) ?_
  simp (disch := decide) [h, hl]

end

/-- Settles O23, clause by clause. -/
theorem hostLaneEvents : Obligations.HostLaneEvents :=
  ⟨fun _ _ => hostTxEiHoldEnd_bursts,
   fun _ _ => hostBurstEnd_follows,
   fun _ _ => hostRxEiEnter_idles,
   fun _ _ => hostRxEiExit_acquires,
   fun _ _ => hostRxLock_locks,
   fun _ _ _ _ _ _ => hostCtleTrialEnd_goes_on,
   fun _ _ _ _ _ => hostCtleTrialEnd_ends,
   fun _ _ _ _ => hostGroupAligned_aligns,
   fun _ _ _ => hostAlignmentLoss_notes,
   fun _ _ _ _ h _ => hostRxSnrWindowEnd_reports h,
   fun _ _ _ => hostPllRetuneDone_bursts,
   fun _ _ => laneCdrLost_acquires,
   fun _ _ => checkerLock_locks,
   fun _ _ _ _ => checkerLockLoss_counts⟩

end Sys2Proof.Machine

/-! Configuration blocks, firmware load and activation, and flash operations (19 R603–R613, R643). -/

namespace Sys2Proof.Machine

-- One theorem at a time: side by side they ask for more memory than a check may have.
set_option Elab.async false

open Reg

/-! ## The queue of flash operations -/

theorem length_insertOn {α : Type} (key : α → Nat) (v : α) (l : List α) : (insertOn key v l).length = l.length + 1 := by
  induction l with
  | nil => rfl
  | cons x r ih =>
    unfold insertOn
    split <;> simp [ih]

theorem length_sortOn {α : Type} (key : α → Nat) (l : List α) : (sortOn key l).length = l.length := by
  have h (r : List α) : (l.foldl (fun r v => insertOn key v r) r).length = r.length + l.length := by
    induction l generalizing r with
    | nil => rfl
    | cons x l ih =>
      rw [List.foldl_cons, ih, length_insertOn, List.length_cons]
      omega
  exact (h []).trans (Nat.zero_add _)

theorem mem_insertOn {α : Type} (key : α → Nat) (v x : α) (l : List α) : x ∈ insertOn key v l ↔ x = v ∨ x ∈ l := by
  induction l with
  | nil => simp [insertOn]
  | cons y r ih =>
    unfold insertOn
    split
    · simp
    · simp [ih]
      tauto

theorem mem_sortOn {α : Type} (key : α → Nat) (x : α) (l : List α) : x ∈ sortOn key l ↔ x ∈ l := by
  have h (r : List α) : x ∈ l.foldl (fun r v => insertOn key v r) r ↔ x ∈ r ∨ x ∈ l := by
    induction l generalizing r with
    | nil => simp
    | cons y l ih =>
      rw [List.foldl_cons, ih, mem_insertOn, List.mem_cons]
      tauto
  exact (h []).trans (by simp)

section
variable (s : Dev) (l : List FlashOp)

/-- Operations queued stand with those that stood there. -/
theorem Dev.length_flashQueue : (s.flashQueue l).sys.ops.length = s.sys.ops.length + l.length := by
  show (match s.sys.ops with
    | [] => sortOn _ l
    | h :: r => if s.flashRuns h then h :: sortOn _ (r ++ l) else sortOn _ (h :: r ++ l)).length = _
  split
  next h => simp [h, length_sortOn]
  next h r e =>
    split <;> simp [e, length_sortOn] <;> omega

theorem Dev.mem_flashQueue {o : FlashOp} (h : o ∈ l) : o ∈ (s.flashQueue l).sys.ops := by
  show o ∈ (match s.sys.ops with
    | [] => sortOn _ l
    | h :: r => if s.flashRuns h then h :: sortOn _ (r ++ l) else sortOn _ (h :: r ++ l))
  split
  next => exact (mem_sortOn ..).2 h
  next => split <;> simp [mem_sortOn, h]

theorem Dev.user_flashQueue : (s.flashQueue l).sys.user = s.sys.user := rfl
theorem Dev.waits_flashQueue : (s.flashQueue l).waits = s.waits := rfl

/-- A block's write is an operation at the least. -/
theorem Dev.length_cfgQueue (u : FlashUse) (t : Nat) (b : List Byte) : s.sys.ops.length < (s.cfgQueue u t b).sys.ops.length := by
  unfold Dev.cfgQueue
  rw [Dev.length_flashQueue]
  simp

end

/-! ## Registers as a descriptor begins -/

theorem fieldsAt_plain {off : Nat} (ho : off ∉ [0x34, 0x38, 0x44, 0x48, 0xD004, 0xD008, 0xD00C, 0xD010])
    (hc : off < 0xC000 ∨ 0xD000 ≤ off) {f : Fld} (hf : f ∈ fieldsAt off) : f.plain := by
  obtain ⟨h, hw, hn, -⟩ := (fieldsAt_all off).1 f hf
  exact ⟨by omega, h ▸ ho, h ▸ hc⟩

/-- A register outside the books reads the same of devices that differ in their books alone. -/
theorem Dev.Like.regValue {a b : Dev} (h : a.Like b) {off : Nat} (ho : off ∉ [0x34, 0x38, 0x44, 0x48, 0xD004, 0xD008, 0xD00C, 0xD010])
    (hc : off < 0xC000 ∨ 0xD000 ≤ off) : a.regValue off = b.regValue off := by
  unfold Dev.regValue
  exact congrArg sumNat (List.map_congr_left fun f hf => by rw [h.2 f (fieldsAt_plain ho hc hf)])

theorem Dev.cfgPayload_opened (s : Dev) (d : Desc) (t : Nat) : (s.opened d).cfgPayload t = s.cfgPayload t := by
  have h (off : Nat) (ho : off ∉ [0x34, 0x38, 0x44, 0x48, 0xD004, 0xD008, 0xD00C, 0xD010]) (hc : off < 0xC000 ∨ 0xD000 ≤ off) :
      (s.opened d).regValue off = s.regValue off := (s.opened_like d).regValue ho hc
  unfold Dev.cfgPayload
  split
  · simp (disch := decide) [h]
  · simp
  · refine List.flatMap_congr fun p hp => ?_
    have hp : p < 8 := by
      simp only [List.bind_eq_flatMap, List.mem_flatMap, List.pure_def, List.mem_singleton] at hp
      obtain ⟨q, -, rfl⟩ := hp
      exact q.isLt
    rw [h _ (by simp; omega) (by omega)]
  · have hl : ∀ i ∈ List.range 32, bytesOf 4 ((s.opened d).regValue (0xB108 + 0x10 * i)) = bytesOf 4 (s.regValue (0xB108 + 0x10 * i)) := by
      intro i hi
      rw [List.mem_range] at hi
      rw [h _ (by simp; omega) (by omega)]
    rw [List.flatMap_congr hl]
    simp (disch := decide)
  · simp

/-! ## The core -/

section
variable (s : Dev)

/-- Halting and going on of a pair's adaptation. -/
theorem Dev.rim_echoHalt (p : Port) (x : Pair) : (s.echoHalt p x).rim = s.rim := by
  unfold Dev.echoHalt
  dsimp only
  split
  · exact (Dev.rim_set ..).trans (Dev.rim_modPort ..)
  · split <;> rfl

theorem Dev.view_echoHalt (p : Port) (x : Pair) : (s.echoHalt p x).view adaptFlds = s.view adaptFlds := by
  unfold Dev.echoHalt
  dsimp only
  split
  · simp (disch := decide)
  · split <;> simp (disch := decide)

/-- Adaptation that follows the core leaves the rim of the device alone. -/
theorem Dev.rim_adaptFollow : s.adaptFollow.rim = s.rim :=
  Dev.each_keep (π := Dev.rim) (fun s p => Dev.each_keep (π := Dev.rim) (fun s x => by
    dsimp only
    split
    · exact s.rim_adaptTo ..
    · split
      · exact s.rim_adaptTo ..
      · split
        exacts [s.rim_echoHalt p x, rfl]) _ s) _ s

theorem Dev.view_adaptFollow {l : List Fld} (h : famSub adaptFlds l = true) : s.adaptFollow.view l = s.view l :=
  Dev.view_mono (Dev.view_each (fun s p => Dev.view_each (fun s x => by
    dsimp only
    split
    · exact s.view_adaptTo _ _ _ (by decide)
    · split
      · exact s.view_adaptTo _ _ _ (by decide)
      · split
        exacts [s.view_echoHalt p x, rfl]) _ s) _ s : _ = s.view adaptFlds) h

/-- The core takes a state, and what the rim holds besides stays. -/
theorem Dev.rim_setCore (c : CoreState) : (s.setCore c).rim = (s.modSys fun y => { y with core := c }).rim := by
  unfold Dev.setCore
  rw [Dev.rim_iff, Dev.flag, Dev.rim_set, ite_self, Dev.rim_adaptFollow]

theorem Dev.sys_setCore (c : CoreState) : (s.setCore c).sys = { s.sys with core := c } := (congrArg Dev.sys (s.rim_setCore c) :)
theorem Dev.waits_setCore (c : CoreState) : (s.setCore c).waits = s.waits := (congrArg Dev.waits (s.rim_setCore c) :)

/-- The registers that follow the core. -/
def coreFlds : List Fld := THM_STATUS_GUARD :: adaptFlds

theorem Dev.view_setCore (c : CoreState) {l : List Fld} (h : famSub coreFlds l = true) : (s.setCore c).view l = s.view l := by
  refine Dev.view_mono (?_ : _ = s.view coreFlds) h
  unfold Dev.setCore
  rw [Dev.view_iff, Dev.flag, Dev.view_set_fld _ _ (by decide), ite_self, Dev.view_adaptFollow _ (by decide)]
  rfl

end
end Sys2Proof.Machine

/-! Configuration blocks, FW_LOAD, FW_ACTIVATE, the switch and the end of a flash operation (19 R604–R613, R643). -/

namespace Sys2Proof.Machine

-- One theorem at a time: side by side they ask for more memory than a check may have.
set_option Elab.async false

open Reg

section
variable (s : Dev) (d : Desc)

theorem Dev.hasFlash_opened : (s.opened d).hasFlash = s.hasFlash := by simp (disch := decide) [Dev.hasFlash]

theorem Dev.sys_of_rim {a b : Dev} (h : a.rim = b.rim) : a.sys = b.sys := (congrArg Dev.sys h :)

theorem Dev.sys_loadBytes (m : MemId) (off : Nat) (l : List Byte) : (s.loadBytes m off l).sys = s.sys :=
  Dev.sys_of_rim (s.rim_writeMem ..)

theorem Dev.sys_loadImage (b : Bool) : (s.loadImage b).sys = s.sys := by
  unfold Dev.loadImage
  split
  · exact (Dev.sys_loadBytes ..).trans (Dev.sys_loadBytes ..)
  · rfl

theorem Dev.load_loadStraight (off : Nat) (l : List Byte) : (s.loadStraight off l).sys.load = s.sys.load := by
  unfold Dev.loadStraight
  rw [Dev.sys_loadBytes, Dev.iff_keep (π := fun d : Dev => d.sys) fun d => d.sys_loadBytes ..]
  unfold Dev.iff
  split <;> rfl

theorem Dev.waits_bootWrite (b : Bool) : (s.bootWrite b).waits = s.waits := rfl

/-- A flash operation that stands in the queue waits for its turn, and so does a boot-control entry. -/
theorem Dev.bootQueued_bootWrite (b : Bool) : (s.bootWrite b).bootQueued = true := by
  unfold Dev.bootWrite Dev.bootQueued
  exact List.any_eq_true.2 ⟨_, Dev.mem_flashQueue _ _ (List.mem_cons_self ..), rfl⟩

end

/-! ## Configuration blocks -/

section
variable {s : State} {c : Desc}

theorem cfgAutoWrite_queues {n : Nat} (hc : s.dev.sys.cfgDirty.contains n = true) (hf : s.dev.hasFlash = true)
    (hb : s.dev.get GLB_BOOT_STATUS_BOOT_DONE = 1) (hr : cfgReserved n = false) :
    Answers (.cfgAutoWrite n) s fun d => d.sys.cfgDirty = s.dev.sys.cfgDirty.filter (· != n) ∧ s.dev.sys.ops.length <
      d.sys.ops.length := by
  refine answers_of_run (rfl : _ = execCfgAutoWrite n s) ?_
  have h : s.dev.fresh.sys.cfgDirty.contains n = true ∧ s.dev.fresh.hasFlash = true ∧
      s.dev.fresh.on GLB_BOOT_STATUS_BOOT_DONE = true ∧ cfgReserved n = false := ⟨hc, hf, by simp [hb], hr⟩
  rw [if_pos h]
  exact ⟨rfl, Dev.length_cfgQueue ..⟩

section
variable (ha : s.dev.Acts c)
include ha

theorem cfgWrite_queues (ht : 8 ≤ c.byte 16 ∧ c.byte 16 ≤ 15) (hl : 1 ≤ c.length ∧ c.length ≤ 4064)
    (ho : (s.dev.ring c.ring).owner = 0) (hd : c.data = .first) (hf : s.dev.hasFlash = true) :
    Answers (.cfgWrite c) s fun d => d.waits = s.dev.waits ++ [(.cfgWrite,
      { Desc.stamp c s.dev.timebase with data := .first })] ∧ s.dev.sys.ops.length < d.sys.ops.length ∧ d.sys.user =
      s.dev.sys.user := by
  refine answers_of_descriptor (rfl : _ = execCfgWrite c s) ha ?_
  have hr : cfgReserved (c.byte 16) = false := by
    simp [cfgReserved]
    omega
  have hn : cfgLenOk (c.byte 16) c.length = true := by
    have hx : cfgFixed (c.byte 16) = none := by
      unfold cfgFixed
      split <;> first | omega | rfl
    simp [cfgLenOk, hx, hl]
  have h1 : c.byte 16 ≠ 1 := by omega
  have h2 : c.byte 16 ≠ 2 := by omega
  have h3 : c.byte 16 ≠ 3 := by omega
  have hb := Dev.spanBad_opened (s := s.dev.fresh) (d := c) c.length ho s.dev.timebase
  have hf' : (s.dev.fresh.opened c).hasFlash = true := (Dev.hasFlash_opened ..).trans hf
  dsimp only
  rw [if_neg (by simp [hr, hn, hb]), if_neg (by simp [h2, h3]), Dev.getData_opened (s := s.dev.fresh) ho hd]
  dsimp only
  rw [if_neg (by simp [h1]), if_neg (by simp [hf'])]
  generalize (s.dev.fresh.getData c 0 _).2.1 = b
  have hq := (s.dev.fresh.opened c).length_cfgQueue .cfg (c.byte 16) b
  have hs : (s.dev.fresh.opened c).sys = s.dev.sys := by simp
  have hw : (s.dev.fresh.opened c).waits = s.dev.waits := by simp
  have hu : ((s.dev.fresh.opened c).cfgQueue .cfg (c.byte 16) b).sys.user = s.dev.sys.user := by
    unfold Dev.cfgQueue
    rw [Dev.user_flashQueue, hs]
  have hw' : ((s.dev.fresh.opened c).cfgQueue .cfg (c.byte 16) b).waits = s.dev.waits := by
    unfold Dev.cfgQueue
    rw [Dev.waits_flashQueue, hw]
  rw [hs] at hq
  rw [stamp_byte]
  generalize (s.dev.fresh.opened c).cfgQueue .cfg (c.byte 16) b = t at *
  refine ⟨?_, hq, hu⟩
  simp [Dev.park, hw']

theorem cfgRead_reads (hr : cfgReserved (c.byte 16) = false) (hf : c.flag 17 0 = false)
    (hl : c.length = (s.dev.cfgPayload (c.byte 16)).length) (ho : (s.dev.ring c.ring).owner = 0) :
    Answers (.cfgRead c) s fun d => d.Completed c stOk ((s.dev.cfgPayload (c.byte 16)).length + 65536 * bnat
      (s.dev.getBit GLB_CFG_STATUS_DEFAULTED (c.byte 16)) + 131072 * bnat (s.dev.getBit GLB_CFG_STATUS_ABSENT (c.byte
      16))) := by
  refine answers_of_descriptor (rfl : _ = execCfgRead c s) ha ?_
  have hp : (s.dev.fresh.opened c).cfgPayload (c.byte 16) = s.dev.cfgPayload (c.byte 16) := Dev.cfgPayload_opened ..
  have hb (n : Nat) := Dev.spanBad_opened (s := s.dev.fresh) (d := c) n ho s.dev.timebase
  have hg (f : Fld) (h : f.isPlain = true) : (s.dev.fresh.opened c).getBit f (c.byte 16) = s.dev.getBit f (c.byte 16) := by
    simp [Dev.getBit, Dev.get_opened_fld _ h]
  have hl' : (Desc.stamp c s.dev.timebase).length = (s.dev.cfgPayload (c.byte 16)).length := hl
  dsimp only
  rw [if_neg (by simp [hr])]
  simp only [stamp_byte, stamp_flag, hf, hp, Bool.false_eq_true, if_false, hg GLB_CFG_STATUS_DEFAULTED (by decide),
    hg GLB_CFG_STATUS_ABSENT (by decide)]
  rw [if_neg (by rw [hl', hb]; simp)]
  simp only [Dev.completed_settle, Dev.completed_busyWith, Dev.answer]
  generalize 131072 * bnat _ = k
  generalize 65536 * bnat _ = j
  split
  · exact Dev.finish_completed ..
  · rw [Dev.putData_opened (s := s.dev.fresh) ho]
    exact Dev.finish_completed ..

/-! ## FW_LOAD -/

theorem fwLoad_queues (hx : c.bytes 16 4 % 256 = 0 ∧ c.length % 256 = 0 ∧ 0 < c.length ∧ c.length ≤ 65536 ∧ c.bytes 16 4 +
      c.length ≤ 1572864) (ht : s.dev.get GLB_BOOT_STATUS_TRIAL = 0) (hn : s.dev.sys.load = false ∧ s.dev.sys.switch = none)
    (ho : (s.dev.ring c.ring).owner = 0) (hd : c.data = .first) (hf : s.dev.hasFlash = true) :
    Answers (.fwLoad c) s fun d => d.sys.load = true ∧ d.waits = s.dev.waits ++ [(.fwLoad,
      { Desc.stamp c s.dev.timebase with data := .first })] ∧ s.dev.sys.ops.length < d.sys.ops.length := by
  refine answers_of_descriptor (rfl : _ = execFwLoad c s) ha ?_
  obtain ⟨h16, hl, h0, h64, hm⟩ := hx
  obtain ⟨hload, hsw⟩ := hn
  have hb := Dev.spanBad_opened (s := s.dev.fresh) (d := c) c.length ho s.dev.timebase
  have hf' : (s.dev.fresh.opened c).hasFlash = true := (Dev.hasFlash_opened ..).trans hf
  dsimp only
  rw [if_neg (by simp [hb, h16, hl]; omega), if_neg (by simp (disch := decide) [ht]), if_neg (by simp [hload, hsw]),
    Dev.getData_opened (s := s.dev.fresh) ho hd]
  dsimp only
  rw [if_pos hf', if_neg (by simp [h0.ne'])]
  have hk := Dev.getData_length (s := s.dev.fresh) ho hd 0 c.length
  rw [show (Desc.stamp c s.dev.timebase).length = c.length from rfl]
  generalize (s.dev.fresh.getData c 0 c.length).2.1 = b at hk
  have hq (a : Nat) (hb : b ≠ []) : 0 < (imageOps a b).length := by
    obtain ⟨x, b, rfl⟩ := List.exists_cons_of_ne_nil hb
    simp [imageOps, chunks]
  have hq := hq (slotBase (s.dev.fresh.opened c).freeSlot + (Desc.stamp c s.dev.timebase).bytes 16 4)
    (by rintro rfl; simp at hk; omega)
  refine ⟨rfl, ?_, ?_⟩
  · simp [Dev.waits_flashQueue, Dev.park]
  · rw [Dev.settle_sys, Dev.busyWith_sys, Dev.length_flashQueue]
    have : (((s.dev.fresh.opened c).modSys fun y => { y with load := true }).park .fwLoad
      { Desc.stamp c s.dev.timebase with data := .first }).sys.ops = s.dev.sys.ops := by simp [Dev.park]
    rw [this]
    omega

theorem fwLoad_straight (hx : c.bytes 16 4 % 256 = 0 ∧ c.length % 256 = 0 ∧ c.length ≤ 65536 ∧ c.bytes 16 4 + c.length ≤ 1572864)
    (hla : c.flag 20 0 = false) (ht : s.dev.get GLB_BOOT_STATUS_TRIAL = 0) (hn : s.dev.sys.load = false ∧ s.dev.sys.switch = none)
    (ho : (s.dev.ring c.ring).owner = 0) (hd : c.data = .first) (hf : s.dev.hasFlash = false) :
    Answers (.fwLoad c) s fun d => d.Completed c stOk c.length ∧ d.sys.load = false := by
  refine answers_of_descriptor (rfl : _ = execFwLoad c s) ha ?_
  obtain ⟨h16, hl, h64, hm⟩ := hx
  obtain ⟨hload, hsw⟩ := hn
  have hb := Dev.spanBad_opened (s := s.dev.fresh) (d := c) c.length ho s.dev.timebase
  have hf' : ¬ (s.dev.fresh.opened c).hasFlash = true := by rw [Dev.hasFlash_opened]; exact Bool.eq_false_iff.1 hf
  dsimp only
  rw [if_neg (by simp [hb, h16, hl]; omega), if_neg (by simp (disch := decide) [ht]), if_neg (by simp [hload, hsw]),
    Dev.getData_opened (s := s.dev.fresh) ho hd]
  dsimp only
  rw [if_neg hf', if_neg (by simp [hla])]
  have hk := (s.dev.fresh.opened c).load_loadStraight ((Desc.stamp c s.dev.timebase).bytes 16 4)
    (s.dev.fresh.getData c 0 (Desc.stamp c s.dev.timebase).length).2.1
  generalize (s.dev.fresh.opened c).loadStraight _ _ = t at *
  rw [show (Desc.stamp c s.dev.timebase).length = c.length from rfl, show statusOf Attempt.first = stOk from rfl]
  simp [hk, hload]

/-! ## FW_ACTIVATE -/

theorem fwActivateSwitch_begins (hn : s.dev.sys.load = false ∧ s.dev.sys.switch = none) :
    Answers (.fwActivateSwitch c) s fun d => d.sys.switch = some
      { commit := true, step := 1, again := false, version := 0 } ∧ d.waits = s.dev.waits ++ [(.fwActivate,
      { Desc.stamp c s.dev.timebase with data := .first })] := by
  refine answers_of_descriptor (rfl : _ = execFwActivateSwitch c s) ha ?_
  obtain ⟨hload, hsw⟩ := hn
  simp [Dev.switchBegin, hload, hsw, Dev.park]

theorem fwActivateTrial_begins (hn : s.dev.sys.load = false ∧ s.dev.sys.switch = none) :
    Answers (.fwActivateTrial c) s fun d => d.sys.switch = some
      { commit := false, step := 1, again := false, version := 0 } ∧ d.waits = s.dev.waits ++ [(.fwActivate,
      { Desc.stamp c s.dev.timebase with data := .first })] := by
  refine answers_of_descriptor (rfl : _ = execFwActivateTrial c s) ha ?_
  obtain ⟨hload, hsw⟩ := hn
  simp [Dev.switchBegin, hload, hsw, Dev.park]

theorem fwActivateCommit_queues (hn : s.dev.sys.load = false ∧ s.dev.sys.switch = none) (hf : s.dev.hasFlash = true) :
    Answers (.fwActivateCommit c) s fun d => d.waits = s.dev.waits ++ [(.fwActivate,
      { Desc.stamp c s.dev.timebase with data := .first })] ∧ d.bootQueued = true := by
  refine answers_of_descriptor (rfl : _ = execFwActivateCommit c s) ha ?_
  obtain ⟨hload, hsw⟩ := hn
  have hf' : (s.dev.fresh.opened c).hasFlash = true := (Dev.hasFlash_opened ..).trans hf
  have hr : s.dev.get GLB_BOOT_STATUS_RECOVERY = 0 := ha.2
  dsimp only
  rw [if_neg (by simp (disch := decide) [hr]), if_neg (by simp [hload, hsw]), if_neg (by simp [hf'])]
  refine ⟨?_, Dev.bootQueued_bootWrite ..⟩
  simp [Dev.waits_bootWrite, Dev.park]

theorem fwActivateRaiseRollback_raises (ht : s.dev.get GLB_BOOT_STATUS_TRIAL = 0) (hn : s.dev.sys.load = false ∧ s.dev.sys.switch = none) :
    Answers (.fwActivateRaiseRollback c) s fun d => d.sys.otp = max s.dev.sys.otp (min s.dev.sys.rollback 64) ∧
      d.Completed c stOk (max s.dev.sys.otp (min s.dev.sys.rollback 64)) := by
  refine answers_of_descriptor (rfl : _ = execFwActivateRaiseRollback c s) ha ?_
  obtain ⟨hload, hsw⟩ := hn
  have hs : (s.dev.fresh.opened c).sys = s.dev.sys := by simp
  dsimp only
  rw [if_neg (by simp (disch := decide) [ht]), if_neg (by simp [hload, hsw]), hs]
  exact ⟨by simp, by simp⟩

end

/-! ## The switch -/

theorem fwSwitchVerifyDone_stops {x : SlotCheck} {w : Switch} (hw : s.dev.sys.switch = some w) (h1 : w.step = 1)
    (hf : s.dev.fresh.slotFault s.dev.freeSlot x = 0) :
    Answers (.fwSwitchVerifyDone x) s fun d => d.sys.core = .switching ∧ d.sys.switch = some
      { w with step := 3, version := hdrVersion (s.dev.fresh.slotHeader s.dev.freeSlot) } := by
  refine answers_of_run (rfl : _ = execFwSwitchVerifyDone x s) ?_
  have hw' : s.dev.fresh.sys.switch = some w := hw
  have hs : s.dev.fresh.freeSlot = s.dev.freeSlot := rfl
  rw [hw']
  dsimp only
  rw [if_neg (by simp [h1]), hs, if_neg (by simp [hf])]
  generalize Dev.abortAll _ _ = t
  rw [Dev.settle_sys, Dev.sys_setCore]
  exact ⟨rfl, rfl⟩

theorem fwSwitchLoadDone_loads {w : Switch} (hw : s.dev.sys.switch = some w) (h3 : w.step = 3) :
    Answers (.fwSwitchLoadDone true) s fun d => d.sys.switch = some { w with step := 4 } := by
  refine answers_of_run (rfl : _ = execFwSwitchLoadDone true s) ?_
  have hw' : s.dev.fresh.sys.switch = some w := hw
  rw [hw']
  dsimp only
  rw [if_neg (by simp [h3]), if_pos rfl, Dev.settle_sys, Dev.sys_loadImage]
  rfl

theorem fwSwitchResume_runs {w : Switch} (hw : s.dev.sys.switch = some w) (h4 : w.step = 4 ∧ w.commit = false)
    (hf : s.dev.hasFlash = true) (hq : s.dev.waits = [(.fwActivate, c)]) (hd : c.data = .first) :
    Answers .fwSwitchResume s fun d => d.sys.switch = none ∧ d.sys.core = .running ∧ d.get GLB_BOOT_STATUS_IMAGE = bnat
      s.dev.freeSlot ∧ d.get GLB_BOOT_STATUS_TRIAL = 1 ∧ d.waits = [] ∧ d.Completed c stOk w.version := by
  refine answers_of_run (rfl : _ = execFwSwitchResume s) ?_
  obtain ⟨h4, hc⟩ := h4
  have hw' : s.dev.fresh.sys.switch = some w := hw
  have hf' : s.dev.fresh.hasFlash = true := hf
  have hs : s.dev.fresh.freeSlot = s.dev.freeSlot := rfl
  rw [hw']
  dsimp only
  rw [if_neg (by simp [h4]), if_pos hf', hc, hs]
  simp only [Bool.not_false, Bool.false_and, Dev.iff, Bool.false_eq_true, if_false]
  generalize ht : Dev.modSys _ _ = t
  have hti : t.get GLB_BOOT_STATUS_IMAGE = bnat s.dev.freeSlot := by
    rw [← ht]
    simp (disch := decide)
  have htt : t.get GLB_BOOT_STATUS_TRIAL = 1 := by
    rw [← ht]
    simp (disch := decide)
  have htw : t.waits = [(.fwActivate, c)] := by
    rw [← ht]
    exact hq
  have hts : t.sys.switch = none := by rw [← ht]; rfl
  have hv := t.view_setCore .running (l := coreFlds) (by decide)
  have hui := (Dev.get_of_view hv (f := GLB_BOOT_STATUS_IMAGE) (by decide)).trans hti
  have hut := (Dev.get_of_view hv (f := GLB_BOOT_STATUS_TRIAL) (by decide)).trans htt
  have huw := (t.waits_setCore .running).trans htw
  have hus := t.sys_setCore .running
  generalize t.setCore .running = u at *
  have ho : u.wakeOk .fwActivate w.version = u.wakeOne .fwActivate stOk w.version := by
    unfold Dev.wakeOk
    rw [Dev.waiting_of_waits huw]
    dsimp only
    rw [hd]
    rfl
  rw [ho]
  have h := Dev.completed_wakeOne huw stOk w.version
  have h' := Dev.waits_wakeOne huw stOk w.version
  simp (disch := decide) [hus, hts, hui, hut, h, h']

/-! ## The end of a flash operation -/

/-- Nothing else is to be written where the recorder has nothing due. -/
theorem Dev.flashPump_idle (d : Dev) (hp : d.evr.powerFail = false ∧ d.evr.due = false ∧ d.evr.lifeDue = false ∧ d.evr.clear = 0) :
    d.flashPump = d := by
  obtain ⟨hp, hd, hl, hc⟩ := hp
  unfold Dev.flashPump
  simp [hp, hd, hl, hc, Dev.iff]

theorem sget_filter_out {α : Type} (d : α) (l : Sparse α) {k : Nat → Bool} {i : Nat} (h : k i = false) :
    sget d (l.filter fun e => k e.1) i = d := by
  induction l with
  | nil => rfl
  | cons e l ih =>
    rw [List.filter_cons]
    split
    next he =>
      have hn : e.1 ≠ i := fun e' => by simp [e', h] at he
      exact (if_neg hn).trans ih
    next => exact ih

theorem flashOperationDone_erases {x : SlotCheck} {o : FlashOp} (hp : s.dev.get PWR_STATE_STATE = 0) (ho : s.dev.sys.ops = [o])
    (hu : o.use = .cfgAuto ∧ o.data = none) (he : s.dev.evr.powerFail = false ∧ s.dev.evr.due = false ∧ s.dev.evr.lifeDue = false ∧
      s.dev.evr.clear = 0) (hz : s.dev.get EVR_STATUS_FROZEN = 0) :
    Answers (.flashOperationDone true x) s fun d => d.sys.ops = [] ∧ ∀ i : Nat, i < 4096 → sget 0xFF d.mem.flash (o.addr
      / 4096 * 4096 + i) = 0xFF := by
  refine answers_of_run (rfl : _ = execFlashOperationDone true x s) ?_
  obtain ⟨hu, hn⟩ := hu
  have hs : s.dev.fresh.powerSync = s.dev.fresh := if_neg fun h => absurd (hp.symm.trans h.1) (by decide)
  have hr : s.dev.fresh.flashRuns o = true := by simp [Dev.flashRuns, he.1, hz]
  have hd : s.dev.fresh.flashDone true x = (s.dev.fresh.modSys fun y => { y with ops := y.ops.erase o }).write (.erase (o.addr / 4096)) := by
    unfold Dev.flashDone
    simp [ho, hr, hn, hu]
  rw [hs, s.dev.fresh.flashPump_idle (by simpa using he), hd, Dev.flashPump_idle _ (by simpa using he)]
  refine ⟨by simp [ho], fun i hi => ?_⟩
  refine sget_filter_out (k := fun a => a / 4096 != o.addr / 4096) _ _ ?_
  simp
  omega

end

/-- Settles O43, clause by clause. -/
theorem blocksAndFirmware : Obligations.BlocksAndFirmware :=
  ⟨fun _ _ => cfgAutoWrite_queues,
   fun _ _ ha => cfgWrite_queues ha,
   fun _ _ ha => cfgRead_reads ha,
   fun _ _ ha => fwLoad_queues ha,
   fun _ _ ha => fwLoad_straight ha,
   fun _ _ ha => fwActivateSwitch_begins ha,
   fun _ _ ha => fwActivateTrial_begins ha,
   fun _ _ _ => fwSwitchVerifyDone_stops,
   fun _ _ => fwSwitchLoadDone_loads,
   fun _ _ _ => fwSwitchResume_runs,
   fun _ _ ha => fwActivateCommit_queues ha,
   fun _ _ ha => fwActivateRaiseRollback_raises ha,
   fun _ _ _ => flashOperationDone_erases⟩

end Sys2Proof.Machine

/-! Accesses by a transport that the device serves at once (13 R440–R446, R454–R458): each is a read or a write of its
register or doorbell. -/

namespace Sys2Proof.Machine

-- One theorem at a time: side by side they ask for more memory than a check may have.
set_option Elab.async false

open Reg

/-! ## Reads -/

section
variable {s : Dev} {t : Transport}

theorem Dev.Serving.served (h : s.Serving t) : (s.served t).Serving t := by cases t <;> exact h

theorem Dev.Serving.not_deaf (h : s.Serving t) : s.deaf = false := by
  obtain ⟨hc, -⟩ := h
  simp [Dev.deaf, hc]

theorem Dev.Serving.booted (h : s.Serving t) : s.booted = true := by
  obtain ⟨-, hb, -⟩ := h
  simp [Dev.booted, hb]

theorem Dev.Serving.awake (h : s.Serving t) : s.asleep = false := by
  obtain ⟨-, -, hs, -⟩ := h
  simp [Dev.asleep, hs]

theorem unitsOf_unit {a : Nat} (h4 : a % 4 = 0) (hl : a < 0x20000) : unitsOf a 4 = [a] := by
  have : (a + 3) / 4 * 4 = a := by omega
  simp [unitsOf, this]; omega

/-- The four bytes that a unit's read gives are the unit's. -/
theorem Dev.spiData_unit {a : Nat} (h4 : a % 4 = 0) (hl : a < 0x20000) :
    s.spiData a 4 = ((s.readUnit .spi a).1, bytesOf 4 (s.readUnit .spi a).2.1) := by
  have hn : ¬ (max a 0x80000 < min (a + 4) 0x100000 ∧ (s.readUnit .spi a).1.enabled .spi = true ∧
      ¬ (s.readUnit .spi a).1.asleep = true) := by omega
  have hr : List.range 4 = [0, 1, 2, 3] := rfl
  unfold Dev.spiData
  rw [unitsOf_unit h4 hl]
  dsimp only [List.foldl_cons, List.foldl_nil, List.nil_append]
  rw [if_neg hn, hr]
  refine Prod.ext rfl ?_
  have hf (i : Nat) (hi : i < 4) : [(a, bytesOf 4 (s.readUnit .spi a).2.1)].find? (fun e => decide (e.1 ≤ a + i) && decide (a + i < e.1 + 4)) =
      some (a, bytesOf 4 (s.readUnit .spi a).2.1) := by
    rw [List.find?_cons_of_pos]
    simp [hi]
  have hi (i : Nat) : a + i - a = i := by omega
  simp only [List.map_cons, List.map_nil, hf 0 (by decide), hf 1 (by decide), hf 2 (by decide), hf 3 (by decide), hi]
  rfl

/-- A unit of the register area outside the hearth registers reads as its register. -/
theorem Dev.readUnit_serving (h : s.Serving t) {off : Nat} (hl : off < 0x10000) (hh : isHearth off = false) :
    s.readUnit t off = s.readReg t off := by
  unfold Dev.readUnit
  rw [if_neg (by simp [h.2.2.2]), if_neg (by simp [hh]), if_neg (by simp [h.awake]), if_pos hl, if_pos (by simp [h.booted])]

/-- A frame that reads a register's four bytes reads the register (13 R443, R444). -/
theorem Dev.spiRead_serving (h : s.Serving .spi) {off : Nat} (h4 : off % 4 = 0) (hl : off < 0x10000) (hh : isHearth off = false) :
    s.spiRead off 4 = ((s.served .spi).readReg .spi off).1.reply (bytesOf 4 ((s.served .spi).readReg .spi off).2.1) := by
  have hx : hearthSpan off 4 = false := by
    simp only [isHearth, hearthSpan, Bool.and_eq_false_iff, decide_eq_false_iff_not] at hh ⊢
    omega
  unfold Dev.spiRead Dev.spiFrame
  rw [if_neg (by simp [h.not_deaf]), hx]
  show (let r := (s.serialFrame).spiData off 4; r.1.reply r.2) = _
  rw [Dev.serialFrame_active h.2.2.1, Dev.spiData_unit h4 (by omega)]
  show ((s.served .spi).readUnit .spi off).1.reply _ = _
  rw [Dev.readUnit_serving h.served hl hh]

/-- A register read by a transport that serves it gives what the register reads as (13 R440–R446). -/
theorem Dev.busRead_serving (h : s.Serving t) {off : Nat} (h4 : off % 4 = 0) (hl : off < 0x10000) (hh : isHearth off = false)
    (hm : ¬ (0x800 ≤ off ∧ off < 0xE00)) :
    s.busRead t off = ((s.served t).readReg t off).1.reply (bytesOf 4 ((s.served t).readReg t off).2.1) := by
  cases t with
  | pcie =>
    have h16 : off % 2 ^ 16 = off := Nat.mod_eq_of_lt hl
    have hn : decide (0x10000 ≤ off) = false := by simpa using hl
    show s.pcieArrives _ = _
    unfold Dev.pcieArrives
    rw [if_neg (by simp [h.not_deaf, h.booted]), if_neg (by rw [BitVec.toNat_ofNat, h16, hh]; simp)]
    simp only [Dev.pcieVote_active h.2.2.1, h.awake]
    unfold Dev.pcieServe
    have hm' : (!decide (0x10000 ≤ off) && decide (0x800 ≤ off) && decide (off < 0xE00)) = false := by
      simp only [Bool.and_eq_false_iff, decide_eq_false_iff_not]; omega
    simp only [BitVec.toNat_ofNat, h16, hn, h.2.2.2, h4, Bool.not_false, Bool.true_and, beq_self_eq_true, Bool.not_true] at hm' ⊢
    simp [hm']
    rfl
  | spi => exact Dev.spiRead_serving h h4 hl hh
  | mdio =>
    have he : off / 4 * 4 = off := by omega
    unfold Dev.busRead Dev.mdioFrame
    dsimp only
    rw [if_neg (by simp [h.not_deaf]), Dev.serialFrame_active h.2.2.1, he]
    unfold Dev.mdioWord
    rw [if_pos (by omega), Dev.readUnit_serving (s := s.served .spi) (t := .mdio) h hl hh]
    rfl

/-! ## Doorbells -/

theorem bellAddr_unit (ring : RingNo) : bellAddr ring % 4 = 0 ∧ 0x10000 ≤ bellAddr ring ∧ bellAddr ring < 0x20000 ∧
    Fin.ofNat 16384 ((bellAddr ring - 0x10000) / 4) = ring := by
  have h := ring.isLt
  refine ⟨by unfold bellAddr; omega, by unfold bellAddr; omega, by unfold bellAddr; omega, Fin.ext ?_⟩
  show (bellAddr ring - 0x10000) / 4 % 16384 = ring.val
  unfold bellAddr
  omega

theorem isHearth_of_le {a : Nat} (h : 0x10000 ≤ a) : isHearth a = false := by
  simp [isHearth]; omega

/-- A doorbell's write over SPI or MDIO. -/
theorem Dev.serialWrites_bell (h : s.Serving t) (ring : RingNo) (v : Nat) :
    s.serialWrites t (writesOf t (bellAddr ring) (bytesOf 4 v)) = s.doorbell t ring (v % 2 ^ 32) := by
  obtain ⟨h4, hlo, hhi, hr⟩ := bellAddr_unit ring
  have e4 : ofBytes (bytesOf 4 v) = v % 2 ^ 32 := ofBytes_bytesOf 4 v
  have hw : writesOf t (bellAddr ring) (bytesOf 4 v) = [⟨t, bellAddr ring, bytesOf 4 v⟩] := by
    have h1 : ¬ max (bellAddr ring) 0x80000 < min (bellAddr ring + 4) 0x100000 := by omega
    have h2 : (bytesOf 4 v).take 4 = bytesOf 4 v := List.take_of_length_le (by simp)
    simp [writesOf, unitsOf_unit h4 hhi, h1, h2]
  have ha : s.writeArrives ⟨t, bellAddr ring, bytesOf 4 v⟩ = s.doorbell t ring (v % 2 ^ 32) := by
    unfold Dev.writeArrives
    rw [if_neg (by simp [isHearth_of_le hlo]), if_neg (by dsimp only; omega), if_neg (by simp [h.awake])]
    unfold Dev.writeActs
    rw [if_neg (by dsimp only; omega), if_pos hhi, e4, hr]
  rw [hw, Dev.serialWrites, h.2.2.2]
  exact ha

theorem pcie_bell (ring : RingNo) : (BitVec.ofNat 16 (bellAddr ring)).toNat = 4 * ring.val ∧ 4 * ring.val % 4 = 0 ∧
    decide (0x10000 ≤ bellAddr ring) = true ∧ Fin.ofNat 16384 (4 * ring.val / 4) = ring := by
  have h := ring.isLt
  refine ⟨?_, by omega, by unfold bellAddr; simp, Fin.ext ?_⟩
  · rw [BitVec.toNat_ofNat, bellAddr]
    omega
  · show 4 * ring.val / 4 % 16384 = ring.val
    omega

/-- A doorbell rung by a transport that the device serves (13 R454–R457). -/
theorem Dev.busWrite_bell (h : s.Serving t) (ring : RingNo) (v : Nat) :
    s.busWrite t (bellAddr ring) v = (s.served t).doorbell t ring (v % 2 ^ 32) := by
  obtain ⟨-, hlo, hhi, -⟩ := bellAddr_unit ring
  cases t with
  | pcie =>
    obtain ⟨ho, h4, hb, hr⟩ := pcie_bell ring
    show s.pcieArrives _ = s.doorbell .pcie ring _
    unfold Dev.pcieArrives
    rw [if_neg (by simp [h.not_deaf, h.booted]), if_neg (by rw [hb]; simp)]
    simp only [Dev.pcieVote_active h.2.2.1, h.awake]
    unfold Dev.pcieServe
    simp only [ho, hb, hr, h.2.2.2, h4]
    simp
  | spi =>
    have hx : hearthSpan (bellAddr ring) (bytesOf 4 v).length = false := by
      rw [length_bytesOf]
      simp only [hearthSpan, Bool.and_eq_false_iff, decide_eq_false_iff_not]
      omega
    show s.spiWrite _ _ = _
    unfold Dev.spiWrite Dev.spiFrame
    rw [if_neg (by simp [h.not_deaf]), hx]
    show (s.serialFrame).serialWrites .spi _ = _
    rw [Dev.serialFrame_active h.2.2.1]
    exact Dev.serialWrites_bell h.served ring v
  | mdio =>
    show s.mdioFrame _ = _
    unfold Dev.mdioFrame
    rw [if_neg (by simp [h.not_deaf]), Dev.serialFrame_active h.2.2.1]
    exact Dev.serialWrites_bell (s := s.served .spi) (t := .mdio) h ring v

/-- A doorbell read by a transport that the device serves (13 R458). -/
theorem Dev.busRead_bell (h : s.Serving t) (ring : RingNo) :
    s.busRead t (bellAddr ring) = (s.served t).reply (bytesOf 4 ((s.served t).doorbellIndex ring)) := by
  obtain ⟨h4, hlo, hhi, hr⟩ := bellAddr_unit ring
  have hu (u : Dev) (t : Transport) (hu : u.Serving t) : u.readUnit t (bellAddr ring) = (u, u.doorbellIndex ring, false) := by
    unfold Dev.readUnit
    rw [if_neg (by simp [hu.2.2.2]), if_neg (by simp [isHearth_of_le hlo]), if_neg (by simp [hu.awake]), if_neg (by omega), hr]
  cases t with
  | pcie =>
    obtain ⟨ho, h4, hb, hr⟩ := pcie_bell ring
    show s.pcieArrives _ = _
    unfold Dev.pcieArrives
    rw [if_neg (by simp [h.not_deaf, h.booted]), if_neg (by rw [hb]; simp)]
    simp only [Dev.pcieVote_active h.2.2.1, h.awake]
    unfold Dev.pcieServe
    simp only [ho, hb, hr, h.2.2.2, h4]
    simp
    rfl
  | spi =>
    have hx : hearthSpan (bellAddr ring) 4 = false := by
      simp only [hearthSpan, Bool.and_eq_false_iff, decide_eq_false_iff_not]
      omega
    show s.spiRead _ 4 = _
    unfold Dev.spiRead Dev.spiFrame
    rw [if_neg (by simp [h.not_deaf]), hx]
    show (let r := (s.serialFrame).spiData (bellAddr ring) 4; r.1.reply r.2) = _
    rw [Dev.serialFrame_active h.2.2.1, Dev.spiData_unit h4 hhi, hu _ _ h.served]
  | mdio =>
    have he : bellAddr ring / 4 * 4 = bellAddr ring := by omega
    unfold Dev.busRead Dev.mdioFrame
    dsimp only
    rw [if_neg (by simp [h.not_deaf]), Dev.serialFrame_active h.2.2.1, he]
    unfold Dev.mdioWord
    rw [if_pos hhi, hu _ _ (show (s.served .spi).Serving .mdio from h)]
    rfl

/-! ## Ring contexts without upset -/

theorem Dev.readWord_context (h : ∀ w, lookWord s.mem s.writes 3 w = {}) (w : Nat) :
    (s.readWord 3 w).1 = s ∧ (s.readWord 3 w).2.2 = .first := by
  have hy : (s.rawWord 3 w).syndrome = 0 := by
    unfold Dev.rawWord
    rw [h w, if_pos rfl]
    simp [MWord.syndrome]
  have hs : ∀ x : MWord, (if x.valid then (⟨x.data ^^^ (0 : BitVec 72).setWidth 64, x.check ^^^ ((0 : BitVec 72) >>> 64).setWidth 8, true⟩ : MWord) else x) = x := by
    intro x
    rcases x with ⟨d, k, v⟩
    cases v <;> simp
  unfold Dev.readWord
  dsimp only
  rw [hs, hy]
  exact ⟨rfl, rfl⟩

/-- A context without upset reads as it is. -/
theorem Dev.readCtx_clean (h : ∀ w, lookWord s.mem s.writes 3 w = {}) (r : Nat) : s.readCtx r = (s, true) := by
  have hw (w : Nat) : ∃ v, s.readWord 3 w = (s, v, .first) :=
    ⟨(s.readWord 3 w).2.1, Prod.ext (s.readWord_context h w).1 (Prod.ext rfl (s.readWord_context h w).2)⟩
  obtain ⟨v0, h0⟩ := hw (4 * r + 0)
  obtain ⟨v1, h1⟩ := hw (4 * r + 1)
  obtain ⟨v2, h2⟩ := hw (4 * r + 2)
  obtain ⟨v3, h3⟩ := hw (4 * r + 3)
  unfold Dev.readCtx
  simp only [List.foldl_cons, List.foldl_nil, if_true, h0, h1, h2, h3]

end
end Sys2Proof.Machine

/-! SPI frames, MDIO accesses, PCIe requests and doorbells of a transport served at once (13 R440–R446, R454–R458). -/

namespace Sys2Proof.Machine

-- One theorem at a time: side by side they ask for more memory than a check may have.
set_option Elab.async false

open Reg

/-- Two commands with one effect answer alike. -/
theorem Answers.of_exec {c c' : Instr} {s : State} {P Q : Dev → Prop} (h : Answers c s P) (he : exec c' s = exec c s)
    (hi : ∀ d, P d → Q d) : Answers c' s Q := by
  obtain ⟨t, ht, hp, h⟩ := h
  exact ⟨t, he.trans ht, hp, hi _ h⟩

section
variable {s : State}

/-! ## SPI frames -/

section
variable {a : BitVec 32} (h : s.dev.Serving .spi)
include h

/-- A frame of a register's four bytes is a write of the register. -/
theorem spiWrite_as_register {v : BitVec 32} (hl : a.toNat < 0x10000 ∧ a.toNat % 4 = 0)
    (hh : isHearth a.toNat = false ∧ setsGoing a.toNat = false ∧ ¬ (0x800 ≤ a.toNat ∧ a.toNat < 0xE00)) {c : Instr}
    (hc : exec c s = run s fun d => d.spiWrite a.toNat (bytesOf 4 v.toNat)) :
    Answers c s fun d => ∀ f ∈ fieldsAt a.toNat, d.get f = fieldAfter f (s.dev.get f) v.toNat := by
  obtain ⟨hl, h4⟩ := hl
  obtain ⟨hh, hq, hm⟩ := hh
  have ho : (BitVec.ofNat 16 a.toNat).toNat = a.toNat := by
    rw [BitVec.toNat_ofNat]
    exact Nat.mod_eq_of_lt hl
  have hr := registerWriteByAccessCode s .spi (BitVec.ofNat 16 a.toNat) v h (by rw [ho]; exact h4) (by rw [ho]; exact hh)
    (by rw [ho]; exact hm) (by rw [ho]; exact hq)
  refine hr.of_exec (hc.trans ?_) fun d hd => ?_
  · show _ = run s fun d => d.spiWrite (BitVec.ofNat 16 a.toNat).toNat (bytesOf 4 v.toNat)
    rw [ho]
  · obtain ⟨hd, -⟩ := hd
    rw [ho] at hd
    exact hd

/-- A frame that reads a register's four bytes reads the register. -/
theorem spiRead_as_register (hl : a.toNat < 0x10000 ∧ a.toNat % 4 = 0 ∧ isHearth a.toNat = false) {c : Instr}
    (hc : exec c s = run s fun d => d.spiRead a.toNat 4) :
    Answers c s fun d => d.readData = bytesOf 4 ({ s.dev.served .spi with writes := [] }.readReg .spi a.toNat).2.1 := by
  obtain ⟨hl, h4, hh⟩ := hl
  refine answers_of_run hc ?_
  rw [Dev.spiRead_serving (s := s.dev.fresh) h h4 hl hh]
  rfl

end

theorem spiIgnoredCommand_ignored {x : Byte} (h : s.dev.Serving .spi) (hx : spiCommands.contains x = false) :
    Answers (.spiIgnoredCommand x) s fun d => d = { s.dev.served .spi with writes := [] } := by
  refine answers_of_run (rfl : _ = execSpiIgnoredCommand x s) ?_
  have hd : s.dev.fresh.deaf = false := Dev.Serving.not_deaf (s := s.dev.fresh) (t := .spi) h
  have hf : s.dev.fresh.spiFrame false id = s.dev.fresh.served .spi := by
    unfold Dev.spiFrame
    rw [if_neg (by simp [hd])]
    exact Dev.serialFrame_active h.2.2.1
  rw [if_neg (by simp only [hx]; decide), hf]
  exact Dev.settle_mem_of_no_writes _ rfl

/-! ## MDIO -/

/-- An MDIO access of a device that serves it acts on the device with its vote. -/
theorem mdioFrame_serving (h : s.dev.Serving .mdio) (act : Dev → Dev) :
    s.dev.fresh.mdioFrame act = act (s.dev.fresh.served .mdio) := by
  have hd : s.dev.fresh.deaf = false := Dev.Serving.not_deaf (s := s.dev.fresh) (t := .mdio) h
  unfold Dev.mdioFrame
  rw [if_neg (by simp [hd]), Dev.serialFrame_active (s := s.dev.fresh) h.2.2.1]
  rfl

section
variable (h : s.dev.Serving .mdio)
include h

theorem mdioDataLoRead_gives (hw : s.dev.mdio.window < 0x10000 ∧ isHearth s.dev.mdio.window = false) :
    Answers .mdioDataLoRead s fun d => d.readData = bytesOf 2 ({ s.dev.served .mdio with writes := [] }.readReg .mdio
      s.dev.mdio.window).2.1 ∧ d.mdio.hiLatch = BitVec.ofNat 16 (({ s.dev.served .mdio with writes := [] }.readReg .mdio
      s.dev.mdio.window).2.1 / 2 ^ 16) := by
  refine answers_of_run (rfl : _ = execMdioDataLoRead s) ?_
  obtain ⟨hl, hh⟩ := hw
  have hs : (s.dev.fresh.served .mdio).Serving .mdio := h
  have he : (s.dev.fresh.served .mdio).enabled .mdio = true := h.2.2.2
  have hu : (s.dev.fresh.served .mdio).mdioWord s.dev.mdio.window = (s.dev.fresh.served .mdio).readReg .mdio s.dev.mdio.window := by
    unfold Dev.mdioWord Dev.readUnit
    rw [if_pos (by omega), if_neg (by simp [he]), if_neg (by simp [hh]), if_neg (by simp [hs.awake]), if_pos hl,
      if_pos (by simp [hs.booted])]
  rw [mdioFrame_serving h]
  dsimp only
  rw [if_neg (by simp [he]), show (s.dev.fresh.served .mdio).mdio.window = s.dev.mdio.window from rfl, hu]
  exact ⟨rfl, rfl⟩

theorem mdioDataHiRead_gives : Answers .mdioDataHiRead s fun d => d.readData = bytesOf 2 s.dev.mdio.hiLatch.toNat ∧ d.mdio.addr = if
      s.dev.mdio.autoInc then s.dev.mdio.addr + 4 else s.dev.mdio.addr := by
  refine answers_of_run (rfl : _ = execMdioDataHiRead s) ?_
  have he : (s.dev.fresh.served .mdio).enabled .mdio = true := h.2.2.2
  rw [mdioFrame_serving h]
  rw [if_neg (by simp [he])]
  refine ⟨rfl, ?_⟩
  show (Mdio.step s.dev.mdio).addr = _
  unfold Mdio.step
  split <;> rfl

theorem mdioDataLoWrite_holds (v : BitVec 16) : Answers (.mdioDataLoWrite v) s fun d => d.mdio.loHold = v := by
  refine answers_of_run (rfl : _ = execMdioDataLoWrite v s) ?_
  have he : (s.dev.fresh.served .mdio).enabled .mdio = true := h.2.2.2
  rw [mdioFrame_serving h, he]
  rfl

theorem mdioDataHiWrite_writes {v : BitVec 16} {a : Nat} (ha : s.dev.mdio.window = a)
    (hx : a < 0x10000 ∧ isHearth a = false ∧ setsGoing a = false ∧ ¬ (0x800 ≤ a ∧ a < 0xE00)) :
    Answers (.mdioDataHiWrite v) s fun d => ∀ f ∈ fieldsAt a, d.get f = fieldAfter f (s.dev.get f)
      (s.dev.mdio.loHold.toNat + 2 ^ 16 * v.toNat) := by
  refine answers_of_run (rfl : _ = execMdioDataHiWrite v s) ?_
  obtain ⟨hl, hh, hq, hm⟩ := hx
  have hs : (s.dev.fresh.served .mdio).Serving .mdio := h
  have he : (s.dev.fresh.served .mdio).enabled .mdio = true := h.2.2.2
  have h4 : a % 4 = 0 := by
    rw [← ha]
    unfold Mdio.window
    omega
  have h1 := s.dev.mdio.loHold.isLt
  have h2 := v.isLt
  have hw := Dev.serialWrites_register (s := s.dev.fresh.served .mdio) (t := .mdio) he hs.booted hs.awake h4 hl hh
    (s.dev.mdio.loHold.toNat + 2 ^ 16 * v.toNat)
  rw [Nat.mod_eq_of_lt (by omega), Dev.writeReg_quiet _ hq] at hw
  have hx : (s.dev.fresh.served .mdio).serialWrites .mdio (writesOf .mdio (s.dev.fresh.served .mdio).mdio.window
      (bytesOf 4 ((s.dev.fresh.served .mdio).mdio.loHold.toNat + 2 ^ 16 * v.toNat))) = _ :=
    (congrArg (fun a => (s.dev.fresh.served .mdio).serialWrites .mdio (writesOf .mdio a _)) ha).trans hw
  rw [mdioFrame_serving h, he, Dev.iff_true]
  dsimp only
  rw [hx]
  intro f hf
  exact (Dev.writeFields_at _ _ _ hf).trans rfl

theorem mdioWinStatusRead_gives : Answers .mdioWinStatusRead s fun d => d.readData = bytesOf 2 (bnat s.dev.mdio.ue) ∧ d.mdio.ue = false := by
  refine answers_of_run (rfl : _ = execMdioWinStatusRead s) ?_
  have he : (s.dev.fresh.served .mdio).enabled .mdio = true := h.2.2.2
  rw [mdioFrame_serving h]
  rw [if_neg (by simp [he])]
  exact ⟨rfl, rfl⟩

theorem mdioLinkStatusRead_gives {p : Port} (_hl : s.dev.linkState p = 4) (hp : s.dev.mdio.linkLow.get p = true) :
    Answers (.mdioLinkStatusRead p) s fun d => d.readData = bytesOf 2 (128 * s.dev.get (LPn_LINK_STATUS_LOCAL_FAULT p)) ∧
      d.mdio.linkLow.get p = false := by
  refine answers_of_run (rfl : _ = execMdioLinkStatusRead p s) ?_
  have hs : (s.dev.fresh.served .mdio).Serving .mdio := h
  have he : (s.dev.fresh.served .mdio).enabled .mdio = true := h.2.2.2
  have hp' : (s.dev.fresh.served .mdio).mdio.linkLow.get p = true := hp
  rw [mdioFrame_serving h]
  dsimp only
  rw [if_neg (by simp [he, hs.awake]), hp', Bool.not_true, Bool.and_false]
  refine ⟨?_, ?_⟩
  · show bytesOf 2 (4 * 0 + 128 * s.dev.get (LPn_LINK_STATUS_LOCAL_FAULT p)) = _
    rw [Nat.mul_zero, Nat.zero_add]
  · show (s.dev.mdio.linkLow.set p false).get p = false
    simp [Vector.get_eq_getElem]

end

/-! ## PCIe -/

theorem pcieMemoryRequest_reads {q : PcieReq} (h : s.dev.Serving .pcie) (hq : q.bar2 = false ∧ q.write = none ∧ q.aligned = true ∧ q.off.toNat % 4 = 0)
    (hm : ¬ (0x800 ≤ q.off.toNat ∧ q.off.toNat < 0xE00)) :
    Answers (.pcieMemoryRequest q) s fun d => d.readData = bytesOf 4 (s.dev.fresh.readReg .pcie q.off.toNat).2.1 := by
  refine answers_of_run (rfl : _ = execPcieMemoryRequest q s) ?_
  obtain ⟨hb, hw, ha, h4⟩ := hq
  have hs : s.dev.fresh.Serving .pcie := h
  have hserve : s.dev.fresh.pcieServe q = (s.dev.fresh.readReg .pcie q.off.toNat).1.reply (bytesOf 4 (s.dev.fresh.readReg .pcie q.off.toNat).2.1) := by
    have hm' : (!false && decide (0x800 ≤ q.off.toNat) && decide (q.off.toNat < 0xE00)) = false := by
      simp only [Bool.and_eq_false_iff, decide_eq_false_iff_not]; omega
    unfold Dev.pcieServe
    simp only [hw, ha, hb, h4, hs.2.2.2, Bool.not_true, Bool.and_self, beq_self_eq_true]
    rw [hm']
    rfl
  have harr : s.dev.fresh.pcieArrives q = s.dev.fresh.pcieServe q := by
    unfold Dev.pcieArrives
    rw [if_neg (by simp [hs.not_deaf, hs.booted])]
    split
    · rfl
    · simp [Dev.pcieVote_active hs.2.2.1, hs.awake]
  rw [harr, hserve]
  rfl

/-! ## Doorbells -/

/-- A submission ring's doorbell with an index that adds no more than the room left sets TAIL (13 R454, R455). -/
theorem Dev.doorbell_sets {u : Dev} {t : Transport} {ring : RingNo} {n : Nat} (hx : ∀ w, lookWord u.mem u.writes 3 w = {})
    (hr : (u.ring ring).live = true ∧ (u.ring ring).typ = 0 ∧ (u.ring ring).owner = t.code) (hn : n % 65536 < (u.ring ring).size)
    (hroom : (n % 65536 + (u.ring ring).size - (u.ring ring).tail) % (u.ring ring).size ≤ ((u.ring ring).head + (u.ring ring).size - 1 +
      (u.ring ring).size - (u.ring ring).tail) % (u.ring ring).size) :
    u.doorbell t ring n = u.setRing ring { u.ring ring with tail := n % 65536 } := by
  obtain ⟨hl, ht, ho⟩ := hr
  unfold Dev.doorbell
  rw [Dev.readCtx_clean hx]
  dsimp only
  rw [if_neg (by simp [hl, ho]), ht, if_neg ?_, if_pos rfl]
  simp only [if_true, Bool.or_eq_true, decide_eq_true_eq, not_or]
  exact ⟨by omega, by omega⟩

theorem Dev.ring_settle (u : Dev) (m : Mem) (r : Nat) : (u.settle m).ring r = u.ring r := rfl

theorem doorbell_sets {t : Transport} {ring : RingNo} {v : BitVec 32} (h : s.dev.Serving t) (hx : s.dev.mem.die.get 3 = [])
    (hr : (s.dev.ring ring).live = true ∧ (s.dev.ring ring).typ = 0 ∧ (s.dev.ring ring).owner = t.code)
    (hv : v.toNat % 65536 < (s.dev.ring ring).size)
    (hroom : (v.toNat % 65536 + (s.dev.ring ring).size - (s.dev.ring ring).tail) % (s.dev.ring ring).size ≤ ((s.dev.ring ring).head + (s.dev.ring ring).size - 1 +
      (s.dev.ring ring).size - (s.dev.ring ring).tail) % (s.dev.ring ring).size) :
    Answers (.doorbell t ring v) s fun d => d.ring ring = { s.dev.ring ring with tail := v.toNat % 65536 } := by
  refine answers_of_run (rfl : _ = execDoorbell t ring v s) ?_
  have hw (w : Nat) : lookWord s.dev.mem [] 3 w = {} := by
    show sget {} (s.dev.mem.die.get 3) w = {}
    rw [hx]
    rfl
  have hring : (s.dev.fresh.served t).ring ring = s.dev.ring ring := by cases t <;> rfl
  have hmem : (s.dev.fresh.served t).mem = s.dev.mem := s.dev.fresh.served_mem t
  rw [Dev.busWrite_bell (s := s.dev.fresh) h, Nat.mod_eq_of_lt v.isLt, Dev.doorbell_sets (u := s.dev.fresh.served t)]
  · rw [hring]
    rw [Dev.ring_settle, Dev.ring_setRing_self]
  · rw [hmem, s.dev.served_fresh_writes t]
    exact hw
  all_goals rw [hring]; assumption

theorem mdioDbValueWrite_sets {v : BitVec 16} {ring : RingNo} (h : s.dev.Serving .mdio) (hd : s.dev.mdio.ring = ring)
    (hx : s.dev.mem.die.get 3 = [])
    (hr : (s.dev.ring ring).live = true ∧ (s.dev.ring ring).typ = 0 ∧ (s.dev.ring ring).owner = 2)
    (he : (s.dev.ring ring).head = (s.dev.ring ring).tail) (hv : v.toNat < (s.dev.ring ring).size)
    (ht : (s.dev.ring ring).tail < (s.dev.ring ring).size) :
    Answers (.mdioDbValueWrite v) s fun d => d.ring ring = { s.dev.ring ring with tail := v.toNat } := by
  refine answers_of_run (rfl : _ = execMdioDbValueWrite v s) ?_
  have hw (w : Nat) : lookWord s.dev.mem [] 3 w = {} := by
    show sget {} (s.dev.mem.die.get 3) w = {}
    rw [hx]
    rfl
  have h16 := v.isLt
  have hv' : v.toNat % 65536 = v.toNat := Nat.mod_eq_of_lt h16
  have hs : (s.dev.fresh.served .mdio).Serving .mdio := h
  rw [mdioFrame_serving h]
  dsimp only
  rw [show (s.dev.fresh.served .mdio).mdio.ring = ring from hd, Dev.serialWrites_bell hs, Nat.mod_eq_of_lt (by omega : v.toNat < 2 ^ 32),
    Dev.doorbell_sets (u := s.dev.fresh.served .mdio) (t := .mdio) (ring := ring) hw hr (by rw [hv']; exact hv)]
  · rw [hv', Dev.ring_settle, Dev.ring_setRing_self]
    rfl
  · show (v.toNat % 65536 + (s.dev.ring ring).size - (s.dev.ring ring).tail) % (s.dev.ring ring).size ≤
      ((s.dev.ring ring).head + (s.dev.ring ring).size - 1 + (s.dev.ring ring).size - (s.dev.ring ring).tail) % (s.dev.ring ring).size
    rw [he, show (s.dev.ring ring).tail + (s.dev.ring ring).size - 1 + (s.dev.ring ring).size - (s.dev.ring ring).tail =
      (s.dev.ring ring).size - 1 + (s.dev.ring ring).size by omega, Nat.add_mod_right, Nat.mod_eq_of_lt (a := (s.dev.ring ring).size - 1) (by omega)]
    exact Nat.le_sub_one_of_lt (Nat.mod_lt _ (by omega))

theorem doorbellRead_gives {t : Transport} {ring : RingNo} (h : s.dev.Serving t) :
    Answers (.doorbellRead t ring) s fun d => d.readData = bytesOf 4 (if (s.dev.ring ring).live then (if (s.dev.ring
      ring).typ = 0 then (s.dev.ring ring).head else (s.dev.ring ring).tail) else 0) := by
  refine answers_of_run (rfl : _ = execDoorbellRead t ring s) ?_
  have hring : (s.dev.fresh.served t).ring ring = s.dev.ring ring := by cases t <;> rfl
  rw [Dev.busRead_bell (s := s.dev.fresh) h]
  show bytesOf 4 ((s.dev.fresh.served t).doorbellIndex ring) = _
  unfold Dev.doorbellIndex
  rw [hring]
  cases hl : (s.dev.ring ring).live <;> simp [hl]

end
end Sys2Proof.Machine

/-! Register accesses with a row of their own (00 R10–R13, 13 R440–R453, 21 R639–R641): reads of latched pairs, and writes
that set something going in a port or in a lane. -/

namespace Sys2Proof.Machine

-- One theorem at a time: side by side they ask for more memory than a check may have.
set_option Elab.async false

open Reg

/-! ## A write of one register -/

/-- The device with the fields of a register written. -/
def Dev.written (s : Dev) (off v : Nat) : Dev := s.each (fieldsAt off) fun s f => s.writeField v f

/-- A field of a register that a transport reaches by its address and that is no half of a check value. -/
def Fld.reachable (f : Fld) : Bool :=
  f.off % 4 == 0 && decide (f.off < 0x10000) && !isHearth f.off && !(decide (0x800 ≤ f.off) && decide (f.off < 0xE00)) &&
    !inChans f.off && decide (f ∈ fieldsAt f.off)

theorem Fld.reachable_iff {f : Fld} : f.reachable = true ↔ f.off % 4 = 0 ∧ f.off < 0x10000 ∧ isHearth f.off = false ∧
    ¬ (0x800 ≤ f.off ∧ f.off < 0xE00) ∧ inChans f.off = false ∧ f ∈ fieldsAt f.off := by
  simp only [Fld.reachable, Bool.and_eq_true, beq_iff_eq, decide_eq_true_eq, Bool.not_eq_true', and_assoc, ← Bool.decide_and,
    decide_eq_false_iff_not]

theorem Dev.written_onlyRegs (s : Dev) (off v : Nat) : (s.written off v).OnlyRegs s := Dev.writeFields_core s v (fieldsAt off)

theorem Dev.get_written (s : Dev) (v : Nat) {f : Fld} (hf : f ∈ fieldsAt f.off) (ha : f.acc = .rw) :
    (s.written f.off v).get f = fieldAfter f 0 v := by
  refine (Dev.writeFields_at s v _ hf).trans ?_
  unfold fieldAfter
  rw [ha]

theorem Dev.get_written_ne (s : Dev) (v : Nat) {off : Nat} {f : Fld} (hl : f.lsb < 32) (ho : f.off ≠ off) :
    (s.written off v).get f = s.get f := Dev.writeFields_elsewhere s v hl ho

section
variable {s : State} {t : Transport}

/-- A served write of a register writes its fields and sets going what the register does. -/
theorem answers_of_fieldWrite {c : Instr} {P : Dev → Prop} {v : BitVec 32} (f : Fld) (h : s.dev.Serving t)
    (hc : exec c s = run s fun d => d.busWrite t f.off v.toNat) (hf : f.reachable = true)
    (hP : P ((((s.dev.fresh.served t).written f.off v.toNat).regWritten (s.dev.fresh.served t) f.off v.toNat).settle s.dev.mem)) :
    Answers c s P := by
  refine answers_of_run hc ?_
  obtain ⟨h4, hl, hh, hm, hi, hf⟩ := Fld.reachable_iff.1 hf
  have hn : fieldsAt f.off ≠ [] := List.ne_nil_of_mem hf
  rw [Dev.busWrite_serving (s := s.dev.fresh) h h4 hl hh hm, Nat.mod_eq_of_lt v.isLt]
  unfold Dev.writeReg
  rw [if_neg (by simp [hi]), if_neg hn]
  exact hP

/-! ## Latched pairs -/

theorem Dev.wideValue_place {d : Dev} {off n : Nat} (h : d.wideValue off = some n) : off < 0x10000 ∧ isHearth off = false ∧
    ¬ (0x800 ≤ off ∧ off < 0xE00) := by
  have hb : (0x4000 ≤ off ∧ off < 0x9000) ∨ (0x3100 ≤ off ∧ off < 0x3200) ∨ (0xC100 ≤ off ∧ off < 0xC900) := by
    unfold Dev.wideValue at h
    split at h
    next hp => simp only [inPorts, Bool.and_eq_true, decide_eq_true_eq] at hp; omega
    split at h
    next hl => simp only [inLanes, Bool.and_eq_true, decide_eq_true_eq] at hl; omega
    split at h
    next hi => simp only [inChans, Bool.and_eq_true, decide_eq_true_eq] at hi; omega
    split at h
    next hc => omega
    next => cases h
  simp only [isHearth, Bool.and_eq_false_iff, decide_eq_false_iff_not]
  omega

theorem Dev.wideValue_served_fresh (d : Dev) (t : Transport) (off : Nat) : (d.fresh.served t).wideValue off = d.wideValue off := by
  have hp : (d.fresh.served t).prt = d.prt := by cases t <;> rfl
  have hg : (d.fresh.served t).get = d.get := by cases t <;> rfl
  have hl : (d.fresh.served t).lane = d.lane := by cases t <;> rfl
  have hk : (d.fresh.served t).chkPair = d.chkPair := by cases t <;> rfl
  have hc : (d.fresh.served t).ctrValue = d.ctrValue := by cases t <;> rfl
  unfold Dev.wideValue
  rw [hl, hk, hc, hp, hg]

theorem latchedLoRead_latches {off : BitVec 16} {n : Nat} (h : s.dev.Serving t) (h4 : off.toNat % 4 = 0)
    (hw : s.dev.wideValue off.toNat = some n) :
    Answers (.latchedLoRead t (.setup off)) s fun d => d.readData = bytesOf 4 (n % 2 ^ 32) ∧ sget 0 (d.hiLatch.get t.idx)
      (off.toNat + 4) = n / 2 ^ 32 % 2 ^ 32 := by
  refine answers_of_run (rfl : _ = execLatchedLoRead t (.setup off) s) ?_
  obtain ⟨hl, hh, hm⟩ := Dev.wideValue_place hw
  have hu : (s.dev.fresh.served t).wideValue off.toNat = some n := (s.dev.wideValue_served_fresh t _).trans hw
  dsimp only
  rw [Dev.busRead_serving (s := s.dev.fresh) h h4 hl hh hm]
  unfold Dev.readReg
  rw [hu]
  refine ⟨rfl, ?_⟩
  show sget 0 ((vmod (s.dev.fresh.served t).hiLatch t.idx fun l => sput 0 l (off.toNat + 4) (n / 2 ^ 32 % 2 ^ 32)).get t.idx) _ = _
  simp

theorem latchedLoRead_msix {off : BitVec 16} (h : s.dev.Serving .pcie) (ho : off.toNat < 0x600 ∧ off.toNat % 4 = 0) :
    Answers (.latchedLoRead .pcie (.msix off)) s fun d => d.readData = bytesOf 4 (s.dev.msixRead off.toNat) := by
  refine answers_of_run (rfl : _ = execLatchedLoRead .pcie (.msix off) s) ?_
  obtain ⟨hl, h4⟩ := ho
  have hs : s.dev.fresh.Serving .pcie := h
  have hx : (0x800 + off).toNat = 0x800 + off.toNat := by
    rw [BitVec.toNat_add]
    show (2048 + off.toNat) % 65536 = _
    omega
  have h0 : isHearth (0x800 + off.toNat) = false := by
    simp only [isHearth, Bool.and_eq_false_iff, decide_eq_false_iff_not]
    omega
  have hm : ((!false && decide (0x800 ≤ 0x800 + off.toNat)) && decide (0x800 + off.toNat < 0xE00)) = true := by
    simp
    omega
  have h4' : (0x800 + off.toNat) % 4 = 0 := by omega
  dsimp only
  rw [if_pos (And.intro rfl hl)]
  unfold Dev.pcieArrives
  rw [if_neg (by simp [hs.not_deaf, hs.booted]), hx, h0, if_neg (by simp), Dev.pcieVote_active hs.2.2.1]
  dsimp only
  rw [if_neg (by simp [hs.awake])]
  unfold Dev.pcieServe
  simp only [hx, hs.2.2.2, h4', hm]
  rw [if_neg (by simp), if_neg (by simp), if_pos (by simp), Nat.add_sub_cancel_left]
  rfl

/-! ## Registers of a port -/

theorem Dev.regWritten_port {a b : Dev} {off v r : Nat} {p : Port} (hp : inPorts off = true) (ha : portAt off = (p, r)) :
    a.regWritten b off v = a.portWritten b p r v := by
  unfold Dev.regWritten
  rw [if_pos hp, ha]

section
variable {p : Port} {v : BitVec 32} (h : s.dev.Serving t)
include h

omit h in
/-- What a field written reads as where what the write sets going spares it. -/
theorem Dev.get_spared_written {u : Dev} {l : List Fld} {f : Fld} {g : Dev} {n : Nat} (hg : g.view l = (u.written f.off n).view l)
    (hs : f.spared l = true) (hf : f.reachable = true) (ha : f.acc = .rw) : g.get f = fieldAfter f 0 n :=
  (Dev.get_of_view hg hs).trans (u.get_written n (Fld.reachable_iff.1 hf).2.2.2.2.2 ha)

omit h in
theorem Dev.view_overrideRefresh (d : Dev) (p : Port) : (d.overrideRefresh p).view agcFlds = d.view agcFlds := by
  simp (disch := decide) [Dev.overrideRefresh]

omit h in
theorem Dev.view_rxfeWritten (d : Dev) (p : Port) (b : Bool) : (d.rxfeWritten p b).view agcFlds = d.view agcFlds := by
  unfold Dev.rxfeWritten
  dsimp only
  refine (Dev.view_overrideRefresh _ p).trans ((Dev.view_each (fun d x => ?_) bothPairs _).trans
    (Dev.view_each (fun e x => ?_) bothPairs d))
  · split
    · exact Dev.view_setGain _ p x _ (by decide)
    · rfl
  · have hm : (e.iff (d.on (LPn_RXFE_CTRL_GAIN_MODE p) && !b) fun e => e.modAdc p x fun a => { a with manualOff := false }).view agcFlds =
        e.view agcFlds := by simp
    generalize e.iff _ _ = a at hm ⊢
    split
    · exact hm
    split
    · exact (Dev.view_agcTo a p x _ (by decide)).trans hm
    split
    · split
      · exact (Dev.view_agcTo _ p x _ (by decide)).trans hm
      · exact hm
    split
    · exact (Dev.view_setGain a p x _ (by decide)).trans hm
    · exact hm
/-- A write of GAIN_MODE stands. -/
theorem gainModeWrite_stands : Answers (.gainModeWrite t p v) s fun d => d.get (LPn_RXFE_CTRL_GAIN_MODE p) =
    fieldAfter (LPn_RXFE_CTRL_GAIN_MODE p) 0 v.toNat := by
  have hf : (LPn_RXFE_CTRL_GAIN_MODE p).reachable = true := by revert p; decide
  refine answers_of_fieldWrite (LPn_RXFE_CTRL_GAIN_MODE p) h (rfl : _ = execGainModeWrite t p v s) hf ?_
  rw [Dev.regWritten_port (r := 0x100) (p := p) (by revert p; decide) (by revert p; decide), Dev.get_settle]
  exact Dev.get_spared_written (Dev.view_rxfeWritten _ p _) (by revert p; decide) hf rfl

omit h in
theorem Dev.holdStart_keeps (d : Dev) (p : Port) : (d.holdStart p).get (LPn_ADC_CAL_CTRL_HOLD p) = d.get (LPn_ADC_CAL_CTRL_HOLD p) := by
  simp (disch := decide) [Dev.holdStart]

omit h in
theorem Dev.holdEnd_clears (d : Dev) (p : Port) : (d.holdEnd p).get (LPn_ADC_CAL_CTRL_HOLD p) = 0 := by
  simp (disch := decide) [Dev.holdEnd]

/-- A write of HOLD that the port does not refuse stands (03 R119). -/
theorem adcCalHoldWrite_stands (hb : s.dev.get (LPn_ADC_CAL_STATUS_REHOLD_BLOCK p) = 0) : Answers (.adcCalHoldWrite t p v) s fun d =>
    d.get (LPn_ADC_CAL_CTRL_HOLD p) = fieldAfter (LPn_ADC_CAL_CTRL_HOLD p) 0 v.toNat := by
  have hf : (LPn_ADC_CAL_CTRL_HOLD p).reachable = true :=
    (by decide : ∀ p : Port, (LPn_ADC_CAL_CTRL_HOLD p).reachable = true) p
  refine answers_of_fieldWrite (LPn_ADC_CAL_CTRL_HOLD p) h (rfl : _ = execAdcCalHoldWrite t p v s) hf ?_
  rw [Dev.regWritten_port (r := 0x110) (p := p) ((by decide : ∀ p : Port, inPorts (LPn_ADC_CAL_CTRL_HOLD p).off = true) p)
    ((by decide : ∀ p : Port, portAt (LPn_ADC_CAL_CTRL_HOLD p).off = (p, 0x110)) p), Dev.get_settle]
  have hv := (s.dev.fresh.served t).get_written v.toNat (Fld.reachable_iff.1 hf).2.2.2.2.2 rfl
  have hr := (s.dev.fresh.served t).get_written_ne v.toNat (off := (LPn_ADC_CAL_CTRL_HOLD p).off) (f := LPn_ADC_CAL_STATUS_REHOLD_BLOCK p)
    (show 6 < 32 by decide) ((by decide : ∀ p : Port, (LPn_ADC_CAL_STATUS_REHOLD_BLOCK p).off ≠ (LPn_ADC_CAL_CTRL_HOLD p).off) p)
  rw [Dev.get_served, Dev.get_fresh, hb] at hr
  generalize (s.dev.fresh.served t).written _ _ = w at hv hr ⊢
  show (w.calCtrlWritten p _).get _ = _
  unfold Dev.calCtrlWritten
  rw [← hv]
  split
  · rw [if_neg (by simp [Dev.on, hr]), Dev.holdStart_keeps]
  next hn =>
    rw [Dev.holdEnd_clears]
    have h0 : w.get (LPn_ADC_CAL_CTRL_HOLD p) = 0 := by simpa [Dev.on] using hn
    exact h0.symm

omit h in
theorem Dev.view_eqCtrlWritten (d : Dev) (p : Port) (b : Bool) : (d.eqCtrlWritten p b).view adaptFlds = d.view adaptFlds := by
  unfold Dev.eqCtrlWritten
  dsimp only
  split
  · rfl
  refine (Dev.view_each (fun e x => ?_) bothPairs _).trans (Dev.view_each (fun e x => e.view_modEq p x _ _) bothPairs d)
  simp (disch := decide) [Dev.freezeRefresh]

/-- A write of SW_FREEZE stands. -/
theorem swFreezeWrite_stands : Answers (.swFreezeWrite t p v) s fun d => d.get (LPn_EQ_CTRL_SW_FREEZE p) =
    fieldAfter (LPn_EQ_CTRL_SW_FREEZE p) 0 v.toNat := by
  have hf : (LPn_EQ_CTRL_SW_FREEZE p).reachable = true := by revert p; decide
  refine answers_of_fieldWrite (LPn_EQ_CTRL_SW_FREEZE p) h (rfl : _ = execSwFreezeWrite t p v s) hf ?_
  rw [Dev.regWritten_port (r := 0x200) (p := p) (by revert p; decide) (by revert p; decide), Dev.get_settle]
  exact Dev.get_spared_written (Dev.view_eqCtrlWritten _ p _) (by revert p; decide) hf rfl

omit h in
theorem Dev.view_lullRequest (d : Dev) (p : Port) (l : List Fld) : (d.lullRequest p).view l = d.view l := by
  unfold Dev.lullRequest
  dsimp only
  split
  · exact (Dev.view_modPort ..).trans ((Dev.view_modPort ..).trans rfl)
  · rfl

omit h in
theorem Dev.view_sendWake (d : Dev) (p : Port) (l : List Fld) : (d.sendWake p).view l = d.view l := by
  unfold Dev.sendWake
  exact (Dev.view_modTx ..).trans (Dev.view_each (fun _ _ => Dev.view_modPort ..) _ d)

omit h in
theorem Dev.view_lullWake (d : Dev) (p : Port) : (d.lullWake p).view txFlds = d.view txFlds := by
  unfold Dev.lullWake
  simp (disch := decide) [Dev.view_sendWake]

omit h in
theorem Dev.view_lullWritten (d : Dev) (p : Port) : (d.lullWritten p).view txFlds = d.view txFlds := by
  unfold Dev.lullWritten
  simp (disch := decide) [Dev.view_lullRequest, Dev.view_lullWake]

/-- A write of LULL_EN stands. -/
theorem lullEnClear_stands : Answers (.lullEnClear t p v) s fun d => d.get (LPn_LINK_CTRL_LULL_EN p) =
    fieldAfter (LPn_LINK_CTRL_LULL_EN p) 0 v.toNat := by
  have hf : (LPn_LINK_CTRL_LULL_EN p).reachable = true := by revert p; decide
  refine answers_of_fieldWrite (LPn_LINK_CTRL_LULL_EN p) h (rfl : _ = execLullEnClear t p v s) hf ?_
  rw [Dev.regWritten_port (r := 0x000) (p := p) (by revert p; decide) (by revert p; decide), Dev.get_settle]
  exact Dev.get_spared_written (Dev.view_lullWritten _ p) (by revert p; decide) hf rfl

/-- A write of CLEAR leaves each counter of the port at 0 (07 R267). -/
theorem fecCounterClear_clears (hc : bitOf v.toNat 31 = true) : Answers (.fecCounterClear t p v) s fun d =>
    (d.prt p).fec.ctr = Vector.replicate 64 0 := by
  have hf : (LPn_FEC_SEL_CLEAR p).reachable = true := by revert p; decide
  refine answers_of_fieldWrite (LPn_FEC_SEL_CLEAR p) h (rfl : _ = execFecCounterClear t p v s) hf ?_
  rw [Dev.regWritten_port (r := 0x50C) (p := p) (by revert p; decide) (by revert p; decide)]
  generalize (s.dev.fresh.served t).written _ _ = w
  show (Dev.prt (Dev.settle (w.iff (bitOf v.toNat 31) _) _) p).fec.ctr = _
  rw [hc, Dev.iff_true]
  simp

end

/-! ## Registers of a lane -/

section
variable {l : Lane} {v : BitVec 32}

section
variable {a b : Dev} {off n : Nat} (hp : inPorts off = false) (hl : inLanes off = true)
include hp hl

theorem Dev.regWritten_laneCtrl (ha : laneAt off = (l, 0)) :
    a.regWritten b off n = a.laneCtrlWritten l (b.on (HLn_CTRL_RX_FREEZE l)) := by
  unfold Dev.regWritten
  rw [if_neg (by simp [hp]), if_pos hl, ha]
  rfl

theorem Dev.regWritten_laneTaps {r : Nat} (ha : laneAt off = (l, r)) (hr : r = 4 ∨ r = 8) : a.regWritten b off n = a.txTapWritten l := by
  unfold Dev.regWritten
  rw [if_neg (by simp [hp]), if_pos hl, ha]
  rcases hr with rfl | rfl <;> rfl
end

theorem Dev.lane_settle (d : Dev) (m : Mem) : (d.settle m).lane = d.lane := rfl

/-- RX_FREEZE from 0 to 1 freezes the equaliser, and keeps the SNR of that moment (10 R362). -/
theorem Dev.laneCtrlWritten_freezes {d : Dev} (hf : d.get (HLn_CTRL_RX_FREEZE l) = 1) :
    ((d.laneCtrlWritten l false).lane.get l).frozen = true ∧
      ((d.laneCtrlWritten l false).lane.get l).freezeSnr = d.get (HLn_STATUS_RX_SNR l) := by
  have hk (e : Dev) : ((e.laneRefresh l).lane.get l).frozen = (e.lane.get l).frozen ∧
      ((e.laneRefresh l).lane.get l).freezeSnr = (e.lane.get l).freezeSnr := by
    have h := e.kept_laneRefresh l l
    exact ⟨(congrArg HLane.frozen h :), (congrArg HLane.freezeSnr h :)⟩
  have ha : ((d.iff (d.laneFree l) fun s => (s.useTxMode l).useRxMode l).laneView ctrlFlds = d.laneView ctrlFlds) := by
    simp (disch := decide) [Dev.useTxMode, Dev.useRxMode]
  unfold Dev.laneCtrlWritten
  generalize d.iff _ _ = a at ha ⊢
  have hb : (a.iff (a.on (HLn_CTRL_CTLE_MAN l)) fun s => (s.set (HLn_STATUS_CTLE_USED l) (s.get (HLn_CTRL_CTLE_CODE l))).modLane l
      fun h => { h with sweep := none }).laneView ctrlFlds = a.laneView ctrlFlds := by
    simp (disch := decide)
  dsimp only
  generalize a.iff _ _ = b at hb ⊢
  have hz := Dev.get_of_laneView (hb.trans ha) ((by decide : ∀ l : Lane, (HLn_CTRL_RX_FREEZE l).laneSpared ctrlFlds = true) l)
  have hs := Dev.get_of_laneView (hb.trans ha) ((by decide : ∀ l : Lane, (HLn_STATUS_RX_SNR l).laneSpared ctrlFlds = true) l)
  rw [hf] at hz
  rw [(hk _).1, (hk _).2]
  simp [Dev.on, Dev.iff, hz, hs]

section
variable (h : s.dev.Serving t)
include h

theorem rxFreezeWrite_freezes (h0 : s.dev.get (HLn_CTRL_RX_FREEZE l) = 0) (h1 : fieldAfter (HLn_CTRL_RX_FREEZE l) 0 v.toNat = 1) :
    Answers (.rxFreezeWrite t l v) s fun d => (d.lane.get l).frozen = true ∧ (d.lane.get l).freezeSnr = s.dev.get (HLn_STATUS_RX_SNR l) := by
  have hf := (by decide : ∀ l : Lane, (HLn_CTRL_RX_FREEZE l).reachable = true) l
  refine answers_of_fieldWrite (HLn_CTRL_RX_FREEZE l) h (rfl : _ = execRxFreezeWrite t l v s) hf ?_
  rw [Dev.regWritten_laneCtrl (l := l) ((by decide : ∀ l : Lane, inPorts (HLn_CTRL_RX_FREEZE l).off = false) l)
    ((by decide : ∀ l : Lane, inLanes (HLn_CTRL_RX_FREEZE l).off = true) l)
    ((by decide : ∀ l : Lane, laneAt (HLn_CTRL_RX_FREEZE l).off = (l, 0)) l)]
  have hv := (s.dev.fresh.served t).get_written v.toNat (Fld.reachable_iff.1 hf).2.2.2.2.2 rfl
  have hs := (s.dev.fresh.served t).get_written_ne v.toNat (off := (HLn_CTRL_RX_FREEZE l).off) (f := HLn_STATUS_RX_SNR l)
    ((by decide : ∀ l : Lane, (HLn_STATUS_RX_SNR l).lsb < 32) l)
    ((by decide : ∀ l : Lane, (HLn_STATUS_RX_SNR l).off ≠ (HLn_CTRL_RX_FREEZE l).off) l)
  have hon : (s.dev.fresh.served t).on (HLn_CTRL_RX_FREEZE l) = false := by
    simp [Dev.on, Dev.get_served, h0]
  rw [Dev.get_served, Dev.get_fresh] at hs
  rw [hon]
  generalize (s.dev.fresh.served t).written _ _ = w at hv hs ⊢
  have hw := Dev.laneCtrlWritten_freezes (d := w) (l := l) (hv.trans h1)
  rw [Dev.lane_settle, ← hs]
  exact hw

omit h in
theorem Dev.laneTapSet_txTapWritten (d : Dev) (l : Lane) : (d.txTapWritten l).laneTapSet l = d.laneTapSet l := by
  unfold Dev.txTapWritten
  dsimp only
  split <;> simp (disch := decide) [Dev.laneTapSet, Dev.geti]

/-- A written tap of a lane stands, and a set within the limits is put in use (10 R363). -/
theorem hostTxTapWrite_takes {f : Fld} {r : Nat} {c : Instr} (hc : exec c s = run s fun d => d.busWrite t f.off v.toNat)
    (hf : f.reachable = true ∧ f.acc = .rw ∧ f.key ≠ (HLn_TX_POST_TAP_BAD l).key)
    (ho : inPorts f.off = false ∧ inLanes f.off = true ∧ laneAt f.off = (l, r)) (hr : r = 4 ∨ r = 8) :
    Answers c s fun d => d.get f = fieldAfter f 0 v.toNat ∧ d.get (HLn_TX_POST_TAP_BAD l) = bnat (!laneTapsValid (d.laneTapSet l)) ∧
      (d.lane.get l).taps = if laneTapsValid (d.laneTapSet l) then d.laneTapSet l else (s.dev.lane.get l).taps := by
  obtain ⟨hf, ha, hk⟩ := hf
  obtain ⟨hp, hl, ho⟩ := ho
  refine answers_of_fieldWrite f h hc hf ?_
  rw [Dev.regWritten_laneTaps hp hl ho hr]
  have hv := (s.dev.fresh.served t).get_written v.toNat (Fld.reachable_iff.1 hf).2.2.2.2.2 ha
  have hw : ((s.dev.fresh.served t).written f.off v.toNat).lane = s.dev.lane := by
    refine (congrArg Dev.lane (Dev.written_onlyRegs (s.dev.fresh.served t) f.off v.toNat) :).trans ?_
    cases t <;> rfl
  generalize (s.dev.fresh.served t).written _ _ = w at hv hw ⊢
  rw [show ((w.txTapWritten l).settle s.dev.mem).laneTapSet l = w.laneTapSet l from Dev.laneTapSet_txTapWritten w l, ← hv, ← hw]
  unfold Dev.txTapWritten
  dsimp only
  split
  next hg => refine ⟨?_, ?_, ?_⟩ <;> simp [hg, Dev.get_set_ne _ _ hk.symm]
  next hg => refine ⟨?_, ?_, ?_⟩ <;> simp (disch := decide) [hg, Dev.get_set_ne _ _ hk.symm]

end
end
end
end Sys2Proof.Machine

/-! Register accesses with a row of their own, of the auxiliary DAC, the check engine, the power sequencer, the admin rings
and the recorder's window (11 R379, 13 R452, 15 R528, 16 R535, 18 R586). -/

namespace Sys2Proof.Machine

-- One theorem at a time: side by side they ask for more memory than a check may have.
set_option Elab.async false

open Reg

section
variable {s : State} {t : Transport} {v : BitVec 32}

/-! ## Auxiliary DAC -/

theorem Dev.regWritten_auxClear {a b : Dev} {c : AuxCh} {off n : Nat} (hp : inPorts off = false) (hl : inLanes off = false)
    (hx : 0xA100 ≤ off ∧ off < 0xA280) (hc : Fin.ofNat 24 ((off - 0xA100) / 0x10) = c) (hr : (off - 0xA100) % 0x10 = 0) :
    a.regWritten b off n = a.auxClearWritten c := by
  unfold Dev.regWritten
  rw [if_neg (by simp [hp]), if_neg (by simp [hl]), if_pos hx]
  dsimp only
  generalize off - 0xA100 = k at hc hr ⊢
  rw [hr, hc]
  rfl

/-- While a channel is cleared, its new clear code is its output (11 R379). -/
theorem auxClearWrite_moves {c : AuxCh} (h : s.dev.Serving t) (hc : s.dev.get (AUX_CHm_STATUS_CLEARED c) = 1) :
    Answers (.auxClearWrite t c v) s fun d => d.get (AUX_CHm_CLEAR_CLEAR c) = v.toNat % 2 ^ 14 ∧
      d.get (AUX_CHm_STATUS_CODE c) = v.toNat % 2 ^ 14 := by
  have hf := (by decide : ∀ c : AuxCh, (AUX_CHm_CLEAR_CLEAR c).reachable = true) c
  refine answers_of_fieldWrite (AUX_CHm_CLEAR_CLEAR c) h (rfl : _ = execAuxClearWrite t c v s) hf ?_
  rw [Dev.regWritten_auxClear (c := c) ((by decide : ∀ c : AuxCh, inPorts (AUX_CHm_CLEAR_CLEAR c).off = false) c)
    ((by decide : ∀ c : AuxCh, inLanes (AUX_CHm_CLEAR_CLEAR c).off = false) c)
    ((by decide : ∀ c : AuxCh, 0xA100 ≤ (AUX_CHm_CLEAR_CLEAR c).off ∧ (AUX_CHm_CLEAR_CLEAR c).off < 0xA280) c)
    ((by decide : ∀ c : AuxCh, Fin.ofNat 24 (((AUX_CHm_CLEAR_CLEAR c).off - 0xA100) / 0x10) = c) c)
    ((by decide : ∀ c : AuxCh, ((AUX_CHm_CLEAR_CLEAR c).off - 0xA100) % 0x10 = 0) c)]
  have hv := (s.dev.fresh.served t).get_written v.toNat (Fld.reachable_iff.1 hf).2.2.2.2.2 rfl
  have hs := (s.dev.fresh.served t).get_written_ne v.toNat (off := (AUX_CHm_CLEAR_CLEAR c).off) (f := AUX_CHm_STATUS_CLEARED c)
    (show 2 < 32 by decide) ((by decide : ∀ c : AuxCh, (AUX_CHm_STATUS_CLEARED c).off ≠ (AUX_CHm_CLEAR_CLEAR c).off) c)
  have ha : fieldAfter (AUX_CHm_CLEAR_CLEAR c) 0 v.toNat = v.toNat % 2 ^ 14 := by
    show v.toNat / 2 ^ 0 % 2 ^ 14 = _
    rw [pow_zero, Nat.div_one]
  rw [Dev.get_served, Dev.get_fresh, hc] at hs
  rw [ha] at hv
  generalize (s.dev.fresh.served t).written _ _ = w at hv hs ⊢
  have hw : (AUX_CHm_STATUS_CODE c).width = 14 := rfl
  unfold Dev.auxClearWritten
  rw [Dev.on, hs, show (1 != 0) = true from rfl, Dev.iff_true]
  simp (disch := decide) [Dev.auxToClear, Dev.auxRefresh, Dev.auxClearCode, Dev.putBit_eq, hv, hw]

/-! ## Check engine -/

/-- The high half of VALUE commits both halves (15 R528). -/
theorem chkValueCommit_commits {k : Chan} (h : s.dev.Serving t) (hb : s.dev.ckBusy k = false) :
    Answers (.chkValueCommit t k v) s fun d => (d.chk.ch.get k).value = BitVec.ofNat 64 (2 ^ 32 * v.toNat +
      (s.dev.chk.loHeld.get k).toNat) ∧ (d.chk.ch.get k).started = true := by
  refine answers_of_run (rfl : _ = execChkValueCommit t k v s) ?_
  have hc := (by decide : ∀ k : Chan, inChans (CHK_CKn_VALUE_HI_VALUE k).off = true ∧ chanAt (CHK_CKn_VALUE_HI_VALUE k).off = (k, 0x20)) k
  obtain ⟨hi, hc⟩ := hc
  have hl := (by decide : ∀ k : Chan, (CHK_CKn_VALUE_HI_VALUE k).off % 4 = 0 ∧ (CHK_CKn_VALUE_HI_VALUE k).off < 0x10000 ∧
    isHearth (CHK_CKn_VALUE_HI_VALUE k).off = false ∧ ¬ (0x800 ≤ (CHK_CKn_VALUE_HI_VALUE k).off ∧ (CHK_CKn_VALUE_HI_VALUE k).off < 0xE00)) k
  obtain ⟨h4, hl, hh, hm⟩ := hl
  rw [Dev.busWrite_serving (s := s.dev.fresh) h h4 hl hh hm, Nat.mod_eq_of_lt v.isLt]
  have hk : (s.dev.fresh.served t).chk = s.dev.chk := by cases t <;> rfl
  have hb' : (s.dev.fresh.served t).ckBusy k = false := by
    cases t <;> exact hb
  generalize s.dev.fresh.served t = u at hk hb' ⊢
  unfold Dev.writeReg Dev.chkWrite
  rw [if_pos ⟨hi, by rw [hc]; exact .inr rfl⟩, hc]
  dsimp only
  rw [if_neg (by decide), if_neg (by simp [hb']), hk]
  generalize BitVec.ofNat 64 _ = n
  have hm : ((u.modChk fun c => { c with ch := vmod c.ch k fun i => { i with value := n, started := true } }).settle s.dev.mem).chk.ch.get k =
      { u.chk.ch.get k with value := n, started := true } := vmod_same ..
  rw [hm]
  exact ⟨rfl, rfl⟩

/-! ## A wake by WAKE_REQ -/

/-- A write of WAKE_REQ sets going the wake that it asks for (16 R535). -/
theorem Dev.writeReg_wakeReq {u : Dev} {n : Nat} (hb : bitOf n PWR_STATE_WAKE_REQ.lsb = true) (he : u.get PWR_WAKE_EN_SER_EN = 1) :
    u.writeReg 0x1000 n = (u.written 0x1000 n).wakeSource 3 0 := by
  have hs : (u.written 0x1000 n).get PWR_WAKE_EN_SER_EN = 1 := (u.get_written_ne n (by decide) (by decide)).trans he
  unfold Dev.writeReg
  rw [if_neg (by decide), if_neg (by decide)]
  show (u.written 0x1000 n).regWritten u 0x1000 n = _
  generalize u.written 0x1000 n = w at hs ⊢
  unfold Dev.regWritten
  rw [if_neg (by decide), if_neg (by decide), if_neg (by decide)]
  show w.iff (bitOf n PWR_STATE_WAKE_REQ.lsb && w.on PWR_WAKE_EN_SER_EN) (·.wakeSource 3 0) = _
  rw [hb, Dev.on, hs]
  rfl

/-- What a hearth write of four bytes over SPI or MDIO does. -/
theorem Dev.serialWrites_wakeReq {u : Dev} {n : Nat} (he : u.enabled t = true) :
    u.serialWrites t (writesOf t 0x1000 (bytesOf 4 n)) = u.writeReg 0x1000 (n % 2 ^ 32) := by
  have e4 : ofBytes (bytesOf 4 n) = n % 2 ^ 32 := ofBytes_bytesOf 4 n
  have hw : u.writeArrives ⟨t, 0x1000, bytesOf 4 n⟩ = u.writeReg 0x1000 (n % 2 ^ 32) := by
    unfold Dev.writeArrives
    rw [if_pos (show isHearth 0x1000 = true by decide)]
    unfold Dev.writeActs
    rw [if_pos (show 0x1000 < 0x10000 by decide), e4]
  rw [writesOf_register t (by decide) (by decide), Dev.serialWrites, he]
  exact hw

theorem Dev.wakeSource_awake {u : Dev} (h : u.get PWR_STATE_STATE = 3) (code port : Nat) : u.wakeSource code port = u := by
  simp [Dev.wakeSource, h]

/-- The device wakes by the serial wake source. -/
def Dev.WakesSerial (d : Dev) : Prop := d.get PWR_STATE_STATE = 3 ∧ d.get PWR_STATE_WAKE_STEP = 1 ∧ d.get PWR_STATE_LAST_WAKE = 3

theorem Dev.get_written_ro (u : Dev) (n : Nat) {off : Nat} {f : Fld} (hf : f ∈ fieldsAt off) (ha : f.acc = .ro) :
    (u.written off n).get f = u.get f := by
  refine (Dev.writeFields_at u n _ hf).trans ?_
  unfold fieldAfter
  rw [ha]

theorem Dev.pwr_written (u : Dev) (off n : Nat) : (u.written off n).pwr = u.pwr :=
  (congrArg Dev.pwr (Dev.written_onlyRegs u off n) :)

theorem Dev.wakeSource_wakes {u : Dev} (hp : u.get PWR_STATE_STATE = 2) (h0 : u.pwr.entry = 0) : (u.wakeSource 3 0).WakesSerial := by
  obtain ⟨h1, h2, h3, -⟩ := Dev.wakeSource_begins hp h0 (code := 3) (port := 0) (by decide) (by decide)
  exact ⟨h1, h2, h3⟩

section
variable {u : Dev} {n : Nat} (hb : bitOf n PWR_STATE_WAKE_REQ.lsb = true) (he : u.get PWR_WAKE_EN_SER_EN = 1)
include hb he

/-- In RETAIN, outside an entry, a write of 1 to WAKE_REQ wakes the device. -/
theorem Dev.writeReg_wakes (hp : u.get PWR_STATE_STATE = 2) (h0 : u.pwr.entry = 0) : (u.writeReg 0x1000 n).WakesSerial := by
  rw [Dev.writeReg_wakeReq hb he]
  exact Dev.wakeSource_wakes ((u.get_written_ro n (by decide) rfl).trans hp) ((congrArg Pwr.entry (u.pwr_written _ n)).trans h0)

/-- Once the access itself has woken the device, its write changes nothing. -/
theorem Dev.writeReg_wakeReq_awake (hw : u.WakesSerial) : (u.writeReg 0x1000 n).WakesSerial := by
  obtain ⟨h1, h2, h3⟩ := hw
  have h1' := (u.get_written_ro n (off := 0x1000) (by decide) rfl).trans h1
  rw [Dev.writeReg_wakeReq hb he, Dev.wakeSource_awake h1']
  exact ⟨h1', (u.get_written_ro n (by decide) rfl).trans h2, (u.get_written_ro n (by decide) rfl).trans h3⟩

end

/-- A serial frame in RETAIN wakes the device, and leaves the enables as they are. -/
theorem Dev.serialFrame_wakes {u : Dev} (hp : u.get PWR_STATE_STATE = 2) (h0 : u.pwr.entry = 0) (he : u.get PWR_WAKE_EN_SER_EN = 1) :
    u.serialFrame.WakesSerial ∧ u.serialFrame.get PWR_WAKE_EN_SER_EN = 1 ∧ u.serialFrame.enabled .mdio = u.enabled .mdio := by
  have hf : u.serialFrame = (u.served .spi).wakeSource 3 0 := by
    have hp' : (u.modPwr fun w => { w with linger := true, serialWaived := false }).get PWR_STATE_STATE = 2 := hp
    have he' : (u.modPwr fun w => { w with linger := true, serialWaived := false }).get PWR_WAKE_EN_SER_EN = 1 := he
    unfold Dev.serialFrame Dev.powerSync
    dsimp only
    rw [if_neg (fun h => absurd (hp'.symm.trans h.1) (by decide)), hp', Dev.on, he']
    rfl
  have hw : (u.served .spi).wakeSource 3 0 = (u.served .spi).wakeBegin 3 0 := by
    have hp' : (u.served .spi).get PWR_STATE_STATE = 2 := hp
    unfold Dev.wakeSource
    rw [hp', if_pos (show (u.served .spi).pwr.entry = 0 from h0)]
    exact if_neg (fun h => absurd h.1 (by decide))
  refine ⟨hf ▸ Dev.wakeSource_wakes (u := u.served .spi) hp h0, ?_, ?_⟩
  · rw [hf, hw]
    unfold Dev.wakeBegin
    simp (disch := decide)
    exact he
  · rw [hf, hw]
    unfold Dev.wakeBegin
    simp (disch := decide) [Dev.enabled, Dev.on]
    rfl

theorem wakeReqWrite_wakes (hc : s.dev.sys.core ≠ .off) (hb : s.dev.get GLB_BOOT_STATUS_BOOT_DONE = 1) (he : s.dev.enabled t = true)
    (hp : s.dev.get PWR_STATE_STATE = 2) (h0 : s.dev.pwr.entry = 0) (hs : s.dev.get PWR_WAKE_EN_SER_EN = 1)
    (hv : bitOf v.toNat PWR_STATE_WAKE_REQ.lsb = true) :
    Answers (.wakeReqWrite t v) s fun d => d.get PWR_STATE_STATE = 3 ∧ d.get PWR_STATE_WAKE_STEP = 1 ∧ d.get PWR_STATE_LAST_WAKE = 3 := by
  refine answers_of_run (rfl : _ = execWakeReqWrite t v s) ?_
  have hd : s.dev.fresh.deaf = false := by simpa [Dev.deaf] using hc
  have hbo : s.dev.fresh.booted = true := by simp [Dev.booted, hb]
  have hw := Dev.writeReg_wakes (u := s.dev.fresh) hv hs hp h0
  have hset (d : Dev) (m : Mem) (h : d.WakesSerial) : (d.settle m).WakesSerial := h
  refine hset _ _ ?_
  show (s.dev.fresh.busWrite t 0x1000 v.toNat).WakesSerial
  cases t with
  | pcie =>
    have harr : s.dev.fresh.busWrite .pcie 0x1000 v.toNat = s.dev.fresh.writeReg 0x1000 v.toNat := by
      show s.dev.fresh.pcieArrives _ = _
      have he' : s.dev.fresh.enabled .pcie = true := he
      unfold Dev.pcieArrives
      rw [if_neg (by simp [hd, hbo]), if_pos ?_]
      swap
      · exact (by decide : (!decide (65536 ≤ 4096) && isHearth (0x1000 : BitVec 16).toNat) = true)
      unfold Dev.pcieServe
      dsimp only
      rw [if_neg (by simp [he']), if_neg (by decide), if_neg (by decide), BitVec.ofNat_toNat, BitVec.setWidth_eq]
      rfl
    rw [harr]
    exact hw
  | spi =>
    have harr : s.dev.fresh.busWrite .spi 0x1000 v.toNat = s.dev.fresh.writeReg 0x1000 v.toNat := by
      show s.dev.fresh.spiWrite 0x1000 _ = _
      unfold Dev.spiWrite Dev.spiFrame
      rw [if_neg (by simp [hd]), length_bytesOf, show (!hearthSpan 0x1000 4) = false from rfl, Dev.iff_false]
      refine (Dev.serialWrites_wakeReq (u := s.dev.fresh) (t := .spi) he).trans ?_
      rw [Nat.mod_eq_of_lt v.isLt]
    rw [harr]
    exact hw
  | mdio =>
    obtain ⟨h1, h2, h3⟩ := Dev.serialFrame_wakes (u := s.dev.fresh) hp h0 hs
    have harr : s.dev.fresh.busWrite .mdio 0x1000 v.toNat = s.dev.fresh.serialFrame.writeReg 0x1000 v.toNat := by
      show s.dev.fresh.mdioFrame _ = _
      unfold Dev.mdioFrame
      rw [if_neg (by simp [hd])]
      refine (Dev.serialWrites_wakeReq (u := s.dev.fresh.serialFrame) (t := .mdio) (h3.trans he)).trans ?_
      rw [Nat.mod_eq_of_lt v.isLt]
    rw [harr]
    exact Dev.writeReg_wakeReq_awake hv h2 h1

/-! ## Rings 0 and 1 -/

theorem Dev.adminFault_none {d : Dev} {sq cq n m k : Nat} {b : Bool} (hn : 4 ≤ n ∧ n ≤ 16) (hm : 4 ≤ m ∧ m ≤ 16)
    (ho : d.get GLB_TRANSPORT_BOOT = 0) (hb : sq % 64 = 0 ∧ cq % 64 = 0) : d.adminFault (sq, cq, n, m, b, k) = 0 := by
  unfold Dev.adminFault
  dsimp only
  rw [if_neg (by omega), if_neg (by omega), if_neg (by simp [ho])]

/-- The admin pair's rings: a submission ring that completes to the other. -/
def Dev.AdminPair (d : Dev) : Prop :=
  (d.ring 0).live = true ∧ (d.ring 0).typ = 0 ∧ (d.ring 0).cq = 1 ∧ (d.ring 1).live = true ∧ (d.ring 1).typ = 1

theorem Dev.adminRings_pair (d : Dev) {sq cq n m k : Nat} {b : Bool} (hn : 4 ≤ n) (hm : 4 ≤ m) :
    (d.adminRings (sq, cq, n, m, b, k)).AdminPair := by
  unfold Dev.adminRings Dev.AdminPair
  dsimp only
  rw [Dev.ring_setRing_ne _ _ (by decide : 1 ≠ 0), Dev.ring_setRing_self, Dev.ring_setRing_self]
  refine ⟨?_, rfl, rfl, ?_, rfl⟩ <;> simp [RingCtx.live] <;> omega

section
variable {d : Dev} (he : d.get GLB_ADMIN_CTRL_ENABLE = 1)
  (hn : 4 ≤ d.get GLB_ADMIN_CTRL_SQ_LOG2 ∧ d.get GLB_ADMIN_CTRL_SQ_LOG2 ≤ 16)
  (hm : 4 ≤ d.get GLB_ADMIN_CTRL_CQ_LOG2 ∧ d.get GLB_ADMIN_CTRL_CQ_LOG2 ≤ 16)
  (ho : d.get GLB_TRANSPORT_BOOT = 0) (hb : d.get GLB_ADMIN_SQ_LO_BASE % 64 = 0 ∧ d.get GLB_ADMIN_CQ_LO_BASE % 64 = 0)
include he hn hm ho hb

/-- With settings that pass their checks, enabling the admin pair makes its rings and says READY. -/
theorem Dev.adminWritten_eq : ∃ (e : Dev) (g : Vector (Option EvTarget) 3), e.AdminPair ∧
    d.adminWritten false = { ((e.set GLB_ADMIN_STATUS_FAULT 0).flag GLB_ADMIN_STATUS_READY true) with target := g } := by
  obtain ⟨hb1, hb2⟩ := hb
  have ho' (a : Option (Nat × Nat × Nat × Nat × Bool × Nat)) : ({ d with admin := a } : Dev).get GLB_TRANSPORT_BOOT = 0 := ho
  unfold Dev.adminWritten
  rw [Dev.on, he]
  dsimp only
  rw [if_pos (by decide), Dev.adminFault_none hn hm (ho' _) ⟨by omega, by omega⟩]
  exact ⟨_, _, Dev.adminRings_pair _ hn.1 hm.1, rfl⟩

/-- Enabling the admin pair with settings that pass their checks makes rings 0 and 1 (13 R452). -/
theorem Dev.adminWritten_makes :
    (d.adminWritten false).get GLB_ADMIN_STATUS_READY = 1 ∧ (d.adminWritten false).get GLB_ADMIN_STATUS_FAULT = 0 ∧
    (d.adminWritten false).AdminPair := by
  obtain ⟨e, g, hp, hd⟩ := Dev.adminWritten_eq he hn hm ho hb
  have hg (f : Fld) : ({ ((e.set GLB_ADMIN_STATUS_FAULT 0).flag GLB_ADMIN_STATUS_READY true) with target := g } : Dev).get f =
    ((e.set GLB_ADMIN_STATUS_FAULT 0).flag GLB_ADMIN_STATUS_READY true).get f := rfl
  rw [hd, hg, hg]
  refine ⟨?_, ?_, hp⟩ <;> simp (disch := decide)

end

theorem adminEnable_enables (h : s.dev.Serving t) (h0 : s.dev.get GLB_ADMIN_CTRL_ENABLE = 0)
    (h1 : fieldAfter GLB_ADMIN_CTRL_ENABLE 0 v.toNat = 1)
    (hl : 4 ≤ fieldAfter GLB_ADMIN_CTRL_SQ_LOG2 0 v.toNat ∧ fieldAfter GLB_ADMIN_CTRL_SQ_LOG2 0 v.toNat ≤ 16 ∧
      4 ≤ fieldAfter GLB_ADMIN_CTRL_CQ_LOG2 0 v.toNat ∧ fieldAfter GLB_ADMIN_CTRL_CQ_LOG2 0 v.toNat ≤ 16)
    (ho : s.dev.get GLB_TRANSPORT_BOOT = 0) (hb : s.dev.get GLB_ADMIN_SQ_LO_BASE % 64 = 0 ∧ s.dev.get GLB_ADMIN_CQ_LO_BASE % 64 = 0) :
    Answers (.adminEnable t v) s fun d => d.get GLB_ADMIN_STATUS_READY = 1 ∧ d.get GLB_ADMIN_STATUS_FAULT = 0 ∧ (d.ring
      0).live = true ∧ (d.ring 0).typ = 0 ∧ (d.ring 0).cq = 1 ∧ (d.ring 1).live = true ∧ (d.ring 1).typ = 1 := by
  obtain ⟨hn1, hn2, hm1, hm2⟩ := hl
  refine answers_of_fieldWrite GLB_ADMIN_CTRL_ENABLE h (rfl : _ = execAdminEnable t v s) (by decide) ?_
  have hr (w u : Dev) : w.regWritten u GLB_ADMIN_CTRL_ENABLE.off v.toNat = w.adminWritten (u.on GLB_ADMIN_CTRL_ENABLE) := by
    unfold Dev.regWritten
    rw [if_neg (by decide), if_neg (by decide), if_neg (by decide)]
    rfl
  have hon : (s.dev.fresh.served t).on GLB_ADMIN_CTRL_ENABLE = false := by
    simp [Dev.on, Dev.get_served, h0]
  have we := (s.dev.fresh.served t).get_written v.toNat (f := GLB_ADMIN_CTRL_ENABLE) (by decide) rfl
  have wn := (s.dev.fresh.served t).get_written v.toNat (f := GLB_ADMIN_CTRL_SQ_LOG2) (by decide) rfl
  have wm := (s.dev.fresh.served t).get_written v.toNat (f := GLB_ADMIN_CTRL_CQ_LOG2) (by decide) rfl
  have hk (f : Fld) (hf : f.lsb < 32) (hx : f.off ≠ GLB_ADMIN_CTRL_ENABLE.off) :
      ((s.dev.fresh.served t).written GLB_ADMIN_CTRL_ENABLE.off v.toNat).get f = s.dev.get f :=
    (Dev.get_written_ne _ _ hf hx).trans (Dev.get_served _ _ _)
  have wo := hk GLB_TRANSPORT_BOOT (by decide) (by decide)
  have ws := hk GLB_ADMIN_SQ_LO_BASE (by decide) (by decide)
  have wc := hk GLB_ADMIN_CQ_LO_BASE (by decide) (by decide)
  rw [hr, hon]
  change ((s.dev.fresh.served t).written GLB_ADMIN_CTRL_ENABLE.off v.toNat).get _ = _ at wn wm
  generalize (s.dev.fresh.served t).written GLB_ADMIN_CTRL_ENABLE.off v.toNat = w at we wn wm wo ws wc ⊢
  have := Dev.adminWritten_makes (d := w) (we.trans h1) (by omega) (by omega) (wo.trans ho) (by omega)
  generalize w.adminWritten false = d at this ⊢
  exact this

/-! ## The recorder's window -/

theorem evrCursorWrite_moves (h : s.dev.Serving t) (hv : v ≠ 0xFFFFFFFF) :
    Answers (.evrCursorWrite t v) s fun d => d.get EVR_CURSOR_CURSOR = v.toNat := by
  have hf : EVR_CURSOR_CURSOR.reachable = true := by decide
  refine answers_of_fieldWrite EVR_CURSOR_CURSOR h (rfl : _ = execEvrCursorWrite t v s) hf ?_
  have hn : (v.toNat == 0xFFFFFFFF) = false := by
    rw [beq_eq_false_iff_ne]
    exact fun e => hv (BitVec.eq_of_toNat_eq e)
  have hw := (s.dev.fresh.served t).get_written v.toNat (Fld.reachable_iff.1 hf).2.2.2.2.2 rfl
  have ha : fieldAfter EVR_CURSOR_CURSOR 0 v.toNat = v.toNat := by
    show v.toNat / 2 ^ 0 % 2 ^ 32 = _
    rw [pow_zero, Nat.div_one, Nat.mod_eq_of_lt v.isLt]
  rw [ha] at hw
  generalize (s.dev.fresh.served t).written _ _ = w at hw ⊢
  have hr (u : Dev) : w.regWritten u EVR_CURSOR_CURSOR.off v.toNat = w.iff (v.toNat == 0xFFFFFFFF) fun s => s.set EVR_CURSOR_CURSOR s.oldestSeq := by
    unfold Dev.regWritten
    rw [if_neg (by decide), if_neg (by decide), if_neg (by decide)]
    rfl
  rw [hr, hn, Dev.iff_false, Dev.get_settle, hw]

/-- A read of the window's last word moves the cursor on (18 R586). -/
theorem evrWin15Read_moves (h : s.dev.Serving t) :
    Answers (.evrWin15Read t) s fun d => d.get EVR_CURSOR_CURSOR = (s.dev.get EVR_CURSOR_CURSOR + 1) % 2 ^ 32 := by
  refine answers_of_run (rfl : _ = execEvrWin15Read t s) ?_
  rw [Dev.busRead_serving (s := s.dev.fresh) h (by decide) (by decide) (by decide) (by decide)]
  have hg : (s.dev.fresh.served t).get EVR_CURSOR_CURSOR = s.dev.get EVR_CURSOR_CURSOR := Dev.get_served ..
  generalize s.dev.fresh.served t = u at hg ⊢
  have hr : (u.readReg t (EVR_WINk_DATA 15).off).1 = u.evrWindow.1.set EVR_CURSOR_CURSOR (u.evrWindow.1.get EVR_CURSOR_CURSOR + 1) := by
    have hw : u.wideValue (EVR_WINk_DATA 15).off = none := by
      unfold Dev.wideValue
      rw [if_neg (by decide), if_neg (by decide), if_neg (by decide), if_neg (by decide)]
    have hw4 : u.wideValue ((EVR_WINk_DATA 15).off - 4) = none := by
      unfold Dev.wideValue
      rw [if_neg (by decide), if_neg (by decide), if_neg (by decide), if_neg (by decide)]
    unfold Dev.readReg
    rw [hw, hw4]
    dsimp only
    rw [if_neg (by simp), if_pos (by decide), show ((EVR_WINk_DATA 15).off - 0xD040) / 4 = 15 from by decide]
    unfold Dev.evrRead
    dsimp only
    rw [show (15 == 15) = true from rfl, Dev.iff_true]
  have hk : u.evrWindow.1.get EVR_CURSOR_CURSOR = u.get EVR_CURSOR_CURSOR := by
    unfold Dev.evrWindow
    dsimp only
    split
    · simp (disch := decide)
    · split
      · simp (disch := decide)
      split <;> simp (disch := decide)
  show (Dev.settle (Dev.reply (u.readReg t (EVR_WINk_DATA 15).off).1 _) _).get EVR_CURSOR_CURSOR = _
  have hw : EVR_CURSOR_CURSOR.width = 32 := rfl
  have hp (d : Dev) (l : List Byte) : (d.reply l).get EVR_CURSOR_CURSOR = d.get EVR_CURSOR_CURSOR := rfl
  rw [Dev.get_settle, hp, hr, Dev.get_set_self, hw, hk, hg]

end
end Sys2Proof.Machine

/-! Training, its failures, and losses of signal and of block lock (08 R285, R293–R300, 09 Table 9.2). -/

namespace Sys2Proof.Machine

-- One theorem at a time: side by side they ask for more memory than a check may have.
set_option Elab.async false

open Reg

/-! ## A port's acquisition record -/

/-- A port's acquisition and link records, and whether its partner asks for precoding. -/
def Dev.acqPart (s : Dev) (p : Port) : Acq × Link × Bool := ((s.prt p).acq, (s.prt p).link, (s.prt p).tx.precodeReq)

section
variable (s : Dev) (p : Port)

theorem Dev.acqPart_iff {g : Dev → Dev} (h : ∀ s, (g s).acqPart p = s.acqPart p) (b : Bool) : (s.iff b g).acqPart p = s.acqPart p :=
  Dev.iff_keep (π := fun d => d.acqPart p) h b s

theorem Dev.acqPart_lmcQueue (typ : Nat) (l : List Byte) (a u : Bool) : (s.lmcQueue p typ l a u).1.acqPart p = s.acqPart p := by
  simp [Dev.acqPart, Dev.lmcQueue, Dev.lmcFrame]

theorem Dev.acqPart_lmcAccept (typ : Nat) (f : Frame) : (s.lmcAccept p typ f).1.acqPart p = s.acqPart p := by
  have ht (d : Dev) (l : List Byte) : (d.lmcTell p mtAck l).acqPart p = d.acqPart p := by
    unfold Dev.lmcTell
    split
    exacts [d.acqPart_lmcQueue p _ _ _ _, rfl]
  unfold Dev.lmcAccept
  dsimp only
  rw [Dev.acqPart_iff _ _ fun d => ht d _]
  simp [Dev.acqPart]

/-- What the checks of training keep of the acquisition record: what the partner has said. -/
def Acq.heard (a : Acq) : Option LinkParamMsg × Bool × Bool × Option Nat := (a.param, a.compat, a.readyGot, a.atGot)

/-- What a port has heard from its partner in training. -/
def Dev.heard (s : Dev) (p : Port) : (Option LinkParamMsg × Bool × Bool × Option Nat) × Bool := ((s.prt p).acq.heard, (s.prt p).tx.precodeReq)

/-- What the checks of training set going keeps what the partner has said. -/
theorem Dev.heard_skCheck : (s.skCheck p).heard p = s.heard p := by
  unfold Dev.skCheck
  dsimp only
  split
  · simp only [Dev.iff]
    split <;> split <;> simp [Dev.heard, Acq.heard, Dev.lmcQueue, Dev.lmcFrame]
  · rfl

/-- LINK_PARAM of the port leaves the port's mode and its inner code. -/
theorem Dev.link_sendLinkParam : ((s.sendLinkParam p).prt p).link = (s.prt p).link := by
  simp [Dev.sendLinkParam, Dev.lmcQueue, Dev.lmcFrame]

end

/-! ## Messages of training -/

section
variable {s : State} {p : Port} {f : Frame}

section
variable (h : s.dev.inSkellia p = true)
include h

theorem linkParam_keeps {m : LinkParamMsg} (ha : (s.dev.lmcAccept p mtLinkParam f).2 = true) :
    Answers (.linkParam p f m) s fun d => (d.prt p).acq.param = some m ∧ (d.prt p).acq.compat = (decide (m.mode =
      s.dev.mode p) && (s.dev.mode p != 3 || m.inner == (s.dev.prt p).link.inner)) ∧ (d.prt p).tx.precodeReq = m.precode := by
  refine answers_of_run (rfl : _ = execLinkParam p f m s) ?_
  rw [if_pos (show s.dev.fresh.inSkellia p = true from h)]
  dsimp only
  rw [if_pos (show (s.dev.fresh.lmcAccept p mtLinkParam f).2 = true from ha)]
  have hl := congrArg (fun x : Acq × Link × Bool => x.2.1) (s.dev.fresh.acqPart_lmcAccept p mtLinkParam f)
  change ((s.dev.fresh.lmcAccept p mtLinkParam f).1.prt p).link = (s.dev.prt p).link at hl
  generalize (s.dev.fresh.lmcAccept p mtLinkParam f).1 = d at hl ⊢
  have hd : ((if ((d.prt p).acq.leader.isNone && decide (m.nonce = (d.prt p).acq.lpNonce)) = true then
      (d.draw.modAcq p fun a => { a with lpNonce := (Config.nonce16 d.draw.draws).toNat }).iff (d.prt p).acq.acquired (·.sendLinkParam p)
    else d.modAcq p fun a => { a with leader := a.leader.orElse fun _ => some (decide (m.nonce < a.lpNonce)) }).prt p).link =
      (s.dev.prt p).link := by
    rw [← hl]
    split
    · rw [Dev.iff_keep (π := fun d => (d.prt p).link) (fun d => d.link_sendLinkParam p)]
      simp
    · simp
  generalize (if ((d.prt p).acq.leader.isNone && decide (m.nonce = (d.prt p).acq.lpNonce)) = true then _ else _ : Dev) = e at hd ⊢
  have hm : e.mode p = s.dev.mode p := congrArg Link.mode hd
  rw [hm, hd]
  generalize (decide (m.mode = s.dev.mode p) && (s.dev.mode p != 3 || m.inner == (s.dev.prt p).link.inner)) = k
  have hk (w : Dev) (hw : w.heard p = ((some m, k, (e.prt p).acq.readyGot, (e.prt p).acq.atGot), m.precode)) :
      ((w.skCheck p).prt p).acq.param = some m ∧ ((w.skCheck p).prt p).acq.compat = k ∧ ((w.skCheck p).prt p).tx.precodeReq = m.precode := by
    have := (w.heard_skCheck p).trans hw
    simp only [Dev.heard, Acq.heard, Prod.mk.injEq] at this
    obtain ⟨⟨h1, h2, -, -⟩, h3⟩ := this
    exact ⟨h1, h2, h3⟩
  refine hk _ ?_
  simp only [Dev.iff]
  split <;> simp [Dev.heard, Acq.heard]

theorem ready_keeps (n : Nat) (ha : (s.dev.lmcAccept p mtReady f).2 = true) :
    Answers (.ready p f n) s fun d => (d.prt p).acq.readyGot = true := by
  refine answers_of_run (rfl : _ = execReady p f n s) ?_
  rw [if_pos (show s.dev.fresh.inSkellia p = true from h)]
  dsimp only
  rw [if_pos (show (s.dev.fresh.lmcAccept p mtReady f).2 = true from ha)]
  generalize (s.dev.fresh.lmcAccept p mtReady f).1 = d
  have hk := (d.modAcq p fun a => { a with readyGot := true }).heard_skCheck p
  have hr : ((d.modAcq p fun a => { a with readyGot := true }).prt p).acq.readyGot = true := by simp
  generalize d.modAcq p _ = e at hk hr ⊢
  simp only [Dev.heard, Acq.heard, Prod.mk.injEq] at hk
  obtain ⟨⟨-, -, h3, -⟩, -⟩ := hk
  exact h3.trans hr

theorem dataAt_keeps (n : Nat) (ha : (s.dev.lmcAccept p mtDataAt f).2 = true) :
    Answers (.dataAt p f n) s fun d => (d.prt p).acq.atGot = some (max 16 (n % 256)) := by
  refine answers_of_run (rfl : _ = execDataAt p f n s) ?_
  rw [if_pos (show s.dev.fresh.inSkellia p = true from h)]
  dsimp only
  rw [if_pos (show (s.dev.fresh.lmcAccept p mtDataAt f).2 = true from ha)]
  generalize (s.dev.fresh.lmcAccept p mtDataAt f).1 = d
  simp

/-! ## The switch to data -/

omit h in
theorem Dev.bases_detRefresh (d : Dev) (p : Port) (b : Bool) : (d.detRefresh p b).bases = d.bases := by
  simp [Dev.detRefresh, Dev.each_pairs, Dev.putTaps, -Dev.modEq_eq]

omit h in
theorem Dev.acqPart_of_bases {a b : Dev} (h : a.bases = b.bases) (p : Port) : (a.prt p).acq = (b.prt p).acq ∧
    (a.prt p).tx.precodeReq = (b.prt p).tx.precodeReq :=
  ⟨(congrArg PortSt.acq (Dev.base_prt h p) :), (congrArg (fun q : PortSt => q.tx.precodeReq) (Dev.base_prt h p) :)⟩

omit h in
/-- The receiver's switch starts its chain, and leaves the acquisition record. -/
theorem Dev.rxToData_starts (d : Dev) (p : Port) : ((d.rxToData p).prt p).fec.chain = true ∧ ((d.rxToData p).prt p).acq = (d.prt p).acq ∧
    ((d.rxToData p).prt p).tx.precodeReq = (d.prt p).tx.precodeReq := by
  unfold Dev.rxToData
  dsimp only
  have hb := Dev.acqPart_of_bases (Dev.bases_detRefresh (d.flag (LPn_EQ_STATUS_PRECODE p) (d.prt p).acq.askedPrecode) p true) p
  have h1 : (((d.flag (LPn_EQ_STATUS_PRECODE p) (d.prt p).acq.askedPrecode).detRefresh p true).prt p).acq = (d.prt p).acq := hb.1
  have h2 : (((d.flag (LPn_EQ_STATUS_PRECODE p) (d.prt p).acq.askedPrecode).detRefresh p true).prt p).tx.precodeReq = (d.prt p).tx.precodeReq := hb.2
  generalize (d.flag (LPn_EQ_STATUS_PRECODE p) _).detRefresh p true = e at h1 h2 ⊢
  have hc : ((e.chainStart p).prt p).fec.chain = true ∧ ((e.chainStart p).prt p).acq = (e.prt p).acq ∧
      ((e.chainStart p).prt p).tx.precodeReq = (e.prt p).tx.precodeReq := by
    unfold Dev.chainStart
    dsimp only
    generalize List.replicate 2 (List.replicate 2048 (31 : Int)) = r
    simp [Dev.each_pairs]
  exact ⟨hc.1, hc.2.1.trans h1, hc.2.2.trans h2⟩

theorem dataSwitch_rx (hg : (s.dev.prt p).acq.atGot.isSome = true) (hr : (s.dev.prt p).acq.rxSwitched = false)
    (ht : (s.dev.prt p).acq.txSwitched = false) :
    Answers (.dataSwitch p .rx) s fun d => (d.prt p).acq.rxSwitched = true ∧ (d.prt p).fec.chain = true := by
  refine answers_of_run (rfl : _ = execDataSwitch p .rx s) ?_
  rw [if_pos (show s.dev.fresh.inSkellia p = true from h)]
  dsimp only
  have hc : ((s.dev.fresh.prt p).acq.atGot.isSome && !(s.dev.fresh.prt p).acq.rxSwitched) = true := by simp [hg, hr]
  rw [if_pos hc]
  obtain ⟨h1, h2, -⟩ := s.dev.fresh.rxToData_starts p
  have h3 := (congrArg Acq.txSwitched h2).trans ht
  generalize s.dev.fresh.rxToData p = d at h1 h3 ⊢
  rw [if_neg (by simp [h3])]
  simp [h1]

theorem dataSwitch_tx (hg : (s.dev.prt p).acq.atSent.isSome = true) (hr : (s.dev.prt p).acq.rxSwitched = true)
    (ht : (s.dev.prt p).acq.txSwitched = false) :
    Answers (.dataSwitch p .tx) s fun d => d.acqState p = 7 ∧ d.linkState p = 4 := by
  refine answers_of_run (rfl : _ = execDataSwitch p .tx s) ?_
  rw [if_pos (show s.dev.fresh.inSkellia p = true from h)]
  dsimp only
  have hc : ((s.dev.fresh.prt p).acq.atSent.isSome && !(s.dev.fresh.prt p).acq.txSwitched) = true := by simp [hg, ht]
  rw [if_pos hc]
  have ha : ((s.dev.fresh.txToData p).prt p).acq = (s.dev.prt p).acq := by simp [Dev.txToData, Dev.txChainStart]
  generalize s.dev.fresh.txToData p = d at ha ⊢
  have hb := (Dev.txRefresh_sameRests (d.modAcq p fun a => { a with txSwitched := true }) p false).2.2.2.2.2.2.1 p
  have hx : (((d.modAcq p fun a => { a with txSwitched := true }).txRefresh p).prt p).acq = { (s.dev.prt p).acq with txSwitched := true } := by
    rw [hb]
    simp [ha]
  rw [hx, if_pos (by simp [hr])]
  generalize (d.modAcq p _).txRefresh p = e
  simp

end

theorem ieeeTrainingEnd_up (k : Bool) (h5 : s.dev.acqState p = 5) (hk : s.dev.get (LPn_ACQ_STATUS_TRAIN_SK p) = 0) :
    Answers (.ieeeTrainingEnd p true k) s fun d => d.acqState p = 7 ∧ d.linkState p = 4 ∧ (d.prt p).tx.precodeReq = k := by
  refine answers_of_run (rfl : _ = execIeeeTrainingEnd p true k s) ?_
  rw [if_pos ⟨h5, by simp [Dev.on, hk]⟩, if_pos rfl]
  have ht : (((s.dev.fresh.modTx p fun t => { t with precodeReq := k }).txToData p).prt p).tx.precodeReq = k := by
    simp [Dev.txToData, Dev.txChainStart]
  unfold Dev.straightToData
  generalize (s.dev.fresh.modTx p _).txToData p = d at ht ⊢
  obtain ⟨-, -, h3⟩ := d.rxToData_starts p
  generalize d.rxToData p = e at h3 ⊢
  have h4 := (Dev.acqPart_of_bases (e.bases_enterData p) p).2.trans (h3.trans ht)
  simp [h4]

/-! ## Transmit tuning -/

theorem txTuneWindowEnd_tries (h5 : s.dev.acqState p = 5) (ha : (s.dev.prt p).acq.acquired = true) (hc : (s.dev.prt p).acq.compat = true)
    (hx : s.dev.get (LPn_ACQ_CTRL_TX_TUNE p) = 1) (ht : (s.dev.prt p).acq.tuned = false) (hw : (s.dev.prt p).acq.tuneWait = false)
    (hq : (s.dev.prt p).acq.tuneReq = none) (hn : (s.dev.prt p).acq.tuneTried < 16) (hk : (s.dev.prt p).acq.tuneCount < 63) :
    Answers (.txTuneWindowEnd p) s fun d => ((d.prt p).acq.tuneReq.map fun e => (e.1, e.2.1)) = some (tuneStep (s.dev.prt
      p).acq.tuneTried) ∧ (d.prt p).acq.tuneCount = (s.dev.prt p).acq.tuneCount + 1 := by
  refine answers_of_run (rfl : _ = execTxTuneWindowEnd p s) ?_
  dsimp only
  have hd : ((s.dev.fresh.draw.modEq p .b fun e => { e with tun := Vector.replicate 4 (0, 0) }).prt p).acq = (s.dev.prt p).acq := by simp
  have ho : (s.dev.fresh.draw.modEq p .b fun e => { e with tun := Vector.replicate 4 (0, 0) }).get (LPn_ACQ_CTRL_TX_TUNE p) = 1 := hx
  have h5' : s.dev.fresh.acqState p = 5 := h5
  have ha' : (s.dev.fresh.prt p).acq = (s.dev.prt p).acq := rfl
  generalize s.dev.fresh.draw.modEq p .b _ = d at hd ho ⊢
  rw [if_pos (by simp [h5', ha, hc, Dev.on, ho, ht, hw]), ha', hq]
  unfold Dev.tuneNext
  dsimp only
  rw [hd, if_neg (by omega)]
  unfold Dev.tuneSend
  simp only [Dev.iff]
  split <;> simp [Dev.lmcQueue, Dev.lmcFrame, hd]

theorem coefResp_answers {st t k v : Nat} (hu : s.dev.lmcUp p = true) (ha : (s.dev.lmcAccept p mtCoefResp f).2 = true)
    (hw : (s.dev.prt p).acq.tuneWait = true) :
    Answers (.coefResp p f st t k v) s fun d => (d.prt p).acq.tuneWait = false := by
  refine answers_of_run (rfl : _ = execCoefResp p f st t k v s) ?_
  have hl := congrArg (fun x : Acq × Link × Bool => x.1.tuneWait) (s.dev.fresh.acqPart_lmcAccept p mtCoefResp f)
  change ((s.dev.fresh.lmcAccept p mtCoefResp f).1.prt p).acq.tuneWait = (s.dev.prt p).acq.tuneWait at hl
  rw [if_pos (show s.dev.fresh.lmcUp p = true from hu)]
  dsimp only
  rw [show (s.dev.fresh.lmcAccept p mtCoefResp f).2 = true from ha, hl, hw]
  generalize (s.dev.fresh.lmcAccept p mtCoefResp f).1 = d
  simp

/-! ## Failures and losses -/

theorem trainTimeout_fails (h : s.dev.inSkellia p = true) (hp : (s.dev.prt p).acq.param = none) :
    Answers (.trainTimeout p) s fun d => d.get (LPn_ACQ_EVENTS_TRAIN_FAIL p) = 1 ∧ d.acqState p = 2 ∧ d.linkState p = 2 := by
  refine answers_of_run (rfl : _ = execTrainTimeout p s) ?_
  have hi : s.dev.fresh.inSkellia p = true := h
  rw [if_pos (by simp [hi, hp])]
  simp (disch := decide) [Dev.trainFail]

theorem trainingMarkersMissed_searches (h : s.dev.acqState p = 5) :
    Answers (.trainingMarkersMissed p) s fun d => d.get (LPn_ACQ_EVENTS_LOCK_LOSS p) = 1 ∧ d.acqState p = 2 ∧ d.linkState p = 2 :=
  answers_of_run (rfl : _ = execTrainingMarkersMissed p s) (Dev.lockLoss_searches (s := s.dev.fresh) h)

section
variable (hu : s.dev.linkState p = 4) (hf : s.dev.get (LPn_LINK_CTRL_FLAP_HOLD p) = 0)
include hu hf

theorem sigdetLossTimeout_drops {x : Pair} (hp : s.dev.powered p x = true) (hd : s.dev.get (LPn_RXFE_STATUS_SIG_DET p x) = 0) :
    Answers (.sigdetLossTimeout p x) s fun d => d.get (LPn_LINK_STATUS_LAST_DOWN p) = 3 ∧ d.get (LPn_LINK_EVENTS_LINK_DOWN p) = 1 ∧
      d.linkState p = 2 := by
  refine answers_of_run (rfl : _ = execSigdetLossTimeout p x s) ?_
  have hp' : s.dev.fresh.powered p x = true := hp
  rw [if_pos (by simp [hp', Dev.on, hd]), if_pos (show s.dev.fresh.linkState p = lsUp from hu)]
  obtain ⟨h1, h2, -, h3⟩ := Dev.linkLoss_searches (s := s.dev.fresh) (p := p) (r := 3) (.inl hu) (by decide) hf
  exact ⟨h1, h2, h3⟩

theorem syncHeaderLoss_drops (hm : isNrz (s.dev.mode p) = true) :
    Answers (.syncHeaderLoss p) s fun d => d.get (LPn_LINK_STATUS_LAST_DOWN p) = 5 ∧ d.get (LPn_LINK_EVENTS_LINK_DOWN p) = 1 ∧
      d.linkState p = 2 := by
  refine answers_of_run (rfl : _ = execSyncHeaderLoss p s) ?_
  rw [if_pos ⟨hm, hu⟩]
  obtain ⟨h1, h2, -, h3⟩ := Dev.linkLoss_searches (s := s.dev.fresh) (p := p) (r := 5) (.inl hu) (by decide) hf
  exact ⟨h1, h2, h3⟩

end
end

/-- Settles O17, clause by clause. -/
theorem trainingAndLoss : Obligations.TrainingAndLoss :=
  ⟨fun _ _ _ _ h ha => linkParam_keeps h ha,
   fun _ _ h5 ha hc hx ht hw hq hn hk => txTuneWindowEnd_tries h5 ha hc hx ht hw hq hn hk,
   fun _ _ _ _ _ _ _ hu ha hw => coefResp_answers hu ha hw,
   fun _ _ _ n h ha => ready_keeps h n ha,
   fun _ _ _ n h ha => dataAt_keeps h n ha,
   fun _ _ h hg hr ht => dataSwitch_rx h hg hr ht,
   fun _ _ h hg hr ht => dataSwitch_tx h hg hr ht,
   fun _ _ k h5 hk => ieeeTrainingEnd_up k h5 hk,
   fun _ _ h hp => trainTimeout_fails h hp,
   fun _ _ h => trainingMarkersMissed_searches h,
   fun _ _ _ hp hd hu hf => sigdetLossTimeout_drops hu hf hp hd,
   fun _ _ hm hu hf => syncHeaderLoss_drops hu hf hm⟩

end Sys2Proof.Machine

/-! Correlator hits, confirmation, Clause 73 pages and a convergence window (08 R277–R291, 04 R143). -/

namespace Sys2Proof.Machine

-- One theorem at a time: side by side they ask for more memory than a check may have.
set_option Elab.async false

open Reg

/-! ## Reading after the shared operations of a port -/

section
variable (s : Dev) (p : Port) {n : Nat} {F : Nat → Fld} {F2 : Nat → Pair → Fld} {q : Fin n} {x : Pair}

@[simp low] theorem Dev.get_agcTo_inst (y : Pair) (st : Nat) (h : ∀ q : Fin n, (F q).spared agcFlds = true) :
    (s.agcTo p y st).get (F q) = s.get (F q) := Dev.get_inst_of_view (s.view_agcTo p y st (by decide)) h q
@[simp low] theorem Dev.get_adaptTo_inst (y : Pair) (st : Nat) (h : ∀ q : Fin n, (F q).spared adaptFlds = true) :
    (s.adaptTo p y st).get (F q) = s.get (F q) := Dev.get_inst_of_view (s.view_adaptTo p y st (by decide)) h q
@[simp low] theorem Dev.get_resolve_inst (m : Nat) (b : Bool) (h : ∀ q : Fin n, (F q).spared resolveFlds = true) :
    (s.resolve p m b).get (F q) = s.get (F q) := Dev.get_inst_of_view (s.view_resolve p m b (by decide)) h q
@[simp low] theorem Dev.get_toTrain_inst (h : ∀ q : Fin n, (F q).spared trainFlds = true) :
    (s.toTrain p).get (F q) = s.get (F q) := Dev.get_inst_of_view (s.view_toTrain p (by decide)) h q

end

/-! ## Classes -/

theorem modeClass_lt (m : Nat) : modeClass m < 9 := by
  unfold modeClass
  cases h : (List.range 9).find? fun c => c != 0 && classMode c == m with
  | none => decide
  | some c => simpa using List.mem_range.1 (List.mem_of_find?_eq_some h)

/-- Every class that a port looks for is one of Table 8.1. -/
theorem Dev.lt_of_mem_classes {s : Dev} {p : Port} {k : Nat} (h : k ∈ s.classes p) : k < 9 := by
  unfold Dev.classes at h
  dsimp only at h
  split at h
  · rw [List.mem_singleton.1 h]
    exact modeClass_lt _
  · split at h
    · have := List.mem_range.1 (List.mem_filter.1 h).1
      omega
    · have hk := List.mem_singleton.1 (List.mem_filter.1 h).1
      rw [hk]
      split
      · exact modeClass_lt _
      · omega

/-! ## Hits and confirmation -/

section
variable {s : State} {p : Port}

theorem correlatorHit_confirms {k peak mean n : Nat} (h2 : s.dev.acqState p = 2) (hr : (s.dev.prt p).acq.retuning = false)
    (hk : (s.dev.classes p).contains k = true) (hm : s.dev.hitThr p ≤ logCode 40 255 peak mean)
    (hp : (s.dev.prt p).acq.preempt = none) (hl : s.dev.get GLB_HW_STATUS_REFCLK_LINE_OK = 1) :
    Answers (.correlatorHit p k peak mean n) s fun d => d.acqState p = 3 ∧ d.get (LPn_ACQ_STATUS_CAND_CLASS p) = k ∧
      d.get (LPn_ACQ_STATUS_CAND_METRIC p) = logCode 40 255 peak mean ∧ (d.prt p).acq.hitPos = n := by
  refine answers_of_run (rfl : _ = execCorrelatorHit p k peak mean n s) ?_
  dsimp only
  have h2' : s.dev.fresh.acqState p = 2 := h2
  have hk' : (s.dev.fresh.classes p).contains k = true := hk
  have hm' (g : Acq → Acq) : (s.dev.fresh.modAcq p g).hitThr p ≤ logCode 40 255 peak mean := hm
  have hk9 : k < 2 ^ (LPn_ACQ_STATUS_CAND_CLASS p).width :=
    Nat.lt_trans (Dev.lt_of_mem_classes (by simpa using hk)) (by decide : 9 < 2 ^ 4)
  have hc : logCode 40 255 peak mean < 2 ^ (LPn_ACQ_STATUS_CAND_METRIC p).width := Nat.lt_succ_of_le (logCode_le _ _ _ _)
  rw [if_pos ⟨.inl h2', by simp [hr], hk'⟩, if_neg (Nat.not_lt.2 (hm' _)), if_pos h2']
  generalize logCode 40 255 peak mean = c at hc ⊢
  have ha : (((s.dev.fresh.modAcq p fun a => { a with metric := a.metric.set! k c }).count 0x2F p).prt p).acq.preempt = none := by
    simp [hp]
  have hl' : ((s.dev.fresh.modAcq p fun a => { a with metric := a.metric.set! k c }).count 0x2F p).get GLB_HW_STATUS_REFCLK_LINE_OK = 1 := by
    simp (disch := decide) [hl]
  generalize (s.dev.fresh.modAcq p _).count 0x2F p = d at ha hl' ⊢
  rw [if_neg (by simp [ha])]
  unfold Dev.toConfirm
  rw [if_neg (by simp [Dev.on, hl'])]
  simp (disch := decide) [Dev.acqState, Nat.mod_eq_of_lt hk9, Nat.mod_eq_of_lt hc]

theorem confirmMarkerFound_counts {m : Marker} {k n : Nat} {got : List Int} (h3 : s.dev.acqState p = 3)
    (hm : s.dev.get (LPn_ACQ_STATUS_MARKERS p) = k) (hk : k < 2)
    (hf : markerFits (s.dev.get (LPn_ACQ_STATUS_CAND_CLASS p)) m = true)
    (hg : (markerPlace m n).any (fun i => markerGood (s.dev.get (LPn_ACQ_STATUS_CAND_CLASS p))
      ((s.dev.prt p).acq.hitPos + i * markerSpacing m) got m) = true) :
    Answers (.confirmMarkerFound p m n got) s fun d => d.get (LPn_ACQ_STATUS_MARKERS p) = k + 1 ∧ d.acqState p = 3 := by
  refine answers_of_run (rfl : _ = execConfirmMarkerFound p m n got s) ?_
  dsimp only
  have hm' : s.dev.fresh.get (LPn_ACQ_STATUS_MARKERS p) = k := hm
  have hk3 : k + 1 < 2 ^ (LPn_ACQ_STATUS_MARKERS p).width := Nat.lt_of_lt_of_le (by omega : k + 1 < 3) (by decide : 3 ≤ 2 ^ 2)
  rw [hm', if_pos ⟨h3, by omega, hf, hg⟩, if_neg (by omega)]
  simp (disch := decide) [Dev.acqState, Nat.mod_eq_of_lt hk3]
  exact h3

theorem confirmMarkerFound_trains {n : Nat} {got : List Int} (h3 : s.dev.acqState p = 3)
    (hm : s.dev.get (LPn_ACQ_STATUS_MARKERS p) = 2)
    (hc : 3 ≤ s.dev.get (LPn_ACQ_STATUS_CAND_CLASS p) ∧ s.dev.get (LPn_ACQ_STATUS_CAND_CLASS p) ≤ 5) (hw : s.dev.wide p = false)
    (hg : (markerPlace .skellia n).any (fun i => markerGood (s.dev.get (LPn_ACQ_STATUS_CAND_CLASS p))
      ((s.dev.prt p).acq.hitPos + i * markerSpacing .skellia) got .skellia) = true) :
    Answers (.confirmMarkerFound p .skellia n got) s fun d => d.get (LPn_ACQ_STATUS_MARKERS p) = 3 ∧ d.acqState p = 5 ∧
      d.get (LPn_ACQ_STATUS_PARTNER_SK p) = 1 := by
  refine answers_of_run (rfl : _ = execConfirmMarkerFound p .skellia n got s) ?_
  dsimp only
  have hm' : s.dev.fresh.get (LPn_ACQ_STATUS_MARKERS p) = 2 := hm
  have hf : markerFits (s.dev.fresh.get (LPn_ACQ_STATUS_CAND_CLASS p)) .skellia = true := by
    have : markerFits (s.dev.get (LPn_ACQ_STATUS_CAND_CLASS p)) .skellia = true := by simp [markerFits]; omega
    exact this
  rw [hm', if_pos ⟨h3, by omega, hf, hg⟩, if_pos rfl]
  have h0 : (s.dev.fresh.set (LPn_ACQ_STATUS_MARKERS p) (2 + 1)).get (LPn_ACQ_STATUS_MARKERS p) = 3 := by simp; rfl
  have hk : (s.dev.fresh.set (LPn_ACQ_STATUS_MARKERS p) (2 + 1)).get (LPn_ACQ_STATUS_CAND_CLASS p) ≠ 0 := by
    simp (disch := decide)
    omega
  have hw' : (s.dev.fresh.set (LPn_ACQ_STATUS_MARKERS p) (2 + 1)).wide p = false := by
    unfold Dev.wide
    rw [Dev.get_set_inst_inst _ _ (by decide)]
    exact hw
  generalize s.dev.fresh.set (LPn_ACQ_STATUS_MARKERS p) (2 + 1) = d at h0 hk hw' ⊢
  unfold Dev.confirmed
  dsimp only
  rw [if_neg hk, hw', if_neg (by decide)]
  simp (disch := decide) [h0]

theorem confirmTimeout_searches (h3 : s.dev.acqState p = 3) (hm : s.dev.get (LPn_ACQ_STATUS_MARKERS p) < 3) :
    Answers (.confirmTimeout p) s fun d => d.get (LPn_ACQ_EVENTS_FALSE_LOCK p) = 1 ∧ d.acqState p = 2 ∧ d.linkState p = 2 := by
  refine answers_of_run (rfl : _ = execConfirmTimeout p s) ?_
  rw [if_pos ⟨h3, hm⟩]
  simp (disch := decide)

theorem retuneDone_ends (hr : (s.dev.prt p).acq.retuning = true) (h3 : s.dev.acqState p ≠ 3) :
    Answers (.retuneDone p) s fun d => (d.prt p).acq.retuning = false := by
  refine answers_of_run (rfl : _ = execRetuneDone p s) ?_
  have h3' (g : Acq → Acq) : (s.dev.fresh.modAcq p g).acqState p ≠ 3 := h3
  rw [if_pos (show (s.dev.fresh.prt p).acq.retuning = true from hr)]
  dsimp only
  rw [if_neg (h3' _)]
  simp

/-! ## Clause 73 -/

section
variable (h4 : s.dev.acqState p = 4)
include h4

theorem anPageRx_base {g : BasePage} (hn : g.nonce % 32 ≠ (s.dev.prt p).acq.nonce) :
    Answers (.anPageRx p (.base g)) s fun d => (d.prt p).acq.base = some { g with nonce := g.nonce % 32 } := by
  refine answers_of_run (rfl : _ = execAnPageRx p (.base g) s) ?_
  rw [if_pos (show s.dev.fresh.acqState p = 4 from h4)]
  dsimp only
  rw [if_neg (show ¬ g.nonce % 32 = (s.dev.fresh.prt p).acq.nonce from hn)]
  simp

theorem anPageRx_capability {w : BitVec 48} (ho : (s.dev.prt p).acq.oui = true) :
    Answers (.anPageRx p (.unformatted w)) s fun d => d.get (LPn_AN_PARTNER_PAGE p) = 1 ∧ d.get (LPn_AN_PARTNER_FD200 p)
      = w.toNat % 2 ∧ d.get (LPn_AN_PARTNER_PART p) = w.toNat / 2 ^ 16 % 2 ^ 16 := by
  refine answers_of_run (rfl : _ = execAnPageRx p (.unformatted w) s) ?_
  rw [if_pos (show s.dev.fresh.acqState p = 4 from h4)]
  dsimp only
  rw [if_pos (show (s.dev.fresh.prt p).acq.oui = true from ho)]
  generalize s.dev.fresh.modAcq p _ = d
  have h1 : (LPn_AN_PARTNER_FD200 p).width = 1 := rfl
  have h16 : (LPn_AN_PARTNER_PART p).width = 16 := rfl
  simp (disch := decide) [Dev.capability, Dev.each_cons, Dev.each_nil, bitsOf, h1, h16]

theorem anTimerExpiry_fails :
    Answers (.anTimerExpiry p false) s fun d => d.get (LPn_ACQ_EVENTS_AN_FAIL p) = 1 ∧ d.acqState p = 2 := by
  refine answers_of_run (rfl : _ = execAnTimerExpiry p false s) ?_
  rw [if_pos (show s.dev.fresh.acqState p = 4 from h4), if_neg (by decide)]
  simp (disch := decide) [Dev.anFail]

end

/-! ## A convergence window -/

/-- Whether a port's last window was good, and the sums of the window of its pair B that runs. -/
def Dev.window (s : Dev) (p : Port) : Bool × Vector (Nat × Nat) 4 := ((s.prt p).acq.acqOne, (s.eqOf p .b).conv)

theorem Dev.window_skCheck (d : Dev) (p : Port) : (d.skCheck p).window p = d.window p := by
  unfold Dev.skCheck
  dsimp only
  split
  · simp only [Dev.iff]
    split <;> split <;> simp [Dev.window, Dev.eqOf, Dev.lmcQueue, Dev.lmcFrame]
  · rfl

/-- Whether the window of a pair that ends is good (04 R143). -/
def Dev.goodWindow (s : Dev) (p : Port) (x : Pair) : Bool :=
  snrAtLeast (isNrz (s.mode p)) (meanNoise s.draws (isNrz (s.mode p)) (s.eqOf p x).conv) (s.get (LPn_EQ_CTRL_SNR_MIN p) : Nat)

/-- A window of a pair in COARSE is judged, sampled, and starts afresh. -/
theorem Dev.convWindow_coarse {d : Dev} {p : Port} (h : d.get (LPn_EQ_STATUS_ADAPT p .b) = adCoarse) :
    ∃ c, d.convWindow p .b =
      ((d.draw.modEq p .b fun e => { e with conv := Vector.replicate 4 (0, 0) }).sample 0x27 p c, d.goodWindow p .b) := by
  have h' (g : Eq → Eq) : (d.draw.modEq p .b g).get (LPn_EQ_STATUS_ADAPT p .b) = adCoarse := h
  unfold Dev.convWindow
  dsimp only
  rw [h', if_neg (by decide), if_neg fun h => absurd h.1 (by decide)]
  simp only [beq_self_eq_true, Dev.iff, if_true]
  exact ⟨_, rfl⟩

theorem convergenceWindowEnd_notes (hp : s.dev.powered p .b = true) (h5 : s.dev.acqState p = 5)
    (hc : s.dev.get (LPn_EQ_STATUS_ADAPT p .b) = adCoarse) :
    Answers (.convergenceWindowEnd p .b) s fun d => (d.prt p).acq.acqOne = (s.dev.convWindow p .b).2 ∧ (d.eqOf p .b).conv
      = Vector.replicate 4 (0, 0) := by
  refine answers_of_run (rfl : _ = execConvergenceWindowEnd p .b s) ?_
  rw [if_pos (show s.dev.fresh.powered p .b = true from hp)]
  dsimp only
  obtain ⟨c, he⟩ := Dev.convWindow_coarse hc
  obtain ⟨c', he'⟩ := Dev.convWindow_coarse (d := s.dev.fresh) hc
  rw [he, he', show s.dev.fresh.goodWindow p .b = s.dev.goodWindow p .b from rfl]
  generalize s.dev.goodWindow p .b = b
  have h5' : s.dev.fresh.acqState p = 5 := h5
  have hd : ((s.dev.fresh.draw.modEq p .b fun e => { e with conv := Vector.replicate 4 (0, 0) }).sample 0x27 p c').acqState p = 5 := by
    simp (disch := decide) [Dev.acqState]
    exact h5
  have hw : (((s.dev.fresh.draw.modEq p .b fun e => { e with conv := Vector.replicate 4 (0, 0) }).sample 0x27 p c').eqOf p .b).conv =
      Vector.replicate 4 (0, 0) := by
    simp [Dev.eqOf]
  generalize (s.dev.fresh.draw.modEq p .b _).sample 0x27 p c' = d at hd hw ⊢
  dsimp only
  rw [hd, h5', if_neg (by simp), if_pos ⟨rfl, rfl⟩]
  have hk (e : Dev) (he : e.window p = (b, Vector.replicate 4 (0, 0))) :
      ((e.settle s.dev.mem).prt p).acq.acqOne = b ∧ ((e.settle s.dev.mem).eqOf p .b).conv = Vector.replicate 4 (0, 0) := by
    simpa [Dev.window] using he
  refine hk _ ?_
  split
  · rw [Dev.window_skCheck]
    simpa [Dev.window, Dev.eqOf, Dev.sendLinkParam, Dev.lmcQueue, Dev.lmcFrame] using hw
  · simpa [Dev.window, Dev.eqOf] using hw

end

/-- Settles O16, clause by clause. -/
theorem acquisitionAndNegotiation : Obligations.AcquisitionAndNegotiation :=
  ⟨fun _ _ _ _ _ _ h2 hr hk hm hp hl => correlatorHit_confirms h2 hr hk hm hp hl,
   fun _ _ _ _ _ _ h3 hm hk hf hg => confirmMarkerFound_counts h3 hm hk hf hg,
   fun _ _ _ _ h3 hm hc hw hg => confirmMarkerFound_trains h3 hm hc hw hg,
   fun _ _ h3 hm => confirmTimeout_searches h3 hm,
   fun _ _ hr h3 => retuneDone_ends hr h3,
   fun _ _ _ h4 hn => anPageRx_base h4 hn,
   fun _ _ _ h4 ho => anPageRx_capability h4 ho,
   fun _ _ h4 => anTimerExpiry_fails h4,
   fun _ _ hp h5 hc => convergenceWindowEnd_notes hp h5 hc⟩

end Sys2Proof.Machine

/-! Full-duplex start-up (05 R175, R180, R186–R200). -/

namespace Sys2Proof.Machine

-- One theorem at a time: side by side they ask for more memory than a check may have.
set_option Elab.async false

open Reg

/-! ## The ports' full-duplex records -/

/-- The ports' full-duplex records. -/
def Dev.fds (s : Dev) : Vector Fd 8 := s.port.map PortSt.fd

theorem Dev.fd_of_fds {a b : Dev} (h : a.fds = b.fds) (p : Port) : (a.prt p).fd = (b.prt p).fd := by
  have := congrArg (fun v : Vector Fd 8 => v.get p) h
  simpa [Dev.fds, Vector.get_eq_getElem, Dev.prt] using this

theorem Dev.fds_of_rests {a b : Dev} (h : a.rests = b.rests) : a.fds = b.fds := by
  have := congrArg (Vector.map PortSt.fd) h
  have e : PortSt.fd ∘ PortSt.rest = PortSt.fd := rfl
  simpa only [Dev.rests, Dev.fds, Vector.map_map, e] using this

section
variable (s : Dev) (p : Port) (x : Pair)

theorem Dev.fds_modPort {g : PortSt → PortSt} (h : ∀ q, (g q).fd = q.fd) : (s.modPort p g).fds = s.fds := map_vmod h _ _
@[simp] theorem Dev.fds_set (f : Fld) (v : Nat) : (s.set f v).fds = s.fds := rfl
@[simp] theorem Dev.fds_modEq (g : Eq → Eq) : (s.modEq p x g).fds = s.fds := s.fds_modPort p fun _ => rfl
@[simp] theorem Dev.fds_modAdc (g : Adc → Adc) : (s.modAdc p x g).fds = s.fds := s.fds_modPort p fun _ => rfl
@[simp] theorem Dev.fds_modEcho (g : Echo → Echo) : (s.modEcho p x g).fds = s.fds := s.fds_modPort p fun _ => rfl
@[simp] theorem Dev.fds_modTxPair (g : TxPair → TxPair) : (s.modTxPair p x g).fds = s.fds := s.fds_modPort p fun _ => rfl
@[simp] theorem Dev.fds_count (c i n : Nat) : (s.count c i n).fds = s.fds := Dev.fds_of_rests (s.rests_count c i n)
@[simp] theorem Dev.fds_iff (b : Bool) (g : Dev → Dev) : (s.iff b g).fds = if b then (g s).fds else s.fds := by
  cases b <;> rfl
@[simp] theorem Dev.fds_ite (c : Prop) [Decidable c] (a b : Dev) : (if c then a else b).fds = if c then a.fds else b.fds :=
  apply_ite Dev.fds c a b

@[simp] theorem Dev.fds_setGain (g : Int) : (s.setGain p x g).fds = s.fds := by
  simp [Dev.setGain, Dev.disturb, Dev.disturbCal, -Dev.modEq_eq, -Dev.modAdc_eq]
@[simp] theorem Dev.fds_agcEnter (st : Nat) : (s.agcEnter p x st).fds = s.fds := by
  simp [Dev.agcEnter, Dev.overrideRefresh, -Dev.modAdc_eq]
@[simp] theorem Dev.fds_agcTo (st : Nat) : (s.agcTo p x st).fds = s.fds := by
  simp [Dev.agcTo, Dev.overrideRefresh]
@[simp] theorem Dev.fds_eqPreset : (s.eqPreset p x).fds = s.fds := by
  simp [Dev.eqPreset, Dev.eqShape, Dev.putTaps, -Dev.modEq_eq]
@[simp] theorem Dev.fds_adaptTo (st : Nat) : (s.adaptTo p x st).fds = s.fds := by
  simp [Dev.adaptTo, Dev.echoFollow, Dev.freezeRefresh, -Dev.modEq_eq, -Dev.modEcho_eq]
@[simp] theorem Dev.fds_setHybrid (r c : Nat) : (s.setHybrid p x r c).fds = s.fds := rfl
@[simp] theorem Dev.fds_hybridBegin : (s.hybridBegin p x).fds = s.fds := by
  simp [Dev.hybridBegin, Dev.sparseBegin, -Dev.modEcho_eq]
@[simp] theorem Dev.fds_fdDacs (a b : Bool) : (s.fdDacs p a b).fds = s.fds :=
  (Dev.fds_of_rests (Dev.rests_txRefresh _ p false)).trans (by simp [-Dev.modTxPair_eq])

/-- The DACs that a phase leaves off. -/
theorem Dev.dacOff_fdDacs (a b : Bool) : ((s.fdDacs p a b).txPairOf p .a).dacOff = !a ∧ ((s.fdDacs p a b).txPairOf p .b).dacOff = !b := by
  have h (d : Dev) (x : Pair) : ((d.txRefresh p).txPairOf p x).dacOff = (d.txPairOf p x).dacOff :=
    (congrArg TxPair.dacOff (Dev.txPair_rest (d.rests_txRefresh p false) p x) :)
  have hab : Pair.b.idx ≠ Pair.a.idx := by decide
  unfold Dev.fdDacs
  rw [h, h]
  simp [Dev.txPairOf, Dev.modTxPair, vmod_other _ _ hab]

theorem Dev.view_fdDacs (a b : Bool) {l : List Fld} (h : famSub txFlds l = true) : (s.fdDacs p a b).view l = s.view l :=
  Dev.view_txRefresh _ p h false

/-- The registers of a hybrid search. -/
def hybFlds : List Fld :=
  [LPn_HYB_CTRL_HYB_R_USED 0 .a, LPn_HYB_CTRL_HYB_R_USED 0 .b, LPn_HYB_CTRL_HYB_C_USED 0 .a, LPn_HYB_CTRL_HYB_C_USED 0 .b]

theorem Dev.view_hybridBegin {l : List Fld} (h : famSub hybFlds l = true) : (s.hybridBegin p x).view l = s.view l :=
  Dev.view_mono (by simp (disch := decide) [Dev.hybridBegin, Dev.sparseBegin, Dev.setHybrid] : _ = s.view hybFlds) h

/-- A quiet window that starts is open, in its phase. -/
theorem Dev.fdWindow_opens {k : Nat} (hk : k < 8) :
    (s.fdWindow p k).get (LPn_FD_STATUS_FDS p) = k ∧ ((s.fdWindow p k).prt p).fd.inWin = true := by
  unfold Dev.fdWindow
  dsimp only
  have hg : ((s.set (LPn_FD_STATUS_FDS p) k).modFd p fun f => { f with inWin := true }).get (LPn_FD_STATUS_FDS p) = k :=
    Dev.get_set_of_lt s (Nat.lt_of_lt_of_le hk (by decide : 8 ≤ 2 ^ 4))
  have hi : (((s.set (LPn_FD_STATUS_FDS p) k).modFd p fun f => { f with inWin := true }).prt p).fd.inWin = true := by simp
  generalize (s.set (LPn_FD_STATUS_FDS p) k).modFd p _ = d at hg hi ⊢
  split
  · exact ⟨(Dev.get_inst_of_view (Dev.view_hybridBegin _ p .b (l := hybFlds) (by decide)) (by decide) p).trans
      ((Dev.get_inst_of_view (d.view_fdDacs p true true (l := txFlds) (by decide)) (by decide) p).trans hg),
      (congrArg Fd.inWin (Dev.fd_of_fds (by simp) p)).trans hi⟩
  · refine ⟨?_, (congrArg Fd.inWin (Dev.fd_of_fds (by simp) p)).trans hi⟩
    have h := (Dev.get_inst_of_view (d.view_fdDacs p false false (l := txFlds) (by decide)) (by decide) p).trans hg
    generalize d.fdDacs p false false = e at h ⊢
    simp (disch := decide) [h]

end

/-! ## Searches and windows of a pair's cancellers -/

section
variable {s : State} {p : Port}

theorem hybridTrialEnd_next {x : Pair} {m t best ms : Nat} (h : (s.dev.echoOf p x).hyb = some (t, best, ms)) (ht : t < 7) :
    Answers (.hybridTrialEnd p x m) s fun d => d.get (LPn_HYB_CTRL_HYB_R_USED p x) = t + 1 ∧ d.get
      (LPn_HYB_CTRL_HYB_C_USED p x) = 3 ∧ (d.echoOf p x).hyb = some (t + 1, if t = 0 ∨ m < ms then (t, m) else (best, ms)) := by
  refine answers_of_run (rfl : _ = execHybridTrialEnd p x m s) ?_
  rw [show (s.dev.fresh.echoOf p x).hyb = some (t, best, ms) from h]
  dsimp only
  have h8 : t % 8 = t := Nat.mod_eq_of_lt (by omega)
  have hw : t + 1 < 2 ^ (LPn_HYB_CTRL_HYB_R_USED p x).width := by
    cases x <;> exact (by omega : t + 1 < 8)
  rw [if_pos ht, h8]
  simp (disch := decide) [Dev.setHybrid, Dev.echoOf, Nat.mod_eq_of_lt hw]

theorem sparseSearchSegmentEnd_moves {x : Pair} {g : Nat} {l : List (Nat × Nat × Nat)} (h : (s.dev.echoOf p x).search = some (g, l))
    (hl : 768 + 32 * (g + 4) + 31 ≤ windowLimit (s.dev.mode p)) :
    Answers (.sparseSearchSegmentEnd p x) s fun d => ((d.echoOf p x).search.map fun e => e.1) = some (g + 4) ∧ (d.echoOf
      p x).taps.win = Vector.replicate 128 0 := by
  refine answers_of_run (rfl : _ = execSparseSearchSegmentEnd p x s) ?_
  rw [show (s.dev.fresh.echoOf p x).search = some (g, l) from h]
  dsimp only
  rw [if_pos (show _ ≤ windowLimit (s.dev.fresh.mode p) from hl)]
  simp [Dev.echoOf]

/-- What BASE sends next keeps what the channel's queue and the marks of its sending keep. -/
theorem Dev.fdBaseCheck_keep {β : Type} {π : Dev → β} {p : Port}
    (hq : ∀ (d : Dev) (n : Nat) (l : List Byte), π (d.lmcQueue p n l).1 = π d)
    (hf : ∀ (d : Dev) (g : Fd → Fd), (∀ f, (g f).partner = f.partner) → π (d.modFd p g) = π d) (d : Dev) :
    π (d.fdBaseCheck p) = π d := by
  unfold Dev.fdBaseCheck
  dsimp only
  split
  · have h1 : ∀ b, π (d.iff b fun s => (s.lmcQueue p mtFdReady (s.fdReadyBytes p)).1.modFd p fun f =>
        { f with readySent := true, quietSent := s.get (LPn_FD_CTRL_QUIET_LEN p) }) = π d := fun b =>
      Dev.iff_keep (π := π) (fun s => (hf _ (fun f => { f with readySent := true, quietSent := s.get (LPn_FD_CTRL_QUIET_LEN p) })
        fun _ => rfl).trans (hq s _ _)) b d
    specialize h1 (!(d.prt p).fd.readySent && ((d.prt p).fd.acq.get 1).2 && (d.echoOf p .a).conv)
    generalize Dev.iff d _ _ = t at h1 ⊢
    split
    next q _ =>
      split
      · refine (Dev.iff_keep (π := π) (g := fun s => (s.lmcQueue p mtFdQuiet (bytesOf 2 (250 * (max q (t.prt p).fd.quietSent + 1)))).1)
          (fun s => hq s _ _) _ _).trans ?_
        exact (hf t (fun f => { f with winLen := 250 * (max q (t.prt p).fd.quietSent + 1) }) fun _ => rfl).trans h1
      · exact h1
    · exact h1
  · rfl

/-- What BASE sends next changes no canceller. -/
theorem Dev.echo_fdBaseCheck (d : Dev) (p : Port) (x : Pair) : (d.fdBaseCheck p).echoOf p x = d.echoOf p x :=
  Dev.fdBaseCheck_keep (π := fun d => d.echoOf p x) (fun d n l => by simp [Dev.echoOf, Dev.lmcQueue, Dev.lmcFrame])
    (fun d g _ => by simp [Dev.echoOf]) d

theorem Dev.partner_fdBaseCheck (d : Dev) (p : Port) : ((d.fdBaseCheck p).prt p).fd.partner = (d.prt p).fd.partner :=
  Dev.fdBaseCheck_keep (π := fun d => (d.prt p).fd.partner) (fun d n l => by simp [Dev.lmcQueue, Dev.lmcFrame])
    (fun d g h => by simp [h]) d

theorem Dev.view_fdBaseCheck (d : Dev) (p : Port) (l : List Fld) : (d.fdBaseCheck p).view l = d.view l :=
  Dev.fdBaseCheck_keep (π := Dev.view l) (fun d n b => by simp [Dev.lmcQueue, Dev.lmcFrame]) (fun d g _ => by simp) d

theorem erleWindowEnd_measures {x : Pair} (hr : s.dev.get (LPn_FD_STATUS_ECHO p x) = ecRaw) (hh : (s.dev.echoOf p x).hyb = none) :
    Answers (.erleWindowEnd p x) s fun d => d.get (LPn_FD_STATUS_ERLE p x) = logCode 40 255 (s.dev.echoOf p x).erle.2.1
      (s.dev.echoOf p x).erle.2.2 ∧ (d.echoOf p x).erle = (0, 0, 0) := by
  refine answers_of_run (rfl : _ = execErleWindowEnd p x s) ?_
  rw [if_pos ⟨hr, by simp [hh]⟩]
  dsimp only
  have he : (s.dev.fresh.echoOf p x).erle = (s.dev.echoOf p x).erle := rfl
  have hw : logCode 40 255 (s.dev.echoOf p x).erle.2.1 (s.dev.echoOf p x).erle.2.2 < 2 ^ (LPn_FD_STATUS_ERLE p x).width := by
    cases x <;> exact Nat.lt_succ_of_le (logCode_le _ _ _ _)
  rw [he]
  generalize logCode 40 255 _ _ = v at hw ⊢
  have hk (g : Echo → Echo) (h : ∀ e, (g e).erle = (0, 0, 0)) :
      (((s.dev.fresh.modEcho p x g).set (LPn_FD_STATUS_ERLE p x) v).fdBaseCheck p).get (LPn_FD_STATUS_ERLE p x) = v ∧
      ((((s.dev.fresh.modEcho p x g).set (LPn_FD_STATUS_ERLE p x) v).fdBaseCheck p).echoOf p x).erle = (0, 0, 0) := by
    rw [Dev.get_pair_of_view (Dev.view_fdBaseCheck _ p []) (by decide) p x, Dev.echo_fdBaseCheck]
    exact ⟨Dev.get_set_of_lt _ hw, by simp [Dev.echoOf, h]⟩
  exact hk _ fun _ => rfl

/-! ## The start-up -/

section
variable (h6 : s.dev.acqState p = 6)
include h6

theorem fdReady_keeps {f : Frame} {q a n h : Nat} (ha : (s.dev.lmcAccept p mtFdReady f).2 = true) :
    Answers (.fdReady p f q a n h) s fun d => (d.prt p).fd.partner = some (min q 15) := by
  refine answers_of_run (rfl : _ = execFdReady p f q a n h s) ?_
  rw [if_pos (show s.dev.fresh.acqState p = 6 from h6)]
  dsimp only
  rw [if_pos (show (s.dev.fresh.lmcAccept p mtFdReady f).2 = true from ha)]
  generalize (s.dev.fresh.lmcAccept p mtFdReady f).1 = d
  have h := (d.modFd p fun f => { f with partner := some (min q 15) }).partner_fdBaseCheck p
  have hp : ((d.modFd p fun f => { f with partner := some (min q 15) }).prt p).fd.partner = some (min q 15) := by simp
  exact h.trans hp

theorem fdQuiet_leads {n : Nat} (hr : s.dev.get (LPn_FD_STATUS_ROLE p) = 1) (hf : s.dev.get (LPn_FD_STATUS_FDS p) = 1)
    (hw : (s.dev.prt p).fd.winLen ≠ 0) :
    Answers (.fdQuiet p none n) s fun d => (d.prt p).fd.quiet = true := by
  refine answers_of_run (rfl : _ = execFdQuiet p none n s) ?_
  rw [if_pos (show s.dev.fresh.acqState p = 6 from h6)]
  dsimp only
  rw [if_pos (by simp [Dev.on, hr, hf, hw])]
  simp

theorem fdWindowStart_opens (hf : s.dev.get (LPn_FD_STATUS_FDS p) = 1) (hq : (s.dev.prt p).fd.quiet = true) :
    Answers (.fdWindowStart p) s fun d => d.get (LPn_FD_STATUS_FDS p) = 2 ∧ (d.prt p).fd.inWin = true := by
  refine answers_of_run (rfl : _ = execFdWindowStart p s) ?_
  rw [if_pos ⟨h6, hf, hq⟩]
  exact s.dev.fresh.fdWindow_opens p (by decide)

theorem fdWindowEnd_gap (ho : s.dev.ownWindow p = true) (ha : (s.dev.echoOf p .a).conv = true) (hb : (s.dev.echoOf p .b).conv = true) :
    Answers (.fdWindowEnd p) s fun d => (d.prt p).fd.inWin = false ∧ (d.txPairOf p .a).dacOff = false ∧ (d.txPairOf p
      .b).dacOff = true := by
  refine answers_of_run (rfl : _ = execFdWindowEnd p s) ?_
  have hi : (s.dev.prt p).fd.inWin = true := by
    unfold Dev.ownWindow at ho
    simp only [Bool.and_eq_true] at ho
    exact ho.1
  dsimp only
  rw [if_pos ⟨h6, hi⟩, if_pos (show s.dev.fresh.ownWindow p = true from ho)]
  have hc : (((s.dev.fresh.modFd p fun f => { f with inWin := false }).echoOf p .a).conv &&
      ((s.dev.fresh.modFd p fun f => { f with inWin := false }).echoOf p .b).conv) = true := by
    simp only [Dev.echoOf] at ha hb
    simp [Dev.echoOf, ha, hb]
  rw [if_pos hc]
  have hw : ((s.dev.fresh.modFd p fun f => { f with inWin := false }).prt p).fd.inWin = false := by simp
  generalize s.dev.fresh.modFd p _ = d at hw ⊢
  exact ⟨(congrArg Fd.inWin (Dev.fd_of_fds (d.fds_fdDacs p true false) p)).trans hw, d.dacOff_fdDacs p true false⟩

theorem fdGapEnd_follows (k : Int) (hf : s.dev.get (LPn_FD_STATUS_FDS p) = 2) (hi : (s.dev.prt p).fd.inWin = false) :
    Answers (.fdGapEnd p k) s fun d => d.get (LPn_FD_STATUS_FDS p) = 3 ∧ (d.prt p).fd.inWin = true := by
  refine answers_of_run (rfl : _ = execFdGapEnd p k s) ?_
  dsimp only
  rw [if_pos ⟨h6, by simp [hi]⟩, if_pos (show s.dev.fresh.get (LPn_FD_STATUS_FDS p) = 2 from hf)]
  exact s.dev.fresh.fdWindow_opens p (by decide)

theorem fdConfirm_keeps {f : Frame} {a n e : Nat} {k : Int} (hf : s.dev.get (LPn_FD_STATUS_FDS p) = 3)
    (ha : (s.dev.lmcAccept p mtFdConfirm f).2 = true) :
    Answers (.fdConfirm p f a n e k) s fun d => (d.prt p).fd.confGot = true ∧ d.acqState p = 6 := by
  refine answers_of_run (rfl : _ = execFdConfirm p f a n e k s) ?_
  rw [if_pos (show s.dev.fresh.acqState p = 6 from h6)]
  dsimp only
  obtain ⟨l, ht, -⟩ := s.dev.fresh.tells_lmcAccept p mtFdConfirm f
  have hg : (s.dev.fresh.lmcAccept p mtFdConfirm f).1.get (LPn_FD_STATUS_FDS p) = 3 := (ht.get _).trans hf
  have hs : (s.dev.fresh.lmcAccept p mtFdConfirm f).1.acqState p = 6 := (ht.acqState p).trans h6
  rw [show (s.dev.fresh.lmcAccept p mtFdConfirm f).2 = true from ha, hg, if_pos (by decide)]
  generalize (s.dev.fresh.lmcAccept p mtFdConfirm f).1 = d at hg hs ⊢
  have hg' (g : Fd → Fd) : (d.modFd p g).get (LPn_FD_STATUS_FDS p) = 3 := hg
  unfold Dev.fdJoinCheck
  dsimp only
  rw [if_neg (by simp [hg])]
  exact ⟨by simp, hs⟩

theorem fdAbandon_searches {f : Frame} {w n : Nat} (ha : (s.dev.lmcAccept p mtFdAbandon f).2 = true) :
    Answers (.fdAbandon p f w n) s fun d => d.get (LPn_FD_STATUS_LAST_REASON p) = 7 ∧ d.get (LPn_FD_EVENTS_ABANDON p) = 1
      ∧ d.linkState p = 2 := by
  refine answers_of_run (rfl : _ = execFdAbandon p f w n s) ?_
  rw [if_pos (show s.dev.fresh.acqState p = 6 from h6)]
  dsimp only
  rw [if_pos (show (s.dev.fresh.lmcAccept p mtFdAbandon f).2 = true from ha)]
  generalize (s.dev.fresh.lmcAccept p mtFdAbandon f).1 = d
  have h := d.fdAbandonment_abandons p (by decide : 7 < 16)
  generalize d.fdAbandonment p 7 = e at h ⊢
  exact h

theorem fdStepTimeout_searches (l : Bool) (hf : s.dev.get (LPn_FD_STATUS_FDS p) = 1) :
    Answers (.fdStepTimeout p l) s fun d => d.get (LPn_FD_STATUS_LAST_REASON p) = (if l then 6 else 1) ∧ d.get
      (LPn_FD_EVENTS_ABANDON p) = 1 ∧ d.linkState p = 2 := by
  refine answers_of_run (rfl : _ = execFdStepTimeout p l s) ?_
  have hf' : s.dev.fresh.get (LPn_FD_STATUS_FDS p) = 1 := hf
  dsimp only
  rw [if_pos ⟨h6, .inl hf'⟩, if_pos hf']
  have h := s.dev.fresh.fdAbandonment_abandons p (by cases l <;> decide : (if l then 6 else 1) < 16)
  generalize s.dev.fresh.fdAbandonment p _ = e at h ⊢
  exact h

end
end

/-- Settles O13, clause by clause. -/
theorem fullDuplexStartup : Obligations.FullDuplexStartup :=
  ⟨fun _ _ _ _ _ _ _ h ht => hybridTrialEnd_next h ht,
   fun _ _ _ _ _ h hl => sparseSearchSegmentEnd_moves h hl,
   fun _ _ _ hr hh => erleWindowEnd_measures hr hh,
   fun _ _ _ _ _ _ _ h6 ha => fdReady_keeps h6 ha,
   fun _ _ _ h6 hr hf hw => fdQuiet_leads h6 hr hf hw,
   fun _ _ h6 hf hq => fdWindowStart_opens h6 hf hq,
   fun _ _ h6 ho ha hb => fdWindowEnd_gap h6 ho ha hb,
   fun _ _ k h6 hf hi => fdGapEnd_follows h6 k hf hi,
   fun _ _ _ _ _ _ _ h6 hf ha => fdConfirm_keeps h6 hf ha,
   fun _ _ _ _ _ h6 ha => fdAbandon_searches h6 ha,
   fun _ _ l h6 hf => fdStepTimeout_searches h6 l hf⟩

end Sys2Proof.Machine

/-! Lull between partners, its wake, and IEEE low-power idle (09 R332–R345). -/

namespace Sys2Proof.Machine

-- One theorem at a time: side by side they ask for more memory than a check may have.
set_option Elab.async false

open Reg

/-! ## What the words of Lull and the loops' hold leave alone -/

section
variable (s : Dev) (p : Port)

/-- A port's link record, and whether its transmitter idles, sends data, and has been without its host. -/
def Dev.lullPart (s : Dev) (p : Port) : Link × Bool × Bool × Bool := ((s.prt p).link, (s.prt p).tx.idle, (s.prt p).tx.data, (s.prt p).tx.hostOut)

theorem Dev.lullPart_sendWord (l : List Int) : (s.sendWord p l).lullPart p = s.lullPart p :=
  Dev.each_keep (π := fun d => d.lullPart p) (fun d x => by simp [Dev.lullPart, Dev.pairSymbols]) _ s

theorem Dev.lullPart_sendWake : (s.sendWake p).lullPart p = s.lullPart p := by
  have h := s.lullPart_sendWord p (wakeWord ++ wakeSegments)
  unfold Dev.sendWake
  generalize s.sendWord p _ = d at h ⊢
  rw [← h]
  simp [Dev.lullPart, Dev.txChainStart]

theorem Dev.lullPart_lfBegin : (s.lfBegin p).lullPart p = s.lullPart p := by
  unfold Dev.lfBegin Dev.lmcTell
  split <;> simp [Dev.lullPart, Dev.lmcQueue, Dev.lmcFrame]

theorem Dev.lullPart_modTxPair (x : Pair) (g : TxPair → TxPair) : (s.modTxPair p x g).lullPart p = s.lullPart p := by
  simp [Dev.lullPart]

theorem Dev.lullPart_txRefresh (b : Bool) : (s.txRefresh p b).lullPart p = s.lullPart p := by
  have hp (d : Dev) (x : Pair) : (d.txPut p x).lullPart p = d.lullPart p := Dev.lullPart_modTxPair _ p x _
  have hi (d : Dev) (c : Bool) : (d.iff c fun s => s.flag (LPn_TX_EVENTS_QUENCH p) true).lullPart p = d.lullPart p :=
    Dev.iff_keep (π := fun d => d.lullPart p) (g := fun s => s.flag (LPn_TX_EVENTS_QUENCH p) true) (fun _ => rfl) c d
  obtain ⟨c, e, h⟩ := s.txRefresh_eq p b
  rw [h]
  split
  · rfl
  · refine (Dev.iff_keep (π := fun d => d.lullPart p) (fun d => d.lullPart_lfBegin p) e _).trans ?_
    exact (hi _ c).trans ((hp _ .b).trans (hp s .a))

/-- Acceptance of a frame leaves the link's record. -/
theorem Dev.link_lmcAccept (typ : Nat) (f : Frame) : ((s.lmcAccept p typ f).1.prt p).link = (s.prt p).link :=
  (congrArg (fun x : Acq × Link × Bool => x.2.1) (s.acqPart_lmcAccept p typ f) :)

theorem Dev.link_of_lullPart {a b : Dev} {p : Port} (h : a.lullPart p = b.lullPart p) : (a.prt p).link = (b.prt p).link :=
  (congrArg (fun x : Link × Bool × Bool × Bool => x.1) h :)

/-- The ports' link records. -/
def Dev.links (s : Dev) : Vector Link 8 := s.port.map PortSt.link

theorem Dev.link_of_links {a b : Dev} (h : a.links = b.links) (p : Port) : (a.prt p).link = (b.prt p).link := by
  have := congrArg (fun v : Vector Link 8 => v.get p) h
  simpa [Dev.links, Vector.get_eq_getElem, Dev.prt] using this

theorem Dev.Like.links {a b : Dev} (h : a.Like b) : a.links = b.links := by
  have e : (PortSt.link ∘ fun q => { q with cap := {} }) = PortSt.link := rfl
  have : a.core.port.map PortSt.link = b.core.port.map PortSt.link := congrArg (fun d : Dev => d.port.map PortSt.link) h.1
  simpa only [Dev.core, Dev.links, Vector.map_map, e] using this

theorem Dev.links_modPort {g : PortSt → PortSt} (h : ∀ q, (g q).link = q.link) : (s.modPort p g).links = s.links := map_vmod h _ _
@[simp] theorem Dev.links_set (f : Fld) (v : Nat) : (s.set f v).links = s.links := rfl
@[simp] theorem Dev.links_modEq (x : Pair) (g : Eq → Eq) : (s.modEq p x g).links = s.links := s.links_modPort p fun _ => rfl
@[simp] theorem Dev.links_modAdc (x : Pair) (g : Adc → Adc) : (s.modAdc p x g).links = s.links := s.links_modPort p fun _ => rfl
@[simp] theorem Dev.links_modEcho (x : Pair) (g : Echo → Echo) : (s.modEcho p x g).links = s.links :=
  s.links_modPort p fun _ => rfl
@[simp] theorem Dev.links_count (c i n : Nat) : (s.count c i n).links = s.links := (s.count_like c i n).links
@[simp] theorem Dev.links_iff (b : Bool) (g : Dev → Dev) : (s.iff b g).links = if b then (g s).links else s.links := by
  cases b <;> rfl
@[simp] theorem Dev.links_ite (c : Prop) [Decidable c] (a b : Dev) :
    (if c then a else b).links = if c then a.links else b.links := apply_ite Dev.links c a b
@[simp] theorem Dev.links_setGain (x : Pair) (g : Int) : (s.setGain p x g).links = s.links := by
  simp [Dev.setGain, Dev.disturb, Dev.disturbCal, -Dev.modEq_eq, -Dev.modAdc_eq]
@[simp] theorem Dev.links_agcEnter (x : Pair) (st : Nat) : (s.agcEnter p x st).links = s.links := by
  simp [Dev.agcEnter, Dev.overrideRefresh, -Dev.modAdc_eq]
@[simp] theorem Dev.links_agcTo (x : Pair) (st : Nat) : (s.agcTo p x st).links = s.links := by
  simp [Dev.agcTo, Dev.overrideRefresh]
@[simp] theorem Dev.links_eqPreset (x : Pair) : (s.eqPreset p x).links = s.links := by
  simp [Dev.eqPreset, Dev.eqShape, Dev.putTaps, -Dev.modEq_eq]
@[simp] theorem Dev.links_adaptTo (x : Pair) (st : Nat) : (s.adaptTo p x st).links = s.links := by
  simp [Dev.adaptTo, Dev.echoFollow, Dev.freezeRefresh, -Dev.modEq_eq, -Dev.modEcho_eq]

/-- The loops' release leaves the ports' links. -/
theorem Dev.links_lullRelease : (s.lullRelease p).links = s.links :=
  Dev.each_keep (π := Dev.links) (fun d x => by simp) _ s

theorem Dev.link_chainStart : ((s.chainStart p).prt p).link = (s.prt p).link := by
  unfold Dev.chainStart
  dsimp only
  generalize List.replicate 2 (List.replicate 2048 (31 : Int)) = r
  simp [Dev.each_pairs]

/-- What the channel's frames leave of a port's eligibility for Lull. -/
theorem Dev.Tells.eligible {a b : Dev} {q : Port} {k : List Nat} (h : a.Tells b q k) (p : Port) : a.eligible p = b.eligible p := by
  have ha : (a.prt p).acq = (b.prt p).acq := h.sameRests.2.2.2.2.2.2.1 p
  unfold Dev.eligible
  rw [h.linkState, h.mode, ha]
  simp only [Dev.partnerLull, ha, Dev.on, h.get]

end

/-! ## Requests -/

section
variable {s : State} {p : Port}

theorem hostIdleDetect_shows {k : Nat} (ht : s.dev.get (LPn_FEC_STATUS_TERM_TX p) = 1) (hk : k < 3) :
    Answers (.hostIdleDetect p k) s fun d => d.get (LPn_LINK_STATUS_IDLE_KIND p) = k := by
  refine answers_of_run (rfl : _ = execHostIdleDetect p k s) ?_
  dsimp only
  have hw : (s.dev.fresh.on (LPn_FEC_CTRL_RS_MON_TX p) || s.dev.fresh.on (LPn_FEC_STATUS_TERM_TX p)) = true := by
    simp [Dev.on, ht]
  rw [if_pos hw, Nat.mod_eq_of_lt hk]
  have hg : (s.dev.fresh.set (LPn_LINK_STATUS_IDLE_KIND p) k).get (LPn_LINK_STATUS_IDLE_KIND p) = k :=
    Dev.get_set_of_lt _ (Nat.lt_of_lt_of_le hk (by decide : 3 ≤ 2 ^ 2))
  generalize s.dev.fresh.set (LPn_LINK_STATUS_IDLE_KIND p) k = d at hg ⊢
  generalize decide ((if ((d.eligRefresh p).prt p).link.reqKind ≠ 0 then _ else _) = 1) = b
  rw [Dev.get_settle, Dev.get_inst_of_view (Dev.view_lullRequest _ p txFlds) (by decide) p]
  refine (Dev.get_inst_of_view (l := txFlds) (Dev.iff_keep (π := Dev.view txFlds) (fun e => e.view_lullWake p) _ _) (by decide) p).trans ?_
  exact (Dev.get_inst_of_view (d.view_eligRefresh p (l := txFlds) (by decide)) (by decide) p).trans hg

section
variable {f : Frame} (hu : s.dev.lmcUp p = true) (h7 : s.dev.acqState p = 7)
include hu h7

/-- The messages of Lull are taken. -/
theorem lullOpen : (s.dev.fresh.lmcUp p && s.dev.fresh.acqState p == 7) = true := by
  rw [show s.dev.fresh.lmcUp p = true from hu, show s.dev.fresh.acqState p = 7 from h7]
  rfl

theorem lullReq_agrees {k : Nat} (ha : (s.dev.lmcAccept p mtLullReq f).2 = true) (hr : (s.dev.prt p).link.reqKind = 0)
    (he : s.dev.eligible p = true) :
    Answers (.lullReq p f k) s fun d => (d.prt p).link.enter = some (max (s.dev.get (LPn_LINK_CTRL_ENTER_AT p)) 2,
      s.dev.get (LPn_LINK_STATUS_IDLE_KIND p), k) := by
  refine answers_of_run (rfl : _ = execLullReq p f k s) ?_
  rw [if_pos (lullOpen hu h7)]
  dsimp only
  rw [if_pos (show (s.dev.fresh.lmcAccept p mtLullReq f).2 = true from ha)]
  obtain ⟨l, ht, -⟩ := s.dev.fresh.tells_lmcAccept p mtLullReq f
  have h1 : (s.dev.fresh.lmcAccept p mtLullReq f).1.get (LPn_LINK_STATUS_IDLE_KIND p) = s.dev.get (LPn_LINK_STATUS_IDLE_KIND p) := ht.get _
  have h2 : (s.dev.fresh.lmcAccept p mtLullReq f).1.get (LPn_LINK_CTRL_ENTER_AT p) = s.dev.get (LPn_LINK_CTRL_ENTER_AT p) := ht.get _
  have h3 : (s.dev.fresh.lmcAccept p mtLullReq f).1.eligible p = true := (ht.eligible p).trans he
  have h4 : ((s.dev.fresh.lmcAccept p mtLullReq f).1.prt p).link.reqKind = 0 := by
    rw [s.dev.fresh.link_lmcAccept p mtLullReq f]
    exact hr
  generalize (s.dev.fresh.lmcAccept p mtLullReq f).1 = d at h1 h2 h3 h4 ⊢
  have h5 := h3
  simp only [Dev.eligible, Bool.and_eq_true, beq_iff_eq] at h5
  obtain ⟨⟨⟨⟨⟨⟨hl, hle⟩, -⟩, -⟩, -⟩, -⟩, -⟩ := h5
  rw [if_neg (by simp [h4]), if_neg (not_not_intro hle), if_pos ⟨hl, .inl h3⟩, h1, h2]
  simp [Dev.lullAgree]

theorem lullResp_agrees {n k : Nat} (ha : (s.dev.lmcAccept p mtLullResp f).2 = true) (hr : (s.dev.prt p).link.reqKind ≠ 0) :
    Answers (.lullResp p f 0 n k) s fun d => (d.prt p).link.enter = some (n, (s.dev.prt p).link.reqKind, k) ∧ (d.prt
      p).link.reqKind = 0 := by
  refine answers_of_run (rfl : _ = execLullResp p f 0 n k s) ?_
  rw [if_pos (lullOpen hu h7)]
  dsimp only
  have hl := s.dev.fresh.link_lmcAccept p mtLullResp f
  have hr' : (s.dev.fresh.prt p).link.reqKind ≠ 0 := hr
  rw [hl, show (s.dev.fresh.lmcAccept p mtLullResp f).2 = true from ha, if_pos (by simpa using hr), if_pos rfl]
  simp [Dev.lullAgree]

theorem lullResp_refused {n k : Nat} (ha : (s.dev.lmcAccept p mtLullResp f).2 = true) (hr : (s.dev.prt p).link.reqKind ≠ 0) :
    Answers (.lullResp p f 1 n k) s fun d => d.get (LPn_LINK_EVENTS_LULL_REFUSED p) = 1 ∧ (d.prt p).link.backoff = true ∧
      (d.prt p).link.reqKind = 0 := by
  refine answers_of_run (rfl : _ = execLullResp p f 1 n k s) ?_
  rw [if_pos (lullOpen hu h7)]
  dsimp only
  have hl := s.dev.fresh.link_lmcAccept p mtLullResp f
  rw [hl, show (s.dev.fresh.lmcAccept p mtLullResp f).2 = true from ha, if_pos (by simpa using hr), if_neg (by decide),
    if_neg (by decide)]
  generalize (s.dev.fresh.lmcAccept p mtLullResp f).1 = d
  have h0 : (((d.modLink p fun l => { l with reqKind := 0, wakePending := false }).modShed fun h =>
      { h with lulled := d.shed.lulled.filter fun q => q != p }).prt p).link.reqKind = 0 := by
    show ((d.modLink p fun l => { l with reqKind := 0, wakePending := false }).prt p).link.reqKind = 0
    simp
  have hk (e : Dev) (h : (e.prt p).link.reqKind = 0) :
      let t := ((e.inc (LPn_LINK_COUNT_LULL_REFUSALS p)).flag (LPn_LINK_EVENTS_LULL_REFUSED p) true).modLink p fun l =>
        { l with backoff := true }
      t.get (LPn_LINK_EVENTS_LULL_REFUSED p) = 1 ∧ (t.prt p).link.backoff = true ∧ (t.prt p).link.reqKind = 0 := by
    simp (disch := decide) [h]
  exact hk _ h0

end

theorem lullBackoffEnd_ends : Answers (.lullBackoffEnd p) s fun d => (d.prt p).link.backoff = false := by
  refine answers_of_run (rfl : _ = execLullBackoffEnd p s) ?_
  have hb : ((s.dev.fresh.modLink p fun l => { l with backoff := false }).prt p).link.backoff = false := by simp
  generalize s.dev.fresh.modLink p _ = d at hb ⊢
  unfold Dev.lullRequest
  dsimp only
  split
  · simp [Dev.lmcQueue, Dev.lmcFrame, hb]
  · exact hb

/-! ## Entry and refresh -/

theorem lullEnterAt_idles (he : (s.dev.prt p).link.enter.isSome = true) (hl : s.dev.linkState p = 4)
    (hw : (s.dev.prt p).link.wakePending = false) :
    Answers (.lullEnterAt p) s fun d => (d.prt p).link.enter = none ∧ (d.prt p).tx.idle = true := by
  refine answers_of_run (rfl : _ = execLullEnterAt p s) ?_
  dsimp only
  rw [if_pos ⟨he, .inl hl⟩, if_neg (by simp [hw])]
  have h0 : ((s.dev.fresh.modLink p fun l => { l with enter := none, wakePending := false }).prt p).link.enter = none := by simp
  generalize s.dev.fresh.modLink p _ = d at h0 ⊢
  have h1 := congrArg (fun x : Link × Bool × Bool × Bool => x.1.enter) (d.lullPart_sendWord p sleepWord)
  change ((d.sendWord p sleepWord).prt p).link.enter = (d.prt p).link.enter at h1
  generalize d.sendWord p sleepWord = e at h1 ⊢
  have h2 := (e.modTx p fun t => { t with idle := true }).lullPart_txRefresh p false
  have h3 : (e.modTx p fun t => { t with idle := true }).lullPart p = ((e.prt p).link, true, (e.prt p).tx.data, (e.prt p).tx.hostOut) := by simp [Dev.lullPart]
  generalize (e.modTx p fun t => { t with idle := true }).txRefresh p false = g at h2 ⊢
  rw [h3] at h2
  simp only [Dev.lullPart, Prod.mk.injEq] at h2
  obtain ⟨hl, hi, -⟩ := h2
  simp [hl, hi, h1, h0]

theorem sleepWordRx_enters {l : List Int} (hl : s.dev.linkState p = 4) (hk : (s.dev.prt p).link.kinds ≠ (0, 0))
    (hw : wordFound sleepWord l = true) :
    Answers (.sleepWordRx p l) s fun d => d.linkState p = 5 ∧ d.get (LPn_LINK_STATUS_LULL_KIND p) = 0 := by
  refine answers_of_run (rfl : _ = execSleepWordRx p l s) ?_
  rw [if_pos ⟨hl, hk, hw⟩]
  generalize s.dev.fresh.lullHold p = d
  simp (disch := decide) [lsLull]

theorem lullRefresh_bursts (hi : (s.dev.prt p).tx.idle = true) (hk : s.dev.get (LPn_LINK_STATUS_LULL_KIND p) = 0) :
    Answers (.lullRefresh p) s fun d => (d.prt p).link.refreshes = (s.dev.prt p).link.refreshes + 1 ∧ ((txPairs
      (s.dev.mode p)).contains .a = true → (d.txPairOf p .a).burst = burstBlocks) := by
  refine answers_of_run (rfl : _ = execLullRefresh p s) ?_
  rw [if_pos ⟨hi, by simp [Dev.on, hk]⟩]
  have hm : txPairs (s.dev.mode p) = [.a] ∨ txPairs (s.dev.mode p) = [.a, .b] := by
    unfold txPairs
    split <;> simp
  rw [show s.dev.fresh.mode p = s.dev.mode p from rfl]
  have hab : Pair.b.idx ≠ Pair.a.idx := by decide
  rcases hm with hm | hm <;> simp [hm, Dev.each_cons, Dev.each_nil, Dev.txPairOf, vmod_other _ _ hab]

theorem refreshBurstRx_opens (hl : s.dev.linkState p = 5) :
    Answers (.refreshBurstRx p) s fun d => (d.prt p).link.burst = Vector.replicate 2 burstBlocks := by
  refine answers_of_run (rfl : _ = execRefreshBurstRx p s) ?_
  rw [if_pos (show s.dev.fresh.linkState p = lsLull from hl)]
  simp

theorem lullLost_drops (hl : s.dev.linkState p = 5) (hf : s.dev.get (LPn_LINK_CTRL_FLAP_HOLD p) = 0) :
    Answers (.lullLost p) s fun d => d.get (LPn_LINK_STATUS_LAST_DOWN p) = 6 ∧ d.get (LPn_LINK_EVENTS_LULL_LOST p) = 1 ∧
      d.linkState p = 2 := by
  refine answers_of_run (rfl : _ = execLullLost p s) ?_
  rw [if_pos (show s.dev.fresh.linkState p = lsLull from hl)]
  obtain ⟨h1, -, h3, h4⟩ := Dev.linkLoss_searches (s := s.dev.fresh) (p := p) (r := 6) (.inr hl) (by decide) hf
  exact ⟨h1, h3 rfl, h4⟩

/-! ## Wake -/

theorem lullWakeCause_wakes (hl : s.dev.linkState p = 5) (hk : s.dev.get (LPn_LINK_STATUS_LULL_KIND p) = 0)
    (hw : (s.dev.prt p).link.wakeSent = 0) :
    Answers (.lullWakeCause p) s fun d => (d.prt p).link.wakeSent = 1 ∧ (d.prt p).tx.idle = false ∧ (d.prt p).tx.data = true := by
  refine answers_of_run (rfl : _ = execLullWakeCause p s) ?_
  unfold Dev.lullWake
  rw [if_pos ⟨hl, by simp [Dev.on, hk]⟩, if_pos (show (s.dev.fresh.prt p).link.wakeSent = 0 from hw)]
  have h0 : ((s.dev.fresh.modLink p fun l => { l with wakeSent := 1 }).prt p).link.wakeSent = 1 := by simp
  generalize s.dev.fresh.modLink p _ = d at h0 ⊢
  have h1 := congrArg (fun x : Link × Bool × Bool × Bool => x.1.wakeSent) (d.lullPart_sendWake p)
  change ((d.sendWake p).prt p).link.wakeSent = (d.prt p).link.wakeSent at h1
  generalize d.sendWake p = e at h1 ⊢
  have h2 := (e.modTx p fun t => { t with idle := false, data := true }).lullPart_txRefresh p false
  have h3 : (e.modTx p fun t => { t with idle := false, data := true }).lullPart p = ((e.prt p).link, false, true, (e.prt p).tx.hostOut) := by simp [Dev.lullPart]
  generalize (e.modTx p fun t => { t with idle := false, data := true }).txRefresh p false = g at h2 ⊢
  rw [h3] at h2
  simp only [Dev.lullPart, Prod.mk.injEq] at h2
  obtain ⟨hl, hi, hd, -⟩ := h2
  simp [hl, hi, hd, h1, h0]

theorem wakeWordRx_wakes {l : List Int} (hl : s.dev.linkState p = 5) (hk : s.dev.get (LPn_LINK_STATUS_LULL_KIND p) = 0)
    (hw : wordFound wakeWord l = true) :
    Answers (.wakeWordRx p l) s fun d => d.linkState p = 4 ∧ (d.prt p).link.markWake = ((s.dev.prt p).link.kinds.2 == 2)
      ∧ (d.prt p).tx.idle = false := by
  refine answers_of_run (rfl : _ = execWakeWordRx p l s) ?_
  have h5 : s.dev.fresh.linkState p = lsLull := hl
  dsimp only
  rw [if_neg (not_not_intro hw), if_neg fun h => absurd (h5.symm.trans h.2) (by decide), if_pos (.inl ⟨h5, by simp [Dev.on, hk]⟩)]
  have hd : (((s.dev.fresh.iff (s.dev.fresh.linkState p == lsLull) (·.lullRelease p)).chainStart p).prt p).link =
      (s.dev.prt p).link := by
    refine (Dev.link_chainStart _ p).trans ?_
    exact Dev.iff_keep (π := fun d => (d.prt p).link) (g := (·.lullRelease p)) (fun d => Dev.link_of_links (d.links_lullRelease p) p) _ _
  generalize (s.dev.fresh.iff _ _).chainStart p = d at hd ⊢
  have he : ((d.iff ((s.dev.fresh.prt p).link.wakeSent == 0) (·.sendWake p)).prt p).link = (s.dev.prt p).link :=
    (Dev.iff_keep (π := fun d => (d.prt p).link) (g := (·.sendWake p)) (fun d => Dev.link_of_lullPart (d.lullPart_sendWake p)) _ d).trans hd
  generalize d.iff _ _ = e at he ⊢
  have hm : (((e.modTx p fun t => { t with idle := false, data := true }).modLink p fun l =>
      { l with markWake := l.kinds.2 == 2, wakeSent := 0, kinds := (0, 0) }).prt p).link.markWake = ((s.dev.prt p).link.kinds.2 == 2) := by
    simp [he]
  have hi : (((e.modTx p fun t => { t with idle := false, data := true }).modLink p fun l =>
      { l with markWake := l.kinds.2 == 2, wakeSent := 0, kinds := (0, 0) }).prt p).tx.idle = false := by simp
  generalize (e.modTx p _).modLink p _ = g at hm hi ⊢
  have hr := (Dev.rests_txRefresh (g.linkTo p lsUp) p false).trans (g.rests_linkTo p lsUp)
  have hs := Dev.sameRests hr
  have hl4 : ((g.linkTo p lsUp).txRefresh p).linkState p = 4 :=
    (Dev.get_txRefresh_inst (g.linkTo p lsUp) p false (by decide)).trans (g.linkState_linkTo p (by decide))
  generalize (g.linkTo p lsUp).txRefresh p = w at hs hl4 ⊢
  refine ⟨hl4, ?_, ?_⟩
  · rw [Dev.prt_settle, ← hm]
    simp only [hs]
  · rw [Dev.prt_settle, ← hi]
    simp only [hs]

theorem wakeWordTimeout_repeats (hl : s.dev.linkState p = 5) (hw : (s.dev.prt p).link.wakeSent = 1) :
    Answers (.wakeWordTimeout p) s fun d => (d.prt p).link.wakeSent = 2 ∧ d.get (LPn_LULL_COUNT_WAKE_RETRIES p) = min
      (s.dev.get (LPn_LULL_COUNT_WAKE_RETRIES p) + 1) 255 := by
  refine answers_of_run (rfl : _ = execWakeWordTimeout p s) ?_
  rw [if_pos (show s.dev.fresh.linkState p = lsLull from hl), show (s.dev.fresh.prt p).link.wakeSent = 1 from hw]
  have h0 : (((s.dev.fresh.inc (LPn_LULL_COUNT_WAKE_RETRIES p)).modLink p fun l => { l with wakeSent := 2 }).prt p).link.wakeSent = 2 := by
    simp
  have hc : ((s.dev.fresh.inc (LPn_LULL_COUNT_WAKE_RETRIES p)).modLink p fun l => { l with wakeSent := 2 }).get
      (LPn_LULL_COUNT_WAKE_RETRIES p) = min (s.dev.get (LPn_LULL_COUNT_WAKE_RETRIES p) + 1) 255 :=
    Dev.get_set_of_lt s.dev.fresh (Nat.lt_succ_of_le (Nat.min_le_right _ 255))
  generalize (s.dev.fresh.inc _).modLink p _ = d at h0 hc ⊢
  have h1 := congrArg (fun x : Link × Bool × Bool × Bool => x.1.wakeSent) (d.lullPart_sendWake p)
  change ((d.sendWake p).prt p).link.wakeSent = (d.prt p).link.wakeSent at h1
  change (((d.sendWake p).settle s.dev.mem).prt p).link.wakeSent = 2 ∧ ((d.sendWake p).settle s.dev.mem).get _ = _
  rw [Dev.prt_settle, Dev.get_settle, h1, Dev.get_inst_of_view (d.view_sendWake p []) (by decide) p]
  exact ⟨h0, hc⟩

theorem lpiSignal_quiet (hm : s.dev.mode p = 10) (he : s.dev.get (LPn_LINK_CTRL_LPI_EN p) = 1) (hl : s.dev.linkState p = 4) :
    Answers (.lpiSignal p .partnerQuiet) s fun d => d.linkState p = 5 ∧ d.get (LPn_LINK_STATUS_LULL_KIND p) = 1 := by
  refine answers_of_run (rfl : _ = execLpiSignal p .partnerQuiet s) ?_
  rw [if_pos ⟨hm, by simp [Dev.on, he], .inl hl⟩]
  dsimp only
  rw [if_pos (show s.dev.fresh.linkState p = lsUp from hl)]
  generalize s.dev.fresh.lullHold p = d
  simp (disch := decide) [lsLull]

end

/-- Settles O19, clause by clause. -/
theorem lullEntryAndWake : Obligations.LullEntryAndWake :=
  ⟨fun _ _ _ ht hk => hostIdleDetect_shows ht hk,
   fun _ _ _ _ hu h7 ha hr he => lullReq_agrees hu h7 ha hr he,
   fun _ _ _ _ _ hu h7 ha hr => lullResp_agrees hu h7 ha hr,
   fun _ _ _ _ _ hu h7 ha hr => lullResp_refused hu h7 ha hr,
   fun _ _ _ => lullBackoffEnd_ends,
   fun _ _ he hl hw => lullEnterAt_idles he hl hw,
   fun _ _ _ hl hk hw => sleepWordRx_enters hl hk hw,
   fun _ _ hi hk => lullRefresh_bursts hi hk,
   fun _ _ hl => refreshBurstRx_opens hl,
   fun _ _ hl hf => lullLost_drops hl hf,
   fun _ _ hl hk hw => lullWakeCause_wakes hl hk hw,
   fun _ _ _ hl hk hw => wakeWordRx_wakes hl hk hw,
   fun _ _ hl hw => wakeWordTimeout_repeats hl hw,
   fun _ _ hm he hl => lpiSignal_quiet hm he hl⟩

end Sys2Proof.Machine

/-! Cable diagnostics of a stopped port, coefficient requests, and the states of a port's transmitters (05 R206–R212, 06). -/

namespace Sys2Proof.Machine

-- One theorem at a time: side by side they ask for more memory than a check may have.
set_option Elab.async false

open Reg

@[simp] theorem Dev.linkState_modPort (s : Dev) (p q : Port) (g : PortSt → PortSt) : (s.modPort p g).linkState q = s.linkState q := rfl
@[simp] theorem Dev.quenching_modPort (s : Dev) (p : Port) (g : PortSt → PortSt) : (s.modPort p g).quenching = s.quenching := rfl

/-! ## Cable diagnostics -/

section
variable {s : State}

theorem cableDiag_probes {c : Desc} (ha : s.dev.Acts c) (ho : isOptical (s.dev.get (LPn_PORT_CFG_MODE (Desc.port c))) = false)
    (hp : diagPairs c ≠ []) (h18 : c.byte 18 = 0) (h21 : c.bits 21 3 0 ≤ 12) (hl : c.length = 144 * (diagPairs c).length)
    (hh : (s.dev.ring c.ring).owner = 0) (hs : s.dev.linkState (Desc.port c) = 0) (hd : (s.dev.prt (Desc.port c)).fd.diag = false) :
    Answers (.cableDiag c) s fun d => d.waits = s.dev.waits ++ [(.cableDiag (Desc.port c), Desc.stamp c s.dev.timebase)]
      ∧ (d.prt (Desc.port c)).fd.diag = true := by
  refine answers_of_descriptor (rfl : _ = execCableDiag c s) ha ?_
  have hs' : (s.dev.fresh.opened c).spanBad (Desc.stamp c s.dev.timebase) (144 * (diagPairs c).length) = false :=
    Dev.spanBad_opened (s := s.dev.fresh) (d := c) _ hh s.dev.timebase
  have hn : (diagPairs c).length ≠ 0 := fun h => hp (List.length_eq_zero_iff.1 h)
  have ho' : isOptical ((s.dev.fresh.opened c).get (LPn_PORT_CFG_MODE (Desc.port c))) = false := by
    simpa (disch := decide) using ho
  have hs0 : ((s.dev.fresh.opened c).linkState (Desc.port c) == 0) = true := by simp [hs]
  rw [show diagPairs (Desc.stamp c s.dev.timebase) = diagPairs c from rfl]
  simp [ho', hp, h18, Nat.not_lt.2 h21, hl, hs', hn, hs, hd]

theorem cableDiagProbeDone_ends {p : Port} {l : List ProbeRes} {c : Desc} (hw : s.dev.waits = [(.cableDiag p, c)]) :
    Answers (.cableDiagProbeDone p l) s fun d => (d.prt p).fd.diag = false ∧ d.get (LPn_FD_EVENTS_DIAG_DONE p) = 1 ∧ d.waits = [] := by
  refine answers_of_run (rfl : _ = execCableDiagProbeDone p l s) ?_
  dsimp only
  rw [show s.dev.fresh.waiting (.cableDiag p) = some c from Dev.waiting_of_waits hw]
  have h0 : ({ s.dev.fresh with waits := s.dev.fresh.waits.eraseP fun w => w.1 == WaitKind.cableDiag p } : Dev).waits = [] := by
    show (s.dev.waits.eraseP fun w => w.1 == WaitKind.cableDiag p) = []
    simp [hw]
  dsimp only
  generalize ({ s.dev.fresh with waits := _ } : Dev) = d at h0 ⊢
  unfold Dev.diagDone
  dsimp only
  generalize (diagPairs c).map _ = r
  have h1 : (d.putData c 0 (r.flatMap fun e => e.2.1)).1.waits = [] := (Dev.sameRim (d.rim_putData c 0 _)).2.2.2.2.2.2.2.2.2.1.trans h0
  generalize (d.putData c 0 (r.flatMap fun e => e.2.1)) = w at h1 ⊢
  have h2 : ((w.1.flag (LPn_FD_EVENTS_DIAG_DONE p) true).finish c (statusOf w.2) (sumNat (r.map fun e => e.2.2 * (if e.1 = .a then 1 else 256)))).waits = [] := by
    simpa using h1
  have h3 : ((w.1.flag (LPn_FD_EVENTS_DIAG_DONE p) true).finish c (statusOf w.2) (sumNat (r.map fun e => e.2.2 * (if e.1 = .a then 1 else 256)))).get
      (LPn_FD_EVENTS_DIAG_DONE p) = 1 := by
    simp (disch := decide)
  generalize (w.1.flag _ _).finish c _ _ = e at h2 h3 ⊢
  have h4 : (e.modFd p fun f => { f with diag := false }).waits = [] := h2
  unfold Dev.probeEnded
  dsimp only
  rw [h4]
  have h5 : ((e.modFd p fun f => { f with diag := false }).prt p).fd.diag = false := by simp
  exact ⟨h5, h3, rfl⟩

/-! ## Coefficient requests -/

variable {p : Port}

theorem coefReq_applies {f : Frame} {op tap n main : Nat} {t : Vector Int 8} (hu : s.dev.lmcUp p = true) (h7 : s.dev.acqState p ≠ 7)
    (ht : s.dev.get (LPn_TX_CTRL_TRAIN_ADAPT p) = 1) (hf : f.ackReq = false) (ha : (s.dev.lmcAccept p mtCoefReq f).2 = true)
    (hc : s.dev.coefResult p (if n = 0 then .a else .b) op tap = some (t, main)) (hv : txValid t main = true) :
    Answers (.coefReq p f op tap n) s fun d => (d.txPairOf p (if n = 0 then .a else .b)).taps = t ∧ (d.txPairOf p (if n =
      0 then .a else .b)).main = main ∧ ((d.prt p).lmc.out.map fun e => e.typ) = ((s.dev.prt p).lmc.out.map fun e =>
      e.typ) ++ [mtCoefResp] := by
  refine answers_of_run (rfl : _ = execCoefReq p f op tap n s) ?_
  dsimp only
  rw [if_pos (show s.dev.fresh.lmcUp p = true from hu), if_pos (show (s.dev.fresh.lmcAccept p mtCoefReq f).2 = true from ha)]
  obtain ⟨k, hk, hk0⟩ := s.dev.fresh.tells_lmcAccept p mtCoefReq f
  rw [hk0 hf] at hk
  generalize (if n = 0 then Pair.a else Pair.b) = x at hc ⊢
  have hx := Dev.txPair_rest hk.2.2.1 p x
  have hr : (s.dev.fresh.lmcAccept p mtCoefReq f).1.coefResult p x op tap = some (t, main) := by
    have h1 := congrArg TxPair.taps hx
    have h2 := congrArg TxPair.main hx
    simp only [TxPair.codeless] at h1 h2
    rw [← hc]
    unfold Dev.coefResult
    rw [h1, h2, hk.mode]
    rfl
  have h7' : (s.dev.fresh.lmcAccept p mtCoefReq f).1.acqState p ≠ 7 := by rw [hk.acqState]; exact h7
  have ht' : (s.dev.fresh.lmcAccept p mtCoefReq f).1.get (LPn_TX_CTRL_TRAIN_ADAPT p) = 1 := (hk.get _).trans ht
  have hu' : (s.dev.fresh.lmcAccept p mtCoefReq f).1.lmcUp p = true := (hk.lmcUp p).trans hu
  have hq : (((s.dev.fresh.lmcAccept p mtCoefReq f).1.prt p).lmc.out.map TxFrame.typ) = (s.dev.prt p).lmc.out.map TxFrame.typ := by
    simpa using hk.out
  generalize (s.dev.fresh.lmcAccept p mtCoefReq f).1 = d at hr h7' ht' hu' hq ⊢
  have ha : d.coefApply p x op tap = (d.modTxPair p x fun q => { q with taps := t, main := main }, 0) := by
    unfold Dev.coefApply
    dsimp only
    rw [if_neg (by simp [h7']), if_neg (by simp [Dev.on, ht']), hr]
    dsimp only
    rw [if_pos hv]
  rw [ha]
  have hu2 : (d.modTxPair p x fun q => { q with taps := t, main := main }).lmcUp p = true := hu'
  have ho : (((d.modTxPair p x fun q => { q with taps := t, main := main }).prt p).lmc.out.map TxFrame.typ) =
      (s.dev.prt p).lmc.out.map TxFrame.typ := by simpa using hq
  have hp : ((d.modTxPair p x fun q => { q with taps := t, main := main }).txPairOf p x).taps = t ∧
      ((d.modTxPair p x fun q => { q with taps := t, main := main }).txPairOf p x).main = main := by
    simp [Dev.txPairOf]
  dsimp only
  generalize d.modTxPair p x _ = e at hu2 ho hp ⊢
  generalize pay 0 ++ pay tap ++ pay n ++ pay _ = b
  have htl := Dev.tells_lmcTell mtCoefResp hu2 b
  have hx2 := Dev.txPair_rest htl.2.2.1 p x
  have h1 := congrArg TxPair.taps hx2
  have h2 := congrArg TxPair.main hx2
  have h3 := htl.out
  simp only [TxPair.codeless] at h1 h2
  generalize e.lmcTell p mtCoefResp b = w at h1 h2 h3 ⊢
  exact ⟨h1.trans hp.1, h2.trans hp.2, h3.trans (congrArg (· ++ _) ho)⟩

/-! ## The transmitters' states -/

section
variable (hb : s.dev.sys.brownout = false) (hq : s.dev.quenching = false) (hm : (txPairs (s.dev.mode p)).contains .a = true)
include hb hq hm

theorem txDriverSettled_squelches (hl : s.dev.linkState p = 2) (hd : (s.dev.prt p).tx.driver = false) :
    Answers (.txDriverSettled p) s fun d => (d.prt p).tx.driver = true ∧ (d.prt p).tx.delay = true ∧ d.get
      (LPn_TX_STATUS_DRV_EN p) = 1 ∧ d.get (LPn_TX_STATUS_TXS p .a) = txSquelch := by
  refine answers_of_run (rfl : _ = execTxDriverSettled p s) ?_
  rw [if_pos ⟨by simp [Dev.running, hl], by simp [hd], by simp [hb]⟩]
  have ho : (s.dev.fresh.modTx p fun t => { t with driver := true, delay := true }).txPortOff p = false := by
    simp [Dev.txPortOff, hb, hl]
  have ht : (s.dev.fresh.modTx p fun t => { t with driver := true, delay := true }).txTarget p .a = txSquelch := by
    unfold Dev.txTarget
    rw [ho]
    have hm' : Pair.a ∈ txPairs (s.dev.prt p).link.mode := by simpa [Dev.mode] using hm
    simp [Dev.mode, hm']
  have hp : ((s.dev.fresh.modTx p fun t => { t with driver := true, delay := true }).prt p).tx.driver = true ∧
      ((s.dev.fresh.modTx p fun t => { t with driver := true, delay := true }).prt p).tx.delay = true := by simp
  have hn : (s.dev.fresh.modTx p fun t => { t with driver := true, delay := true }).quenching = false := hq
  generalize s.dev.fresh.modTx p _ = d at hn ho ht hp ⊢
  have hs := Dev.txRefresh_sameRests d p false
  have h1 := d.get_drvEn_txRefresh p (.inl hn) false
  have h2 := d.get_txs_txRefresh p (.inl hn) false .a
  rw [ho] at h1
  rw [ht] at h2
  generalize d.txRefresh p = e at hs h1 h2 ⊢
  simp only [Dev.prt_settle, Dev.get_settle, hs]
  exact ⟨hp.1, hp.2, h1, h2⟩

theorem txDrvDelayEnd_trains (hl : s.dev.linkState p = 2) (hd : (s.dev.prt p).tx.driver = true) (hy : (s.dev.prt p).tx.delay = true)
    (hs : s.dev.get (LPn_TX_CTRL_SW_SQUELCH p) = 0) (hh : s.dev.get (LPn_TX_STATUS_HOST_LOST p) = 0)
    (ht : (s.dev.prt p).tx.stopping = false ∧ (s.dev.prt p).tx.quenchLf = false ∧ (s.dev.prt p).tx.idle = false ∧
      (s.dev.prt p).tx.data = false) (ho : (s.dev.txPairOf p .a).dacOff = false) :
    Answers (.txDrvDelayEnd p) s fun d => (d.prt p).tx.delay = false ∧ d.get (LPn_TX_STATUS_TXS p .a) = txTrain := by
  refine answers_of_run (rfl : _ = execTxDrvDelayEnd p s) ?_
  rw [if_pos (show (s.dev.fresh.prt p).tx.delay = true from hy)]
  obtain ⟨hst, hql, hi, hda⟩ := ht
  have ht : (s.dev.fresh.modTx p fun t => { t with delay := false }).txTarget p .a = txTrain := by
    simp only [Dev.txPairOf] at ho
    have hm' : Pair.a ∈ txPairs (s.dev.prt p).link.mode := by simpa [Dev.mode] using hm
    unfold Dev.txTarget
    simp [Dev.txPortOff, Dev.mode, hm', hb, hl, hd, hs, hh, hst, hql, hi, hda, ho]
  have hp : ((s.dev.fresh.modTx p fun t => { t with delay := false }).prt p).tx.delay = false := by simp
  have hn : (s.dev.fresh.modTx p fun t => { t with delay := false }).quenching = false := hq
  generalize s.dev.fresh.modTx p _ = d at hn ht hp ⊢
  have hs := Dev.txRefresh_sameRests d p false
  have h2 := d.get_txs_txRefresh p (.inl hn) false .a
  rw [ht] at h2
  generalize d.txRefresh p = e at hs h2 ⊢
  simp only [Dev.prt_settle, Dev.get_settle, hs]
  exact ⟨hp, h2⟩

theorem hostLoss_faults (hl : s.dev.linkState p = 4) (hd : (s.dev.prt p).tx.driver = true) (hh : s.dev.get (LPn_TX_STATUS_HOST_LOST p) = 1)
    (hsq : s.dev.get (LPn_TX_CTRL_SQ_HOST p) = 0) (hs : s.dev.get (LPn_TX_CTRL_SW_SQUELCH p) = 0)
    (ht : (s.dev.prt p).tx.stopping = false ∧ (s.dev.prt p).tx.delay = false) :
    Answers (.hostLoss p) s fun d => (d.prt p).tx.hostOut = true ∧ d.get (LPn_TX_STATUS_TXS p .a) = txLf := by
  refine answers_of_run (rfl : _ = execHostLoss p s) ?_
  have hh' : s.dev.fresh.on (LPn_TX_STATUS_HOST_LOST p) = true := by simp [Dev.on, hh]
  rw [if_pos hh']
  obtain ⟨hst, hy⟩ := ht
  have ht : (s.dev.fresh.modTx p fun t => { t with hostOut := true }).txTarget p .a = txLf := by
    have hm' : Pair.a ∈ txPairs (s.dev.prt p).link.mode := by simpa [Dev.mode] using hm
    unfold Dev.txTarget
    simp [Dev.txPortOff, Dev.mode, hm', hb, hl, hd, hs, hh, hsq, hst, hy]
  have hp : ((s.dev.fresh.modTx p fun t => { t with hostOut := true }).prt p).tx.hostOut = true := by simp
  have hn : (s.dev.fresh.modTx p fun t => { t with hostOut := true }).quenching = false := hq
  generalize s.dev.fresh.modTx p _ = d at hn ht hp ⊢
  have h1 := congrArg (fun x : Link × Bool × Bool × Bool => x.2.2.2) (d.lullPart_txRefresh p false)
  have h2 := d.get_txs_txRefresh p (.inl hn) false .a
  rw [ht] at h2
  exact ⟨h1.trans hp, h2⟩

end

theorem lfNoticeRepeat_queues (hx : s.dev.get (LPn_TX_STATUS_TXS p .a) = txLf) (hu : s.dev.lmcUp p = true) :
    Answers (.lfNoticeRepeat p) s fun d => ((d.prt p).lmc.out.map fun e => e.typ) = ((s.dev.prt p).lmc.out.map fun e =>
      e.typ) ++ [mtNotice] := by
  refine answers_of_run (rfl : _ = execLfNoticeRepeat p s) ?_
  rw [if_pos (by simp [bothPairs, hx])]
  exact (Dev.tells_lmcTell (s := s.dev.fresh) _ hu _).out

end

/-- Settles O14, clause by clause. -/
theorem cableDiagnosticsAndTransmitter : Obligations.CableDiagnosticsAndTransmitter :=
  ⟨fun _ _ ha ho hp h18 h21 hl hh hs hd => cableDiag_probes ha ho hp h18 h21 hl hh hs hd,
   fun _ _ _ _ hw => cableDiagProbeDone_ends hw,
   fun _ _ _ _ _ _ _ _ hu h7 ht hf ha hc hv => coefReq_applies hu h7 ht hf ha hc hv,
   fun _ _ hl hd hb hq hm => txDriverSettled_squelches hb hq hm hl hd,
   fun _ _ hl hd hy hb hq hm hs hh ht ho => txDrvDelayEnd_trains hb hq hm hl hd hy hs hh ht ho,
   fun _ _ hl hd hb hq hm hh hsq hs ht => hostLoss_faults hb hq hm hl hd hh hsq hs ht,
   fun _ _ hx hu => lfNoticeRepeat_queues hx hu⟩

end Sys2Proof.Machine

/-! The codes of a port: inner blocks, marker groups, codewords passed on, and the post-FEC interval (07 R251, R252–R268). -/

namespace Sys2Proof.Machine

-- One theorem at a time: side by side they ask for more memory than a check may have.
set_option Elab.async false

open Reg

/-! ## Symbols of bits -/

theorem chunks_length {α : Type} (k n : Nat) (l : List α) (h : k * n ≤ l.length) (hk : 0 < k) : (chunks k n l).length = n := by
  induction n generalizing l with
  | zero => rfl
  | succ n ih =>
    have hl : l.isEmpty = false := by
      cases l
      · simp at h
        omega
      · rfl
    have hd : k * n ≤ (l.drop k).length := by
      rw [List.length_drop]
      rw [Nat.mul_succ] at h
      omega
    simp [chunks, hl, ih _ hd]

theorem symbolsOfBits_length (l : List Bool) : (symbolsOfBits l).1.length = l.length / 10 := by
  simp only [symbolsOfBits, List.length_map]
  exact chunks_length _ _ _ (Nat.mul_div_le _ _) (by decide)

theorem innerBits_length (b : BitVec 2048) : (innerBits b).length = 2048 := by simp [innerBits]

theorem innerFlags_length (l : List Nat) (n : Nat) : (innerFlags l n).length = 192 := by simp [innerFlags]

/-! ## The receive stream of the inner code -/

section
variable (s : Dev) (p : Port)

/-- What a window step moves on: the number of blocks in the window, the place of the target, the count of released blocks, and
the receive stream. -/
def Fec.stream (f : Fec) : Nat × Nat × Nat × List (Nat × Bool) := (f.win.length, f.pos, f.ctr.get 23, f.rxSyms)

/-- What a window step moves on of a port. -/
def Dev.stream (s : Dev) (p : Port) : Nat × Nat × Nat × List (Nat × Bool) := (s.prt p).fec.stream

theorem Dev.stream_modFec {g : Fec → Fec} (h : ∀ f, (g f).stream = f.stream) : (s.modFec p g).stream p = s.stream p := by
  simp [Dev.stream, h]

theorem Dev.stream_fecAdd {i : Nat} (n : Nat) (h : Fin.ofNat 64 i ≠ 23) : (s.fecAdd p i n).stream p = s.stream p :=
  s.stream_modFec p fun f => by
    unfold Fec.stream
    rw [vmod_other _ _ h]

theorem Dev.stream_sample (c i q : Nat) : (s.sample c i q).stream p = s.stream p := by simp [Dev.stream]

theorem Dev.stream_count (c i n : Nat) : (s.count c i n).stream p = s.stream p := by simp [Dev.stream]

theorem Dev.stream_raise (f : Fld) (sev : Nat) (b : List Byte) : (s.raise f sev b).stream p = s.stream p := by
  simp [Dev.stream, Dev.raise_eq]

theorem Dev.stream_draw : s.draw.stream p = s.stream p := rfl

theorem Dev.stream_settle (m : Mem) : (s.settle m).stream p = s.stream p := rfl

/-- A block that enters the window leaves the target, the counts and the stream. -/
theorem Dev.stream_innerTake (ys : List (Int × Bool)) :
    (s.innerTake p ys).stream p = ((s.prt p).fec.win.length + 1, (s.stream p).2) := by
  unfold Dev.innerTake
  dsimp only
  generalize ((s.modFec p _).innerWindow p).detect [] = w
  generalize innerHard (w.getLastD []) = b
  simp [Dev.stream, Fec.stream]

/-- A released block is counted, and its symbols enter the stream. -/
theorem Dev.stream_innerRelease (r : InnerRun) : ∃ l : List (Nat × Bool), l.length = 192 ∧ (s.innerRelease p r).1.stream p =
    ((s.prt p).fec.win.length - 1, (s.prt p).fec.pos + 1, min ((s.prt p).fec.ctr.get 23 + 1) (2 ^ 64 - 1), (s.prt p).fec.rxSyms ++ l) := by
  unfold Dev.innerRelease
  dsimp only
  generalize innerBad _ = bad
  generalize innerHard (r.llr.getD 2 []) = b
  have hs : (symbolsOfBits ((innerBits b).take 1920)).1.length = 192 := by
    rw [symbolsOfBits_length, List.length_take, innerBits_length]
    rfl
  have hf : (if bad = true then innerFlags ((r.llr.getD 2 []).map Int.natAbs) (s.get (LPn_FEC_CTRL_ERASE_THR p)) else
      List.replicate 192 false).length = 192 := by
    split
    exacts [innerFlags_length _ _, List.length_replicate]
  generalize (symbolsOfBits _).1 = syms at hs ⊢
  generalize (if bad = true then innerFlags _ _ else _) = flags at hf ⊢
  refine ⟨syms.zip flags, by simp [hs, hf], (Dev.stream_fecAdd _ p _ (by decide)).trans ?_⟩
  simp [Dev.stream, Fec.stream, Dev.fecAdd]

end

/-! ## Inner blocks -/

section
variable {s : State} {p : Port} {l : List Int} (hi : s.dev.get (LPn_FEC_STATUS_INNER_ON p) = 1) (hc : (s.dev.prt p).fec.chain = true)
  (hf : (s.dev.prt p).fec.fresh = []) (hl : l.length = 1024)
include hi hc hf hl

theorem innerWindowStep_fills (hw : (s.dev.prt p).fec.win.length < 3) :
    Answers (.innerWindowStep p l) s fun d => (d.prt p).fec.win.length = (s.dev.prt p).fec.win.length + 1 ∧ (d.prt
      p).fec.pos = (s.dev.prt p).fec.pos ∧ (d.prt p).fec.rxSyms = (s.dev.prt p).fec.rxSyms := by
  refine answers_of_run (rfl : _ = execInnerWindowStep p l s) ?_
  have hf' : (s.dev.fresh.prt p).fec.fresh = [] := hf
  dsimp only
  rw [hf', if_pos ⟨by simp [Dev.on, hi], hc, by simp [hl]⟩]
  generalize List.take 1024 _ = ys
  have ht := s.dev.fresh.stream_innerTake p ys
  unfold Dev.innerStep
  dsimp only
  generalize s.dev.fresh.innerTake p ys = d at ht ⊢
  simp only [Dev.stream, Fec.stream, Prod.mk.injEq] at ht
  obtain ⟨h1, h2, -, h3⟩ := ht
  have h1' : (d.prt p).fec.win.length = (s.dev.prt p).fec.win.length + 1 := h1
  rw [if_pos (by omega)]
  exact ⟨h1, h2, h3⟩

theorem innerWindowStep_releases (hw : (s.dev.prt p).fec.win.length = 3) :
    Answers (.innerWindowStep p l) s fun d => (d.prt p).fec.win.length = 3 ∧ (d.prt p).fec.pos = (s.dev.prt p).fec.pos +
      1 ∧ (d.prt p).fec.ctr.get 23 = min ((s.dev.prt p).fec.ctr.get 23 + 1) (2 ^ 64 - 1) ∧ (d.prt p).fec.rxSyms.length =
      (s.dev.prt p).fec.rxSyms.length + 192 := by
  refine answers_of_run (rfl : _ = execInnerWindowStep p l s) ?_
  have hf' : (s.dev.fresh.prt p).fec.fresh = [] := hf
  dsimp only
  rw [hf', if_pos ⟨by simp [Dev.on, hi], hc, by simp [hl]⟩]
  generalize List.take 1024 _ = ys
  have ht := s.dev.fresh.stream_innerTake p ys
  unfold Dev.innerStep
  dsimp only
  generalize s.dev.fresh.innerTake p ys = d at ht ⊢
  simp only [Dev.stream, Fec.stream, Prod.mk.injEq] at ht
  obtain ⟨h1, h2, h3, h4⟩ := ht
  have h1' : (d.prt p).fec.win.length = 4 := by
    rw [h1]
    exact congrArg (· + 1) hw
  rw [if_neg (by omega)]
  generalize InnerWindow.run _ _ _ _ _ _ _ = r
  obtain ⟨syms, hs, hr⟩ := d.stream_innerRelease p r.1
  rw [h1', h2, h3, h4] at hr
  generalize d.innerRelease p r.1 = q at hr ⊢
  have h5 : ((q.1.sample 0x37 p r.2).iff q.2 fun s => ((s.fecAdd p 24 1).flag (LPn_FEC_EVENTS_INNER_UNCORR p) true).count 0x38 p).stream p =
      q.1.stream p := by
    rw [← q.1.stream_sample p 0x37 p r.2]
    refine Dev.iff_keep (π := fun d => d.stream p)
      (g := fun s => ((s.fecAdd p 24 1).flag (LPn_FEC_EVENTS_INNER_UNCORR p) true).count 0x38 p) (fun e => ?_) q.2 _
    rw [Dev.stream_count]
    exact e.stream_fecAdd p 1 (by decide)
  generalize (q.1.sample 0x37 p r.2).iff q.2 _ = e at h5 ⊢
  have hk (w : Dev) (h : w.stream p = e.stream p) : (w.prt p).fec.win.length = 3 ∧ (w.prt p).fec.pos = (s.dev.prt p).fec.pos + 1 ∧
      (w.prt p).fec.ctr.get 23 = min ((s.dev.prt p).fec.ctr.get 23 + 1) (2 ^ 64 - 1) ∧ (w.prt p).fec.rxSyms.length =
      (s.dev.prt p).fec.rxSyms.length + 192 := by
    have := h.trans (h5.trans hr)
    simp only [Dev.stream, Fec.stream, Prod.mk.injEq] at this
    obtain ⟨k1, k2, k3, k4⟩ := this
    refine ⟨k1, k2, k3, ?_⟩
    rw [k4, List.length_append, hs]
    rfl
  have hg : ((e.modFec p fun f => { f with guard := 2, bad := 0 }).fecAdd p 26 1 |>.raise (LPn_FEC_EVENTS_PROP_RESET p) 1).stream p =
      e.stream p := by
    rw [Dev.stream_raise, Dev.stream_fecAdd _ p _ (by decide)]
    exact e.stream_modFec p fun _ => rfl
  generalize ((e.modFec p _).fecAdd p 26 1).raise _ 1 = w at hg ⊢
  split
  · refine hk (w.draw.settle s.dev.mem) ?_
    rw [Dev.stream_settle, Dev.stream_draw, hg]
  · refine hk (e.draw.settle s.dev.mem) ?_
    rw [Dev.stream_settle, Dev.stream_draw]

end

/-! ## Marker groups and the post-FEC interval -/

section
variable {s : State} {p : Port}

theorem amGroupCheck_locks {l : List Nat} (hc : (s.dev.prt p).fec.chain = true) (hm : isNrz (s.dev.mode p) = false) (hl : l ≠ [])
    (ha : l.all (fun e => decide (e ≤ 8)) = true) :
    Answers (.amGroupCheck p l) s fun d => d.get (LPn_FEC_STATUS_FRAME_LOCK p) = 1 ∧ (d.prt p).fec.missed = 0 := by
  refine answers_of_run (rfl : _ = execAmGroupCheck p l s) ?_
  rw [if_pos ⟨hc, by simp [hm]⟩]
  have hf : (l != [] && decide (3 * l.length ≤ 4 * (l.filter fun e => decide (e ≤ 8)).length)) = true := by
    rw [List.filter_eq_self.2 (List.all_eq_true.1 ha)]
    simp [hl]
    omega
  dsimp only
  rw [hf]
  simp (disch := decide)

theorem postBerInterval_clears (ha : (s.dev.prt p).fec.pbAny = true) (hb : (s.dev.prt p).fec.pbBits = 0) :
    Answers (.postBerInterval p) s fun d => d.get (LPn_FEC_STATUS_POST_BER p) = 0xFFFF ∧ (d.prt p).fec.pbWords = 0 ∧
      (d.prt p).fec.pbAny = false := by
  refine answers_of_run (rfl : _ = execPostBerInterval p s) ?_
  have ha' : (s.dev.fresh.prt p).fec.pbAny = true := ha
  have hb' : (s.dev.fresh.prt p).fec.pbBits = 0 := hb
  dsimp only
  rw [ha', hb', if_neg (by decide), if_pos rfl]
  simp (disch := decide)

/-! ## Codewords passed on -/

theorem Dev.prt_laneTime (d : Dev) (k : Lane) (l : List Bool) (p : Port) : (d.laneTime k l).prt p = d.prt p := by
  unfold Dev.laneTime
  dsimp only
  split
  · rfl
  · split
    · rfl
    · split <;> rfl

theorem Dev.prt_hostSymbols (d : Dev) (p : Port) (l : List Nat) : (d.hostSymbols p l).prt p = d.prt p := by
  unfold Dev.hostSymbols
  dsimp only
  refine Dev.each_keep (π := fun d => d.prt p) (fun s e => ?_) _ d
  exact s.prt_laneTime e.1 _ p

/-- The codeword passed on stays while the lanes take it. -/
theorem Dev.rxOut_hostWord (d : Dev) (p : Port) (l : List Nat) : ((d.hostWord p l).prt p).fec.rxOut = (d.prt p).fec.rxOut := by
  unfold Dev.hostWord
  dsimp only
  split
  · rw [Dev.prt_hostSymbols]
  · split
    · simp
    · rw [Dev.prt_hostSymbols]
      simp

/-! ## The codes stay while a codeword goes out on the line -/

section
variable (d : Dev) (p : Port)

theorem Dev.fec_pairLevels (x : Pair) (g : List Nat) : ((d.pairLevels p x g).prt p).fec = (d.prt p).fec := by
  simp [Dev.pairLevels, Dev.pairSymbols]

theorem Dev.fec_innerSend (n : Nat) : ((d.innerSend p n).prt p).fec = (d.prt p).fec := by
  unfold Dev.innerSend
  refine Dev.each_keep (π := fun d => (d.prt p).fec) (fun s e => ?_) _ d
  rw [Dev.fec_pairLevels]
  simp

theorem Dev.fec_lineSymbols (l : List Nat) : ((d.lineSymbols p l).prt p).fec = (d.prt p).fec := by
  have hc : ((d.carriersIn p l).1.prt p).fec = (d.prt p).fec := by
    unfold Dev.carriersIn
    dsimp only
    split
    · simp [Dev.lmcBits]
    · rfl
  unfold Dev.lineSymbols
  dsimp only
  generalize d.carriersIn p l = r at hc ⊢
  split
  · rw [Dev.fec_innerSend]
    simp [hc]
  · split
    · rw [Dev.fec_pairLevels, Dev.fec_pairLevels]
      simp [hc]
    · rw [Dev.fec_pairLevels]
      simp [hc]

theorem Dev.fec_lineWord (l : List Nat) : ((d.lineWord p l).prt p).fec = (d.prt p).fec := by
  unfold Dev.lineWord
  dsimp only
  split
  · exact d.fec_lineSymbols p l
  · split
    · simp
    · rw [Dev.fec_lineSymbols]
      simp

theorem Dev.fec_lineFault : ((d.lineFault p).prt p).fec = (d.prt p).fec := by
  unfold Dev.lineFault
  dsimp only
  split
  · rw [Dev.prt_draw]
    refine (Dev.fec_pairLevels ..).trans ?_
    simp
  · rw [Dev.prt_draw, Dev.fec_lineWord]
    simp

end

theorem codewordGroup_pos (m : Nat) : 1 ≤ codewordGroup m := by
  unfold codewordGroup
  split <;> decide

/-- Where the receive stream holds no whole group, the codeword given is the next. -/
theorem Dev.rxNext_given {d : Dev} {l : List Nat} (hh : (d.prt p).fec.half = []) (hr : (d.prt p).fec.rxSyms.length < 544) :
    d.rxNext p l = (d, l.map fun v => (v, false)) := by
  have hg : 544 ≤ 544 * codewordGroup (d.mode p) := Nat.le_mul_of_pos_right _ (codewordGroup_pos _)
  unfold Dev.rxNext
  dsimp only
  rw [if_neg (not_not_intro hh), if_pos (by omega)]

/-- With neither termination nor monitoring and no SLIP a received codeword is passed on as it is. -/
theorem Dev.rxCodeword_passes {d : Dev} (w : List (Nat × Bool)) (ht : d.get (LPn_FEC_STATUS_TERM_RX p) = 0)
    (hn : d.get (LPn_FEC_CTRL_RS_MON_RX p) = 0) (hs : (d.prt p).slipRx = []) :
    ((d.rxCodeword p w).prt p).fec.rxOut = w.map (·.1) := by
  have h1 : (d.slipMark p true).2 = false := by simp [Dev.slipMark, hs]
  have h2 : (d.slipMark p true).1.on (LPn_FEC_CTRL_RS_MON_RX p) = false := by
    show (d.get (LPn_FEC_CTRL_RS_MON_RX p) != 0) = false
    simp [hn]
  unfold Dev.rxCodeword
  dsimp only
  rw [h1, h2]
  simp [Dev.on, ht]

/-- So is one toward the line. -/
theorem Dev.txCodeword_passes {d : Dev} (w : List Nat) (ht : d.get (LPn_FEC_STATUS_TERM_TX p) = 0)
    (hn : d.get (LPn_FEC_CTRL_RS_MON_TX p) = 0) (hs : (d.prt p).slipTx = []) :
    ((d.txCodeword p w).prt p).fec.txOut = w := by
  have h1 : (d.slipMark p false).2 = false := by simp [Dev.slipMark, hs]
  have h2 : (d.slipMark p false).1.on (LPn_FEC_CTRL_RS_MON_TX p) = false := by
    show (d.get (LPn_FEC_CTRL_RS_MON_TX p) != 0) = false
    simp [hn]
  unfold Dev.txCodeword
  dsimp only
  rw [h1, h2]
  simp [Dev.on, ht]

theorem codewordDecode_rx {l : List Nat} (h7 : s.dev.acqState p = 7) (hm : isNrz (s.dev.mode p) = false) (hl : l.length = 544)
    (hh : (s.dev.prt p).fec.half = []) (hr : (s.dev.prt p).fec.rxSyms.length < 544) (ht : s.dev.get (LPn_FEC_STATUS_TERM_RX p) = 0)
    (hn : s.dev.get (LPn_FEC_CTRL_RS_MON_RX p) = 0) (hs : (s.dev.prt p).slipRx = []) :
    Answers (.codewordDecode p .rx l) s fun d => (d.prt p).fec.rxOut = l.map (· % 1024) := by
  refine answers_of_run (rfl : _ = execCodewordDecode p .rx l s) ?_
  have h7' : s.dev.fresh.acqState p = 7 := h7
  dsimp only
  unfold Dev.rxTime
  dsimp only
  rw [if_neg (by simp [hm]), h7']
  simp only [beq_self_eq_true, if_true]
  rw [Dev.rxNext_given (d := s.dev.fresh) hh hr]
  dsimp only
  rw [if_pos (by simp [hl])]
  have ht' (g : Link → Link) : (s.dev.fresh.modLink p g).get (LPn_FEC_STATUS_TERM_RX p) = 0 := ht
  have hn' (g : Link → Link) : (s.dev.fresh.modLink p g).get (LPn_FEC_CTRL_RS_MON_RX p) = 0 := hn
  have hs' : ((s.dev.fresh.modLink p fun l => { l with markWake := false }).prt p).slipRx = [] := by simp [hs]
  have ho := Dev.rxCodeword_passes ((l.map (· % 1024)).map fun v => (v, false)) (ht' _) (hn' _) hs'
  generalize (s.dev.fresh.modLink p _).rxCodeword p _ = d at ho ⊢
  rw [Dev.prt_settle, Dev.rxOut_hostWord, ho, List.map_map]
  simp

theorem codewordDecode_tx {l : List Nat} (h7 : s.dev.acqState p = 7) (hm : isNrz (s.dev.mode p) = false) (hl : l.length = 544)
    (ht : s.dev.get (LPn_FEC_STATUS_TERM_TX p) = 0) (hn : s.dev.get (LPn_FEC_CTRL_RS_MON_TX p) = 0) (hs : (s.dev.prt p).slipTx = []) :
    Answers (.codewordDecode p .tx l) s fun d => (d.prt p).fec.txOut = l.map (· % 1024) := by
  refine answers_of_run (rfl : _ = execCodewordDecode p .tx l s) ?_
  have h7' : s.dev.fresh.acqState p = 7 := h7
  dsimp only
  unfold Dev.txTime
  dsimp only
  have hg : (s.dev.fresh.acqState p == 7 && (l.map (· % 1024)).length == 544) = true := by simp [h7', hl]
  rw [if_neg (by simp [hm]), hg]
  simp only [Dev.iff, Bool.true_and, if_true]
  have ho := Dev.txCodeword_passes (d := s.dev.fresh) (l.map (· % 1024)) ht hn hs
  generalize s.dev.fresh.txCodeword p _ = d at ho ⊢
  split
  · rw [Dev.prt_settle, Dev.fec_lineFault, ho]
  · split
    · rw [Dev.prt_settle, Dev.fec_lineWord, ho]
    · exact ho

end

/-- Settles O15, clause by clause. -/
theorem outerAndInnerCode : Obligations.OuterAndInnerCode :=
  ⟨fun _ _ _ hi hc hf hl hw => innerWindowStep_fills hi hc hf hl hw,
   fun _ _ _ hi hc hf hl hw => innerWindowStep_releases hi hc hf hl hw,
   fun _ _ _ hc hm hl ha => amGroupCheck_locks hc hm hl ha,
   fun _ _ _ h7 hm hl hh hr ht hn hs => codewordDecode_rx h7 hm hl hh hr ht hn hs,
   fun _ _ _ h7 hm hl ht hn hs => codewordDecode_tx h7 hm hl ht hn hs,
   fun _ _ ha hb => postBerInterval_clears ha hb⟩

end Sys2Proof.Machine

/-! The loop descriptors (11 R388, R401–R404, R408–R411). -/

namespace Sys2Proof.Machine

-- One theorem at a time: side by side they ask for more memory than a check may have.
set_option Elab.async false

open Reg

/-! ## The loop that a descriptor names, as its action phase finds it -/

section
variable {s : State} {c : Desc} {l : LoopNo}

theorem Desc.loop_of_bits (h : c.bits 16 3 0 = l.val) (t : Nat) : Desc.loop (Desc.stamp c t) = l := by
  change Fin.ofNat 16 (c.bits 16 3 0) = l
  rw [h]
  exact Fin.ofNat_val_eq_self l

theorem Dev.loopState_opened (d : Dev) (c : Desc) (l : LoopNo) : (d.opened c).loopState l = d.loopState l :=
  Dev.get_opened_inst d (F := BCE_LOOPn_STATE_STATE) (by decide) c

theorem Dev.loopSet_opened (d : Dev) (c : Desc) (l : LoopNo) : (d.opened c).loopSet l = d.loopSet l := by
  simp (disch := decide) [Dev.loopSet]

/-- A bank read from host memory does not depend on the descriptor's being open. -/
theorem Dev.readBank_opened {d : Dev} (ho : (d.ring c.ring).owner = 0) (hd : c.data = .first) (h72 : c.length = 72) (t : Nat) :
    (d.opened c).readBank (Desc.stamp c t) = (d.opened c, (d.readBank c).2.1, .first) := by
  have hn : ¬ c.length = 0 := by omega
  unfold Dev.readBank
  rw [stamp_length, if_neg hn, if_neg hn, Dev.getData_opened ho hd]

/-- Where nothing waits, no descriptor completes. -/
theorem Dev.wakeAll_nothing {d : Dev} (h : d.waits = []) (f : WaitKind → Bool) (st : Nat) (r : WaitKind → Nat) :
    d.wakeAll f st r = d := Dev.wakeAll_of_none (by simp [h]) st r

theorem Dev.injectEnd_none {d : Dev} (h : (d.loop.get l).inj = none) : d.injectEnd l = d := by
  unfold Dev.injectEnd
  rw [h]

/-- A loop that neither runs nor arms starts in ARMING with cause 0 (11 R388). -/
theorem Dev.loopStart_arms {d : Dev} (hr : d.loopState l ≠ blRun) (hm : d.loopState l ≠ blArming) (keep : Bool) :
    (d.loopStart l keep).loopState l = 1 ∧ (d.loopStart l keep).get (BCE_LOOPn_STATE_CAUSE l) = 0 ∧
    (d.loopStart l keep).waits = d.waits := by
  unfold Dev.loopStart
  dsimp only
  generalize clampInt _ _ _ = i
  have hst (g : Loop → Loop) : ((d.modLoop l g).seti (BCE_LOOPn_INTEG_VALUE l) i).loopState l = d.loopState l := by
    simp (disch := decide) [Dev.loopState, Dev.seti]
  have hb : (d.loopState l == blRun) = false := beq_false_of_ne hr
  rw [Dev.loopTo_eq, hst, if_neg (fun h => hm h.1)]
  unfold Dev.loopEnter
  rw [hst, hb]
  simp (disch := decide) [Dev.loopState, Dev.bceRefresh, Dev.putBit, blArming, Dev.seti]

/-! ## The bytes of a read that succeeds -/

omit s c l in
theorem Dev.readStep_length {first k : Nat} {g : Option (Nat × BitVec 72)} {a : Dev × List Byte × Attempt}
    (h : (Dev.readStep first g a k).2.2 ≠ .failed) :
    a.2.2 ≠ .failed ∧ (Dev.readStep first g a k).2.1.length = a.2.1.length + 8 := by
  obtain ⟨d, l, t⟩ := a
  unfold Dev.readStep at h ⊢
  dsimp only at h ⊢
  cases t with
  | failed => exact absurd rfl h
  | first | second =>
    dsimp only at h ⊢
    generalize d.readWord 1 _ _ = r at h ⊢
    obtain ⟨e, v, u⟩ := r
    cases u with
    | failed => exact absurd rfl h
    | first | second => simp

omit s c l in
theorem Dev.readSteps_length {first : Nat} {g : Option (Nat × BitVec 72)} {l : List Nat} {a : Dev × List Byte × Attempt}
    (h : (l.foldl (Dev.readStep first g) a).2.2 ≠ .failed) :
    a.2.2 ≠ .failed ∧ (l.foldl (Dev.readStep first g) a).2.1.length = a.2.1.length + 8 * l.length := by
  induction l generalizing a with
  | nil => exact ⟨h, rfl⟩
  | cons k l ih =>
    obtain ⟨hk, hl⟩ := ih h
    obtain ⟨ha, hs⟩ := Dev.readStep_length hk
    refine ⟨ha, ?_⟩
    rw [List.foldl_cons, hl, hs, List.length_cons]
    omega

omit s c l in
/-- A read of the log's memory that does not fail gives the bytes asked for. -/
theorem Dev.readMem_length {d : Dev} {off n : Nat} {g : Option (Nat × BitVec 72)} (h : (d.readMem 1 off n g).2.2 ≠ .failed) :
    (d.readMem 1 off n g).2.1.length = n := by
  rw [Dev.readMem_eq] at h ⊢
  split
  next h0 => exact h0.symm
  next h0 =>
    rw [if_neg h0] at h
    have hl := (Dev.readSteps_length h).2
    simp only [List.length_take, List.length_drop, hl, List.length_range, List.length_nil]
    omega

/-! ## The clauses -/

variable (ha : s.dev.Acts c)
include ha

theorem loopConfig_configures {m : AuxCh} (hb : c.bits 16 3 0 = l.val ∧ c.bits 17 1 0 = 0) (h0 : c.length = 0)
    (hm : c.bits 19 4 0 = m.val) (hs : c.bits 20 4 0 ≤ 7) (hp : 5 ≤ c.bytes 21 2 ∧ c.bytes 21 2 ≤ 1000) (hq : c.bits 27 3 0 ≤ 7)
    (hr : c.flag 18 4 = false) (ho : s.dev.get (AUX_CHm_STATUS_OWNED m) = 0) (hw : (s.dev.loop.get l).owns = false)
    (hg : (s.dev.loop.get l).bank.good (c.flag 18 0) = true) (hst : s.dev.loopState l = 0) :
    Answers (.loopConfig c) s fun d => d.Completed c stOk 0 ∧ d.get (BCE_LOOPn_STATE_CHANNEL l) = m.val ∧ d.get
      (BCE_LOOPn_STATE_PERIOD l) = c.bytes 21 2 ∧ d.get (BCE_LOOPn_STATE_CLASS l) = bnat (c.flag 18 0) ∧ d.get
      (AUX_CHm_STATUS_OWNED m) = 1 ∧ (d.aux.get m).queue = [] ∧ d.loopState l = 0 := by
  refine answers_of_descriptor (rfl : _ = execLoopConfig c s) ha ?_
  obtain ⟨hl, hact⟩ := hb
  have hm24 : m.val < 24 := m.isLt
  have hch : Fin.ofNat 24 m.val = m := Fin.ofNat_val_eq_self m
  have hloop := Desc.loop_of_bits (c := c) (l := l) hl
  have hst' : (s.dev.fresh.opened c).loopState l = blStopped := (Dev.loopState_opened _ _ _).trans hst
  have hloops : (s.dev.fresh.opened c).loop = s.dev.loop := by simp
  have hown : (s.dev.fresh.opened c).on (AUX_CHm_STATUS_OWNED m) = false := by simp (disch := decide) [Dev.on, ho]
  have hspan : (s.dev.fresh.opened c).spanBad (Desc.stamp c s.dev.timebase) 0 = false := by simp [Dev.spanBad]
  have hbank : (s.dev.fresh.opened c).readBank (Desc.stamp c s.dev.timebase) =
      (s.dev.fresh.opened c, (s.dev.loop.get l).bank, .first) := by
    unfold Dev.readBank
    rw [if_pos (by simpa using h0), hloop, hloops]
  have hbits (i w k : Nat) : (Desc.stamp c s.dev.timebase).bits i w k = c.bits i w k := stamp_bits ..
  have hvalid : ∀ e, e = Desc.stamp c s.dev.timebase → ¬ (23 < m.val ∨ (¬ e.flag 20 7 ∧ 7 < e.bits 20 4 0) ∨ e.bytes 21 2 < 5 ∨
      1000 < e.bytes 21 2 ∨ (8 ≤ e.bits 27 3 0 ∧ e.bits 27 3 0 ≤ 14) ∨ (e.flag 18 4 ∧ e.bytes 28 2 % 1024 = 0) ∨
      (e.length ≠ 0 ∧ e.length ≠ 72) ∨ (s.dev.fresh.opened c).spanBad e e.length ∨
      ((s.dev.fresh.opened c).on (AUX_CHm_STATUS_OWNED m) ∧
        ¬ (((s.dev.fresh.opened c).loop.get l).owns && (s.dev.fresh.opened c).loopChan l == m))) := by
    rintro e rfl
    rw [stamp_length, h0, hspan, hown, stamp_flag _ _ 18, hr]
    simp
    omega
  dsimp only
  rw [hbits 17, hact, if_neg (by decide), if_neg (by decide), hbits 19, hm, hch, hloop, if_neg (hvalid _ rfl), hbank]
  dsimp only
  rw [if_neg (not_not.2 (by simpa using hg)), if_neg (by simp [hst']), if_pos rfl, hloops, hw]
  generalize s.dev.fresh.opened c = t at hst'
  have hst'' : t.get (BCE_LOOPn_STATE_STATE l) = 0 := hst'
  have hchan : (BCE_LOOPn_STATE_CHANNEL l).width = 5 ∧ (BCE_LOOPn_STATE_PERIOD l).width = 10 := ⟨rfl, rfl⟩
  have hp' : c.bytes 21 2 < 1024 := by omega
  have hm32 : m.val < 32 := by omega
  simp (disch := decide) [Dev.auxRefresh, Dev.loopState, hst'', statusOf, hchan, hm32, hp']

theorem loopConfigStop_waits (hb : c.bits 16 3 0 = l.val ∧ c.bits 17 1 0 = 2) (hs : s.dev.loopSet l = true) (hw : s.dev.waits = []) :
    Answers (.loopConfig c) s fun d => d.waits = [(.loopStop l, { Desc.stamp c s.dev.timebase with data := .first })] ∧
      d.loopState l = s.dev.loopState l := by
  refine answers_of_descriptor (rfl : _ = execLoopConfig c s) ha ?_
  obtain ⟨hl, hact⟩ := hb
  have hset : (s.dev.fresh.opened c).loopSet l = true := (Dev.loopSet_opened _ _ _).trans hs
  have hw' : (s.dev.fresh.opened c).waits = [] := by simp [hw]
  have hst : (s.dev.fresh.opened c).loopState l = s.dev.loopState l := Dev.loopState_opened _ _ _
  dsimp only
  rw [Desc.loop_of_bits hl, stamp_bits, hact, if_neg (by decide), if_pos rfl, if_pos hset]
  generalize s.dev.fresh.opened c = t at hw' hst
  constructor
  · change t.waits ++ _ = _
    rw [hw']
    rfl
  · exact hst

theorem loopRestart_arms (hl : c.bits 16 3 0 = l.val) (hs : s.dev.loopSet l = true)
    (hst : s.dev.loopState l = 3 ∨ s.dev.loopState l = 4) (hclr : s.dev.get AUX_STATUS_CLR_PIN = 0) (hq : s.dev.quenching = false)
    (hw : s.dev.waits = []) :
    Answers (.loopRestart c) s fun d => d.loopState l = 1 ∧ d.get (BCE_LOOPn_STATE_CAUSE l) = 0 ∧ d.waits = [(.loopStart
      l, { Desc.stamp c s.dev.timebase with data := .first })] := by
  refine answers_of_descriptor (rfl : _ = execLoopRestart c s) ha ?_
  have hset : (s.dev.fresh.opened c).loopSet l = true := (Dev.loopSet_opened _ _ _).trans hs
  have hst' : (s.dev.fresh.opened c).loopState l = s.dev.loopState l := Dev.loopState_opened _ _ _
  have hclr' : (s.dev.fresh.opened c).on AUX_STATUS_CLR_PIN = false := by simp (disch := decide) [Dev.on, hclr]
  have hq' : (s.dev.fresh.opened c).quenching = false := (Dev.quenching_opened _ _).trans hq
  have hw' : (s.dev.fresh.opened c).waits = [] := by simp [hw]
  have hno : ¬ (s.dev.loopState l = blRun ∨ s.dev.loopState l = blArming ∨ s.dev.loopState l = blRamp ∨ false = true ∨ false = true) := by
    simp only [blRun, blArming, blRamp, Bool.false_eq_true, or_false]
    omega
  dsimp only
  rw [Desc.loop_of_bits hl, hset, if_neg (by decide), hst', hclr', hq', if_neg hno]
  generalize s.dev.fresh.opened c = t at hst' hw'
  have hr : t.loopState l ≠ blRun ∧ t.loopState l ≠ blArming := by
    rw [hst']
    simp only [blRun, blArming]
    omega
  obtain ⟨h1, h2, h3⟩ := Dev.loopStart_arms hr.1 hr.2 ((Desc.stamp c s.dev.timebase).flag 17 0)
  generalize t.loopStart l _ = u at h1 h2 h3
  refine ⟨h1, h2, ?_⟩
  change u.waits ++ _ = _
  rw [h3, hw']
  rfl

theorem loopCoeffSwap_pends (hl : c.bits 16 3 0 = l.val) (h72 : c.length = 72) (ho : (s.dev.ring c.ring).owner = 0)
    (hd : c.data = .first) (hg : (s.dev.fresh.readBank c).2.1.good (s.dev.on (BCE_LOOPn_STATE_CLASS l)) = true)
    (hst : s.dev.loopState l = 2) (hw : s.dev.waits = []) :
    Answers (.loopCoeffSwap c) s fun d => (d.loop.get l).pend = some (s.dev.fresh.readBank c).2.1 ∧ (d.loop.get l).bank =
      (s.dev.loop.get l).bank ∧ d.get (BCE_LOOPn_STATE_SWAP_PEND l) = 1 ∧ d.waits = [(.loopSwap l,
      { Desc.stamp c s.dev.timebase with data := .first })] := by
  refine answers_of_descriptor (rfl : _ = execLoopCoeffSwap c s) ha ?_
  have hspan := Dev.spanBad_opened (s := s.dev.fresh) (d := c) c.length ho s.dev.timebase
  have hbank := Dev.readBank_opened (d := s.dev.fresh) ho hd h72 s.dev.timebase
  have hclass : (s.dev.fresh.opened c).on (BCE_LOOPn_STATE_CLASS l) = s.dev.on (BCE_LOOPn_STATE_CLASS l) := by
    simp (disch := decide) [Dev.on]
  have hrun : (s.dev.fresh.opened c).loopState l = 2 := (Dev.loopState_opened _ _ _).trans hst
  have hwaits : (s.dev.fresh.opened c).waits = [] := by simp [hw]
  have hlp : (s.dev.fresh.opened c).loop = s.dev.loop := by simp
  generalize (s.dev.fresh.readBank c).2.1 = b at hbank hg ⊢
  dsimp only
  rw [stamp_length, hspan, if_neg (by simp [h72]), Desc.loop_of_bits hl, hbank]
  dsimp only
  rw [hclass, if_neg (not_not.2 hg), Dev.wakeAll_nothing hwaits]
  generalize s.dev.fresh.opened c = t at hrun hwaits hlp
  have hrun' : t.get (BCE_LOOPn_STATE_STATE l) = 2 := hrun
  simp (disch := decide) [Dev.loopState, hrun', hwaits, hlp, blRun]

theorem loopTableLoad_pends (hl : c.bits 16 3 0 = l.val) (hcl : s.dev.get (BCE_LOOPn_STATE_CLASS l) = 1) (hn : c.length = 130)
    (ho : (s.dev.ring c.ring).owner = 0) (hd : c.data = .first)
    (hv : ((chunks 2 66 (s.dev.fresh.getData c 0 130).2.1).map ofBytes).all (fun v => decide (v ≤ 16383)) = true)
    (hst : s.dev.loopState l = 2) (hw : s.dev.waits = []) :
    Answers (.loopTableLoad c) s fun d => (d.loop.get l).pendTable = some (Vector.ofFn fun i => ((chunks 2 66
      (s.dev.fresh.getData c 0 130).2.1).map ofBytes).getD i.val 0) ∧ (d.loop.get l).table = (s.dev.loop.get l).table ∧
      d.waits = [(.loopTable l, { Desc.stamp c s.dev.timebase with data := .first })] := by
  refine answers_of_descriptor (rfl : _ = execLoopTableLoad c s) ha ?_
  have hspan := Dev.spanBad_opened (s := s.dev.fresh) (d := c) c.length ho s.dev.timebase
  have hdata := Dev.getData_opened (s := s.dev.fresh) (d := c) ho hd s.dev.timebase 0 130
  have hclass : (s.dev.fresh.opened c).on (BCE_LOOPn_STATE_CLASS l) = true := by
    simp (disch := decide) [Dev.on, hcl]
  have hrun : (s.dev.fresh.opened c).loopState l = 2 := (Dev.loopState_opened _ _ _).trans hst
  have hwaits : (s.dev.fresh.opened c).waits = [] := by simp [hw]
  have hlp : (s.dev.fresh.opened c).loop = s.dev.loop := by simp
  generalize (s.dev.fresh.getData c 0 130).2.1 = b at hdata hv ⊢
  have hany : (((chunks 2 66 b).map ofBytes).any fun v => decide (16383 < v)) = false := by
    simp only [List.all_eq_true, decide_eq_true_eq] at hv
    simp only [List.any_eq_false, decide_eq_true_eq, Nat.not_lt]
    exact hv
  dsimp only
  rw [stamp_length, hspan, Desc.loop_of_bits hl, hclass, if_neg (by simp [hn]), if_neg (by omega), hdata]
  dsimp only
  rw [hany, if_neg (by decide), Dev.wakeAll_nothing hwaits]
  generalize s.dev.fresh.opened c = t at hrun hwaits hlp
  have hrun' : t.get (BCE_LOOPn_STATE_STATE l) = 2 := hrun
  simp (disch := decide) [Dev.loopState, hrun', hwaits, hlp, blRun]

theorem loopInject_injects (hl : c.bits 16 3 0 = l.val) (hwv : c.bits 17 3 1 = 2)
    (hp : 4 ≤ c.bytes 20 2 % 8192 ∧ c.bytes 20 2 % 8192 ≤ 4096) (hc : c.bytes 24 4 = 0) (hst : s.dev.loopState l = 2)
    (hj : (s.dev.loop.get l).inj = none) :
    Answers (.loopInject c) s fun d => d.Completed c stOk 0 ∧ (d.loop.get l).inj = some
      { out := c.flag 17 0, wave := 2, amp := c.bytes 18 2, wper := c.bytes 20 2 % 8192, chip := c.byte 22, count := 0,
        k := 0 } ∧ d.get (BCE_LOOPn_STATE_INJ l) = 1 := by
  refine answers_of_descriptor (rfl : _ = execLoopInject c s) ha ?_
  have hrun : (s.dev.fresh.opened c).loopState l = blRun := (Dev.loopState_opened _ _ _).trans hst
  have hnone : ((s.dev.fresh.opened c).loop.get l).inj = none := by simpa using hj
  dsimp only [stamp_bits, stamp_bytes, stamp_flag]
  rw [Desc.loop_of_bits hl, hwv, hc, if_neg (by omega), if_neg (by simp [hrun]), Dev.injectEnd_none hnone]
  simp (disch := decide)

theorem loopCaptureArm_arms (hl : c.bits 16 3 0 = l.val) (hs : c.bits 18 2 0 ≤ 5 ∧ c.bits 19 2 0 ≤ 5) (hst : s.dev.loopState l = 2)
    (hoff : s.dev.bceCap.on = false) (hw : s.dev.waits = []) :
    Answers (.loopCaptureArm c) s fun d => d.bceCap =
      { on := true, loop := l.val, sigA := c.bits 18 2 0, sigB := c.bits 19 2 0, decim := c.byte 20,
        waitInj := c.flag 21 0, skip := 0, count := 0 } ∧ d.waits = [(.bceCapture,
      { Desc.stamp c s.dev.timebase with data := .first })] := by
  refine answers_of_descriptor (rfl : _ = execLoopCaptureArm c s) ha ?_
  have hrun : (s.dev.fresh.opened c).loopState l = blRun := (Dev.loopState_opened _ _ _).trans hst
  have hw' : (s.dev.fresh.opened c).waits = [] := by simp [hw]
  have hoff' : (s.dev.fresh.opened c).bceCap.on = false := by simpa using hoff
  dsimp only
  rw [Desc.loop_of_bits hl, if_neg (by simp [hs]), if_neg (by simp [hrun]), if_neg (by rw [hoff']; decide)]
  generalize s.dev.fresh.opened c = t at hw'
  refine ⟨rfl, ?_⟩
  change t.waits ++ _ = _
  rw [hw']
  rfl

theorem loopCaptureRead_reads (hb : c.bytes 24 4 + c.length ≤ 32768) (h0 : 0 < c.length) (ho : (s.dev.ring c.ring).owner = 0)
    (hoff : s.dev.bceCap.on = false) (ht : (s.dev.fresh.readMem 1 (bceCapBase + c.bytes 24 4) c.length c.glitch).2.2 = .first) :
    Answers (.loopCaptureRead c) s fun d => d.Completed c stOk c.length := by
  refine answers_of_descriptor (rfl : _ = execLoopCaptureRead c s) ha ?_
  have hspan := Dev.spanBad_opened (s := s.dev.fresh) (d := c) c.length ho s.dev.timebase
  have hoff' : (s.dev.fresh.opened c).bceCap.on = false := by simpa using hoff
  have hread := (s.dev.fresh.twin_opened c).readMem (bceCapBase + c.bytes 24 4) c.length c.glitch
  rw [← hread] at ht
  have hlen := Dev.readMem_length (ht ▸ (by decide : Attempt.first ≠ Attempt.failed))
  have hring := Dev.owner_of_owners (((s.dev.fresh.opened c).owners_readMem 1 (bceCapBase + c.bytes 24 4) c.length c.glitch).trans
    (Dev.owners_opened _ _)) c.ring
  dsimp only
  rw [stamp_length, stamp_bytes, hspan, if_neg (by simp [hb]), if_neg (by omega), hoff', if_neg (by decide), show (Desc.stamp c s.dev.timebase).glitch = c.glitch from rfl]
  generalize (s.dev.fresh.opened c).readMem 1 (bceCapBase + c.bytes 24 4) c.length c.glitch = r at ht hlen hring
  have hown : r.1.ownerOf (Desc.stamp c s.dev.timebase) = 0 := hring.trans ho
  unfold Dev.putCounted
  rw [if_pos hown, ht, hlen, Dev.completed_settle, Dev.completed_busyWith]
  exact Dev.finish_completed ..

end

/-- Settles O27, clause by clause. -/
theorem biasDescriptors : Obligations.BiasDescriptors :=
  ⟨fun _ _ _ _ ha => loopConfig_configures ha, fun _ _ _ ha => loopConfigStop_waits ha, fun _ _ _ ha => loopRestart_arms ha,
    fun _ _ _ ha => loopCoeffSwap_pends ha, fun _ _ _ ha => loopTableLoad_pends ha, fun _ _ _ ha => loopInject_injects ha,
    fun _ _ _ ha => loopCaptureArm_arms ha, fun _ _ ha => loopCaptureRead_reads ha⟩

end Sys2Proof.Machine

/-! A port reset of a port at rest (00 R16, 09 R328). -/

namespace Sys2Proof.Machine

-- One theorem at a time: side by side they ask for more memory than a check may have.
set_option Elab.async false

open Reg

/-- A device whose port 0 is stopped with an eye-margin scan of pair A still noted, for a descriptor of a ring of SPI: its record goes to
ring memory, whose first word holds a correctable error. -/
def scanLeft : State :=
  { dev := { (({} : Dev).modEq 0 .a fun e => { e with eye := some { desc := { ring := 1, body := 0 }, pts := [0] } }) with
      ctx := [(1, { owner := 1 })]
      mem := { die := (Vector.replicate 20 []).set 2 [(0, { MWord.full 0 with data := 1 })] } } }

/-- The count of correctable errors of ring memory after a step. -/
def ringErrorsAfter : Host.Outcome State Fault Refusal → Nat
  | .next t => t.dev.get (MEM_m_COUNT_CE_COUNT 2)
  | _ => 0

theorem scanLeft_errors : ringErrorsAfter (exec (.portReset { ring := 0, body := 0 }) scanLeft) = 1 := by decide +kernel

/-- Refutes O59: a scan that a stopped port still holds ends with the reset, and its record, merged into ring memory, meets a correctable
error there, which the counters of that memory count. -/
theorem not_portResetReturnsClassP : ¬ Obligations.PortResetReturnsClassP := by
  intro h
  obtain ⟨t, ht, -, -, hrest, -⟩ := h scanLeft { ring := 0, body := 0 } (by decide +kernel) (by decide +kernel) (by decide +kernel)
  have herrors := scanLeft_errors
  rw [ht] at herrors
  have hkeeps : t.dev.get (MEM_m_COUNT_CE_COUNT 2) = scanLeft.dev.get (MEM_m_COUNT_CE_COUNT 2) :=
    hrest _ (Fld.isPlain_iff.1 (by decide)) (by decide)
  exact absurd (hkeeps.symm.trans herrors) (by decide +kernel)

end Sys2Proof.Machine

/-! The sequences that stop a port: what they leave of the device and of its registers, and that they complete no descriptor that does not
wait for them (09 R326–R329, 16 R547). -/

namespace Sys2Proof.Machine

-- One theorem at a time: side by side they ask for more memory than a check may have.
set_option Elab.async false

open Reg

/-! ## The parts of the device besides its ports -/

/-- The register by which the end of a port's waits shows in its block. -/
def abortFlds : List Fld := [LPn_CAP_STATUS_STATE 0]

/-- The registers that a port's stop writes in its block. -/
def stopFlds : List Fld := abortFlds ++ [LPn_SLACK_GOV_CEIL 0] ++ searchFlds

section
variable (s : Dev) (p : Port) {l : List Fld}

@[simp] theorem Dev.outer_txRefresh (b : Bool) : (s.txRefresh p b).outer = s.outer := Dev.outer_of_rim (s.rim_txRefresh p b)
@[simp] theorem Dev.outer_modGov (g : Gov → Gov) : (s.modGov g).outer = s.outer := rfl
@[simp] theorem Dev.outer_lmcQueue (typ : Nat) (b : List Byte) (a u : Bool) : (s.lmcQueue p typ b a u).1.outer = s.outer := by
  simp [Dev.lmcQueue, Dev.lmcFrame]
@[simp] theorem Dev.view_lmcQueue (l : List Fld) (typ : Nat) (b : List Byte) (a u : Bool) :
    (s.lmcQueue p typ b a u).1.view l = s.view l := rfl

@[simp] theorem Dev.outer_captureAbort : (s.captureAbort p).outer = s.outer := by simp [Dev.captureAbort]
@[simp] theorem Dev.view_captureAbort (h : famSub abortFlds l = true) : (s.captureAbort p).view l = s.view l :=
  Dev.view_mono (by simp (disch := decide) [Dev.captureAbort] : _ = s.view abortFlds) h

@[simp] theorem Dev.outer_cycleDrop : (s.cycleDrop p).outer = s.outer := Dev.each_keep (fun s _ => s.outer_modPort p _) _ s
@[simp] theorem Dev.view_cycleDrop (l : List Fld) : (s.cycleDrop p).view l = s.view l :=
  Dev.view_each (fun s x => s.view_modAdc p x l _) _ s

@[simp] theorem Dev.outer_abortWaits (b : Bool) : (s.abortWaits p b).outer = s.outer := by
  have he (t : Dev) : (t.each bothPairs fun s x => s.eyeEnd p x stAborted).outer = t.outer :=
    Dev.each_keep (fun s x => s.outer_eyeEnd p x _) _ t
  simp [Dev.abortWaits, he]
@[simp] theorem Dev.view_abortWaits (b : Bool) (h : famSub abortFlds l = true) : (s.abortWaits p b).view l = s.view l := by
  have he (t : Dev) : (t.each bothPairs fun s x => s.eyeEnd p x stAborted).view l = t.view l :=
    Dev.view_each (fun s x => s.view_eyeEnd p x _ _) _ t
  simp [Dev.abortWaits, he, h]

@[simp] theorem Dev.rim_storePair (x : Pair) : (s.storePair p x).rim = s.rim := by
  unfold Dev.storePair
  dsimp only
  split <;> simp
@[simp] theorem Dev.view_storePair (l : List Fld) (x : Pair) : (s.storePair p x).view l = s.view l := by
  unfold Dev.storePair
  dsimp only
  split <;> rfl
theorem Dev.rim_storeIf (x : Pair) : (s.iff (s.get (LPn_EQ_STATUS_ADAPT p x) != adOff) (·.storePair p x)).rim = s.rim := by simp
theorem Dev.view_storeIf (l : List Fld) (x : Pair) :
    (s.iff (s.get (LPn_EQ_STATUS_ADAPT p x) != adOff) (·.storePair p x)).view l = s.view l := by simp
@[simp] theorem Dev.rim_storePort : (s.storePort p).rim = s.rim :=
  (Dev.each_keep (fun s x => s.rim_modTxPair p x _) _ _).trans (Dev.each_keep (fun s x => s.rim_storeIf p x) _ s)
@[simp] theorem Dev.view_storePort (l : List Fld) : (s.storePort p).view l = s.view l :=
  (Dev.view_each (fun s _ => s.view_modPort l p _) _ _).trans (Dev.view_each (fun s x => s.view_storeIf p l x) _ s)

@[simp] theorem Dev.rim_iterRefresh : (s.iterRefresh p).rim = s.rim := by simp [Dev.iterRefresh]
@[simp] theorem Dev.rim_ceilNone : (s.ceilNone p).rim = s.rim := by simp [Dev.ceilNone]
theorem Dev.view_ceilNone_of (h : famSub stopFlds l = true) : (s.ceilNone p).view l = s.view l :=
  Dev.view_mono (by simp (disch := decide) [Dev.ceilNone] : _ = s.view stopFlds) h

/-! ## The default map -/

@[simp] theorem Dev.rim_testsEnd (k : Lane) : (s.testsEnd k).rim = s.rim := by
  unfold Dev.testsEnd
  split <;> simp
@[simp] theorem Dev.rests_testsEnd (k : Lane) : (s.testsEnd k).rests = s.rests := by
  unfold Dev.testsEnd
  split <;> simp
@[simp] theorem Dev.rim_laneRefresh (k : Lane) : (s.laneRefresh k).rim = s.rim := by simp [Dev.laneRefresh_eq]
@[simp] theorem Dev.rests_laneRefresh (k : Lane) : (s.laneRefresh k).rests = s.rests := by simp [Dev.laneRefresh_eq]
@[simp] theorem Dev.view_laneRefresh_of (k : Lane) (h : famSub hostFlds l = true) : (s.laneRefresh k).view l = s.view l := by
  simp [Dev.laneRefresh_eq, h]

/-- A lane leaves the group that it belongs to. -/
def Dev.laneLeave (s : Dev) (k : Lane) : Dev :=
  match s.groupOf k with
  | some p => s.iff (s.groupAligned p) (·.groupLost p)
  | none => s

/-- A lane takes its place in a group, or has none any more. -/
def Dev.lanePlace (s : Dev) (k : Lane) (g : Option (Nat × Nat)) : Dev :=
  match g with
  | some (p, n) =>
    let s := s.iff (s.groupAligned (Fin.ofNat 8 p)) (·.groupLost (Fin.ofNat 8 p))
    ((s.flag (HLn_MAP_VALID k) true).set (HLn_MAP_PORT k) p).set (HLn_MAP_POS k) n
  | none => (((s.flag (HLn_MAP_VALID k) false).set (HLn_MAP_PORT k) 0).set (HLn_MAP_POS k) 0).testsEnd k

/-- A lane that has moved starts afresh. -/
def Dev.laneMoved (s : Dev) (k : Lane) (b : Bool) : Dev :=
  let s := (s.flag (HLn_STATUS_ALIGNED k) false).modLane k fun h => { h with warm := none }
  (s.iff b fun s => s.modLane k fun h => { h with rateChange := false }).laneRefresh k

/-- A lane's place by the map, where it has one. -/
def Dev.place (s : Dev) (k : Lane) : Option (Nat × Nat) :=
  if s.on (HLn_MAP_VALID k) then some (s.get (HLn_MAP_PORT k), s.get (HLn_MAP_POS k)) else none

theorem Dev.putLane_eq (k : Lane) (g : Option (Nat × Nat)) : s.putLane k g =
    if s.place k = g then s
    else ((s.laneLeave k).lanePlace k g).laneMoved k ((s.place k).map (·.1) != g.map (·.1)) := rfl

@[simp] theorem Dev.rim_laneLeave (k : Lane) : (s.laneLeave k).rim = s.rim := by
  unfold Dev.laneLeave
  split <;> simp
@[simp] theorem Dev.rests_laneLeave (k : Lane) : (s.laneLeave k).rests = s.rests := by
  unfold Dev.laneLeave
  split <;> simp
@[simp] theorem Dev.view_laneLeave (k : Lane) (h : famSub hostFlds l = true) : (s.laneLeave k).view l = s.view l := by
  unfold Dev.laneLeave
  split <;> simp [h]
@[simp] theorem Dev.rim_lanePlace (k : Lane) (g : Option (Nat × Nat)) : (s.lanePlace k g).rim = s.rim := by
  unfold Dev.lanePlace
  split <;> simp
@[simp] theorem Dev.rests_lanePlace (k : Lane) (g : Option (Nat × Nat)) : (s.lanePlace k g).rests = s.rests := by
  unfold Dev.lanePlace
  split <;> simp
theorem Dev.view_lanePlace (k : Lane) (g : Option (Nat × Nat)) : (s.lanePlace k g).view hostFlds = s.view hostFlds := by
  unfold Dev.lanePlace
  split <;> simp (disch := decide) [Dev.view_testsEnd]
@[simp] theorem Dev.rim_laneMoved (k : Lane) (b : Bool) : (s.laneMoved k b).rim = s.rim := by simp [Dev.laneMoved]
@[simp] theorem Dev.rests_laneMoved (k : Lane) (b : Bool) : (s.laneMoved k b).rests = s.rests := by simp [Dev.laneMoved]
theorem Dev.view_laneMoved (k : Lane) (b : Bool) : (s.laneMoved k b).view hostFlds = s.view hostFlds := by
  simp (disch := decide) [Dev.laneMoved]

@[simp] theorem Dev.rim_putLane (k : Lane) (g : Option (Nat × Nat)) : (s.putLane k g).rim = s.rim := by
  rw [Dev.putLane_eq]
  split <;> simp
@[simp] theorem Dev.rests_putLane (k : Lane) (g : Option (Nat × Nat)) : (s.putLane k g).rests = s.rests := by
  rw [Dev.putLane_eq]
  split <;> simp
@[simp] theorem Dev.view_putLane (k : Lane) (g : Option (Nat × Nat)) (h : famSub hostFlds l = true) :
    (s.putLane k g).view l = s.view l := by
  refine Dev.view_mono (?_ : _ = s.view hostFlds) h
  rw [Dev.putLane_eq]
  split <;> simp (disch := decide) [Dev.view_laneMoved, Dev.view_lanePlace]

@[simp] theorem Dev.rim_mapDefault : (s.mapDefault p).rim = s.rim := by simp [Dev.mapDefault, Dev.mapStored]
@[simp] theorem Dev.rests_mapDefault : (s.mapDefault p).rests = s.rests := by simp [Dev.mapDefault, Dev.mapStored]
@[simp] theorem Dev.view_mapDefault (h : famSub hostFlds l = true) : (s.mapDefault p).view l = s.view l := by
  simp [Dev.mapDefault, Dev.mapStored, h]

/-! ## A port at rest -/

@[simp] theorem Dev.outer_storePort : (s.storePort p).outer = s.outer := Dev.outer_of_rim (s.rim_storePort p)
@[simp] theorem Dev.outer_ceilNone : (s.ceilNone p).outer = s.outer := Dev.outer_of_rim (s.rim_ceilNone p)
@[simp] theorem Dev.outer_mapDefault : (s.mapDefault p).outer = s.outer := Dev.outer_of_rim (s.rim_mapDefault p)

@[simp] theorem Dev.outer_portDown : (s.portDown p).outer = s.outer := by simp [Dev.portDown]
@[simp] theorem Dev.view_portDown (h : famSub stopFlds l = true) : (s.portDown p).view l = s.view l :=
  Dev.view_mono (by simp (disch := decide) [Dev.portDown, Dev.view_ceilNone_of] : _ = s.view stopFlds) h

end

end Sys2Proof.Machine

/-! What waits through a port's stop (09 R326–R329): descriptors that wait for DOZE or for a retrain go on waiting. -/

namespace Sys2Proof.Machine

-- One theorem at a time: side by side they ask for more memory than a check may have.
set_option Elab.async false

open Reg

/-- Whether what a descriptor waits for is a port's DOZE or a retrain. -/
def WaitKind.still : WaitKind → Bool
  | .portRetrain _ | .doze _ => true
  | _ => false

/-- Every descriptor that waits, waits for DOZE or a retrain. -/
def Dev.Still (s : Dev) : Prop := ∀ w ∈ s.waits, w.1.still = true

theorem Dev.still_nil {s : Dev} (h : s.waits = []) : s.Still := by simp [Dev.Still, h]

theorem Dev.Still.of_waits {a b : Dev} (hb : b.Still) (h : a.waits = b.waits) : a.Still := by
  unfold Dev.Still
  rw [h]
  exact hb

theorem Dev.Still.trans {a b c : Dev} (hc : c.Still) (h : b.waits = c.waits) (k : b.Still → a.waits = b.waits) : a.waits = c.waits :=
  (k (hc.of_waits h)).trans h

theorem Dev.waits_of_ungated {a b : Dev} (h : a.ungated = b.ungated) : a.waits = b.waits := (congrArg Dev.waits h :)

theorem Dev.waits_of_rim {a b : Dev} (h : a.rim = b.rim) : a.waits = b.waits := (congrArg Dev.waits h :)

section
variable {s : Dev} (h : s.Still) (p : Port)
include h

theorem Dev.Still.each {α : Type} {g : Dev → α → Dev} (hg : ∀ t x, t.Still → (g t x).waits = t.waits) (l : List α) :
    (s.each l g).waits = s.waits := by
  induction l generalizing s with
  | nil => rfl
  | cons x l ih => exact h.trans (hg s x h) fun ht => ih ht

/-- A wake of descriptors that wait for something else changes nothing. -/
theorem Dev.Still.wakeAll {f : WaitKind → Bool} (hr : ∀ q, f (.portRetrain q) = false) (hd : ∀ m, f (.doze m) = false) (st : Nat)
    (r : WaitKind → Nat) : s.wakeAll f st r = s := by
  refine Dev.wakeAll_of_none (fun w hw => ?_) st r
  have hk := h w hw
  cases hw : w.1 with
  | portRetrain q => exact hr q
  | doze m => exact hd m
  | _ =>
    rw [hw] at hk
    simp [WaitKind.still] at hk

theorem Dev.Still.waits_wakeAll {f : WaitKind → Bool} (hr : ∀ q, f (.portRetrain q) = false) (hd : ∀ m, f (.doze m) = false) (st : Nat)
    (r : WaitKind → Nat) : (s.wakeAll f st r).waits = s.waits := by rw [h.wakeAll hr hd]

theorem Dev.Still.wakeOne {k : WaitKind} (hk : k.still = false) (st r : Nat) : s.wakeOne k st r = s := by
  have hn : s.waiting k = none := by
    unfold Dev.waiting
    rw [List.find?_eq_none.2 fun w hw e => ?_]
    · rfl
    · have := h w hw
      rw [beq_iff_eq.1 e, hk] at this
      exact absurd this (by decide)
  unfold Dev.wakeOne
  rw [hn]

theorem Dev.Still.eyeEnd (x : Pair) (st : Nat) : (s.eyeEnd p x st).waits = s.waits := by
  unfold Dev.eyeEnd
  split
  · rfl
  next r hr =>
    dsimp only
    have hw : ((s.modEq p x fun e => { e with eye := none }).putData r.desc 0 (eyeBytes r.pts)).1.waits = s.waits :=
      Dev.waits_of_rim ((Dev.rim_putData ..).trans (s.rim_modPort p _))
    exact h.trans hw fun ht => congrArg Dev.waits (ht.wakeOne rfl _ _)

theorem Dev.Still.lmcDrop : (s.lmcDrop p).waits = s.waits := by
  unfold Dev.lmcDrop
  exact Dev.Still.waits_wakeAll (s := s.modLmc p _) h (fun _ => rfl) (fun _ => rfl) _ _

theorem Dev.Still.captureAbort : (s.captureAbort p).waits = s.waits := by
  unfold Dev.captureAbort
  dsimp only
  generalize hi : s.iff _ _ = t
  have ht : t.waits = s.waits := by
    rw [← hi]
    simp
  exact ((h.of_waits ht).waits_wakeAll (fun _ => rfl) (fun _ => rfl) _ _).trans ht

/-- The descriptors that wait on the link end, and those that wait for DOZE or a retrain go on (09 R329). -/
theorem Dev.Still.abortWaits (b : Bool) : (s.abortWaits p b).waits = s.waits := by
  unfold Dev.abortWaits
  dsimp only
  generalize he : s.each bothPairs _ = t
  have ht : t.waits = s.waits := by
    rw [← he]
    exact h.each (fun t x ht => ht.eyeEnd p x _) _
  have hs := h.of_waits ht
  have hu := (hs.lmcDrop p).trans ht
  generalize t.lmcDrop p = u at hu
  have hu' := h.of_waits hu
  have hc : ((u.captureAbort p).cycleDrop p).waits = u.waits := by
    have hd (t : Dev) : (t.cycleDrop p).waits = t.waits :=
      Dev.waits_of_rim (Dev.each_keep (fun s _ => s.rim_modPort p _) _ t)
    rw [hd, hu'.captureAbort]
  generalize hv : u.iff _ _ = v
  have hvw : v.waits = s.waits := by
    rw [← hv, Dev.waits_iff, ← hu]
    cases b
    exacts [hc, rfl]
  refine ((h.of_waits hvw).waits_wakeAll (fun q => ?_) (fun _ => rfl) _ _).trans hvw
  cases b <;> rfl

omit h in
theorem Dev.waits_slipsEnd : (s.slipsEnd p).waits = s.waits :=
  Dev.each_keep (π := Dev.waits) (fun t r => by
    unfold Dev.slipDone
    dsimp only
    split <;> simp) _ s

theorem Dev.Still.dropLink : (s.dropLink p).waits = s.waits := by
  have hs (fs : List Fld) (t : Dev) : (t.each fs fun s f => s.set f 0).waits = t.waits :=
    Dev.each_keep (π := Dev.waits) (g := fun s f => s.set f 0) (fun _ _ => rfl) fs t
  have hi (t : Dev) : (t.iterRefresh p).waits = t.waits := Dev.waits_of_rim (t.rim_iterRefresh p)
  unfold Dev.dropLink
  dsimp only
  generalize he : s.each bothPairs _ = t
  have ht : t.waits = s.waits := by
    rw [← he]
    exact h.each (fun t x ht => Dev.Still.eyeEnd (s := t.modAdc p x _) ht p x _) _
  have hu := ((h.of_waits ht).lmcDrop p).trans ht
  generalize t.lmcDrop p = u at hu
  rw [Dev.waits_slipsEnd, hi, hs]
  simp [hu]

theorem Dev.Still.portIdle : (s.portIdle p).waits = s.waits := by
  have hp (t : Dev) : (t.each bothPairs fun s x => s.pairOff p x).waits = t.waits :=
    Dev.each_keep (π := Dev.waits) (fun s x => Dev.waits_of_rim (by simp [Dev.pairOff, Dev.calAbandon])) _ t
  refine (hp _).trans ?_
  rw [Dev.waits_of_rim (Dev.rim_lineClockLost _ p), Dev.set_waits, Dev.set_waits]
  exact h.dropLink p

theorem Dev.Still.toSearch : (s.toSearch p).waits = s.waits := by
  have hm (t : Dev) (m : Nat) : (t.useMode p m).waits = t.waits :=
    Dev.waits_of_rim (by simp [Dev.useMode_eq, Dev.each_pairs, Dev.pairMode, Dev.eqShape, Dev.termRefresh])
  have hd (t : Dev) : (t.detRefresh p false).waits = t.waits :=
    Dev.waits_of_rim (by simp [Dev.detRefresh, Dev.each_pairs, Dev.putTaps])
  have hp (t : Dev) (l : List Pair) : (t.each l fun s x => s.pairSearch p x).waits = t.waits :=
    Dev.each_keep (π := Dev.waits) (fun s x => Dev.waits_of_rim (by simp [Dev.pairSearch])) _ t
  unfold Dev.toSearch
  rw [Dev.waits_of_ungated (Dev.ungated_linkTo ..)]
  refine (hp _ _).trans ?_
  rw [Dev.waits_iff]
  have hk : ((((s.dropLink p).useMode p ((s.dropLink p).searchMode p)).detRefresh p false).set (LPn_ACQ_STATUS_ACQ_STATE p) 2).waits =
      s.waits := by
    rw [Dev.set_waits, hd, hm]
    exact h.dropLink p
  generalize (((s.dropLink p).useMode p ((s.dropLink p).searchMode p)).detRefresh p false).set (LPn_ACQ_STATUS_ACQ_STATE p) 2 = t at hk
  split
  · rw [Dev.waits_iff]
    split <;> exact hk
  · exact hk

theorem Dev.Still.portDown : (s.portDown p).waits = s.waits := by
  have h1 : (s.storePort p).waits = s.waits := Dev.waits_of_rim (s.rim_storePort p)
  have h2 := ((h.of_waits h1).captureAbort p).trans h1
  unfold Dev.portDown
  dsimp only
  generalize (s.storePort p).captureAbort p = t at h2
  have h3 := (Dev.Still.portIdle (s := t.modTx p fun t => { t with driver := false, delay := false, stopping := false, quenchLf := false })
    (h.of_waits h2) p).trans h2
  rw [Dev.waits_of_rim (Dev.rim_mapDefault ..), Dev.waits_of_ungated (Dev.ungated_linkTo ..),
    Dev.waits_of_rim (Dev.rim_modLink ..), Dev.waits_of_rim (Dev.rim_ceilNone ..)]
  exact h3

end

end Sys2Proof.Machine

/-! A port that comes to rest (09 R326, 06 R233): its driver is off, no stop is under way, and it is STOPPED. -/

namespace Sys2Proof.Machine

-- One theorem at a time: side by side they ask for more memory than a check may have.
set_option Elab.async false

open Reg

/-! ## Whether a stop is under way, and the driver -/

/-- A port's stop under way, and whether its driver is powered. -/
def PortSt.gear (q : PortSt) : Option StopKind × Bool := (q.link.stopping, q.tx.driver)

/-- The ports' stops under way and drivers. -/
def Dev.gears (s : Dev) : Vector (Option StopKind × Bool) 8 := s.port.map PortSt.gear

theorem Dev.gear_of_gears {a b : Dev} (h : a.gears = b.gears) (p : Port) :
    (a.prt p).link.stopping = (b.prt p).link.stopping ∧ (a.prt p).tx.driver = (b.prt p).tx.driver := by
  have := congrArg (fun v : Vector (Option StopKind × Bool) 8 => v.get p) h
  simpa [Dev.gears, PortSt.gear, Vector.get_eq_getElem, Dev.prt] using this

theorem Dev.gears_of_rests {a b : Dev} (h : a.rests = b.rests) : a.gears = b.gears := by
  have := congrArg (Vector.map PortSt.gear) h
  have e : PortSt.gear ∘ PortSt.rest = PortSt.gear := rfl
  simpa only [Dev.rests, Dev.gears, Vector.map_map, e] using this

section
variable (s : Dev)

@[simp] theorem Dev.rests_putWord (i : MemId) (w : Nat) (x : MWord) : (s.putWord i w x).rests = s.rests := (s.putWord_like i w x).rests
@[simp] theorem Dev.rests_hostWrite (a : Nat) (b : List Byte) : (s.hostWrite a b).rests = s.rests := (s.hostWrite_like a b).rests
@[simp] theorem Dev.rests_logRaw (a b c : Nat) (l : List Byte) : (s.logRaw a b c l).rests = s.rests := (s.logRaw_like a b c l).rests
@[simp] theorem Dev.rests_signal (v : Nat) : (s.signal v).rests = s.rests := (s.signal_like v).rests
@[simp] theorem Dev.rests_correctable (i : MemId) (w : Nat) (y : BitVec 8) : (s.correctable i w y).rests = s.rests := by
  simp [Dev.correctable]
@[simp] theorem Dev.rests_lasting (i : MemId) (w : Nat) (y : BitVec 8) : (s.lasting i w y).rests = s.rests := by
  simp [Dev.lasting]
@[simp] theorem Dev.rests_mergeWord (i : MemId) (w k : Nat) (b : List Byte) : (s.mergeWord i w k b).1.rests = s.rests := by
  unfold Dev.mergeWord
  dsimp only
  split <;> simp
@[simp] theorem Dev.rests_writeMem (i : MemId) (off : Nat) (b : List Byte) : (s.writeMem i off b).1.rests = s.rests :=
  s.writeMem_keep (fun s => s.rests_mergeWord) (fun s => s.rests_putWord) i off b
@[simp] theorem Dev.rests_putData (d : Desc) (off : Nat) (b : List Byte) : (s.putData d off b).1.rests = s.rests := by
  unfold Dev.putData
  split
  · rfl
  · split
    · exact s.rests_hostWrite _ _
    · exact s.rests_writeMem _ _ _
@[simp] theorem Dev.rests_wakeOne (k : WaitKind) (st r : Nat) : (s.wakeOne k st r).rests = s.rests := by
  unfold Dev.wakeOne
  split
  · rfl
  · exact (Dev.rests_finish _ _ _ _).trans (s.rests_waits _)

variable (p : Port) (x : Pair)

theorem Dev.gears_modPort {g : PortSt → PortSt} (h : ∀ q, (g q).gear = q.gear) : (s.modPort p g).gears = s.gears := map_vmod h _ _
@[simp] theorem Dev.gears_set (f : Fld) (v : Nat) : (s.set f v).gears = s.gears := rfl
@[simp] theorem Dev.gears_modEq (g : Eq → Eq) : (s.modEq p x g).gears = s.gears := s.gears_modPort p fun _ => rfl
@[simp] theorem Dev.gears_modAdc (g : Adc → Adc) : (s.modAdc p x g).gears = s.gears := s.gears_modPort p fun _ => rfl
@[simp] theorem Dev.gears_modEcho (g : Echo → Echo) : (s.modEcho p x g).gears = s.gears := s.gears_modPort p fun _ => rfl
@[simp] theorem Dev.gears_modLmc (g : Lmc → Lmc) : (s.modLmc p g).gears = s.gears := s.gears_modPort p fun _ => rfl
@[simp] theorem Dev.gears_modAcq (g : Acq → Acq) : (s.modAcq p g).gears = s.gears := s.gears_modPort p fun _ => rfl
@[simp] theorem Dev.gears_modFd (g : Fd → Fd) : (s.modFd p g).gears = s.gears := s.gears_modPort p fun _ => rfl
@[simp] theorem Dev.gears_modFec (g : Fec → Fec) : (s.modFec p g).gears = s.gears := s.gears_modPort p fun _ => rfl
@[simp] theorem Dev.gears_count (c i n : Nat) : (s.count c i n).gears = s.gears := Dev.gears_of_rests (s.rests_count c i n)
@[simp] theorem Dev.gears_log (f : Fld) (v : Nat) (b : List Byte) : (s.log f v b).gears = s.gears :=
  Dev.gears_of_rests (s.rests_log f v b)
@[simp] theorem Dev.gears_logRaw (a b c : Nat) (l : List Byte) : (s.logRaw a b c l).gears = s.gears :=
  Dev.gears_of_rests (s.rests_logRaw a b c l)
@[simp] theorem Dev.gears_wakeAll (f : WaitKind → Bool) (st : Nat) (r : WaitKind → Nat) : (s.wakeAll f st r).gears = s.gears :=
  Dev.gears_of_rests (s.rests_wakeAll f st r)
@[simp] theorem Dev.gears_iff (b : Bool) (g : Dev → Dev) : (s.iff b g).gears = if b then (g s).gears else s.gears := by
  cases b <;> rfl
@[simp] theorem Dev.gears_ite (c : Prop) [Decidable c] (a b : Dev) : (if c then a else b).gears = if c then a.gears else b.gears :=
  apply_ite Dev.gears c a b
@[simp] theorem Dev.gears_calRefresh : (s.calRefresh p).gears = s.gears := Dev.gears_of_rests (s.rests_calRefresh p)
@[simp] theorem Dev.gears_setGain (g : Int) : (s.setGain p x g).gears = s.gears := by
  simp [Dev.setGain, Dev.disturb, Dev.disturbCal, -Dev.modEq_eq, -Dev.modAdc_eq]
@[simp] theorem Dev.gears_agcEnter (st : Nat) : (s.agcEnter p x st).gears = s.gears := by
  simp [Dev.agcEnter, Dev.overrideRefresh, -Dev.modAdc_eq]
@[simp] theorem Dev.gears_agcTo (st : Nat) : (s.agcTo p x st).gears = s.gears := by simp [Dev.agcTo, Dev.overrideRefresh]
@[simp] theorem Dev.gears_eqPreset : (s.eqPreset p x).gears = s.gears := by
  simp [Dev.eqPreset, Dev.eqShape, Dev.putTaps, -Dev.modEq_eq]
@[simp] theorem Dev.gears_adaptTo (st : Nat) : (s.adaptTo p x st).gears = s.gears := by
  simp [Dev.adaptTo, Dev.echoFollow, Dev.freezeRefresh, -Dev.modEq_eq, -Dev.modEcho_eq]

@[simp] theorem Dev.gears_eyeEnd (st : Nat) : (s.eyeEnd p x st).gears = s.gears := by
  unfold Dev.eyeEnd
  split
  · rfl
  · exact (Dev.gears_of_rests ((Dev.rests_wakeOne ..).trans (Dev.rests_putData ..))).trans (s.gears_modEq p x _)
@[simp] theorem Dev.gears_lmcDrop : (s.lmcDrop p).gears = s.gears := (Dev.gears_wakeAll _ _ _ _).trans (s.gears_modLmc p _)
@[simp] theorem Dev.gears_slipsEnd : (s.slipsEnd p).gears = s.gears := by
  have hd (t : Dev) (r : SlipRun) : (t.slipDone p r).gears = t.gears := by
    have hm (t : Dev) (l : List Nat) : (t.modPort p fun q => { q with slips := l }).gears = t.gears :=
      t.gears_modPort p fun _ => rfl
    unfold Dev.slipDone
    dsimp only
    split <;> simp [hm, Dev.logPlain]
  have hs (t : Dev) : (t.modPort p fun q => { q with slipRx := [], slipTx := [] }).gears = t.gears := t.gears_modPort p fun _ => rfl
  exact (hs _).trans (Dev.each_keep (π := Dev.gears) (fun t r => hd t r) _ s)

@[simp] theorem Dev.gears_dropLink : (s.dropLink p).gears = s.gears := by
  have he (t : Dev) : (t.each bothPairs fun s x => (s.modAdc p x fun a => { a with step := none }).eyeEnd p x stAborted).gears = t.gears :=
    Dev.each_keep (π := Dev.gears) (fun s x => (Dev.gears_eyeEnd _ p x _).trans (s.gears_modAdc p x _)) _ t
  have hs (fs : List Fld) (t : Dev) : (t.each fs fun s f => s.set f 0).gears = t.gears :=
    Dev.each_keep (π := Dev.gears) (g := fun s f => s.set f 0) (fun _ _ => rfl) fs t
  have hi (t : Dev) : (t.iterRefresh p).gears = t.gears := by simp [Dev.iterRefresh]
  have hl (t : Dev) : (t.modLink p fun l => { l with
      burst := Vector.replicate 2 0, reqKind := 0, enter := none, wakePending := false, markWake := false, backoff := false }).gears =
      t.gears := t.gears_modPort p fun _ => rfl
  have ht (t : Dev) : (t.modTx p fun t => { t with
      data := false, idle := false, precodeReq := false, hostOut := false
      pair := t.pair.map fun q => { q with dacOff := false, burst := 0, blk := 0, prbs := 0x1FFF, bit := true, ref := [] } }).gears =
      t.gears := t.gears_modPort p fun _ => rfl
  unfold Dev.dropLink
  dsimp only
  rw [Dev.gears_slipsEnd, hi, hs, hl, ht, Dev.gears_modFec, Dev.gears_modFd, Dev.gears_modAcq, Dev.gears_lmcDrop, he]

theorem Dev.gears_portIdle : (s.portIdle p).gears = s.gears := by
  have hp (t : Dev) : (t.each bothPairs fun s x => s.pairOff p x).gears = t.gears :=
    Dev.each_keep (π := Dev.gears) (fun s x => by simp [Dev.pairOff, Dev.calAbandon, -Dev.modAdc_eq]) _ t
  refine (hp _).trans ?_
  rw [Dev.gears_of_rests (Dev.rests_lineClockLost _ p), Dev.gears_set, Dev.gears_set, Dev.gears_dropLink]

@[simp] theorem Dev.gears_captureAbort : (s.captureAbort p).gears = s.gears := by
  unfold Dev.captureAbort
  dsimp only
  rw [Dev.gears_wakeAll, Dev.gears_iff, Dev.gears_set, ite_self]

/-- The descriptors that wait on the link end, and the stop goes on (09 R329). -/
@[simp] theorem Dev.gears_abortWaits (b : Bool) : (s.abortWaits p b).gears = s.gears := by
  have he (t : Dev) : (t.each bothPairs fun s x => s.eyeEnd p x stAborted).gears = t.gears :=
    Dev.each_keep (π := Dev.gears) (fun s x => s.gears_eyeEnd p x _) _ t
  have hd (t : Dev) : (t.cycleDrop p).gears = t.gears :=
    Dev.each_keep (π := Dev.gears) (fun s x => s.gears_modAdc p x _) _ t
  unfold Dev.abortWaits
  dsimp only
  rw [Dev.gears_wakeAll, Dev.gears_iff, Dev.gears_modFd, hd, Dev.gears_captureAbort, Dev.gears_lmcDrop, he, ite_self]

/-- A port that has come down is STOPPED, with no stop under way and its driver off. -/
theorem Dev.portDown_rests : (s.portDown p).linkState p = 0 ∧ ((s.portDown p).prt p).link.stopping = none ∧
    ((s.portDown p).prt p).tx.driver = false := by
  unfold Dev.portDown
  dsimp only
  generalize (s.storePort p).captureAbort p = t
  have h1 := (Dev.gear_of_gears (Dev.gears_portIdle (t.modTx p fun t =>
    { t with driver := false, delay := false, stopping := false, quenchLf := false }) p) p).2
  generalize (t.modTx p _).portIdle p = u at h1
  have hc : (u.ceilNone p).rests = u.rests := by simp [Dev.ceilNone, Dev.iterRefresh]
  have h2 := (Dev.gear_of_gears (Dev.gears_of_rests hc) p).2
  generalize u.ceilNone p = v at h2
  have h3 (w : Dev) (hw : w.rests = (v.modLink p fun l => { l with stopping := none }).rests) : (w.prt p).link.stopping = none ∧
      (w.prt p).tx.driver = false := by
    obtain ⟨hs, hd⟩ := Dev.gear_of_gears (Dev.gears_of_rests hw) p
    rw [hs, hd]
    refine ⟨by simp, ?_⟩
    have : ((v.modLink p fun l => { l with stopping := none }).prt p).tx.driver = (v.prt p).tx.driver := by simp
    rw [this, h2, h1]
    simp
  refine ⟨?_, h3 _ ((Dev.rests_mapDefault ..).trans (Dev.rests_linkTo ..))⟩
  have hv := Dev.get_inst_of_view (F := LPn_LINK_STATUS_LINK_STATE)
    (Dev.view_mapDefault ((v.modLink p fun l => { l with stopping := none }).linkTo p lsStopped) p (l := hostFlds) (by decide)) (by decide) p
  exact hv.trans (Dev.linkState_linkTo _ p (by decide))

end

end Sys2Proof.Machine

/-! The port descriptors (09 R323–R331). -/

namespace Sys2Proof.Machine

-- One theorem at a time: side by side they ask for more memory than a check may have.
set_option Elab.async false

open Reg

section
variable (s : Dev) (p : Port) (d : Desc)
@[simp] theorem Dev.inDoze_opened : (s.opened d).inDoze p = s.inDoze p := by simp (disch := decide) [Dev.inDoze, Dev.getBit]
@[simp] theorem Dev.dozeBusy_opened : (s.opened d).dozeBusy p = s.dozeBusy p := by simp [Dev.dozeBusy]
@[simp] theorem Dev.dozeBusy_fresh : s.fresh.dozeBusy p = s.dozeBusy p := rfl
@[simp] theorem Dev.groupMatches_opened : (s.opened d).groupMatches p = s.groupMatches p := by
  simp (disch := decide) [Dev.groupMatches, Dev.group]
@[simp] theorem Dev.groupMatches_fresh : s.fresh.groupMatches p = s.groupMatches p := rfl
@[simp] theorem Dev.atRest_opened : (s.opened d).atRest p = s.atRest p := by simp [Dev.atRest]
@[simp] theorem Dev.atRest_fresh : s.fresh.atRest p = s.atRest p := rfl
theorem Dev.statusRecord_opened : (s.opened d).statusRecord p = s.statusRecord p := by
  simp (disch := decide) [Dev.statusRecord]

theorem Dev.linkState_portStarting : (s.portStarting p).linkState p = 1 := by
  unfold Dev.portStarting
  exact Dev.linkState_linkTo _ p (by decide)

theorem Dev.linkState_portStartGo : (s.portStartGo p).linkState p = 1 := by
  unfold Dev.portStartGo
  exact Dev.linkState_portStarting _ p

/-- The default map leaves a port's configuration as it is. -/
theorem Dev.get_mapDefault {F : Nat → Fld} (h : ∀ q : Port, (F q).spared hostFlds = true) (q : Port) :
    (s.mapDefault p).get (F q) = s.get (F q) := 
  Dev.get_inst_of_view (s.view_mapDefault p (l := hostFlds) (by decide)) h q

@[simp] theorem Dev.linkState_finish (st r : Nat) : (s.finish d st r).linkState p = s.linkState p :=
  Dev.get_finish_inst (F := LPn_LINK_STATUS_LINK_STATE) s (by decide) d st r

theorem Dev.startAndWait_now (h : s.linkState p = 0) (hw : d.flag 17 0 = false) :
    s.startAndWait p d = (s.portStartGo p).finish d stOk 0 := by
  simp [Dev.startAndWait, h, hw]

end

/-! ## Stops -/

theorem Dev.sys_of_outer {a b : Dev} (h : a.outer = b.outer) : a.sys = b.sys := (congrArg Dev.sys h :)

/-- A soft reset that is not under way does not go on. -/
theorem Dev.softAdvance_none {s : Dev} (h : s.sys.restart = none) : s.softAdvance = s := by
  unfold Dev.softAdvance
  rw [if_neg (by simp [h])]

section
variable {s : Dev} {p : Port} (hs : s.Still) (hr : ∀ w ∈ s.waits, (w.1 == .portRetrain p) = false)
  (h0 : (s.prt p).link.stopping = none) (k : StopKind) (b : Bool)
include hs hr

/-- A stop begins by ending the descriptors that wait on the link. -/
theorem Dev.stopWaits_eq : (s.abortWaits p false).wakeAll (fun w => w == .portRetrain p) stAborted = s.abortWaits p false :=
  Dev.wakeAll_of_none (by rwa [hs.abortWaits p false]) _ _

include h0

/-- A stop begins with the notice where the partner hears it, else with the transmitters (09 R326). -/
theorem Dev.stopBegin_fresh : s.stopBegin p k b =
    if !b && ((s.abortWaits p false).on (LPn_ACQ_STATUS_SUBCH_ON p) || ((s.abortWaits p false).linkState p == lsTraining &&
      (s.abortWaits p false).on (LPn_ACQ_STATUS_PARTNER_SK p))) then
      ((((s.abortWaits p false).lmcQueue p mtNotice (pay 3 ++ pay 0)).1).modLink p fun l => { l with stopping := some k }, false)
    else (s.abortWaits p false).stopSquelch p k := by
  have h1 := (Dev.gear_of_gears (s.gears_abortWaits p false) p).1.trans h0
  unfold Dev.stopBegin
  dsimp only
  rw [Dev.stopWaits_eq hs hr, h1]
end

section
variable {s : State} {c : Desc} (ha : s.dev.Acts c)
include ha

theorem portConfig_stores (hr : (rateOf (c.bits 17 3 0) (c.bits 18 2 0)).isSome = true) (hz : isNrz (c.bits 17 3 0) = false) :
    Answers (.portConfig c) s fun d => d.Completed c stOk 0 ∧ d.get (LPn_PORT_CFG_MODE (Desc.port c)) = c.bits 17 3 0 ∧
      d.get (LPn_PORT_CFG_LANES (Desc.port c)) = c.bits 18 2 0 ∧ d.get (LPn_PORT_CFG_INNER (Desc.port c)) = bnat (c.flag
      19 0) ∧ d.get (LPn_PORT_CFG_TERM_RX (Desc.port c)) = bnat (c.flag 19 1) ∧ d.get (LPn_PORT_CFG_TERM_TX (Desc.port
      c)) = bnat (c.flag 19 2) := by
  refine answers_of_descriptor (rfl : _ = execPortConfig c s) ha ?_
  have hg : ¬ ((rateOf ((Desc.stamp c s.dev.timebase).bits 17 3 0) ((Desc.stamp c s.dev.timebase).bits 18 2 0)).isNone = true ∨
      isNrz ((Desc.stamp c s.dev.timebase).bits 17 3 0) = true ∧ ((Desc.stamp c s.dev.timebase).flag 19 1 = true ∨
        (Desc.stamp c s.dev.timebase).flag 19 2 = true)) := by
    simp only [stamp_bits, hz]
    simpa [Option.isSome_iff_ne_none] using hr
  dsimp only
  rw [if_neg hg]
  generalize s.dev.fresh.opened c = t
  rw [port_stamp, stamp_bits, stamp_bits, stamp_flag, stamp_flag, stamp_flag]
  have h3 : c.bits 17 3 0 < 16 := Nat.mod_lt _ (by decide)
  have h2 : c.bits 18 2 0 < 8 := Nat.mod_lt _ (by decide)
  have hm : (LPn_PORT_CFG_MODE (Desc.port c)).width = 4 := rfl
  have hn : (LPn_PORT_CFG_LANES (Desc.port c)).width = 3 := rfl
  simp (disch := decide) [Dev.get_mapDefault, hm, hn, Nat.mod_eq_of_lt h3, Nat.mod_eq_of_lt h2]

theorem portStart_starts (hg : s.dev.groupMatches (Desc.port c) = true) (hb : s.dev.dozeBusy (Desc.port c) = false)
    (hq : s.dev.quenching = false) (hl : s.dev.linkState (Desc.port c) = 0) (hd : (s.dev.prt (Desc.port c)).fd.diag = false)
    (hw : c.flag 17 0 = false) :
    Answers (.portStart c) s fun d => d.Completed c stOk 0 ∧ d.linkState (Desc.port c) = 1 := by
  refine answers_of_descriptor (rfl : _ = execPortStart c s) ha ?_
  have hr : s.dev.running (Desc.port c) = false := by simp [Dev.running, hl]
  have h0 : (s.dev.fresh.opened c).linkState (Desc.port c) = 0 := by simpa using hl
  have hw' : ({ Desc.stamp c s.dev.timebase with data := .first } : Desc).flag 17 0 = false := hw
  simp only [port_stamp, Dev.groupMatches_opened, Dev.groupMatches_fresh, hg, Dev.dozeBusy_opened, Dev.dozeBusy_fresh, hb,
    Dev.quenching_opened, Dev.quenching_fresh, hq, Dev.running_opened, Dev.running_fresh, hr]
  have hd' : ((s.dev.fresh.opened c).prt (Desc.port c)).fd.diag = false := by simpa using hd
  simp only [hd']
  generalize s.dev.fresh.opened c = t at h0 ⊢
  rw [if_neg (by decide), if_neg (by decide), if_neg (by decide), if_neg (by decide), t.startAndWait_now _ _ h0 hw']
  simp only [Dev.completed_settle, Dev.completed_busyWith, Dev.linkState_settle, Dev.linkState_busyWith]
  refine ⟨Dev.completed_finish _ { Desc.stamp c s.dev.timebase with data := .first } stOk 0, ?_⟩
  simp [Dev.linkState_portStartGo]

theorem portStop_begins (hl : s.dev.linkState (Desc.port c) = 4) (hb : s.dev.dozeBusy (Desc.port c) = false) (hw : s.dev.waits = [])
    (hs : (s.dev.prt (Desc.port c)).link.stopping = none) (hu : s.dev.get (LPn_ACQ_STATUS_SUBCH_ON (Desc.port c)) = 1)
    (hn : c.flag 17 0 = false) :
    Answers (.portStop c) s fun d => (d.prt (Desc.port c)).link.stopping = some .stop ∧ d.waits = [(.portStop (Desc.port
      c), { Desc.stamp c s.dev.timebase with data := .first })] := by
  refine answers_of_descriptor (rfl : _ = execPortStop c s) ha ?_
  have h4 : (s.dev.fresh.opened c).linkState (Desc.port c) = 4 := by simpa using hl
  have hb' : (s.dev.fresh.opened c).dozeBusy (Desc.port c) = false := by simpa using hb
  have hw' : (s.dev.fresh.opened c).waits = [] := by simpa using hw
  have hs' : ((s.dev.fresh.opened c).prt (Desc.port c)).link.stopping = none := by simpa using hs
  have hu' : (s.dev.fresh.opened c).on (LPn_ACQ_STATUS_SUBCH_ON (Desc.port c)) = true := by
    simp (disch := decide) [hu]
  have hn' : (Desc.stamp c s.dev.timebase).flag 17 0 = false := hn
  rw [port_stamp]
  generalize s.dev.fresh.opened c = t at h4 hb' hw' hs' hu' ⊢
  obtain ⟨h1, -, -⟩ : t.inDoze (Desc.port c) = false ∧ _ ∧ _ := by simpa [Dev.dozeBusy, and_assoc] using hb'
  have hh : t.halt (Desc.port c) .stop false = ((((t.abortWaits (Desc.port c) false).lmcQueue (Desc.port c) mtNotice
      (pay 3 ++ pay 0)).1).modLink (Desc.port c) fun l => { l with stopping := some .stop }, false) := by
    have hv : (t.abortWaits (Desc.port c) false).on (LPn_ACQ_STATUS_SUBCH_ON (Desc.port c)) = true := by
      rw [← hu']
      exact congrArg (fun n => n != 0) (Dev.get_inst_of_view (t.view_abortWaits (Desc.port c) (l := abortFlds) false (by decide))
        (F := LPn_ACQ_STATUS_SUBCH_ON) (by decide) (Desc.port c))
    unfold Dev.halt
    rw [h1, hb', Dev.stopBegin_fresh (Dev.still_nil hw') (by simp [hw']) hs', hv]
    rfl
  have ha : t.atRest (Desc.port c) = false := by simp [Dev.atRest, h4, lsStopped]
  dsimp only
  rw [ha, hn', if_neg (by decide), hh]
  have hw2 := (Dev.still_nil hw').abortWaits (Desc.port c) false
  generalize t.abortWaits (Desc.port c) false = u at hw2
  have hw3 : (u.lmcQueue (Desc.port c) mtNotice (pay 3 ++ pay 0)).1.waits = [] := hw2.trans hw'
  generalize (u.lmcQueue (Desc.port c) mtNotice (pay 3 ++ pay 0)).1 = v at hw3
  simp [hw3]

theorem portStatus_reports (hl : c.length = 32) (ho : (s.dev.ring c.ring).owner = 0) :
    Answers (.portStatus c) s fun d => d.Completed c stOk (word32 (s.dev.statusRecord (Desc.port c)) 0) := by
  refine answers_of_descriptor (rfl : _ = execPortStatus c s) ha ?_
  have hs := Dev.spanBad_opened (s := s.dev.fresh) (d := c) c.length ho s.dev.timebase
  have hf : s.dev.fresh.statusRecord (Desc.port c) = s.dev.statusRecord (Desc.port c) := rfl
  rw [hl] at hs
  rw [stamp_length, hl, if_neg (by simp [hs]), port_stamp, Dev.statusRecord_opened, hf]
  simp only [Dev.completed_settle, Dev.completed_busyWith]
  exact Dev.completed_answer (s := s.dev.fresh) ho (s.dev.statusRecord (Desc.port c)) s.dev.timebase _
end

theorem portWaitTimeout_ends {s : State} {p : Port} {c : Desc} (hw : s.dev.waits = [(.portUp p, c)]) (hb : c.bytes 20 2 ≠ 0) :
    Answers (.portWaitTimeout p) s fun d => d.waits = [] ∧ d.Completed c stTimeout 0 := by
  refine answers_of_run (rfl : _ = execPortWaitTimeout p s) ?_
  have hf : (s.dev.fresh.waits.find? fun w => w.1 == .portUp p && w.2.body.toNat / 256 ^ 20 % 65536 != 0) = some (.portUp p, c) := by
    rw [Dev.fresh_waits, hw, List.find?_cons_of_pos]
    have hb' : c.body.toNat / 256 ^ 20 % 65536 ≠ 0 := hb
    rw [bne_iff_ne.2 hb', beq_self_eq_true, Bool.and_self]
  rw [hf]
  simp [hw, Dev.completed_finish]

section
variable {s : State} {p : Port} (hk : (s.dev.prt p).link.stopping = some .stop) (hr : s.dev.sys.restart = none)
include hk hr

theorem portStopNoticeDone_squelches (ht : (s.dev.prt p).tx.stopping = false) (hd : (s.dev.prt p).tx.driver = true)
    (hz : s.dev.inDoze p = false) (hq : s.dev.quenching = false) :
    Answers (.portStopNoticeDone p) s fun d => (d.prt p).tx.stopping = true ∧ (d.prt p).link.stopping = some .stop := by
  refine answers_of_run (rfl : _ = execPortStopNoticeDone p s) ?_
  have hz' : s.dev.fresh.inDoze p = false := hz
  have hq' : s.dev.fresh.quenching = false := hq
  have hs : s.dev.fresh.stopSquelch p .stop = (((s.dev.fresh.modTx p fun t => { t with stopping := true }).modLink p fun l =>
      { l with stopping := some .stop }).txRefresh p, false) := if_pos (by simp [hd, hq'])
  have hk' : (s.dev.fresh.prt p).link.stopping = some .stop := hk
  have ht' : (s.dev.fresh.prt p).tx.stopping = false := ht
  rw [hk']
  dsimp only
  rw [if_neg (by rw [ht', hz']; decide), if_neg (by decide), hs, Dev.softAdvance_none (by simpa using hr)]
  simp
end

theorem txSquelchEnd_stops {s : State} {p : Port} (hk : (s.dev.prt p).link.stopping = some .stop)
    (ht : (s.dev.prt p).tx.stopping = true) (hr : s.dev.sys.restart = none) :
    Answers (.txSquelchEnd p) s fun d => d.linkState p = 0 ∧ (d.prt p).link.stopping = none ∧ (d.prt p).tx.driver =
      false := by
  refine answers_of_run (rfl : _ = execTxSquelchEnd p s) ?_
  have hd : s.dev.fresh.stopped p .stop = (s.dev.fresh.portDown p).wakeAll (fun w => w == .portStop p) stOk := rfl
  have hr' : (s.dev.fresh.portDown p).sys.restart = none := by
    rw [Dev.sys_of_outer (s.dev.fresh.outer_portDown p)]
    exact hr
  obtain ⟨h0, h1, h2⟩ := s.dev.fresh.portDown_rests p
  have hk' : (s.dev.fresh.prt p).link.stopping = some .stop := hk
  have ht' : (s.dev.fresh.prt p).tx.stopping = true := ht
  rw [if_pos ht', hk', Option.getD_some, hd]
  generalize s.dev.fresh.portDown p = u at hr' h0 h1 h2 ⊢
  rw [Dev.softAdvance_none (by simpa using hr')]
  have hl : (u.wakeAll (fun w => w == .portStop p) stOk).linkState p = 0 :=
    (Dev.get_wakeAll_inst u (F := LPn_LINK_STATUS_LINK_STATE) _ _ _ (by decide)).trans h0
  simp [hl, h1, h2]

end Sys2Proof.Machine

/-! Retrains and resets of a port (09 R327, R328, 13 R446). -/

namespace Sys2Proof.Machine

-- One theorem at a time: side by side they ask for more memory than a check may have.
set_option Elab.async false

open Reg

/-! ## A retrain that begins at once -/

section
variable (s : Dev) (p : Port)

theorem Dev.rim_txStartTaps : (s.txStartTaps p).rim = s.rim := by
  refine (Dev.each_keep (π := Dev.rim) (fun s x => ?_) _ _).trans (s.rim_set _ _)
  simp

theorem Dev.waits_readSettings : (s.readSettings p).waits = s.waits := by
  unfold Dev.readSettings
  rw [Dev.waits_of_rim (Dev.rim_txStartTaps _ p)]
  simp [Dev.termRefresh]

end

section
variable {s : Dev} {p : Port} {e : Desc}

/-- A retrain's action on a port in training: settings read again, and the port searches. -/
def Dev.retrainSearch (s : Dev) (p : Port) : Dev :=
  let s := (s.readSettings p).modFd p fun f => { f with attempts := 0, fallback := false }
  (s.iff (s.get (LPn_FD_STATUS_FDS p) == 7) fun s => s.set (LPn_FD_STATUS_FDS p) 0).toSearch p

/-- What becomes of the descriptors that wait for a retrain, once it has begun. -/
def Dev.retrainEnd (s : Dev) (p : Port) : Dev :=
  let l := s.waits.filter fun w => w.1 == WaitKind.portRetrain p
  { s with waits := s.waits.filter fun w => w.1 != WaitKind.portRetrain p }.each l fun s w =>
    if w.2.flag 17 0 then s.park (.portUp p) w.2 else s.finish w.2 stOk 0

theorem Dev.retrainSearch_searches (hw : s.waits = [(.portRetrain p, e)]) : (s.retrainSearch p).waits = [(.portRetrain p, e)] ∧
    (s.retrainSearch p).linkState p = 2 ∧ (s.retrainSearch p).acqState p = 2 := by
  refine ⟨?_, Dev.linkState_toSearch _ p, Dev.acqState_toSearch _ p⟩
  have hr := (s.waits_readSettings p).trans hw
  unfold Dev.retrainSearch
  dsimp only
  generalize hu : Dev.iff _ _ _ = u
  have hk : u.waits = [(.portRetrain p, e)] := by
    rw [← hu, ← hr]
    simp
  exact (Dev.Still.toSearch (s := u) (by simp [Dev.Still, hk, WaitKind.still]) p).trans hk

/-- A retrain of a port in training searches, and the one PORT_RETRAIN that waits for it, without WAIT_UP, completes OK. -/
theorem Dev.retrainGo_searches (hl : s.linkState p = 3) (hw : s.waits = [(.portRetrain p, e)]) (hf : e.flag 17 0 = false) :
    ∃ u : Dev, s.retrainGo p = u.finish e stOk 0 ∧ u.linkState p = 2 ∧ u.acqState p = 2 := by
  have hg : s.retrainGo p = ((s.modLink p fun l => { l with stopping := none }).retrainSearch p).retrainEnd p := by
    unfold Dev.retrainGo
    dsimp only
    have h3 : (s.modLink p fun l => { l with stopping := none }).linkState p = 3 := hl
    rw [h3, if_pos (by decide), if_neg (by decide)]
    rfl
  have hs : (s.modLink p fun l => { l with stopping := none }).waits = [(.portRetrain p, e)] := hw
  rw [hg]
  generalize s.modLink p _ = t at hs
  obtain ⟨h1, h2, h3⟩ := Dev.retrainSearch_searches hs
  generalize t.retrainSearch p = u at h1 h2 h3
  refine ⟨{ u with waits := [] }, ?_, h2, h3⟩
  unfold Dev.retrainEnd
  simp [h1, hf, Dev.each]
end

/-- A retrain without a notice, of a port in training, begins at once. -/
theorem Dev.retrainBegin_searches {s : Dev} {p : Port} {e : Desc} (hl : s.linkState p = 3)
    (hu : s.on (LPn_ACQ_STATUS_SUBCH_ON p) = false) (hw : s.waits = [(.portRetrain p, e)]) (hf : e.flag 17 0 = false) :
    ∃ u : Dev, s.retrainBegin p true = u.finish e stOk 0 ∧ u.linkState p = 2 ∧ u.acqState p = 2 := by
  have hv := s.view_abortWaits p (l := abortFlds) true (by decide)
  have hl' : (s.abortWaits p true).linkState p = 3 := (Dev.get_inst_of_view (F := LPn_LINK_STATUS_LINK_STATE) hv (by decide) p).trans hl
  have hu' : (s.abortWaits p true).on (LPn_ACQ_STATUS_SUBCH_ON p) = false := by
    rw [← hu]
    exact congrArg (fun n => n != 0) (Dev.get_inst_of_view hv (F := LPn_ACQ_STATUS_SUBCH_ON) (by decide) p)
  have hw' := (Dev.Still.abortWaits (s := s) (by simp [Dev.Still, hw, WaitKind.still]) p true).trans hw
  unfold Dev.retrainBegin
  dsimp only
  rw [if_neg (by rw [hu']; decide)]
  exact Dev.retrainGo_searches hl' hw' hf

/-! ## A port at rest is reset -/

section
variable (s : Dev) (p : Port)

/-- A port that is reset has the link and acquisition records of power-on. -/
theorem Dev.portReset_records : ((s.portReset p).prt p).link = {} ∧ ((s.portReset p).prt p).acq = {} := by
  have hi (t : Dev) : (t.iterRefresh p).prt p = t.prt p := by
    unfold Dev.iterRefresh
    dsimp only
    split <;> rfl
  have hc (t : Dev) : (t.ceilNone p).prt p = t.prt p := (hi _).trans rfl
  have hm (t : Dev) (m : Mdio) : ({ t with mdio := m } : Dev).prt p = t.prt p := rfl
  have hk (t : Dev) : (t.calRefresh p).prt p = t.prt p := by simp
  have ht (t : Dev) : ((t.txRefresh p).prt p).link = (t.prt p).link ∧ ((t.txRefresh p).prt p).acq = (t.prt p).acq :=
    ⟨Dev.link_of_lullPart (t.lullPart_txRefresh p false), by simp⟩
  unfold Dev.portReset
  dsimp only
  rw [hc, (ht _).1, (ht _).2, hk, hm]
  generalize Dev.each _ _ _ = u
  simp

theorem Dev.portResetBegin_atRest (h : s.atRest p = true) (hr : s.sys.restart = none) (k : StopKind) :
    s.portResetBegin p k = (((s.abortWaits p false).portReset p).modLink p fun l => { l with mdioReset := false }, true) := by
  unfold Dev.portResetBegin
  rw [if_neg (by simp [hr]), if_pos h]

theorem Dev.portResetBegin_records (h : s.atRest p = true) (hr : s.sys.restart = none) (k : StopKind) :
    ((s.portResetBegin p k).1.prt p).link = {} ∧ ((s.portResetBegin p k).1.prt p).acq = {} := by
  obtain ⟨hl, ha⟩ := (s.abortWaits p false).portReset_records p
  rw [s.portResetBegin_atRest p h hr]
  simp [hl, ha]
end

/-- The write of a port's reset bit over MDIO asks for the reset. -/
theorem Dev.serialWrites_reset {s : Dev} (h : s.Serving .mdio) (p : Port) :
    s.serialWrites .mdio [⟨.mdio, resetAddr p, bytesOf 2 0x8000⟩] = s.mdioReset p := by
  have hp : (Fin.ofNat 8 (resetAddr p - 0x100000) : Port) = p := by
    simp [resetAddr]
  have hr : resetAddr p = 0x100000 + p.val := rfl
  have hlo : 0x10000 ≤ resetAddr p := by omega
  have ha : s.writeArrives ⟨.mdio, resetAddr p, bytesOf 2 0x8000⟩ = s.mdioReset p := by
    unfold Dev.writeArrives
    rw [if_neg (by simp [isHearth_of_le hlo]), if_neg (by dsimp only; omega), if_neg (by simp [h.awake])]
    unfold Dev.writeActs
    dsimp only
    rw [if_neg (by omega), if_neg (by omega), if_neg (by omega), hp]
  rw [Dev.serialWrites, h.2.2.2]
  exact ha

section
variable {s : State} {c : Desc}

theorem portRetrain_searches (ha : s.dev.Acts c) (hl : s.dev.linkState (Desc.port c) = 3)
    (hb : s.dev.dozeBusy (Desc.port c) = false) (hw : s.dev.waits = []) (hs : (s.dev.prt (Desc.port c)).link.stopping = none)
    (hu : s.dev.get (LPn_ACQ_STATUS_SUBCH_ON (Desc.port c)) = 0) (hf : c.flag 17 0 = false) :
    Answers (.portRetrain c) s fun d => d.Completed c stOk 0 ∧ d.linkState (Desc.port c) = 2 ∧ d.acqState (Desc.port c) =
      2 := by
  refine answers_of_descriptor (rfl : _ = execPortRetrain c s) ha ?_
  have h3 : (s.dev.fresh.opened c).linkState (Desc.port c) = 3 := by simpa using hl
  have hb' : (s.dev.fresh.opened c).dozeBusy (Desc.port c) = false := by simpa using hb
  have hw' : (s.dev.fresh.opened c).waits = [] := by simpa using hw
  have hs' : ((s.dev.fresh.opened c).prt (Desc.port c)).link.stopping = none := by simpa using hs
  have hu' : (s.dev.fresh.opened c).on (LPn_ACQ_STATUS_SUBCH_ON (Desc.port c)) = false := by
    simp (disch := decide) [hu]
  have hf' : ({ Desc.stamp c s.dev.timebase with data := .first } : Desc).flag 17 0 = false := hf
  rw [port_stamp]
  generalize s.dev.fresh.opened c = t at h3 hb' hw' hs' hu' ⊢
  dsimp only
  rw [h3, if_neg (by simp [hb']), hs', if_neg (by simp), Dev.wakeAll_nothing hw']
  obtain ⟨u, hu, h1, h2⟩ := Dev.retrainBegin_searches (s := t.park (.portRetrain (Desc.port c))
    { Desc.stamp c s.dev.timebase with data := .first }) h3 hu' (by simp [hw']) hf'
  rw [hu]
  have ha (st r : Nat) : (u.finish { Desc.stamp c s.dev.timebase with data := .first } st r).acqState (Desc.port c) =
      u.acqState (Desc.port c) := Dev.get_finish_inst (F := LPn_ACQ_STATUS_ACQ_STATE) u (by decide) _ st r
  simp only [Dev.completed_settle, Dev.completed_busyWith, Dev.linkState_settle, Dev.linkState_busyWith, Dev.acqState_settle,
    Dev.acqState_busyWith, Dev.linkState_finish, ha, h1, h2, and_true]
  exact Dev.completed_finish u { Desc.stamp c s.dev.timebase with data := .first } stOk 0

theorem portReset_resets (ha : s.dev.Acts c) (h : s.dev.atRest (Desc.port c) = true) (hr : s.dev.sys.restart = none) :
    Answers (.portReset c) s fun d => d.Completed c stOk 0 ∧ (d.prt (Desc.port c)).link = {} ∧ (d.prt (Desc.port c)).acq
      = {} := by
  refine answers_of_descriptor (rfl : _ = execPortReset c s) ha ?_
  have h' : (s.dev.fresh.opened c).atRest (Desc.port c) = true := by simpa using h
  have hr' : (s.dev.fresh.opened c).sys.restart = none := by simpa using hr
  rw [port_stamp]
  generalize s.dev.fresh.opened c = t at h' hr' ⊢
  obtain ⟨hl, hq⟩ := t.portResetBegin_records (Desc.port c) h' hr' .reset
  have h2 : (t.portResetBegin (Desc.port c) .reset).2 = true := by rw [t.portResetBegin_atRest _ h' hr']
  dsimp only
  rw [h2, if_pos rfl]
  generalize (t.portResetBegin (Desc.port c) .reset).1 = u at hl hq
  simp [hl, hq]

theorem mdioPortReset_resets {p : Port} (h : s.dev.Serving .mdio) (ha : s.dev.atRest p = true) (hr : s.dev.sys.restart = none)
    (hm : (s.dev.prt p).link.mdioReset = false) :
    Answers (.mdioPortReset p) s fun d => (d.prt p).link = {} ∧ (d.prt p).acq = {} := by
  refine answers_of_run (rfl : _ = execMdioPortReset p s) ?_
  have hd : (s.dev.fresh.served .mdio).serialWrites .mdio [⟨.mdio, resetAddr p, bytesOf 2 0x8000⟩] =
      (s.dev.fresh.served .mdio).mdioReset p := Dev.serialWrites_reset (s := s.dev.fresh.served .mdio) h p
  rw [mdioFrame_serving h, hd]
  have hm' : ((s.dev.fresh.served .mdio).prt p).link.mdioReset = false := hm
  have ha' : ((s.dev.fresh.served .mdio).modLink p fun l => { l with mdioReset := true }).atRest p = true := ha
  have hr' : ((s.dev.fresh.served .mdio).modLink p fun l => { l with mdioReset := true }).sys.restart = none := hr
  unfold Dev.mdioReset
  rw [if_neg (by rw [hm']; decide)]
  exact Dev.portResetBegin_records _ p ha' hr' _
end

/-- Settles O20, clause by clause. -/
theorem portDescriptors : Obligations.PortDescriptors :=
  ⟨fun _ _ ha hr hz => portConfig_stores ha hr hz,
   fun _ _ ha hg hb hq hl hd hw => portStart_starts ha hg hb hq hl hd hw,
   fun _ _ _ hw hb => portWaitTimeout_ends hw hb,
   fun _ _ ha hl hb hw hs hu hn => portStop_begins ha hl hb hw hs hu hn,
   fun _ _ hk ht hd hz hq hr => portStopNoticeDone_squelches hk hr ht hd hz hq,
   fun _ _ hk ht hr => txSquelchEnd_stops hk ht hr,
   fun _ _ ha hl hb hw hs hu hf => portRetrain_searches ha hl hb hw hs hu hf,
   fun _ _ ha h hr => portReset_resets ha h hr,
   fun _ _ ha hl ho => portStatus_reports ha hl ho⟩

/-- Settles O31, clause by clause. -/
theorem serialAndPcieAccesses : Obligations.SerialAndPcieAccesses :=
  ⟨fun _ _ _ h hr hg => spiWrite_as_register h hr hg rfl,
   fun _ _ _ h hr hg => spiWrite_as_register h hr hg rfl,
   fun _ _ h hr => spiRead_as_register h hr rfl,
   fun _ _ h hr => spiRead_as_register h hr rfl,
   fun _ _ h hx => spiIgnoredCommand_ignored h hx,
   fun _ h hw => mdioDataLoRead_gives h hw,
   fun _ h => mdioDataHiRead_gives h,
   fun _ v h => mdioDataLoWrite_holds h v,
   fun _ _ _ h ha hr => mdioDataHiWrite_writes h ha hr,
   fun _ h => mdioWinStatusRead_gives h,
   fun _ _ h ha hr hm => mdioPortReset_resets h ha hr hm,
   fun _ _ h hl hp => mdioLinkStatusRead_gives h hl hp,
   fun _ _ h hq hr => pcieMemoryRequest_reads h hq hr,
   fun _ _ _ _ h hx hr hv hroom => doorbell_sets h hx hr hv hroom,
   fun _ _ _ h hd hx hr he hv ht => mdioDbValueWrite_sets h hd hx hr he hv ht,
   fun _ _ _ h => doorbellRead_gives h⟩

end Sys2Proof.Machine

/-! Power votes, power statistics and the core (16 R550–R553, 01 R21). -/

namespace Sys2Proof.Machine

-- One theorem at a time: side by side they ask for more memory than a check may have.
set_option Elab.async false

open Reg

section
variable (s : Dev)

/-- A vote that comes leaves what the host has voted, and the core. -/
theorem Dev.hold_powerSync : s.powerSync.pwr.hold = s.pwr.hold := by
  unfold Dev.powerSync
  split
  · simp [Dev.entryAbort]
  · rfl

theorem Dev.sys_powerSync : s.powerSync.sys = s.sys := by
  unfold Dev.powerSync
  split
  · simp [Dev.entryAbort]
  · rfl

/-- Outside an entry a vote changes nothing. -/
theorem Dev.powerSync_of_state (h : s.get PWR_STATE_STATE ≠ 1) : s.powerSync = s := if_neg fun k => h k.1

/-- The first word of the power record: the state, the ports in DOZE, the last wake and the shedding in force (16 Table 16.8). -/
theorem Dev.word32_powerRecord : word32 s.powerRecord 0 = ofBytes (pay (s.get PWR_STATE_STATE) ++ pay (s.get PWR_DOZE_IN_DOZE) ++
    pay (s.get PWR_STATE_LAST_WAKE + 8 * s.get PWR_STATE_LAST_PORT) ++ pay s.shed.top) := rfl

theorem Dev.hold_flushDue (b : Bool) : (s.flushDue b).pwr = s.pwr ∧ (s.flushDue b).waits = s.waits := by
  unfold Dev.flushDue
  split <;> exact ⟨rfl, rfl⟩
end

section
variable {s : State} {c : Desc} (ha : s.dev.Acts c)
include ha

theorem powerVoteHold_holds (hv : voteTarget c = 0 ∧ voteAction c = 0) :
    Answers (.powerVoteHold c) s fun d => d.pwr.hold = true ∧ (s.dev.get PWR_STATE_STATE ≠ 1 → d.Completed c stOk 0) := by
  refine answers_of_descriptor (rfl : _ = execPowerVoteHold c s) ha ?_
  have hb : voteBad (Desc.stamp c s.dev.timebase) = false := by
    change (if voteTarget c = 0 then voteAction c == 3 else decide (2 ≤ voteAction c)) = false
    rw [hv.1, hv.2]
    decide
  have hg : (s.dev.fresh.opened c).get PWR_STATE_STATE = s.dev.get PWR_STATE_STATE := by simp (disch := decide)
  rw [hb, if_neg (by decide)]
  generalize s.dev.fresh.opened c = t at hg
  refine ⟨by simp [Dev.hold_powerSync], fun hn => ?_⟩
  rw [Dev.powerSync_of_state _ (by simpa (disch := decide) [hg] using hn)]
  simp

theorem powerVoteRelease_releases : Answers (.powerVoteRelease c) s fun d => d.pwr.hold = false ∧ d.Completed c stOk 0 := by
  refine answers_of_descriptor (rfl : _ = execPowerVoteRelease c s) ha ?_
  simp

theorem powerVoteEnter_waits (ht : c.bytes 20 2 ≠ 0) :
    Answers (.powerVoteEnter c) s fun d => d.pwr.hold = false ∧ d.waits = s.dev.waits ++ [(.enter,
      { Desc.stamp c s.dev.timebase with data := .first })] := by
  refine answers_of_descriptor (rfl : _ = execPowerVoteEnter c s) ha ?_
  dsimp only
  rw [stamp_bytes, if_neg (fun h => ht h.1)]
  obtain ⟨hp, hw⟩ := Dev.hold_flushDue ((s.dev.fresh.opened c).modPwr fun w => { w with hold := false, serialWaived := true }) true
  generalize Dev.flushDue _ true = u at hp hw ⊢
  simp [hp, hw]

theorem powerStats_reports (hl : c.length = 64) (ho : (s.dev.ring c.ring).owner = 0) :
    Answers (.powerStats c) s fun d => d.Completed c stOk (word32 s.dev.powerRecord 0) := by
  refine answers_of_descriptor (rfl : _ = execPowerStats c s) ha ?_
  have hs := Dev.spanBad_opened (s := s.dev.fresh) (d := c) c.length ho s.dev.timebase
  have hf : word32 (s.dev.fresh.opened c).powerRecord 0 = word32 s.dev.powerRecord 0 := by
    rw [Dev.word32_powerRecord, Dev.word32_powerRecord]
    simp (disch := decide)
  rw [hl] at hs
  rw [stamp_length, hl, if_neg (by simp [hs]), hf]
  simp only [Dev.completed_settle, Dev.completed_busyWith]
  exact Dev.completed_answer (s := s.dev.fresh) ho _ s.dev.timebase _
end

section
variable {s : State} {c : Desc}

theorem powerVoteEnterTimeout_refuses (hw : s.dev.waits = [(.enter, c)]) (h0 : s.dev.get PWR_STATE_STATE = 0) (hv : s.dev.votes ≠ 0) :
    Answers .powerVoteEnterTimeout s fun d => d.waits = [] ∧ d.get PWR_EVENTS_REFUSED = 1 ∧ d.Completed c stRefused
      (lowClient s.dev.votes 31) := by
  refine answers_of_run (rfl : _ = execPowerVoteEnterTimeout s) ?_
  have hg : s.dev.fresh.waiting .enter = some c := Dev.waiting_of_waits (s := s.dev.fresh) hw
  have hv' : s.dev.fresh.votes ≠ 0 := hv
  have hn : s.dev.fresh.enterRefused.2 = lowClient s.dev.votes 31 := rfl
  have hr : s.dev.fresh.enterRefused.1.waits = [(.enter, c)] ∧ s.dev.fresh.enterRefused.1.get PWR_EVENTS_REFUSED = 1 := by
    refine ⟨by simp [Dev.enterRefused, hw], ?_⟩
    unfold Dev.enterRefused
    simp (disch := decide)
  rw [if_pos ⟨by simp [hg], h0, hv'⟩]
  dsimp only
  rw [hn]
  generalize s.dev.fresh.enterRefused.1 = u at hr
  obtain ⟨hu, he⟩ := hr
  simp (disch := decide) [Dev.waits_wakeOne hu, Dev.completed_wakeOne hu, he]

theorem powerVoteDozeTimeout_ends {ring : RingNo} {n m : Nat} (hw : s.dev.waits = [(.doze m, c)]) (hc : c.ring = ring ∧ c.tag = n) :
    Answers (.powerVoteDozeTimeout ring n) s fun d => d.waits = [] ∧ d.Completed c stTimeout (s.dev.get
      PWR_DOZE_IN_DOZE) := by
  refine answers_of_run (rfl : _ = execPowerVoteDozeTimeout ring n s) ?_
  obtain ⟨hr, hn⟩ := hc
  simp [hw, hr, hn, Dev.completed_finish]
end

theorem coreHalt_halts {s : State} (h : s.dev.coreRuns = true) : Answers .coreHalt s fun d => d.sys.core = .halted := by
  refine answers_of_run (rfl : _ = execCoreHalt s) ?_
  have h' : s.dev.fresh.coreRuns = true := h
  rw [if_pos h']
  simp [Dev.sys_powerSync, Dev.sys_setCore]

theorem coreRun_runs {s : State} (h : s.dev.sys.core = .halted) :
    Answers .coreRun s fun d => d.sys.core = .running ∧ d.get THM_STATUS_GUARD = 0 := by
  refine answers_of_run (rfl : _ = execCoreRun s) ?_
  have h' : s.dev.fresh.sys.core = .halted := h
  have hs : s.dev.fresh.setCore .running = (s.dev.fresh.modSys fun y => { y with core := .running }).adaptFollow.flag THM_STATUS_GUARD false := rfl
  rw [if_pos h']
  refine ⟨by simp [Dev.sys_setCore], ?_⟩
  rw [Dev.get_settle, hs]
  simp (disch := decide)

end Sys2Proof.Machine

/-! DOZE requests and entries (16 R547–R551). -/

namespace Sys2Proof.Machine

-- One theorem at a time: side by side they ask for more memory than a check may have.
set_option Elab.async false

open Reg

/-! ## Bits of a mask -/

theorem bitOf_putBit (n i : Nat) (b : Bool) : bitOf (putBit n i b) i = b := by
  have h2 : 0 < 2 ^ i := Nat.two_pow_pos i
  unfold putBit
  split
  next h => exact beq_iff_eq.1 h
  next h =>
    have hb : bitOf n i = !b := Bool.eq_not.2 fun e => h (beq_iff_eq.2 e)
    unfold bitOf at hb ⊢
    cases b
    · have h1 : n / 2 ^ i % 2 = 1 := by simpa using hb
      have hle : 2 ^ i ≤ n := by
        by_contra hc
        rw [Nat.div_eq_of_lt (by omega)] at h1
        omega
      simp only [Bool.false_eq_true, if_false, beq_eq_false_iff_ne]
      rw [Nat.sub_eq_of_eq_add (a := n) (c := n - 2 ^ i) (b := 2 ^ i) (by omega)]
      have := Nat.add_div_right (n - 2 ^ i) h2
      rw [Nat.sub_add_cancel hle] at this
      omega
    · have h1 : n / 2 ^ i % 2 ≠ 1 := by simpa using hb
      have := Nat.add_div_right n h2
      simp only [if_true, beq_iff_eq]
      omega

theorem bitOf_mod (n : Nat) {w i : Nat} (h : i < w) : bitOf (n % 2 ^ w) i = bitOf n i := by
  have ht : (n % 2 ^ w).testBit i = n.testBit i := by simp [h]
  simp only [Nat.testBit_eq_decide_div_mod_eq] at ht
  unfold bitOf
  by_cases hb : n / 2 ^ i % 2 = 1 <;> simp [hb] at ht ⊢ <;> exact ht

theorem Dev.getBit_putBit (s : Dev) {f : Fld} {i : Nat} (h : i < f.width) (b : Bool) : (s.putBit f i b).getBit f i = b := by
  unfold Dev.putBit Dev.getBit
  rw [Dev.get_set_self, bitOf_mod _ h, bitOf_putBit]

/-! ## What a port's stop leaves of the DOZE requests -/

/-- What DOZE goes by, beside the ports' own records: the firmware's state, the ports on their way in and out, and the masks of the
ports asked for and in DOZE. -/
def Dev.ward (s : Dev) : Sys × Vector Bool 8 × Vector Bool 8 × Nat × Nat :=
  (s.sys, s.pwr.dozing, s.pwr.waking, s.get PWR_DOZE_REQ, s.get PWR_DOZE_IN_DOZE)

/-- The registers outside DOZE's own that a port's way in or out writes. -/
def wardFlds : List Fld :=
  [portsAll, CHK_SIG_FAIL_LO_BANKS, CHK_SIG_FAIL_HI_BANKS, CHK_EVENTS_SIG_FAIL, PWR_RESTORE_LOST_PORT, PWR_EVENTS_RESTORE_LOST]

theorem Dev.ward_of {a b : Dev} (ho : a.outer = b.outer) (hv : a.view wardFlds = b.view wardFlds) : a.ward = b.ward := by
  obtain ⟨-, -, -, -, -, -, -, -, -, -, -, -, -, -, -, -, -, hs, -, -, hd, hw, -, -⟩ := Dev.sameOuter ho
  unfold Dev.ward
  rw [hs, hd, hw, Dev.get_of_view hv (f := PWR_DOZE_REQ) (by decide), Dev.get_of_view hv (f := PWR_DOZE_IN_DOZE) (by decide)]

section
variable {a b : Dev} (h : a.ward = b.ward)
include h
theorem Dev.sys_of_ward : a.sys = b.sys := (congrArg (fun w => w.1) h :)
theorem Dev.dozing_of_ward : a.pwr.dozing = b.pwr.dozing := (congrArg (fun w => w.2.1) h :)
theorem Dev.waking_of_ward : a.pwr.waking = b.pwr.waking := (congrArg (fun w => w.2.2.1) h :)
theorem Dev.asked_of_ward : a.get PWR_DOZE_REQ = b.get PWR_DOZE_REQ := (congrArg (fun w => w.2.2.2.1) h :)
theorem Dev.inDoze_of_ward : a.get PWR_DOZE_IN_DOZE = b.get PWR_DOZE_IN_DOZE := (congrArg (fun w => w.2.2.2.2) h :)
end

section
variable (s : Dev) (p : Port)

theorem Dev.ward_linkTo (n : Nat) : (s.linkTo p n).ward = s.ward := Dev.ward_of (by simp) (by simp (disch := decide))
theorem Dev.ward_abortWaits (b : Bool) : (s.abortWaits p b).ward = s.ward := Dev.ward_of (by simp) (by simp (disch := decide))
theorem Dev.ward_wakeAll (f : WaitKind → Bool) (st : Nat) (r : WaitKind → Nat) : (s.wakeAll f st r).ward = s.ward :=
  Dev.ward_of (by simp) (by simp)
theorem Dev.ward_portDown : (s.portDown p).ward = s.ward := Dev.ward_of (by simp) (by simp (disch := decide))
theorem Dev.ward_txRefresh (b : Bool) : (s.txRefresh p b).ward = s.ward := Dev.ward_of (by simp) (by simp (disch := decide))
theorem Dev.ward_dozeChecks : s.dozeChecks.ward = s.ward := s.ward_wakeAll _ _ _
theorem Dev.ward_captureLost : (s.captureLost p).ward = s.ward := by
  refine Dev.ward_of ?_ (by simp (disch := decide))
  unfold Dev.captureLost
  simp only [Dev.outer_set]
  exact s.outer_modPort p _
theorem Dev.ward_modPort (g : PortSt → PortSt) : (s.modPort p g).ward = s.ward := rfl
theorem Dev.ward_lmcQueue (typ : Nat) (b : List Byte) (a u : Bool) : (s.lmcQueue p typ b a u).1.ward = s.ward :=
  Dev.ward_of (by simp) (by simp)

theorem Dev.stopped_doze : s.stopped p .doze = (s.portDown p).wakeAll (fun w => w == .portStop p) stOk := rfl

/-- A stop for DOZE leaves what DOZE goes by. -/
theorem Dev.ward_stopSquelch : (s.stopSquelch p .doze).1.ward = s.ward := by
  unfold Dev.stopSquelch
  split
  · exact (Dev.ward_txRefresh _ p false).trans rfl
  · rw [s.stopped_doze p, Dev.ward_wakeAll, s.ward_portDown p]
end

section
variable {s : Dev} {p : Port} (hs : s.Still)
include hs

theorem Dev.Still.stopSquelch : (s.stopSquelch p .doze).1.waits = s.waits := by
  unfold Dev.stopSquelch
  split
  · rw [Dev.waits_of_rim (Dev.rim_txRefresh ..)]
    simp
  · have hd := hs.portDown p
    rw [s.stopped_doze p, (hs.of_waits hd).waits_wakeAll (fun _ => rfl) (fun _ => rfl), hd]

variable (hr : ∀ w ∈ s.waits, (w.1 == .portRetrain p) = false) (h0 : (s.prt p).link.stopping = none)
include hr h0

/-- The stop that a doze request begins leaves the request and the descriptors that wait for it. -/
theorem Dev.stopBegin_doze (b : Bool) : (s.stopBegin p .doze b).1.ward = s.ward ∧ (s.stopBegin p .doze b).1.waits = s.waits := by
  have hw := hs.abortWaits p false
  have ha := s.ward_abortWaits p false
  rw [Dev.stopBegin_fresh hs hr h0]
  generalize s.abortWaits p false = t at hw ha
  split
  · exact ⟨(Dev.ward_modPort _ p _).trans ((t.ward_lmcQueue p _ _ _ _).trans ha), hw⟩
  · exact ⟨(t.ward_stopSquelch p).trans ha, (Dev.Still.stopSquelch (hs.of_waits hw)).trans hw⟩
end

/-! ## Requests -/

theorem bitOf_of_portsOf {m : Nat} {p : Port} (h : portsOf m = [p]) : bitOf m p = true := by
  have hp : p ∈ portsOf m := by
    rw [h]
    exact List.mem_singleton_self p
  exact (List.mem_filter.1 hp).2

/-- Descriptors that wait for DOZE go on waiting while a port that they name is not in it, and those that wait for a wake while a
port that they name has not left (16 R551). -/
theorem Dev.dozeChecks_eq {s : Dev} {k : WaitKind} {e : Desc} {m : Nat} {p : Port} (hw : s.waits = [(k, e)]) (hm : bitOf m p = true)
    (hk : k = .doze m ∧ s.inDoze p = false ∨ k = .wake m ∧ s.dozeBusy p = true) : s.dozeChecks = s := by
  refine Dev.wakeAll_of_none (fun w hx => ?_) _ _
  rw [hw, List.mem_singleton] at hx
  subst hx
  obtain ⟨rfl, hd⟩ | ⟨rfl, hd⟩ := hk
  · exact List.all_eq_false.2 ⟨p, List.mem_finRange p, by simp [hm, hd]⟩
  · exact List.all_eq_false.2 ⟨p, List.mem_finRange p, by simp [hm, hd]⟩

section
variable {s : Dev} {p : Port}

/-- A request to a stopped port begins its entry to DOZE. -/
theorem Dev.dozeRequest_begins (hs : s.Still) (hr : ∀ w ∈ s.waits, (w.1 == .portRetrain p) = false)
    (h0 : (s.prt p).link.stopping = none) (hb : s.dozeBusy p = false) :
    (s.dozeRequest p false).pwr.dozing.get p = true ∧ (s.dozeRequest p false).getBit PWR_DOZE_REQ p = true ∧
      (s.dozeRequest p false).inDoze p = false ∧ (s.dozeRequest p false).waits = s.waits := by
  have hb' : (s.inDoze p = false ∧ s.pwr.dozing.get p = false) ∧ s.pwr.waking.get p = false := by
    simpa only [Dev.dozeBusy, Bool.or_eq_false_iff] using hb
  obtain ⟨⟨hi, -⟩, hw⟩ := hb'
  let t := ((((s.putBit PWR_DOZE_REQ p true).putBit PWR_DOZE_SHED p false).putBit PWR_DOZE_STARTED p (s.running p)).setDozing p true)
  have he : s.dozeRequest p false = (t.stopBegin p .doze false).1 := by
    unfold Dev.dozeRequest
    dsimp only
    rw [if_neg (by simp [hw]), if_neg (by simp [hb])]
  obtain ⟨hv, hq⟩ := Dev.stopBegin_doze (s := t) (p := p) hs hr h0 false
  rw [he]
  generalize (t.stopBegin p .doze false).1 = u at hv hq
  have ht : t.pwr.dozing = s.pwr.dozing.set p true := rfl
  have hr : t.get PWR_DOZE_REQ = (s.putBit PWR_DOZE_REQ p true).get PWR_DOZE_REQ := by
    simp (disch := decide) [t, Dev.setDozing]
  have hi' : t.get PWR_DOZE_IN_DOZE = s.get PWR_DOZE_IN_DOZE := by
    simp (disch := decide) [t, Dev.setDozing]
  refine ⟨by rw [Dev.dozing_of_ward hv, ht]; simp [Vector.get_eq_getElem], ?_, ?_, hq⟩
  · have hb := s.getBit_putBit (f := PWR_DOZE_REQ) p.isLt true
    unfold Dev.getBit at hb ⊢
    rw [Dev.asked_of_ward hv, hr, hb]
  · unfold Dev.inDoze Dev.getBit at hi ⊢
    rw [Dev.inDoze_of_ward hv, hi', hi]
end

/-- A port in DOZE that is woken is on its way out. -/
theorem Dev.dozeWake_begins {s : Dev} {p : Port} (hi : s.inDoze p = true) (hd : s.pwr.dozing.get p = false) :
    (s.dozeWake p 0).pwr.waking.get p = true ∧ (s.dozeWake p 0).getBit PWR_DOZE_REQ p = false ∧ (s.dozeWake p 0).waits = s.waits := by
  have hi' : ((s.putBit PWR_DOZE_REQ p false).putBit PWR_DOZE_SHED p false).inDoze p = true := by
    rw [← hi]
    simp (disch := decide) [Dev.inDoze, Dev.getBit]
  have he : s.dozeWake p 0 = ((s.putBit PWR_DOZE_REQ p false).putBit PWR_DOZE_SHED p false).setWaking p true := by
    unfold Dev.dozeWake
    dsimp only
    rw [if_neg (by simp [hd]), if_pos hi']
  have hb := s.getBit_putBit (f := PWR_DOZE_REQ) p.isLt false
  rw [he]
  refine ⟨by simp [Dev.setWaking, Vector.get_eq_getElem], ?_, rfl⟩
  have hr : (((s.putBit PWR_DOZE_REQ p false).putBit PWR_DOZE_SHED p false).setWaking p true).get PWR_DOZE_REQ =
      (s.putBit PWR_DOZE_REQ p false).get PWR_DOZE_REQ := by simp (disch := decide) [Dev.setWaking]
  unfold Dev.getBit at hb ⊢
  rw [hr, hb]

section
variable {s : State} {c : Desc} {p : Port} (ha : s.dev.Acts c) (hp : portsOf (votePorts c) = [p])
  (hf : s.dev.dozeRefuses (votePorts c) = false) (hw : s.dev.waits = [])
include ha hp hf hw

theorem powerVoteDoze_begins (hb : s.dev.dozeBusy p = false) (h0 : (s.dev.prt p).link.stopping = none) :
    Answers (.powerVoteDoze c) s fun d => d.pwr.dozing.get p = true ∧ d.getBit PWR_DOZE_REQ p = true ∧ d.waits = [(.doze
      (votePorts c), { Desc.stamp c s.dev.timebase with data := .first })] := by
  refine answers_of_descriptor (rfl : _ = execPowerVoteDoze c s) ha ?_
  have hf' : (s.dev.fresh.opened c).dozeRefuses (votePorts c) = false := by
    simpa [Dev.dozeRefuses] using hf
  have hb' : (s.dev.fresh.opened c).dozeBusy p = false := by simpa using hb
  have h0' : ((s.dev.fresh.opened c).prt p).link.stopping = none := by simpa using h0
  have hw' : (s.dev.fresh.opened c).waits = [] := by simpa using hw
  generalize s.dev.fresh.opened c = t at hf' hb' h0' hw'
  have he : votePorts (Desc.stamp c s.dev.timebase) = votePorts c := rfl
  dsimp only
  rw [he, hp, if_neg (by simp), hf', if_neg (by decide), Dev.each_cons, Dev.each_nil]
  have hwp : (t.park (.doze (votePorts c)) { Desc.stamp c s.dev.timebase with data := .first }).waits =
      [(.doze (votePorts c), { Desc.stamp c s.dev.timebase with data := .first })] := by simp [hw']
  obtain ⟨h1, h2, h3, h4⟩ := Dev.dozeRequest_begins
    (s := t.park (.doze (votePorts c)) { Desc.stamp c s.dev.timebase with data := .first }) (p := p)
    (fun w hx => by rw [hwp, List.mem_singleton] at hx; subst hx; rfl)
    (fun w hx => by rw [hwp, List.mem_singleton] at hx; subst hx; rfl) h0' hb'
  generalize Dev.dozeRequest _ p false = u at h1 h2 h3 h4
  rw [Dev.dozeChecks_eq (h4.trans hwp) (bitOf_of_portsOf hp) (.inl ⟨rfl, h3⟩)]
  exact ⟨h1, h2, h4.trans hwp⟩

theorem powerVoteWake_begins (hd : s.dev.inDoze p = true ∧ s.dev.pwr.dozing.get p = false) :
    Answers (.powerVoteWake c) s fun d => d.pwr.waking.get p = true ∧ d.getBit PWR_DOZE_REQ p = false ∧ d.waits = [(.wake
      (votePorts c), { Desc.stamp c s.dev.timebase with data := .first })] := by
  refine answers_of_descriptor (rfl : _ = execPowerVoteWake c s) ha ?_
  have hf' : (s.dev.fresh.opened c).dozeRefuses (votePorts c) = false := by
    simpa [Dev.dozeRefuses] using hf
  have hi : (s.dev.fresh.opened c).inDoze p = true := (Dev.inDoze_opened _ p c).trans hd.1
  have hz : (s.dev.fresh.opened c).pwr.dozing.get p = false := by simpa using hd.2
  have hw' : (s.dev.fresh.opened c).waits = [] := by simpa using hw
  generalize s.dev.fresh.opened c = t at hf' hi hz hw'
  have he : votePorts (Desc.stamp c s.dev.timebase) = votePorts c := rfl
  dsimp only
  rw [he, hp, if_neg (by simp), hf', if_neg (by decide), Dev.each_cons, Dev.each_nil]
  obtain ⟨h1, h2, h3⟩ := Dev.dozeWake_begins
    (s := t.park (.wake (votePorts c)) { Desc.stamp c s.dev.timebase with data := .first }) (p := p) hi hz
  generalize Dev.dozeWake _ p 0 = u at h1 h2 h3
  have hwp : u.waits = [(.wake (votePorts c), { Desc.stamp c s.dev.timebase with data := .first })] := by
    rw [h3]
    simp [hw']
  rw [Dev.dozeChecks_eq hwp (bitOf_of_portsOf hp) (.inr ⟨rfl, by simp [Dev.dozeBusy, h1]⟩)]
  exact ⟨h1, h2, hwp⟩
end

end Sys2Proof.Machine

/-! A port enters DOZE and leaves it (16 R546–R549, R644). -/

namespace Sys2Proof.Machine

-- One theorem at a time: side by side they ask for more memory than a check may have.
set_option Elab.async false

open Reg

/-! ## Retention banks -/

section
variable (s : Dev) {l : List Fld}

@[simp] theorem Dev.rim_retried : s.retried.rim = s.rim := s.retried_like.rim
@[simp] theorem Dev.rim_readWord (i : MemId) (w : Nat) (g : BitVec 72) : (s.readWord i w g).1.rim = s.rim := by
  unfold Dev.readWord
  simp only []
  split
  · rfl
  · simp
  · split <;> simp
@[simp] theorem Dev.view_readWord (i : MemId) (w : Nat) (g : BitVec 72) : (s.readWord i w g).1.view l = s.view l := by
  unfold Dev.readWord
  simp only []
  split
  · rfl
  · simp
  · split <;> simp

/-- What a read of a word keeps, a pass over a bank keeps. -/
theorem Dev.bankSign_keep {β : Type} {π : Dev → β} (h : ∀ s i w, π (Dev.readWord s i w).1 = π s) (b : Nat) :
    π (s.bankSign b).1 = π s := by
  unfold Dev.bankSign
  dsimp only
  refine (foldl_fst_keep (π := π) (fun a j => ?_) _ _)
  split <;> exact h _ _ _

@[simp] theorem Dev.rim_bankSign (b : Nat) : (s.bankSign b).1.rim = s.rim := s.bankSign_keep (fun s i w => s.rim_readWord i w _) b
@[simp] theorem Dev.view_bankSign (b : Nat) : (s.bankSign b).1.view l = s.view l :=
  s.bankSign_keep (fun s i w => s.view_readWord i w _) b

theorem Dev.waits_saveImage (p : Port) : (s.saveImage p).waits = s.waits := by
  unfold Dev.saveImage
  generalize List.range 256 = l
  exact Dev.each_keep (π := Dev.waits) (fun s k => s.write_waits _) l s

theorem Dev.waits_captureLost (p : Port) : (s.captureLost p).waits = s.waits := by
  unfold Dev.captureLost
  simp
end

theorem Dev.dozing_of_outer {a b : Dev} (h : a.outer = b.outer) : a.pwr.dozing = b.pwr.dozing :=
  (congrArg (fun d : Dev => d.pwr.dozing) h :)

section
variable {s : State} {p : Port}

theorem dozeEntryDone_dozes (hd : s.dev.pwr.dozing.get p = true) (h0 : (s.dev.prt p).link.stopping = none) (hw : s.dev.waits = []) :
    Answers (.dozeEntryDone p) s fun d => d.inDoze p = true ∧ d.linkState p = 6 ∧ d.pwr.dozing.get p = false ∧ d.get
      PWR_EVENTS_DOZE = 1 := by
  refine answers_of_run (rfl : _ = execDozeEntryDone p s) ?_
  have hd' : s.dev.fresh.pwr.dozing.get p = true := hd
  have h0' : (s.dev.fresh.prt p).link.stopping = none := h0
  have hw' : s.dev.fresh.waits = [] := hw
  generalize s.dev.fresh = t at hd' h0' hw'
  rw [if_pos ⟨hd', h0'⟩]
  dsimp only
  have hb : ((t.saveImage p).bankSign (40 + p)).1.waits = [] := by
    rw [Dev.waits_of_rim (Dev.rim_bankSign _ _)]
    rw [t.waits_saveImage p, hw']
  generalize (t.saveImage p).bankSign (40 + p) = r at hb
  generalize hu : Dev.modPwr (Dev.setDozing _ p false) _ = u
  have hu1 : u.waits = [] := by
    rw [← hu]
    exact hb
  have hu2 : u.pwr.dozing.get p = false := by
    rw [← hu]
    simp [Dev.setDozing, Vector.get_eq_getElem]
  have hv1 : ((u.each (u.group p) (·.testsEnd ·)).captureLost p).waits = [] := by
    rw [Dev.waits_captureLost, Dev.waits_of_rim (Dev.each_keep (π := Dev.rim) (fun s k => s.rim_testsEnd k) _ u), hu1]
  have hv2 : ((u.each (u.group p) (·.testsEnd ·)).captureLost p).pwr.dozing.get p = false := by
    have hk : (u.each (u.group p) (·.testsEnd ·)).outer = u.outer :=
      Dev.outer_of_rim (Dev.each_keep (π := Dev.rim) (fun s k => s.rim_testsEnd k) _ u)
    rw [Dev.dozing_of_ward (Dev.ward_captureLost _ p), Dev.dozing_of_outer hk, hu2]
  generalize (u.each (u.group p) (·.testsEnd ·)).captureLost p = v at hv1 hv2 ⊢
  have hw1 : ((v.putBit PWR_DOZE_IN_DOZE p true).linkTo p lsDoze).waits = [] := by
    rw [Dev.waits_of_ungated (Dev.ungated_linkTo ..)]
    exact hv1
  have hl := Dev.linkState_linkTo (v.putBit PWR_DOZE_IN_DOZE p true) p (st := lsDoze) (by decide)
  have hg := Dev.ward_linkTo (v.putBit PWR_DOZE_IN_DOZE p true) p lsDoze
  have hi : ((v.putBit PWR_DOZE_IN_DOZE p true).linkTo p lsDoze).inDoze p = true := by
    unfold Dev.inDoze Dev.getBit
    rw [Dev.inDoze_of_ward hg]
    exact v.getBit_putBit (f := PWR_DOZE_IN_DOZE) p.isLt true
  have hz : ((v.putBit PWR_DOZE_IN_DOZE p true).linkTo p lsDoze).pwr.dozing.get p = false := by
    rw [Dev.dozing_of_ward hg]
    exact hv2
  generalize (v.putBit PWR_DOZE_IN_DOZE p true).linkTo p lsDoze = e at hw1 hl hi hz
  have hc : (e.flag PWR_EVENTS_DOZE true).dozeChecks = e.flag PWR_EVENTS_DOZE true :=
    Dev.wakeAll_nothing (d := e.flag PWR_EVENTS_DOZE true) hw1 _ _ _
  rw [hc]
  have hl' : e.get (LPn_LINK_STATUS_LINK_STATE p) = 6 := hl
  unfold Dev.inDoze Dev.getBit at *
  simp (disch := decide) [hi, hz, hl', Dev.linkState]
end

/-! ## A port leaves DOZE -/

/-- A table's lookup does not see entries of other keys go. -/
theorem sget_filter {α : Type} (d : α) {q : Nat × α → Bool} {i : Nat} (h : ∀ v, q (i, v) = true) (l : Sparse α) :
    sget d (l.filter q) i = sget d l i := by
  induction l with
  | nil => rfl
  | cons e l ih =>
    by_cases hi : e.1 = i
    · have he : q e = true := by rw [← h e.2, ← hi]
      simp [he, sget, hi]
    · by_cases he : q e = true <;> simp [he, sget, hi, ih]

/-- A reset leaves a field that the test of its key does not pick out. -/
theorem Dev.get_regsReset (s : Dev) {goes : Fld → Bool} {f : Fld} (h : (fieldOfKey f.key).any goes = false) :
    (s.regsReset goes).get f = s.get f := sget_filter _ (fun v => by simp [h]) _

/-- The reset of a port's registers leaves what DOZE goes by. -/
theorem Dev.ward_regsReset (s : Dev) {goes : Fld → Bool} (h : ∀ f, goes f = true → 0x4000 ≤ f.off) : (s.regsReset goes).ward = s.ward := by
  have hn (f : Fld) (hf : f.off < 0x4000) : goes f = false := Bool.eq_false_iff.2 fun k => absurd (h f k) (by omega)
  have hr : fieldOfKey PWR_DOZE_REQ.key = some PWR_DOZE_REQ := by decide
  have hi : fieldOfKey PWR_DOZE_IN_DOZE.key = some PWR_DOZE_IN_DOZE := by decide
  unfold Dev.ward
  rw [s.get_regsReset (f := PWR_DOZE_REQ) (by rw [hr]; exact hn _ (by decide)),
    s.get_regsReset (f := PWR_DOZE_IN_DOZE) (by rw [hi]; exact hn _ (by decide))]
  rfl

section
variable (s : Dev) (p : Port)

theorem Dev.ward_iff {g : Dev → Dev} (h : ∀ s, (g s).ward = s.ward) (b : Bool) : (s.iff b g).ward = s.ward :=
  Dev.iff_keep (π := Dev.ward) (g := g) h b s
theorem Dev.ward_calRefresh : (s.calRefresh p).ward = s.ward := Dev.ward_of (by simp) (by simp (disch := decide))
theorem Dev.ward_ceilNone : (s.ceilNone p).ward = s.ward := Dev.ward_of (by simp) (s.view_ceilNone_of p (by decide))
theorem Dev.ward_mapDefault : (s.mapDefault p).ward = s.ward := Dev.ward_of (by simp) (by simp (disch := decide))
theorem Dev.ward_set {f : Fld} (h : f.lsb < 32 ∧ f.touched wardFlds = true) (v : Nat) : (s.set f v).ward = s.ward :=
  Dev.ward_of rfl (s.view_set_fld v h)

theorem Dev.ward_portClassP : (s.portClassP p).ward = s.ward := by
  refine s.ward_regsReset fun f h => ?_
  simp only [Bool.and_eq_true, decide_eq_true_eq] at h
  omega

theorem Dev.ward_portReset : (s.portReset p).ward = s.ward := by
  have ha (t : Dev) (v : Nat) : (t.set (LPn_TX_STATUS_TXS_A p) v).ward = t.ward :=
    t.ward_set ((by decide : ∀ p : Port, (LPn_TX_STATUS_TXS_A p).lsb < 32 ∧ (LPn_TX_STATUS_TXS_A p).touched wardFlds = true) p) v
  have hb (t : Dev) (v : Nat) : (t.set (LPn_TX_STATUS_TXS_B p) v).ward = t.ward :=
    t.ward_set ((by decide : ∀ p : Port, (LPn_TX_STATUS_TXS_B p).lsb < 32 ∧ (LPn_TX_STATUS_TXS_B p).touched wardFlds = true) p) v
  have hd (t : Dev) (v : Nat) : (t.set (LPn_TX_STATUS_DRV_EN p) v).ward = t.ward :=
    t.ward_set ((by decide : ∀ p : Port, (LPn_TX_STATUS_DRV_EN p).lsb < 32 ∧ (LPn_TX_STATUS_DRV_EN p).touched wardFlds = true) p) v
  have hm (t : Dev) (m : Mdio) : ({ t with mdio := m } : Dev).ward = t.ward := rfl
  unfold Dev.portReset
  dsimp only
  rw [Dev.ward_ceilNone, Dev.ward_txRefresh, Dev.ward_calRefresh, hm, Dev.ward_modPort]
  split
  · rw [List.map_cons, List.map_cons, List.map_cons, List.map_nil, Dev.each_cons, Dev.each_cons, Dev.each_cons, Dev.each_nil, hd, hb, ha,
      Dev.ward_portClassP]
  · exact s.ward_portClassP p

theorem Dev.ward_adcFresh (b : Bool) : (s.adcFresh p b).ward = s.ward := by
  unfold Dev.adcFresh
  rw [Dev.ward_calRefresh]
  exact Dev.each_keep (π := Dev.ward) (fun s x => s.ward_modPort p _) _ s

theorem Dev.ward_portBlank : (s.portBlank p).ward = s.ward := by
  unfold Dev.portBlank
  dsimp only
  rw [Dev.ward_adcFresh, Dev.ward_modPort]
  refine s.ward_regsReset fun f h => ?_
  simp only [Bool.and_eq_true, decide_eq_true_eq] at h
  omega

theorem Dev.ward_portLost : (s.portLost p).ward = s.ward := by
  have hf (t : Dev) : ((((t.flag (LPn_RX_EVENTS_TRIM_RESTORE_LOST p) true).flag (LPn_EQ_EVENTS_TAP_RESTORE_LOST p) true).flag
      (LPn_FD_EVENTS_ECHO_RESTORE_LOST p) true).flag (LPn_TX_EVENTS_TX_RESTORE_LOST p) true).ward = t.ward :=
    Dev.ward_of rfl (by simp (disch := decide))
  unfold Dev.portLost
  dsimp only
  rw [Dev.ward_mapDefault, Dev.ward_linkTo, hf, Dev.ward_portBlank, Dev.ward_ceilNone, Dev.ward_abortWaits]

theorem Dev.ward_stopped (k : StopKind) : (s.stopped p k).ward = s.ward := by
  have hd := s.ward_portDown p
  unfold Dev.stopped
  generalize s.portDown p = t at hd
  rw [← hd]
  cases k with
  | reset => exact (Dev.ward_wakeAll ..).trans (t.ward_portReset p)
  | mdioReset => exact (Dev.ward_modPort _ p _).trans ((Dev.ward_wakeAll ..).trans (t.ward_portReset p))
  | _ => exact t.ward_wakeAll ..

theorem Dev.ward_lanesTake (n : Nat) : (s.lanesTake p n).ward = s.ward := by
  have hl (t : Dev) (k : Lane) : ((t.set (HLn_STATUS_RATE k) n).modLane k fun h => { h with warm := none }).ward = t.ward :=
    Dev.ward_of rfl (by simp (disch := decide))
  refine (Dev.ward_of (Dev.outer_rateChange _ p n) (Dev.view_rateChange _ p n (by decide))).trans ?_
  exact Dev.each_keep (π := Dev.ward) hl _ s

theorem Dev.ward_portStarting : (s.portStarting p).ward = s.ward := by
  have ha (t : Dev) (x : Pair) : ((t.set (LPn_RXFE_STATUS_GAIN p x) 48).adaptTo p x adPreset).ward = t.ward :=
    Dev.ward_of (by simp) (by simp (disch := decide))
  have hs (t : Dev) : (t.set (LPn_ACQ_STATUS_ACQ_STATE p) 1).ward = t.ward := Dev.ward_of rfl (by simp (disch := decide))
  have ht (t : Dev) : (t.termRefresh p).ward = t.ward := Dev.ward_of (by simp) (by simp (disch := decide))
  have he (t : Dev) (l : List Pair) : (t.each l fun s x => (s.set (LPn_RXFE_STATUS_GAIN p x) 48).adaptTo p x adPreset).ward = t.ward :=
    Dev.each_keep (π := Dev.ward) ha l t
  unfold Dev.portStarting
  dsimp only
  rw [Dev.ward_linkTo]
  split
  · rw [Dev.ward_lanesTake, he, ht, Dev.modLink_eq, Dev.ward_modPort, hs, Dev.modTx_eq, Dev.ward_modPort]
  · rw [he, ht, Dev.modLink_eq, Dev.ward_modPort, hs, Dev.modTx_eq, Dev.ward_modPort]

theorem Dev.ward_portWake : (s.portWake p).ward = s.ward := by
  unfold Dev.portWake
  rw [Dev.ward_portStarting]
  refine Dev.each_keep (π := Dev.ward) (fun s x => ?_) _ s
  split
  · exact s.ward_modPort p _
  · rfl
theorem Dev.ward_flip (i : MemId) (w : Nat) (b : BitVec 72) : (s.flip i w b).ward = s.ward := by
  unfold Dev.flip
  split <;> rfl
theorem Dev.ward_bankFail (b : Nat) : (s.bankFail b).ward = s.ward := by
  have hi (t : Dev) (w : MemWrite) : (t.write w).ward = t.ward := rfl
  unfold Dev.bankFail
  dsimp only
  rw [Dev.flag_eq, Dev.ward_set _ (f := CHK_EVENTS_SIG_FAIL) (by decide)]
  split
  · rw [Dev.putBit_eq, Dev.ward_set _ (f := CHK_SIG_FAIL_LO_BANKS) (by decide), hi]
  · rw [Dev.putBit_eq, Dev.ward_set _ (f := CHK_SIG_FAIL_HI_BANKS) (by decide), hi]
theorem Dev.ward_bankSign (b : Nat) : (s.bankSign b).1.ward = s.ward := Dev.ward_of (Dev.outer_of_rim (s.rim_bankSign b)) (s.view_bankSign b)
theorem Dev.ward_checkBanks (l : List Nat) : (s.checkBanks l).1.ward = s.ward := by
  unfold Dev.checkBanks
  refine foldl_fst_keep (π := Dev.ward) (fun a b => ?_) _ _
  have hb := a.1.ward_bankSign b
  dsimp only
  generalize a.1.bankSign b = r at hb
  split
  · exact hb
  · exact (Dev.ward_bankFail _ b).trans hb
theorem Dev.ward_bankMark : (s.bankMark (40 + p.val)).ward = s.ward := by
  have hf (t : Dev) (a b c : Nat) (l : List Byte) : (t.logRaw a b c l).ward = t.ward :=
    Dev.ward_of (Dev.outer_of_rim (t.rim_logRaw a b c l)) (t.view_logRaw _ a b c l)
  unfold Dev.bankMark
  dsimp only
  rw [hf]
  refine (Dev.ward_set _ (by decide) _).trans ?_
  rw [if_neg (by omega), if_neg (by omega), if_neg (by omega), if_neg (by omega), if_neg (by omega)]
  exact s.ward_set (by decide) _
end

section
variable {s : State} {p : Port} {l : List Upset}

theorem dozeWakeDone_leaves (hw : s.dev.pwr.waking.get p = true)
    (h0 : s.dev.inDoze p = true ∨ (s.dev.prt p).link.stopping = none) (hq : s.dev.getBit PWR_DOZE_REQ p = false)
    (hr : s.dev.sys.restart = none) :
    Answers (.dozeWakeDone p l) s fun d => d.inDoze p = false ∧ d.pwr.waking.get p = false := by
  refine answers_of_run (rfl : _ = execDozeWakeDone p l s) ?_
  have hw' : s.dev.fresh.pwr.waking.get p = true := hw
  have h0' : s.dev.fresh.inDoze p = true ∨ (s.dev.fresh.prt p).link.stopping = none := h0
  have hq' : s.dev.fresh.getBit PWR_DOZE_REQ p = false := hq
  have hr' : s.dev.fresh.sys.restart = none := hr
  generalize s.dev.fresh = d at hw' h0' hq' hr'
  extract_lets was bank d1 lost0 r lost d2 started again d3 d4 d5 stop d6 d7 d8 d9
  rw [if_pos ⟨hw', h0'⟩]
  have h1 : d1.ward = d.ward := Dev.ward_iff _ (fun t => Dev.each_keep (π := Dev.ward) (fun t u => t.ward_flip _ _ _) _ t) _
  have hr1 : r.1.ward = d.ward := by
    rw [← h1]
    simp only [r]
    split
    · exact d1.ward_checkBanks _
    · rfl
  have h2 : d2.ward = d.ward := (Dev.ward_iff _ (fun t => t.ward_bankMark p) _).trans hr1
  have ha : again = false := by
    rw [← hq']
    exact congrArg (fun n => bitOf n p) (Dev.asked_of_ward h2)
  have h3 : d3.getBit PWR_DOZE_IN_DOZE p = false := by
    have hb := d2.getBit_putBit (f := PWR_DOZE_IN_DOZE) p.isLt false
    have hg : d3.get PWR_DOZE_IN_DOZE = (d2.putBit PWR_DOZE_IN_DOZE p false).get PWR_DOZE_IN_DOZE := by
      simp (disch := decide) [d3]
    unfold Dev.getBit at hb ⊢
    rw [hg, hb]
  have h4 : d4.getBit PWR_DOZE_IN_DOZE p = false ∧ d4.pwr.waking.get p = false ∧ d4.sys = d.sys :=
    ⟨h3, by simp [d4, Vector.get_eq_getElem], (Dev.sys_of_ward h2 :)⟩
  have h5 : d5.ward = d4.ward := Dev.ward_iff _ (fun t => (Dev.ward_linkTo _ p _).trans (t.ward_captureLost p)) _
  have h6 : d6.ward = d4.ward := (Dev.ward_iff _ (fun t => t.ward_portLost p) _).trans h5
  have h7 : d7.ward = d4.ward := by
    rw [← h6]
    clear_value d6 stop
    cases stop with
    | some k => exact d6.ward_stopped p k
    | none =>
      change (if (started && !lost && (d6.prt p).link.cfgMode != 0) = true then d6.portWake p else d6).ward = d6.ward
      split
      · exact d6.ward_portWake p
      · rfl
  have h8 : d8.ward = d4.ward := d7.ward_dozeChecks.trans h7
  have h9 : d9 = d8 := by
    simp only [d9, ha]
    rfl
  rw [h9]
  clear_value d4 d8
  obtain ⟨hi, hk, hs⟩ := h4
  rw [Dev.softAdvance_none (by rw [Dev.sys_of_ward h8, hs, hr'])]
  refine ⟨?_, ?_⟩
  · rw [← hi]
    exact congrArg (fun n => bitOf n p) (Dev.inDoze_of_ward h8)
  · rw [← hk]
    exact congrArg (fun v : Vector Bool 8 => v.get p) (Dev.waking_of_ward h8)
end

/-- Settles O37, clause by clause. -/
theorem powerVotesAndDoze : Obligations.PowerVotesAndDoze :=
  ⟨fun _ _ ha hv => powerVoteHold_holds ha hv,
   fun _ _ ha => powerVoteRelease_releases ha,
   fun _ _ ha ht => powerVoteEnter_waits ha ht,
   fun _ _ hw h0 hv => powerVoteEnterTimeout_refuses hw h0 hv,
   fun _ _ _ ha hp hf hb _ h0 hw => powerVoteDoze_begins ha hp hf hw hb h0,
   fun _ _ hd h0 hw => dozeEntryDone_dozes hd h0 hw,
   fun _ _ _ ha hp hf hd hw => powerVoteWake_begins ha hp hf hw hd,
   fun _ _ _ hw h0 hq hr => dozeWakeDone_leaves hw h0 hq hr,
   fun _ _ _ _ _ hw hc => powerVoteDozeTimeout_ends hw hc,
   fun _ _ ha hl ho _ => powerStats_reports ha hl ho,
   fun _ h => coreHalt_halts h,
   fun _ h => coreRun_runs h⟩

end Sys2Proof.Machine

/-! The sizes of the rings: no operation but the creation of a ring and its end changes which rings are enabled (13 R448). -/

namespace Sys2Proof.Machine

-- One theorem at a time: side by side they ask for more memory than a check may have.
set_option Elab.async false

open Reg

/-- The sizes of the rings, as their contexts hold them. -/
def Dev.sizes (s : Dev) (r : Nat) : Nat := (s.ring r).sizeLog2

section
variable (s : Dev)

@[simp] theorem Dev.sizes_set (f : Fld) (v : Nat) : (s.set f v).sizes = s.sizes := rfl
@[simp] theorem Dev.sizes_modPort (p : Port) (g : PortSt → PortSt) : (s.modPort p g).sizes = s.sizes := rfl
@[simp] theorem Dev.sizes_modLane (l : Lane) (g : HLane → HLane) : (s.modLane l g).sizes = s.sizes := rfl
@[simp] theorem Dev.sizes_modPwr (g : Pwr → Pwr) : (s.modPwr g).sizes = s.sizes := rfl
@[simp] theorem Dev.sizes_modSys (g : Sys → Sys) : (s.modSys g).sizes = s.sizes := rfl
@[simp] theorem Dev.sizes_modEvr (g : Evr → Evr) : (s.modEvr g).sizes = s.sizes := rfl
@[simp] theorem Dev.sizes_modGov (g : Gov → Gov) : (s.modGov g).sizes = s.sizes := rfl
@[simp] theorem Dev.sizes_modCtr (g : Ctrs → Ctrs) : (s.modCtr g).sizes = s.sizes := rfl
@[simp] theorem Dev.sizes_waits (w : List (WaitKind × Desc)) : ({ s with waits := w } : Dev).sizes = s.sizes := rfl
@[simp] theorem Dev.sizes_park (k : WaitKind) (d : Desc) : (s.park k d).sizes = s.sizes := rfl
@[simp] theorem Dev.sizes_write (w : MemWrite) : (s.write w).sizes = s.sizes := rfl
@[simp] theorem Dev.sizes_putWord (i : MemId) (w : Nat) (x : MWord) : (s.putWord i w x).sizes = s.sizes := rfl
@[simp] theorem Dev.sizes_ite (c : Prop) [Decidable c] (a b : Dev) : (if c then a else b).sizes = if c then a.sizes else b.sizes :=
  apply_ite Dev.sizes c a b
@[simp] theorem Dev.sizes_iff (b : Bool) (g : Dev → Dev) : (s.iff b g).sizes = if b then (g s).sizes else s.sizes := by
  cases b <;> rfl

theorem Dev.sizes_each {α : Type} {g : Dev → α → Dev} (h : ∀ s x, (g s x).sizes = s.sizes) (l : List α) : (s.each l g).sizes = s.sizes :=
  Dev.each_keep (π := Dev.sizes) h l s

theorem Dev.sizes_hostWrite (a : Nat) (b : List Byte) : (s.hostWrite a b).sizes = s.sizes :=
  s.sizes_each (fun s _ => s.sizes_write _) _
theorem Dev.sizes_ramWords (a : Nat) (b : List Byte) : (s.ramWords a b).sizes = s.sizes :=
  s.sizes_each (fun s _ => s.sizes_putWord _ _ _) _

/-- A context changes that keeps its ring's size. -/
theorem Dev.sizes_setRing {r : Nat} {c : RingCtx} (h : c.sizeLog2 = (s.ring r).sizeLog2) : (s.setRing r c).sizes = s.sizes := by
  refine (Dev.sizes_each _ (fun s k => ?_) _).trans ?_
  · split <;> rfl
  · funext q
    by_cases hq : r = q
    · subst hq
      simpa [Dev.sizes, Dev.ring] using h
    · simp [Dev.sizes, Dev.ring, sget_sput_ne _ _ _ hq]

/-! ## Signals, counters and completions -/

theorem Dev.sizes_signalMsix (v : Nat) : (s.signalMsix v).sizes = s.sizes := by
  unfold Dev.signalMsix
  split
  · simp only []
    split <;> rfl
  · rfl

theorem Dev.sizes_signalPin (v : Nat) : (s.signalPin v).sizes = s.sizes := by
  unfold Dev.signalPin
  split <;> rfl

theorem Dev.sizes_signalRing (o v : Nat) : (s.signalRing o v).sizes = s.sizes := by
  unfold Dev.signalRing
  split
  · exact s.sizes_signalMsix v
  · exact s.sizes_signalPin v

@[simp] theorem Dev.sizes_signal (v : Nat) : (s.signal v).sizes = s.sizes := by
  simp [Dev.signal, Dev.sizes_signalMsix, Dev.sizes_signalPin]

theorem Dev.sizes_fireCapture (p : Port) (k : Nat) : (s.fireCapture p k).sizes = s.sizes := by
  unfold Dev.fireCapture
  split <;> rfl

theorem Dev.sizes_ctrSample (m : Nat) (z : Bool) : (s.ctrSample m z).sizes = s.sizes := by
  unfold Dev.ctrSample
  simp only []
  split <;> rfl

theorem Dev.sizes_ctrOverflow (m : Nat) : (s.ctrOverflow m).sizes = s.sizes := by
  unfold Dev.ctrOverflow
  refine (Dev.sizes_each _ (fun s p => Dev.iff_keep (π := Dev.sizes) (fun s => s.sizes_fireCapture p 6) _ s) _).trans ?_
  refine (Dev.iff_keep (π := Dev.sizes) (fun s => s.sizes_signal _) _ _).trans ?_
  refine (Dev.iff_keep (π := Dev.sizes) (fun s => s.sizes_ctrSample _ _) _ _).trans ?_
  simp

theorem Dev.sizes_ctrAdd (m n : Nat) : (s.ctrAdd m n).sizes = s.sizes := by
  unfold Dev.ctrAdd
  split
  · rfl
  · simp [Dev.setCtrValue, Dev.sizes_ctrOverflow]

@[simp] theorem Dev.sizes_count (c i n : Nat) : (s.count c i n).sizes = s.sizes :=
  s.sizes_each (fun s m => by
    split
    · exact s.sizes_ctrAdd m n
    · rfl) _

theorem Dev.sizes_sample (c i q : Nat) : (s.sample c i q).sizes = s.sizes :=
  s.sizes_each (fun s m => by
    simp only
    split
    · split
      · exact s.sizes_ctrAdd m _
      · split
        · exact s.sizes_ctrAdd m _
        · rfl
      · split
        · exact s.sizes_ctrAdd m _
        · rfl
      · exact s.sizes_ctrAdd m _
      · rfl
    · rfl) _

theorem Dev.sizes_putEntry (r : Nat) (e : Bool → List Byte) : (s.putEntry r e).sizes = s.sizes := by
  unfold Dev.putEntry
  simp only []
  split
  · refine (Dev.sizes_setRing _ ?_).trans (s.sizes_hostWrite _ _)
    exact (congrFun (s.sizes_hostWrite _ _) r).symm
  · refine (Dev.sizes_setRing _ ?_).trans (s.sizes_ramWords _ _)
    exact (congrFun (s.sizes_ramWords _ _) r).symm

theorem Dev.sizes_coalesce (r : Nat) : (s.coalesce r).sizes = s.sizes := by
  unfold Dev.coalesce
  simp only []
  split
  · exact (Dev.sizes_signalRing _ _ _).trans (s.sizes_setRing rfl)
  · exact s.sizes_setRing rfl

theorem Dev.sizes_writeCpl (r : Nat) (c : Cpl) : (s.writeCpl r c).sizes = s.sizes :=
  (Dev.sizes_coalesce _ r).trans (s.sizes_putEntry r _)

theorem Dev.sizes_postCpl (r : Nat) (c : Cpl) : (s.postCpl r c).sizes = s.sizes := by
  unfold Dev.postCpl
  simp only []
  split
  · rfl
  · split
    · rfl
    · exact s.sizes_writeCpl r c

@[simp] theorem Dev.sizes_finish (d : Desc) (st r : Nat) : (s.finish d st r).sizes = s.sizes := by
  have hl (t : Dev) (c : Option (Nat × Cpl)) : ({ t with lastCpl := c } : Dev).sizes = t.sizes := rfl
  unfold Dev.finish
  refine (Dev.sizes_sample _ _ _ _).trans ((Dev.sizes_count _ _ _ _).trans ?_)
  refine (hl _ _).trans ?_
  cases (s.ring d.ring).live
  · rw [Dev.iff_false]
  · rw [Dev.iff_true]
    refine (Dev.iff_keep (π := Dev.sizes) (fun s => s.sizes_postCpl _ _) _ _).trans (s.sizes_setRing ?_)
    rfl

/-! ## Events -/

theorem Dev.sizes_notice (t : Transport) (sev source seq : Nat) : (s.notice t sev source seq).sizes = s.sizes := by
  unfold Dev.notice
  split
  · rfl
  · split
    · rfl
    · simp only []
      split
      · exact (Dev.sizes_writeCpl _ _ _).trans rfl
      · split <;> rfl

theorem Dev.sizes_trace (source bit sev cat : Nat) (ev : Bool) (l : List Byte) : (s.trace source bit sev cat ev l).sizes = s.sizes :=
  (Dev.sizes_set _ _ _).trans (s.sizes_each (fun s _ => s.sizes_putWord _ _ _) _)

theorem Dev.sizes_buffer (r : EvRec) : (s.buffer r).sizes = s.sizes := by
  unfold Dev.buffer
  simp only []
  split
  · rfl
  · split
    · rfl
    · split <;> rfl

theorem Dev.sizes_logRec (r : EvRec) : (s.logRec r).sizes = s.sizes := by
  unfold Dev.logRec
  dsimp only
  rw [Dev.sizes_iff, Dev.sizes_modEvr, ite_self]
  refine (Dev.sizes_each _ (fun s _ => s.sizes_notice _ _ _ _) _).trans ((Dev.sizes_trace _ _ _ _ _ _ _).trans ?_)
  exact (Dev.sizes_buffer _ _).trans (s.sizes_set _ _)

@[simp] theorem Dev.sizes_logRaw (a b c : Nat) (l : List Byte) : (s.logRaw a b c l).sizes = s.sizes := by
  unfold Dev.logRaw
  split
  · rfl
  · exact s.sizes_logRec _

@[simp] theorem Dev.sizes_log (f : Fld) (v : Nat) (l : List Byte) : (s.log f v l).sizes = s.sizes := s.sizes_logRaw _ _ _ _
end

end Sys2Proof.Machine

/-! The ends of the admin pair (13 R453, R472): what they leave of the rings. -/

namespace Sys2Proof.Machine

-- One theorem at a time: side by side they ask for more memory than a check may have.
set_option Elab.async false

open Reg

section
variable (s : Dev)

/-! ## Words, and descriptors that wait -/

@[simp] theorem Dev.sizes_correctable (i : MemId) (w : Nat) (y : BitVec 8) : (s.correctable i w y).sizes = s.sizes := by
  simp [Dev.correctable]
@[simp] theorem Dev.sizes_lasting (i : MemId) (w : Nat) (y : BitVec 8) : (s.lasting i w y).sizes = s.sizes := by
  simp [Dev.lasting]
@[simp] theorem Dev.sizes_mergeWord (i : MemId) (w k : Nat) (b : List Byte) : (s.mergeWord i w k b).1.sizes = s.sizes := by
  unfold Dev.mergeWord
  dsimp only
  split <;> simp
@[simp] theorem Dev.sizes_putData (d : Desc) (off : Nat) (b : List Byte) : (s.putData d off b).1.sizes = s.sizes := by
  unfold Dev.putData
  split
  · rfl
  · split
    · exact s.sizes_hostWrite _ _
    · exact s.writeMem_keep (fun s => s.sizes_mergeWord) (fun s => s.sizes_putWord) _ _ _
@[simp] theorem Dev.sizes_wakeOne (k : WaitKind) (st r : Nat) : (s.wakeOne k st r).sizes = s.sizes := by
  unfold Dev.wakeOne
  split
  · rfl
  · exact (Dev.sizes_finish _ _ _ _).trans (s.sizes_waits _)
@[simp] theorem Dev.sizes_wakeAll (f : WaitKind → Bool) (st : Nat) (r : WaitKind → Nat) : (s.wakeAll f st r).sizes = s.sizes :=
  (Dev.sizes_each _ (fun s _ => s.sizes_finish _ _ _) _).trans (s.sizes_waits _)

/-! ## Entry to a link state -/

variable (p : Port) (x : Pair)

@[simp] theorem Dev.sizes_lmcTell (typ : Nat) (b : List Byte) : (s.lmcTell p typ b).sizes = s.sizes := by
  unfold Dev.lmcTell
  split <;> rfl
theorem Dev.sizes_lfBegin : (s.lfBegin p).sizes = s.sizes := by simp [Dev.lfBegin]
@[simp] theorem Dev.sizes_eligRefresh : (s.eligRefresh p).sizes = s.sizes := rfl
@[simp] theorem Dev.sizes_txRefresh (b : Bool) : (s.txRefresh p b).sizes = s.sizes := by
  have hp (t : Dev) (x : Pair) : (t.txPut p x).sizes = t.sizes := rfl
  obtain ⟨c, e, h⟩ := s.txRefresh_eq p b
  simp [h, Dev.sizes_lfBegin, hp]
theorem Dev.sizes_hostLossBegin : (s.hostLossBegin p).sizes = s.sizes := by simp [Dev.hostLossBegin]
@[simp] theorem Dev.sizes_groupLost : (s.groupLost p).sizes = s.sizes := by
  have hl (t : Dev) (k : Lane) : (t.laneLost k).sizes = t.sizes := by simp [Dev.laneLost]
  have hn (t : Dev) : (t.noteLost p).sizes = t.sizes := rfl
  simp [Dev.groupLost_eq, Dev.sizes_hostLossBegin, hn, Dev.each_keep (π := Dev.sizes) hl]
@[simp] theorem Dev.sizes_laneClockLost (k : Lane) : (s.laneClockLost k).sizes = s.sizes := by
  unfold Dev.laneClockLost
  split <;> rfl
theorem Dev.sizes_laneTxPut (k : Lane) : (s.laneTxPut k).sizes = s.sizes := by simp [Dev.laneTxPut, Dev.laneTx]
theorem Dev.sizes_laneRxPut (k : Lane) : (s.laneRxPut k).sizes = s.sizes := by
  unfold Dev.laneRxPut
  cases s.groupOf k <;> simp
theorem Dev.sizes_groupRefresh : (s.groupRefresh p).sizes = s.sizes :=
  s.sizes_each (fun s k => by rw [Dev.laneRefresh_eq, Dev.sizes_laneRxPut, Dev.sizes_laneTxPut]) _
theorem Dev.sizes_calRefresh : (s.calRefresh p).sizes = s.sizes := (congrArg Dev.sizes (s.calRefresh_onlyRegs p) :)
theorem Dev.sizes_slackRefresh : (s.slackRefresh p).sizes = s.sizes :=
  s.sizes_each (fun s b => by
    unfold Dev.slackRefreshOne
    split
    · exact Dev.sizes_set ..
    · exact (Dev.sizes_set ..).trans (Dev.sizes_modGov ..)) _
@[simp] theorem Dev.sizes_linkTo (st : Nat) : (s.linkTo p st).sizes = s.sizes := by
  unfold Dev.linkTo
  dsimp only
  rw [Dev.sizes_eligRefresh, Dev.sizes_slackRefresh, Dev.sizes_calRefresh, Dev.sizes_groupRefresh, Dev.sizes_txRefresh]
  simp

/-! ## A start -/

@[simp] theorem Dev.sizes_adaptTo (st : Nat) : (s.adaptTo p x st).sizes = s.sizes := by
  simp [Dev.adaptTo, Dev.echoFollow, Dev.eqPreset, Dev.eqShape, Dev.putTaps, Dev.freezeRefresh]
theorem Dev.sizes_laneToRate (n : Nat) (k : Lane) : (s.laneToRate n k).sizes = s.sizes := by simp [Dev.laneToRate, Dev.testsEnd]
@[simp] theorem Dev.sizes_rateChange (n : Nat) : (s.rateChange p n).sizes = s.sizes := by
  unfold Dev.rateChange
  dsimp only
  split
  · rfl
  · refine (Dev.sizes_log _ _ _ _).trans ?_
    exact (Dev.sizes_each _ (fun s k => s.sizes_laneToRate n k) _).trans (s.sizes_groupLost p)
@[simp] theorem Dev.sizes_lanesTake (n : Nat) : (s.lanesTake p n).sizes = s.sizes :=
  (Dev.sizes_rateChange _ p n).trans (s.sizes_each (fun s _ => (Dev.sizes_modLane _ _ _).trans (s.sizes_set _ _)) _)
theorem Dev.sizes_txStartTaps : (s.txStartTaps p).sizes = s.sizes :=
  (Dev.sizes_each _ (fun s x => by simp) _).trans (s.sizes_set _ _)
theorem Dev.sizes_readSettings : (s.readSettings p).sizes = s.sizes := (Dev.sizes_txStartTaps _ p).trans rfl

theorem Dev.sizes_portStarting : (s.portStarting p).sizes = s.sizes := by
  have ha (t : Dev) (x : Pair) : ((t.set (LPn_RXFE_STATUS_GAIN p x) 48).adaptTo p x adPreset).sizes = t.sizes := by simp
  have ht (t : Dev) : (t.termRefresh p).sizes = t.sizes := rfl
  have he (t : Dev) (l : List Pair) : (t.each l fun s x => (s.set (LPn_RXFE_STATUS_GAIN p x) 48).adaptTo p x adPreset).sizes = t.sizes :=
    t.sizes_each ha l
  unfold Dev.portStarting
  dsimp only
  rw [Dev.sizes_linkTo]
  split <;> simp [he, ht]

theorem Dev.sizes_setHybrid (r c : Nat) : (s.setHybrid p x r c).sizes = s.sizes := (Dev.sizes_set _ _ _).trans (s.sizes_set _ _)

theorem Dev.sizes_portStartGo : (s.portStartGo p).sizes = s.sizes := by
  unfold Dev.portStartGo
  dsimp only
  rw [Dev.sizes_portStarting]
  refine (Dev.sizes_each _ (fun s x => ?_) _).trans ?_
  · split
    · exact s.sizes_setHybrid p x _ _
    · split
      · split
        · exact s.sizes_setHybrid p x _ _
        · rfl
      · rfl
  · simp [Dev.sizes_readSettings]

theorem Dev.sizes_startAndWait (d : Desc) : (s.startAndWait p d).sizes = s.sizes := by
  have hg (b : Bool) : (s.iff b (·.portStartGo p)).sizes = s.sizes :=
    Dev.iff_keep (π := Dev.sizes) (g := fun s => s.portStartGo p) (fun s => s.sizes_portStartGo p) b s
  unfold Dev.startAndWait
  dsimp only
  have h := hg (s.linkState p == 0 || s.linkState p == 7)
  generalize s.iff _ _ = t at h ⊢
  split
  · exact (t.sizes_park _ _).trans h
  · exact (t.sizes_finish _ _ _).trans h

theorem Dev.sizes_probeEnded : (s.probeEnded p).sizes = s.sizes := by
  have hw (t : Dev) (w : WaitKind × Desc) : (t.startAndWait p w.2).sizes = t.sizes := t.sizes_startAndWait p w.2
  unfold Dev.probeEnded
  dsimp only
  rw [Dev.sizes_each _ hw]
  rfl

/-! ## The end of a ring -/

theorem Dev.sizes_eyeEnd (st : Nat) : (s.eyeEnd p x st).sizes = s.sizes := by
  unfold Dev.eyeEnd
  split
  · rfl
  · exact (Dev.sizes_wakeOne ..).trans ((Dev.sizes_putData ..).trans (s.sizes_modPort p _))
theorem Dev.sizes_captureAbort : (s.captureAbort p).sizes = s.sizes := by simp [Dev.captureAbort]
theorem Dev.sizes_cycleDrop : (s.cycleDrop p).sizes = s.sizes := s.sizes_each (fun s _ => s.sizes_modPort p _) _
theorem Dev.sizes_abandon (w : WaitKind) : (s.abandon w).sizes = s.sizes := by
  cases w with
  | eyeScan p x => exact s.sizes_eyeEnd p x _
  | capture p => exact s.sizes_captureAbort p
  | adcCycle p => exact s.sizes_cycleDrop p
  | _ => rfl

/-- The end of a ring's descriptors leaves every ring. -/
theorem Dev.sizes_endRing (r st : Nat) : (s.endRing r st).sizes = s.sizes := by
  have ha (t : Dev) (w : WaitKind × Desc) : (t.abandon w.1).sizes = t.sizes := t.sizes_abandon w.1
  have h := s.sizes_each ha (s.waits.filter fun w => w.2.ring.val == r)
  unfold Dev.endRing
  dsimp only
  generalize s.each _ _ = t at h ⊢
  refine (Dev.sizes_each _ (fun s w => ?_) _).trans ?_
  · split
    · exact s.sizes_probeEnded _
    · rfl
  · refine (Dev.sizes_each _ (fun s w => ?_) _).trans ?_
    · rw [Dev.sizes_finish]
    · rw [Dev.sizes_waits, h]

/-- A ring that is turned off is not live, and every other ring stays. -/
theorem Dev.sizes_ringOff (r q : Nat) : (s.ringOff r).sizes q = if q = r then 0 else s.sizes q := by
  unfold Dev.ringOff
  generalize e : s.setRing r {} = t
  change (t.ring q).sizeLog2 = _
  rw [← e]
  split
  next h => rw [h, Dev.ring_setRing_self]
  next h => exact congrArg RingCtx.sizeLog2 (s.ring_setRing_ne _ (Ne.symm h))

theorem Dev.sizes_ringDestroyed (r q : Nat) : (s.ringDestroyed r).1.sizes q = if q = r then 0 else s.sizes q := by
  have h := s.sizes_endRing r stAborted
  unfold Dev.ringDestroyed
  generalize s.endRing r stAborted = t at h ⊢
  dsimp only
  split
  · exact (t.sizes_ringOff r q).trans (by rw [h])
  · exact s.sizes_ringOff r q
end

end Sys2Proof.Machine

/-! Register accesses with a row of their own (13 R453): the admin pair disabled, and the obligation assembled. -/

namespace Sys2Proof.Machine

-- One theorem at a time: side by side they ask for more memory than a check may have.
set_option Elab.async false

open Reg

variable {s : State} {t : Transport} {v : BitVec 32}

/-- ENABLE written from 1 to 0: both rings of the admin pair are gone. -/
theorem Dev.adminWritten_ends {d : Dev} (he : d.get GLB_ADMIN_CTRL_ENABLE = 0) :
    (d.adminWritten true).get GLB_ADMIN_STATUS_READY = 0 ∧ ((d.adminWritten true).ring 0).live = false ∧
    ((d.adminWritten true).ring 1).live = false := by
  have hn : d.on GLB_ADMIN_CTRL_ENABLE = false := by simp [Dev.on, he]
  have h0 := (d.ringDestroyed 0).1.sizes_ringDestroyed 1 0
  have h1 := (d.ringDestroyed 0).1.sizes_ringDestroyed 1 1
  have hz := d.sizes_ringDestroyed 0 0
  have hd : d.adminWritten true = (((d.ringDestroyed 0).1.ringDestroyed 1).1.flag GLB_ADMIN_STATUS_READY false) := by
    unfold Dev.adminWritten
    dsimp only
    rw [hn, if_neg (by decide), if_pos (by decide)]
  rw [hd]
  rw [if_neg (by decide), hz, if_pos rfl] at h0
  rw [if_pos rfl] at h1
  generalize ((d.ringDestroyed 0).1.ringDestroyed 1).1 = e at h0 h1 ⊢
  have hl {q : Nat} (h : e.sizes q = 0) : ((e.flag GLB_ADMIN_STATUS_READY false).ring q).live = false :=
    congrArg (· != 0) h
  exact ⟨by simp, hl h0, hl h1⟩

theorem adminDisable_disables (h : s.dev.Serving t) (h1 : s.dev.get GLB_ADMIN_CTRL_ENABLE = 1)
    (h0 : fieldAfter GLB_ADMIN_CTRL_ENABLE 0 v.toNat = 0) : Answers (.adminDisable t v) s fun d =>
    d.get GLB_ADMIN_STATUS_READY = 0 ∧ (d.ring 0).live = false ∧ (d.ring 1).live = false := by
  refine answers_of_fieldWrite GLB_ADMIN_CTRL_ENABLE h (rfl : _ = execAdminDisable t v s) (by decide) ?_
  have hr (w u : Dev) : w.regWritten u GLB_ADMIN_CTRL_ENABLE.off v.toNat = w.adminWritten (u.on GLB_ADMIN_CTRL_ENABLE) := by
    unfold Dev.regWritten
    rw [if_neg (by decide), if_neg (by decide), if_neg (by decide)]
    rfl
  have hon : (s.dev.fresh.served t).on GLB_ADMIN_CTRL_ENABLE = true := by
    simp [Dev.on, Dev.get_served, h1]
  have we := (s.dev.fresh.served t).get_written v.toNat (f := GLB_ADMIN_CTRL_ENABLE) (by decide) rfl
  rw [hr, hon]
  generalize (s.dev.fresh.served t).written GLB_ADMIN_CTRL_ENABLE.off v.toNat = w at we ⊢
  have := Dev.adminWritten_ends (we.trans h0)
  generalize w.adminWritten true = d at this ⊢
  exact this

/-- Settles O30, clause by clause. -/
theorem registerWriteCommands : Obligations.RegisterWriteCommands :=
  ⟨fun _ _ _ _ h h4 hw => latchedLoRead_latches h h4 hw,
    fun _ _ h ho => latchedLoRead_msix h ho,
    fun _ _ _ _ h => gainModeWrite_stands h,
    fun _ _ _ _ h hb => adcCalHoldWrite_stands h hb,
    fun _ _ _ _ h => swFreezeWrite_stands h,
    fun _ _ _ _ h => lullEnClear_stands h,
    fun _ _ _ _ h hc => fecCounterClear_clears h hc,
    fun _ _ _ _ h h0 h1 => rxFreezeWrite_freezes h h0 h1,
    fun s t l x v h => match x with
      | true => hostTxTapWrite_takes (f := HLn_TX_POST_POST1 l) h (rfl : _ = execHostTxTapWrite t l true v s)
          (by revert l; decide) (by revert l; decide) (.inr rfl)
      | false => hostTxTapWrite_takes (f := HLn_TX_FFE_MAIN l) h (rfl : _ = execHostTxTapWrite t l false v s)
          (by revert l; decide) (by revert l; decide) (.inl rfl),
    fun _ _ _ _ h hc => auxClearWrite_moves h hc,
    fun _ _ _ _ h hb => chkValueCommit_commits h hb,
    fun _ _ _ hc hb he hp h0 hs hv => wakeReqWrite_wakes hc hb he hp h0 hs hv,
    fun _ _ _ h h0 h1 hn hm ho hb => adminEnable_enables h h0 h1 ⟨hn.1, hn.2, hm.1, hm.2⟩ ho hb,
    fun _ _ _ h h1 h0 => adminDisable_disables h h1 h0,
    fun _ _ _ h hv => evrCursorWrite_moves h hv,
    fun _ _ h => evrWin15Read_moves h⟩

end Sys2Proof.Machine
